-- ==== Sys2Proof/Syntax.lean ====
section
/-! DEFINITION. The commands of the block: one constructor of Instr per row of the spec's table of operations and events,
with the operands the spec gives each, and the shapes of those operands. -/

namespace Sys2Proof

/-- A part of a 64-bit register that one access covers: the whole, a half (R1047), or bytes that are neither (R1049), by a mask of eight bits. -/
inductive Part where
  | full | low | high | bytes (enables : Nat)
  deriving DecidableEq, Repr

/-- The boundaries at which a buffered write takes effect (R112). -/
inductive Boundary where
  | packet | frame | gateCycle | tableCycle | windowBarrier
  deriving DecidableEq, Repr

/-- What the host configures in a function, and on a PF for its port, as it enumerates (R121, R124, R132, R230): ATS, PRI with its page request
allocation, AtomicOps, the Max Payload Size and Max Read Request Size in bytes, whether 256 B flits are latency-optimised, and where it places
the HDM decoder of R132. -/
structure HostCfg where
  ats : Bool := false
  pri : Bool := false
  priAlloc : Nat := 256
  atomicOp : Bool := false
  mps : Nat := 128
  mrrs : Nat := 512
  lowLatency : Bool := false
  hdm : Option Nat := none
  deriving DecidableEq, Repr

/-- A time beacon (R81). -/
structure Beacon where
  version : Nat := 1
  kind : Nat := 1
  locked : Bool := false
  holdover : Bool := false
  master : Bool := false
  ref : Bool := false
  hops : Nat := 255
  seq : Nat := 0
  node : Nat := 0
  prio : Nat := 0
  echoSeq : Nat := 0
  txTime : Word := 0
  echoTx : Word := 0
  echoRx : Word := 0
  deriving DecidableEq, Repr

/-- The kinds of IEEE 1588 message that the ordinary clock of R78 meets. -/
inductive PtpKind where
  | announce | sync | syncTwoStep | followUp | delayReq | delayResp | pdelayReq | pdelayResp | pdelayFollowUp | management | signaling
  deriving DecidableEq, Repr

/-- An IEEE 1588 message on the management port (R78). Times are in ns of the PTP timescale; `key` is the
announced data set in the order the best master clock algorithm compares it, `source` the sender's port identity, and `mine` tells a response to
this clock's own request. -/
structure PtpMsg where
  kind : PtpKind
  domain : Nat := 0
  transport : Nat := 1
  key : List Nat := []
  source : Nat := 0
  mine : Bool := true
  seq : Nat := 0
  originNs : Int := 0
  rxNs : Int := 0
  deriving DecidableEq, Repr

/-- The header of a front desk command: the calling function, the index of its request, word 0 and RESULT_ADDR
(R301), and the ROOM operand, which a guest's command leaves unused (R303). -/
structure FdHdr where
  fn : Nat
  index : Nat := 0
  tag : Nat := 0
  resultAddr : Nat := 0
  room : Nat := 0
  deriving DecidableEq, Repr

/-- The common header of an engine command (R344, R345) with the queue that carries it. `list` is the index of the
list's first entry, `index` the index its completion names (R342). -/
structure CmdHdr where
  fn : Nat
  queue : Nat
  list : Nat := 0
  index : Nat := 0
  units : Nat := 2
  tag : Nat := 0
  epoch : Nat := 0
  signal : Nat := 0xFFFF
  wait : Nat := 0xFFFF
  waitTimeout : Nat := 0
  waitTarget : Nat := 0
  ignoreFault : Bool := false
  order : Bool := false
  seawall : Bool := false
  notify : Bool := false
  fin : Bool := true
  deriving DecidableEq, Repr

/-- A work request (R454) with the queue that carries it; `post` is set when XFER_POST carries it (R458). -/
structure WorkReq where
  fn : Nat
  queue : Nat
  index : Nat := 0
  units : Nat := 4
  tag : Nat := 0
  qpn : Nat := 0
  rseawall : Bool := false
  size32 : Bool := false
  inline : Bool := false
  seawall : Bool := false
  fence : Bool := false
  notify : Bool := false
  epoch : Nat := 0
  localAddr : Nat := 0
  remoteAddr : Nat := 0
  key : Nat := 0
  bytes : Nat := 0
  immediate : Nat := 0
  lantern : Nat := 0
  compareAdd : Word := 0
  swap : Word := 0
  data : List Byte := []
  deriving DecidableEq, Repr

/-- The collective extension of a bulk packet (R566) and the round extension of a round packet (R698). -/
structure CollExt where
  itin : Nat := 0
  tree : Nat := 0
  untrusted : Bool := false
  chunk : Nat := 0
  offset : Nat := 0
  crc : Nat := 0
  count : Nat := 0
  ctrl : Nat := 0
  cause : Nat := 0
  party : Nat := 0
  seq : Nat := 0
  kind : Nat := 0
  localFail : Bool := false
  released : Bool := false
  tainted : Bool := false
  notAll : Bool := false
  members : Nat := 0
  firstElem : Nat := 0
  elems : Nat := 0
  sigMin : Nat := 0
  sigMax : Nat := 0
  deriving DecidableEq, Repr

/-- A packet of the native transport: the Waybill base header (R394), the extension of its opcode (R400, R401, R460,
R461, R566), payload, tag and trailer (R395, R396). `crcOk` is the outcome of the ICRC check of a RoCE packet (R494) and `lenOk` whether
PAYLOAD_LEN agrees with the frame (R399). -/
structure Pkt where
  version : Nat := 1
  reply : Bool := false
  tc : Nat := 0
  opcode : Nat := 0
  sealed : Bool := false
  ar : Bool := false
  rt : Bool := false
  first : Bool := false
  last : Bool := false
  detour : Bool := false
  stream : Bool := false
  hopsLeft : Nat := 32
  dstNode : Nat := 0
  srcNode : Nat := 0
  dstQpn : Nat := 0
  path : Nat := 0
  srcQpn : Nat := 0
  epoch : Nat := 0
  psn : BitVec 32 := 0
  txStamp : BitVec 32 := 0
  msn : BitVec 32 := 0
  payload : List Byte := []
  addr : Nat := 0
  key : Nat := 0
  msgLen : Nat := 0
  imm : Nat := 0
  rseawall : Bool := false
  compareAdd : Word := 0
  swap : Word := 0
  reqPsn : BitVec 32 := 0
  offset : Nat := 0
  original : Word := 0
  cumPsn : BitVec 32 := 0
  echoPsn : BitVec 32 := 0
  echoDelay : BitVec 32 := 0
  detourSeen : Bool := false
  ecnSeen : Bool := false
  sack : Nat := 0
  nakPsn : BitVec 32 := 0
  nakCode : Nat := 0
  hint : Nat := 0
  coll : CollExt := {}
  ce : Bool := false
  tag : List Byte := []
  trailer : Nat := 0
  crcOk : Bool := true
  lenOk : Bool := true
  deriving DecidableEq, Repr

/-- The fields of a HELLO body (R823). -/
structure Hello where
  version : Nat := 1
  port : Nat := 0
  ack : Bool := false
  nodeValid : Bool := false
  node : Nat := 0
  reserve : Nat := 36
  req : Nat := 5928
  reply : Nat := 1976
  deviceId : Nat := 0
  deriving DecidableEq, Repr

/-- The fields of a CREDIT body (R826). -/
structure Credit where
  countValid : Bool := false
  returned : List (BitVec 32) := []
  charged : List (BitVec 32) := []
  deriving DecidableEq, Repr

/-- A DATA frame as a port receives it: the eight bytes of its link header (R818, R819), its Waybill packet, and how FEC and the terminate
character found it (R798, R799). -/
structure DFrame where
  hdr : List Byte
  pkt : Pkt
  headerBad : Bool := false
  tailBad : Bool := false
  stomped : Bool := false
  deriving DecidableEq, Repr

/-- The headers of an Ethernet frame in Ethernet mode (R830, R834 to R836). `vid` is none for an untagged frame. The
checks are the outcomes that the port finds. -/
structure EthHdr where
  dst : Nat := 0
  src : Nat := 0
  vid : Option Nat := none
  pcp : Nat := 0
  ipv6 : Bool := false
  dscp : Nat := 0
  ecn : Nat := 0
  hops : Nat := 0
  srcIp : Nat := 0
  dstIp : Nat := 0
  flow : Nat := 0
  sport : Nat := 0
  dport : Nat := 0
  ethertype : Nat := 0x0800
  isUdp : Bool := true
  resolution : Bool := false
  fcsOk : Bool := true
  ipOk : Bool := true
  udpOk : Bool := true
  bytes : Nat := 64
  deriving DecidableEq, Repr

/-- The operands of an update command (R611). -/
structure UpdArgs where
  count : Nat
  gradFmt : Nat := 0
  outFmt : Nat := 15
  stateFmt : Nat := 0
  outSr : Bool := false
  nesterov : Bool := false
  phase : Nat := 0
  chunkLantern : Nat := 0xFFFF
  inputLantern : Nat := 0xFFFF
  inputBase : Nat := 0
  chunkElems : Nat := 0
  step : Nat := 0
  start : Nat := 0
  seed : Word := 0
  skip : Bool := false
  segCount : Nat := 0
  lr : Nat := 0
  hp1 : Nat := 0
  hp2 : Nat := 0
  eps : Nat := 0
  wd : Nat := 0
  gscale : Nat := 0x3F800000
  maxNorm : Nat := 0
  grad : Nat := 0
  base : Nat := 0
  out : Nat := 0
  norm : Nat := 0
  segments : Nat := 0
  deriving DecidableEq, Repr

/-- The operands of a codec command (R651). -/
structure CdcArgs where
  count : Nat
  inFmt : Nat := 0
  outFmt : Nat := 0
  auxFmt : Nat := 0
  round : Bool := false
  ovf : Bool := false
  fit : Bool := false
  acc : Bool := false
  chunkLantern : Nat := 0xFFFF
  inputLantern : Nat := 0xFFFF
  inputBase : Nat := 0
  chunkElems : Nat := 0
  mul : Nat := 0x3F800000
  indexBase : Word := 0
  seed : Word := 0
  src : Nat := 0
  srcScale : Nat := 0
  dst : Nat := 0
  dstScale : Nat := 0
  res : Nat := 0
  deriving DecidableEq, Repr

/-- The operands of a bulk collective (R541); `ctrl` is FWS_CTRL, or ELEM_BITS, and words 8 and 10 serve both uses. RDC_LOCAL_REDUCE uses those
that R542 names. -/
structure BulkArgs where
  party : Nat := 0
  itin : Nat := 0
  scaled : Bool := false
  verified : Bool := false
  rootRank : Nat := 0
  chunkLantern : Nat := 0xFFFF
  expLantern : Nat := 0xFFFF
  inputLantern : Nat := 0xFFFF
  timeout : Nat := 0
  inputBase : Nat := 0
  count : Nat := 0
  start : Word := 0
  ctrl : Nat := 0
  seed : Word := 0
  dst : Nat := 0
  norm : Nat := 0
  srcs : List Nat := []
  deriving DecidableEq, Repr

/-- The operands of a barrier or scalar reduction (R704). -/
structure ScalarArgs where
  party : Nat := 0
  op : Nat := 0
  dtype : Nat := 0
  count : Nat := 0
  group : Nat := 0
  stride : Nat := 0
  timeout : Nat := 0
  start : Word := 0
  src : Nat := 0
  dst : Nat := 0
  deriving DecidableEq, Repr

/-- Where a Relivicel frame comes from, or goes to (R1004, R1020 to R1024): MCTP on the PF of a host port, MCTP on the sideband, a datagram of an
address and a port, or a MGMT frame of a fabric port. -/
inductive RSrc where
  | mctp (port : Nat)
  | sideband
  | udp (addr port : Nat)
  | inband (port : Nat)
  deriving DecidableEq, Repr

/-- A route extension (R1023). -/
structure RRoute where
  hops : Nat := 0
  hopIndex : Nat := 0
  ports : List Nat := []
  deriving DecidableEq, Repr

/-- A Relivicel frame (R1008, R1009, R1013). `opcode` is an opcode outside R1010 that the frame carries in place of its command's; `auth` holds FRESH
and the tag; `reserved` gathers the reserved bits of the frame; `formOk` is false for a datagram whose length differs from its frame's and for an
MCTP message that sets the integrity check bit (R1020, R1021). -/
structure RFrame where
  version : Nat := 1
  type : Nat := 0
  opcode : Option Nat := none
  tag : Nat := 0
  more : Bool := false
  keyId : Nat := 0
  auth : Option (Nat × List Byte) := none
  status : Nat := 0
  index : Nat := 0
  sub : Nat := 0
  offset : Nat := 0
  data : List Byte := []
  route : Option RRoute := none
  reserved : Nat := 0
  formOk : Bool := true
  deriving DecidableEq, Repr

/-- The commands: one constructor per row of the table of operations and events. -/
inductive Instr where
  /-- BEACON_SEND (R79). -/
  | beaconSend (port : Nat)
  /-- BEACON_RECEIVE (R82). -/
  | beaconReceive (port : Nat) (frame : List Byte) (rxTime : Word)
  /-- NEIGHBOUR_LOSS (R83). -/
  | neighbourLoss (port : Nat)
  /-- RATE_ADJUST (R84). -/
  | rateAdjust
  /-- HOLDOVER_EXPIRED (R88). -/
  | holdoverExpired
  /-- PPS_EDGE (R73). -/
  | ppsEdge (stamp : Word) (freq : Option Int)
  /-- CLK10M_LOSS (R76). -/
  | clk10mLoss
  /-- PPS_OUT_EDGE (R77). -/
  | ppsOutEdge
  /-- PTP_MESSAGE (R78). -/
  | ptpMessage (m : PtpMsg)
  /-- TIDE_NOW_READ (R65). -/
  | tideNowRead (fn : Nat) (global : Bool) (part : Part)
  /-- TD_GCL_COMMIT (R97). -/
  | tdGclCommit (fn port : Nat)
  /-- TABLE_SWITCHED (R98). -/
  | tableSwitched (port : Nat)
  /-- GATE_ENTRY_BOUNDARY (R92). -/
  | gateEntryBoundary (port : Nat)
  /-- SLACK_WATER_START (R103). -/
  | slackWaterStart (port cls : Nat)
  /-- TIMED_WAIT_FIRE (R105). -/
  | timedWaitFire (id : Nat)
  /-- BUF_TAKE_EFFECT (R112). -/
  | bufTakeEffect (off port : Nat) (bd : Boundary)
  /-- HOST_LINK_UP (R156). -/
  | hostLinkUp (port rate width : Nat) (flit cxl : Bool) (cfg : HostCfg)
  /-- RETRAIN_HELD (R156). -/
  | retrainHeld (port : Nat)
  /-- RETRAIN_RESUMED (R156). -/
  | retrainResumed (port rate width : Nat) (flit : Bool)
  /-- LINK_LOST (R156). -/
  | linkLost (port : Nat)
  /-- PERST (R156). -/
  | perst (port : Nat)
  /-- HOT_RESET (R156). -/
  | hotReset (port : Nat)
  /-- FLR (R160). -/
  | flr (fn : Nat)
  /-- VF_ENABLE (R881). -/
  | vfEnable (port numVfs : Nat) (cfg : HostCfg)
  /-- VF_DISABLE (R885). -/
  | vfDisable (port numVfs : Nat)
  /-- HOST_CXLMEM_ACCESS (R135). -/
  | hostCxlmemAccess (port addr : Nat) (write : Bool) (data : List Byte)
  /-- HOST_SNOOP (R132). -/
  | hostSnoop (port addr : Nat)
  /-- BIAS_DEVICE (R143). -/
  | biasDevice (h : FdHdr) (page : Nat)
  /-- MEMWIN_ENABLE (R140). -/
  | memwinEnable (fn port : Nat)
  /-- MEMWIN_DISABLE (R144). -/
  | memwinDisable (fn port : Nat)
  /-- MEMWIN_SWEEP_DONE (R144). -/
  | memwinSweepDone (port : Nat)
  /-- MEMWIN_BASE_WRITE (R138). -/
  | memwinBaseWrite (fn port base : Nat)
  /-- SEAWALL (R347). -/
  | seawall (h : CmdHdr)
  /-- SEAWALL_COMPLETE (R151). -/
  | seawallComplete (id : Nat)
  /-- INVALIDATE_REQUEST (R233). -/
  | invalidateRequest (fn pasid addr size tag : Nat)
  /-- INVALIDATE_COMPLETION (R234). -/
  | invalidateCompletion (fn tag : Nat)
  /-- TRANSLATION_COMPLETION (R224). -/
  | translationCompletion (fn pasid addr : Nat) (status size xaddr : Nat) (r w : Bool)
  /-- PAGE_REQUEST_RESPONSE (R227). -/
  | pageRequestResponse (fn pasid addr code : Nat)
  /-- PRI_TIMEOUT (R229). -/
  | priTimeout (fn pasid addr : Nat)
  /-- DS_PORT_ENUMERATE (R165). -/
  | dsPortEnumerate (ds found capacity : Nat)
  /-- DS_LINK_FAIL (R168). -/
  | dsLinkFail (ds : Nat) (poison : Bool)
  /-- DS_ENABLE_CYCLE (R169). -/
  | dsEnableCycle (ds : Nat) (up : Bool)
  /-- MEM_GRANT (R192). -/
  | memGrant (h : FdHdr) (first count : Nat)
  /-- MEM_RECLAIM (R190). -/
  | memReclaim (h : FdHdr) (first count : Nat)
  /-- RECLAIM_DONE (R190). -/
  | reclaimDone (extent : Nat)
  /-- MEM_QUERY (R192). -/
  | memQuery (h : FdHdr) (first count : Nat)
  /-- HARBOUR_RESERVE (R194). -/
  | harbourReserve (h : FdHdr) (die units : Nat)
  /-- HARBOUR_UNITS_GRANTED (R1141). -/
  | harbourUnitsGranted (die pool : Nat)
  /-- COPY_MOVE (R201). -/
  | copyMove (h : CmdHdr) (dst src len : Nat) (dpaMode : Bool)
  /-- COPY_FILL (R201). -/
  | copyFill (h : CmdHdr) (dst len : Nat) (dpaMode : Bool) (pattern : Word)
  /-- COPY_ZERO (R206). -/
  | copyZero (h : CmdHdr) (dst len : Nat) (dpaMode : Bool)
  /-- FREEZE_SET (R211). -/
  | freezeSet (fn unit : Nat)
  /-- UNIT_DRAINED (R211). -/
  | unitDrained (unit : Nat)
  /-- FREEZE_LONG (R213). -/
  | freezeLong (unit : Nat)
  /-- FREEZE_CLEAR (R214). -/
  | freezeClear (fn unit : Nat)
  /-- CHART_SET (R243). -/
  | chartSet (h : FdHdr) (dva dpa : Nat) (big : Bool) (count rights : Nat)
  /-- CHART_CLEAR (R245). -/
  | chartClear (h : FdHdr) (dva : Nat) (big : Bool) (count : Nat)
  /-- CHART_CLEAR_DONE (R245). -/
  | chartClearDone (fn : Nat)
  /-- CHART_QUERY (R241). -/
  | chartQuery (h : FdHdr) (dva : Nat)
  /-- CHART_EPOCH (R256). -/
  | chartEpoch (h : FdHdr)
  /-- WINDOW_OPEN (R263). -/
  | windowOpen (h : FdHdr) (space : Bool) (base len rights : Nat) (zeroBased sealed : Bool) (pasid : Nat) (pasidValid qpBound : Bool) (qpn : Nat)
  /-- WINDOW_MODIFY (R264). -/
  | windowModify (h : FdHdr) (key len rights : Nat)
  /-- WINDOW_MODIFY_DONE (R264). -/
  | windowModifyDone (fn : Nat)
  /-- WINDOW_REVOKE (R268). -/
  | windowRevoke (h : FdHdr) (key : Nat)
  /-- WINDOW_REVOKE_DONE (R270). -/
  | windowRevokeDone (index : Nat)
  /-- PURGE_ALL (R273). -/
  | purgeAll (fn : Nat)
  /-- PRODUCER_DOORBELL (R293). -/
  | producerDoorbell (fn queue index : Nat)
  /-- CONSUMER_DOORBELL (R297). -/
  | consumerDoorbell (fn queue index : Nat) (arm : Bool)
  /-- RING_FETCH (R289). -/
  | ringFetch (fn queue : Nat)
  /-- QUEUE_ENABLE (R311). -/
  | queueEnable (fn queue : Nat)
  /-- QUEUE_DISABLE (R311). -/
  | queueDisable (fn queue : Nat)
  /-- QUEUE_IDLE (R311). -/
  | queueIdle (fn queue : Nat)
  /-- QUEUE_RESUME (R317). -/
  | queueResume (fn queue : Nat) (skip : Bool)
  /-- QUEUE_CREATE (R306). -/
  | queueCreate (h : FdHdr) (kind cls log2 : Nat) (pasidValid : Bool) (vector cq eq modCount pasid modTime base : Nat)
  /-- QUEUE_DESTROY (R307). -/
  | queueDestroy (h : FdHdr) (queue : Nat)
  /-- QUEUE_MODERATE (R307). -/
  | queueModerate (h : FdHdr) (queue modCount modTime : Nat)
  /-- FRONT_DESK_ENABLE (R299). -/
  | frontDeskEnable (fn : Nat) (enable : Bool)
  /-- FRONT_DESK_RESUME (R299). -/
  | frontDeskResume (fn : Nat) (skip : Bool)
  /-- MSIX_MODERATION_TIMER (R326). -/
  | msixModerationTimer (fn queue : Nat)
  /-- NOP (R350). -/
  | nop (h : CmdHdr)
  /-- LANTERN_SIGNAL (R350). -/
  | lanternSignal (h : CmdHdr) (lantern mode value : Nat)
  /-- WAIT_TIDE (R105). -/
  | waitTide (h : CmdHdr) (target : Word)
  /-- LIST_EXEC (R337). -/
  | listExec (h : CmdHdr) (units addr : Nat)
  /-- LIST_DISPATCH (R361). -/
  | listDispatch (cls room : Nat)
  /-- PARKED_LIST_WAKE (R365). -/
  | parkedListWake (fn queue list : Nat)
  /-- WAIT_TIMEOUT (R357). -/
  | waitTimeout (fn queue list : Nat)
  /-- LANTERN_HOST_ADD (R377). -/
  | lanternHostAdd (fn lantern value : Nat)
  /-- LANTERN_HOST_SET (R377). -/
  | lanternHostSet (fn lantern : Nat) (part : Part) (value : Nat) (fault : Bool)
  /-- TILE_ENABLE_WRITE (R378). -/
  | tileEnableWrite (fn : Nat) (value : Word)
  /-- TILE_TRAP (R373). -/
  | tileTrap (tile offset : Nat)
  /-- QP_CREATE (R389). -/
  | qpCreate (h : FdHdr) (sq rq maxOps lantern tc spray pathCount : Nat) (sealed pin : Bool)
  /-- QP_CONNECT (R392). -/
  | qpConnect (h : FdHdr) (qpn peerQpn peerNode timeout epoch retryLimit rnrLimit : Nat) (sendPsn recvPsn : BitVec 32) (window : Nat)
  /-- QP_MODIFY (R391). -/
  | qpModify (h : FdHdr) (qpn timeout retryLimit rnrLimit window spray pathCount : Nat)
  /-- QP_DRAIN (R392). -/
  | qpDrain (h : FdHdr) (qpn : Nat)
  /-- QP_DRAINED (R392). -/
  | qpDrained (qpn : Nat)
  /-- QP_RESUME (R392). -/
  | qpResume (h : FdHdr) (qpn : Nat)
  /-- QP_RESET (R392). -/
  | qpReset (h : FdHdr) (qpn : Nat)
  /-- QP_DESTROY (R392). -/
  | qpDestroy (h : FdHdr) (qpn : Nat)
  /-- QP_QUERY (R448). -/
  | qpQuery (h : FdHdr) (qpn : Nat)
  /-- QP_SPILL (R428). -/
  | qpSpill (h : FdHdr) (base contexts : Nat)
  /-- QP_PROXY (R480). -/
  | qpProxy (h : FdHdr) (qpn slots base : Nat)
  /-- QP_ROCE (R492). -/
  | qpRoce (h : FdHdr) (qpn port : Nat) (ipv6 : Bool) (dscp hopLimit pmtu pkey sport localIp mac ipHi ipLo : Nat)
  /-- QP_SEAL (R932). -/
  | qpSeal (h : FdHdr) (qpn slot : Nat)
  /-- WRITE (R452). -/
  | write (w : WorkReq)
  /-- WRITE_IMM (R452). -/
  | writeImm (w : WorkReq)
  /-- WRITE_SIGNAL (R468). -/
  | writeSignal (w : WorkReq)
  /-- SEND (R452). -/
  | send (w : WorkReq)
  /-- SEND_IMM (R452). -/
  | sendImm (w : WorkReq)
  /-- READ (R470). -/
  | read (w : WorkReq)
  /-- FETCH_ADD (R475). -/
  | fetchAdd (w : WorkReq)
  /-- CMP_SWAP (R475). -/
  | cmpSwap (w : WorkReq)
  /-- PROXY_REPLY (R483). -/
  | proxyReply (w : WorkReq)
  /-- RECV (R459). -/
  | recv (fn queue index tag epoch : Nat) (segs : List (Nat × Nat))
  /-- XFER_POST (R458). -/
  | xferPost (h : CmdHdr) (opcode : Nat) (w : WorkReq)
  /-- UNDERTOW_PACE (R744). -/
  | undertowPace (stream : Bool) (qpn node epoch : Nat)
  /-- WRITE_PACKET_RECEIVE (R463). -/
  | writePacketReceive (p : Pkt)
  /-- SEND_PACKET_RECEIVE (R465). -/
  | sendPacketReceive (p : Pkt)
  /-- READ_REQ_RECEIVE (R471). -/
  | readReqReceive (p : Pkt)
  /-- ATOMIC_REQ_RECEIVE (R475). -/
  | atomicReqReceive (p : Pkt)
  /-- READ_RESP_RECEIVE (R474). -/
  | readRespReceive (p : Pkt)
  /-- ATOMIC_RESP_RECEIVE (R461). -/
  | atomicRespReceive (p : Pkt)
  /-- ACK_RECEIVE (R416). -/
  | ackReceive (p : Pkt)
  /-- NAK_RECEIVE (R402). -/
  | nakReceive (p : Pkt)
  /-- ACK_DELAY_TIMER (R414). -/
  | ackDelayTimer (stream : Bool) (qpn node epoch : Nat)
  /-- RETX_TIMEOUT (R418). -/
  | retxTimeout (stream : Bool) (qpn node epoch : Nat) (psn : BitVec 32)
  /-- DETOUR_SUSPEND_END (R417). -/
  | detourSuspendEnd (stream : Bool) (qpn node epoch : Nat)
  /-- BUSY_HOLD_END (R402). -/
  | busyHoldEnd (stream : Bool) (qpn node epoch : Nat)
  /-- CONTEXT_FETCH_COMPLETE (R433). -/
  | contextFetchComplete (qpn : Nat) (ok : Bool)
  /-- PROXY_TIMEOUT (R485). -/
  | proxyTimeout (qpn slot : Nat)
  /-- UT_BASE_WINDOW_END (R747). -/
  | utBaseWindowEnd (stream : Bool) (qpn node epoch path : Nat)
  /-- ROCE_PACKET_RECEIVE (R493). -/
  | rocePacketReceive (port pkey : Nat) (h : EthHdr) (p : Pkt)
  /-- CNP_RECEIVE (R759). -/
  | cnpReceive (qpn : Nat)
  /-- RP_RECOVERY (R759). -/
  | rpRecovery (qpn : Nat)
  /-- RDC_ALL_REDUCE (R538). -/
  | rdcAllReduce (h : CmdHdr) (b : BulkArgs)
  /-- RDC_REDUCE_SCATTER (R538). -/
  | rdcReduceScatter (h : CmdHdr) (b : BulkArgs)
  /-- RDC_REDUCE (R538). -/
  | rdcReduce (h : CmdHdr) (b : BulkArgs)
  /-- RDC_LOCAL_REDUCE (R547). -/
  | rdcLocalReduce (h : CmdHdr) (b : BulkArgs)
  /-- XFER_ALL_GATHER (R575). -/
  | xferAllGather (h : CmdHdr) (b : BulkArgs)
  /-- XFER_BROADCAST (R575). -/
  | xferBroadcast (h : CmdHdr) (b : BulkArgs)
  /-- SOURCE_CHUNK_READY (R545). -/
  | sourceChunkReady (member : Nat)
  /-- COLL_START_TIME (R109). -/
  | collStartTime (member : Nat)
  /-- EXP_UP_RECEIVE (R569). -/
  | expUpReceive (p : Pkt)
  /-- EXP_DOWN_RECEIVE (R571). -/
  | expDownReceive (p : Pkt)
  /-- SUM_UP_RECEIVE (R572). -/
  | sumUpReceive (p : Pkt)
  /-- RESULT_DOWN_RECEIVE (R573). -/
  | resultDownReceive (p : Pkt)
  /-- ABORT_RECEIVE (R597). -/
  | abortReceive (p : Pkt)
  /-- COLL_TIMEOUT (R594). -/
  | collTimeout (member : Nat)
  /-- NODE_TIMEOUT (R597). -/
  | nodeTimeout (itin epoch : Nat)
  /-- ITINERARY_INSTALL (R553). -/
  | itineraryInstall (h : FdHdr) (addr : Nat)
  /-- ITINERARY_REMOVE (R554). -/
  | itineraryRemove (h : FdHdr) (itin : Nat)
  /-- ITINERARY_QUERY (R552). -/
  | itineraryQuery (h : FdHdr) (itin : Nat)
  /-- ITIN_LOAD (R556). -/
  | itinLoad (data : List Byte)
  /-- ITIN_UNLOAD (R555). -/
  | itinUnload (itin : Nat)
  /-- UPD_SGD (R620). -/
  | updSgd (h : CmdHdr) (u : UpdArgs)
  /-- UPD_ADAMW (R619). -/
  | updAdamw (h : CmdHdr) (u : UpdArgs)
  /-- UPD_LION (R621). -/
  | updLion (h : CmdHdr) (u : UpdArgs)
  /-- UPD_LAMB (R624). -/
  | updLamb (h : CmdHdr) (u : UpdArgs)
  /-- UPD_ACCUMULATE (R622). -/
  | updAccumulate (h : CmdHdr) (u : UpdArgs)
  /-- CDC_CONVERT (R657). -/
  | cdcConvert (h : CmdHdr) (c : CdcArgs)
  /-- CDC_QUANTISE_EF (R668). -/
  | cdcQuantiseEf (h : CmdHdr) (c : CdcArgs)
  /-- CDC_DEQUANTISE (R671). -/
  | cdcDequantise (h : CmdHdr) (c : CdcArgs)
  /-- PARTY_CREATE (R685). -/
  | partyCreate (h : FdHdr) (tag rank size ctrl gen : Nat)
  /-- PARTY_WAIT_EXPIRED (R686). -/
  | partyWaitExpired (fn : Nat)
  /-- PARTY_DESTROY (R687). -/
  | partyDestroy (h : FdHdr) (party : Nat)
  /-- PARTY_QUERY (R688). -/
  | partyQuery (h : FdHdr) (party : Nat)
  /-- COLL_BARRIER (R704). -/
  | collBarrier (h : CmdHdr) (c : ScalarArgs)
  /-- COLL_SCALAR_REDUCE (R706). -/
  | collScalarReduce (h : CmdHdr) (c : ScalarArgs)
  /-- ROUND_UP_RECEIVE (R700). -/
  | roundUpReceive (p : Pkt)
  /-- ROUND_DOWN_RECEIVE (R701). -/
  | roundDownReceive (p : Pkt)
  /-- ABORT_UP_RECEIVE (R713). -/
  | abortUpReceive (p : Pkt)
  /-- ABORT_CALL_RECEIVE (R714). -/
  | abortCallReceive (p : Pkt)
  /-- ABORT_DOWN_RECEIVE (R714). -/
  | abortDownReceive (p : Pkt)
  /-- ABORT_JOIN_TIMEOUT (R715). -/
  | abortJoinTimeout (tag gen seq : Nat)
  /-- ROUND_LOST (R717). -/
  | roundLost (member : Nat)
  /-- DATA_FRAME_RECEIVE (R795). -/
  | dataFrameReceive (port : Nat) (f : DFrame)
  /-- CREDIT_FRAME_RECEIVE (R827). -/
  | creditFrameReceive (port : Nat) (frame : List Byte)
  /-- CREDIT_COUNT_TIMER (R792). -/
  | creditCountTimer (port : Nat)
  /-- ROUTER_COMMIT (R801). -/
  | routerCommit (fn : Nat)
  /-- ROUTER_DRAIN (R801). -/
  | routerDrain (fn : Nat)
  /-- ROUTER_UNDRAIN (R801). -/
  | routerUndrain (fn : Nat)
  /-- ROUTER_DRAINED (R801). -/
  | routerDrained
  /-- DRAIN_LONG (R801). -/
  | drainLong
  /-- NODE_ADDR_WRITE (R804). -/
  | nodeAddrWrite (fn node : Nat)
  /-- FENCE_WRITE (R786). -/
  | fenceWrite (fn mask : Nat)
  /-- PORT_UP (R785). -/
  | portUp (port : Nat)
  /-- ROUTE_WRITE (R807). -/
  | routeWrite (first : Nat) (entries : List Nat)
  /-- PORT_ENABLE (R816). -/
  | portEnable (fn port : Nat)
  /-- PORT_DISABLE (R816). -/
  | portDisable (fn port : Nat)
  /-- LINK_ACQUIRED (R816). -/
  | linkAcquired (port half : Nat)
  /-- LINK_DOWN (R816). -/
  | linkDown (port half : Nat)
  /-- HELLO_SEND (R825). -/
  | helloSend (port : Nat)
  /-- HELLO_RECEIVE (R824). -/
  | helloReceive (port : Nat) (frame : List Byte)
  /-- MODE_MISMATCH (R816). -/
  | modeMismatch (port : Nat)
  /-- MGMT_FRAME_RECEIVE (R828). -/
  | mgmtFrameReceive (port : Nat) (frame : List Byte)
  /-- FEC_SD_WINDOW (R815). -/
  | fecSdWindow (port received : Nat) (codewords corrected uncorrected : Nat) (symbols hist : List Nat)
  /-- ETH_FRAME_RECEIVE (R834). -/
  | ethFrameReceive (port half : Nat) (h : EthHdr) (p : Pkt)
  /-- PAUSE_RECEIVE (R837). -/
  | pauseReceive (port half : Nat) (pfc : Bool) (times : List (Nat × Nat))
  /-- PAUSE_EXPIRE (R837). -/
  | pauseExpire (port half cls : Nat)
  /-- PFC_REFRESH (R839). -/
  | pfcRefresh (port prio : Nat)
  /-- ETH_PEER_WRITE (R831). -/
  | ethPeerWrite (first : Nat) (data : List Byte)
  /-- RING_SAMPLE (R855). -/
  | ringSample (port lane : Nat) (offset : Int) (heater : Nat)
  /-- HEATER_SWEEP_END (R856). -/
  | heaterSweepEnd (port lane : Nat) (found : Bool) (heater : Nat)
  /-- LANE_MANUAL_WRITE (R856). -/
  | laneManualWrite (fn port lane value : Nat)
  /-- TEC_LOOP (R861). -/
  | tecLoop (unit : Nat) (temps : List Int)
  /-- BIAS_STEP (R862). -/
  | biasStep (unit : Nat) (taps : List Int)
  /-- LASER_SETTLED (R868). -/
  | laserSettled (unit : Nat)
  /-- TEC_FAIL (R868). -/
  | tecFail (unit : Nat)
  /-- LASER_RAMP_DONE (R868). -/
  | laserRampDone (unit : Nat) (currents : List Nat) (taps : List Int)
  /-- LASER_IDLE_OFF (R868). -/
  | laserIdleOff (unit : Nat)
  /-- PERMIT_DROP (R868). -/
  | permitDrop (unit : Nat)
  /-- LASER_PATH_FAULT (R868). -/
  | laserPathFault (unit laser : Nat)
  /-- LASER_OVERTEMP (R868). -/
  | laserOvertemp (unit : Nat)
  /-- CLEAR_FAULT (R869). -/
  | clearFault (fn unit : Nat) (gone : Bool)
  /-- LASER_ALLOW_WRITE (R873). -/
  | laserAllowWrite (fn unit : Nat) (allow : Bool)
  /-- LASER_EN_CHANGE (R867). -/
  | laserEnChange (asserted : Bool)
  /-- OPTICS_SECOND (R852). -/
  | opticsSecond (port lane corrected codewords : Nat) (rx rxHigh tx temp : Int)
  /-- ROOM_QUOTA (R889). -/
  | roomQuota (h : FdHdr) (id value : Nat)
  /-- ROOM_QUIESCE (R894). -/
  | roomQuiesce (h : FdHdr) (faultWaits : Nat)
  /-- QUIESCED (R895). -/
  | quiesced (room : Nat)
  /-- QUIESCE_TIMEOUT (R893). -/
  | quiesceTimeout (room : Nat)
  /-- ROOM_RESUME (R893). -/
  | roomResume (h : FdHdr)
  /-- ROOM_RESET (R898). -/
  | roomReset (h : FdHdr) (keepMemory : Nat)
  /-- ROOM_QUARANTINE (R893). -/
  | roomQuarantine (h : FdHdr)
  /-- ROOM_RELEASE (R897). -/
  | roomRelease (h : FdHdr)
  /-- ROOM_REMOVE (R899). -/
  | roomRemove (h : FdHdr)
  /-- ROOM_QUERY (R888). -/
  | roomQuery (h : FdHdr)
  /-- MAILBOX_POST (R908). -/
  | mailboxPost (fn room : Nat) (keeper : Bool) (len : Nat)
  /-- MAILBOX_ACK (R909). -/
  | mailboxAck (fn room : Nat) (keeper : Bool)
  /-- KEY_BANK_LOAD (R926). -/
  | keyBankLoad (fn : Nat) (fabric : Bool) (slot word : Nat) (accesses : List (Part × Word))
  /-- ROTATE_AT_WRITE (R927). -/
  | rotateAtWrite (fn : Nat) (fabric : Bool) (slot : Nat) (part : Part) (time : Word)
  /-- KEY_ROTATE_COMPLETE (R929). -/
  | keyRotateComplete (owner : Option Nat) (slot : Nat)
  /-- KEY_ERASE (R931). -/
  | keyErase (h : FdHdr) (slot : Nat) (fabric : Bool)
  /-- FABRIC_KEY_WRITE (R953). -/
  | fabricKeyWrite (slot bank : Nat) (key : List Byte)
  /-- FABRIC_ROTATE (R953). -/
  | fabricRotate (slot : Nat) (time : Word)
  /-- MGMT_KEY (R943). -/
  | mgmtKey (slot : Nat) (key : List Byte) (remote authentic : Bool)
  /-- LC_REQUEST (R944). -/
  | lcRequest (token : List Byte) (path : Nat) (authentic : Bool)
  /-- SCRUB_ACCESS (R969). -/
  | scrubAccess (m position symbols : Nat) (code : Option (Nat × Bool))
  /-- SCRUB_PASS_END (R973). -/
  | scrubPassEnd (m : Nat)
  /-- CE_RATE_SECOND (R960). -/
  | ceRateSecond
  /-- EXPANDER_EVENT_POLL (R960). -/
  | expanderEventPoll (ds events : Nat)
  /-- CODE_WORD_RELOAD (R963). -/
  | codeWordReload (m word : Nat)
  /-- LATCH_ACK (R974). -/
  | latchAck (fn unit seq : Nat)
  /-- UE_AUTO_ACK (R978). -/
  | ueAutoAck (unit : Nat)
  /-- DEVICE_FATAL (R976). -/
  | deviceFatal (block : Nat)
  /-- D2D_UNRECOVERABLE (R26). -/
  | d2dUnrecoverable
  /-- MGMT_CORE_HALT (R49). -/
  | mgmtCoreHalt (core word : Nat)
  /-- WATCHDOG_EXPIRE (R51). -/
  | watchdogExpire
  /-- RELIVICEL_READ (R1010). -/
  | relivicelRead (src : RSrc) (f : RFrame)
  /-- RELIVICEL_WRITE (R1010). -/
  | relivicelWrite (src : RSrc) (f : RFrame)
  /-- RELIVICEL_DESCRIBE (R1012). -/
  | relivicelDescribe (src : RSrc) (f : RFrame)
  /-- RELIVICEL_NEXT (R1010). -/
  | relivicelNext (src : RSrc) (f : RFrame)
  /-- RWS_STORE_DONE (R1001). -/
  | rwsStoreDone (index sub : Nat) (ok : Bool)
  /-- SEGMENT_GAP_EXPIRE (R1018). -/
  | segmentGapExpire (src : RSrc) (tag index sub : Nat)
  /-- RELAY_FORWARD (R1024). -/
  | relayForward (src : RSrc) (f : RFrame)
  /-- RELAY_RESPONSE (R1026). -/
  | relayResponse (port : Nat) (f : RFrame)
  /-- RELAY_ENTRY_EXPIRE (R1026). -/
  | relayEntryExpire (tag keyId fresh : Nat)
  /-- SET_ENDPOINT_ID (R1022). -/
  | setEndpointId (endpoint eid : Nat)
  /-- GET_ENDPOINT_ID (R1022). -/
  | getEndpointId (endpoint : Nat)
  /-- GET_ENDPOINT_UUID (R1022). -/
  | getEndpointUuid (endpoint : Nat)
  /-- GET_MCTP_VERSION_SUPPORT (R1022). -/
  | getMctpVersionSupport (endpoint : Nat)
  /-- GET_MESSAGE_TYPE_SUPPORT (R1022). -/
  | getMessageTypeSupport (endpoint : Nat)
  /-- GET_VDM_SUPPORT (R1022). -/
  | getVdmSupport (endpoint : Nat)
  /-- RESTORE_DEFAULTS (R1003). -/
  | restoreDefaults (value : Nat)
  /-- UNLOCK_WRITE (R1053). -/
  | unlockWrite (fn block : Nat) (part : Part) (key : Word)
  /-- UNLOCK_LAPSE (R1054). -/
  | unlockLapse (block : Nat)
  /-- EVENT_WRITE_BACK (R1059). -/
  | eventWriteBack (fn off : Nat) (value : Word) (part : Part)
  /-- BLOCK_SNAPSHOT (R1062). -/
  | blockSnapshot (fn block : Nat)
  /-- GLB_SNAPSHOT (R1062). -/
  | glbSnapshot (fn : Nat)
  /-- REGISTER_WRITE (R1048). -/
  | registerWrite (fn off : Nat) (accesses : List (Part × Word))
  /-- DOMAIN_REQUEST (R1072). -/
  | domainRequest (fn domain value : Nat)
  /-- DOMAIN_WAKE_ADMIT (R1076). -/
  | domainWakeAdmit (average : Nat)
  /-- DOMAIN_ON (R1072). -/
  | domainOn (domain : Nat)
  /-- WAKE_FAIL (R1072). -/
  | wakeFail (domain : Nat)
  /-- DOMAIN_SLEEP_DONE (R1072). -/
  | domainSleepDone (domain : Nat)
  /-- LIMITER_STEP (R1078). -/
  | limiterStep (average : Nat)
  /-- THERMAL_SAMPLE (R1128). -/
  | thermalSample (dies hbms lpddr : List Int) (coolIn coolOut : Int) (coolHot : Bool) (volts amps watts : Nat)
  /-- POWER_UP (R1113). -/
  | powerUp
  /-- INPUT_REMOVAL (R1116). -/
  | inputRemoval
  /-- MODULE_RESET_PIN (R1087). -/
  | moduleResetPin (asserted : Bool)
  /-- MODULE_RESET (R1088). -/
  | moduleReset (value : Nat)
  /-- TIDE_RESET (R1091). -/
  | tideReset (value : Nat)
  /-- STARTUP_DONE (R1094). -/
  | startupDone (late : Bool)
  /-- CLOCK_FAIL (R1085). -/
  | clockFail
  /-- FRAME_BOUNDARY (R734). -/
  | frameBoundary (port half : Nat)
  /-- BUCKET_REFILL (R724). -/
  | bucketRefill (off half ns : Nat)
  /-- PERST_RELEASE (R1097). -/
  | perstRelease (port : Nat)
  /-- MGMT_LINK_UP (R1020). -/
  | mgmtLinkUp
  /-- MGMT_ADDRESS_RESOLUTION (R1020). -/
  | mgmtAddressResolution (ipv6 : Bool) (target : Nat)
  /-- PTP_SYNC_DELAY_REQ_SEND (R78). -/
  | ptpSyncDelayReqSend
  /-- DS_LINK_RETURN (R169). -/
  | dsLinkReturn (ds : Nat)
  /-- BIAS_DEVICE_DONE (R143). -/
  | biasDeviceDone (fn : Nat)
  deriving DecidableEq, Repr

end Sys2Proof
end

