-- ==== Sys2Proof/Decode.lean ====
section
/-! DEFINITION. The block has no encoded commands: no row of the spec's table gives bits, so no word spells a command. -/

namespace Sys2Proof

/-- The command that a word spells by the table's bits: no row gives any, so there is none. Log 11 (DESIGN CHOICE). -/
def decodeTableWord (_nbits _w : Nat) : Option Instr := none

end Sys2Proof
end

