-- ==== Sys2Proof/Config.lean ====
section
/-! DEFINITION. The free values: what the spec leaves open, or leaves to a standard whose text it does not give. None has
a body, so nothing can be proved of the value any of them takes. -/

namespace Sys2Proof.Config

/-- The n-th value the device takes where the spec fixes none: a random nonce (R950), an unstated choice. Log 5 (DESIGN CHOICE). -/
opaque freeValue : Nat → BitVec 64

/-- The rate adjustment that a mean offset leads to (R84 states no servo law): old rate, mean offset. Log 19 (DESIGN CHOICE). -/
opaque servo : Int → Int → Int

/-- The rate adjustment that the frequency of the 10 MHz input leads to (R73 states no law): old rate, frequency error. -/
opaque discipline : Int → Int → Int

/-- The data set that the ordinary clock announces as PTP master, by its members (R78 gives none). Log 181 (PRESUMED). -/
opaque ptpDataSet : Nat → Nat

/-- The set of a translation cache in which an entry lies (R247 gives none): function and PASID, or 0 and room, and the first address divided by the
least size. Log 13 (DESIGN CHOICE). -/
opaque tlbSet : Nat → Nat → Nat → BitVec 8

/-- Which of the four channel groups of tier 1 on its die holds a word of the valid-bit map of a downstream port (R183, R1074). Log 8 (DESIGN CHOICE). -/
opaque mapHome : Nat → Nat → BitVec 2

/-- Where in extent 0 of tier 0 the Skeond keeps the warm context of a queue pair, by its number (R211 gives none). Log 170 (DEDUCED). -/
opaque ctxSlot : Nat → BitVec 30

/-- AES-256-GMAC over the bytes R921 covers: key, nonce, bytes. The text of the cipher is outside the spec. Log 10 (DESIGN CHOICE). -/
opaque gmac : Nat → Nat → List (BitVec 8) → List (BitVec 8)

/-- AES-CMAC of a management message (R1014): key, message. Log 10 (DESIGN CHOICE). -/
opaque cmac : Nat → List (BitVec 8) → List (BitVec 8)

/-- Whether an ECDSA P-384 signature over a life-cycle token verifies (R945): token, signature. Log 10 (DESIGN CHOICE). -/
opaque ecdsa : List (BitVec 8) → List (BitVec 8) → Bool

/-- The square root, reciprocal and other values of the update engines that the spec states only as correctly
rounded operations of IEEE 754 are computed; this is the free value of an operation with no stated result. Log 95 (DESIGN CHOICE). -/
opaque openFloat : Nat → BitVec 32 → BitVec 32 → BitVec 32

/-- A value that the spec calls unpredictable (R15): its moment and its place. Log 69 (DESIGN CHOICE). -/
opaque unpredictable : Nat → Nat → BitVec 64

/-- What the identity objects of a module hold (R1034): its 64-bit identifier, its serial number, its UUID, the base of its MAC addresses, and its
firmware's version and build. Log 152 (DESIGN CHOICE). -/
opaque deviceId : BitVec 64

/-- SERIAL_NUMBER, as 16 bytes. Log 152 (DESIGN CHOICE). -/
opaque serialNumber : BitVec 128

/-- MODULE_UUID, as 16 bytes. Log 152 (DESIGN CHOICE). -/
opaque moduleUuid : BitVec 128

/-- MAC_BASE, as the address it spells. Log 152 (DESIGN CHOICE). -/
opaque macBase : BitVec 48

/-- FIRMWARE_VERSION (0) and FIRMWARE_BUILD (1). Log 152 (DESIGN CHOICE). -/
opaque firmware : Nat → BitVec 32

/-- The vendor management key that a vendor token supplies (R948); the token's layout names no field for it. Log 126 (DESIGN CHOICE). -/
opaque vendorKey : List (BitVec 8) → BitVec 256

/-- An address of the management port that the spec leaves to DHCPv4 (0) or to IPv6 link-local configuration (1). Log 152 (DESIGN CHOICE). -/
opaque ownAddress : Nat → BitVec 128

/-- A reading of an analogue quantity that the spec gives no value for: quantity, unit, time. Log 18 (DESIGN CHOICE). -/
opaque sensor : Nat → Nat → Nat → Int

end Sys2Proof.Config
end

