-- ==== Sys2Proof/Machine/Map.lean ====
section
/-! DEFINITION. Sparse tables with rising keys, sets of numbers, bit fields and byte order. -/

namespace Sys2Proof.Machine

open Sys2Proof

/-- The value a table holds under a key, or the default of the table. -/
def mget {α : Type} (m : NMap α) (k : Nat) (d : α) : α :=
  match m with
  | [] => d
  | (j, v) :: r => if j = k then v else mget r k d

/-- The value a table holds under a key, if any. -/
def mfind {α : Type} (m : NMap α) (k : Nat) : Option α :=
  match m with
  | [] => none
  | (j, v) :: r => if j = k then some v else mfind r k

/-- Write a value under a key; keys stay strictly rising. -/
def mset {α : Type} (m : NMap α) (k : Nat) (v : α) : NMap α :=
  match m with
  | [] => [(k, v)]
  | (j, w) :: r => if k < j then (k, v) :: (j, w) :: r else if k = j then (k, v) :: r else (j, w) :: mset r k v

/-- Remove a key. -/
def mdel {α : Type} (m : NMap α) (k : Nat) : NMap α :=
  match m with
  | [] => []
  | (j, w) :: r => if k = j then mdel r k else (j, w) :: mdel r k

/-- Change the value under a key. -/
def mmod {α : Type} (m : NMap α) (k : Nat) (d : α) (f : α → α) : NMap α :=
  mset m k (f (mget m k d))

/-- Change every value of a table. -/
def mmapV {α : Type} (m : NMap α) (f : Nat → α → α) : NMap α :=
  m.map (fun p => (p.1, f p.1 p.2))

/-- Add a number to a set kept as a rising list. -/
def sadd (l : List Nat) (x : Nat) : List Nat :=
  match l with
  | [] => [x]
  | y :: r => if x < y then x :: y :: r else if x = y then y :: r else y :: sadd r x

/-- Remove a number from a set. -/
def sdel (l : List Nat) (x : Nat) : List Nat := l.filter (fun y => y != x)

/-- The least number of a list that satisfies a condition. -/
def sleast (l : List Nat) (p : Nat → Bool) : Option Nat :=
  match l with
  | [] => none
  | x :: r =>
    match sleast r p with
    | none => if p x then some x else none
    | some y => if p x && decide (x < y) then some x else some y

/-- The lowest of the numbers from a base up that a condition accepts, looking at `n` of them. -/
def lowestFrom (p : Nat → Bool) (base : Nat) : Nat → Option Nat
  | 0 => none
  | n + 1 => if p base then some base else lowestFrom p (base + 1) n

/-- Bits hi down to lo of a number. -/
def fld (w hi lo : Nat) : Nat := (w / 2 ^ lo) % 2 ^ (hi + 1 - lo)

/-- Bits hi down to lo of a word. -/
def wfld (w : Word) (hi lo : Nat) : Nat := fld w.toNat hi lo

/-- A word whose bits hi down to lo are replaced. -/
def setFld (w : Word) (hi lo v : Nat) : Word :=
  BitVec.ofNat 64 (w.toNat - fld w.toNat hi lo * 2 ^ lo + (v % 2 ^ (hi + 1 - lo)) * 2 ^ lo)

/-- A truth value as a bit. -/
def b2n (b : Bool) : Nat := if b then 1 else 0

/-- A number as n bytes, least significant first (R6). -/
def leBytes : Nat → Nat → List Byte
  | 0, _ => []
  | n + 1, v => BitVec.ofNat 8 v :: leBytes n (v / 256)

/-- A number as n bytes, most significant first (R7). -/
def beBytes (n v : Nat) : List Byte := (leBytes n v).reverse

/-- The number that bytes hold, least significant first (R6). -/
def ofLe : List Byte → Nat
  | [] => 0
  | b :: r => b.toNat + 256 * ofLe r

/-- The number that bytes hold, most significant first (R7). -/
def ofBe (l : List Byte) : Nat := ofLe l.reverse

/-- The words of a ring entry, as bytes (R6). -/
def wordsLe (l : List Nat) : List Byte := l.flatMap (leBytes 8)

/-- Word i of a list of bytes, little-endian. -/
def wordAt (l : List Byte) (i : Nat) : Nat := ofLe ((l.drop (8 * i)).take 8)

/-- The difference of two 64-bit counts, read as a signed number (R61). -/
def sdiff (a b : Word) : Int := (a - b).toInt

/-- A target tide time is reached when the signed difference is zero or negative (R61). -/
def reached (target now : Word) : Bool := decide (sdiff target now ≤ 0)

end Sys2Proof.Machine
end

