-- ==== Sys2Proof/Machine/State.lean ====
section
/-! DEFINITION. The state of the block: every register, table, buffer, counter, mode and pin the spec gives it, and the
queue of waiting commands. All plain data. -/

namespace Sys2Proof.Machine

open Sys2Proof

/-- Why a step stops with a fault. No command of this block stops the machine: what the spec calls an error is
an effect on the state (a record, a completion, a unit in FATAL). -/
inductive Fault where
  /-- Raised by nothing; kept so that the type is inhabited. Safe. -/
  | none
  deriving DecidableEq, Repr

/-- Why a step is refused. -/
inductive Refusal where
  /-- Raised by the dispatch of a command that has no meaning yet. Safe: no claim rests on such a command. -/
  | notModelled (mnemonic : String)
  deriving DecidableEq, Repr

/-! ## Tide time -/

/-- States of the tide unit (R87, R116). -/
inductive TideSt where
  | freerun | acquire | locked | holdover
  deriving DecidableEq, Repr

/-- Sources of tide time, with the codes 0 to 3 of the table of sources. -/
inductive TideSrc where
  | free | ext | ptp | beacon
  deriving DecidableEq, Repr

/-- What a locked neighbour announces (R69): the key of R68 and its hop count. -/
structure Announce where
  ref : Nat := 1
  prio : Nat := 255
  node : Nat := 0xFFFF
  hops : Nat := 255
  deriving DecidableEq, Repr

/-- A tide table (R90, R91): it holds one entry of reset value until one is committed. -/
structure Gcl where
  base : Word := 0
  cycle : Nat := 0
  entries : List Word := [0xFF00000000]
  deriving DecidableEq, Repr

/-- The part of a fabric port that the tide unit keeps. -/
structure TidePort where
  txSeq : BitVec 8 := 0
  sent : List (BitVec 8 × Word) := []
  rxSeq : BitVec 8 := 0
  rxTx : Word := 0
  rxTime : Word := 0
  delay : Int := 0
  announce : Option Announce := none
  lost : Bool := false
  oper : Gcl := {}
  pend : Option (Gcl × Word) := none
  switchAt : Option Word := none
  cfgErr : Bool := false
  gates : BitVec 8 := 0xFF
  slack : BitVec 8 := 0
  deriving DecidableEq, Repr

/-- A list or a collective start that waits for tide time (R107); `armed` when it holds one of the 16,384 slots. -/
structure TimedWait where
  id : Nat
  target : Word
  armed : Bool := true
  start : Bool := false
  fn : Nat := 0
  queue : Nat := 0
  list : Nat := 0
  coll : Nat := 0
  late : Bool := false
  deriving DecidableEq, Repr

/-- The tide unit. `base` is where the last reset stands on the count, so that the count less `base` is the time since it, which no step of the
count changes. `holdHops` is the hop count at the entry to HOLDOVER (R88), `ptpOff` PTP's latest offset in ns, `ptpBest` the selected master's
data set and port identity, `ptpHeard` when it was announced last, `ptpPeerDelay` the peer delay once it is measured (R78). -/
structure Tide where
  count : Word := 0
  base : Word := 0
  frac : Nat := 0
  rate : Int := 0
  st : TideSt := .freerun
  src : TideSrc := .free
  isMaster : Bool := false
  parent : Option Nat := none
  mRef : Nat := 1
  mNode : Nat := 0xFFFF
  mPrio : Nat := 0xFF
  hops : Nat := 0xFF
  outOfBudget : Bool := false
  offset : Int := 0
  samples : List Int := []
  goodRun : Nat := 0
  badRun : Nat := 0
  firstDone : Bool := false
  holdAt : Word := 0
  holdHops : Nat := 0
  rateLog : List (Word × Int) := []
  extOk : Bool := false
  extLocked : Bool := false
  ppsRejects : Nat := 0
  ppsRejectCount : Nat := 0
  nextPps : Option Nat := none
  ppsOut : Bool := false
  ppsOutUntil : Word := 0
  ptpOk : Bool := false
  ptpBest : Option (List Nat × Nat) := none
  ptpHeard : Word := 0
  ptpOff : Int := 0
  ptpT1 : Int := 0
  ptpT2 : Int := 0
  ptpT3 : Int := 0
  ptpP1 : Int := 0
  ptpP2 : Int := 0
  ptpP4 : Int := 0
  ptpPeerDelay : Option Int := none
  ptpSeq : Nat := 0
  ptpReqSeq : Nat := 0
  ptpTwoStep : Bool := false
  ports : NMap TidePort := []
  waits : List TimedWait := []
  nextWait : Nat := 0
  deriving DecidableEq, Repr

/-! ## Host ports and functions -/

/-- States of a host port (R156, R170). -/
inductive PortSt where
  | down | up | hold
  deriving DecidableEq, Repr

/-- What a host port in HOLD keeps, in order (R156, R234, R1067). -/
inductive Held where
  | write (addr : Nat) (data : List Byte) (ro : Bool)
  | msix (fn vector : Nat)
  | invalidation (fn tag : Nat)
  deriving DecidableEq, Repr

/-- A host port; `mps` and `mrrs` are the Max Payload Size and Max Read Request Size in force (R124), `hdm` where the HDM decoder lies (R132). -/
structure HostPort where
  st : PortSt := .down
  rate : Nat := 0
  width : Nat := 0
  flit : Bool := false
  cxl : Bool := false
  degraded : Bool := false
  perst : Bool := false
  held : List Held := []
  winEnable : Bool := false
  winBusy : Bool := false
  winBase : Nat := 0
  shared : List Nat := []
  biasing : Option (Nat × Nat) := none
  vfEnable : Bool := false
  numVfs : Nat := 0
  detect : Bool := false
  mps : Nat := 128
  mrrs : Nat := 512
  lowLatency : Bool := false
  hdm : Option Nat := none
  deriving DecidableEq, Repr

/-- A slow front desk command that runs: what ends it, and the header its response takes. Log 41 (DESIGN CHOICE). -/
inductive FdWait where
  | chartClear (result stopAt : Nat)
  | windowModify (index : Nat)
  | windowRevoke (index : Nat)
  | bias (page : Nat)
  | quiesce (room : Nat)
  | remove (room : Nat) (extents : List Nat)
  | party (tag rank size ctrl gen : Nat) (due : Word)
  deriving DecidableEq, Repr

/-- Queue states (R311, R330). -/
inductive QSt where
  | free | disabled | active | draining | error | flushed
  deriving DecidableEq, Repr

/-- Queue kinds (R279). -/
inductive QKind where
  | send | recv | engine | cq | eq | ledger
  deriving DecidableEq, Repr

/-- An entry the Skeond has fetched from a ring and whose work is outstanding. -/
structure Fetched where
  index : Nat
  units : Nat
  opcode : Nat
  tag : Nat
  fin : Bool := false
  deriving DecidableEq, Repr

/-- A receive entry fetched from a receive queue (R459). -/
structure RecvEntry where
  index : Nat
  tag : Nat := 0
  epoch : Nat := 0
  segs : List (Nat × Nat) := []
  pins : List (Nat × Bool) := []
  deriving DecidableEq, Repr

/-- A queue of a function (R290 to R330), or one of the two rings of a front desk. `again` counts the units at the consumer index that were fetched
before the queue stopped at a malformed command of a list (R371); `wild` once a doorbell has made its outcome unpredictable (R331); `enable` is ENABLE as it was written; `passing` while the entries that follow a list without an END
are passed over (R336, R370). -/
structure Queue where
  st : QSt := .free
  kind : QKind := .send
  cls : Nat := 0
  base : Nat := 0
  log2 : Nat := 8
  pasidValid : Bool := false
  pasid : Nat := 0
  vector : Nat := 0
  cq : Nat := 0xFFF
  eq : Nat := 0xFFF
  modCount : Nat := 1
  modTime : Nat := 0
  prod : BitVec 32 := 0
  cons : BitVec 32 := 0
  errIndex : Nat := 0
  errDetail : Nat := 0
  seq : BitVec 8 := 0
  badDoorbell : Bool := false
  overflow : Bool := false
  dropped : BitVec 32 := 0
  armed : Bool := false
  sinceArm : Nat := 0
  firstAt : Option Word := none
  disablePending : Bool := false
  passing : Bool := false
  again : Nat := 0
  enable : Bool := false
  wild : Bool := false
  fetched : List Fetched := []
  entries : List RecvEntry := []
  held : List (List Byte) := []
  fullSpell : Bool := false
  recordSeq : BitVec 32 := 0
  dropSince : Bool := false
  deriving DecidableEq, Repr

/-- The front desk of a function (R299): its request ring, its response ring and the command that runs; `mute` when that command's response is
not written because the function lost its port or was reset (R310). -/
structure FrontDesk where
  req : Queue := { st := .disabled }
  resp : Queue := { st := .disabled, log2 := 9 }
  enable : Bool := false
  running : Option (FdHdr × Nat × FdWait) := none
  mute : Bool := false
  deriving DecidableEq, Repr

/-- A function: its enable, the parts of PCI configuration the device reads, MSI-X mask and pending bits and the address and data of each vector's
table entry (R130), front desk and the latched halves of R65. -/
structure Func where
  enabled : Bool := false
  cfg : HostCfg := {}
  msgs : NMap (Nat × Nat) := []
  masked : List Nat := []
  pend : List Nat := []
  fd : FrontDesk := {}
  latchTd : Option Nat := none
  latchGlb : Option Nat := none
  deriving DecidableEq, Repr

/-! ## Memory -/

/-- States of an extent (R188). -/
inductive ExtSt where
  | absent | free | granted | reclaiming | offline | system
  deriving DecidableEq, Repr

/-- An extent and its owner. -/
structure Extent where
  st : ExtSt := .absent
  owner : Option Nat := none
  deriving DecidableEq, Repr

/-- A waiter for Harbour units (R1141): the list that waits, or the chunk of a collective's node (itinerary, epoch, tree, chunk), and its need. -/
structure HarbourWait where
  fn : Nat := 0
  queue : Nat := 0
  list : Nat := 0
  units : Nat
  chunk : Option (Nat × Nat × Nat × Nat) := none
  deriving DecidableEq, Repr

/-- Device memory over the DPA map (R175): bytes not listed read zero (R184). `poison` holds the 64 B lines that carry
a marker (R961), `latentUe` and `latentCe` the lines whose next read meets an error, and `badMap` the words of the valid-bit maps (R183), each of 64
blocks of one controller, whose next read meets an uncorrectable one (R187). -/
structure DevMem where
  cells : List Host.Cell := []
  valid : List Nat := []
  poison : List Nat := []
  latentUe : List Nat := []
  latentCe : List Nat := []
  badMap : List Nat := []
  dieLocal0 : Bool := true
  dieLocal1 : Bool := true
  frozen : List Nat := []
  drained : List Nat := []
  extents : NMap Extent := []
  waits : NMap (List HarbourWait) := []
  starved : List Nat := []
  frozenLong : List Nat := []
  frozenAt : NMap Word := []
  deriving DecidableEq, Repr

/-- A downstream CXL port (R167). -/
structure DsPort where
  st : Nat := 0
  capacity : Nat := 0
  offline : Bool := false
  poisonTable : List Nat := []
  deriving DecidableEq, Repr

/-! ## Translation and windows -/

/-- A chart leaf (R237). -/
structure Leaf where
  dpa : Nat
  write : Bool
  read : Bool
  atomic : Bool
  deriving DecidableEq, Repr

/-- An entry of a translation cache (R248); `xbase` is the translated address of a host entry's first byte (R220). -/
inductive TEntry where
  | host (die fn pasid base size xbase : Nat) (r w : Bool)
  | chart (die room : Nat) (big : Bool) (leaf : Nat)
  deriving DecidableEq, Repr

/-- An outstanding translation of a host address: 0 translation sent, 1 page request sent, 2 translation sent again, 3 page request waiting (R230), 4 faulted;
`remote` when a remote requester stands behind it (R231), `due` the time since the reset at which a page request sent without answer times out (R229). -/
structure AtsReq where
  fn : Nat
  pasid : Nat
  addr : Nat
  die : Nat := 0
  stage : Nat := 0
  remote : Bool := false
  fault : Nat := 0
  due : Word := 0
  deriving DecidableEq, Repr

/-- A window table entry (R260): STATE 0 FREE, 1 OPEN, 2 REVOKING. -/
structure Window where
  st : Nat := 0
  base : Nat := 0
  len : Nat := 0
  gen : BitVec 8 := 0
  room : Nat := 0
  pasid : Nat := 0
  pasidValid : Bool := false
  sealed : Bool := false
  space : Bool := false
  atomic : Bool := false
  rread : Bool := false
  rwrite : Bool := false
  zeroBased : Bool := false
  admitted : Nat := 0
  qpBound : Bool := false
  qpn : Nat := 0
  heldSeen : Bool := false
  deriving DecidableEq, Repr

/-! ## Lists, lanterns and tiles -/

/-- A lantern (R352). -/
structure Lantern where
  count : BitVec 32 := 0
  fault : Bool := false
  deriving DecidableEq, Repr

/-- Where a command list stands. -/
inductive ListSt where
  | ready | onTile | behind | parked | timed | woken | stuck | held
  deriving DecidableEq, Repr

/-- How far a command that works through its elements has come: the next element, the bytes its completion names if it fails there, its flags,
the values it formed when it began, and its sums by segment (R617, R624, R632, R672); the runs of bytes that no other
command may use or change while it runs, those it uses itself, and whether another did so (R637, R676). -/
structure Prog where
  next : Nat
  bytes : Nat := 0
  flags : Nat := 0
  words : List Nat := []
  sums : NMap (Nat × Nat) := []
  prot : List (Nat × Nat) := []
  uses : List (Nat × Nat) := []
  wild : Bool := false
  deriving DecidableEq, Repr

/-- A command list taken from an engine command queue (R334). `whole` when its END is covered (R335), `count` its
entries so far, `signals` the SIGNAL lanterns of the commands not yet completed, `flags` the sticky completion flags of R343; `dest` the
destination operand that R360 looks at (true for a DPA); `hunits` the Harbour units it holds on its tile's die, by number; `pins` what the address operands of a command that has begun were (R255); `prog` how far a command that has
begun has come; `bad` the places of the commands whose entries are malformed by their form, with header, opcode and detail (R369); `bodyAddr` and
`bodyUnits` where the body of a LIST_EXEC lies (R337). -/
structure ListRec where
  fn : Nat
  queue : Nat
  list : Nat
  cls : Nat
  room : Nat
  st : ListSt := .ready
  inFlight : Bool := false
  whole : Bool := false
  count : Nat := 0
  tile : Option Nat := none
  order : Bool := false
  flags : Nat := 0
  failed : Bool := false
  waitLantern : Nat := 0xFFFF
  waitTarget : Nat := 0
  waitIgnore : Bool := false
  waitSince : Word := 0
  waitMax : Nat := 0
  waitMet : Bool := false
  parkFull : Bool := false
  units : Nat := 0
  exec : Bool := false
  bodySignal : Nat := 0xFFFF
  bodyWall : Bool := false
  bad : List (Nat × CmdHdr × Nat × Nat) := []
  bodyAddr : Nat := 0
  bodyUnits : Nat := 0
  dest : Option (Bool × Nat) := none
  signals : List Nat := []
  cur : Option (CmdHdr × Nat) := none
  die : Option Nat := none
  hunits : List Nat := []
  pins : List (Nat × Bool) := []
  prog : Option Prog := none
  deriving DecidableEq, Repr

/-- A Seawall in progress (R150): the room, the ports it waits for, those of them whose zero-length read is not issued yet (R151), and what its end
completes. -/
structure SeawallRec where
  id : Nat
  room : Nat
  ports : List Nat
  unread : List Nat := []
  partialSeen : Bool := false
  kind : Nat := 0
  hdr : Option CmdHdr := none
  opcode : Nat := 0
  bytes : Nat := 0
  flags : Nat := 0
  qpn : Nat := 0
  msn : BitVec 32 := 0
  deriving DecidableEq, Repr

/-! ## Queue pairs -/

/-- QP states (R392, R448). -/
inductive QpSt where
  | free | init | ready | draining | drained | error
  deriving DecidableEq, Repr

/-- A PSN sent and not yet retired: the path and order of its latest send, how often it was resent (R420), when it was sent last,
whether it waits to be resent, and whether that send is not counted (R421). `pkt` is the packet that carries it alone. -/
structure Unacked where
  psn : BitVec 32
  path : Nat
  order : Nat
  count : Nat := 0
  sentAt : Word := 0
  lost : Bool := false
  free : Bool := false
  pkt : Pkt
  deriving DecidableEq, Repr

/-- An operation at the requester; it holds a manifest entry (R439). `total` is its PSNs, `sent` how many have been sent, `first` the
first of them, `msn` its message number once it sends (R405); `id` counts operations; `status` and `detail` when it fails without a PSN (R457); `post` the command of a list that posted it (R458); `walled` 0 no
Seawall yet, 1 one runs, 2 done, 3 done partly. -/
structure Op where
  id : Nat
  wr : WorkReq
  opcode : Nat
  msn : BitVec 32 := 0
  total : Nat
  sent : Nat := 0
  first : BitVec 32 := 0
  status : Nat := 0
  detail : Nat := 0
  post : Option CmdHdr := none
  untrusted : Bool := false
  walled : Nat := 0
  stopAt : Option Nat := none
  pins : List (Nat × Bool) := []
  deriving DecidableEq, Repr

/-- A message at the responder that has not completed: its receive entry, the PSNs of its first and last packets once known, and how much of
it is placed; `lastIn` when its last packet is placed and not yet recorded (R490); `killed` by R1145. `walled` 0 no Seawall yet, 1 one runs, 2 done. `addr`, `key` and `offset` go on through a RoCE message. -/
structure RMsg where
  msn : BitVec 32
  opcode : Nat
  len : Nat := 0
  total : Nat := 1
  placed : Nat := 0
  last : Option (BitVec 32) := none
  entry : Option RecvEntry := none
  killed : Bool := false
  imm : Nat := 0
  lantern : Nat := 0
  rseawall : Bool := false
  walled : Nat := 0
  partialWall : Bool := false
  untrusted : Bool := false
  first : Option (BitVec 32) := none
  lastIn : Bool := false
  addr : Nat := 0
  key : Nat := 0
  offset : Nat := 0
  deriving DecidableEq, Repr

/-- A packet that waits at a QP for earlier PSNs (R471, R475), a translation or a frozen unit, the window that
admitted it (R266), and whether its tag failed (R937). -/
structure Deferred where
  pkt : Pkt
  adm : Option Nat := none
  bad : Bool := false
  old : Bool := false
  deriving DecidableEq, Repr

/-- One path of a QP or stream as Undertow sees it: the least sample of the current base window and of the previous one, and the latest
sample (R747, R752). -/
structure PathSt where
  cur : Option Nat := none
  prev : Option Nat := none
  delay : Option Nat := none
  ends : Word := 0
  deriving DecidableEq, Repr

/-- The rate of a sender (R744, R749): rate in Mb/s, when it may send next, when it may change its rate next. -/
structure Pace where
  rate : Nat := 0
  sendAt : Word := 0
  adjustAt : Word := 0
  paths : NMap PathSt := []
  deriving DecidableEq, Repr

/-- A proxy slot that is pending (R481). -/
structure ProxySlot where
  slot : Nat
  psn : BitVec 32
  msn : BitVec 32
  opcode : Nat
  size : Nat
  path : Nat
  due : Word := 0
  deriving DecidableEq, Repr

/-- The RoCE v2 parameters of a QP (R492). -/
structure RoceCfg where
  port : Nat
  ipv6 : Bool := false
  dscp : Nat := 0
  hopLimit : Nat := 0
  pmtu : Nat := 5
  pkey : Nat := 0
  sport : Nat := 0
  localIp : Nat := 0
  mac : Nat := 0
  ipHi : Nat := 0
  ipLo : Nat := 0
  deriving DecidableEq, Repr

/-- A queue pair and its context (R382 to R448), or a device stream (R424), whose packets not yet sent are `outq`. `level` is 0 hot, 1 warm, 2 cold; `homed` when it holds a spill slot; `fetching` while its
context is fetched. -/
structure Qp where
  st : QpSt := .free
  fn : Nat := 0
  room : Nat := 0
  die : Nat := 0
  sq : Nat := 0
  rq : Nat := 0xFFF
  maxOps : Nat := 1024
  lantern : Nat := 0xFFFF
  tc : Nat := 0
  spray : Nat := 0
  pathCount : Nat := 1
  sealed : Bool := false
  pinned : Bool := false
  peerQpn : Nat := 0
  peerNode : Nat := 0
  epoch : Nat := 0
  timeout : Nat := 32
  retryLimit : Nat := 7
  rnrLimit : Nat := 7
  window : Nat := 512
  cause : Nat := 0
  nextPsn : BitVec 32 := 0
  nextMsn : BitVec 32 := 0
  lastPath : Nat := 0
  unacked : List Unacked := []
  orders : Nat := 0
  opSeq : Nat := 0
  ops : List Op := []
  rnrCount : Nat := 0
  holdFrom : Option (BitVec 32) := none
  holdSince : Word := 0
  holdUntil : Word := 0
  noInfer : Bool := false
  noInferEnd : Word := 0
  cumPsn : BitVec 32 := 0
  bitmap : List (BitVec 32) := []
  doneMsn : BitVec 32 := 0
  msgs : List RMsg := []
  killed : List (BitVec 32) := []
  deferred : List Deferred := []
  sinceAck : Nat := 0
  ackDue : Word := 0
  echoPsn : BitVec 32 := 0
  echoDelay : BitVec 32 := 0
  detourSeen : Bool := false
  ecnSeen : Bool := false
  atomics : List (BitVec 32 × Word) := []
  level : Nat := 0
  homed : Bool := false
  fetching : Bool := false
  proxyBase : Nat := 0
  proxySlots : Nat := 0
  proxy : List ProxySlot := []
  roce : Option RoceCfg := none
  nakOpen : Bool := false
  cnpSent : Word := 0
  cnpGot : Word := 0
  rpDue : Word := 0
  keySlot : Option Nat := none
  pace : Pace := {}
  outq : List Pkt := []
  deriving DecidableEq, Repr

/-! ## Collectives -/

/-- A tree of an itinerary as its record states it for this device (R549). -/
structure Tree where
  first : Nat
  blocks : Nat
  parent : Nat := 0xFFFF
  rootRank : Nat := 0
  locals : Nat := 0
  children : List Nat := []
  deriving DecidableEq, Repr

/-- An installed itinerary (R548): its record, the collectives that its party has started on it (`count`, and the epoch of each recent
generation and sequence), and the latest epoch opened at this node. -/
structure Itin where
  chunkBlocks : Nat
  window : Nat
  sealed : Bool := false
  tc : Nat := 0
  paths : Nat := 1
  tag : Nat
  total : Nat
  timeout : Nat := 0
  trees : List Tree
  count : Nat := 0
  seqs : List (Nat × Nat × Nat) := []
  epoch : Nat := 0
  opened : Bool := false
  deriving DecidableEq, Repr

/-- A party context (R681). -/
structure Party where
  room : Nat
  tag : Nat
  rank : Nat
  size : Nat
  ctrl : Nat
  gen : Nat
  nextSeq : BitVec 32 := 0
  deriving DecidableEq, Repr

/-- A member's collective from the taking of its number to its completion (R691, R694). `phase`: 0 waits for its turn, 1 in its set-up round,
2 waits for START_TIME, 3 in its bulk phase, 4 in its last round, 5 stopped by an abort, 6 holds its result until START_TIME. `cls` is its
class code, `scanned` the chunks scanned, `conv` and `passed` chunks converted and passed, `sq` the sums of squares, `silent` set when
it writes no completion (R690). `limit` is its TIMEOUT in ticks, `due` when its timer ends, `left` what is left of it while it stands still (R594, R717). -/
structure Member where
  id : Nat
  h : CmdHdr
  op : Nat
  cls : Nat
  room : Nat
  ctx : Nat
  party : Party
  seq : Nat
  bulk : BulkArgs := {}
  sc : ScalarArgs := {}
  phase : Nat := 0
  epoch : Nat := 0
  die : Nat := 0
  late : Bool := false
  unq : Bool := false
  scanned : Nat := 0
  held : List Nat := []
  conv : List Nat := []
  passed : List Nat := []
  bytes : NMap Nat := []
  released : Nat := 0
  sq : NMap Nat := []
  flags : Nat := 0
  untrusted : Bool := false
  cause : Nat := 0
  alerted : Bool := false
  joined : Bool := false
  silent : Bool := false
  normed : Bool := false
  wild : Bool := false
  limit : Nat := 0
  due : Word := 0
  left : Word := 0
  result : List Nat := []
  deriving DecidableEq, Repr

/-- The payload of a chunk that is arriving (R582): who sends it, its kind, its parts by offset, its CHUNK_CRC once known, and whether a packet
named another COUNT or CTRL. -/
structure InMsg where
  src : Nat
  op : Nat
  tree : Nat
  chunk : Nat
  parts : NMap (List Byte) := []
  crc : Option Nat := none
  endAt : Nat := 0
  bad : Bool := false
  deriving DecidableEq, Repr

/-- A chunk of a tree at a node. `ranges` holds, by range, the inputs folded and the values; `sent` counts the ranges passed on; `msns` the
message numbers of its messages by opcode and peer; `out` the result by byte offset; `pool` the room whose units it holds, 256 the
transit pool; `granted` once this node holds G or the grant, `fwd` the result bytes forwarded to the children. -/
structure CChunk where
  tree : Nat
  chunk : Nat
  expIn : Nat := 0
  expMax : List Nat := []
  expDone : Bool := false
  g : List Nat := []
  granted : Bool := false
  opened : Bool := false
  pool : Nat := 256
  die : Nat := 0
  units : List Nat := []
  ranges : NMap (Nat × List Int) := []
  sent : Nat := 0
  msns : NMap (BitVec 32) := []
  untrusted : Bool := false
  out : NMap (List Byte) := []
  outDone : Bool := false
  fwd : Nat := 0
  flags : Nat := 0
  flagsOpen : Bool := false
  done : Bool := false
  deriving DecidableEq, Repr

/-- A collective open at this node of an itinerary (R581). `down` when results travel down, once a local member has said so;
`due` is when its timeout ends (R597). -/
structure CNode where
  itin : Nat
  epoch : Nat
  count : Nat
  ctrl : Nat
  seed : Word := 0
  down : Bool := false
  known : Bool := false
  fin : Bool := false
  nextOpen : NMap Nat := []
  chunks : List CChunk := []
  msgs : List InMsg := []
  due : Word := 0
  deriving DecidableEq, Repr

/-- A round open at this node (R700, R702). `got` names the inputs that are complete, `part` how many elements of an input have come; `vals` the
merged elements, each a flag word and a value; `down` the result elements that have come down; `due` when an abort round stops waiting (R715). -/
structure Round where
  tag : Nat
  gen : Nat
  seq : Nat
  kind : Nat
  ctrl : Nat
  got : List Nat := []
  part : NMap Nat := []
  members : Nat := 0
  sigMin : Nat := 0
  sigMax : Nat := 0
  localFail : Bool := false
  released : Bool := false
  cause : Nat := 0
  vals : NMap (Nat × Int) := []
  up : Bool := false
  down : NMap Nat := []
  pool : Nat := 256
  die : Nat := 0
  units : List Nat := []
  due : Word := 0
  deriving DecidableEq, Repr

/-- The collective engine: contexts, itineraries, members' collectives, nodes and rounds; the sequences whose outcome has been forwarded, those
for which an alert was forwarded, and those called to their abort round. -/
structure Colls where
  parties : NMap Party := []
  itins : NMap Itin := []
  itinResult : Nat := 0
  members : List Member := []
  nextMember : Nat := 0
  nodes : List CNode := []
  rounds : List Round := []
  decided : List (Nat × Nat × Nat) := []
  alerted : List (Nat × Nat × Nat) := []
  called : List (Nat × Nat × Nat) := []
  deriving DecidableEq, Repr

/-! ## Rooms -/

/-- Room states (R893, R916). -/
inductive RoomSt where
  | free | opened | quiescing | quiesced | quarantined
  deriving DecidableEq, Repr

/-- The quotas of a room (R888). -/
structure Quotas where
  mirrored : Bool := false
  queue : Nat := 256
  lantern : Nat := 256
  park : Nat := 256
  porch : Nat := 256
  warm : Nat := 4096
  pin : Nat := 64
  party : Nat := 64
  manifest : Nat := 1024
  qp : Nat := 65536
  window : Nat := 4096
  chartTable : Nat := 32
  lists : NMap Nat := []
  deriving DecidableEq, Repr

/-- One direction of a mailbox (R906). -/
structure MailDir where
  words : NMap Word := []
  len : Nat := 0
  posted : Bool := false
  posts : BitVec 8 := 0
  deriving DecidableEq, Repr

/-- One side's mailbox settings (R915). -/
structure MailCfg where
  vector : Nat := 0
  ackIrq : Bool := false
  irqEn : Bool := false
  deriving DecidableEq, Repr

/-- One bank of a key slot (R925, R926). -/
structure KeyBank where
  words : NMap Word := []
  loaded : Bool := false
  deriving DecidableEq, Repr

/-- A key slot: two banks, the active one, and an armed rotation (R925 to R929). -/
structure KeySlot where
  b0 : KeyBank := {}
  b1 : KeyBank := {}
  active : Nat := 0
  rotateAt : Word := 0
  rotating : Bool := false
  deriving DecidableEq, Repr

/-- A room. -/
structure Room where
  st : RoomSt := .free
  gone : Bool := false
  qcause : Nat := 0
  fn : Nat := 0
  quotas : Quotas := {}
  epoch : Nat := 1
  lanterns : NMap Lantern := []
  leaves1 : NMap Leaf := []
  leaves2 : NMap Leaf := []
  tables : NMap Nat := []
  resv0 : Nat := 0
  resv1 : Nat := 0
  spillBase : Option Nat := none
  spillCount : Nat := 0
  outBox : MailDir := {}
  inBox : MailDir := {}
  guestCfg : MailCfg := {}
  keeperCfg : MailCfg := {}
  keys : NMap KeySlot := []
  removing : Bool := false
  quiesceEnd : Word := 0
  deriving DecidableEq, Repr

/-! ## Errors -/

/-- A latch unit (R974, R992): STATE 0 CLEAR, 1 LATCHED, 2 FATAL; whether its record was kept,
when it latched on the time since the reset, and the UE_AUTO_ACK of its latching (R978). -/
structure Latch where
  st : Nat := 0
  seq : BitVec 8 := 0
  secondary : Nat := 0
  kind : Nat := 0
  dpa : Nat := 0
  time : Word := 0
  recorded : Bool := false
  since : Word := 0
  ack : Nat := 0
  deriving DecidableEq, Repr

/-- An entry of a correctable-error address table (R958, R993). -/
structure CeEntry where
  line : Nat
  count : Nat := 1
  firstAt : Word := 0
  lastAt : Word := 0
  position : Nat := 0
  reported : Bool := false
  deriving DecidableEq, Repr

/-- A Ledger record (R980) before it takes the sequence number of its queue. -/
structure LedgerRec where
  kind : Nat
  severity : Nat := 0
  secondary : Bool := false
  unit : Nat := 0x02FF
  room : Option Nat := none
  object : Nat := 0
  addrKind : Nat := 0
  address : Nat := 0
  access : Nat := 0
  code : Nat := 0
  d0 : Nat := 0
  d1 : Nat := 0
  d2 : Nat := 0
  time : Word := 0
  deriving DecidableEq, Repr

/-- The patrol scrub of one memory (R969). -/
structure Scrub where
  next : Nat := 0
  passStart : Word := 0
  period : Nat := 0
  deriving DecidableEq, Repr

/-- The error unit. -/
structure Errs where
  latches : NMap Latch := []
  ce : NMap (List CeEntry) := []
  ceSecond : NMap Nat := []
  ceSpell : List Nat := []
  ceLim : Nat := 1000
  scrub : NMap Scrub := []
  history : List LedgerRec := []
  fatal : Bool := false
  fatalUnit : Nat := 0
  fatalKind : Nat := 0
  alert : Bool := false
  coresHalted : List Nat := []
  emptySpell : List Nat := []
  codeBad : List (Nat × Nat) := []
  secondAt : Word := 0
  deriving DecidableEq, Repr


/-! ## Fabric ports, router and traffic control -/

/-- States of a fabric port or half (R816). -/
inductive LinkSt where
  | disabled | acquire | handshake | up
  deriving DecidableEq, Repr

/-- A frame that waits to leave a fabric port, or is leaving: its packet, the input it came by (a fabric port, or
32 for the engine ports), the VCs it came and leaves on, and the credits or bytes it holds at its input. -/
structure EgFrame where
  pkt : Pkt
  inPort : Nat := 32
  vcIn : Nat := 0
  vc : Nat := 0
  inIdx : Nat := 0
  credits : Nat := 0
  roce : Option EthHdr := none
  prio : Nat := 0
  detoured : Bool := false
  deriving DecidableEq, Repr

/-- The division of a receiver's credits (R788). -/
structure Division where
  reserve : Nat := 36
  req : Nat := 5928
  reply : Nat := 1976
  deriving DecidableEq, Repr

/-- A fabric port (R778, R787 to R792, R809 to R842, R733 to R740). Tables by index 0 to 9 run over the reserves and
pools of R826, tables by class over the traffic classes. -/
structure FPort where
  enable : Bool := false
  mode : Nat := 0
  st : LinkSt := .disabled
  stB : LinkSt := .disabled
  laneLock : Nat := 0
  hsSince : Word := 0
  offSince : Word := 0
  fecAt : Word := 0
  pfcAt : NMap Word := []
  fecSd : Bool := false
  mismatch : Bool := false
  peerNode : Nat := 0xFFFF
  peerPort : Nat := 0
  peerNodeValid : Bool := false
  peerId : Nat := 0
  upId : Option Nat := none
  helloHeld : Bool := false
  ackSent : Bool := false
  ackGot : Bool := false
  own : Division := {}
  peer : Division := {}
  txAvail : NMap Nat := []
  txCharged : NMap (BitVec 32) := []
  retSeen : NMap (BitVec 32) := []
  rxCharged : NMap (BitVec 32) := []
  rxReturned : NMap (BitVec 32) := []
  rxHeld : NMap Nat := []
  creditDue : Bool := false
  beaconDue : Bool := false
  helloDue : Bool := false
  lost : Bool := false
  fence : Bool := false
  pauseA : NMap Word := []
  pauseB : NMap Word := []
  pfcSent : List Nat := []
  pfcDue : List (Nat × Nat) := []
  ingress : NMap Nat := []
  mgmtHeld : Nat := 0
  egress : List EgFrame := []
  leaving : Option EgFrame := none
  leavingB : Option EgFrame := none
  deficit : NMap Int := []
  turn : Nat := 0
  turnOn : Bool := false
  rr : NMap Nat := []
  throttled : Nat := 0
  deriving DecidableEq, Repr

/-- States of the router (R801). -/
inductive RtSt where
  | unset | run | draining | drained
  deriving DecidableEq, Repr

/-- The router: its state, the node address, and the entries of the route tables that are not zero. -/
structure Router where
  st : RtSt := .unset
  node : Nat := 0
  valid : Bool := false
  cfgErr : Bool := false
  drain : Bool := false
  drainSince : Word := 0
  longDone : Bool := false
  active : NMap Nat := []
  shadow : NMap Nat := []
  result : Nat := 0
  deriving DecidableEq, Repr

/-! ## Keys, life cycle and power -/

/-- The seal engine's own keys, the life cycle and the latest transmit time used under any key (R924 to R950).
`fuse` is a life-cycle state whose fuse is written and which applies from the reset that follows (R945). -/
structure Seal where
  fab : NMap KeySlot := []
  mgmt : NMap (List Byte) := []
  lc : Nat := 2
  erased : Bool := false
  nonce : Nat := 0
  refused : Nat := 0
  lcResult : Nat := 0
  fuse : Option Nat := none
  lastTx : Word := 0
  lastKeys : List Nat := []
  deriving DecidableEq, Repr

/-- A power domain (R1045, R1072): STATE 0 OFF, 1 RETAIN, 2 ON, 3 WAKING, 4 SLEEPING; REQUEST; a request that waits for the
end of a transition (R1073); whether a wake waits for admission, whether it starts from OFF, and whether start-up asked for it. -/
structure Dom where
  st : Nat := 0
  req : Nat := 2
  next : Option Nat := none
  wanting : Bool := false
  cold : Bool := false
  boot : Bool := false
  deriving DecidableEq, Repr

/-- The 54 V input, the reset pin, start-up, the wakes that wait for admission, oldest first, the steps admitted lately with their times, the
limiter and the thermal monitor (R1076 to R1096, R1113 to R1117, R1128 to R1131). `resetDue` is a module reset that waits, by its LAST_RESET code;
`released` is when some PERST# was first released since start-up began, `stepAt` when the limiter made its last step; `tele` holds telemetry by object key. Log 164 (DESIGN CHOICE). -/
structure Power where
  inputOk : Bool := true
  pin : Bool := false
  started : Bool := false
  startMs : Nat := 0
  lastReset : Nat := 0
  resetDue : Option Nat := none
  released : Option Word := none
  stepAt : Word := 0
  queue : List Nat := []
  admits : List (Word × Nat) := []
  duty : Nat := 16
  limiting : Bool := false
  hot : Bool := false
  warm : Bool := false
  alert : Bool := false
  tripped : Bool := false
  tele : NMap Int := []
  teleTime : Word := 0
  mgmtUp : Bool := false
  deriving DecidableEq, Repr

/-! ## The object dictionary -/

/-- The freshness state of a management key (R1014 to R1016): HIGHEST, the accepted values among the 64 below it, and the value in flash. -/
structure Fresh where
  highest : Nat := 0
  seen : List Nat := []
  stored : Nat := 0
  deriving DecidableEq, Repr

/-- The store of a value in flash in progress, with the request that its response answers (R1001, R1030). `key` is the management key under which
the response is authenticated. -/
structure Store where
  index : Nat
  sub : Nat
  value : Nat
  src : RSrc
  frame : RFrame
  key : Option (List Byte) := none
  deriving DecidableEq, Repr

/-- A segmented write that is held (R1017, R1018). -/
structure SegWrite where
  src : RSrc
  tag : Nat
  index : Nat
  sub : Nat
  data : List Byte
  due : Word := 0
  deriving DecidableEq, Repr

/-- An entry of the relay table (R1026): the relay key, who sent the request, and when the entry ends. -/
structure Relay where
  tag : Nat
  keyId : Nat
  fresh : Nat
  src : RSrc
  due : Word := 0
  deriving DecidableEq, Repr

/-- A kept response (R1032). -/
structure Kept where
  src : RSrc
  tag : Nat
  index : Nat
  sub : Nat
  offset : Nat
  data : List Byte
  resp : RFrame
  time : Word
  deriving DecidableEq, Repr

/-- The dictionary's own state: values in flash, whether the defaults return at the next module reset (R1003), stores in progress, held segmented
writes, the relay table, kept responses, freshness by KEY_ID, and MCTP endpoint IDs (key p for the PF of port p, 8 for the sideband). -/
structure Dict where
  flash : NMap Nat := []
  restore : Bool := false
  stores : List Store := []
  writes : List SegWrite := []
  relay : List Relay := []
  kept : List Kept := []
  fresh : NMap Fresh := []
  eids : NMap Nat := []
  deriving DecidableEq, Repr

/-! ## Optics -/

/-- A transmit lane of a fabric port, and its receive side (R851, R856 to R860, R875, R876): `st` as in TUNE_STATE; measurements in the units of R851;
`lockRun`, `outRun`, `driftRun` and `inRun` count consecutive samples within ±5 pm, beyond ±60 pm, beyond and within RING_MARGIN; `pre` is the
setting of its driver's pre-emphasis (R865). -/
structure Lane where
  st : Nat := 0
  tries : Nat := 0
  heater : Nat := 0
  offset : Int := 0
  rx : Int := 0
  tx : Int := 0
  ber : Nat := 0x7FC00000
  drift : Bool := false
  rxWarn : Bool := false
  rxAlarm : Bool := false
  lockRun : Nat := 0
  outRun : Nat := 0
  driftRun : Nat := 0
  inRun : Nat := 0
  pre : Int := 0
  due : Word := 0
  chosen : Bool := false
  deriving DecidableEq, Repr

/-- A laser unit (R861 to R871, R874): `st` and `cause` as in OP_LASER_STATUS; by laser, its current in 0.1 mA, its tap power in 0.01 dBm, its
temperature in 0.01 °C and its start-of-life current, which flash keeps. -/
structure Laser where
  st : Nat := 0
  cause : Nat := 0
  limit : Bool := false
  eol : Bool := false
  current : NMap Nat := []
  tap : NMap Int := []
  temp : NMap Int := []
  sol : NMap Nat := []
  since : Word := 0
  deriving DecidableEq, Repr

/-! ## What leaves the device -/

/-- What the device sends or drives: the model's own record, newest first. `ro` is the Relaxed Ordering attribute (R146, R152); a `hostRead` is a memory
read of CXL.io, or with `cache` the RdCurr of a line (R134); `rdOwn` stands for the RdOwnNoData of each line of a page (R143), `rdOwnLine` for that of
one line by its device address divided by 64 (R142). -/
inductive Out where
  | beacon (port : Nat) (frame : List Byte)
  | msix (fn vector addr data : Nat) (ro : Bool)
  | hostWrite (port addr : Nat) (data : List Byte) (ro : Bool)
  | hostRead (port addr bytes : Nat) (cache : Bool)
  | rdOwnLine (port line : Nat)
  | atsRequest (fn pasid addr : Nat)
  | pageRequest (fn pasid addr : Nat) (last : Bool)
  | invalidated (fn tag : Nat)
  | readData (fn : Nat) (value : Word)
  | hostData (port : Nat) (poisoned : Bool) (data : List Byte)
  | snoopResp (port : Nat)
  | rdOwn (port page : Nat)
  | zeroRead (port room : Nat) (ro : Bool)
  | atomicOp (port : Nat) (addr : Nat) (opcode size : Nat)
  | ptp (m : PtpMsg)
  | ppsPulse (time : Word)
  | packet (port : Nat) (p : Pkt)
  | drop (port reason : Nat)
  | credit (port : Nat) (frame : List Byte)
  | hello (port : Nat) (frame : List Byte)
  | frame (port half : Nat) (hdr : List Byte) (p : Pkt)
  | ethFrame (port half : Nat) (h : EthHdr) (p : Pkt)
  | stomp (port : Nat)
  | pauseFrame (port half : Nat) (prio : Nat) (time : Nat)
  | deliver (port : Nat) (p : Pkt)
  | deliverRoce (port : Nat) (h : EthHdr) (p : Pkt)
  | toManagement (port : Nat) (frame : List Byte)
  | relivicel (dst : RSrc) (f : RFrame)
  | mctp (endpoint command : Nat) (data : List Nat)
  | resolution (target mac : Nat)
  deriving DecidableEq, Repr

/-- The second and third copies of a critical field (TRV, R14) that disagree with the first, which the field's own place holds. Log 20 (DEDUCED). -/
inductive Trv where
  | tide (b c : TideSt)
  | hport (port : Nat) (b c : PortSt)
  | window (index : Nat) (b c : Nat)
  | queue (key : Nat) (b c : QSt)
  | desk (fn : Nat) (b c : QSt)
  | router (b c : RtSt)
  | fport (port : Nat) (b c : LinkSt)
  | fportB (port : Nat) (b c : LinkSt)
  | laser (unit : Nat) (b c : Nat)
  | lane (key : Nat) (b c : Nat)
  | room (r : Nat) (b c : RoomSt)
  | latch (unit : Nat) (b c : Nat)
  | domain (d : Nat) (b c : Nat)
  deriving DecidableEq, Repr

/-- The state of the block; `trv` lists the critical fields whose copies disagree, every other field's copies being equal (R1064). -/
structure State where
  pending : List Instr := []
  out : List Out := []
  free : Nat := 0
  regs : NMap Word := []
  eff : NMap Word := []
  bufs : NMap Boundary := []
  events : NMap Word := []
  cnt : NMap Word := []
  snap : NMap Word := []
  arms : NMap Word := []
  objs : NMap Nat := []
  objNow : NMap Nat := []
  tide : Tide := {}
  hports : NMap HostPort := []
  funcs : NMap Func := []
  hmem : NMap (List Host.Cell) := []
  hpoison : NMap (List Nat) := []
  mem : DevMem := {}
  mapLines : NMap (List Nat) := []
  ds : NMap DsPort := []
  tcache : List TEntry := []
  ats : List AtsReq := []
  invals : List (Nat × Nat) := []
  windows : NMap Window := []
  winNext : Nat := 1
  winFreed : List Nat := []
  queues : NMap Queue := []
  lists : List ListRec := []
  rrRoom : NMap Nat := []
  rrQueue : NMap Nat := []
  tilesHalted : List Nat := []
  seawalls : List SeawallRec := []
  nextSeawall : Nat := 0
  qps : NMap Qp := []
  porch : NMap (List Pkt) := []
  hot : NMap (List Nat) := []
  warm : NMap (List Nat) := []
  rooms : NMap Room := []
  coll : Colls := {}
  errs : Errs := {}
  fports : NMap FPort := []
  router : Router := {}
  heldPkts : List Pkt := []
  ethResult : Nat := 0
  tokens : NMap Int := []
  tokenFrac : NMap Nat := []
  sealing : Seal := {}
  doms : NMap Dom := []
  lanes : NMap Lane := []
  lasers : NMap Laser := []
  laserEn : Bool := false
  peTemp : NMap Int := []
  power : Power := {}
  dict : Dict := {}
  trv : List Trv := []
  deriving DecidableEq, Repr

/-! ## Reset -/

/-- The order in which start-up asks for wakes: router planes and Harbour groups, then tiles, host ports, fabric ports, laser units, memories and
the downstream ports (R1093 and the start-up table). -/
def bootOrder : List Nat :=
  [144, 145, 146, 147] ++ (List.range 16).map (fun i => 128 + i) ++ List.range 64 ++ (List.range 8).map (fun i => 104 + i) ++
    (List.range 32).map (fun i => 64 + i) ++ (List.range 8).map (fun i => 96 + i) ++ (List.range 12).map (fun i => 116 + i) ++ [112, 113, 114, 115]

/-- The machine right after power-up, with empty flash: the PF rooms are OPEN (R880), the always-on domains are ON, every other domain waits for its
start-up wake (R1093), and everything else holds its reset value. Log 14 (DESIGN CHOICE), 15 (PRESUMED), 16 (DESIGN CHOICE). -/
def State.reset : State where
  free := 2
  regs := (List.range 8).map (fun u => (0x340100 + 0x40 * u, 1))
  rooms := (List.range 8).map (fun p => (p, { st := .opened, fn := 65 * p, quotas := { lists := [0, 1, 2, 3, 5, 6].map (fun c => (c, 16)) } }))
  doms := (List.range 148).map (fun d => (d, { wanting := true, cold := true, boot := true })) ++
    [(148, { st := 2 }), (149, { st := 2 }), (150, { st := 2 })]
  sealing := { nonce := (Config.freeValue 0).toNat + 2 ^ 64 * (Config.freeValue 1).toNat }
  power := { queue := bootOrder }


end Sys2Proof.Machine
end

