-- ==== Sys2Proof/Machine/Ops.lean ====
section
/-! DEFINITION. The named operations over registers, objects, events, counters, interrupts, host memory and device
memory. Each answers the state with only the fields it may change written anew. -/

namespace Sys2Proof.Machine

open Sys2Proof

/-- What a command answers. -/
abbrev Answer := Host.Outcome State Fault Refusal

/-! ## What a command may change -/

/-- The parts of the state that a command may change: every field but the queue. -/
inductive Piece where
  | out | free | regs | eff | bufs | events | cnt | snap | arms | objs | objNow | tide | hports | funcs | hmem | hpoison
  | mem | mapLines | ds | tcache | ats | invals | windows | winNext | winFreed | queues | lists | rrRoom | rrQueue | tilesHalted
  | seawalls | nextSeawall | qps | porch | hot | warm | rooms | coll | errs | fports | router | heldPkts | ethResult | tokens
  | tokenFrac | sealing | doms | lanes | lasers | laserEn | peTemp | power | dict | trv
  deriving DecidableEq, Repr

/-- Keep of a state only what a command may change; the queue and every other part stay. Log 161 (DESIGN CHOICE). -/
def keep (l : List Piece) (s r : State) : State :=
  { s with
    out := if l.contains .out then r.out else s.out
    free := if l.contains .free then r.free else s.free
    regs := if l.contains .regs then r.regs else s.regs
    eff := if l.contains .eff then r.eff else s.eff
    bufs := if l.contains .bufs then r.bufs else s.bufs
    events := if l.contains .events then r.events else s.events
    cnt := if l.contains .cnt then r.cnt else s.cnt
    snap := if l.contains .snap then r.snap else s.snap
    arms := if l.contains .arms then r.arms else s.arms
    objs := if l.contains .objs then r.objs else s.objs
    objNow := if l.contains .objNow then r.objNow else s.objNow
    tide := if l.contains .tide then r.tide else s.tide
    hports := if l.contains .hports then r.hports else s.hports
    funcs := if l.contains .funcs then r.funcs else s.funcs
    hmem := if l.contains .hmem then r.hmem else s.hmem
    hpoison := if l.contains .hpoison then r.hpoison else s.hpoison
    mem := if l.contains .mem then r.mem else s.mem
    mapLines := if l.contains .mapLines then r.mapLines else s.mapLines
    ds := if l.contains .ds then r.ds else s.ds
    tcache := if l.contains .tcache then r.tcache else s.tcache
    ats := if l.contains .ats then r.ats else s.ats
    invals := if l.contains .invals then r.invals else s.invals
    windows := if l.contains .windows then r.windows else s.windows
    winNext := if l.contains .winNext then r.winNext else s.winNext
    winFreed := if l.contains .winFreed then r.winFreed else s.winFreed
    queues := if l.contains .queues then r.queues else s.queues
    lists := if l.contains .lists then r.lists else s.lists
    rrRoom := if l.contains .rrRoom then r.rrRoom else s.rrRoom
    rrQueue := if l.contains .rrQueue then r.rrQueue else s.rrQueue
    tilesHalted := if l.contains .tilesHalted then r.tilesHalted else s.tilesHalted
    seawalls := if l.contains .seawalls then r.seawalls else s.seawalls
    nextSeawall := if l.contains .nextSeawall then r.nextSeawall else s.nextSeawall
    qps := if l.contains .qps then r.qps else s.qps
    porch := if l.contains .porch then r.porch else s.porch
    hot := if l.contains .hot then r.hot else s.hot
    warm := if l.contains .warm then r.warm else s.warm
    rooms := if l.contains .rooms then r.rooms else s.rooms
    coll := if l.contains .coll then r.coll else s.coll
    errs := if l.contains .errs then r.errs else s.errs
    fports := if l.contains .fports then r.fports else s.fports
    router := if l.contains .router then r.router else s.router
    heldPkts := if l.contains .heldPkts then r.heldPkts else s.heldPkts
    ethResult := if l.contains .ethResult then r.ethResult else s.ethResult
    tokens := if l.contains .tokens then r.tokens else s.tokens
    tokenFrac := if l.contains .tokenFrac then r.tokenFrac else s.tokenFrac
    sealing := if l.contains .sealing then r.sealing else s.sealing
    doms := if l.contains .doms then r.doms else s.doms
    lanes := if l.contains .lanes then r.lanes else s.lanes
    lasers := if l.contains .lasers then r.lasers else s.lasers
    laserEn := if l.contains .laserEn then r.laserEn else s.laserEn
    peTemp := if l.contains .peTemp then r.peTemp else s.peTemp
    power := if l.contains .power then r.power else s.power
    dict := if l.contains .dict then r.dict else s.dict
    trv := if l.contains .trv then r.trv else s.trv }

/-- What the answer to a front desk command changes: rings in host or device memory, and what follows a write to them and what it may meet. -/
abbrev answers : List Piece := [.out, .cnt, .hports, .funcs, .hmem, .mem, .events, .queues, .errs, .ds, .mapLines]

/-- What an event of a block and its interrupt change. -/
abbrev interrupts : List Piece := [.out, .hports, .funcs, .events]

/-- What an entry of an event or Ledger queue changes. -/
abbrev reports : List Piece := answers

/-- What an access to data changes. -/
abbrev dataAccess : List Piece := reports ++ [.tide, .objNow, .tcache, .ats, .fports, .lanes, .free]

/-- What a command of a list that touches no data changes. -/
abbrev listWork : List Piece := reports ++ [.tide, .lists, .seawalls, .nextSeawall, .rooms]

/-- What a command that moves data for a list or a QP changes. -/
abbrev transfers : List Piece := dataAccess ++ [.lists, .seawalls, .nextSeawall, .rooms, .qps, .heldPkts, .tokens]

/-- What a collective changes. -/
abbrev collectives : List Piece := transfers ++ [.coll]

/-- What a packet, or the loss of a port or room, changes. -/
abbrev losses : List Piece := collectives ++ [
  .windows, .porch, .hot, .warm, .invals, .winFreed, .tilesHalted]

/-- All parts: what a restart changes. -/
abbrev everything : List Piece := [
  .out, .free, .regs, .eff, .bufs, .events, .cnt, .snap, .arms, .objs, .objNow, .tide, .hports, .funcs, .hmem, .hpoison, .mem, .mapLines, .ds,
  .tcache, .ats, .invals, .windows, .winNext, .winFreed, .queues, .lists, .rrRoom, .rrQueue, .tilesHalted, .seawalls, .nextSeawall, .qps,
  .porch, .hot, .warm, .rooms, .coll, .errs, .fports, .router, .heldPkts, .ethResult, .tokens, .tokenFrac, .sealing, .doms, .lanes,
  .lasers, .laserEn, .peTemp, .power, .dict, .trv]

/-! ## Blocks, registers and objects -/

/-- Base of the register block with index b in the Innkeeper's BAR0 (R1042). -/
def blkBase (b : Nat) : Nat :=
  if 24 ≤ b then 0x300000 + 0x1000 * (b - 24)
  else if 16 ≤ b then 0x280000 + 0x1000 * (b - 16)
  else match b with
    | 14 => 0x200000 | 1 => 0x210000 | 2 => 0x220000 | 3 => 0x230000 | 4 => 0x240000 | 5 => 0x250000
    | 13 => 0x260000 | 11 => 0x270000 | 8 => 0x340000 | 9 => 0x380000 | 6 => 0x400000 | 12 => 0x440000
    | 0 => 0x480000 | 10 => 0x500000 | 7 => 0x600000 | _ => 0

/-- A register as software wrote it, or its reset value. -/
def rd (s : State) (off rst : Nat) : Word := mget s.regs off (BitVec.ofNat 64 rst)

/-- The value of a register in force: for a buffered field the value before a write whose boundary has not come (R14). -/
def rdEff (s : State) (off rst : Nat) : Word :=
  match mfind s.eff off with
  | some v => v
  | none => rd s off rst

/-- Set a register. -/
def wr (off : Nat) (v : Word) (s : State) : State := { s with regs := mset s.regs off v }

/-- Write a register whose fields are buffered: the value in force stays until the boundary (R14, R114). -/
def wrBuf (off rst : Nat) (v : Word) (bd : Boundary) (s : State) : State :=
  { s with
    eff := (match mfind s.eff off with | some _ => s.eff | none => mset s.eff off (rd s off rst))
    regs := mset s.regs off v
    bufs := mset s.bufs off bd }

/-- The key of an object in the table of object values. Log 142 (DEDUCED). -/
def okey (idx sub : Nat) : Nat := idx * 256 + sub

/-- The value of an object, or its default. -/
def obj (s : State) (idx sub d : Nat) : Nat := mget s.objs (okey idx sub) d

/-- The value of an object in force: a written value that waits for a reset or a link leaves the value before it in force (the objects' "Applies
at" column). Log 142 (DEDUCED). -/
def objF (s : State) (idx sub d : Nat) : Nat :=
  match mfind s.objNow (okey idx sub) with
  | some v => v
  | none => obj s idx sub d

/-- An object read as a signed 32-bit number. -/
def objI32 (s : State) (idx sub : Nat) : Int := (BitVec.ofNat 32 (obj s idx sub 0)).toInt

/-- Record what the device sends. Log 9 (DESIGN CHOICE). -/
def emit (o : Out) (s : State) : State := { s with out := o :: s.out }

/-- The next free value (Config.freeValue). Log 5 (DESIGN CHOICE). -/
def freshVal (s : State) : Word := Config.freeValue s.free

/-- Use one free value up. Log 5 (DESIGN CHOICE). -/
def useFresh (s : State) : State := { s with free := s.free + 1 }

/-! ## Functions -/

/-- The number of the function with slot k of host port p: 0 the PF, 1 to 64 the VFs (R879). -/
def fnOf (p k : Nat) : Nat := 65 * p + k

/-- The host port of a function. -/
def fnPort (fn : Nat) : Nat := fn / 65

/-- The slot of a function on its port. -/
def fnSlot (fn : Nat) : Nat := fn % 65

/-- The host port of the Innkeeper PF (object 0xA000:01, R131). -/
def innPort (s : State) : Nat := objF s 0xA000 1 0

/-- The Innkeeper PF. -/
def innFn (s : State) : Nat := fnOf (innPort s) 0

/-- Whether a function is the Innkeeper. -/
def isInn (s : State) (fn : Nat) : Bool := fn == innFn s

/-- A function's record. -/
def func (s : State) (fn : Nat) : Func := mget s.funcs fn {}

/-- Change a function's record. -/
def modFunc (fn : Nat) (f : Func → Func) (s : State) : State := { s with funcs := mmod s.funcs fn {} f }

/-- A host port's record. -/
def hport (s : State) (p : Nat) : HostPort := mget s.hports p {}

/-- Change a host port's record. -/
def modHport (p : Nat) (f : HostPort → HostPort) (s : State) : State := { s with hports := mmod s.hports p {} f }

/-- The room of a function: the room that is not FREE and bound to its slot (R125, R879). -/
def roomOf (s : State) (fn : Nat) : Option Nat :=
  match s.rooms.find? (fun p => p.2.fn == fn && p.2.st != .free) with
  | some p => some p.1
  | none => none

/-- A room's record. -/
def room (s : State) (r : Nat) : Room := mget s.rooms r {}

/-- Change a room's record. -/
def modRoom (r : Nat) (f : Room → Room) (s : State) : State := { s with rooms := mmod s.rooms r {} f }

/-- A QP's record. -/
def qp (s : State) (n : Nat) : Qp := mget s.qps n {}

/-- Change a QP's record. -/
def modQp (n : Nat) (f : Qp → Qp) (s : State) : State := { s with qps := mmod s.qps n {} f }

/-! ## Interrupts and host memory -/

/-- The message of a vector, as its table entry gives it (R130), with Relaxed Ordering clear (R146). -/
def msixMsg (s : State) (fn vector : Nat) : Out :=
  let e := mget (func s fn).msgs vector (0, 0)
  .msix fn vector e.1 e.2 false

/-- Raise an MSI-X message: a masked vector sets its pending bit (R328), a port in HOLD keeps the message behind its
writes (R147, R156), and a port in DOWN sends nothing (R158). -/
def msix (fn vector : Nat) (s : State) : State :=
  { s with
    funcs := (if (func s fn).masked.contains vector then
        mmod s.funcs fn {} (fun f => { f with pend := sadd f.pend vector }) else s.funcs)
    hports := (if (func s fn).masked.contains vector then s.hports
      else match (hport s (fnPort fn)).st with
        | .hold => mmod s.hports (fnPort fn) {} (fun h => { h with held := h.held ++ [.msix fn vector] })
        | _ => s.hports)
    out := (if (func s fn).masked.contains vector then s.out
      else match (hport s (fnPort fn)).st with
        | .up => msixMsg s fn vector :: s.out
        | _ => s.out) }

/-- Write bytes into a sparse memory whose unlisted bytes are zero: addresses stay rising, and a zero removes its entry. Log 7 (DEDUCED). -/
def cellSet (m : List Host.Cell) (a : Nat) (v : Byte) : List Host.Cell :=
  match m with
  | [] => if v = 0 then [] else [(a, v)]
  | (b, w) :: r =>
    if a < b then (if v = 0 then (b, w) :: r else (a, v) :: (b, w) :: r)
    else if a = b then (if v = 0 then r else (a, v) :: r)
    else (b, w) :: cellSet r a v

/-- One byte of a sparse memory. Log 7 (DEDUCED). -/
def cellGet (m : List Host.Cell) (a : Nat) : Byte := mget m a 0

/-- Write a run of bytes. -/
def cellSets (m : List Host.Cell) (a : Nat) : List Byte → List Host.Cell
  | [] => m
  | b :: r => cellSets (cellSet m a b) (a + 1) r

/-- Read a run of bytes. -/
def cellGets (m : List Host.Cell) (a n : Nat) : List Byte := (List.range n).map (fun i => cellGet m (a + i))

/-- Host memory of a port. Log 6 (DESIGN CHOICE). -/
def hostCells (s : State) (p : Nat) : List Host.Cell := mget s.hmem p []

/-- Read host memory through a port. Log 6 (DESIGN CHOICE). -/
def hostRead (s : State) (p a n : Nat) : List Byte := cellGets (hostCells s p) a n

/-- Cut a range at the naturally aligned boundaries of a size (R124): the pieces, by address and length, in ascending order. -/
def cutGo (m : Nat) : Nat → Nat → Nat → List (Nat × Nat)
  | 0, _, _ => []
  | k + 1, a, n => if n = 0 then [] else (a, Nat.min n (m - a % m)) :: cutGo m k (a + Nat.min n (m - a % m)) (n - Nat.min n (m - a % m))

/-- A range as it is sent where requests carry at most m bytes: whole if it is no longer, else cut at the boundaries of m (R124). -/
def pieces (m a n : Nat) : List (Nat × Nat) := if n ≤ m || m = 0 then [(a, n)] else cutGo m (n / m + 2) a n

/-- The posted writes that carry bytes to host memory through a port, by the Max Payload Size in force (R124). -/
def writesOf (s : State) (p a : Nat) (data : List Byte) (ro : Bool) : List Out :=
  (pieces (hport s p).mps a data.length).map (fun x => Out.hostWrite p x.1 ((data.drop (x.1 - a)).take x.2) ro)

/-- The requests that read host memory through a port: RdCurr of each line in CXL mode where HOST_READ_PATH is 1 (R134), else memory reads by the
Max Read Request Size in force (R124). -/
def readsOf (s : State) (p a n : Nat) : List Out :=
  if n = 0 then []
  else if (hport s p).cxl && objF s 0x2006 (p + 1) 0 == 1 then
    (List.range ((a + n - 1) / 64 - a / 64 + 1)).map (fun i => Out.hostRead p ((a / 64 + i) * 64) 64 true)
  else (pieces (hport s p).mrrs a n).map (fun x => Out.hostRead p x.1 x.2 false)

/-- Send the requests of a read of host memory; a port that is not UP sends none (R156). Log 6 (DESIGN CHOICE), 207 (DESIGN CHOICE). -/
def hostAsk (p a n : Nat) (s : State) : State :=
  { s with out := (if (hport s p).st = .up then (readsOf s p a n).reverse ++ s.out else s.out) }

/-- Write host memory through a port: at once in UP, kept in order in HOLD, discarded in DOWN (R155, R156); `ro` for data, clear for entries of
rings (R146). Log 6 (DESIGN CHOICE), 207 (DESIGN CHOICE). -/
def hostWrite (p a : Nat) (data : List Byte) (ro : Bool) (s : State) : State :=
  { s with
    hmem := (match (hport s p).st with
      | .up => mset s.hmem p (cellSets (hostCells s p) a data)
      | _ => s.hmem)
    hports := (match (hport s p).st with
      | .hold => mmod s.hports p {} (fun h => { h with held := h.held ++ [.write a data ro] })
      | _ => s.hports)
    out := (match (hport s p).st with
      | .up => (writesOf s p a data ro).reverse ++ s.out
      | _ => s.out) }

/-! ## Events and counters -/

/-- An EVENT register of a block. -/
def evReg (s : State) (b : Nat) : Word := mget s.events b 0

/-- Whether bit i of an EVENT register is set. -/
def evBit (s : State) (b i : Nat) : Bool := (evReg s b).getLsbD i

/-- Whether an EVENT register holds a set event bit: bit b of GLB_EVENT_SUM (R1066). -/
def evAny (w : Word) : Bool := wfld w 55 0 != 0

/-- SEQ advances by 1 modulo 256 and the bit sets (R1058). Log 159 (DEDUCED). -/
def evNext (w : Word) (i : Nat) : Word :=
  setFld (w ||| (1#64 <<< i)) 63 56 ((wfld w 63 56 + 1) % 256)

/-- The Innkeeper's interrupt of R1067 is allowed for block b. -/
def irqOn (s : State) (b : Nat) : Bool :=
  wfld (rd s 0x200018 0) 15 15 == 1 && (rd s 0x200040 0x00FFFFFFFFFFFFFF).getLsbD b

/-- Raise event bit i of block b (R1058); a summary bit that rises raises the Innkeeper's vector, and a new bit of RM_EVENT raises the vector of
RM_CFG as well (R1067, R917). Log 159 (DEDUCED). -/
def raise (b i : Nat) (s : State) : State :=
  let s1 : State := { s with events := mset s.events b (evNext (evReg s b) i) }
  let s2 := if irqOn s b && !evAny (evReg s b) then msix (innFn s) (wfld (rd s 0x200018 0) 10 0) s1 else s1
  let s3 := if b = 10 && !evBit s b i then msix (innFn s) (wfld (rd s 0x500008 0) 10 0) s2 else s2
  { s1 with
    funcs := s3.funcs
    hports := s3.hports
    out := s3.out }

/-- Advance a counter, named by the BAR0 offset of its holding register; it wraps (R1061). Log 160 (DESIGN CHOICE). -/
def bumpBy (off n : Nat) (s : State) : State := { s with cnt := mmod s.cnt off 0 (fun v => v + BitVec.ofNat 64 n) }

/-- Advance a counter by 1. Log 160 (DESIGN CHOICE). -/
def bump (off : Nat) (s : State) : State := bumpBy off 1 s

/-- A counter's live value. -/
def counter (s : State) (off : Nat) : Word := mget s.cnt off 0

/-- Bit i of a number. -/
def nbit (a i : Nat) : Nat := (a / 2 ^ i) % 2

/-- A register image from a number. -/
def img (n : Nat) : Word := BitVec.ofNat 64 n

/-- A bit set as a number, from a range of bits. -/
def bitsOf (n : Nat) (f : Nat → Bool) : Nat := (List.range n).foldl (fun a i => a + b2n (f i) * 2 ^ i) 0

/-- What of a register an access covers: byte enables that are those of a whole half or of the whole register are that; any others cover no part, and
a write of that shape is ignored silently (R1049). -/
def wholePart : Part → Option Part
  | .bytes e => if e % 256 = 0xFF then some .full else if e % 256 = 0x0F then some .low else if e % 256 = 0xF0 then some .high else none
  | p => some p

/-- The bytes of a register that a mask of byte enables selects; the others read zero (R1049). -/
def enabledBytes (e : Nat) (v : Word) : Word := img (bitsOf 64 (fun i => nbit e (i / 8) == 1 && v.getLsbD i))

/-- A write of a part of a register that an access covers whole (R1049). -/
def byPart (p : Part) (f : Part → State → State) (s : State) : State := match wholePart p with | some q => f q s | none => s

/-! ## Arms -/

/-- Whether a block holds an armed unlock (R1053). -/
def armed (s : State) (b : Nat) : Bool := (mfind s.arms b).isSome

/-- Use or lose a block's arm (R1054). -/
def disarm (b : Nat) (s : State) : State := { s with arms := mdel s.arms b }

/-- Count a silent rejection (R951). -/
def silent (s : State) : State := bump 0x380128 s

/-! ## The map of device memory -/

/-- Usable capacity of the expander on a downstream port (R166, R167). -/
def dsUsable (s : State) (d : Nat) : Nat :=
  let p := mget s.ds d {}
  if p.st = 2 then Nat.min p.capacity (2 ^ 40) else if p.st = 3 then Nat.min p.capacity (2 ^ 40) else 0

/-- Whether a DPA has memory behind it (R175, R177). -/
def dpaPresent (s : State) (a : Nat) : Bool :=
  if a < 0x4000000000 then true
  else if 0x10000000000 ≤ a ∧ a < 0x20000000000 then true
  else if 0x20000000000 ≤ a ∧ a < 0x60000000000 then
    let d := a / 2 ^ 40 - 2
    let p := mget s.ds d {}
    p.st == 2 && !p.offline && decide (a % 2 ^ 40 < dsUsable s d)
  else if 0xF00000000000 ≤ a ∧ a < 0xF00007400000 then true
  else decide (0xF00008000000 ≤ a ∧ a < 0xF0000F400000)

/-- The tier controller of a DPA (R178, R179, R210), if it lies in a tier. -/
def tierCtl (s : State) (a : Nat) : Option Nat :=
  if a < 0x4000000000 then
    some (if s.mem.dieLocal0 then 2 * nbit a 37 + nbit a 12 else (a / 4096) % 4)
  else if 0x10000000000 ≤ a ∧ a < 0x20000000000 then
    some (4 + (if s.mem.dieLocal1 then 4 * nbit a 39 + (a / 4096) % 4 else (a / 4096) % 8))
  else if 0x20000000000 ≤ a ∧ a < 0x60000000000 then some (12 + (a / 2 ^ 40 - 2))
  else none

/-- The bank of its die that holds general unit u of 64 KiB (R1071). Log 12 (DEDUCED). -/
def unitBank (u : Nat) : Nat := if u < 16 then 8 else 9 + (u - 16) / 80

/-- The Harbour bank of a DPA in the general carve-out: units lie in it in their order (R1071; log entry 12). Log 12 (DEDUCED). -/
def harbourBank (a : Nat) : Option Nat :=
  if 0xF00000000000 ≤ a ∧ a < 0xF00007400000 then some (unitBank ((a - 0xF00000000000) / 65536))
  else if 0xF00008000000 ≤ a ∧ a < 0xF0000F400000 then some (32 + unitBank ((a - 0xF00008000000) / 65536))
  else none

/-- The number of a 4 KiB block in the local address of its tier controller: the DPA without the bits that select the controller (R180). Log 166 (DESIGN CHOICE). -/
def localBlock (s : State) (b : Nat) : Nat :=
  if b < 0x4000000 then (if s.mem.dieLocal0 then b / 2 % 2 ^ 24 else b / 4)
  else if b < 0x20000000 then (if s.mem.dieLocal1 then b / 4 % 2 ^ 25 else b / 8 % 2 ^ 25)
  else b % 2 ^ 28

/-- The block of the DPA map that has a number in the local address of a tier controller. Log 166 (DESIGN CHOICE). -/
def globalBlock (s : State) (c l : Nat) : Nat :=
  if c < 4 then (if s.mem.dieLocal0 then c / 2 * 2 ^ 25 + l * 2 + c % 2 else l * 4 + c)
  else if c < 12 then 2 ^ 28 + (if s.mem.dieLocal1 then (c - 4) / 4 * 2 ^ 27 + l * 4 + (c - 4) % 4 else l * 8 + (c - 4))
  else (c - 10) * 2 ^ 28 + l

/-- The word of a valid-bit map that holds a block's bit: 64 bits of the map of its controller, whose number is c in c × 2³² + word (R183). -/
def mapWord (s : State) (b : Nat) : Option Nat := (tierCtl s (b * 4096)).map (fun c => c * 2 ^ 32 + localBlock s b / 64)

/-- The home die of a DPA (R175, R178, R179, R181): none in all-controller mode. -/
def homeDie (s : State) (a : Nat) : Option Nat :=
  if a < 0x4000000000 then (if s.mem.dieLocal0 then some (nbit a 37) else none)
  else if 0x10000000000 ≤ a ∧ a < 0x20000000000 then (if s.mem.dieLocal1 then some (nbit a 39) else none)
  else if 0x20000000000 ≤ a ∧ a < 0x40000000000 then some 0
  else if 0x40000000000 ≤ a ∧ a < 0x60000000000 then some 1
  else if a < 0xF00008000000 then some 0 else some 1

/-- The latch unit of a DPA (R974): its tier controller or its Harbour bank. -/
def latchUnit (s : State) (a : Nat) : Nat :=
  match tierCtl s a with
  | some c => c
  | none => match harbourBank a with | some b => 16 + b | none => 0

/-- The memory number m of a DPA (R955). -/
def memNo (s : State) (a : Nat) : Nat :=
  match tierCtl s a with
  | some c => c
  | none => if a < 0xF00008000000 then 16 else 17

/-- The unit number under which a DPA's unit is frozen: tier controller c is c, Harbour bank b is 16 + b. -/
def freezeUnit (s : State) (a : Nat) : Nat := latchUnit s a

/-! ## Reading and writing device memory -/

/-- A leaf entry (R237). -/
def Leaf.entry (l : Leaf) : Nat := l.dpa + 16 * b2n l.write + 8 * b2n l.read + 4 * b2n l.atomic + 2

/-- The level-2 entry that covers a DVA (R237). -/
def entry2 (r : Room) (dva : Nat) : Nat :=
  match mfind r.leaves2 (dva / 2 ^ 39) with
  | some l => l.entry
  | none => match mfind r.tables (dva / 2 ^ 39) with | some t => 0x3E000000 + 4096 * t + 1 | none => 0

/-- The level-1 entry that covers a DVA, or zero (R241). -/
def entry1 (r : Room) (dva : Nat) : Nat := match mfind r.leaves1 (dva / 2 ^ 30) with | some l => l.entry | none => 0

/-- Entry i of a table of the chart pool: the root of a room, or the level-1 table of whichever room holds it (R235, R236). -/
def chartWord (s : State) (t i : Nat) : Nat :=
  if t < 256 then entry2 (room s t) (i * 2 ^ 39)
  else
    match s.rooms.findSome? (fun r => (r.2.tables.find? (fun x => x.2 == t)).map (fun x => (r.2, x.1))) with
    | some (r, k) => entry1 r (k * 2 ^ 39 + i * 2 ^ 30)
    | none => 0

/-- Word i of a window table entry (R260). -/
def Window.word (w : Window) : Nat → Nat
  | 0 => w.base % 2 ^ 64
  | 1 => w.len % 2 ^ 40
  | 2 => w.gen.toNat * 2 ^ 56 + w.room % 256 * 2 ^ 48 + w.pasid % 2 ^ 20 * 2 ^ 20 + b2n w.pasidValid * 2 ^ 16 + b2n w.sealed * 128 + b2n w.space * 64 +
      b2n w.atomic * 32 + b2n w.rread * 16 + b2n w.rwrite * 8 + b2n w.zeroBased * 4 + w.st % 4
  | 3 => w.admitted % 2 ^ 32 * 2 ^ 32 + b2n w.qpBound * 2 ^ 31 + w.qpn % 2 ^ 24
  | _ => 0

/-- The bytes of the chart pool and of the window table, from the tables they hold (R235, R259); no other place is theirs. Log 189 (DEDUCED). -/
def tableByte (s : State) (a : Nat) : Option Byte :=
  if 0x3E000000 ≤ a ∧ a < 0x40000000 then
    some (BitVec.ofNat 8 (chartWord s ((a - 0x3E000000) / 4096) (a % 4096 / 8) / 2 ^ (8 * (a % 8))))
  else if 0x3C000000 ≤ a ∧ a < 0x3E000000 then
    some (BitVec.ofNat 8 ((mget s.windows ((a - 0x3C000000) / 32) {}).word (a % 32 / 8) / 2 ^ (8 * (a % 8))))
  else none

/-- Bytes of device memory: unlisted bytes read zero (R184); in the tables that commands alone change (R238) they read as the tables stand.
Log 7 (DEDUCED), 189 (DEDUCED). Log 7 (DEDUCED), 189 (DEDUCED). -/
def devRead (s : State) (a n : Nat) : List Byte :=
  if 0x3C000000 < a + n ∧ a < 0x40000000 then (List.range n).map (fun i => (tableByte s (a + i)).getD (cellGet s.mem.cells (a + i)))
  else cellGets s.mem.cells a n

/-- The 4 KiB blocks that a range touches, given by the first block and how many. -/
def blocksOf (a n : Nat) : List Nat :=
  if n = 0 then [] else (List.range ((a + n - 1) / 4096 - a / 4096 + 1)).map (fun i => a / 4096 + i)

/-- Blocks of a range whose valid bit is clear and which the range covers only in part: each counts a zero-fill (R184). -/
def zeroFills (m : DevMem) (a n : Nat) : List Nat :=
  (blocksOf a n).filter (fun b => !m.valid.contains b && !(decide (a ≤ b * 4096) && decide (b * 4096 + 4096 ≤ a + n)))

/-- Whether a port's window maps a DPA into a page that the host shares (R139): such a line is resolved with the host before an engine's access (R142). -/
def sharedLine (h : HostPort) (a : Nat) : Bool :=
  h.cxl && decide (h.winBase * 2 ^ 30 ≤ a) && decide (a < h.winBase * 2 ^ 30 + 2 ^ 36) && h.shared.contains ((a - h.winBase * 2 ^ 30) / 2 ^ 21)

/-- An engine's access to device memory resolves each line of a shared page over CXL.cache first (R142). Log 185 (DEDUCED). -/
def resolveLines (a n : Nat) (s : State) : State :=
  if n = 0 || s.hports.all (fun h => h.2.shared.isEmpty) then s
  else
    { s with out := (s.hports.flatMap (fun h =>
        ((List.range ((a + n - 1) / 64 - a / 64 + 1)).filter (fun i => sharedLine h.2 ((a / 64 + i) * 64))).map
          (fun i => Out.rdOwnLine h.1 (a / 64 + i)))).reverse ++ s.out }

/-- Store bytes into device memory: they land, the valid bits of the blocks set, whole poisoned lines lose their marker
(R184, R964). Log 7 (DEDUCED). -/
def memStore (m : DevMem) (a : Nat) (data : List Byte) : DevMem :=
  { m with
    cells := cellSets m.cells a data
    valid := (blocksOf a data.length).foldl sadd m.valid
    poison := m.poison.filter (fun l => !(decide (a ≤ l * 64) && decide (l * 64 + 64 ≤ a + data.length)))
    latentUe := m.latentUe.filter (fun l => !(decide (a ≤ l * 64) && decide (l * 64 + 64 ≤ a + data.length)))
    latentCe := m.latentCe.filter (fun l => !(decide (a ≤ l * 64) && decide (l * 64 + 64 ≤ a + data.length))) }

/-- Keep of a memory only what a write of data may change. -/
def memData (m n : DevMem) : DevMem :=
  { m with cells := n.cells, valid := n.valid, poison := n.poison, latentUe := n.latentUe, latentCe := n.latentCe }

/-- Look up the valid bit of a block in the map cache of its tier controller: 1,024 lines of 512 blocks each, and a miss is counted (R183). The
Harbour keeps its map in registers. Log 166 (DESIGN CHOICE). -/
def mapTouch (s : State) (b : Nat) : State :=
  match tierCtl s (b * 4096) with
  | none => s
  | some c =>
    let l := localBlock s b / 512
    let q := mget s.mapLines c []
    if q.contains l then { s with mapLines := mset s.mapLines c (q.filter (fun x => x != l) ++ [l]) }
    else
      { s with
        mapLines := mset s.mapLines c ((if 1024 ≤ q.length then q.drop 1 else q) ++ [l])
        cnt := mmod s.cnt (0x210120 + 0x40 * c) 0 (fun v => v + 1) }

/-- Look up the valid bits of every block of a range. Log 166 (DESIGN CHOICE). -/
def mapUse (a n : Nat) (s : State) : State :=
  let r := (blocksOf a n).foldl mapTouch s
  { s with mapLines := r.mapLines, cnt := r.cnt }

/-- How many bytes of a range lie in a block. -/
def bytesIn (a n b : Nat) : Nat := Nat.min (a + n) (b * 4096 + 4096) - Nat.max a (b * 4096)

/-- Count an amount of each block of a range on the controller that holds it: in the counter at an offset of that controller's (R184). -/
def countBlocks (o : Nat) (f : Nat → Nat) (l : List Nat) (s : State) : State :=
  l.foldl (fun s b => match tierCtl s (b * 4096) with | some c => bumpBy (0x210100 + o + 0x40 * c) (f b) s | none => s) s

/-- Write device memory, with the byte and zero-fill counters of the tier controllers. -/
def devWrite (a : Nat) (data : List Byte) (s : State) : State :=
  let m := mapUse a data.length s
  { s with
    mem := memStore s.mem a data
    mapLines := m.mapLines
    cnt := (countBlocks 0x18 (fun _ => 1) (zeroFills s.mem a data.length) (countBlocks 8 (bytesIn a data.length) (blocksOf a data.length) m)).cnt }

/-- Clear the valid bits of whole blocks: their bytes read zero and their markers go (R184, R206, R964). -/
def clearBlocks (m : DevMem) (b n : Nat) : DevMem :=
  { m with
    cells := m.cells.filter (fun c => !(decide (b * 4096 ≤ c.1) && decide (c.1 < (b + n) * 4096)))
    valid := m.valid.filter (fun v => !(decide (b ≤ v) && decide (v < b + n)))
    poison := m.poison.filter (fun l => !(decide (b * 64 ≤ l) && decide (l < (b + n) * 64)))
    latentUe := m.latentUe.filter (fun l => !(decide (b * 64 ≤ l) && decide (l < (b + n) * 64)))
    latentCe := m.latentCe.filter (fun l => !(decide (b * 64 ≤ l) && decide (l < (b + n) * 64))) }

/-- What an access to device memory meets first: its address and whether it is absent, poisoned (a repeat) or newly in
error, a unit in FATAL, or the map word of a block in error (R187). -/
inductive Bad where
  | absent (a : Nat) | repeated (line : Nat) | fresh (line : Nat) | dead (a : Nat) | map (a : Nat)
  deriving DecidableEq, Repr

/-- The byte address of what an access meets. -/
def Bad.addr : Bad → Nat
  | .absent a => a
  | .dead a => a
  | .map a => a
  | .repeated l => l * 64
  | .fresh l => l * 64

/-- The lower of two addresses. -/
def lowBad (x y : Option Bad) : Option Bad :=
  match x, y with
  | none, r => r
  | r, none => r
  | some a, some b => if b.addr < a.addr then some b else some a

/-- The first absent address of a range: its own first, or the end of a region of R175 that it reaches (R177). -/
def firstAbsent (s : State) (a n : Nat) : Option Nat :=
  if n = 0 then none
  else if !dpaPresent s a then some a
  else
    let stops := [0x4000000000, 0x20000000000, 0x30000000000, 0x40000000000, 0x50000000000, 0x60000000000, 0xF00007400000, 0xF0000F400000,
      0x20000000000 + dsUsable s 0, 0x30000000000 + dsUsable s 1, 0x40000000000 + dsUsable s 2, 0x50000000000 + dsUsable s 3]
    sleast stops (fun x => decide (a < x) && decide (x < a + n) && !dpaPresent s x)

/-- The first address of a range whose memory unit is in FATAL (R975): every access to it is an uncorrectable error. -/
def deadAt (s : State) (a n : Nat) : Option Bad :=
  if s.errs.latches.all (fun p => p.2.st != 2) then none
  else
    match (blocksOf a n).find? (fun b => dpaPresent s (b * 4096) && (mget s.errs.latches (latchUnit s (b * 4096)) {}).st == 2) with
    | some b => some (.dead (Nat.max a (b * 4096)))
    | none => none

/-- The first address of a range whose valid-bit map word meets an uncorrectable error as it is read (R187); the Harbour's map is in registers (R183). -/
def mapAt (s : State) (a n : Nat) : Option Bad :=
  if s.mem.badMap = [] then none
  else ((blocksOf a n).find? (fun b => match mapWord s b with | some w => s.mem.badMap.contains w | none => false)).map
    (fun b => Bad.map (Nat.max a (b * 4096)))

/-- The first thing that a read of a range meets (R961, R962, R965, R975). A read of a block whose valid bit is clear
touches no memory (R184). Log 33 (DESIGN CHOICE). -/
def firstBad (s : State) (a n : Nat) : Option Bad :=
  if n = 0 then none else
  let inR := fun l => decide (a / 64 ≤ l) && decide (l ≤ (a + n - 1) / 64) && s.mem.valid.contains (l / 64)
  let rep := (sleast s.mem.poison inR).map Bad.repeated
  let new := (sleast s.mem.latentUe inR).map Bad.fresh
  let ab := (firstAbsent s a n).map Bad.absent
  lowBad (deadAt s a n) (lowBad ab (lowBad (mapAt s a n) (lowBad rep new)))

/-- The first thing that a write of a range meets: lines it covers whole are overwritten unseen (R964, R1140). -/
def firstBadW (s : State) (a n : Nat) : Option Bad :=
  if n = 0 then none else
  let partOf := fun l => decide (a / 64 ≤ l) && decide (l ≤ (a + n - 1) / 64) && s.mem.valid.contains (l / 64) &&
    !(decide (a ≤ l * 64) && decide (l * 64 + 64 ≤ a + n))
  let rep := (sleast s.mem.poison partOf).map Bad.repeated
  let new := (sleast s.mem.latentUe partOf).map Bad.fresh
  let ab := (firstAbsent s a n).map Bad.absent
  lowBad (deadAt s a n) (lowBad ab (lowBad (mapAt s a n) (lowBad rep new)))

/-- Whether some unit that a range touches is frozen; its requests wait (R212). Log 170 (DEDUCED). -/
def anyFrozen (s : State) (a n : Nat) : Bool :=
  !s.mem.frozen.isEmpty && (s.mem.frozen.contains (freezeUnit s a) || s.mem.frozen.contains (freezeUnit s (a + n - 1)) ||
    (decide (4096 < n) && s.mem.frozen.any (fun u => (blocksOf a n).any (fun b => freezeUnit s (b * 4096) == u))))

/-- An accepted level change of an input puts the filter width last written for it in force (R1123). Log 195 (DEDUCED). -/
def inputAccepted (i : Nat) (s : State) : State := { s with objNow := mdel s.objNow (okey 0x6010 i) }

/-! ## Banks with a duty of their own -/

/-- Fabric ports whose router buffering a bank of a die holds (R1071, R975): 2 MiB a port in banks of 5 MiB. Log 134 (DEDUCED). -/
def bankPorts (b : Nat) : List Nat :=
  let l := b % 32
  let base := if 32 ≤ b then 16 else 0
  let three := fun (k : Nat) => match k with | 0 => [0, 1, 2] | 1 => [2, 3, 4] | _ => [5, 6, 7]
  if l < 3 then (three l).map (fun x => base + x)
  else if 4 ≤ l && l < 7 then (three (l - 4)).map (fun x => base + 8 + x)
  else []

/-- A Harbour bank that holds any part of the context cache or the Porch (R1071). Log 134 (DEDUCED). -/
def bankVital (b : Nat) : Bool := b % 32 == 3 || b % 32 == 7 || b % 32 == 8

/-- Whether a frozen bank holds router buffering of a fabric port, whose ingress it stops (R39, R211). Log 170 (DEDUCED). -/
def ingressFrozen (s : State) (p : Nat) : Bool := s.mem.frozen.any (fun u => decide (16 ≤ u) && (bankPorts (u - 16)).contains p)

/-- Whether the bank of a die's context cache is frozen: what uses a queue pair of the die waits (R39, R212). Log 170 (DEDUCED). -/
def cacheFrozen (s : State) (die : Nat) : Bool := s.mem.frozen.contains (16 + 32 * die + 3)

/-- Whether a bank of a die's Porch is frozen: a packet waits to be parked there (R39, R212). Log 170 (DEDUCED). -/
def porchFrozen (s : State) (die : Nat) : Bool := s.mem.frozen.contains (16 + 32 * die + 7) || s.mem.frozen.contains (16 + 32 * die + 8)

/-- Whether the tier-0 controller that holds a queue pair's context in extent 0 is frozen, which stalls its fetch (R211). Log 170 (DEDUCED). -/
def ctxFrozen (s : State) (n : Nat) : Bool := anyFrozen s (Config.ctxSlot n).toNat 1

/-- Whether a frozen bank keeps a queue pair from being used: its cache, or the Porch where its context is not hot. Log 170 (DEDUCED). -/
def qpFrozen (s : State) (n : Nat) : Bool :=
  let q := qp s n
  q.st != .free && (cacheFrozen s q.die || (q.level != 0 && porchFrozen s q.die))

/-! ## Tide state -/

/-- The time since the last reset of the module, in ticks: a step of the tide count and a tide reset leave it (R85, R1086). Log 177 (DEDUCED). -/
def elapsed (s : State) : Word := s.tide.count - s.tide.base

/-- The bound of the accuracy budget, in ticks: 8 at the master, 4 more for each hop, and 8 more for drift at 16 hops. -/
def hopBound (h : Nat) : Nat := 8 + (if h = 0xFF then 0 else 4 * h) + (if 16 ≤ h ∧ h < 0xFF then 8 else 0)

/-- The estimated error in HOLDOVER, in ticks times 10⁸: the bound of the hop count at entry, and 160 ticks for each second since entry (R88). -/
def holdError (t : Tide) : Nat := hopBound t.holdHops * 100000000 + (t.count - t.holdAt).toNat

/-- HOLDOVER_LIMIT in the same units. -/
def holdLimit (s : State) : Nat := obj s 0x4003 2 100 * 16 * 100000000

/-- Qualified, by R89. -/
def qualified (s : State) : Bool :=
  match s.tide.st with
  | .locked => true
  | .holdover => decide (holdError s.tide ≤ holdLimit s) || s.tide.isMaster
  | .freerun => s.tide.isMaster
  | .acquire => false

/-- The time a record or event carries: TD_NOW resolves to 16 ticks (R63). -/
def nowRes (s : State) : Word := BitVec.ofNat 64 (s.tide.count.toNat / 16 * 16)

end Sys2Proof.Machine
end

