-- ==== Sys2Proof/Machine/Seal0.lean ====
section
/-! DEFINITION. The bytes of a Waybill packet, and the tag of a sealed one (R394, R400, R401, R460, R461, R566, R698, R920 to
R928). -/

namespace Sys2Proof.Machine

open Sys2Proof

/-- Bytes of the extension of an opcode (R400, R401, R460, R461, R566, R698). -/
def extLen (op : Nat) : Nat :=
  if op = 0xC0 then 32 else if op = 0xC1 then 16
  else if op = 0x10 ∨ op = 0x11 then 8
  else if op = 0x07 ∨ op = 0x08 then 40
  else if op < 0x10 then 24
  else if op < 0x48 then 32 else 88

/-- Bytes of a packet, from its header to its trailer (R395, R813). Log 172 (DEDUCED). -/
def pktBytes (p : Pkt) : Nat := 32 + extLen p.opcode + p.payload.length + (if p.sealed then 16 else 0) + 4

/-- The base header (R394), with HOPS_LEFT and DETOUR as given. -/
def hdrBytes (p : Pkt) (hops : Nat) (detour : Bool) : List Byte :=
  beBytes 4 (p.version % 16 * 2 ^ 28 + b2n p.reply * 2 ^ 27 + p.tc % 8 * 2 ^ 24 + p.opcode % 256 * 2 ^ 16 +
    b2n p.sealed * 2 ^ 15 + b2n p.ar * 2 ^ 14 + b2n p.rt * 2 ^ 13 + b2n p.first * 2 ^ 12 + b2n p.last * 2 ^ 11 +
    b2n detour * 2 ^ 10 + b2n p.stream * 2 ^ 9 + hops % 256) ++
  beBytes 2 p.dstNode ++ beBytes 2 p.srcNode ++ beBytes 3 p.dstQpn ++ beBytes 1 p.path ++ beBytes 3 p.srcQpn ++
  beBytes 1 p.epoch ++ beBytes 4 p.psn.toNat ++ beBytes 4 p.txStamp.toNat ++ beBytes 4 p.msn.toNat ++
  beBytes 2 p.payload.length ++ beBytes 2 0

/-- SACK as its 16 bytes: bit i of the set in byte 48 + i / 8, most significant bit first (R400). -/
def sackBytes (v : Nat) : List Byte :=
  beBytes 16 ((List.range 128).foldl (fun a i => a + nbit v i * 2 ^ (127 - i)) 0)

/-- The extension of a packet. -/
def extBytes (p : Pkt) : List Byte :=
  let c := p.coll
  if p.opcode = 0xC0 then
    beBytes 4 p.cumPsn.toNat ++ beBytes 4 p.echoPsn.toNat ++ beBytes 4 p.echoDelay.toNat ++
      beBytes 4 (b2n p.detourSeen * 2 ^ 31 + b2n p.ecnSeen * 2 ^ 30) ++ sackBytes p.sack
  else if p.opcode = 0xC1 then
    beBytes 4 p.nakPsn.toNat ++ beBytes 4 p.cumPsn.toNat ++ beBytes 2 (p.nakCode % 256 * 256) ++ beBytes 2 p.hint ++ beBytes 4 0
  else if p.opcode = 0x10 then beBytes 4 p.reqPsn.toNat ++ beBytes 4 p.offset
  else if p.opcode = 0x11 then beBytes 8 p.original.toNat
  else if p.opcode < 0x10 then
    beBytes 8 p.addr ++ beBytes 4 p.key ++ beBytes 4 p.msgLen ++ beBytes 4 p.imm ++ beBytes 4 (b2n p.rseawall * 2 ^ 31) ++
      (if p.opcode = 0x07 ∨ p.opcode = 0x08 then beBytes 8 p.compareAdd.toNat ++ beBytes 8 p.swap.toNat else [])
  else if p.opcode < 0x48 then
    beBytes 2 c.itin ++ beBytes 1 (c.tree * 4) ++ beBytes 1 (b2n c.untrusted * 128) ++ beBytes 4 c.chunk ++
      beBytes 4 c.offset ++ beBytes 4 c.crc ++ beBytes 4 c.count ++ beBytes 4 c.ctrl ++ beBytes 1 c.cause ++ beBytes 7 0
  else
    beBytes 4 c.party ++ beBytes 4 c.seq ++ beBytes 1 c.kind ++
      beBytes 1 (b2n c.localFail * 128 + b2n c.released * 64 + b2n c.tainted * 32 + b2n c.notAll * 16) ++
      beBytes 1 c.cause ++ beBytes 1 0 ++ beBytes 4 c.members ++ beBytes 2 c.firstElem ++ beBytes 2 c.elems ++ beBytes 4 0 ++
      beBytes 32 c.sigMin ++ beBytes 32 c.sigMax

/-! ## CRC-32C -/

/-- One bit of the reflected Castagnoli polynomial. -/
def crcBit (c : BitVec 32) : BitVec 32 := if c.getLsbD 0 then (c >>> 1) ^^^ 0x82F63B78 else c >>> 1

/-- One byte. -/
def crcByte (c : BitVec 32) (b : Byte) : BitVec 32 :=
  crcBit (crcBit (crcBit (crcBit (crcBit (crcBit (crcBit (crcBit (c ^^^ b.setWidth 32))))))))

/-- The CRC-32C of a run of bytes (R396, R566). -/
def crc32c (l : List Byte) : Nat := (l.foldl crcByte 0xFFFFFFFF ^^^ 0xFFFFFFFF).toNat

/-- The trailer of a packet: the CRC-32C of every byte before it, with HOPS_LEFT and DETOUR as zero (R396). -/
def trailerOf (p : Pkt) : Nat := crc32c (hdrBytes p 0 false ++ extBytes p ++ p.payload ++ (if p.sealed then p.tag else []))

/-- Whether a packet's trailer is that of its bytes (R396, R399). -/
def trailerOk (p : Pkt) : Bool := p.trailer == trailerOf p

/-- A packet with the trailer that its bytes give it. -/
def withTrailer (p : Pkt) : Pkt := { p with trailer := trailerOf p }

/-- The bytes of a packet in the order in which they are sent; the trailer most significant byte first (R394 to R396). -/
def pktWire (p : Pkt) : List Byte :=
  hdrBytes p p.hopsLeft p.detour ++ extBytes p ++ p.payload ++ (if p.sealed then p.tag else []) ++ beBytes 4 p.trailer

/-! ## Tags -/

/-- The bytes that a tag covers: HOPS_LEFT and DETOUR count as zero (R920). -/
def pktAad (p : Pkt) : List Byte := hdrBytes p 0 false ++ extBytes p ++ p.payload

/-- The IV of a sealed packet: SRC_NODE, zero, and the sender's tide time as it leaves (R921). Log 128 (DEDUCED). -/
def pktIv (node : Nat) (time : Word) : Nat := node % 2 ^ 16 * 2 ^ 80 + time.toNat

/-- The sender's time that a receiver rebuilds from TX_STAMP (R922). Log 128 (DEDUCED). -/
def rebuilt (now : Word) (tx : BitVec 32) : Word :=
  now - BitVec.ofInt 64 ((BitVec.ofNat 32 now.toNat - tx).toInt)

/-- A bank of a slot. -/
def KeySlot.bank (k : KeySlot) (b : Nat) : KeyBank := if b = 0 then k.b0 else k.b1

/-- The bank that a packet of a given transmit time uses (R928). -/
def KeySlot.bankAt (k : KeySlot) (time : Word) : Nat :=
  if k.rotating && reached k.rotateAt time then 1 - k.active else k.active

/-- The key a bank holds, as one number (R925). -/
def KeyBank.key (b : KeyBank) : Nat :=
  (mget b.words 0 0).toNat + (mget b.words 1 0).toNat * 2 ^ 64 + (mget b.words 2 0).toNat * 2 ^ 128 +
    (mget b.words 3 0).toNat * 2 ^ 192

/-- The key slot of a packet, seen from the QP or stream numbered `own` on this device (R932, R935). -/
def pktSlot (s : State) (stream : Bool) (own : Nat) : KeySlot :=
  if stream then mget s.sealing.fab (own % 2 ^ 16 % 16) {}
  else
    let q := mget s.qps own {}
    mget (room s q.room).keys (q.keySlot.getD 0) {}

/-- The tag of a packet under a slot, at a transmit time (R920, R928). Log 10 (DESIGN CHOICE). -/
def tagOf (k : KeySlot) (time : Word) (p : Pkt) : List Byte :=
  Config.gmac ((k.bank (k.bankAt time)).key) (pktIv p.srcNode time) (pktAad p)

/-- Whether a tile may receive lists: its domain is ON, it is enabled and it has not halted (EN_TILE_STATE). -/
def tileAvail (s : State) (t : Nat) : Bool :=
  (mget s.doms t {}).st == 2 && (rd s 0x250000 0xFFFFFFFFFFFFFFFF).getLsbD t && !s.tilesHalted.contains t

/-- Whether a seal tile is available on either die (R940). -/
def sealTile (s : State) : Bool := [28, 29, 60, 61].any (tileAvail s)

/-- Whether a received sealed packet passes its check: the tag under the key that the rebuilt transmit time selects. A key bank
that is not LOADED passes nothing. Log 10 (DESIGN CHOICE). -/
def sealOk (s : State) (own : Nat) (p : Pkt) : Bool :=
  let k := pktSlot s p.stream own
  let t := rebuilt s.tide.count p.txStamp
  (k.bank (k.bankAt t)).loaded && p.tag == tagOf k t p

/-- A packet as it leaves at the timestamp plane: TX_STAMP, the tag of a sealed packet, and the trailer over all of it (R394, R396, R920, R921). -/
def stampPkt (s : State) (p : Pkt) : Pkt :=
  let p1 := { p with txStamp := BitVec.ofNat 32 s.tide.count.toNat }
  withTrailer (if p1.sealed then { p1 with tag := tagOf (pktSlot s p1.stream p1.srcQpn) s.tide.count p1 } else p1)

/-- Whether a sealed packet may leave now: a seal tile is available (R940), the tick has passed every transmit time used (R924),
or it is the latest one and not yet used under this key (R923). -/
def sealReady (s : State) (p : Pkt) : Bool :=
  let k := pktSlot s p.stream p.srcQpn
  let d := sdiff s.tide.count s.sealing.lastTx
  sealTile s && (s.sealing.lastKeys.isEmpty || decide (0 < d) ||
    (d == 0 && !s.sealing.lastKeys.contains (k.bank (k.bankAt s.tide.count)).key))

/-- Record the transmit time that a sealed packet uses, and count it (SL_CNT_SEALED_TX). -/
def sealUse (p : Pkt) (s : State) : State :=
  let k := pktSlot s p.stream p.srcQpn
  let key := (k.bank (k.bankAt s.tide.count)).key
  { s with
    sealing := { s.sealing with
      lastTx := s.tide.count
      lastKeys := if s.sealing.lastTx = s.tide.count then key :: s.sealing.lastKeys else [key] }
    cnt := (bump 0x380100 s).cnt }

end Sys2Proof.Machine
end

