-- ==== Sys2Proof/Machine/Fabric0.lean ====
section
/-! DEFINITION. The shared operations of the fabric side: port state and availability (R778), the route lookup (R773 to R782),
token buckets (R721 to R728), eligibility (R733), credits (R787 to R791), what waits for a port and how a frame starts. -/

namespace Sys2Proof.Machine

open Sys2Proof

/-! ## Ports -/

/-- A fabric port's record. -/
def fport (s : State) (p : Nat) : FPort := mget s.fports p {}

/-- Change a fabric port's record. -/
def modFport (p : Nat) (f : FPort → FPort) (s : State) : State := { s with fports := mmod s.fports p {} f }

/-- The port is UP: in breakout, while either half is (R811). -/
def FPort.isUp (f : FPort) : Bool := f.st == .up || (f.mode == 2 && f.stB == .up)

/-- A port in direct mode (R809). -/
def FPort.direct (f : FPort) : Bool := f.mode == 0

/-- A port is available for forwarding (R778). -/
def FPort.avail (f : FPort) : Bool := f.isUp && !f.fence && !f.lost

/-- The half of a port that carries a packet (R811); a RoCE packet takes half A whenever it is UP (R832). -/
def FPort.half (f : FPort) (p : Pkt) (roce : Bool) : Nat :=
  if f.mode = 2 then
    (if f.st = .up && f.stB = .up then (if roce then 0 else (p.path ^^^ p.dstNode) % 2)
     else if f.stB = .up then 1 else 0)
  else 0

/-- The rate of a port or half, in Mb/s (R809). -/
def FPort.rate (f : FPort) : Nat := if f.mode = 2 then 800000 else 1600000

/-! ## The direct-mode link layer (R818 to R820) -/

/-- The eight bytes of a link header (R819): KIND, and, of a DATA frame, VC, POOL, VNET and TC; LENGTH big-endian; the rest zero. -/
def linkHdr (kind vc pool vnet tc len : Nat) : List Byte :=
  [BitVec.ofNat 8 (kind % 16 * 16 + vc % 4 * 4 + pool % 2 * 2 + vnet % 2), BitVec.ofNat 8 (tc % 8 * 32)] ++ beBytes 2 len ++ List.replicate 4 0

/-- A CONTROL, BEACON or MGMT frame: its header, its body, and the CRC-32C of both, most significant byte first (R818). -/
def linkFrame (kind : Nat) (body : List Byte) : List Byte :=
  let h := linkHdr kind 0 0 0 0 body.length ++ body
  h ++ beBytes 4 (crc32c h)

/-- The body of a received frame of a kind: its LENGTH is that of its body, and its CRC is right (R818, R819). -/
def linkBody (kind : Nat) (l : List Byte) : Option (List Byte) :=
  let n := l.length - 12
  if 12 ≤ l.length && (l.getD 0 0).toNat / 16 == kind && ofBe ((l.drop 2).take 2) == n && ofBe (l.drop (8 + n)) == crc32c (l.take (8 + n))
  then some ((l.drop 8).take n) else none

/-- The link header of a DATA frame (R819, R820). -/
def dataHdr (k : Pkt) (vc pool : Nat) : List Byte := linkHdr 0 vc pool (b2n k.reply) k.tc (pktBytes k)

/-! ## Ethernet encapsulation (R829 to R832) -/

/-- An Ethernet peer: whether it is IPv6, and its address; the table lies in device memory (R831). -/
def ethPeer (s : State) (node : Nat) : Option (Bool × Nat) :=
  let d := devRead s (0x3A000000 + 32 * (node % 65536)) 32
  let f := ofLe ((d.drop 16).take 1)
  if nbit f 0 = 1 then some (nbit f 1 == 1, if nbit f 1 = 1 then ofBe (d.take 16) else ofBe ((d.drop 12).take 4)) else none

/-- Local address i of a port, if it is VALID (R845). -/
def localAddr (s : State) (p i : Nat) : Option (Bool × Nat) :=
  let d := leBytes 17 (obj s (0x2810 + p) (i + 1) 0)
  let f := ofLe (d.take 1)
  if nbit f 0 = 1 then some (nbit f 1 == 1, if nbit f 1 = 1 then ofBe (d.drop 1) else ofBe (d.drop 13)) else none

/-- The local address that Waybill packets of a port carry (WAYBILL_SRC_IP). -/
def srcAddr (s : State) (p : Nat) : Option (Bool × Nat) := localAddr s p (obj s 0x2805 (p + 1) 0 % 8)

/-- Whether an Ethernet-mode port can reach a node: R832. -/
def ethReach (s : State) (p node : Nat) : Bool :=
  match ethPeer s node, srcAddr s p with
  | some (a, _), some (b, _) => a == b
  | _, _ => false

/-- A port can take a packet to a node at all: in Ethernet mode, R832. Log 100 (DEDUCED). -/
def portReach (s : State) (p node : Nat) : Bool := (fport s p).direct || ethReach s p node

/-- The MAC address of a port or half: the module's base + 2p, + 1 for half B (object 0x2802). -/
def portMac (_ : State) (p half : Nat) : Nat := (Config.macBase.toNat + 2 * p + half) % 2 ^ 48

/-- The headers that a Waybill packet takes on an Ethernet-mode port (R830). -/
def ethHdrOf (s : State) (p half : Nat) (k : Pkt) (ecn : Nat) : EthHdr :=
  let peer := (ethPeer s k.dstNode).getD (false, 0)
  let src := (srcAddr s p).getD (false, 0)
  let vlan := obj s 0x2803 (p + 1) 0
  let sport := 0xC000 + 16 * ((k.srcQpn ^^^ k.dstQpn) % 1024) + k.path
  { dst := ofBe (leBytes 6 (obj s 0x2804 (p + 1) 0))
    src := portMac s p half
    vid := if vlan = 0 then none else some vlan
    pcp := if vlan = 0 then 0 else fld (obj s 0x2832 0 0x0706050403020100) (8 * k.tc + 7) (8 * k.tc)
    ipv6 := peer.1
    dscp := fld (obj s 0x2831 0 0x3830282018100800) (8 * k.tc + 7) (8 * k.tc)
    ecn := ecn
    hops := obj s 0x2806 (p + 1) 64
    srcIp := src.2
    dstIp := peer.2
    flow := if peer.1 then sport else 0
    sport := sport
    dport := obj s 0x2830 0 53100
    ethertype := if peer.1 then 0x86DD else 0x0800
    bytes := 14 + (if vlan = 0 then 0 else 4) + (if peer.1 then 40 else 20) + 8 + pktBytes k + 4 }

/-- The bytes of a frame on a port (R813). -/
def frameBytes (s : State) (p : Nat) (e : EgFrame) : Nat :=
  match e.roce with
  | some h => h.bytes
  | none => if (fport s p).direct then pktBytes e.pkt else (ethHdrOf s p 0 e.pkt 0).bytes

/-! ## Token buckets -/

/-- Configuration of a bucket in force (R722). -/
def bucketCfg (s : State) (off : Nat) : Word := rdEff s off (65536 * 2 ^ 32 + 1600000)

/-- Whether a bucket limits its traffic. -/
def bucketOn (s : State) (off : Nat) : Bool := (bucketCfg s off).getLsbD 63

/-- The token count of a bucket; the second half of a breakout port has its own (R811). -/
def bucketTok (s : State) (off half : Nat) : Int :=
  if bucketOn s off then mget s.tokens (off + half) (wfld (bucketCfg s off) 55 32 : Int) else (wfld (bucketCfg s off) 55 32 : Int)

/-- Charge a bucket (R726, R727). -/
def bucketCharge (off half n : Nat) (s : State) : State :=
  { s with tokens := if bucketOn s off then mset s.tokens (off + half) (bucketTok s off half - n) else s.tokens }

/-- The port-class shaper of a port and class. -/
def pshape (p c : Nat) : Nat := 0x410000 + 0x400 * p + 0x10 * c

/-- The room shaper and the Breakwater of a room. -/
def rshape (r : Nat) : Nat := 0x420000 + 0x40 * r

/-- The Breakwater of a room. -/
def rpolice (r : Nat) : Nat := 0x420010 + 0x40 * r

/-- The room whose shaper a packet of this device is charged to: that of the sending QP for requests and for the responses of reads and atomics,
that of the lowest-ranked local member for a packet of a collective, none for others (R730). Log 171 (DEDUCED). -/
def shaperRoom (s : State) (k : Pkt) : Option Nat :=
  if k.opcode = 0xC0 || k.opcode = 0xC1 || k.opcode = 0x81 then none
  else if k.stream then
    match mfind s.coll.itins (k.srcQpn % 65536) with
    | none => none
    | some t =>
      (s.coll.parties.foldl (fun (a : Option Party) x =>
        if x.2.tag ≠ t.tag then a
        else match a with | some y => if y.rank ≤ x.2.rank then a else some x.2 | none => some x.2) none).map (fun y => y.room)
  else (mfind s.qps k.srcQpn).map (fun q => q.room)

/-- Whether the shaper of its room lets a packet start (R726). Log 171 (DEDUCED). -/
def roomReady (s : State) (k : Pkt) : Bool :=
  match shaperRoom s k with
  | some r => decide (0 ≤ bucketTok s (rshape r) 0)
  | none => true

/-- Charge a packet of some bytes to the shaper of its room (R726, R730). Log 171 (DEDUCED). -/
def roomCharge (k : Pkt) (bytes : Nat) (s : State) : State :=
  match shaperRoom s k with
  | some r => bucketCharge (rshape r) 0 (bytes + 32) s
  | none => s

/-! ## Gates and eligibility -/

/-- The gates of a port that are open: all of them while its table is disabled (R94) or, with FALLBACK_OPEN, while the device is
not qualified (R118). Log 21 (DEDUCED). -/
def gatesOpen (s : State) (p : Nat) : BitVec 8 :=
  let c := rd s (0x490000 + 0x2000 * p) 0x100000000
  if !c.getLsbD 0 then 0xFF
  else if c.getLsbD 3 && !qualified s then 0xFF
  else let t := mget s.tide.ports p {}; t.gates &&& ~~~t.slack

/-- A frame of a class may start on a port or half (R733). -/
def eligible (s : State) (p half c : Nat) : Bool :=
  (gatesOpen s p).getLsbD c && decide (0 ≤ bucketTok s (pshape p c) half) &&
    (let f := fport s p
     f.direct || (mfind (if half = 0 then f.pauseA else f.pauseB) c).isNone)

/-! ## Credits -/

/-- The credits that a frame costs (R787). -/
def creditCost (k : Pkt) : Nat := (pktBytes k + 255) / 256

/-- The reserve index of a network and VC (R820). -/
def vcIdx (reply : Bool) (vc : Nat) : Nat := 4 * b2n reply + vc

/-- The capacity of a reserve or pool (R788). -/
def Division.cap (d : Division) (i : Nat) : Nat := if i < 8 then d.reserve else if i = 8 then d.req else d.reply

/-- The reserve or pool that a frame is charged to: its VC's reserve when that holds enough, else its network's pool, else none
(R789). -/
def chargeIdx (f : FPort) (k : Pkt) (vc : Nat) : Option Nat :=
  let c := creditCost k
  let i := vcIdx k.reply vc
  let j := if k.reply then 9 else 8
  if c ≤ mget f.txAvail i 0 then some i else if c ≤ mget f.txAvail j 0 then some j else none

/-- Whether a waiting frame could start on a port as far as credits and its seal go. -/
def sendable (s : State) (p : Nat) (e : EgFrame) : Bool :=
  (!(fport s p).direct || (chargeIdx (fport s p) e.pkt e.vc).isSome) &&
    (e.inPort != 32 || !e.pkt.sealed || e.roce.isSome || sealReady s e.pkt)

/-! ## Waiting frames -/

/-- EGRESS_BYTES of a port and class (R739). -/
def egressBytes (s : State) (p c : Nat) : Nat :=
  (fport s p).egress.foldl (fun a e => if e.pkt.tc = c then a + frameBytes s p e else a) 0

/-- CC_INJ_CFG of a port (R763). -/
def injCfg (s : State) (p : Nat) : Word := rd s (0x410110 + 0x400 * p) (128 * 65536 + 64)

/-- Whether local injection to a port and class is THROTTLED (R740). -/
def throttled (s : State) (p c : Nat) : Bool := nbit (fport s p).throttled c == 1

/-- Set and clear THROTTLED of one class by EGRESS_BYTES (R740). -/
def throttleStep (p c : Nat) (s : State) : State :=
  let b := egressBytes s p c
  let hi := wfld (injCfg s p) 25 16 * 4096
  let lo := wfld (injCfg s p) 8 0 * 4096
  if throttled s p c then
    (if b < lo then modFport p (fun f => { f with throttled := f.throttled - 2 ^ c }) s else s)
  else if hi < b then
    raise 6 2 (modFport p (fun f => { f with throttled := f.throttled + 2 ^ c }) s)
  else s

/-- Add a frame to those that wait for a port. Log 99 (DEDUCED). -/
def enqueue (p : Nat) (e : EgFrame) (s : State) : State :=
  throttleStep p e.pkt.tc (modFport p (fun f => { f with egress := f.egress ++ [e] }) s)

/-- Take a frame away from those that wait for a port. -/
def dequeue (p : Nat) (e : EgFrame) (s : State) : State :=
  throttleStep p e.pkt.tc (modFport p (fun f => { f with egress := f.egress.erase e }) s)

/-- FP_PFC_CFG in force (R844). -/
def pfcCfg (s : State) (p : Nat) : Word := rdEff s (0x300030 + 0x1000 * p) 0x0000003000600F02

/-- Bytes of a priority in the ingress buffer of a port, both halves together (R839). -/
def ingressOf (f : FPort) (prio : Nat) : Nat := mget f.ingress prio 0 + mget f.ingress (8 + prio) 0

/-- Bytes in the ingress buffer of one half (R840). -/
def ingressHalf (f : FPort) (half : Nat) : Nat := (List.range 8).foldl (fun a i => a + mget f.ingress (8 * half + i) 0) 0

/-- The level that a pause rule watches: one priority under PFC, the sum under PAUSE (R839). -/
def pfcLevel (s : State) (p prio : Nat) : Nat :=
  let f := fport s p
  if wfld (pfcCfg s p) 1 0 = 1 then (List.range 8).foldl (fun a i => a + ingressOf f i) 0 else ingressOf f prio

/-- Ask for pause frames as the level of a priority demands (R839): time 65,535 above PFC_HIGH, time 0 below PFC_LOW. -/
def pfcStep (p prio : Nat) (s : State) : State :=
  let cfg := pfcCfg s p
  let mode := wfld cfg 1 0
  let k := if mode = 1 then 8 else prio
  let l := pfcLevel s p prio
  let f := fport s p
  if mode = 0 || (mode = 2 && nbit (wfld cfg 15 8) prio = 0) then s
  else if f.pfcSent.contains k then
    (if l < wfld cfg 47 32 * 1024 then
      modFport p (fun f => { f with pfcSent := sdel f.pfcSent k, pfcDue := f.pfcDue ++ [(k, 0)] }) s else s)
  else if wfld cfg 31 16 * 1024 < l then
    modFport p (fun f => { f with pfcSent := sadd f.pfcSent k, pfcDue := f.pfcDue ++ [(k, 65535)] }) s
  else s

/-- Give back the room that a frame held at its input: credits on a direct-mode port (R791), bytes on an Ethernet one. -/
def releaseInput (e : EgFrame) (s : State) : State :=
  if 32 ≤ e.inPort then s
  else if (fport s e.inPort).direct then
    modFport e.inPort (fun f => { f with
      rxHeld := mset f.rxHeld e.inIdx (mget f.rxHeld e.inIdx 0 - e.credits)
      rxReturned := mset f.rxReturned e.inIdx (mget f.rxReturned e.inIdx 0 + BitVec.ofNat 32 e.credits)
      creditDue := f.creditDue || decide (0 < e.credits) }) s
  else
    pfcStep e.inPort (e.inIdx % 8)
      (modFport e.inPort (fun f => { f with ingress := mset f.ingress e.inIdx (mget f.ingress e.inIdx 0 - e.credits) }) s)

/-! ## Routing -/

/-- Where a packet goes. -/
inductive Route where
  | here
  | go (port vc : Nat) (detoured : Bool)
  | drop (reason : Nat) (way : Option Nat)
  deriving DecidableEq, Repr

/-- A dateline operation on the dateline bit (R774). -/
def datelineOp (op bit : Nat) : Nat := if op = 1 then 1 else if op = 2 then 0 else bit

/-- The KIND that an entry acts as: 0 where it holds a reserved KIND, or a reserved operation in any of its eight dateline fields (R774). -/
def entryKind (e : Nat) : Nat :=
  if fld e 59 58 = 3 then 0
  else if (List.range 8).any (fun w => fld e (41 + 2 * w) (40 + 2 * w) = 3) then 0
  else fld e 59 58

/-- The route of a packet on a VC (R776 to R782, R798, R802, R832); `transit` unless this device originates it. -/
def route (s : State) (k : Pkt) (vc : Nat) (transit : Bool) : Route :=
  if s.router.st = .unset then .drop 2 none
  else if k.dstNode = s.router.node then .here
  else
    let e := mget s.router.active k.dstNode 0
    match entryKind e with
    | 2 => .here
    | 1 =>
      let w := k.path % (fld e 57 56 + 1)
      let way := fld e (5 * w + 4) (5 * w)
      let det := fld e (20 + 5 * w + 4) (20 + 5 * w)
      let plane := vc / 2
      let a := (fport s way).avail
      let b := det != way && (fport s det).avail
      if !a && !b then .drop 2 (some way)
      else if !portReach s (if a then way else det) k.dstNode then .drop 2 (some way)
      else if transit && s.router.st = .drained then .drop 6 (some way)
      else if transit && k.hopsLeft = 0 then .drop 3 (some way)
      else if a then .go way (plane * 2 + datelineOp (fld e (41 + 2 * w) (40 + 2 * w)) (vc % 2)) false
      else if k.detour then .drop 4 (some way)
      else .go det (2 + datelineOp (fld e (49 + 2 * w) (48 + 2 * w)) (vc % 2)) true
    | _ => .drop 2 none

/-- Count and report a drop at a port, or one of an originated packet whose entry names no port (R798). -/
def dropAt (port : Option Nat) (reason : Nat) (s : State) : State :=
  match port with
  | some p => emit (.drop p reason) (raise 7 0 (bump (0x601000 + 0x80 * p + 8 * reason) s))
  | none => emit (.drop 32 reason) (raise 7 0 (bump 0x600030 s))

/-- A packet this device originates enters the router: it is dropped, delivered here, or waits for its port; it is held while its
output is THROTTLED (R741), while its room's shaper is in deficit (R726), while the router is UNSET (R768) or does not inject (R801). The VC is
0, or 2 with DETOUR set (R770). Log 171 (DEDUCED). -/
def inject (k : Pkt) (s : State) : State :=
  if s.router.st ≠ .run || !roomReady s k then { s with heldPkts := s.heldPkts ++ [k] }
  else
    let vc := if k.detour then 2 else 0
    let s1 := roomCharge k (pktBytes k) s
    match route s k vc false with
    | .here => emit (.deliver 32 (stampPkt s k)) s1
    | .drop r way => dropAt way r s1
    | .go p v d =>
      if throttled s p k.tc then { s with heldPkts := s.heldPkts ++ [k] }
      else enqueue p { pkt := k, inPort := 32, vcIn := vc, vc := v, detoured := d } s1

/-- Whether a packet could enter the router now (R726, R741, R768, R801). -/
def canInject (s : State) (k : Pkt) : Bool :=
  s.router.st == .run && roomReady s k &&
    (match route s k (if k.detour then 2 else 0) false with
     | .go p _ _ => !throttled s p k.tc
     | _ => true)

/-- Keep of a state only what originating packets may change. -/
def fabricOnly (s r : State) : State :=
  { s with
    heldPkts := r.heldPkts, fports := r.fports, out := r.out, cnt := r.cnt, events := r.events, funcs := r.funcs, hports := r.hports,
    tokens := r.tokens }

/-- Originate a packet. Log 99 (DEDUCED). -/
def originate (k : Pkt) (s : State) : State := fabricOnly s (inject k s)

/-! ## Starting a frame -/

/-- The packet as it goes onto the wire: a packet of this device is stamped and sealed (R394, R920), a transit packet has one hop
fewer (R779); a detoured one carries DETOUR (R781). -/
def wirePkt (s : State) (e : EgFrame) : Pkt :=
  let k := { e.pkt with detour := e.pkt.detour || e.detoured }
  if e.inPort = 32 then stampPkt s k else { k with hopsLeft := k.hopsLeft - 1 }

/-- The ECN code point of a packet on an Ethernet-mode port: ECT(0) by R754, CE by R755. -/
def ecnOf (s : State) (p : Nat) (e : EgFrame) : Nat :=
  let ect := match e.roce with
    | some h => if h.ecn = 0 && obj s 0x2A01 1 1 = 1 then 2 else h.ecn
    | none => if obj s 0x2A01 1 1 = 1 then 2 else 0
  if ect ≠ 0 && decide (obj s 0x2A01 2 256 * 1024 < egressBytes s p e.pkt.tc) then 3 else ect

/-- A frame starts on a port or half: it is charged to its shaper and its credits, counted and sent (R726, R789, R755). -/
def startFrame (p half : Nat) (e : EgFrame) (s : State) : State :=
  let f := fport s p
  let n := frameBytes s p e
  let k := wirePkt s e
  let s1 := bucketCharge (pshape p e.pkt.tc) half (n + 32) s
  let s2 := bump (0x3001D8 + 0x1000 * p) s1
  let s3 := if e.inPort < 32 then bump (0x601040 + 0x80 * p) s2 else if e.roce.isSome then s2 else bump 0x240100 s2
  let s4 := if e.detoured then bump (0x601038 + 0x80 * p) s3 else s3
  let s5 := if e.inPort = 32 && e.pkt.sealed && e.roce.isNone then sealUse e.pkt s4 else s4
  let s6 :=
    if f.direct then
      let i := (chargeIdx f e.pkt e.vc).getD 0
      let c := creditCost e.pkt
      emit (.frame p half (dataHdr k e.vc (if i < 8 then 0 else 1)) k)
        (modFport p (fun f => { f with
          txAvail := mset f.txAvail i (mget f.txAvail i 0 - c)
          txCharged := mset f.txCharged i (mget f.txCharged i 0 + BitVec.ofNat 32 c) }) s5)
    else
      let ecn := ecnOf s p e
      let s5 := if ecn = 3 then raise 6 3 (bump (0x410180 + 0x400 * p) s5) else s5
      emit (.ethFrame p half (match e.roce with | some h => { h with ecn := ecn } | none => ethHdrOf s p half e.pkt ecn) k) s5
  modFport p (fun f => if half = 0 then { f with leaving := some e } else { f with leavingB := some e }) s6

/-- The frame that is leaving a half. -/
def FPort.busy (f : FPort) (half : Nat) : Option EgFrame := if half = 0 then f.leaving else f.leavingB

/-- What leaves a port is wholly sent: its input gets its room back. -/
def endFrame (p half : Nat) (s : State) : State :=
  match (fport s p).busy half with
  | none => s
  | some e => releaseInput e (modFport p (fun f => if half = 0 then { f with leaving := none } else { f with leavingB := none }) s)

/-- Frames that have no earlier one of the same input, network, VC and class before them (R780). -/
def headFrames : List EgFrame → List (Nat × Bool × Nat × Nat) → List EgFrame
  | [], _ => []
  | e :: r, seen =>
    let k := (e.inPort, e.pkt.reply, e.vc, e.pkt.tc)
    if seen.contains k then headFrames r seen else e :: headFrames r (k :: seen)

/-- The frame of the lowest rank. Log 104 (DESIGN CHOICE). -/
def leastBy (f : EgFrame → Nat) : List EgFrame → Option EgFrame
  | [] => none
  | e :: r => match leastBy f r with
    | none => some e
    | some x => if f x < f e then some x else some e

/-- The next frame of a class: the reply network first, inputs in turn (R737). -/
def nextOf (s : State) (p half c : Nat) : Option EgFrame :=
  let f := fport s p
  let hs := (headFrames (f.egress.filter (fun e => e.pkt.tc = c && f.half e.pkt e.roce.isSome = half)) []).filter (sendable s p)
  let pick := fun (reply : Bool) =>
    leastBy (fun e => (e.inPort + 33 - (mget f.rr (2 * c + b2n reply) 32 + 1)) % 33) (hs.filter (fun e => e.pkt.reply == reply))
  match pick true with
  | some e => some e
  | none => pick false

/-! ## Loss of a neighbour -/

/-- Route a waiting frame again (R784). -/
def reroute (from_ : Nat) (e : EgFrame) (s : State) : State :=
  match route s e.pkt e.vcIn (e.inPort < 32) with
  | .here => releaseInput e (emit (.deliver (if e.inPort < 32 then e.inPort else 32) e.pkt) s)
  | .go q v d => if q = from_ then enqueue q e s else enqueue q { e with vc := v, detoured := d } s
  | .drop r way => releaseInput e (dropAt (if e.inPort < 32 then some e.inPort else way) r s)

/-- The router declares loss of a neighbour on a port: LOST and FENCE set, PORT_LOST reported, what waits takes its detour, what
is leaving is lost (R783, R784). A RoCE packet keeps its port (R832) and waits. -/
def portLost (p : Nat) (s : State) : State :=
  let f := fport s p
  let cut := fun (e : Option EgFrame) (s : State) => match e with
    | none => s
    | some e => releaseInput e (dropAt (some (if e.inPort < 32 then e.inPort else p)) 0 s)
  let s1 := cut f.leavingB (cut f.leaving (raise 7 1
    (modFport p (fun f => { f with
      lost := true, fence := true, leaving := none, leavingB := none, throttled := 0,
      egress := f.egress.filter (fun e => e.roce.isSome) }) s)))
  (f.egress.filter (fun e => e.roce.isNone)).foldl (fun s e => reroute p e s) s1

end Sys2Proof.Machine
end

