-- ==== Sys2Proof/Machine/Optics0.lean ====
section
/-! DEFINITION. Lanes and laser units as the fabric ports see them (R847, R856, R857, R867, R868). -/

namespace Sys2Proof.Machine

open Sys2Proof

/-- The number of a lane of a port. -/
def laneNo (p l : Nat) : Nat := 8 * p + l

/-- A lane's record. -/
def lane (s : State) (p l : Nat) : Lane := mget s.lanes (laneNo p l) {}

/-- Change a lane's record. -/
def modLane (p l : Nat) (f : Lane → Lane) (s : State) : State := { s with lanes := mmod s.lanes (laneNo p l) {} f }

/-- A laser unit's record. -/
def laser (s : State) (u : Nat) : Laser := mget s.lasers u {}

/-- Change a laser unit's record. -/
def modLaser (u : Nat) (f : Laser → Laser) (s : State) : State := { s with lasers := mmod s.lasers u {} f }

/-- Management core 1 runs (R48). -/
def core1Runs (s : State) : Bool := !s.errs.coresHalted.contains 1

/-- ALLOW of a unit (R873). Log 110 (DEDUCED). -/
def laserAllow (s : State) (u : Nat) : Bool := (rd s (0x340100 + 0x40 * u) 0).getLsbD 0

/-- The life-cycle states that permit lasing (R867). Log 109 (DEDUCED). -/
def lcLases (s : State) : Bool := s.sealing.lc == 1 || s.sealing.lc == 2 || s.sealing.lc == 3

/-- The permit of a unit (R867). -/
def laserPermit (s : State) (u : Nat) : Bool :=
  s.laserEn && laserAllow s u && lcLases s && (mget s.doms (96 + u) {}).st == 2 && (laser s u).st != 4

/-- A port of a unit has ENABLE 1. -/
def laserDemand (s : State) (u : Nat) : Bool := (List.range 4).any (fun k => (fport s (4 * u + k)).enable)

/-- An OFF unit whose permit holds and that a port demands drives its lasers to temperature (R868). -/
def laserCheck (u : Nat) (s : State) : State :=
  if (laser s u).st = 0 && laserPermit s u && laserDemand s u then raise 8 0 (modLaser u (fun x => { x with st := 1, since := elapsed s }) s) else s

/-- A sweep of a lane's heater begins; it takes 1 ms (R856). -/
def startSweep (p l : Nat) (s : State) : State :=
  bump (0x350018 + 0x100 * p + 0x20 * l) (modLane p l (fun x => { x with
    st := 1, lockRun := 0, outRun := 0, chosen := false, due := elapsed s + 16000000 }) s)

/-- The DARK lanes of a port whose laser unit is ON and which is enabled sweep, while core 1 runs (R856). -/
def wakeLanes (p : Nat) (s : State) : State :=
  if (laser s (p / 4)).st = 3 && (fport s p).enable && core1Runs s then
    (List.range 8).foldl (fun s l => if (lane s p l).st = 0 then startSweep p l s else s) s
  else s

/-- Every lane of a port goes DARK: heater at 0, transmitter muted (R856, R870). -/
def darkLanes (p : Nat) (s : State) : State :=
  (List.range 8).foldl (fun s l =>
    if (lane s p l).st = 0 && (lane s p l).heater = 0 then s
    else modLane p l (fun x => { x with st := 0, heater := 0, lockRun := 0, outRun := 0, driftRun := 0, inRun := 0, drift := false }) s) s

/-- The lanes that a port, or a half in breakout, uses. -/
def lanesOf (f : FPort) (half : Nat) : List Nat := if f.mode = 2 then (List.range 4).map (fun i => 4 * half + i) else List.range 8

/-- Every transmit lane that a port or half uses is LOCKED or HELD, without which it sends nothing (R857). Log 101 (DEDUCED). -/
def lanesReady (s : State) (p half : Nat) : Bool :=
  (lanesOf (fport s p) half).all (fun l => (lane s p l).st == 2 || (lane s p l).st == 3)

/-- Core 1 halts: each locked lane's heater holds its last setting (R53, R856). -/
def holdLanes (s : State) : State := { s with lanes := mmapV s.lanes (fun _ x => if x.st = 2 then { x with st := 3 } else x) }

end Sys2Proof.Machine
end

