-- ==== Sys2Proof/Machine/Entry.lean ====
section
/-! DEFINITION. The layout of the entries of rings: how long an entry of each opcode is, and which of its bits hold fields (R287, R301 to R304,
R344, R345, R349, R350, R453, R454, R459). -/

namespace Sys2Proof.Machine

open Sys2Proof

/-- The width of the field that an operand of n bits takes (R302). -/
def fieldWidth (n : Nat) : Nat := if n ≤ 8 then 8 else if n ≤ 16 then 16 else if n ≤ 32 then 32 else 64

/-- The bits that operands take of the words they fill, by their widths: each field begins at the first multiple of its width that is free in the
word, or opens the next word (R302). -/
def packGo : List Nat → Nat → Nat → List Nat
  | [], at_, m => if at_ = 0 then [] else [m]
  | w :: r, at_, m =>
    let f := fieldWidth w
    let b := (at_ + f - 1) / f * f
    if b + f ≤ 64 then packGo r (b + f) (m + (2 ^ w - 1) * 2 ^ b)
    else m :: packGo r f (2 ^ w - 1)

/-- The bits that a command's operands take, word by word (R302). -/
def packOperands (l : List Nat) : List Nat := packGo l 0 0

/-- The layout of an entry: its length in units, where one is fixed, the bits of its words that hold fields, and those of the words after
them (R303). -/
structure Layout where
  units : Option Nat
  masks : List Nat
  rest : Nat := 0
  deriving DecidableEq, Repr

/-- Every bit of a word. -/
def allBits : Nat := 0xFFFFFFFFFFFFFFFF

/-- The bits of word 0 where SPECIFIC is reserved (R287). -/
def word0Bits : Nat := 0xFFFFFFFF0000FFFF

/-- Units of an entry of n words. -/
def unitsOf (n : Nat) : Nat := Nat.max 2 ((n + 1) / 2)

/-- Whether an entry's words hold a bit outside the fields of its layout (R12, R303). -/
def reservedSet (l : Layout) (d : List Byte) : Bool :=
  (List.range (d.length / 8)).any (fun i => wordAt d i &&& (allBits - l.masks.getD i l.rest) != 0)

/-- What makes an entry of a known opcode malformed by its form: BAD_LENGTH, or RESERVED_NONZERO (R1138). -/
def formBad (l : Layout) (d : List Byte) : Option Nat :=
  if (match l.units with | some n => d.length != 16 * n | none => false) then some 3
  else if reservedSet l d then some 1
  else none

/-! ## The front desk -/

/-- The operands of the front desk commands, by opcode, as the tables of their chapters list them; ROOM comes first in the chart and window
commands (R262). The operand of BIAS_DEVICE has no stated width. Log 174 (DEDUCED). -/
def fdOperands : Nat → Option (List Nat)
  | 0x01 => some [3, 3, 5, 1, 11, 12, 12, 9, 20, 16, 64]
  | 0x02 => some [12]
  | 0x03 => some [12, 9, 16]
  | 0x10 => some [8, 13, 13]
  | 0x11 => some [13, 13]
  | 0x12 => some [13, 13]
  | 0x13 => some [8, 8, 16]
  | 0x20 => some [8, 48, 48, 1, 13, 3]
  | 0x21 => some [8, 48, 1, 13]
  | 0x22 => some [8, 48]
  | 0x23 => some [8]
  | 0x28 => some [8, 1, 64, 64, 3, 1, 1, 20, 1, 1, 24]
  | 0x29 => some [8, 32, 64, 3]
  | 0x2A => some [8, 32]
  | 0x30 => some [64]
  | 0x40 => some [12, 12, 13, 16, 3, 2, 5, 2]
  | 0x41 => some [24, 24, 16, 16, 8, 3, 3, 32, 32, 10]
  | 0x42 => some [24, 16, 3, 3, 10, 2, 5]
  | 0x43 => some [24]
  | 0x44 => some [24]
  | 0x45 => some [24]
  | 0x46 => some [24]
  | 0x47 => some [24]
  | 0x48 => some [64, 32]
  | 0x49 => some [24, 8, 64]
  | 0x4A => some [24, 8, 8, 8, 8, 8, 16, 16, 8, 48, 64, 64]
  | 0x60 => some [32, 32, 32, 16, 8]
  | 0x61 => some [16]
  | 0x62 => some [16]
  | 0x68 => some [64]
  | 0x69 => some [16]
  | 0x6A => some [16]
  | 0x70 => some [8, 8, 32]
  | 0x71 => some [8, 8]
  | 0x72 => some [8]
  | 0x73 => some [8, 8]
  | 0x74 => some [8]
  | 0x75 => some [8]
  | 0x76 => some [8]
  | 0x77 => some [8]
  | 0x80 => some [24, 8]
  | 0x81 => some [8, 8]
  | _ => none

/-- The layout of a front desk command: word 0, RESULT_ADDR, the operands (R301). -/
def fdLayout (op : Nat) : Option Layout :=
  (fdOperands op).map (fun l => { units := some (unitsOf (2 + (packOperands l).length)), masks := word0Bits :: allBits :: packOperands l })

/-- The length in units of a front desk entry (R301). -/
def fdUnits (op : Nat) : Nat := match fdLayout op with | some l => l.units.getD 2 | none => 2

/-- The front desk commands that the Innkeeper alone may issue (R304). -/
def fdInnOnly (op : Nat) : Bool :=
  (decide (0x10 ≤ op) && decide (op ≤ 0x13)) || (decide (0x68 ≤ op) && decide (op ≤ 0x6A)) || (decide (0x70 ≤ op) && decide (op ≤ 0x77))

/-- What makes a front desk entry malformed by its form, in the order of R1138; `barred` says that the caller may not issue it. -/
def fdFormBad (barred : Bool) (op : Nat) (d : List Byte) : Option Nat :=
  match fdLayout op with
  | none => some 2
  | some l => if barred then some 6 else formBad l d

/-! ## Engine commands -/

/-- The bits of the common header (R344, R345). -/
def headerBits : List Nat := [word0Bits, 0xFFFFFFFFFFFF001F, 0x0000FFFFFFFFFFFF]

/-- An engine command with operands packed by R302. -/
def packedLayout (l : List Nat) : Layout := { units := some (unitsOf (3 + (packOperands l).length)), masks := headerBits ++ packOperands l }

/-- An engine command whose operand words are given. -/
def wordsLayout (units : Nat) (l : List Nat) : Layout := { units := some units, masks := headerBits ++ l }

/-- The words of a work request after word 0 (R454). -/
def wrWords : List Nat := [0xFFFF000000FFFFFF, allBits, allBits, allBits, 0xFFFFFFFF0000FFFF, allBits, allBits]

/-- The layout of a party collective: its length follows SRC_COUNT (R541). -/
def bulkLayout (w3 w4 w7 : Nat) (d : List Byte) : Layout :=
  let n := fld (wordAt d 3) 39 32
  { units := if 16 < n then none else some (unitsOf (11 + n)),
    masks := headerBits ++ [w3, w4, allBits, allBits, w7, allBits, allBits, allBits] ++ List.replicate n allBits }

/-- The layout of RDC_LOCAL_REDUCE (R542). -/
def localLayout (d : List Byte) : Layout :=
  let n := fld (wordAt d 3) 7 0
  { units := if 16 < n then none else some (unitsOf (8 + n)),
    masks := headerBits ++ [0xFFFFFFFF000000FF, allBits, allBits, allBits, allBits] ++ List.replicate n allBits }

/-- The layout of an update command (R611). -/
def updLayout : Layout := wordsLayout 9 [
  0x0FFFFFFFFFFFFFFF, allBits, allBits, 0x0000FFFFFFFFFFFF, allBits, allBits, allBits, 0x00000000FFFFFFFF, allBits, allBits, allBits, allBits, allBits, allBits, 0]

/-- The layout of a codec command (R651). -/
def cdcLayout : Layout := wordsLayout 7 [
  0x0FFFFFFFFFFFFFFF, allBits, allBits, allBits, allBits, allBits, allBits, allBits, allBits, allBits, 0]

/-- The layout of a COLL command (R704). -/
def collLayout : Layout := wordsLayout 4 [0x00FFFFFFFFFFFFFF, 0x00000000FFFFFFFF, allBits, allBits, allBits]

/-- The layout of an engine command, by its class and opcode: none for an opcode that the class does not have (R349). Fields that only some commands
of a class use are the commands' own to check. Log 174 (DEDUCED). -/
def engineLayout (cls : Nat) (d : List Byte) : Option Layout :=
  match fld (wordAt d 0) 15 8, cls with
  | 0x00, _ => some (packedLayout [])
  | 0x01, _ => some (packedLayout [16, 8, 32])
  | 0x02, _ => some (packedLayout [64])
  | 0x03, _ => some (packedLayout [])
  | 0x04, _ => some (packedLayout [32, 64])
  | 0x20, 0 => some (bulkLayout 0xFFFF03FFFFFFFFFF 0xFFFFFFFF0000FFFF 0xFF d)
  | 0x21, 0 => some (bulkLayout 0xFFFF03FFFFFFFFFF 0xFFFFFFFF0000FFFF 0xFF d)
  | 0x22, 0 => some (wordsLayout 6 (0x00000000003F00FF :: wrWords))
  | 0x20, 1 => some (bulkLayout 0xFFFF01FFFFFFFFFF allBits allBits d)
  | 0x21, 1 => some (bulkLayout 0xFFFF01FFFFFFFFFF allBits allBits d)
  | 0x22, 1 => some (bulkLayout 0xFFFF01FFFFFFFFFF allBits allBits d)
  | 0x23, 1 => some (localLayout d)
  | 0x20, 2 => some updLayout
  | 0x21, 2 => some updLayout
  | 0x22, 2 => some updLayout
  | 0x23, 2 => some updLayout
  | 0x24, 2 => some updLayout
  | 0x20, 3 => some cdcLayout
  | 0x21, 3 => some cdcLayout
  | 0x22, 3 => some cdcLayout
  | 0x20, 5 => some collLayout
  | 0x21, 5 => some collLayout
  | 0x20, 6 => some (packedLayout [64, 64, 64, 1])
  | 0x21, 6 => some (packedLayout [64, 64, 1, 64])
  | 0x22, 6 => some (packedLayout [64, 64, 1])
  | _, _ => none

/-- The word whose bit 0 is DPA_MODE in a copy command (R201, R302). -/
def dpaModeWord (cls op : Nat) : Option Nat :=
  match cls, op with
  | 6, 0x20 => some 6
  | 6, 0x21 => some 5
  | 6, 0x22 => some 5
  | _, _ => none

/-- What makes an engine entry malformed by its form, in the order of R1138; `barred` says that its caller may not give one of its operands. -/
def engineFormBad (barred : Bool) (cls : Nat) (d : List Byte) : Option Nat :=
  match engineLayout cls d with
  | none => some 2
  | some l => if barred then some 6 else formBad l d

/-! ## Send and receive queues -/

/-- What makes an entry of a send queue malformed by its opcode or by a reserved bit; its LENGTH, which BYTES may give, and the words that its opcode does
not use are its own to check (R453, R454). -/
def sendFormBad (barred : Bool) (d : List Byte) : Option Nat :=
  let op := fld (wordAt d 0) 15 8
  let n := if nbit (wordAt d 0) 19 = 1 then 4 + (fld (wordAt d 4) 31 0 + 15) / 16 else 4
  if op = 0 || 9 < op then some 2
  else if barred then some 6
  else if d.length = 16 * n && reservedSet { units := none, masks := 0xFFFFFFFF003FFFFF :: wrWords, rest := allBits } d then some 1
  else none

/-- What makes an entry of a receive queue malformed by its form (R453, R459). -/
def recvFormBad (d : List Byte) : Option Nat :=
  if fld (wordAt d 0) 15 8 ≠ 1 then some 2
  else formBad {
    units := if 256 < d.length then some 16 else none,
    masks := [word0Bits, 0xFFFF000000000000] ++ (List.replicate 15 [allBits, 0x00000000FFFFFFFF]).flatten } d

end Sys2Proof.Machine
end

