-- ==== Sys2Proof/Machine/Latch.lean ====
section
/-! DEFINITION. What meeting an error of device memory does, whoever meets it: markers, counters, records and latches (R177, R187, R961 to R965,
R974 to R977). The writers of records stand as arguments, since the Ledger's own rings lie in memory that can fail too (R1142). -/

namespace Sys2Proof.Machine

open Sys2Proof

/-- Change the error unit. -/
def modErrs (f : Errs → Errs) (s : State) : State := { s with errs := f s.errs }

/-- Core 3 runs: it keeps the history, escalates and raises the module alert (R48, R50, R988). -/
def core3Runs (s : State) : Bool := !s.errs.coresHalted.contains 3

/-- Whether management core 2 runs: power sequencing, power domains and life-cycle control (R48). Log 194 (DEDUCED). -/
def core2Runs (s : State) : Bool := !s.errs.coresHalted.contains 2

/-- Where an access stands when it meets an error: its access code (R983), the room concerned, the object its record names, and
the address as the room knows it: 2 a DVA, 3 a host address, 0 none (R981). `about` is a room that only the Innkeeper's copy names,
`syms` the symbols or bits in error, 0 when not known. -/
structure Access where
  code : Nat
  room : Option Nat := none
  object : Nat := 0
  addrKind : Nat := 0
  addr : Nat := 0
  about : Option Nat := none
  syms : Nat := 0
  deriving DecidableEq, Repr

/-- How what an error does reaches the Ledgers: the writer of the Innkeeper's records, that of a room's guest's, whether the Innkeeper's queue
takes a record now, and what a unit in FATAL takes down. -/
structure Sinks where
  inn : LedgerRec → State → State
  guest : Nat → LedgerRec → State → State
  takes : State → LedgerRec → Bool
  down : Nat → State → State

/-- The FATAL actions of a unit, its UNIT_FATAL record and the module alert (R974). -/
def unitFatalBy (k : Sinks) (u : Nat) (s : State) : State :=
  let s1 := modErrs (fun e => { e with
    latches := mmod e.latches u {} (fun l => { l with st := 2 })
    alert := true
    fatalUnit := if e.fatal then e.fatalUnit else 0x100 + u
    fatalKind := if e.fatal then e.fatalKind else 0x0B }) s
  let s2 := raise 12 7 s1
  k.down u (if core3Runs s then k.inn { kind := 0x0B, severity := 3, unit := 0x100 + u, object := u, d0 := u } s2 else s2)

/-- Write a record of a memory error: the Innkeeper's copy names the DPA, the room's copy what the room knows (R979, R981). -/
def memRecordBy (k : Sinks) (x : Access) (kind u m a : Nat) (second : Bool) (s : State) : State :=
  let r : LedgerRec := {
    kind := kind, severity := 2, secondary := second, unit := 0x100 + u, room := (match x.room with | some r => some r | none => x.about), object := m,
    addrKind := 1, address := a, access := x.code, d0 := if kind = 4 then 0 else x.syms }
  let s1 := k.inn r s
  match x.room with
  | none => s1
  | some rm => k.guest rm { r with object := x.object, addrKind := x.addrKind, address := if x.addrKind = 0 then 0 else x.addr } s1

/-- A new uncorrectable error of a unit: R974, R977. -/
def latchNewBy (k : Sinks) (x : Access) (kind u m a : Nat) (s : State) : State :=
  let l := mget s.errs.latches u {}
  if l.st = 0 then
    memRecordBy k x kind u m a false (raise 12 6 (modErrs (fun e => { e with
      latches := mset e.latches u {
        st := 1, seq := l.seq + 1, secondary := l.secondary, kind := kind, dpa := a, time := s.tide.count, since := elapsed s,
        recorded := core3Runs s || k.takes s { kind := kind }, ack := obj s 0x9002 0 0 } }) s))
  else if l.st = 1 then
    let s1 := modErrs (fun e => { e with latches := mset e.latches u { l with secondary := Nat.min 255 (l.secondary + 1) } }) s
    unitFatalBy k u (memRecordBy k x kind u m a true (raise 12 5 (bump 0x440410 s1)))
  else s

/-- Whether the error found at a line is new: no marker, and in tier 2 not in the port's table (R961, R962). -/
def lineNew (s : State) (l : Nat) (fresh : Bool) : Bool :=
  if 0x20000000000 ≤ l * 64 ∧ l * 64 < 0x60000000000 then
    !(mget s.ds (l * 64 / 2 ^ 40 - 2) {}).poisonTable.contains l
  else fresh

/-- Mark a line: the poison marker, and in tier 2 the table of the last 32 lines (R961, R962). -/
def markLine (l : Nat) (s : State) : State :=
  { s with
    mem := { s.mem with poison := sadd s.mem.poison l, latentUe := sdel s.mem.latentUe l, latentCe := sdel s.mem.latentCe l }
    ds := if 0x20000000000 ≤ l * 64 ∧ l * 64 < 0x60000000000 then
      mmod s.ds (l * 64 / 2 ^ 40 - 2) {} (fun p => { p with poisonTable := (l :: p.poisonTable).take 32 }) else s.ds }

/-- The blocks of a word of a valid-bit map (R183). -/
def wordBlocks (s : State) (w : Nat) : List Nat := (List.range 64).map (fun i => globalBlock s (w / 2 ^ 32) (w % 2 ^ 32 * 64 + i))

/-- A word of a valid-bit map is lost: every block of it is treated as holding an uncorrectable error (R187). Log 8 (DESIGN CHOICE). -/
def loseWord (w : Nat) (s : State) : State :=
  let bs := wordBlocks s w
  { s with mem := { s.mem with
      badMap := sdel s.mem.badMap w
      valid := bs.foldl sadd s.mem.valid
      poison := bs.foldl (fun l b => (List.range 64).foldl (fun l i => sadd l (b * 64 + i)) l) s.mem.poison } }

/-- The unit whose memory holds a word of a valid-bit map, which is also its memory number: the controller's own, and for tier 2 a group of
tier 1 on the port's die (R183, R1074). Log 8 (DESIGN CHOICE). -/
def mapUnit (w : Nat) : Nat := if w / 2 ^ 32 < 12 then w / 2 ^ 32 else 4 + (w / 2 ^ 32 - 12) / 2 * 4 + (Config.mapHome (w / 2 ^ 32 - 12) (w % 2 ^ 32)).toNat

/-- An access meets an error: R961 to R965, R974, R177, R187. `kind` is the kind of a new error's record. -/
def meetBy (k : Sinks) (kind : Nat) (x : Access) (b : Bad) (s : State) : State :=
  match b with
  | .absent a =>
    let r : LedgerRec := { kind := 8, severity := 2, room := x.room, addrKind := 1, address := a, access := x.code }
    let s1 := k.inn r s
    (match x.room with
    | none => s1
    | some rm => k.guest rm { r with object := x.object, addrKind := x.addrKind, address := if x.addrKind = 0 then 0 else x.addr } s1)
  | .dead a => memRecordBy k x 4 (latchUnit s a) (memNo s a) a false (bump (0x440300 + 8 * memNo s a) s)
  | .repeated l =>
    if lineNew s l false then
      latchNewBy k x kind (latchUnit s (l * 64)) (memNo s (l * 64)) (l * 64) (markLine l (bump (0x440200 + 8 * memNo s (l * 64)) s))
    else memRecordBy k x 4 (latchUnit s (l * 64)) (memNo s (l * 64)) (l * 64) false (bump (0x440300 + 8 * memNo s (l * 64)) s)
  | .map a =>
    (match mapWord s (a / 4096) with
    | some w => latchNewBy k { x with code := 13 } 7 (mapUnit w) (mapUnit w) a (raise 1 2 (loseWord w (bump (0x440200 + 8 * mapUnit w) s)))
    | none => s)
  | .fresh l =>
    if lineNew s l true then
      latchNewBy k x kind (latchUnit s (l * 64)) (memNo s (l * 64)) (l * 64) (markLine l (bump (0x440200 + 8 * memNo s (l * 64)) s))
    else memRecordBy k x 4 (latchUnit s (l * 64)) (memNo s (l * 64)) (l * 64) false (bump (0x440300 + 8 * memNo s (l * 64)) s)

end Sys2Proof.Machine
end

