-- ==== Sys2Proof/Machine/Rings0.lean ====
section
/-! DEFINITION. Address operands and charts (R254, R255, R240), writing entries to the rings the Skeond produces: completions
(R319), events (R322), Ledger records (R980) and front desk responses (R308). -/

namespace Sys2Proof.Machine

open Sys2Proof

/-! ## Address operands -/

/-- What an address operand names (R254, R255). -/
inductive Opnd where
  | host (a : Nat) | dva (a : Nat) | bad
  deriving DecidableEq, Repr

/-- The leaf that covers a DVA in a room's chart, with the first DVA it covers (R237). -/
def chartLeaf (r : Room) (dva : Nat) : Option (Leaf × Nat) :=
  match mfind r.leaves1 (dva / 2 ^ 30) with
  | some l => some (l, dva / 2 ^ 30 * 2 ^ 30)
  | none =>
    match mfind r.leaves2 (dva / 2 ^ 39) with
    | some l => some (l, dva / 2 ^ 39 * 2 ^ 39)
    | none => none

/-- Read an address operand in a room's chart mode. -/
def operand (r : Room) (a : Nat) : Opnd :=
  if r.quotas.mirrored then
    (if a < 2 ^ 48 && (chartLeaf r a).isSome then .dva a else .host a)
  else if nbit a 63 = 1 then (if fld a 62 48 = 0 then .dva (fld a 47 0) else .bad)
  else .host (fld a 62 0)

/-- The right an access needs of its leaf. -/
inductive Need where
  | read | write | atomic | both
  deriving DecidableEq, Repr

/-- Whether a leaf gives the right (R240). -/
def leafGives (l : Leaf) : Need → Bool
  | .read => l.read
  | .write => l.write
  | .atomic => l.atomic
  | .both => l.read && l.write

/-- Translate a DVA through a room's chart: the DPA, or the fault code 6 NO_LEAF or 7 PERM (R240, R252). -/
def xlateDva (r : Room) (dva : Nat) (n : Need) : Except Nat Nat :=
  match chartLeaf r dva with
  | none => .error 6
  | some (l, base) => if leafGives l n then .ok (l.dpa + (dva - base)) else .error 7

/-- A place in memory that an access reaches. -/
inductive Loc where
  | host (port a : Nat) | dev (dpa : Nat)
  deriving DecidableEq, Repr

/-- What stops an access to ring memory: a translation fault with its code, an error of device memory at a DVA, a line of the chart's tables
that failed in both copies, or a frozen unit, for which the access waits (R212). -/
inductive RingErr where
  | fault (code a : Nat) | bad (dva : Nat) (b : Bad) | table (dva a : Nat) | wait
  deriving DecidableEq, Repr

/-- Whether a line of a device table has failed. -/
def lineBad (s : State) (a : Nat) : Bool := s.mem.poison.contains (a / 64) || s.mem.latentUe.contains (a / 64)

/-- Whether a device-table entry can be read from its table or its mirror (R967, R968). -/
def tableOk (s : State) (a : Nat) : Bool := !(lineBad s a && lineBad s (a - 0xFFFF000))

/-- The chart-table entry that maps a DVA of a room: the level-1 entry, or the root entry (R235, R236). -/
def chartEntryAt (s : State) (rm dva : Nat) : Nat :=
  match mfind (room s rm).tables (dva / 2 ^ 39) with
  | some t => 0x3E000000 + 4096 * t + 8 * (dva / 2 ^ 30 % 512)
  | none => 0x3E000000 + 4096 * rm + 8 * (dva / 2 ^ 39)

/-- Ring and spill memory: host addresses are untranslated (R221), device addresses go through the room's chart (R284). Log 170 (DEDUCED). -/
def ringAt (s : State) (fn a : Nat) (need : Need) (n : Nat) : Except RingErr Loc :=
  match roomOf s fn with
  | none => .error (.fault 6 a)
  | some r =>
    match operand (room s r) a with
    | .bad => .error (.fault 6 a)
    | .host h => .ok (.host (fnPort fn) h)
    | .dva d =>
      if anyFrozen s (chartEntryAt s r d) 8 then .error .wait
      else if !tableOk s (chartEntryAt s r d) then .error (.table d (chartEntryAt s r d))
      else
        match xlateDva (room s r) d need with
        | .error c => .error (.fault c d)
        | .ok dpa =>
          if anyFrozen s dpa n then .error .wait
          else match (if need = .read then firstBad s dpa n else firstBadW s dpa n) with
          | some b => .error (.bad (d + (b.addr - dpa)) b)
          | none => .ok (.dev dpa)

/-- The detail that a stopped ring access latches: FETCH_FAULT or FETCH_UE (R286, R1142); 1 stands for an access that waits. -/
def RingErr.detail : RingErr → Nat
  | .fault _ _ => 0x10
  | .wait => 1
  | _ => 0x11

/-- A place in ring memory, or the detail that its access stops with. -/
def ringLoc (s : State) (fn a : Nat) (need : Need) (n : Nat) : Except Nat Loc :=
  match ringAt s fn a need n with
  | .ok l => .ok l
  | .error e => .error e.detail

/-- Read a run of bytes at a place. -/
def locRead (s : State) (l : Loc) (n : Nat) : List Byte :=
  match l with
  | .host p a => hostRead s p a n
  | .dev a => devRead s a n

/-- Write a run of bytes of an entry at a place: a posted write that orders what stands before it (R146), or one to device memory, whose lines in a
page that the host shares are resolved first (R142). -/
def locWrite (l : Loc) (data : List Byte) (s : State) : State :=
  match l with
  | .host p a => hostWrite p a data false s
  | .dev a => devWrite a data (resolveLines a data.length s)

/-! ## Rings -/

/-- The key of queue q of a function. -/
def qkey (fn q : Nat) : Nat := fn * 4096 + q

/-- A queue's record. -/
def queue (s : State) (fn q : Nat) : Queue := mget s.queues (qkey fn q) {}

/-- Change a queue's record. -/
def modQueue (fn q : Nat) (f : Queue → Queue) (s : State) : State :=
  { s with queues := mmod s.queues (qkey fn q) {} f }

/-- The occupied part of a ring, in units (R283). -/
def Queue.occupied (q : Queue) : Nat := (q.prod - q.cons).toNat

/-- The address operand of unit i of a ring (R282). -/
def Queue.unitAddr (q : Queue) (i : BitVec 32) : Nat := q.base + (i.toNat % 2 ^ q.log2) * 16

/-- Places of n units of a ring from index i (R288), or what stops the first that fails. -/
def ringSpots (s : State) (fn : Nat) (q : Queue) (i : BitVec 32) (need : Need) : Nat → Except RingErr (List Loc)
  | 0 => .ok []
  | n + 1 =>
    match ringAt s fn (q.unitAddr i) need 16 with
    | .error e => .error e
    | .ok l =>
      match ringSpots s fn q (i + 1) need n with
      | .error e => .error e
      | .ok ls => .ok (l :: ls)

/-- Write 16 B units at their places. -/
def putUnits (data : List Byte) (s : State) : List Loc → State
  | [] => s
  | l :: ls => putUnits (data.drop 16) (locWrite l (data.take 16) s) ls

/-- Advance the interrupt of a queue after an entry was written: R326, R327. The first component is whether the
message goes out. -/
def armStep (now : Word) (q : Queue) : Bool × Queue :=
  if q.armed then
    if q.modTime = 0 || decide (q.modCount ≤ q.sinceArm + 1) then
      (true, { q with armed := false, sinceArm := 0, firstAt := none })
    else (false, { q with sinceArm := q.sinceArm + 1, firstAt := some (q.firstAt.getD now) })
  else (false, q)

/-- Write one entry to a ring that the Skeond produces, whose leaves carry READ and WRITE (R284): the state in which it landed, else the detail latched
(0 stands for a full ring, 1 for a frozen unit, for which the entry waits). Log 170 (DEDUCED), 206 (DESIGN CHOICE). -/
def tryPut (s : State) (fn : Nat) (q : Queue) (data : List Byte) : Except Nat State :=
  if 2 ^ q.log2 < q.occupied + data.length / 16 then .error 0
  else
    match ringSpots s fn q q.prod .both (data.length / 16) with
    | .error e => .error e.detail
    | .ok ls => .ok (putUnits data s ls)

/-- What stops the write of an entry of n units that the ring has room for (R1142). -/
def ringFail (s : State) (fn : Nat) (q : Queue) (n : Nat) : Option RingErr :=
  if 2 ^ q.log2 < q.occupied + n then none
  else match ringSpots s fn q q.prod .both n with
    | .error .wait => none
    | .error e => some e
    | .ok _ => none

/-- Keep of a state only what writing entries of rings may change: what an error of ring memory does is among it. -/
def ledgerOnly (s r : State) : State :=
  { s with
    hmem := r.hmem, hports := r.hports, cnt := r.cnt, out := r.out, funcs := r.funcs, queues := r.queues, events := r.events, ds := r.ds, mapLines := r.mapLines
    mem := { memData s.mem r.mem with badMap := r.mem.badMap }
    errs := { s.errs with
      history := r.errs.history, latches := r.errs.latches, alert := r.errs.alert, fatalUnit := r.errs.fatalUnit, fatalKind := r.errs.fatalKind } }

/-! ## The Ledger -/

/-- The Ledger queue of a function, if it has one (R979). -/
def ledgerOf (s : State) (fn : Nat) : Option Nat :=
  match s.queues.find? (fun p => p.1 / 4096 == fn && p.2.kind == .ledger && p.2.st != .free) with
  | some p => some (p.1 % 4096)
  | none => none

/-- The 64 B of a record (R980). -/
def LedgerRec.data (r : LedgerRec) (seq : BitVec 32) (dropped : Bool) : List Byte :=
  wordsLe [seq.toNat * 2 ^ 32 + r.kind % 2 ^ 16 * 2 ^ 16 + r.severity % 16 * 2 ^ 12 + b2n r.secondary * 2 ^ 11 +
      b2n dropped * 2 ^ 10 + 3,
    r.time.toNat,
    r.unit % 2 ^ 16 * 2 ^ 48 + (r.room.getD 0) % 256 * 2 ^ 40 + b2n r.room.isSome * 2 ^ 39 + r.object % 2 ^ 32,
    r.address % 2 ^ 64,
    r.addrKind % 256 * 2 ^ 56 + r.access % 256 * 2 ^ 48 + r.code % 2 ^ 16 * 2 ^ 32,
    r.d0 % 2 ^ 64, r.d1 % 2 ^ 64, r.d2 % 2 ^ 64]

/-- Write a record to the Ledger queue of a function: R985, R986. An entry whose write fails is held and stops the queue (R1142); what
it met is not yet dealt with. -/
def putRecord (fn : Nat) (r : LedgerRec) (s : State) : State :=
  match ledgerOf s fn with
  | none => raise 12 1 (bump 0x440408 s)
  | some n =>
    let q := queue s fn n
    let miss := modQueue fn n (fun q => { q with recordSeq := q.recordSeq + 1, dropSince := true })
    if q.st = .active then
      match (if q.held = [] then tryPut s fn q (r.data q.recordSeq q.dropSince) else .error 1) with
      | .ok s1 =>
        let a := armStep (elapsed s) { q with prod := q.prod + 4, recordSeq := q.recordSeq + 1, dropSince := false }
        let s2 := modQueue fn n (fun _ => a.2) s1
        if a.1 then msix fn q.vector s2 else s2
      | .error 0 => raise 12 1 (bump 0x440400 (miss (modQueue fn n (fun q =>
          { q with dropped := q.dropped + 1, overflow := true, seq := q.seq + 1 }) s)))
      | .error 1 => modQueue fn n (fun q => { q with
          recordSeq := q.recordSeq + 1, dropSince := false, held := q.held ++ [r.data q.recordSeq q.dropSince] }) s
      | .error d => modQueue fn n (fun q => { q with
          st := .error, errIndex := q.prod.toNat, errDetail := d, recordSeq := q.recordSeq + 1, dropSince := false,
          held := [r.data q.recordSeq q.dropSince] }) s
    else raise 12 1 (bump 0x440408 (miss s))

/-- Whether a record meant for a function would be written to its Ledger queue now (R978, R985, R986). -/
def ledgerTakes (s : State) (fn : Nat) (r : LedgerRec) : Bool :=
  match ledgerOf s fn with
  | none => false
  | some n =>
    let q := queue s fn n
    q.st == .active && (match tryPut s fn q (r.data q.recordSeq q.dropSince) with | .ok _ => true | .error e => e == 1)

/-- A record to the Innkeeper's Ledger by a given writer; records of severity 2 or 3 enter the history that core 3 keeps (R979, R988). -/
def innBy (put : Nat → LedgerRec → State → State) (r : LedgerRec) (s : State) : State :=
  let r := { r with time := nowRes s }
  let s1 := put (innFn s) r s
  if 2 ≤ r.severity && core3Runs s then { s1 with errs := { s1.errs with history := (r :: s1.errs.history).take 64 } } else s1

/-- A record to the Ledger of a room's guest by a given writer (R979). -/
def guestBy (put : Nat → LedgerRec → State → State) (rm : Nat) (r : LedgerRec) (s : State) : State :=
  put (room s rm).fn { r with time := nowRes s, room := some rm } s

/-- What the failure of an access to ring memory does beside stopping the ring: a translation fault is recorded (R252), and an error is met like
any other, with its access code and the queue as its object (R961, R965, R968). Ring memory lies in the tiers, whose controllers take
nothing down in FATAL (R975). Log 132 (DEDUCED). -/
def meetRing (put : Nat → LedgerRec → State → State) (code fn object : Nat) (e : Option RingErr) (s : State) : State :=
  match e with
  | some (.fault c a) =>
    (match roomOf s fn with
    | some rm => guestBy put rm { kind := 0x60, severity := 2, object := object, addrKind := 2, address := a, access := code, code := c } s
    | none => s)
  | some (.bad dva b) =>
    meetBy { inn := innBy put, guest := guestBy put, takes := fun s r => ledgerTakes s (innFn s) r, down := fun _ s => s } 3
      { code := code, room := roomOf s fn, object := object, addrKind := 2, addr := dva } b s
  | some (.table _ a) =>
    innBy put { kind := 3, severity := 2, unit := 0x100 + latchUnit s a, object := memNo s a, addrKind := 1, address := a / 64 * 64, access := 14 } s
  | _ => s

/-- Write a record to the Ledger queue of a function; an error of its ring is met, and the records of that are written in turn: a first failure
stops one Ledger, its records can stop the other, and then both drop (R1142). -/
def putLedgerN : Nat → Nat → LedgerRec → State → State
  | 0, fn, r, s => putRecord fn r s
  | k + 1, fn, r, s =>
    match ledgerOf s fn with
    | none => putRecord fn r s
    | some n =>
      if (queue s fn n).st = .active then
        meetRing (putLedgerN k) 4 fn n (ringFail s fn (queue s fn n) 4) (putRecord fn r s)
      else putRecord fn r s

/-- Write a record to the Ledger queue of a function (R985, R986, R1142). -/
def putLedger (fn : Nat) (r : LedgerRec) (s : State) : State := putLedgerN 2 fn r s

/-- Write a record to the Innkeeper's Ledger (R979, R988). Log 133 (DEDUCED). -/
def ledgerInn (r : LedgerRec) (s : State) : State := ledgerOnly s (innBy putLedger r s)

/-- Write a record to the Ledger of a room's guest (R979). Log 133 (DEDUCED). -/
def ledgerRoom (rm : Nat) (r : LedgerRec) (s : State) : State := ledgerOnly s (guestBy putLedger rm r s)

/-! ## Events and completions -/

/-- Bytes of an event entry (R322). -/
def eventBytes (s : State) (ev object d0 d1 : Nat) : List Byte :=
  wordsLe [ev * 2 ^ 48 + (object % 2 ^ 24) * 256 + 1, (nowRes s).toNat, d0, d1]

/-- Write an entry to an event queue: dropped when it is full or not ACTIVE (R325); a write that fails stops the queue, which
holds the entry (R1142), and that is an event of the queue in turn (R311). A queue stops once, so the chain is as long as there are queues. Entries
for a frozen unit wait in their order (R212). -/
def putEqN : Nat → Nat → Nat → List Byte → State → State
  | 0, _, _, _, s => s
  | k + 1, fn, eq, data, s =>
    let q := queue s fn eq
    if q.st = .active then
      match (if q.held = [] then tryPut s fn q data else .error 1) with
      | .ok s1 =>
        let a := armStep (elapsed s) { q with prod := q.prod + BitVec.ofNat 32 (data.length / 16) }
        let s2 := modQueue fn eq (fun _ => a.2) s1
        if a.1 then msix fn q.vector s2 else s2
      | .error 0 => modQueue fn eq (fun q => { q with dropped := q.dropped + 1, overflow := true, seq := q.seq + 1 }) s
      | .error 1 => modQueue fn eq (fun q => { q with held := q.held ++ [data] }) s
      | .error d =>
        let s1 := meetRing putLedger 4 fn eq (ringFail s fn q (data.length / 16))
          (modQueue fn eq (fun q => { q with st := .error, errIndex := q.prod.toNat, errDetail := d, held := [data] }) s)
        if q.eq = 0xFFF then s1 else putEqN k fn q.eq (eventBytes s 1 eq (q.prod.toNat + d * 2 ^ 32) 0) s1
    else if q.st = .free then s
    else modQueue fn eq (fun q => { q with dropped := q.dropped + 1, overflow := true, seq := q.seq + 1 }) s

/-- Write an entry to an event queue (R322, R325). -/
def putEq (fn eq : Nat) (data : List Byte) (s : State) : State := putEqN (s.queues.length + 1) fn eq data s

/-- Report an event of a queue to the event queue it names; 0xFFF names none (R306). -/
def qEvent (fn q ev object d0 d1 : Nat) (s : State) : State :=
  ledgerOnly s (if (queue s fn q).eq = 0xFFF then s else putEq fn (queue s fn q).eq (eventBytes s ev object d0 d1) s)

/-- Stop a queue in ERROR with an index and a detail, and report it (R311, R316). -/
def qStop (fn q index detail : Nat) (s : State) : State :=
  qEvent fn q 1 q (index + detail * 2 ^ 32) 0
    (modQueue fn q (fun k => { k with st := .error, errIndex := index, errDetail := detail }) s)

/-- Write a completion to its queue, or hold it: R324, R1142. A queue that is gone or FLUSHED takes none (R158). Log 45 (DEDUCED). -/
def putCq (fn cq : Nat) (data : List Byte) (s : State) : State :=
  let q := queue s fn cq
  let hold := modQueue fn cq (fun q => { q with held := q.held ++ [data] })
  match q.st with
  | .free => s
  | .flushed => s
  | .active =>
    if q.held ≠ [] then hold s
    else
      match tryPut s fn q data with
      | .ok s1 =>
        let a := armStep (elapsed s) { q with prod := q.prod + BitVec.ofNat 32 (data.length / 16) }
        let s2 := modQueue fn cq (fun _ => a.2) s1
        if a.1 then msix fn q.vector s2 else s2
      | .error 0 =>
        qEvent fn cq 3 cq q.prod.toNat 0 (modQueue fn cq (fun q => { q with held := q.held ++ [data], fullSpell := true }) s)
      | .error 1 => hold s
      | .error d => meetRing putLedger 4 fn cq (ringFail s fn q (data.length / 16)) (qStop fn cq q.prod.toNat d (hold s))
  | _ => hold s

/-- A queue that its held entries find full: a completion queue holds them, with one CQ_FULL event for the spell (R324); an event or Ledger queue drops
the first of them (R325, R985). -/
def heldFull (fn cq : Nat) (s : State) : State :=
  let q := queue s fn cq
  if q.kind = .cq then
    (if q.fullSpell then s else qEvent fn cq 3 cq q.prod.toNat 0 (modQueue fn cq (fun q => { q with fullSpell := true }) s))
  else
    let s1 := modQueue fn cq (fun q => { q with dropped := q.dropped + 1, overflow := true, seq := q.seq + 1 }) s
    if q.kind = .ledger then raise 12 1 (bump 0x440400 (modQueue fn cq (fun q => { q with dropSince := true }) s1)) else s1

/-- Write the held entries of a queue as far as room allows (R324, R1142), and no frozen unit stands in the way (R212). Log 45 (DEDUCED). -/
def drainHeld (fn cq : Nat) (s : State) : List (List Byte) → State
  | [] => modQueue fn cq (fun q => { q with held := [], fullSpell := false }) s
  | d :: ds =>
    let q := queue s fn cq
    match tryPut s fn q d with
    | .ok s1 =>
      let a := armStep (elapsed s) { q with prod := q.prod + BitVec.ofNat 32 (d.length / 16) }
      let s2 := modQueue fn cq (fun _ => a.2) s1
      drainHeld fn cq (if a.1 then msix fn q.vector s2 else s2) ds
    | .error 0 => if q.kind = .cq then heldFull fn cq (modQueue fn cq (fun q => { q with held := d :: ds }) s) else drainHeld fn cq (heldFull fn cq s) ds
    | .error 1 => modQueue fn cq (fun q => { q with held := d :: ds }) s
    | .error x => meetRing putLedger 4 fn cq (ringFail s fn q (d.length / 16)) (qStop fn cq q.prod.toNat x (modQueue fn cq (fun q => { q with held := d :: ds }) s))

/-- A completion (R319). -/
structure Compl where
  tag : Nat := 0
  status : Nat := 0
  source : Nat := 2
  opcode : Nat := 0
  flags : Nat := 0
  detail : Nat := 0
  index : Nat := 0
  qpn : Nat := 0
  bytes : Nat := 0
  imm : Nat := 0
  queue : Nat := 0
  deriving DecidableEq, Repr

/-- Its 32 B. -/
def Compl.data (c : Compl) : List Byte :=
  wordsLe [c.tag % 2 ^ 32 * 2 ^ 32 + c.status % 256 * 2 ^ 24 + c.source % 256 * 2 ^ 16 + c.opcode % 256 * 256 + 1,
    c.flags % 2 ^ 16 * 2 ^ 48 + c.detail % 2 ^ 16 * 2 ^ 32 + c.index % 2 ^ 32,
    c.qpn % 2 ^ 24 * 2 ^ 40 + c.bytes % 2 ^ 40,
    c.imm % 2 ^ 32 * 2 ^ 32 + c.queue % 2 ^ 12 * 2 ^ 16]

/-- Write the completion of an entry of a queue to the completion queue that the queue names. Log 45 (DEDUCED). -/
def complete (fn : Nat) (c : Compl) (s : State) : State :=
  ledgerOnly s (putCq fn (queue s fn c.queue).cq c.data s)

/-! ## Front desk responses -/

/-- A front desk response (R308). -/
structure FdResp where
  result : Nat := 0
  held : Bool := false
  epoch : Nat := 0
  ret : Nat := 0
  stopAt : Nat := 0
  deriving DecidableEq, Repr

/-- Its 32 B. -/
def FdResp.data (r : FdResp) (h : FdHdr) (opcode : Nat) : List Byte :=
  wordsLe [h.tag % 2 ^ 32 * 2 ^ 32 + r.result % 256 * 2 ^ 24 + b2n r.held * 2 ^ 16 + opcode % 256 * 256 + 1,
    r.epoch % 2 ^ 16 * 2 ^ 32 + h.index % 2 ^ 32, r.ret % 2 ^ 64, r.stopAt % 2 ^ 64]

/-- A front desk that waits for its running command to end is DISABLED then (R311). -/
def fdIdle (q : Queue) : Queue := match q.st with | .draining => { q with st := .disabled } | _ => q

/-- Change the response ring of a front desk. -/
def modRsp (fn : Nat) (f : Queue → Queue) (s : State) : State := modFunc fn (fun x => { x with fd := { x.fd with resp := f x.fd.resp } }) s

/-- Write the response ring of a function's front desk; a fault stops the front desk (R1142, R316), and a response for a frozen unit waits (R212).
Log 170 (DEDUCED). -/
def putResp (h : FdHdr) (opcode : Nat) (r : FdResp) (s : State) : State :=
  let q := (func s h.fn).fd.resp
  let d := r.data h opcode
  match tryPut s h.fn q d with
  | .ok s1 =>
    let a := armStep (elapsed s) { q with prod := q.prod + 2, modCount := 1, modTime := 0 }
    let s2 := modFunc h.fn (fun f => { f with fd := { f.fd with resp := a.2, req := fdIdle f.fd.req } }) s1
    if a.1 then msix h.fn q.vector s2 else s2
  | .error 1 => modRsp h.fn (fun k => { k with held := k.held ++ [d] }) s
  | .error e =>
    modFunc h.fn (fun f => { f with fd := { f.fd with
      running := none
      resp := { q with st := .error, errIndex := q.prod.toNat, errDetail := e, held := q.held ++ [d] }
      req := { f.fd.req with st := .error, errIndex := h.index, errDetail := e } } })
      (meetRing putLedger 4 h.fn 4094 (ringFail s h.fn q (d.length / 16)) s)

/-- Write the responses that a response ring held (R1142, R212). -/
def respHeld (fn : Nat) (s : State) : List (List Byte) → State
  | [] => modFunc fn (fun f => { f with fd := { f.fd with resp := { f.fd.resp with held := [] }, req := fdIdle f.fd.req } }) s
  | d :: ds =>
    let q := (func s fn).fd.resp
    match tryPut s fn q d with
    | .ok s1 =>
      let a := armStep (elapsed s) { q with prod := q.prod + 2, modCount := 1, modTime := 0 }
      let s2 := modRsp fn (fun _ => a.2) s1
      respHeld fn (if a.1 then msix fn q.vector s2 else s2) ds
    | .error e =>
      if e ≤ 1 then modRsp fn (fun k => { k with held := d :: ds }) s
      else meetRing putLedger 4 fn 4094 (ringFail s fn q (d.length / 16))
        (modFunc fn (fun f => { f with fd := { f.fd with
          resp := { f.fd.resp with st := .error, errIndex := q.prod.toNat, errDetail := e, held := d :: ds }
          req := { f.fd.req with st := .error, errDetail := e } } }) s)

/-- Write what a queue that is ACTIVE has held (R324, R1142). -/
def takeHeld (fn q : Nat) (s : State) : State :=
  let k := queue s fn q
  if k.st == .active && !k.held.isEmpty then ledgerOnly s (drainHeld fn q s k.held) else s

/-- Write what an ACTIVE response ring has held (R1142). -/
def takeResp (fn : Nat) (s : State) : State :=
  let k := (func s fn).fd.resp
  if k.st == .active && !k.held.isEmpty then ledgerOnly s (respHeld fn s k.held) else s

/-- A unit is no longer frozen: every ring writes what it held for it (R212, R214). -/
def drainRings (s : State) : State :=
  let s1 := s.queues.foldl (fun s p => takeHeld (p.1 / 4096) (p.1 % 4096) s) s
  s1.funcs.foldl (fun s p => takeResp p.1 s) s1

/-- The request ring moves past an entry that was taken at its consumer index. Log 42 (DEDUCED). -/
def fdPast (h : FdHdr) (op : Nat) (q : Queue) : Queue :=
  if q.cons.toNat = h.index then { q with cons := q.cons + BitVec.ofNat 32 (fdUnits op) } else q

/-- Answer a front desk command: the response, and nothing else, is written; a function whose port was lost gets no
response (R310). -/
def fdAnswer (h : FdHdr) (opcode : Nat) (r : FdResp) (s : State) : State :=
  ledgerOnly s (let s1 := modFunc h.fn (fun f => { f with fd := { f.fd with
      running := none
      mute := false
      req := if r.result = 1 then f.fd.req else fdPast h opcode f.fd.req } }) s
    if (hport s (fnPort h.fn)).st = .down || !(func s h.fn).enabled || (func s h.fn).fd.mute then
      modFunc h.fn (fun f => { f with fd := { f.fd with req := fdIdle f.fd.req } }) s1
    else putResp h opcode r s1)

/-- Whether a function's front desk is served: its room is OPEN (R894, R896, R159); the Innkeeper's always is (R905). -/
def fdServed (s : State) (fn : Nat) : Bool :=
  isInn s fn || (match roomOf s fn with | some rm => (room s rm).st == .opened | none => false)

/-- Whether the front desk of a function takes a command now: it is served, enabled and ACTIVE, no command runs, and the response
ring has room (R299, R300). -/
def fdFree (s : State) (fn : Nat) : Bool :=
  let f := func s fn
  fdServed s fn && f.enabled && f.fd.enable && f.fd.req.st == .active && f.fd.running.isNone && f.fd.resp.st == .active &&
    f.fd.resp.held.isEmpty && decide (f.fd.resp.occupied + 2 ≤ 2 ^ f.fd.resp.log2) && !s.errs.fatal

/-- Whether the front desk takes this command now: it is free, and the command's entry is the next one, which the producer index covers whole
(R289, R300). Log 39 (DEDUCED). -/
def fdReady (s : State) (h : FdHdr) (op : Nat) : Bool :=
  let q := (func s h.fn).fd.req
  fdFree s h.fn && q.cons.toNat == h.index && decide (fdUnits op ≤ q.occupied)

/-- A malformed front desk entry stops the front desk and answers MALFORMED (R316). Log 39 (DEDUCED), 208 (DESIGN CHOICE). -/
def fdMalformed (h : FdHdr) (opcode detail : Nat) (s : State) : State :=
  fdAnswer h opcode { result := 1, stopAt := 0 }
    (modFunc h.fn (fun f => { f with fd := { f.fd with req := { f.fd.req with st := .error, errIndex := h.index, errDetail := detail } } }) s)

/-- A front desk command runs: it starts when the front desk takes it (R300), malformation first (R316), then its body. Log 39 (DEDUCED). -/
def frontDesk (h : FdHdr) (op : Nat) (own : State → Option Nat) (body : State → State) (s : State) : State :=
  if fdReady s h op then
    (match own s with
    | some d => fdMalformed h op d s
    | none => body s)
  else s

/-- The first malformation of a list of causes. Log 39 (DEDUCED). -/
def firstBadOf : List (Bool × Nat) → Option Nat
  | [] => none
  | (b, d) :: r => if b then some d else firstBadOf r

/-- A slow command stays on the front desk until its end (R300). Log 41 (DESIGN CHOICE). -/
def fdHold (h : FdHdr) (opcode : Nat) (w : FdWait) (s : State) : State :=
  modFunc h.fn (fun f => { f with fd := { f.fd with running := some (h, opcode, w) } }) s

/-- The room that a chart, window, QP or party command acts on: the guest's own, or the ROOM operand of the Innkeeper
(R241, R261, R303). -/
def fdRoom (s : State) (h : FdHdr) : Option Nat :=
  if isInn s h.fn then (if (room s h.room).st = .free then none else some h.room) else roomOf s h.fn

/-- RESULT_ADDR of a command that writes a result breaks R254 or R255: detail BAD_ADDRESS (R301). -/
def badResultAddr (s : State) (h : FdHdr) : Bool :=
  match roomOf s h.fn with
  | none => false
  | some r => h.resultAddr != 0 && operand (room s r) h.resultAddr == .bad

end Sys2Proof.Machine
end

