-- ==== Sys2Proof/Machine/Lists0.lean ====
section
/-! DEFINITION. What every engine command shares: lanterns, waits, the epoch check, completions, failures, Seawalls and timed
waits (R334 to R376, R105 to R108, R150 to R153). -/

namespace Sys2Proof.Machine

open Sys2Proof

/-! ## Lanterns -/

/-- A lantern of a room. -/
def lantern (s : State) (rm l : Nat) : Lantern := mget (room s rm).lanterns l {}

/-- Change a lantern that the room holds; a number at or above its quota names none (R377). -/
def modLanternReg (rm l : Nat) (f : Lantern → Lantern) (s : State) : State :=
  modRoom rm (fun r => if l < r.quotas.lantern then { r with lanterns := mmod r.lanterns l {} f } else r) s

/-- Change the lantern that a command names; 0xFFFF names none (R345, R350). -/
def modLantern (rm l : Nat) (f : Lantern → Lantern) (s : State) : State := if l = 0xFFFF then s else modLanternReg rm l f s

/-- Advance a lantern by a number (R353, R354). -/
def lanternAdd (rm l n : Nat) (s : State) : State :=
  modLantern rm l (fun x => { x with count := x.count + BitVec.ofNat 32 n }) s

/-- Set FAULT on a lantern (R358). -/
def lanternFault (rm l : Nat) (s : State) : State := modLantern rm l (fun x => { x with fault := true }) s

/-- A lantern number that a command may name (R351). Log 47 (DESIGN CHOICE). -/
def lanternOk (r : Room) (l : Nat) : Bool := l == 0xFFFF || decide (l < r.quotas.lantern)

/-- A wait is met (R355). -/
def waitMet (x : Lantern) (target : Nat) (ignoreFault : Bool) : Bool :=
  (ignoreFault || !x.fault) && decide (0 ≤ (x.count - BitVec.ofNat 32 target).toInt)

/-! ## List records -/

/-- The list that a command belongs to. -/
def findList (s : State) (fn q l : Nat) : Option ListRec :=
  s.lists.find? (fun r => r.fn == fn && r.queue == q && r.list == l)

/-- Put a list record in the place of the one of the same list, or at the end. -/
def putList (r : ListRec) : List ListRec → List ListRec
  | [] => [r]
  | x :: xs => if x.fn = r.fn ∧ x.queue = r.queue ∧ x.list = r.list then r :: xs else x :: putList r xs

/-- Set a list record. -/
def setList (r : ListRec) (s : State) : State := { s with lists := putList r s.lists }

/-- Remove a list record. -/
def dropList (fn q l : Nat) (s : State) : State :=
  { s with lists := s.lists.filter (fun r => !(r.fn == fn && r.queue == q && r.list == l)) }

/-- The record of a command's list; a command of a list that the model has no record of runs as its queue's running list. Log 44 (DESIGN CHOICE). -/
def listOf (s : State) (h : CmdHdr) (rm : Nat) : ListRec :=
  match findList s h.fn h.queue h.list with
  | some r => r
  | none => { fn := h.fn, queue := h.queue, list := h.list, cls := (queue s h.fn h.queue).cls, room := rm, st := .onTile, inFlight := true }

/-- Whether a list runs on a tile, or would if the list before it on the tile were gone (R362). -/
def ListRec.holdsTile (r : ListRec) : Bool := r.st == .onTile || r.st == .stuck || r.st == .held

/-- Whether a list has a tile to run its next command on. -/
def canRun (s : State) (r : ListRec) : Bool :=
  r.st == .onTile || r.st == .stuck ||
    (r.st == .behind && !s.lists.any (fun x => x.tile == r.tile && x.tile.isSome && x.holdsTile))

/-- How a command's body ends: its status, detail, bytes, flags; `pend` when it goes on and completes later, `stall` when it could
not begin and has no effect; `lost` and `stops` when an unpredictable result is no completion, or the stop of the queue (R15). -/
structure CEnd where
  status : Nat := 0
  detail : Nat := 0
  bytes : Nat := 0
  flags : Nat := 0
  imm : Option Nat := none
  pend : Bool := false
  stall : Bool := false
  lost : Bool := false
  stops : Bool := false
  deriving DecidableEq, Repr

/-- A list ends: its record goes, the class counts it (EN_LISTS_DONE), its queue's outstanding list ends; a body's end advances
the lantern of its LIST_EXEC (R337). -/
def endList (h : CmdHdr) (r : ListRec) (s : State) : State :=
  let s1 := bump (0x250100 + 0x40 * r.cls) (dropList h.fn h.queue h.list s)
  modQueue h.fn h.queue (fun q => { q with fetched := q.fetched.filter (fun f => f.index != h.list) }) s1

/-- Set FAULT on the SIGNAL lanterns of the failed command and of every later command of its list (R358, R337). -/
def faultSignals (rm : Nat) (r : ListRec) (h : CmdHdr) (s : State) : State :=
  ((if r.exec then [r.bodySignal] else []) ++ r.signals).foldl (fun s l => lanternFault rm l s) (lanternFault rm h.signal s)

/-- A command's completion entry (R342). -/
def writeCompl (h : CmdHdr) (op : Nat) (e : CEnd) (s : State) : State :=
  complete h.fn {
    tag := h.tag, status := e.status, source := 2, opcode := op, flags := e.flags + (if e.imm.isSome then 32 else 0),
    detail := e.detail, index := h.index, bytes := e.bytes, imm := e.imm.getD 0, queue := h.queue } s

/-- A command fails: it completes, faults the lanterns of its list, and its list ends (R342, R358). A list whose entries are not
yet all consumed stays as failed until its END. -/
def failCmd (h : CmdHdr) (op : Nat) (r : ListRec) (e : CEnd) (s : State) : State :=
  let s1 := faultSignals r.room r h (writeCompl h op { e with flags := e.flags ||| r.flags } s)
  if h.fin || r.signals ≠ [] || r.exec then endList h r s1
  else setList { r with failed := true, st := .onTile, tile := none, cur := none, prog := none, pins := [], hunits := [] } s1

/-! ## Seawalls -/

/-- The host ports that are not down, which a Seawall waits for (R151, R153). Log 48 (DEDUCED). -/
def wallPorts (s : State) : List Nat := (List.range 8).filter (fun p => (hport s p).st != .down)

/-- Begin a Seawall: a zero-length read on each port in L0; ports that are down are skipped (R150 to R153). Log 48 (DEDUCED). -/
def startWall (w : SeawallRec) (s : State) : State :=
  let ps := wallPorts s
  { s with
    seawalls := s.seawalls ++ [{ w with
      id := s.nextSeawall, ports := ps, unread := ps.filter (fun p => (hport s p).st != .up), partialSeen := decide (ps.length < 8) }]
    nextSeawall := s.nextSeawall + 1
    out := (ps.filter (fun p => (hport s p).st == .up)).map (fun p => Out.zeroRead p w.room false) ++ s.out }

/-- A list body's last command completed OK: the SIGNAL of its LIST_EXEC advances, after a Seawall when its header asks (R337). -/
def bodyDone (r : ListRec) (s : State) : State :=
  if !r.exec then s
  else if r.bodyWall && wallPorts s ≠ [] then
    startWall { id := 0, room := r.room, ports := [], kind := 3, bytes := r.bodySignal } s
  else lanternAdd r.room r.bodySignal 1 s

/-- A command completes OK: its flags stay with the list (R343), its SIGNAL advances (R353), its completion is written
(R342), and the last one ends the list. -/
def okCmd (h : CmdHdr) (op : Nat) (r : ListRec) (e : CEnd) (s : State) : State :=
  let fl := e.flags ||| r.flags
  let s1 := lanternAdd r.room h.signal 1 s
  let s2 := if h.notify || h.fin then writeCompl h op { e with flags := fl } s1 else s1
  if h.fin then endList h r (bodyDone r s2)
  else setList { r with flags := fl, signals := r.signals.tail, cur := none, waitMet := false, prog := none, pins := [], hunits := [] } s2

/-- End a command: through a Seawall when its SEAWALL flag asks for one (R347), else at once. -/
def endCmd (h : CmdHdr) (op : Nat) (r : ListRec) (e : CEnd) (s : State) : State :=
  if e.stall then s
  else if e.pend then s
  else if e.lost then endList h r s
  else if e.stops then qStop h.fn h.queue h.index e.detail (endList h r s)
  else if e.status ≠ 0 then failCmd h op r e s
  else if h.seawall || op = 3 then
    if wallPorts s = [] then okCmd h op r { e with flags := e.flags ||| 16 } s
    else setList { r with st := .held, cur := some (h, op) }
      (startWall { id := 0, room := r.room, ports := [], kind := 0, hdr := some h, opcode := op, bytes := e.bytes, flags := e.flags } s)
  else okCmd h op r e s

/-! ## Parking -/

/-- Park slots in use (R366). -/
def parked (s : State) : Nat := (s.lists.filter (fun r => r.st == .parked)).length

/-- A list meets an unmet wait: it takes a park slot and leaves its tile, or holds its tile when no slot is free (R365, R366). -/
def parkList (h : CmdHdr) (op : Nat) (r : ListRec) (s : State) : State :=
  let w := { r with
    waitLantern := h.wait, waitTarget := h.waitTarget, waitIgnore := h.ignoreFault, waitMax := h.waitTimeout,
    waitSince := if r.cur = some (h, op) then r.waitSince else elapsed s, cur := some (h, op) }
  let used := (s.lists.filter (fun x => x.st == .parked && x.room == r.room)).length
  if parked s < 16384 && used < (room s r.room).quotas.park then setList { w with st := .parked, tile := none } s
  else
    let s1 := setList { w with st := .stuck, parkFull := true } s
    if s.lists.any (fun x => x.parkFull && x.st == .stuck) then s1
    else ledgerRoom r.room { kind := 0x25, object := h.index } (raise 5 2 s1)

/-! ## The frame of an engine command -/

/-- Whether a malformed entry stops the queue (R316). -/
def stopClass (s : State) (fn q : Nat) : Bool := isInn s fn || (queue s fn q).cls == 5

/-- The length in units of a common command (R350) or a copy command (R302); the other commands check their own. -/
def cmdUnits (op cls : Nat) : Option Nat :=
  if op = 4 then some 3
  else if op < 0x20 then some 2
  else if cls = 6 then some (if op = 0x22 then 3 else 4)
  else none

/-- The first cause by which an engine command is malformed (R1138): its class, its length, its own causes, its lanterns. -/
def cmdBad (q : Queue) (r : Room) (h : CmdHdr) (op cls : Nat) (own : Option Nat) : Option Nat :=
  if 0x20 ≤ op && q.cls != cls then some 2
  else if own = some 2 || own = some 6 then own
  else if (cmdUnits op cls).any (fun n => h.units != n) then some 3
  else match own with
    | some d => some d
    | none => if lanternOk r h.signal && lanternOk r h.wait then none else some 4

/-- A malformed engine command: R370 on a continue-class queue, R371 on a stop-class queue. -/
def cmdMalformed (h : CmdHdr) (op d : Nat) (r : ListRec) (s : State) : State :=
  if stopClass s h.fn h.queue then
    setList { r with st := .held, tile := none, cur := some (h, op) } (qStop h.fn h.queue h.index d s)
  else failCmd h op r { status := 1, detail := d } s

/-- A stale chart epoch (R257, R346): XLATE_FAULT with STALE_EPOCH, and its record (R252). -/
def staleEpoch (h : CmdHdr) (op : Nat) (r : ListRec) (s : State) : State :=
  failCmd h op r { status := 3, detail := 8 }
    (ledgerRoom r.room { kind := 0x60, severity := 2, object := h.index, code := 8 } s)

/-- An engine command runs: on its list's tile, unless its list has failed; malformation first (R369), then its wait (R355 to R366),
then its epoch (R346), then its body, then its end. A command that has begun goes on from where it stands. Log 29 (DEDUCED), 44 (DESIGN CHOICE). -/
def engine (h : CmdHdr) (op cls : Nat) (own : State → Room → Option Nat) (body : ListRec → State → CEnd × State) (s : State) : State :=
  match roomOf s h.fn with
  | none => s
  | some rm =>
    let q := queue s h.fn h.queue
    let r := listOf s h rm
    if q.kind != .engine || q.st == .free || q.st == .flushed || s.errs.fatal || !canRun s r then s
    else if r.failed then
      (if h.fin then endList h r (lanternFault rm h.signal s) else lanternFault rm h.signal s)
    else
      match (if r.prog.isSome then none else cmdBad q (room s rm) h op cls (own s (room s rm))) with
      | some d => cmdMalformed h op d r s
      | none =>
        let x := lantern s rm h.wait
        if h.wait ≠ 0xFFFF && !r.waitMet && r.prog.isNone && !h.ignoreFault && x.fault then failCmd h op r { status := 0x41 } s
        else if h.wait ≠ 0xFFFF && !r.waitMet && r.prog.isNone && !waitMet x h.waitTarget h.ignoreFault then parkList h op r s
        else if r.prog.isNone && h.epoch ≠ 0 && h.epoch ≠ (room s rm).epoch then staleEpoch h op r s
        else
          let r1 := { r with parkFull := false, st := .onTile, cur := some (h, op) }
          let e := body r1 (setList r1 s)
          endCmd h op ((findList e.2 h.fn h.queue h.list).getD r1) e.1 e.2

/-! ## A device in FATAL -/

/-- The device enters FATAL (R26, R976): the record, ER_FATAL, FATAL in ER_EVENT, the module alert. A device that is FATAL
already keeps its first cause. -/
def deviceFatal (unit object d0 : Nat) (s : State) : State :=
  if s.errs.fatal then s
  else
    let s1 := raise 12 7 (ledgerInn { kind := 0x0C, severity := 3, unit := unit, object := object, d0 := d0 } s)
    { s1 with errs := { s1.errs with fatal := true, fatalUnit := unit, fatalKind := 0x0C, alert := true } }

/-- Whether the module is held in reset, or has no input power: it answers no request on any path (R1087, R1116). Log 3 (DESIGN CHOICE). -/
def unpowered (s : State) : Bool := s.power.pin || !s.power.inputOk

/-! ## Critical fields -/

/-- The vote over three copies of a field: the value of two that agree, or none when all differ (R14, R1064, R1065). Log 20 (DEDUCED). -/
def majority {α : Type} [DecidableEq α] (a b c : α) : Option α := if a = b ∨ a = c then some a else if b = c then some b else none

/-- The block of a critical field, by its index in R1042. -/
def trvBlock : Trv → Nat
  | .tide _ _ => 0
  | .hport p _ _ => 16 + p
  | .window _ _ _ => 3
  | .queue _ _ _ => 4
  | .desk _ _ _ => 4
  | .router _ _ => 7
  | .fport p _ _ => 24 + p
  | .fportB p _ _ => 24 + p
  | .laser _ _ _ => 8
  | .lane _ _ _ => 8
  | .room _ _ _ => 10
  | .latch _ _ _ => 12
  | .domain _ _ _ => 11

/-- The state in which a critical field holds what its copies vote for, none when all three differ. Log 20 (DEDUCED). -/
def trvVoted (x : Trv) (s : State) : Option State :=
  match x with
  | .tide b c => (majority s.tide.st b c).map (fun v => { s with tide := { s.tide with st := v } })
  | .hport p b c => (majority (mget s.hports p {}).st b c).map (fun v => { s with hports := mmod s.hports p {} (fun y => { y with st := v }) })
  | .window i b c => (majority (mget s.windows i {}).st b c).map (fun v => { s with windows := mmod s.windows i {} (fun y => { y with st := v }) })
  | .queue k b c => (majority (mget s.queues k {}).st b c).map (fun v => { s with queues := mmod s.queues k {} (fun y => { y with st := v }) })
  | .desk fn b c => (majority (func s fn).fd.req.st b c).map (fun v =>
      modFunc fn (fun y => { y with fd := { y.fd with req := { y.fd.req with st := v } } }) s)
  | .router b c => (majority s.router.st b c).map (fun v => { s with router := { s.router with st := v } })
  | .fport p b c => (majority (mget s.fports p {}).st b c).map (fun v => { s with fports := mmod s.fports p {} (fun y => { y with st := v }) })
  | .fportB p b c => (majority (mget s.fports p {}).stB b c).map (fun v => { s with fports := mmod s.fports p {} (fun y => { y with stB := v }) })
  | .laser u b c => (majority (mget s.lasers u {}).st b c).map (fun v => { s with lasers := mmod s.lasers u {} (fun y => { y with st := v }) })
  | .lane k b c => (majority (mget s.lanes k {}).st b c).map (fun v => { s with lanes := mmod s.lanes k {} (fun y => { y with st := v }) })
  | .room r b c => (majority (room s r).st b c).map (fun v => modRoom r (fun y => { y with st := v }) s)
  | .latch u b c => (majority (mget s.errs.latches u {}).st b c).map (fun v =>
      { s with errs := { s.errs with latches := mmod s.errs.latches u {} (fun y => { y with st := v }) } })
  | .domain d b c => (majority (mget s.doms d {}).st b c).map (fun v => { s with doms := mmod s.doms d {} (fun y => { y with st := v }) })

/-- One critical field whose copies disagree is repaired and counted, or makes the device FATAL (R1064, R1065). Log 20 (DEDUCED). -/
def trvRepair (x : Trv) (s : State) : State :=
  match trvVoted x s with
  | some r => raise 12 0 (bump 0x440420 r)
  | none => deviceFatal 0x02FF (trvBlock x) 0x02FF s

/-- Every use of the critical fields votes their copies (R1064). Log 20 (DEDUCED). -/
def vote (s : State) : State :=
  match s.trv with
  | [] => s
  | l => keep everything s (l.foldl (fun s x => trvRepair x s) { s with trv := [] })

/-- A command acts on the parts of the state that it may change, once its critical fields are voted, unless the device is FATAL (R976) or the
module is unpowered. Log 3 (DESIGN CHOICE), 161 (DESIGN CHOICE). -/
def act (l : List Piece) (f : State → State) (s : State) : Answer :=
  .next (if s.errs.fatal || unpowered s then s
    else if (vote s).errs.fatal then vote s
    else keep l (vote s) (f (vote s)))

/-- A command that a device in FATAL still serves (R976). Log 3 (DESIGN CHOICE), 161 (DESIGN CHOICE). -/
def actAlways (l : List Piece) (f : State → State) (s : State) : Answer :=
  .next (if unpowered s then s
    else if s.errs.fatal then keep l s (f s)
    else keep l (vote s) (f (vote s)))

/-! ## Timed waits -/

/-- Timed waits and starts that hold one of the 16,384 slots (R107). -/
def timedUsed (s : State) : Nat := (s.tide.waits.filter (fun w => w.armed)).length

/-- Arm a timed wait, or hold it until a slot frees (R107). -/
def armWait (w : TimedWait) (s : State) : State :=
  let full := decide (16384 ≤ timedUsed s)
  let s1 : State := { s with
    tide := { s.tide with
      waits := s.tide.waits ++ [{ w with id := s.tide.nextWait, armed := !full }]
      nextWait := s.tide.nextWait + 1 } }
  if full then raise 5 3 s1 else s1

/-- A list's wait on tide time ends: WAIT_TIDE completes with the flags given, and the list re-enters dispatch (R365). -/
def wakeTimed (fn q l flags : Nat) (s : State) : State :=
  match findList s fn q l with
  | some r =>
    match r.st, r.cur with
    | .timed, some (h, op) => endCmd h op { r with st := .woken } { flags := flags } (setList { r with st := .woken } s)
    | _, _ => s
  | none => s

/-- Give free slots to the oldest waits that hold their lists without one, as far as they go; a target that has passed lets its list proceed
with LATE and takes no slot (R107). -/
def serveHeld : Nat → State → State
  | 0, s => s
  | k + 1, s =>
    if 16384 ≤ timedUsed s then s
    else
      match s.tide.waits.find? (fun w => !w.armed) with
      | none => s
      | some w =>
        serveHeld k
          (if w.start || !reached w.target s.tide.count then
            { s with tide := { s.tide with waits := s.tide.waits.map (fun x => if x.id = w.id then { x with armed := true, late := reached x.target s.tide.count } else x) } }
          else
            wakeTimed w.fn w.queue w.list 1
              { s with tide := { s.tide with waits := s.tide.waits.filter (fun x => x.id != w.id) } })

/-- Slots have come free (R107). -/
def slotFreed (s : State) : State := serveHeld (s.tide.waits.filter (fun w => !w.armed)).length s

/-- A timed wait fires: its list proceeds, with TIDE_UNQUALIFIED when the device is not qualified (R105, R108). Log 23 (DEDUCED). -/
def fireWait (w : TimedWait) (s : State) : State :=
  let s1 : State := { s with tide := { s.tide with waits := s.tide.waits.filter (fun x => x.id != w.id) } }
  slotFreed (wakeTimed w.fn w.queue w.list (if qualified s then 0 else 2) s1)

end Sys2Proof.Machine
end

