-- ==== Sys2Proof/Machine/Tide.lean ====
section
/-! DEFINITION. Tide time and schedules (R59 to R120): the count and its sources, election, beacons, the states of the tide
unit, tide tables, timed waits and buffered configuration. -/

namespace Sys2Proof.Machine

open Sys2Proof

/-! ## The tide unit -/

/-- Change the tide unit. -/
def modTide (f : Tide → Tide) (s : State) : State := { s with tide := f s.tide }

/-- A fabric port as the tide unit sees it. -/
def tport (s : State) (p : Nat) : TidePort := mget s.tide.ports p {}

/-- Change a fabric port's tide part. -/
def modTport (p : Nat) (f : TidePort → TidePort) (s : State) : State := modTide (fun t => { t with ports := mmod t.ports p {} f }) s

/-- A record of the tide unit (R85, R87), with an offset in ticks. -/
def tideRec (kind : Nat) (off : Int) (s : State) : State :=
  ledgerInn { kind := kind, unit := 0x0248, d0 := (BitVec.ofInt 64 off).toNat } s

/-- 1 µs, 10 µs and 12 µs in ticks, and ±200 ppm and ±100 ppm of 16 ticks in units of 2⁻³² tick (R62, R87). -/
def usTicks : Int := 16000

/-- The rate adjustment held within a bound. Log 19 (DESIGN CHOICE). -/
def clampRate (b r : Int) : Int := if b < r then b else if r < -b then -b else r

/-- ±200 ppm of 16 ticks per cycle, in units of 2⁻³² tick (R62). -/
def rateMax : Int := 13743895

/-- 100 ppm of 16 ticks per cycle, in units of 2⁻³² tick (R87). -/
def slewMax : Int := 6871947

/-- The rate's average over the last second (R87): each value weighted by the time it stood, from the log, newest first. -/
def rateAvg (now : Word) : List (Word × Int) → Word → Int → Int → Int
  | [], _, sum, len => if len = 0 then 0 else sum / len
  | (t, r) :: rest, until_, sum, len =>
    let age := sdiff now t
    if 16000000000 ≤ age then
      let d := 16000000000 - sdiff now until_
      if len + d = 0 then r else (sum + r * d) / (len + d)
    else rateAvg now rest t (sum + r * sdiff until_ t) (len + sdiff until_ t)

/-- The rate that HOLDOVER freezes: its 1 s average, or the present rate when nothing is logged. -/
def frozenRate (t : Tide) : Int := if t.rateLog = [] then t.rate else rateAvg t.count t.rateLog t.count 0 0

/-- Whether the device holds EXT or PTP in LOCKED or HOLDOVER: the reference term of R68 is then 0. -/
def refTerm (t : Tide) : Nat :=
  if (t.src == .ext || t.src == .ptp) && (t.st == .locked || t.st == .holdover) then 0 else 1

/-- The key of R68, compared in order. -/
def keyLess (a b : Nat × Nat × Nat) : Bool :=
  decide (a.1 < b.1) || (a.1 == b.1 && (decide (a.2.1 < b.2.1) || (a.2.1 == b.2.1 && decide (a.2.2 < b.2.2))))

/-- A master that a device knows: its key, the hops to it and the port it comes by (none for the device itself). -/
structure Known where
  key : Nat × Nat × Nat
  hops : Nat
  port : Option Nat
  deriving DecidableEq, Repr

/-- The better of two: lower key, then fewer hops, then the lower port; the device itself first (R68, R70). -/
def Known.better (a b : Known) : Bool :=
  keyLess a.key b.key || (a.key == b.key && (decide (a.hops < b.hops)))

/-- The best-ranked master of a list, the earlier one on a tie. -/
def bestKnown : List Known → Option Known
  | [] => none
  | k :: r => match bestKnown r with
    | none => some k
    | some x => if x.better k then some x else some k

/-- The masters a device knows: its own candidacy (R67) and its locked neighbours' announcements, in port order (R69). -/
def knownMasters (s : State) : List Known :=
  (if objF s 0x4002 0 128 < 255 then [{ key := (refTerm s.tide, objF s 0x4002 0 128, s.router.node), hops := 0, port := none }] else []) ++
  s.tide.ports.filterMap (fun p => match p.2.announce with
    | some a => if (fport s p.1).direct && !p.2.lost then
        some { key := (a.ref, a.prio, a.node), hops := Nat.min 255 (a.hops + 1), port := some p.1 } else none
    | none => none)

/-- The sources of SOURCE_ORDER in force, in order (object 0x4003:01). -/
def sourceOrder (s : State) : List Nat := (leBytes 4 (objF s 0x4003 1 0x00030201)).map (fun b => b.toNat)

/-- The source that the device follows: the first of SOURCE_ORDER that is available; the tide master never follows beacons
(R71). -/
def pickSource (s : State) : TideSrc :=
  match (sourceOrder s).find? (fun c => (c == 1 && s.tide.extOk) || (c == 2 && s.tide.ptpOk) ||
      (c == 3 && s.tide.parent.isSome && !s.tide.isMaster)) with
  | some 1 => .ext
  | some 2 => .ptp
  | some 3 => .beacon
  | _ => .free

/-- Enter a state of the tide unit; the SOURCE_ORDER written last is in force from this change on (R119). -/
def enterSt (x : TideSt) (s : State) : State :=
  { s with
    objNow := mdel s.objNow (okey 0x4003 1)
    tide := { s.tide with st := x } }

/-- Enter ACQUIRE: measuring begins, and the FABRIC_EPOCH written last is in force (R87, R119). -/
def toAcquire (s : State) : State :=
  let s1 := modTide (fun t => { t with samples := [], goodRun := 0, badRun := 0, firstDone := false }) (enterSt .acquire s)
  { s1 with objNow := mdel s1.objNow (okey 0x4001 0) }

/-- Enter LOCKED and record it (R87). -/
def toLocked (s : State) : State :=
  tideRec 0xC1 s.tide.offset (modTide (fun t => { t with badRun := 0, extLocked := t.extLocked || t.src == .ext }) (enterSt .locked s))

/-- Enter HOLDOVER with a frozen rate and record LOCK_LOST (R87): the error estimate starts from the hop count that the unit held (R88). -/
def toHoldover (rate : Int) (hops : Nat) (s : State) : State :=
  tideRec 0xC3 s.tide.offset (raise 0 1
    (modTide (fun t => { t with rate := rate, holdAt := t.count, holdHops := hops, samples := [], goodRun := 0, badRun := 0 }) (enterSt .holdover s)))

/-- Follow the sources as they stand (R87); `hops` is the hop count before the change that asks for it. A unit that loses its last source keeps
it as the one that it holds through HOLDOVER (R68). A change to EXT in LOCKED is a lock to EXT (R75). Log 178 (DEDUCED). -/
def reselect (hops : Nat) (s : State) : State :=
  let src := pickSource s
  match s.tide.st with
  | .freerun => if src = .free then modTide (fun t => { t with src := src }) s else toAcquire (modTide (fun t => { t with src := src }) s)
  | .acquire => modTide (fun t => { t with src := src }) s
  | .locked =>
    if src = .free && s.tide.src ≠ .free then toHoldover (frozenRate s.tide) hops s
    else modTide (fun t => { t with src := src, extLocked := t.extLocked || src == .ext }) s
  | .holdover => if src = .free then s else modTide (fun t => { t with src := src }) s

/-- Adopt the best master known (R69 to R72): MASTER_CHANGE and PARENT_CHANGE are reported when they come about. Log 183 (DESIGN CHOICE). -/
def elect (s : State) : State :=
  let b := bestKnown (knownMasters s)
  let key := (b.map (fun k => k.key)).getD (1, 0xFF, 0xFFFF)
  let par := b.bind (fun k => k.port)
  let old := (s.tide.mPrio, s.tide.mNode)
  let s1 := modTide (fun t => { t with
    mRef := key.1, mPrio := key.2.1, mNode := key.2.2
    isMaster := b.isSome && par.isNone
    parent := par
    hops := (b.map (fun k => k.hops)).getD 0xFF
    outOfBudget := (match b with | some k => decide (16 < k.hops) && decide (k.hops < 0xFF) | none => false) }) s
  let s2 := if old ≠ key.2 then raise 0 3 s1 else s1
  let s3 := if s.tide.parent ≠ par then raise 0 2 s2 else s2
  let s4 := if s.tide.parent ≠ par && s.tide.parent.isSome && par.isSome && s.tide.st == .locked then tideRec 0xC2 s.tide.offset s3 else s3
  reselect s.tide.hops s4

/-- A beacon passes: the MASTER_PRIORITY written last is in force (R119). -/
def nextBeacon (s : State) : State := { s with objNow := mdel s.objNow (okey 0x4002 0) }

/-- One offset from the source in use (R84, R87). -/
def offsetSample (off : Int) (s : State) : State :=
  let good := decide (-32 ≤ off) && decide (off ≤ 32)
  let run := if good then s.tide.goodRun + 1 else 0
  match s.tide.st with
  | .acquire =>
    let s1 := modTide (fun t => { t with samples := t.samples ++ [off], goodRun := run }) s
    if 64 ≤ run then toLocked s1 else s1
  | .locked => modTide (fun t => { t with samples := t.samples ++ [off] }) s
  | .holdover =>
    if off < -160000 || 160000 < off then toAcquire (tideRec 0xC4 off s)
    else
      let s1 := modTide (fun t => { t with samples := t.samples ++ [off], goodRun := run }) s
      if 64 ≤ run then toLocked s1 else s1
  | .freerun => s

/-! ## Tide tables -/

/-- TD_GCL_CTRL of a port (R118). -/
def gclCtrl (s : State) (p : Nat) : Word := rd s (0x490000 + 0x2000 * p) 0x100000000

/-- Whether a port's tide table runs. -/
def gclOn (s : State) (p : Nat) : Bool := (gclCtrl s p).getLsbD 0

/-- The first cycle start of a table at or after a time (R92). Log 180 (DESIGN CHOICE). -/
def cycleStart (g : Gcl) (t : Word) : Word :=
  let c : Int := g.cycle * 16
  if c = 0 then t else t + BitVec.ofInt 64 ((- sdiff t g.base) % c)

/-- The place in its cycle at a time, in ticks, before BASE_TIME as after it (R92). Log 180 (DESIGN CHOICE). -/
def cyclePos (g : Gcl) (t : Word) : Nat := if g.cycle = 0 then 0 else ((sdiff t g.base) % (g.cycle * 16 : Int)).toNat

/-- The gates that the entries give at a place in the cycle: the last entry holds to the cycle's end (R93). -/
def gatesFrom : List Word → Nat → BitVec 8
  | [], _ => 0xFF
  | [e], _ => BitVec.ofNat 8 (wfld e 39 32)
  | e :: r, pos => if pos < wfld e 29 0 * 16 then BitVec.ofNat 8 (wfld e 39 32) else gatesFrom r (pos - wfld e 29 0 * 16)

/-- The gates of a table at a time. -/
def gatesAt (g : Gcl) (t : Word) : BitVec 8 := gatesFrom g.entries (cyclePos g t)

/-- Where entries end within a cycle, in ticks from its start. -/
def entryEnds : List Word → Nat → List Nat
  | [], _ => []
  | e :: r, a => (a + wfld e 29 0 * 16) :: entryEnds r (a + wfld e 29 0 * 16)

/-- The entry boundaries of a table after a time and at most d ticks later, by their distance (R92, R93). -/
def boundsWithin (g : Gcl) (t : Word) (d : Nat) : List Nat :=
  let pos := cyclePos g t
  let cyc := g.cycle * 16
  let ends := (entryEnds g.entries 0).filter (fun e => e < cyc) ++ [cyc]
  ((ends ++ ends.map (fun e => e + cyc)).filter (fun e => decide (pos < e) && decide (e ≤ pos + d))).map (fun e => e - pos)

/-- When the pending set of a port switches in: the first cycle start of the running table at or after CHANGE_TIME (R97). -/
def switchTime (x : TidePort) : Option (Gcl × Word) := x.pend.map (fun p => (p.1, cycleStart x.oper p.2))

/-- The gates of a port at a coming time, d ticks from now: those in force until the first cycle start that a switch or a step waits for, then
the operational table's, and across a pending switch those of its last entry, then the new table's (R92, R93, R98, R111). -/
def gatesAhead (x : TidePort) (now : Word) (d : Nat) : BitVec 8 :=
  let at_ := now + BitVec.ofNat 64 d
  let waits := match x.switchAt with | some t => !reached t at_ | none => false
  if waits then x.gates
  else
    match switchTime x with
    | some (g, w) => if reached w at_ then (if reached (cycleStart g w) at_ then gatesAt g at_ else gatesAt x.oper (w - 1)) else gatesAt x.oper at_
    | none => gatesAt x.oper at_

/-- Whether the gate of a class closes within d ticks from now (R104): it is closed at some gate boundary in that span, of the table in force
or of one that switches in. -/
def closesWithin (x : TidePort) (now : Word) (c d : Nat) : Bool :=
  let first := (match x.switchAt with | some t => [(sdiff t now).toNat] | none => []) ++
    (match switchTime x with
     | some (g, w) => let t := cycleStart g w; (sdiff t now).toNat :: (boundsWithin g t d).map (fun e => (sdiff t now).toNat + e)
     | none => [])
  (first ++ boundsWithin x.oper now d).any (fun e => decide (0 < e) && decide (e ≤ d) && !(gatesAhead x now e).getLsbD c)

/-- Slack water of a class on a port: ⌈(L + 32) × 8 / r⌉ + 2 ns (R102). -/
def slackNs (s : State) (p c : Nat) : Nat :=
  let r := (fport s p).rate / 1000
  ((obj s (0x2840 + c) (p + 1) 4352 + 32) * 8 + r - 1) / r + 2

/-- The administrative entries that a commit takes (R97). -/
def adminEntries (s : State) (p n : Nat) : List Word :=
  (List.range n).map (fun e => rd s (0x490800 + 0x2000 * p + 8 * e) 0xFF00000000)

/-- Whether a commit is rejected (R99). -/
def commitBad (s : State) (p : Nat) : Bool :=
  let n := wfld (gclCtrl s p) 40 32
  let cyc := wfld (rd s (0x490010 + 0x2000 * p) 0) 29 0
  n == 0 || decide (256 < n) || decide (cyc < 1000) || decide (1000000000 < cyc) ||
    (adminEntries s p n).any (fun e => wfld e 29 0 == 0 || decide (1000000000 < wfld e 29 0))

/-! ## Beacons -/

/-- The 32 bytes of a beacon, big-endian, byte 0 first (R81). -/
def beaconBytes (b : Beacon) : List Byte :=
  [BitVec.ofNat 8 (b.version % 16 * 16 + b.kind % 16),
   BitVec.ofNat 8 (b2n b.locked * 128 + b2n b.holdover * 64 + b2n b.master * 32 + b2n b.ref * 16),
   BitVec.ofNat 8 b.hops, BitVec.ofNat 8 b.seq] ++ beBytes 2 b.node ++ [BitVec.ofNat 8 b.prio, BitVec.ofNat 8 b.echoSeq] ++
    beBytes 8 b.txTime.toNat ++ beBytes 8 b.echoTx.toNat ++ beBytes 8 b.echoRx.toNat

/-- The beacon that 32 bytes hold (R81). -/
def beaconOf (l : List Byte) : Beacon :=
  let byte := fun i => (l.getD i 0).toNat
  let word := fun i => BitVec.ofNat 64 (ofBe ((l.drop i).take 8))
  { version := byte 0 / 16, kind := byte 0 % 16, locked := (l.getD 1 0).getLsbD 7, holdover := (l.getD 1 0).getLsbD 6,
    master := (l.getD 1 0).getLsbD 5, ref := (l.getD 1 0).getLsbD 4, hops := byte 2, seq := byte 3, node := ofBe ((l.drop 4).take 2),
    prio := byte 6, echoSeq := byte 7, txTime := word 8, echoTx := word 16, echoRx := word 24 }

/-- A beacon leaves a port now (R80, R81): it announces the best-ranked master that the device knows (R69). -/
def sendBeacon (p : Nat) (s0 : State) : State :=
  let s := elect (nextBeacon s0)
  let t := s.tide
  let tp := tport s p
  let b : Beacon := {
    locked := t.st == .locked || t.isMaster, holdover := t.st == .holdover, master := t.isMaster, ref := t.mRef == 0,
    hops := t.hops, seq := tp.txSeq.toNat, node := t.mNode, prio := t.mPrio, echoSeq := tp.rxSeq.toNat, txTime := t.count,
    echoTx := tp.rxTx, echoRx := tp.rxTime }
  emit (.beacon p (linkFrame 2 (beaconBytes b)))
    (modTport p (fun x => { x with txSeq := x.txSeq + 1, sent := ((x.txSeq, t.count) :: x.sent).take 8 }) s)

/-- BEACON_SEND: a direct-mode port in UP sends a beacon, at once when nothing is leaving, else at its next frame boundary
(R79, R80); none while its transmitter is muted (R857). Log 101 (DEDUCED). -/
def beaconSend (p : Nat) (s : State) : State :=
  let f := fport s p
  if f.direct && f.st == .up && lanesReady s p 0 then
    (match f.leaving with
     | none => sendBeacon p s
     | some _ => modFport p (fun f => { f with beaconDue := true }) s)
  else s

/-- BEACON_SEND (R79). -/
def execBeaconSend (port : Nat) (s : State) : Answer := act (reports ++ [.tide, .fports, .objNow]) (beaconSend port) s

/-- The four times of a beacon and its ECHO_SEQ pass R82. -/
def beaconValid (tp : TidePort) (b : Beacon) (rxTime : Word) : Bool :=
  tp.sent.any (fun x => x.1 == BitVec.ofNat 8 b.echoSeq) &&
    decide (sdiff rxTime b.echoTx - sdiff b.txTime b.echoRx ≤ 192000)

/-- BEACON_RECEIVE: the echo of R81, the discards of R82, the delay, the announcement and, from the parent port, the offset (R84). A beacon that
its ECHO_SEQ or round trip discards still is the last one received. Log 179 (DESIGN CHOICE). -/
def beaconReceive (p : Nat) (frame : List Byte) (rxTime : Word) (s : State) : State :=
  let f := fport s p
  let b := beaconOf ((linkBody 2 frame).getD [])
  if !(f.direct && f.st == .up) then s
  else if (linkBody 2 frame).isNone || b.kind ≠ 1 then bump (0x3001E8 + 0x1000 * p) s
  else
    let ok := beaconValid (tport s p) b rxTime
    let s1 := modTport p (fun x => { x with rxSeq := BitVec.ofNat 8 b.seq, rxTx := b.txTime, rxTime := rxTime }) s
    if !ok then s1
    else
      let d := Int.tdiv (sdiff rxTime b.echoTx - sdiff b.txTime b.echoRx) 2
      let off := Int.tdiv (sdiff rxTime b.txTime - sdiff b.echoRx b.echoTx - objI32 s 0x4006 (p + 1)) 2
      let a : Option Announce := if b.locked then
        some { ref := if b.ref then 0 else 1, prio := b.prio, node := b.node, hops := b.hops } else none
      let s2 := elect (nextBeacon (modTport p (fun x => { x with delay := d, announce := a, lost := false }) s1))
      if s2.tide.parent = some p && s2.tide.src = .beacon then offsetSample off s2 else s2

/-- BEACON_RECEIVE (R82). -/
def execBeaconReceive (port : Nat) (frame : List Byte) (rxTime : Word) (s : State) : Answer :=
  act (reports ++ [.tide, .objNow]) (beaconReceive port frame rxTime) s

/-- The tide unit loses a neighbour (R83): its announcement goes and the master is elected again. -/
def tideLost (p : Nat) (s : State) : State := elect (modTport p (fun x => { x with announce := none, lost := true }) s)

/-- A direct-mode port loses its neighbour (R83, R783, R816): it leaves UP for ACQUIRE, the router and the tide unit learn of it,
and its credit state is discarded. -/
def neighbourLoss (p : Nat) (s : State) : State :=
  let f := fport s p
  if f.direct && f.st == .up then
    tideLost p (portLost p (raise (24 + p) 1 (modFport p (fun f => { f with
      st := .acquire, helloHeld := false, ackSent := false, ackGot := false, txAvail := [], txCharged := [], retSeen := [],
      rxCharged := [], rxReturned := [], rxHeld := [], creditDue := false, beaconDue := false }) s)))
  else s

/-- NEIGHBOUR_LOSS (R83). -/
def execNeighbourLoss (port : Nat) (s : State) : Answer := act (reports ++ [.tide, .fports, .objNow]) (neighbourLoss port) s

/-- HOLDOVER_EXPIRED: the estimated error is past HOLDOVER_LIMIT (R87, R88). -/
def holdoverExpired (s : State) : State :=
  if s.tide.st = .holdover && decide (holdLimit s < holdError s.tide) then
    tideRec 0xC5 s.tide.offset (raise 0 5 (enterSt .freerun s))
  else s

/-- HOLDOVER_EXPIRED (R88). -/
def execHoldoverExpired (s : State) : Answer := act (reports ++ [.tide, .objNow]) holdoverExpired s

/-! ## EXT and PTP -/

/-- The EXT reference ends (R75, R76). -/
def extEnd (s : State) : State :=
  reselect s.tide.hops (modTide (fun t => { t with extOk := false, extLocked := false, ppsRejects := 0 }) s)

/-- FABRIC_EPOCH in force (R60, R119). -/
def epochSec (s : State) : Nat := objF s 0x4001 0 1735689600

/-- The tide time that a PPS edge marks: the second that PTP or NEXT_PPS_SECOND gives, else the nearest one of the own count (R73, R74). -/
def ppsTarget (s : State) (stamp : Word) : Word :=
  let nearest := fun (x : Int) => (x + objI32 s 0x4005 1 + 8000000000) / 16000000000
  let sec : Int := if s.tide.ptpOk then nearest (stamp.toNat - 16 * s.tide.ptpOff) else match s.tide.nextPps with
    | some n => (n : Int) - epochSec s
    | none => nearest stamp.toNat
  BitVec.ofInt 64 (sec * 16000000000 - objI32 s 0x4005 1)

/-- The 10 MHz input disciplines the rate while EXT is the source (R73); `freq` is the frequency error that it shows. Log 19 (DESIGN CHOICE). -/
def discipline (freq : Int) (s : State) : State :=
  if s.tide.src = .ext && s.tide.st ≠ .freerun then
    modTide (fun t =>
      let r := clampRate (if t.st = .holdover then slewMax else rateMax) (Config.discipline t.rate freq)
      { t with rate := r, rateLog := ((t.count, r) :: t.rateLog).take 400000 }) s
  else s

/-- PPS_EDGE: an edge marks its second, or is rejected more than 1 µs from it after the first lock (R73 to R75). `freq` is what the 10 MHz input
shows of the frequency since the edge before, none when it runs not. -/
def ppsEdge (stamp : Word) (freq : Option Int) (s : State) : State :=
  let s := inputAccepted 11 s
  let off := sdiff stamp (ppsTarget s stamp)
  if s.tide.extLocked && (decide (off < -usTicks) || decide (usTicks < off)) then
    let s1 := raise 0 4 (modTide (fun t => { t with ppsRejects := t.ppsRejects + 1, ppsRejectCount := t.ppsRejectCount + 1, nextPps := none }) s)
    if 3 ≤ s1.tide.ppsRejects then extEnd s1 else s1
  else
    let s1 := reselect s.tide.hops (modTide (fun t => { t with ppsRejects := 0, extOk := freq.isSome, nextPps := none }) s)
    if s1.tide.extOk && s1.tide.src = .ext then discipline (freq.getD 0) (offsetSample off s1) else s1

/-- PPS_EDGE (R73). -/
def execPpsEdge (stamp : Word) (freq : Option Int) (s : State) : Answer := act (reports ++ [.tide, .objNow]) (ppsEdge stamp freq) s

/-- CLK10M_LOSS (R76). -/
def execClk10mLoss (s : State) : Answer := act (reports ++ [.tide, .objNow]) extEnd s

/-- How far tide time is from the moment of a PPS output: a whole second of tide time advanced by PPS_OUT_DELAY (R77), in ticks. -/
def ppsOutError (s : State) : Int := ((s.tide.count.toNat : Int) + objI32 s 0x4005 2 + 8000000000) % 16000000000 - 8000000000

/-- PPS_OUT_EDGE: within 2 ns of its moment the output rises, and it stays high for PPS_OUT_WIDTH (R77). -/
def ppsOutEdge (s : State) : State :=
  if decide (-32 ≤ ppsOutError s) && decide (ppsOutError s ≤ 32) then
    emit (.ppsPulse s.tide.count)
      (modTide (fun t => { t with ppsOut := true, ppsOutUntil := t.count + BitVec.ofNat 64 (obj s 0x4005 3 1000000 * 16) }) s)
  else s

/-- PPS_OUT_EDGE (R77). -/
def execPpsOutEdge (s : State) : Answer := act [.out, .tide] ppsOutEdge s

/-- The device's time on the PTP timescale, in ns (R60). -/
def ptpNow (s : State) : Int := (epochSec s : Int) * 1000000000 + s.tide.count.toNat / 16

/-- Whether one announced data set ranks ahead of another, in the order of clause 9.3. -/
def listLess : List Nat → List Nat → Bool
  | [], [] => false
  | [], _ => true
  | _, [] => false
  | a :: r, b :: q => decide (a < b) || (a == b && listLess r q)

/-- Whether the ordinary clock serves as PTP master (R78). -/
def ptpMaster (s : State) : Bool := obj s 0x4004 2 0 == 2 && s.tide.isMaster

/-- Whether a message comes from the master that the best master clock algorithm selected (R78). -/
def fromBest (s : State) (m : PtpMsg) : Bool := match s.tide.ptpBest with | some (_, x) => x == m.source | none => false

/-- The PTP source is lost: the clock is off, or serves as master, or the selected master's announcements stay away for three intervals of 2 s. Log
181 (PRESUMED). -/
def ptpExpire (s : State) : State :=
  if (obj s 0x4004 2 0 = 0 || ptpMaster s || decide (96000000000 < (s.tide.count - s.tide.ptpHeard).toNat)) && (s.tide.ptpOk || s.tide.ptpBest.isSome) then
    reselect s.tide.hops (modTide (fun t => { t with ptpOk := false, ptpBest := none, ptpPeerDelay := none, ptpTwoStep := false }) s)
  else s

/-- An offset from PTP, in ns: own clock minus master. -/
def ptpOffset (ns : Int) (s : State) : State :=
  let s1 := reselect s.tide.hops (modTide (fun t => { t with ptpOk := true, ptpOff := ns }) s)
  if s1.tide.src = .ptp then offsetSample (ns * 16) s1 else s1

/-- A Sync with its origin time: once the peer delay is measured it gives an offset at once (R78). -/
def ptpSync (t1 t2 : Int) (s : State) : State :=
  let s1 := modTide (fun t => { t with ptpT1 := t1, ptpT2 := t2, ptpTwoStep := false }) s
  match s.tide.ptpPeerDelay with
  | some d => ptpOffset (t2 - t1 - d) s1
  | none => s1

/-- What a slave clock takes from an Announce: the best data set wins, and the selected master's own news replaces what it announced before (R78). -/
def ptpAnnounce (m : PtpMsg) (s : State) : State :=
  let takes := match s.tide.ptpBest with | some (k, x) => x == m.source || listLess m.key k | none => true
  if takes then modTide (fun t => { t with ptpBest := some (m.key, m.source), ptpHeard := t.count }) s else s

/-- What the ordinary clock does with a message of its domain and transport (R78): as a slave it follows the selected master. -/
def ptpServe (m : PtpMsg) (s : State) : State :=
  let slave := !ptpMaster s && fromBest s m
  match m.kind with
  | .management => s
  | .signaling => s
  | .announce => if ptpMaster s then s else ptpAnnounce m s
  | .sync => if slave then ptpSync m.originNs m.rxNs s else s
  | .syncTwoStep => if slave then modTide (fun t => { t with ptpT2 := m.rxNs, ptpSeq := m.seq, ptpTwoStep := true }) s else s
  | .followUp => if slave && s.tide.ptpTwoStep && s.tide.ptpSeq == m.seq then ptpSync m.originNs s.tide.ptpT2 s else s
  | .delayReq => if ptpMaster s then emit (.ptp { m with kind := .delayResp, originNs := m.rxNs, rxNs := 0 }) s else s
  | .delayResp =>
    if slave && m.mine && s.tide.ptpReqSeq == m.seq && s.tide.ptpPeerDelay.isNone then
      ptpOffset (Int.tdiv ((s.tide.ptpT2 - s.tide.ptpT1) - (m.originNs - s.tide.ptpT3)) 2) s
    else s
  | .pdelayReq =>
    emit (.ptp { m with kind := .pdelayFollowUp, originNs := ptpNow s, rxNs := 0 })
      (emit (.ptp { m with kind := .pdelayResp, originNs := m.rxNs, rxNs := 0 }) s)
  | .pdelayResp => if m.mine && s.tide.ptpReqSeq == m.seq then modTide (fun t => { t with ptpP2 := m.originNs, ptpP4 := m.rxNs }) s else s
  | .pdelayFollowUp =>
    if m.mine && s.tide.ptpReqSeq == m.seq then
      modTide (fun t => { t with ptpPeerDelay := some (Int.tdiv ((t.ptpP4 - t.ptpP1) - (m.originNs - t.ptpP2)) 2) }) s
    else s

/-- PTP_MESSAGE: a message of another domain or transport is ignored, and a clock that is off takes none (R78). -/
def ptpMessage (m : PtpMsg) (s : State) : State :=
  let s1 := ptpExpire s
  if obj s 0x4004 2 0 = 0 || m.domain ≠ obj s 0x4004 1 0 || m.transport ≠ obj s 0x4004 3 1 then s1 else ptpServe m s1

/-- PTP_MESSAGE (R78). -/
def execPtpMessage (m : PtpMsg) (s : State) : Answer := act (reports ++ [.tide, .objNow]) (ptpMessage m) s

/-- The data set that the clock announces as master: the spec gives no clock quality or priorities. Log 181 (PRESUMED). -/
def ownDataSet : List Nat := (List.range 8).map Config.ptpDataSet

/-- PTP_SYNC_DELAY_REQ_SEND: Announce and a two-step Sync as master, Delay_Req and Pdelay_Req as slave (R78). Log 181 (PRESUMED). -/
def ptpSend (s0 : State) : State :=
  let s := ptpExpire s0
  let base : PtpMsg := { kind := .syncTwoStep, domain := obj s 0x4004 1 0, transport := obj s 0x4004 3 1, seq := (s.tide.ptpReqSeq + 1) % 65536 }
  if obj s 0x4004 2 0 = 0 then s
  else if ptpMaster s then
    emit (.ptp { base with kind := .followUp, originNs := ptpNow s }) (emit (.ptp base) (emit (.ptp { base with kind := .announce, key := ownDataSet })
      (modTide (fun t => { t with ptpReqSeq := base.seq }) s)))
  else
    emit (.ptp { base with kind := .pdelayReq, originNs := ptpNow s }) (emit (.ptp { base with kind := .delayReq, originNs := ptpNow s })
      (modTide (fun t => { t with ptpReqSeq := base.seq, ptpT3 := ptpNow s, ptpP1 := ptpNow s }) s))

/-- PTP_SYNC_DELAY_REQ_SEND (R78). -/
def execPtpSyncDelayReqSend (s : State) : Answer := act (reports ++ [.tide, .objNow]) ptpSend s

/-! ## Reading tide time -/

/-- TIDE_NOW_READ: R63, R65, R1049. TD_NOW lies in the Innkeeper's global blocks (R1038), its mirror in every function. -/
def tideNowRead (fn : Nat) (global : Bool) (part : Part) (s : State) : State :=
  let v := nowRes s
  let f := func s fn
  if !global && (!isInn s fn || s.errs.fatal) then emit (.readData fn 0) s
  else
    match wholePart part, part with
    | none, .bytes e => emit (.readData fn (enabledBytes e v)) s
    | none, _ => s
    | some (.bytes _), _ => s
    | some .full, _ => emit (.readData fn v) s
    | some .low, _ =>
      emit (.readData fn (BitVec.ofNat 64 (wfld v 31 0)))
        (modFunc fn (fun f => if global then { f with latchGlb := some (wfld v 63 32) } else { f with latchTd := some (wfld v 63 32) }) s)
    | some .high, _ =>
      let h := if global then f.latchGlb else f.latchTd
      emit (.readData fn (BitVec.ofNat 64 (h.getD (wfld v 63 32))))
        (modFunc fn (fun f => if global then { f with latchGlb := none } else { f with latchTd := none }) s)

/-- TIDE_NOW_READ (R65); a device in FATAL still answers GLB_TIDE_NOW (R976). -/
def execTideNowRead (fn : Nat) (global : Bool) (part : Part) (s : State) : Answer := actAlways [.out, .funcs] (tideNowRead fn global part) s

/-! ## Tide table commands -/

/-- TD_GCL_COMMIT: the pending set, or CFG_ERR (R97, R99 to R101). CHANGE_TIME is taken with the set, and a rejected commit keeps an earlier
pending set. Log 182 (DESIGN CHOICE). -/
def tdGclCommit (fn p : Nat) (s : State) : State :=
  if !isInn s fn then s
  else if commitBad s p then raise 0 7 (modTport p (fun x => { x with cfgErr := true }) s)
  else
    let change := rd s (0x490018 + 0x2000 * p) 0
    modTport p (fun x => { x with
      cfgErr := false
      pend := some ({ base := rd s (0x490008 + 0x2000 * p) 0, cycle := wfld (rd s (0x490010 + 0x2000 * p) 0) 29 0,
                      entries := adminEntries s p (wfld (gclCtrl s p) 40 32) },
                    if reached change s.tide.count then s.tide.count else change) }) s

/-- TD_GCL_COMMIT (R97). -/
def execTdGclCommit (fn port : Nat) (s : State) : Answer := act (interrupts ++ [.tide]) (tdGclCommit fn port) s

/-- TABLE_SWITCHED: at the first cycle start of the running table at or after CHANGE_TIME the pending set becomes operational; the
gates in force hold to its own first cycle start (R97, R98). -/
def tableSwitched (p : Nat) (s : State) : State :=
  match switchTime (tport s p) with
  | none => s
  | some (g, w) =>
    if reached w s.tide.count then
      raise 0 6 (modTport p (fun x => { x with oper := g, pend := none, switchAt := some (cycleStart g w) }) s)
    else s

/-- TABLE_SWITCHED (R98). -/
def execTableSwitched (port : Nat) (s : State) : Answer := act (interrupts ++ [.tide]) (tableSwitched port) s

/-- Whether class c of a port is in its slack water now (R102, R104). -/
def slackNow (s : State) (p c : Nat) : Bool := closesWithin (tport s p) s.tide.count c (slackNs s p c * 16)

/-- The classes, of those whose gates are open, that are in their slack water now: an open interval shorter than S is slack water whole (R104). -/
def slackMask (s : State) (p : Nat) : BitVec 8 :=
  (List.range 8).foldl (fun m c => if (tport s p).gates.getLsbD c && slackNow s p c then m ||| (1#8 <<< c) else m) 0

/-- GATE_ENTRY_BOUNDARY: the gates become those of the entry that runs now (R92, R93), unless a switch or a step still waits for its
first cycle start (R98, R111); slack water that is in force stays (R103). -/
def gateEntryBoundary (p : Nat) (s : State) : State :=
  let x := tport s p
  let waiting := match x.switchAt with | some t => !reached t s.tide.count | none => false
  if !gclOn s p || waiting then s
  else
    let s1 := modTport p (fun x => { x with gates := gatesAt x.oper s.tide.count, switchAt := none }) s
    modTport p (fun x => { x with slack := slackMask s1 p }) s1

/-- GATE_ENTRY_BOUNDARY (R92). -/
def execGateEntryBoundary (port : Nat) (s : State) : Answer := act [.tide] (gateEntryBoundary port) s

/-- SLACK_WATER_START: the class starts no new frame before its gate closes (R102 to R104). -/
def slackWaterStart (p c : Nat) (s : State) : State :=
  if gclOn s p && decide (c < 8) && (tport s p).gates.getLsbD c && slackNow s p c then
    modTport p (fun x => { x with slack := x.slack ||| (1#8 <<< c) }) s
  else s

/-- SLACK_WATER_START (R103). -/
def execSlackWaterStart (port cls : Nat) (s : State) : Answer := act [.tide] (slackWaterStart port cls) s

/-! ## Buffered configuration -/

/-- Whether a register holds the configuration of a token bucket (R721). -/
def isBucket (off : Nat) : Bool :=
  (decide (0x410000 ≤ off) && decide (off < 0x418000) && decide (off % 0x400 < 0x80) && off % 16 == 0) ||
    (decide (0x420000 ≤ off) && decide (off < 0x424000) && (off % 0x40 == 0 || off % 0x40 == 0x10))

/-- BUF_TAKE_EFFECT: the write that stands comes into force at its boundary, or, while the port's table is disabled, at a frame
boundary in place of a gate boundary (R112 to R115); a bucket's tokens follow TOKEN_ON_CHANGE (R728). -/
def bufTakeEffect (off p : Nat) (bd : Boundary) (s : State) : State :=
  match mfind s.bufs off with
  | none => s
  | some b =>
    if b = bd || ((b = .gateCycle || b = .tableCycle) && bd = .frame && !gclOn s p) then
      let s1 : State := { s with bufs := mdel s.bufs off, eff := mdel s.eff off }
      if isBucket off then
        let v := rd s off 0
        let n : Int := if v.getLsbD 62 then 0 else (wfld v 55 32 : Int)
        { s1 with tokens := mset (mset s1.tokens off n) (off + 1) n, tokenFrac := mdel (mdel s1.tokenFrac off) (off + 1) }
      else s1
    else s

/-- BUF_TAKE_EFFECT (R112). -/
def execBufTakeEffect (off port : Nat) (bd : Boundary) (s : State) : Answer := act [.eff, .bufs, .tokens, .tokenFrac] (bufTakeEffect off port bd) s

/-! ## A cycle of the tide clock -/

/-- The count after one cycle of the 1 GHz clock (R62): 16 ticks and the rate adjustment through the 32-bit fraction; the PPS output falls at the
end of its width (R77). -/
def tideCount (s : State) : State :=
  let a : Int := s.tide.frac + s.tide.rate
  let up := a / 4294967296
  let t : Tide := { s.tide with
    count := s.tide.count + BitVec.ofInt 64 (16 + up)
    frac := (a % 4294967296).toNat }
  { s with tide := { t with ppsOut := t.ppsOut && !reached t.ppsOutUntil t.count } }

/-- One cycle of the tide clock: the count, and the master that the device adopts as things stand (R62, R69). Log 1 (DESIGN CHOICE), 183 (DESIGN CHOICE). -/
def tideTick (s : State) : State :=
  let t := tideCount s
  if t.errs.fatal || unpowered t then t else if (vote t).errs.fatal then vote t else elect (vote t)

end Sys2Proof.Machine
end

