-- ==== Sys2Proof/Machine/Router.lean ====
section
/-! DEFINITION. Fabric routing and flow control (R766 to R808): frames that arrive, credits, the states of the router, node
addresses, fences and route tables. -/

namespace Sys2Proof.Machine

open Sys2Proof

/-- Change the router. -/
def modRouter (f : Router → Router) (s : State) : State := { s with router := f s.router }

/-! ## Credit frames -/

/-- The ten counts of a table of counts, in index order (R826). -/
def tenOf (m : NMap (BitVec 32)) : List (BitVec 32) := (List.range 10).map (fun i => mget m i 0)

/-- The 88 bytes of a CREDIT body (R826). -/
def creditBytes (c : Credit) : List Byte :=
  [1, BitVec.ofNat 8 (b2n c.countValid)] ++ List.replicate 6 0 ++ c.returned.flatMap (fun x => beBytes 4 x.toNat) ++
    c.charged.flatMap (fun x => beBytes 4 x.toNat)

/-- Ten 32-bit counts from a byte on. -/
def countsAt (l : List Byte) (at_ : Nat) : List (BitVec 32) := (List.range 10).map (fun i => BitVec.ofNat 32 (ofBe ((l.drop (at_ + 4 * i)).take 4)))

/-- The CREDIT that a body holds (R826). -/
def creditOf (l : List Byte) : Credit := { countValid := (l.getD 1 0).getLsbD 0, returned := countsAt l 8, charged := countsAt l 48 }

/-- The body of a received CONTROL frame of a CTYPE (R822). -/
def controlBody (ctype len : Nat) (frame : List Byte) : Option (List Byte) :=
  match linkBody 1 frame with
  | some b => if b.length = len && (b.getD 0 0).toNat == ctype then some b else none
  | none => none

/-- A CREDIT frame leaves (R826, R827). -/
def sendCredit (p : Nat) (countValid : Bool) (s : State) : State :=
  let f := fport s p
  emit (.credit p (linkFrame 1 (creditBytes { countValid := countValid, returned := tenOf f.rxReturned, charged := tenOf f.txCharged }))) (modFport p (fun f => { f with creditDue := false }) s)

/-- CREDIT_COUNT_TIMER: a CREDIT frame with COUNT_VALID (R792, R827). Log 2 (DESIGN CHOICE). -/
def creditCountTimer (p : Nat) (s : State) : State :=
  let f := fport s p
  if f.direct && f.st == .up then sendCredit p true s else s

/-- CREDIT_COUNT_TIMER (R792). -/
def execCreditCountTimer (port : Nat) (s : State) : Answer := act [.out, .fports] (creditCountTimer port) s

/-- What the transmitter regains at one index (R827), and what the receiver returns of credits lost in transit (R792). -/
def creditIndex (c : Credit) (f : FPort) (i : Nat) : FPort :=
  let r := c.returned.getD i 0
  let f1 := { f with
    txAvail := mset f.txAvail i (mget f.txAvail i 0 + (r - mget f.retSeen i 0).toNat)
    retSeen := mset f.retSeen i r }
  if c.countValid then
    let lost := c.charged.getD i 0 - mget f.rxCharged i 0
    { f1 with
      rxReturned := mset f1.rxReturned i (mget f1.rxReturned i 0 + lost)
      rxCharged := mset f1.rxCharged i (c.charged.getD i 0)
      creditDue := f1.creditDue || lost != 0 }
  else f1

/-- CREDIT_FRAME_RECEIVE: credits return and the counts are reconciled (R792, R827); a frame that fails its CRC is discarded. -/
def creditFrameReceive (p : Nat) (frame : List Byte) (s : State) : State :=
  let f := fport s p
  if !(f.direct && f.st == .up) then s
  else match controlBody 1 88 frame with
    | none => bump (0x3001E8 + 0x1000 * p) s
    | some b => modFport p (fun f => (List.range 10).foldl (creditIndex (creditOf b)) f) s

/-- CREDIT_FRAME_RECEIVE (R827). -/
def execCreditFrameReceive (port : Nat) (frame : List Byte) (s : State) : Answer := act [.cnt, .fports] (creditFrameReceive port frame) s

/-! ## Data frames -/

/-- Give the credits of a frame back at once: it holds no room any more (R791). -/
def returnNow (p i c : Nat) (s : State) : State :=
  modFport p (fun f => { f with
    rxReturned := mset f.rxReturned i (mget f.rxReturned i 0 + BitVec.ofNat 32 c), creditDue := true }) s

/-- VC of a DATA frame's link header (R819). -/
def frameVc (f : DFrame) : Nat := (f.hdr.getD 0 0).toNat / 4 % 4

/-- The index that an arriving frame was charged to: POOL says reserve or pool (R819, R820). -/
def frameIdx (f : DFrame) : Nat :=
  if !(f.hdr.getD 0 0).getLsbD 1 then vcIdx f.pkt.reply (frameVc f) else if f.pkt.reply then 9 else 8

/-- LENGTH of a link header agrees with its packet (R820). -/
def frameLen (f : DFrame) : Bool := ofBe ((f.hdr.drop 2).take 2) == pktBytes f.pkt

/-- Whether a frame cuts through to a direct-mode port (R795, R833): the output is idle, its class eligible, credits at hand, nothing of its flow
ahead of it, and its size within MAX_FRAME (R814). -/
def cutsThrough (s : State) (q : Nat) (e : EgFrame) : Bool :=
  let o := fport s q
  let half := o.half e.pkt false
  let clear := !(o.egress.any (fun x => x.inPort == e.inPort && x.vc == e.vc && x.pkt.reply == e.pkt.reply && x.pkt.tc == e.pkt.tc))
  o.direct && (o.busy half).isNone && eligible s q half e.pkt.tc && clear && sendable s q e &&
    decide (frameBytes s q e ≤ obj s (0x2840 + e.pkt.tc) (q + 1) 4352)

/-- A frame that was cutting through fails behind its header: it ends with the stomp marker (R799, R836). -/
def stompThrough (q : Nat) (e : EgFrame) (count : State → State) (s : State) : State :=
  let half := (fport s q).half e.pkt false
  endFrame q half (emit (.stomp q) (count (startFrame q half e s)))

/-- A frame that must be forwarded: it cuts through when it can (R795), else it waits. An uncorrectable codeword behind the header ends a cut-through
frame with the stomp marker (R799); a frame that has not begun to leave is dropped. -/
def forward (p q : Nat) (f : DFrame) (e : EgFrame) (s : State) : State :=
  if cutsThrough s q e then
    (if f.tailBad then stompThrough q e (dropAt (some p) 0) s else startFrame q ((fport s q).half e.pkt false) e s)
  else if f.tailBad then releaseInput e (dropAt (some p) 0 s)
  else enqueue q e s

/-- DATA_FRAME_RECEIVE: a KIND that is not DATA is discarded and counted (R819); then the drops of R798 in their order, local delivery (R776), or
forwarding. -/
def dataFrameReceive (p : Nat) (f : DFrame) (s : State) : State :=
  let fp := fport s p
  if !(fp.direct && fp.st == .up) || ingressFrozen s p then s
  else
    let s := bump (0x3001E0 + 0x1000 * p) s
    if f.headerBad then dropAt (some p) 0 s
    else if (f.hdr.getD 0 0).toNat / 16 ≠ 0 then bump (0x3001E8 + 0x1000 * p) s
    else
      let i := frameIdx f
      let c := creditCost f.pkt
      let overrun := decide (fp.own.cap i < mget fp.rxHeld i 0 + c)
      let s := modFport p (fun x => { x with rxCharged := mset x.rxCharged i (mget x.rxCharged i 0 + BitVec.ofNat 32 c) }) s
      if f.stomped then returnNow p i c (dropAt (some p) 1 s)
      else if f.pkt.version ≠ 1 || !f.pkt.lenOk || !frameLen f || 9216 < pktBytes f.pkt || overrun then returnNow p i c (dropAt (some p) 5 s)
      else
        match route s f.pkt (frameVc f) true with
        | .drop r _ => returnNow p i c (dropAt (some p) r s)
        | .here => returnNow p i c (emit (.deliver p f.pkt) (bump (0x601048 + 0x80 * p) s))
        | .go q v d =>
          forward p q f { pkt := f.pkt, inPort := p, vcIn := frameVc f, vc := v, inIdx := i, credits := c, detoured := d }
            (modFport p (fun x => { x with rxHeld := mset x.rxHeld i (mget x.rxHeld i 0 + c) }) s)

/-- DATA_FRAME_RECEIVE (R795). -/
def execDataFrameReceive (port : Nat) (f : DFrame) (s : State) : Answer := act (interrupts ++ [.cnt, .fports, .tokens, .sealing]) (dataFrameReceive port f) s

/-! ## The router's states -/

/-- COMMIT is rejected (R801). -/
def commitErr (s : State) : State := raise 7 4 (modRouter (fun r => { r with cfgErr := true }) s)

/-- The shadow table becomes active (R801, R803). -/
def commitOk (st : RtSt) (s : State) : State :=
  raise 7 3 (modRouter (fun r => { r with active := r.shadow, cfgErr := false, st := st, longDone := false, drainSince := elapsed s }) s)

/-- A commit, from the register or the object (R801). -/
def routerCommit (s : State) : State :=
  match s.router.st with
  | .unset => if s.router.valid then commitOk (if s.router.drain then .draining else .run) s else commitErr s
  | .drained => commitOk .drained s
  | _ => commitErr s

/-- ROUTER_COMMIT (R801): only the Innkeeper reaches RT_CTRL, and a write that reaches it uses the block's arm (R1054). -/
def execRouterCommit (fn : Nat) (s : State) : Answer := act (interrupts ++ [.arms, .router]) (fun s => if isInn s fn then routerCommit (disarm 7 s) else s) s

/-- DRAIN written (R801). -/
def routerDrain (on : Bool) (s : State) : State :=
  modRouter (fun r => { r with
    drain := on
    longDone := if on && r.st == .run then false else r.longDone
    drainSince := if on && r.st == .run then elapsed s else r.drainSince
    st := match r.st with
      | .run => if on then .draining else .run
      | .draining => if on then .draining else .run
      | .drained => if on then .drained else .run
      | .unset => .unset }) s

/-- ROUTER_DRAIN (R801). -/
def execRouterDrain (fn : Nat) (s : State) : Answer := act [.arms, .router] (fun s => if isInn s fn then routerDrain true (disarm 7 s) else s) s

/-- ROUTER_UNDRAIN (R801). -/
def execRouterUndrain (fn : Nat) (s : State) : Answer := act [.arms, .router] (fun s => if isInn s fn then routerDrain false (disarm 7 s) else s) s

/-- Whether no frame waits in the router (R801). -/
def routerEmpty (s : State) : Bool := s.fports.all (fun p => p.2.egress.isEmpty)

/-- ROUTER_DRAINED (R801). -/
def routerDrained (s : State) : State :=
  if s.router.st = .draining && routerEmpty s then modRouter (fun r => { r with st := .drained }) s else s

/-- ROUTER_DRAINED (R801). -/
def execRouterDrained (s : State) : Answer := act [.router] routerDrained s

/-- DRAIN_LONG: 100 µs in DRAINING, recorded once (R801). -/
def drainLong (s : State) : State :=
  if s.router.st = .draining && !s.router.longDone && reached (s.router.drainSince + 1600000) (elapsed s) then
    ledgerInn { kind := 0xA6, unit := 0x0230 } (raise 7 5 (modRouter (fun r => { r with longDone := true }) s))
  else s

/-- DRAIN_LONG (R801). -/
def execDrainLong (s : State) : Answer := act (reports ++ [.router]) drainLong s

/-! ## Node address and fences -/

/-- A write of the node address that R804 judges; every direct-mode port in UP owes its neighbour a HELLO (R825). -/
def nodeAddrSet (node : Nat) (s : State) : State :=
  match s.router.st with
  | .run => if s.router.node = node then s else commitErr s
  | .draining => if s.router.node = node then s else commitErr s
  | _ =>
    let s1 := modRouter (fun r => { r with node := node, valid := true, cfgErr := false }) s
    { s1 with fports := mmapV s1.fports (fun _ f => if f.direct && f.st == .up then { f with helloDue := true } else f) }

/-- NODE_ADDR_WRITE: an armed write assigns (R804, R1054); an unarmed one keeps the field, and counts when it would have changed it
(R1055). -/
def nodeAddrWrite (fn node : Nat) (s : State) : State :=
  if !isInn s fn then s
  else if armed s 7 then nodeAddrSet (node % 65536) (disarm 7 s)
  else if s.router.node = node % 65536 then s
  else silent s

/-- NODE_ADDR_WRITE (R804). -/
def execNodeAddrWrite (fn node : Nat) (s : State) : Answer := act (interrupts ++ [.cnt, .arms, .fports, .router]) (nodeAddrWrite fn node) s

/-- Set a port's FENCE (R786). -/
def setFence (p : Nat) (on : Bool) (s : State) : State := modFport p (fun f => { f with fence := on }) s

/-- FENCE_WRITE: RT_FENCE as a whole (R786). -/
def execFenceWrite (fn mask : Nat) (s : State) : Answer :=
  act [.fports] (fun s => if isInn s fn then (List.range 32).foldl (fun s p => setFence p (nbit mask p == 1) s) s else s) s

/-- PORT_UP: the link of a LOST port is UP again; its FENCE stays (R785). -/
def portUp (p : Nat) (s : State) : State :=
  if (fport s p).lost && (fport s p).isUp then raise 7 2 (modFport p (fun f => { f with lost := false }) s) else s

/-- PORT_UP (R785). -/
def execPortUp (port : Nat) (s : State) : Answer := act (interrupts ++ [.fports]) (portUp port) s

/-! ## Route tables -/

/-- Put an entry into a table whose zero entries are not listed. -/
def putEntry (m : NMap Nat) (n v : Nat) : NMap Nat := if v % 2 ^ 60 = 0 then mdel m n else mset m n (v % 2 ^ 60)

/-- Put entries from a node on. -/
def putEntries (m : NMap Nat) (n : Nat) : List Nat → NMap Nat
  | [] => m
  | v :: r => putEntries (putEntry m n v) (n + 1) r

/-- ROUTE_WRITE: 128 shadow entries, or result 2 when FIRST is above 65,408 (R803, R807). -/
def routeWrite (first : Nat) (entries : List Nat) (s : State) : State :=
  if 65408 < first then modRouter (fun r => { r with result := 2 }) s
  else modRouter (fun r => { r with shadow := putEntries r.shadow first (entries.take 128), result := 0 }) s

/-- ROUTE_WRITE (R807). -/
def execRouteWrite (first : Nat) (entries : List Nat) (s : State) : Answer := act [.router] (routeWrite first entries) s

end Sys2Proof.Machine
end

