-- ==== Sys2Proof/Machine/FabricPort.lean ====
section
/-! DEFINITION. Fabric ports and Ethernet mode (R809 to R846): link states, HELLO, FEC windows, management frames, received
Ethernet frames, pause and PFC, and the peer table. -/

namespace Sys2Proof.Machine

open Sys2Proof

/-! ## Link states -/

/-- The division of a receiver's credits at link training (R788, R794). -/
def trainDivision (s : State) (p : Nat) : Division :=
  let lmax := (List.range 8).foldl (fun a c => Nat.max a (obj s (0x2840 + c) (p + 1) 4352)) 0
  let r := Nat.max (obj s 0xB001 (p + 1) 36) ((lmax + 255) / 256)
  let reply := Nat.min (obj s 0xB002 (p + 1) 1976) (8192 - 8 * r)
  { reserve := r, reply := reply, req := 8192 - 8 * r - reply }

/-- A frame that a half was sending is cut off (R784, R817). -/
def cutFrame (p half : Nat) (s : State) : State :=
  match (fport s p).busy half with
  | none => s
  | some e => endFrame p half (dropAt (some (if e.inPort < 32 then e.inPort else p)) 0 s)

/-- A port or half in Ethernet mode leaves UP: the router treats the port as lost once neither half is UP (R811, R817). -/
def ethDown (p half : Nat) (s : State) : State :=
  let f := fport s p
  if (if half = 0 then f.st else f.stB) ≠ .up then s
  else
    let s1 := raise (24 + p) 1 (modFport p (fun f => if half = 0 then { f with st := .acquire, pauseA := [] } else { f with stB := .acquire, pauseB := [] }) s)
    if (fport s1 p).isUp then cutFrame p half s1 else portLost p s1

/-- LANE_LOCK without the lanes of a half, or without any of an undivided port. Log 198 (DESIGN CHOICE). -/
def lockGone (half : Nat) (f : FPort) : FPort :=
  { f with laneLock := if f.mode ≠ 2 then 0 else if half = 0 then f.laneLock &&& 0xF0 else f.laneLock &&& 0x0F }

/-- LINK_DOWN: R816, R817; every lane of the port or half loses its lock. Log 198 (DESIGN CHOICE). -/
def linkDown (p half : Nat) (s : State) : State :=
  if (fport s p).direct then modFport p (lockGone half) (neighbourLoss p s)
  else if (if half = 0 then (fport s p).st else (fport s p).stB) == .up then modFport p (lockGone half) (ethDown p half s)
  else s

/-- LINK_DOWN (R816). -/
def execLinkDown (port half : Nat) (s : State) : Answer := act (reports ++ [.tide, .fports, .objNow]) (linkDown port half) s

/-- ENABLE written 1: the mode latches and the port goes to ACQUIRE (R810, R816); a port whose domain is not ON stays dark, and so
does every port in a life-cycle state that does not open them (R947). Log 109 (DEDUCED). -/
def fpEnable (p : Nat) (s : State) : State :=
  if (mget s.doms (64 + p) {}).st ≠ 2 || !lcLases s then s
  else if (fport s p).enable then s
  else
    let m := obj s 0x2800 (p + 1) 0
    wakeLanes p (laserCheck (p / 4) (modFport p (fun f => { f with
      enable := true, mode := m, st := .acquire, stB := if m = 2 then .acquire else .disabled, laneLock := 0, mismatch := false }) s))

/-- ENABLE written 0: the transmitter is silent, and leaving UP declares loss (R816, R817). -/
def fpDisable (p : Nat) (s : State) : State :=
  let s1 := ethDown p 1 (linkDown p 0 s)
  let s2 := (List.range 8).foldl (fun s l => if (lane s p l).tries = 0 then s else modLane p l (fun x => { x with tries := 0 }) s) (darkLanes p s1)
  modFport p (fun f => { f with
    enable := false, st := .disabled, stB := .disabled, laneLock := 0, pauseA := [], pauseB := [], helloHeld := false, ackSent := false, ackGot := false,
    offSince := if f.enable then elapsed s else f.offSince }) s2

/-- LINK_ACQUIRED: lock has held on every lane for 10 µs (R816); a port or half whose transmit lanes are not all LOCKED or HELD stays in ACQUIRE
(R857). Log 101 (DEDUCED). -/
def linkAcquired (p half : Nat) (s : State) : State :=
  let f := fport s p
  if !lanesReady s p half then s
  else if half = 0 then
    if f.st ≠ .acquire then s
    else if f.direct then
      modFport p (fun f => { f with
        st := .handshake, laneLock := 0xFF, hsSince := elapsed s, own := trainDivision s p, helloHeld := false, ackSent := false, ackGot := false }) s
    else raise (24 + p) 0 (modFport p (fun f => { f with
      st := .up, laneLock := if f.mode = 2 then f.laneLock ||| 0x0F else 0xFF }) s)
  else if f.mode = 2 && f.stB == .acquire then
    raise (24 + p) 0 (modFport p (fun f => { f with stB := .up, laneLock := f.laneLock ||| 0xF0 }) s)
  else s

/-- LINK_ACQUIRED (R816). -/
def execLinkAcquired (port half : Nat) (s : State) : Answer := act (interrupts ++ [.fports]) (linkAcquired port half) s

/-! ## HELLO -/

/-- The 32 bytes of a HELLO body (R823). -/
def helloBytes (h : Hello) : List Byte :=
  [2, BitVec.ofNat 8 h.version, BitVec.ofNat 8 (h.port % 32), BitVec.ofNat 8 (b2n h.ack * 2 + b2n h.nodeValid)] ++ beBytes 2 h.node ++
    beBytes 2 h.reserve ++ beBytes 2 h.req ++ beBytes 2 h.reply ++ List.replicate 4 0 ++ beBytes 8 h.deviceId ++ List.replicate 8 0

/-- The HELLO that a body holds (R823). -/
def helloOfBytes (l : List Byte) : Hello :=
  let two := fun i => ofBe ((l.drop i).take 2)
  { version := (l.getD 1 0).toNat, port := (l.getD 2 0).toNat % 32, ack := (l.getD 3 0).getLsbD 1, nodeValid := (l.getD 3 0).getLsbD 0,
    node := two 4, reserve := two 6, req := two 8, reply := two 10, deviceId := ofBe ((l.drop 16).take 8) }

/-- The fields of a HELLO are valid (R824). -/
def helloValid (h : Hello) : Bool :=
  h.version == 1 && decide (17 ≤ h.reserve) && 8 * h.reserve + h.req + h.reply == 8192

/-- Credits at the start of UP: the peer's division (R816, R824). -/
def freshCredits (d : Division) : NMap Nat := (List.range 10).map (fun i => (i, d.cap i))

/-- The handshake completes: UP, with credits from the peer's division and every count zero (R816); another device at the far end
sets PEER_CHANGE (R825). -/
def goUp (p : Nat) (s : State) : State :=
  let f := fport s p
  let s1 := raise (24 + p) 0 (modFport p (fun f => { f with
    st := .up, txAvail := freshCredits f.peer, txCharged := [], retSeen := [], rxCharged := [], rxReturned := [], rxHeld := [],
    creditDue := false, mismatch := false, upId := some f.peerId }) s)
  match f.upId with
  | some x => if x = f.peerId then s1 else raise (24 + p) 2 s1
  | none => s1

/-- Whether both halves of the handshake are done (R816). -/
def FPort.ready (f : FPort) : Bool := f.st == .handshake && f.ackSent && f.ackGot

/-- The HELLO that a port sends (R823); in UP always with ACK (R825). -/
def helloOf (s : State) (p : Nat) : Hello :=
  let f := fport s p
  { port := p, ack := f.helloHeld || f.st == .up, nodeValid := s.router.valid, node := s.router.node, reserve := f.own.reserve,
    req := f.own.req, reply := f.own.reply, deviceId := Config.deviceId.toNat }

/-- HELLO_SEND (R825); a muted transmitter sends none (R857). Log 101 (DEDUCED). -/
def helloSend (p : Nat) (s : State) : State :=
  let f := fport s p
  if f.direct && (f.st == .handshake || f.st == .up) && lanesReady s p 0 then
    let s1 := emit (.hello p (linkFrame 1 (helloBytes (helloOf s p)))) (modFport p (fun f => { f with ackSent := f.ackSent || f.helloHeld, helloDue := false }) s)
    if (fport s1 p).ready then goUp p s1 else s1
  else s

/-- HELLO_SEND (R825). -/
def execHelloSend (port : Nat) (s : State) : Answer := act (interrupts ++ [.fports]) (helloSend port) s

/-- What a valid HELLO says of the peer. -/
def peerFields (h : Hello) (f : FPort) : FPort :=
  { f with peerNode := h.node, peerPort := h.port, peerNodeValid := h.nodeValid, peerId := h.deviceId }

/-- HELLO_RECEIVE: the handshake (R816), the peer fields in UP (R825), or a peer that has started anew (R816). -/
def helloReceive (p : Nat) (frame : List Byte) (s : State) : State :=
  let f := fport s p
  let h := helloOfBytes ((controlBody 2 32 frame).getD [])
  if !f.direct then s
  else if (controlBody 2 32 frame).isNone || !helloValid h then (if f.st == .handshake || f.st == .up then bump (0x3001E8 + 0x1000 * p) s else s)
  else
    match f.st with
    | .handshake =>
      let s1 := modFport p (fun f => { peerFields h f with
        helloHeld := true, ackGot := f.ackGot || h.ack, peer := { reserve := h.reserve, req := h.req, reply := h.reply } }) s
      if (fport s1 p).ready then goUp p s1 else s1
    | .up =>
      if h.ack then modFport p (peerFields h) s
      else
        modFport p (fun f => { peerFields h f with
          st := .handshake, helloHeld := true, peer := { reserve := h.reserve, req := h.req, reply := h.reply },
          own := trainDivision s p }) (neighbourLoss p s)
    | _ => s

/-- HELLO_RECEIVE (R824). -/
def execHelloReceive (port : Nat) (frame : List Byte) (s : State) : Answer :=
  act (reports ++ [.tide, .fports, .objNow]) (helloReceive port frame) s

/-- MODE_MISMATCH: 1 ms in HANDSHAKE without a valid HELLO (R816). -/
def modeMismatch (p : Nat) (s : State) : State :=
  let f := fport s p
  if f.direct && f.st == .handshake && !f.helloHeld && reached (f.hsSince + 16000000) (elapsed s) then
    raise (24 + p) 3 (modFport p (fun f => { f with mismatch := true }) s) else s

/-- MODE_MISMATCH (R816). -/
def execModeMismatch (port : Nat) (s : State) : Answer := act (interrupts ++ [.fports]) (modeMismatch port) s

/-- MGMT_FRAME_RECEIVE: a frame waits for the management complex, or is dropped behind 16 others (R828). -/
def mgmtFrameReceive (p : Nat) (frame : List Byte) (s : State) : State :=
  let f := fport s p
  let n := ((linkBody 3 frame).getD []).length
  if !(f.direct && f.st == .up) then s
  else if n < 16 || 1084 < n then bump (0x3001E8 + 0x1000 * p) s
  else if 16 ≤ f.mgmtHeld then raise (24 + p) 5 (bump (0x300208 + 0x1000 * p) s)
  else emit (.toManagement p ((linkBody 3 frame).getD [])) (modFport p (fun f => { f with mgmtHeld := f.mgmtHeld + 1 }) s)

/-- MGMT_FRAME_RECEIVE (R828). -/
def execMgmtFrameReceive (port : Nat) (frame : List Byte) (s : State) : Answer := act (interrupts ++ [.cnt, .fports]) (mgmtFrameReceive port frame) s

/-! ## FEC -/

/-- Add a list of counts to consecutive counters. -/
def bumpList (off : Nat) : List Nat → State → State
  | [], s => s
  | n :: r, s => bumpList (off + 8) r (bumpBy off n s)

/-- The counts of a window, and the spell of FEC_SD (R815). -/
def fecWindow (p received codewords corrected uncorrected : Nat) (symbols hist : List Nat) (s : State) : State :=
  let b := 0x300000 + 0x1000 * p
  let s1 := bumpList (b + 0x158) (hist.take 16) (bumpList (b + 0x118) (symbols.take 8)
    (bumpBy (b + 0x110) uncorrected (bumpBy (b + 0x108) corrected (bumpBy (b + 0x100) codewords s))))
  let sum := (symbols.take 8).foldl (fun a x => a + x) 0
  if obj s 0x2850 0 240000 * received < sum * 1000000000 then
    if (fport s p).fecSd then s1
    else ledgerInn { kind := 0xA0, severity := 1, unit := 0x0210 + p, object := p, d0 := sum }
      (raise (24 + p) 4 (modFport p (fun f => { f with fecSd := true }) s1))
  else modFport p (fun f => { f with fecSd := false }) s1

/-- FEC_SD_WINDOW: a window ends 1 ms after the one before (R815). -/
def fecSdWindow (p received codewords corrected uncorrected : Nat) (symbols hist : List Nat) (s : State) : State :=
  if reached ((fport s p).fecAt + 16000000) (elapsed s) then
    fecWindow p received codewords corrected uncorrected symbols hist (modFport p (fun f => { f with fecAt := elapsed s }) s)
  else s

/-- FEC_SD_WINDOW (R815). -/
def execFecSdWindow (port received codewords corrected uncorrected : Nat) (symbols hist : List Nat) (s : State) : Answer :=
  act (reports ++ [.fports]) (fecSdWindow port received codewords corrected uncorrected symbols hist) s

/-! ## Ethernet frames -/

/-- Whether an address is a valid local address of a port. -/
def isLocalIp (s : State) (p : Nat) (ipv6 : Bool) (ip : Nat) : Bool :=
  (List.range 8).any (fun i => localAddr s p i == some (ipv6, ip))

/-- Whether a MAC address is the solicited-node address of a local IPv6 address: 33-33-FF and its last three bytes. -/
def solicited (s : State) (p dst : Nat) : Bool :=
  (List.range 8).any (fun i => match localAddr s p i with
    | some (true, ip) => dst == 0x3333FF000000 + ip % 2 ^ 24
    | _ => false)

/-- The port takes a frame by its destination and its tag (R834, R835). -/
def ethAccept (s : State) (p half : Nat) (h : EthHdr) : Bool :=
  (h.dst == portMac s p half || h.dst == 0xFFFFFFFFFFFF || h.dst == 0x0180C2000001 || solicited s p h.dst) &&
    (let v := obj s 0x2803 (p + 1) 0
     if v = 0 then h.vid == none || h.vid == some 0 else h.vid == some v)

/-- The capacity of an ingress buffer (R840). -/
def ingressCap (f : FPort) : Nat := if f.mode = 2 then 1048576 else 2097152

/-- The ingress buffer of a port or half has no room for a frame (R840). -/
def ingressFull (s : State) (p half : Nat) (h : EthHdr) : Bool :=
  decide (ingressCap (fport s p) < ingressHalf (fport s p) half + h.bytes)

/-- A frame that the ingress buffer has no room for is discarded (R840). -/
def ingressDrop (p : Nat) (s : State) : State := raise (24 + p) 6 (bump (0x300200 + 0x1000 * p) s)

/-- The packet of a Waybill frame as it enters the router: its place in the ingress buffer and its output (R770, R834). -/
def ethEntry (p half : Nat) (h : EthHdr) (k : Pkt) (v : Nat) (d : Bool) : EgFrame :=
  let prio := if h.vid = none then 0 else h.pcp % 8
  { pkt := k, inPort := p, vcIn := if k.detour then 2 else 0, vc := v, inIdx := 8 * half + prio, credits := h.bytes, prio := prio, detoured := d }

/-- The bytes of a frame are held in the ingress buffer (R839). -/
def ingressTake (p half : Nat) (h : EthHdr) (s : State) : State :=
  let i := 8 * half + (if h.vid = none then 0 else h.pcp % 8)
  modFport p (fun f => { f with ingress := mset f.ingress i (mget f.ingress i 0 + h.bytes) }) s

/-- A Waybill packet enters the router from an Ethernet-mode port (R834, R795, R798). -/
def ethWaybill (p half : Nat) (h : EthHdr) (k : Pkt) (s : State) : State :=
  if ingressFull s p half h then ingressDrop p s
  else if k.version ≠ 1 || !k.lenOk || 9216 < h.bytes then dropAt (some p) 5 s
  else
    match route s k (if k.detour then 2 else 0) true with
    | .drop r _ => dropAt (some p) r s
    | .here => emit (.deliver p k) (bump (0x601048 + 0x80 * p) s)
    | .go q v d =>
      let e := ethEntry p half h k v d
      if cutsThrough s q e then startFrame q ((fport s q).half k false) e (ingressTake p half h s)
      else pfcStep p e.prio (enqueue q e (ingressTake p half h s))

/-- A Waybill frame whose FCS or UDP checksum fails is discarded and counted; one that had begun to leave by cut-through ends with the stomp
marker (R834, R836). -/
def ethWaybillBad (p half : Nat) (h : EthHdr) (k : Pkt) (s : State) : State :=
  let drop := fun s => bump (0x3001E8 + 0x1000 * p) s
  if ingressFull s p half h || k.version ≠ 1 || !k.lenOk || decide (9216 < h.bytes) then drop s
  else
    match route s k (if k.detour then 2 else 0) true with
    | .go q v d =>
      let e := ethEntry p half h k v d
      if cutsThrough s q e then stompThrough q e drop (ingressTake p half h s) else drop s
    | _ => drop s

/-- A Waybill frame for a local address (R834). -/
def isWaybill (s : State) (p : Nat) (h : EthHdr) : Bool :=
  h.isUdp && isLocalIp s p h.ipv6 h.dstIp && h.dport == obj s 0x2830 0 53100

/-- An Ethernet frame at a direct-mode port in HANDSHAKE shows a mode mismatch (R816). -/
def ethAtDirect (p : Nat) (s : State) : State :=
  if (fport s p).st == .handshake then raise (24 + p) 3 (modFport p (fun f => { f with mismatch := true }) s) else s

/-- ETH_FRAME_RECEIVE: the discards of R834 to R836, then the first row of R834 that matches. MAC Control frames are handled as PAUSE_RECEIVE. -/
def ethFrameReceive (p half : Nat) (h : EthHdr) (k : Pkt) (s : State) : State :=
  let f := fport s p
  let k := { k with ce := h.ecn == 3 }
  if f.direct then ethAtDirect p s
  else if (if half = 0 then f.st else f.stB) ≠ .up || ingressFrozen s p then s
  else
    let drop := fun s => bump (0x3001E8 + 0x1000 * p) s
    let s := bump (0x3001E0 + 0x1000 * p) s
    if !ethAccept s p half h then drop s
    else if !h.fcsOk || !h.udpOk then
      (if h.ethertype ≠ 0x8808 && !h.resolution && h.ipOk && isWaybill s p h then ethWaybillBad p half h k s else drop s)
    else if h.ethertype = 0x8808 then s
    else if h.resolution then emit (.toManagement p []) s
    else if !h.ipOk then drop s
    else if isWaybill s p h then ethWaybill p half h k s
    else if h.isUdp && isLocalIp s p h.ipv6 h.dstIp && h.dport == 4791 then
      (if ingressFull s p half h then ingressDrop p s else emit (.deliverRoce p h k) s)
    else drop s

/-- ETH_FRAME_RECEIVE (R834). -/
def execEthFrameReceive (port half : Nat) (h : EthHdr) (p : Pkt) (s : State) : Answer := act (interrupts ++ [.cnt, .fports, .tokens, .sealing]) (ethFrameReceive port half h p) s

/-! ## Pause -/

/-- PCP_MAP of a class. -/
def pcpOf (s : State) (c : Nat) : Nat := fld (obj s 0x2832 0 0x0706050403020100) (8 * c + 7) (8 * c)

/-- Quanta of a port in ticks, rounded up: 512 bit times at 1,600 Gb/s, or at 800 Gb/s per half (R837). -/
def quantaTicks (f : FPort) (n : Nat) : Nat := (n * (if f.mode = 2 then 1024 else 512) + 99) / 100

/-- Pause a class for a time in quanta from now, or end its pause (R837). -/
def pauseClass (p half c time : Nat) (s : State) : State :=
  modFport p (fun f =>
    let m := if half = 0 then f.pauseA else f.pauseB
    let m := if time = 0 then mdel m c else mset m c (elapsed s + BitVec.ofNat 64 (quantaTicks f time))
    if half = 0 then { f with pauseA := m } else { f with pauseB := m }) s

/-- The classes that a received frame pauses, with their times (R837): a PAUSE every class, a PFC those that map to its
priorities. -/
def pausedBy (s : State) (pfc : Bool) (times : List (Nat × Nat)) : List (Nat × Nat) :=
  (List.range 8).filterMap (fun c =>
    match (if pfc then times.find? (fun t => t.1 == pcpOf s c) else times.head?) with
    | some t => some (c, t.2)
    | none => none)

/-- PAUSE_RECEIVE (R837): the mode decides which frames act; others are discarded and counted. -/
def pauseReceive (p half : Nat) (pfc : Bool) (times : List (Nat × Nat)) (s : State) : State :=
  let f := fport s p
  if f.direct || (if half = 0 then f.st else f.stB) != .up then s
  else
    let s := bump (0x3001F0 + 0x1000 * p) s
    let mode := wfld (pfcCfg s p) 1 0
    if mode = (if pfc then 2 else 1) then (pausedBy s pfc times).foldl (fun s t => pauseClass p half t.1 t.2 s) s
    else bump (0x3001E8 + 0x1000 * p) s

/-- PAUSE_RECEIVE (R837). -/
def execPauseReceive (port half : Nat) (pfc : Bool) (times : List (Nat × Nat)) (s : State) : Answer :=
  act [.cnt, .fports] (pauseReceive port half pfc times) s

/-- The time of a pause is up (R837). Log 2 (DESIGN CHOICE). -/
def pauseExpire (p half c : Nat) (s : State) : State :=
  let f := fport s p
  match mfind (if half = 0 then f.pauseA else f.pauseB) c with
  | some t => if reached t (elapsed s) then pauseClass p half c 0 s else s
  | none => s

/-- PAUSE_EXPIRE (R837). -/
def execPauseExpire (port half cls : Nat) (s : State) : Answer := act [.fports] (pauseExpire port half cls) s

/-- A pause frame leaves on every half that is UP (R839). -/
def sendPause (p k time : Nat) (s : State) : State :=
  let f := fport s p
  let one := fun half s => emit (.pauseFrame p half k time) (bump (0x3001F8 + 0x1000 * p) s)
  let s0 := modFport p (fun f => { f with pfcAt := mset f.pfcAt k (elapsed s) }) s
  let s1 := if f.st == .up then one 0 s0 else s0
  if f.mode = 2 && f.stB == .up then one 1 s1 else s1

/-- PFC_REFRESH: the pause frame goes out again every 32,768 quanta while the level is above PFC_LOW (R839). Log 2 (DESIGN CHOICE). -/
def pfcRefresh (p prio : Nat) (s : State) : State :=
  let f := fport s p
  let k := if wfld (pfcCfg s p) 1 0 = 1 then 8 else prio
  let due := reached (mget f.pfcAt k 0 + BitVec.ofNat 64 (quantaTicks f 32768)) (elapsed s)
  if !f.direct && f.pfcSent.contains k && due && decide (wfld (pfcCfg s p) 47 32 * 1024 < pfcLevel s p prio) then sendPause p k 65535 s else s

/-- PFC_REFRESH (R839). -/
def execPfcRefresh (port prio : Nat) (s : State) : Answer := act [.out, .cnt, .fports] (pfcRefresh port prio) s

/-! ## The peer table -/

/-- An entry as the table holds it: the address, VALID and IPV6, reserved bytes zero (R831). -/
def peerEntry (d : List Byte) : List Byte :=
  (d.take 16 ++ List.replicate (16 - d.length) 0) ++ [(d.getD 16 0) &&& 3] ++ List.replicate 15 0

/-- The 32 entries of a write. -/
def peerEntries (d : List Byte) : Nat → List Byte
  | 0 => []
  | n + 1 => peerEntry (d.take 32) ++ peerEntries (d.drop 32) n

/-- ETH_PEER_WRITE: 32 entries, or result 2 when FIRST is above 65,504 (R831, R845). -/
def ethPeerWrite (first : Nat) (data : List Byte) (s : State) : State :=
  if 65504 < first then { s with ethResult := 2 }
  else { s with ethResult := 0, mem := memStore s.mem (0x3A000000 + 32 * first) (peerEntries data 32) }

/-- ETH_PEER_WRITE (R831). -/
def execEthPeerWrite (first : Nat) (data : List Byte) (s : State) : Answer := act [.mem, .ethResult] (ethPeerWrite first data) s

end Sys2Proof.Machine
end

