-- ==== Sys2Proof/Machine/Errors0.lean ====
section
/-! DEFINITION. What meeting a memory error does: markers, counters, records, latches and what a unit that enters FATAL takes down
(R957 to R977), the trap of a tile (R373), and an empty class (R32). -/

namespace Sys2Proof.Machine

open Sys2Proof

/-! ## Tiles and classes -/

/-- The class of a tile (R28): 0 XFER, 1 RDC, 2 UPD, 3 CDC, 4 SEAL, 5 COLL, 6 COPY. -/
def tileClass (t : Nat) : Nat :=
  let l := t % 32
  if l < 12 then 0 else if l < 20 then 1 else if l < 24 then 2 else if l < 28 then 3 else if l < 30 then 4 else if l = 30 then 5 else 6

/-- The tiles of a class. -/
def classTiles (c : Nat) : List Nat := (List.range 64).filter (fun t => tileClass t = c)

/-- A class of which no tile is available is recorded once for the spell, which ends when one is available again (R32). -/
def classCheck (c : Nat) (s : State) : State :=
  if (classTiles c).any (tileAvail s) then
    (if s.errs.emptySpell.contains c then modErrs (fun e => { e with emptySpell := sdel e.emptySpell c }) s else s)
  else if s.errs.emptySpell.contains c then s
  else
    ledgerInn { kind := 0x21, severity := 2, d0 := c } (raise 5 1 (modErrs (fun e => { e with emptySpell := sadd e.emptySpell c }) s))

/-- Check every class. -/
def classChecks (s : State) : State := (List.range 7).foldl (fun s c => classCheck c s) s

/-- A list that waits behind the running list of a tile goes back to dispatch (R373, R378). -/
def requeueBehind (t : Nat) (s : State) : State :=
  { s with lists := s.lists.map (fun r => if r.tile = some t && r.st == .behind then { r with st := .ready, tile := none } else r) }

/-- The header under which a list's running command completes. -/
def curHdr (s : State) (r : ListRec) : CmdHdr × Nat :=
  match r.cur with
  | some p => p
  | none =>
    match (queue s r.fn r.queue).fetched.find? (fun f => f.index == r.list) with
    | some f => ({ fn := r.fn, queue := r.queue, list := r.list, index := r.list, tag := f.tag }, f.opcode)
    | none => ({ fn := r.fn, queue := r.queue, list := r.list, index := r.list }, 0)

/-- End a list with TILE_TRAP and stop its queue (R373). -/
def trapList (t : Nat) (r : ListRec) (s : State) : State :=
  let c := curHdr s r
  let s1 := failCmd { c.1 with fin := true } c.2 r { status := 0x42, bytes := match r.prog with | some p => p.bytes | none => 0 } s
  let rec_ : LedgerRec := { kind := 0x20, severity := 2, unit := t, object := r.list, access := 2, d0 := t }
  ledgerInn { rec_ with room := some r.room } (ledgerRoom r.room rec_ (qStop r.fn r.queue r.list 0x15 s1))

/-- A tile halts: its dispatcher passes it over (R31), its running list ends with TILE_TRAP and the one behind goes back. -/
def haltTile (t : Nat) (s : State) : State :=
  if s.tilesHalted.contains t then s
  else
    let s1 := requeueBehind t (raise 5 0 { s with tilesHalted := sadd s.tilesHalted t })
    (s.lists.filter (fun r => r.tile == some t && r.st != .behind)).foldl (fun s r => trapList t r s) s1

/-! ## Units in FATAL -/

/-- What a unit that enters FATAL takes down (R975). A tier controller needs nothing more than its latch state. Log 134 (DEDUCED). -/
def unitDown (u : Nat) (s : State) : State :=
  if u < 16 then s
  else if u < 80 then
    let b := u - 16
    if bankVital b then deviceFatal (0x100 + u) u (0x100 + u) s
    else if (bankPorts b) ≠ [] then (bankPorts b).foldl (fun s p => fpDisable p s) s
    else { s with mem := { s.mem with frozen := sadd s.mem.frozen u } }
  else if u < 82 then
    classChecks ((List.range 32).foldl (fun s i => haltTile (32 * (u - 80) + i) s) s)
  else holdLanes (modErrs (fun e => { e with coresHalted := [0, 1, 2, 3], alert := true }) s)

/-! ## Meeting an error -/

/-- How the errors that accesses to data meet reach the Ledgers. -/
def sinks : Sinks := { inn := ledgerInn, guest := ledgerRoom, takes := fun s r => ledgerTakes s (innFn s) r, down := unitDown }

/-- A new uncorrectable error of a unit: R974, R977. -/
def latchNew (x : Access) (kind u m a : Nat) (s : State) : State := latchNewBy sinks x kind u m a s

/-- Write a record of a memory error: the Innkeeper's copy names the DPA, the room's copy what the room knows (R979, R981). Log 132 (DEDUCED). -/
def memRecord (x : Access) (kind u m a : Nat) (second : Bool) (s : State) : State := memRecordBy sinks x kind u m a second s

/-- An access meets an error: R961 to R965, R974, R177, R187. `kind` is the kind of a new error's record. -/
def meetAs (kind : Nat) (x : Access) (b : Bad) (s : State) : State := meetBy sinks kind x b s

/-- An access meets an error (R965). Log 132 (DEDUCED). -/
def meetBad (x : Access) (b : Bad) (s : State) : State := meetAs 3 x b s

/-! ## Correctable errors -/

/-- The entry that a new line replaces: the lowest COUNT, and among equals the oldest LAST_TIME (R958). -/
def ceVictim : List CeEntry → Option CeEntry
  | [] => none
  | e :: r =>
    match ceVictim r with
    | none => some e
    | some v => if e.count < v.count ∨ (e.count = v.count ∧ e.lastAt.toNat ≤ v.lastAt.toNat) then some e else some v

/-- Enter a line into an address table (R958): the table, whether an entry was replaced. -/
def ceEnter (now : Word) (line pos : Nat) (t : List CeEntry) : List CeEntry × Bool :=
  if t.any (fun e => e.line == line) then
    (t.map (fun e => if e.line = line then { e with count := Nat.min 65535 (e.count + 1), lastAt := now, position := pos } else e), false)
  else
    let n : CeEntry := { line := line, firstAt := now, lastAt := now, position := pos }
    if t.length < 32 then (t ++ [n], false)
    else
      match ceVictim t with
      | none => (t ++ [n], false)
      | some v => (t.map (fun e => if e.line = v.line then n else e), true)

/-- The latch unit of a line of memory m; the code memories have one each (R974). -/
def ceUnit (s : State) (m line : Nat) : Nat := if m < 18 then latchUnit s (line * 64) else 62 + m

/-- A correctable error at a line of memory m: R957 to R960. The corrected line is written back. For a code memory the line is its word. -/
def meetCe (m line pos : Nat) (s : State) : State :=
  let r := ceEnter s.tide.count line pos (mget s.errs.ce m [])
  let s1 := bump (0x440100 + 8 * m) { s with mem := { s.mem with latentCe := sdel s.mem.latentCe line } }
  let s2 := modErrs (fun e => { e with ce := mset e.ce m r.1, ceSecond := mmod e.ceSecond m 0 (fun n => n + 1) })
    (if r.2 then bump 0x440428 s1 else s1)
  match r.1.find? (fun e => e.line == line) with
  | some e =>
    if obj s 0x9001 1 16 ≤ e.count && !e.reported then
      ledgerInn {
        kind := 1, severity := 1, unit := 0x100 + ceUnit s m line, object := m, addrKind := b2n (decide (m < 18)), address := if m < 18 then line * 64 else 0,
        d0 := e.count } (raise 12 3 (modErrs (fun x => { x with
          ce := mmod x.ce m [] (fun t => t.map (fun e => if e.line = line then { e with reported := true } else e)) }) s2))
    else s2
  | none => s2

/-- Lines of a range that hold a latent correctable error and are read: corrected and counted, in ascending order (R957). -/
def correctRange (a n : Nat) (s : State) : State :=
  if n = 0 then s
  else
    (s.mem.latentCe.filter (fun l => decide (a / 64 ≤ l) && decide (l ≤ (a + n - 1) / 64) && s.mem.valid.contains (l / 64))).foldl
      (fun s l => meetCe (memNo s (l * 64)) l 0 s) s

/-- The counters of a read of device memory: bytes read by each tier controller, and reads answered from clear valid bits. -/
def countRead (a n : Nat) (s : State) : State :=
  countBlocks 0x10 (fun _ => 1) ((blocksOf a n).filter (fun b => !s.mem.valid.contains b)) (countBlocks 0 (bytesIn a n) (blocksOf a n) (mapUse a n s))

/-- Read device memory for an access: the bytes, with counters and corrections; or what it met. -/
def readMem (x : Access) (a n : Nat) (s : State) : Except State (List Byte × State) :=
  match firstBad s a n with
  | some b => .error (meetBad x b s)
  | none => .ok (devRead s a n, correctRange a n (countRead a n s))

/-- Write device memory for an access, or meet an error and write nothing (R964, R1140). -/
def writeMem (x : Access) (a : Nat) (data : List Byte) (s : State) : Except State State :=
  match firstBadW s a data.length with
  | some b => .error (meetBad x b s)
  | none => .ok (devWrite a data s)

end Sys2Proof.Machine
end

