-- ==== Sys2Proof/Machine/Data0.lean ====
section
/-! DEFINITION. How an engine or a responder reaches data in memory: the translation caches (R247 to R252), host translations through
ATS (R220 to R231), charts (R240), mirrored device tables (R967), and reading and writing a range. -/

namespace Sys2Proof.Machine

open Sys2Proof

/-! ## The translation caches -/

/-- The die of an entry. -/
def TEntry.die : TEntry → Nat
  | .host d _ _ _ _ _ _ _ => d
  | .chart d _ _ _ => d

/-- The room of an entry. -/
def TEntry.room (s : State) : TEntry → Option Nat
  | .host _ fn _ _ _ _ _ _ => roomOf s fn
  | .chart _ r _ _ => some r

/-- The host entry that serves an address (R248). -/
def hostEntry (s : State) (die fn pasid a : Nat) : Option TEntry :=
  s.tcache.find? (fun e => match e with
    | .host d f p b n _ _ _ => d == die && f == fn && p == pasid && decide (b ≤ a) && decide (a < b + n)
    | .chart _ _ _ _ => false)

/-- The set of its die's cache in which an entry lies: 256 sets of 16 ways (R247). Log 13 (DESIGN CHOICE). -/
def TEntry.set : TEntry → Nat
  | .host _ fn pasid base _ _ _ _ => (Config.tlbSet (fn + 1) pasid (base / 2 ^ 21)).toNat
  | .chart _ room _ leaf => (Config.tlbSet 0 room leaf).toNat

/-- The entries of a die's cache. -/
def dieEntries (s : State) (die : Nat) : List TEntry := s.tcache.filter (fun x => x.die == die)

/-- ROOM_LIMIT (R249, R273). -/
def roomLimit (s : State) : Nat := wfld (rd s 0x220000 (4096 * 2 ^ 32)) 44 32

/-- The entries of which one makes way for a new one, by pseudo-LRU: a full set's but the one used last (R247). Log 13 (DESIGN CHOICE). -/
def setVictims (e : TEntry) (s : State) : List TEntry :=
  if (dieEntries s e.die).length < 16 then []
  else
    let l := (dieEntries s e.die).filter (fun x => x.set == e.set)
    if l.length < 16 then [] else l.dropLast

/-- Put an entry in the place of one of a list, which the model leaves free, or beside the others where the list is empty. Log 13 (DESIGN CHOICE). -/
def tlbReplace (l : List TEntry) (e : TEntry) (s : State) : State :=
  match l[(freshVal s).toNat % l.length]? with
  | some v => useFresh { s with tcache := s.tcache.filter (fun x => x != v) ++ [e] }
  | none => { s with tcache := s.tcache ++ [e] }

/-- Fill an entry: a room at ROOM_LIMIT replaces one of its own (R249), a full set one of its entries (R247). Log 13 (DESIGN CHOICE). -/
def tlbFill (e : TEntry) (s : State) : State :=
  let mine := (dieEntries s e.die).filter (fun x => x.room s == e.room s)
  if roomLimit s ≤ mine.length then raise 2 0 (tlbReplace mine e s) else tlbReplace (setVictims e s) e s

/-- Drop what rooms hold above a limit on each die (R249). Log 13 (DESIGN CHOICE). -/
def trimTlb (s : State) (limit : Nat) : List TEntry → List TEntry
  | [] => []
  | e :: r =>
    if limit ≤ (r.filter (fun x => x.die == e.die && x.room s == e.room s)).length then trimTlb s limit r else e :: trimTlb s limit r

/-- Look an entry up: a hit moves it to the newest place and counts; a chart miss counts and fills. Log 13 (DESIGN CHOICE). -/
def tlbUse (e : TEntry) (s : State) : State :=
  if s.tcache.contains e then
    bump (0x220100 + 0x40 * e.die) { s with tcache := (s.tcache.filter (fun x => x != e)) ++ [e] }
  else tlbFill e (bump (0x220108 + 0x40 * e.die) s)

/-- Purge the entries that satisfy a condition. -/
def tlbPurge (p : TEntry → Bool) (s : State) : State := { s with tcache := s.tcache.filter (fun e => !p e) }

/-- Keep of a state only what an access to data may change; a Harbour bank that an error takes down disables the ports it buffers (R975). -/
def dataOnly (s r : State) : State :=
  { ledgerOnly s r with
    mem := { r.mem with
      extents := s.mem.extents, waits := s.mem.waits, starved := s.mem.starved, frozenAt := s.mem.frozenAt, dieLocal0 := s.mem.dieLocal0, dieLocal1 := s.mem.dieLocal1 }
    errs := r.errs, tcache := r.tcache, ats := r.ats, free := r.free, fports := r.fports, tide := r.tide, objNow := r.objNow, lanes := r.lanes }

/-! ## Mirrored device tables -/

/-- Read a device-table entry, from the table itself: a failed line is served and rewritten from its mirror (R967); one that fails in both copies is
a memory error with ACCESS 14 (R968). Log 176 (DEDUCED). -/
def tableUse (a : Nat) (s : State) : State :=
  if lineBad s a then
    (if lineBad s (a - 0xFFFF000) then
      ledgerInn { kind := 3, severity := 2, unit := 0x100 + latchUnit s a, object := memNo s a, addrKind := 1, address := a / 64 * 64, access := 14 } s
    else
      ledgerInn { kind := 9, severity := 1, unit := 0x100 + latchUnit s a, object := memNo s a, addrKind := 1, address := a / 64 * 64, access := 14 }
        (bump 0x440418 { s with mem := { s.mem with poison := sdel s.mem.poison (a / 64), latentUe := sdel s.mem.latentUe (a / 64) } }))
  else s

/-- Read a device-table entry and keep of the state only what that may change. Log 176 (DEDUCED). -/
def tableRead (a : Nat) (s : State) : State := dataOnly s (tableUse a s)

/-- The address of a window's entry (R259). -/
def winEntryAt (i : Nat) : Nat := 0x3C000000 + 32 * (i % 1048576)

/-- The address of an Ethernet peer's entry (R831). -/
def peerEntryAt (node : Nat) : Nat := 0x3A000000 + 32 * (node % 65536)

/-! ## Resolving a range -/

/-- On whose behalf an access is made. `pasid` is the queue's PASID; `dpa` is set for DPA addressing (R202); `remote` for a remote
requester (R231); `acc` is its access code and `object` what a record names. `space` is set for a window's range (R265): true for a DVA,
false for a host address. `pins` says of operands, by their address, whether each was a DVA when its command began (R246, R255). -/
structure DCtx where
  fn : Nat
  room : Nat
  die : Nat := 0
  pasid : Nat := 0
  dpa : Bool := false
  remote : Bool := false
  acc : Nat := 5
  object : Nat := 0
  space : Option Bool := none
  pins : List (Nat × Bool) := []
  deriving DecidableEq, Repr

/-- What the operands of a MIRRORED room's command are as it begins: each a DVA or a host address, as a whole (R255). Log 190 (DEDUCED). -/
def pinsOf (s : State) (rm : Nat) (l : List Nat) : List (Nat × Bool) :=
  if (room s rm).quotas.mirrored then l.map (fun a => (a, match operand (room s rm) a with | .dva _ => true | _ => false)) else []

/-- The operand to which an address belongs: the nearest at or below it. Log 190 (DEDUCED). -/
def pinAt (a : Nat) : List (Nat × Bool) → Option (Nat × Bool)
  | [] => none
  | p :: r =>
    match pinAt a r with
    | some q => if p.1 ≤ a && decide (q.1 < p.1) then some p else some q
    | none => if p.1 ≤ a then some p else none

/-- What an address names in a context: an address operand (R254, R255), or a place in a window's space (R260). -/
def opndOf (s : State) (c : DCtx) (a : Nat) : Opnd :=
  match c.space with
  | none =>
    (match pinAt a c.pins with
    | some (_, true) => .dva a
    | some (_, false) => .host a
    | none => operand (room s c.room) a)
  | some true => .dva a
  | some false => .host a

/-- What stops an access: a translation fault, a translation that is under way, an error of device memory, a device table lost in both
copies, a poisoned host line, a frozen unit or a port in HOLD. -/
inductive DErr where
  | fault (code : Nat) | miss | bad (b : Bad) | table (a : Nat) | hostPoison | held
  deriving DecidableEq, Repr

/-- A piece of a range that one translation covers: offset in the range, place and length. -/
structure Seg where
  off : Nat
  loc : Loc
  len : Nat
  deriving DecidableEq, Repr

/-- The outstanding translation of a host address for a function and PASID, for remote requesters or for local ones (R231); addresses are asked for by
4 KiB pages. -/
def atsFind (s : State) (fn pasid : Nat) (remote : Bool) (a : Nat) : Option AtsReq :=
  s.ats.find? (fun r => r.fn == fn && r.pasid == pasid && r.remote == remote && r.addr == a / 4096 * 4096)

/-- Whether permissions allow an access to host memory (R225). -/
def hostGives (r w : Bool) : Need → Bool
  | .read => r
  | .write => w
  | .atomic => r && w
  | .both => r && w

/-- One translation step at an address operand: the place and how many bytes it covers, or what stops it. -/
def xlateAt (s : State) (c : DCtx) (a n : Nat) (need : Need) : Except DErr (Loc × Nat) :=
  if c.dpa then .ok (.dev a, n)
  else
    let rm := room s c.room
    match opndOf s c a with
    | .bad => .error (.fault 6)
    | .dva d =>
      if anyFrozen s (chartEntryAt s c.room d) 8 then .error .held
      else if !tableOk s (chartEntryAt s c.room d) then .error (.table (chartEntryAt s c.room d))
      else
        match chartLeaf rm d with
        | none => .error (.fault 6)
        | some (l, base) =>
          if leafGives l need then
            let size := if (mfind rm.leaves1 (d / 2 ^ 30)).isSome then 2 ^ 30 else 2 ^ 39
            .ok (.dev (l.dpa + (d - base)), Nat.min n (base + size - d))
          else .error (.fault 7)
    | .host h =>
      if !(func s c.fn).cfg.ats then .error (.fault 1)
      else
        match hostEntry s c.die c.fn c.pasid h with
        | some (.host _ _ _ b z x r w) =>
          if hostGives r w need then .ok (.host (fnPort c.fn) (x + (h - b)), Nat.min n (b + z - h)) else .error (.fault 7)
        | _ =>
          match atsFind s c.fn c.pasid c.remote h with
          | some q => if q.fault ≠ 0 then .error (.fault q.fault) else .error .miss
          | none => .error .miss

/-- The pieces of a range, in ascending order, up to the first offset that does not translate. -/
def resolveGo (s : State) (c : DCtx) (need : Need) : Nat → Nat → Nat → Nat → List Seg × Option (DErr × Nat)
  | 0, _, _, _ => ([], none)
  | fuel + 1, a, n, off =>
    if n = 0 then ([], none)
    else
      match xlateAt s c a n need with
      | .error e => ([], some (e, off))
      | .ok (l, k) =>
        if k = 0 then ([], some (.fault 6, off))
        else
          let r := resolveGo s c need fuel (a + k) (n - k) (off + k)
          ({ off := off, loc := l, len := k } :: r.1, r.2)

/-- Resolve a range of an address operand. -/
def resolve (s : State) (c : DCtx) (a n : Nat) (need : Need) : List Seg × Option (DErr × Nat) :=
  resolveGo s c need (n / 2 ^ 21 + 3) a n 0

/-- Lines of host memory that a read finds poisoned (R966). Log 32 (DEDUCED). -/
def hostBad (s : State) (p a n : Nat) : Option Nat :=
  if n = 0 then none else sleast (mget s.hpoison p []) (fun l => decide (a / 64 ≤ l) && decide (l ≤ (a + n - 1) / 64))

/-- What a piece meets when it is read: the offset in the piece and the cause. Log 32 (DEDUCED). -/
def segReadBad (s : State) (g : Seg) : Option (DErr × Nat) :=
  match g.loc with
  | .host p a =>
    if (hport s p).st = .hold then some (.held, 0)
    else (hostBad s p a g.len).map (fun l => (DErr.hostPoison, l * 64 - a))
  | .dev a =>
    if anyFrozen s a g.len then some (.held, 0)
    else (firstBad s a g.len).map (fun b => (DErr.bad b, b.addr - a))

/-- What a piece meets when it is written. -/
def segWriteBad (s : State) (g : Seg) : Option (DErr × Nat) :=
  match g.loc with
  | .host _ _ => none
  | .dev a =>
    if anyFrozen s a g.len then some (.held, 0)
    else (firstBadW s a g.len).map (fun b => (DErr.bad b, b.addr - a))

/-- What a range meets first: the least offset at which one of its pieces, or its resolution, stops. Log 33 (DESIGN CHOICE). -/
def firstStop (bad : Seg → Option (DErr × Nat)) : List Seg → Option (DErr × Nat) → Option (DErr × Nat)
  | [], e => e
  | g :: r, e =>
    match bad g with
    | some (x, o) => some (x, g.off + o)
    | none => firstStop bad r e

/-- What a read of a range meets. Log 33 (DESIGN CHOICE). -/
def readStop (s : State) (c : DCtx) (a n : Nat) : Option (DErr × Nat) :=
  let r := resolve s c a n .read
  firstStop (segReadBad s) r.1 r.2

/-- What a write of a range meets. Log 33 (DESIGN CHOICE). -/
def writeStop (s : State) (c : DCtx) (a n : Nat) : Option (DErr × Nat) :=
  let r := resolve s c a n .write
  firstStop (segWriteBad s) r.1 r.2

/-- The bytes of a piece. -/
def segBytes (s : State) (g : Seg) : List Byte :=
  match g.loc with
  | .host p a => hostRead s p a g.len
  | .dev a => devRead s a g.len

/-- The bytes of a range, as far as it resolves. -/
def peekData (s : State) (c : DCtx) (a n : Nat) (need : Need) : List Byte := (resolve s c a n need).1.flatMap (segBytes s)

/-! ## Effects of an access -/

/-- Use the translation of a piece: the cache and its counters, and the device tables it walks. -/
def useSeg (c : DCtx) (a : Nat) (g : Seg) (s : State) : State :=
  if c.dpa then s
  else
    match opndOf s c (a + g.off) with
    | .dva d =>
      let big := (mfind (room s c.room).leaves1 (d / 2 ^ 30)).isNone
      tlbUse (.chart c.die c.room big (if big then d / 2 ^ 39 else d / 2 ^ 30)) (tableUse (chartEntryAt s c.room d) s)
    | .host h =>
      match hostEntry s c.die c.fn c.pasid h with
      | some e => tlbUse e s
      | none => s
    | .bad => s

/-- The effect of reading a piece: the requests to the host (R124, R134, R142), and in device memory counters and corrections. -/
def readSegEff (g : Seg) (s : State) : State :=
  match g.loc with
  | .host p a => hostAsk p a g.len s
  | .dev a => correctRange a g.len (countRead a g.len (resolveLines a g.len s))

/-- The effect of reading a range. Log 30 (DESIGN CHOICE). -/
def readEff (c : DCtx) (a n : Nat) (s : State) : State :=
  dataOnly s ((resolve s c a n .read).1.foldl (fun s g => readSegEff g (useSeg c a g s)) s)

/-- Write a piece. -/
def writeSeg (g : Seg) (data : List Byte) (s : State) : State :=
  match g.loc with
  | .host p a => hostWrite p a data true s
  | .dev a => devWrite a data (resolveLines a data.length s)

/-- Write a range that resolves; bytes beyond what resolves are not written. -/
def writeEff (c : DCtx) (a : Nat) (data : List Byte) (s : State) : State :=
  dataOnly s ((resolve s c a data.length .write).1.foldl
    (fun s g => writeSeg g ((data.drop g.off).take g.len) (useSeg c a g s)) s)

/-- How an address operand reads in a record: 1 a DPA, 2 a DVA, 3 a host address (R980), with the address. -/
def addrOf (s : State) (c : DCtx) (a : Nat) : Nat × Nat :=
  if c.dpa then (1, a)
  else
    match opndOf s c a with
    | .dva d => (2, d)
    | .host h => (3, h)
    | .bad => (0, 0)

/-- Begin a host translation: R220, R227; a miss that is under way is left alone. Log 29 (DEDUCED), 203 (DESIGN CHOICE). -/
def atsStart (c : DCtx) (a : Nat) (s : State) : State :=
  match opndOf s c a with
  | .host h =>
    if (atsFind s c.fn c.pasid c.remote h).isSome then s
    else
      emit (.atsRequest c.fn c.pasid (h / 4096 * 4096))
        (bump (0x220110 + 0x40 * c.die)
          { s with ats := s.ats ++ [{ fn := c.fn, pasid := c.pasid, addr := h / 4096 * 4096, die := c.die, remote := c.remote }] })
  | _ => s

/-- A translation fault that was kept for an access has been taken. Log 29 (DEDUCED). -/
def atsTaken (c : DCtx) (a : Nat) (s : State) : State :=
  match opndOf s c a with
  | .host h => { s with ats := s.ats.filter (fun r => !(r.fn == c.fn && r.pasid == c.pasid && r.remote == c.remote && r.addr == h / 4096 * 4096 && r.fault != 0)) }
  | _ => s

/-- What an access that stopped at an offset does: the record of a fault (R252), of a memory error (R965) or of a poisoned host line
(R966), or the translation request of a miss. -/
def stopEff (c : DCtx) (a : Nat) (e : DErr × Nat) (s : State) : State :=
  let at_ := addrOf s c (a + e.2)
  dataOnly s (match e.1 with
    | .fault code =>
      ledgerRoom c.room {
        kind := 0x60, severity := 2, object := c.object, addrKind := at_.1, address := at_.2, access := c.acc, code := code } (atsTaken c (a + e.2) s)
    | .miss => atsStart c (a + e.2) s
    | .bad b => meetBad { code := c.acc, room := some c.room, object := c.object, addrKind := at_.1, addr := at_.2 } b s
    | .table x => tableUse x s
    | .hostPoison =>
      ledgerRoom c.room { kind := 0x0A, severity := 2, object := c.object, addrKind := 3, address := at_.2, access := c.acc, d0 := 1 } s
    | .held => s)

/-- How an engine command ends whose access stopped: XLATE_FAULT with its detail, MEM_UE, or not yet (R252, R374, R250, R212). The bytes
are the offset of the first byte not finished (R207). Log 67 (DEDUCED), 203 (DESIGN CHOICE). -/
def stopEnd (e : DErr × Nat) : CEnd :=
  match e.1 with
  | .fault code => { status := 3, detail := code, bytes := e.2 }
  | .miss => { stall := true }
  | .held => { stall := true }
  | _ => { status := 4, bytes := e.2 }

/-- Whether what stopped an access only makes it wait. Log 29 (DEDUCED). -/
def DErr.waits : DErr → Bool
  | .miss => true
  | .held => true
  | _ => false

/-- The context of an engine command's data. The die is that of its list's tile. -/
def cmdCtx (s : State) (h : CmdHdr) (r : ListRec) : DCtx :=
  let q := queue s h.fn h.queue
  { fn := h.fn, room := r.room, die := (match r.tile with | some t => t / 32 | none => r.die.getD 0),
    pasid := if q.pasidValid then q.pasid + 1 else 0, object := h.index, pins := r.pins }

/-- Run a command's body with what its address operands were when it began (R246, R255). Log 190 (DEDUCED). -/
def withPins (l : List Nat) (body : ListRec → State → CEnd × State) (r : ListRec) (s : State) : CEnd × State :=
  let p := pinsOf s r.room l
  if r.pins ≠ [] || p = [] then body r s
  else body { r with pins := p } (setList { r with pins := p } s)

/-! ## Operands and results of front desk commands -/

/-- The context of a front desk command's memory other than its rings: the caller's, translated without a PASID (R220, R1143). Log 169 (DEDUCED). -/
def fdCtx (s : State) (h : FdHdr) (acc : Nat) : DCtx := { fn := h.fn, room := (roomOf s h.fn).getD 0, die := fnPort h.fn / 4, acc := acc, object := 4095 }

/-- The result code of a front desk command whose memory failed: ADDR_FAULT or ADDR_UE (R1143). -/
def fdFail (e : DErr) : Nat :=
  match e with
  | .fault _ => 0x0A
  | _ => 0x0B

/-- Write a result at RESULT_ADDR and answer: nothing is written when it is zero (R301), and a failed write leaves the result absent and answers
ADDR_FAULT or ADDR_UE (R1143). While the write waits, the command has not been taken. Log 29 (DEDUCED), 169 (DEDUCED). -/
def fdResult (h : FdHdr) (data : List Byte) (answer : Nat → State → State) (s : State) : State :=
  if h.resultAddr = 0 then answer 0 s
  else
    match writeStop s (fdCtx s h 6) h.resultAddr data.length with
    | none => answer 0 (writeEff (fdCtx s h 6) h.resultAddr data s)
    | some e =>
      if e.1.waits then stopEff (fdCtx s h 6) h.resultAddr e s
      else answer (fdFail e.1) (stopEff (fdCtx s h 6) h.resultAddr e s)

/-! ## Results that the spec calls unpredictable (R15) -/

/-- Whether two runs of bytes, by their first address and length, share a byte. Log 69 (DESIGN CHOICE). -/
def runsMeet (a b : Nat × Nat) : Bool := decide (a.1 < b.1 + b.2) && decide (b.1 < a.1 + a.2)

/-- Whether two pieces of memory share a byte. -/
def segsMeet (x y : Seg) : Bool :=
  match x.loc, y.loc with
  | .dev a, .dev b => runsMeet (a, x.len) (b, y.len)
  | .host p a, .host q b => p == q && runsMeet (a, x.len) (b, y.len)
  | _, _ => false

/-- Whether two operands, each in its context, share a byte, by their addresses or by the memory that these reach. -/
def opsMeetIn (s : State) (c d : DCtx) (x y : Nat × Nat) : Bool :=
  runsMeet x y || (resolve s c x.1 x.2 .read).1.any (fun g => (resolve s d y.1 y.2 .read).1.any (segsMeet g))

/-- Whether two operands of one command share a byte. Log 69 (DESIGN CHOICE). -/
def opsMeet (s : State) (c : DCtx) (x y : Nat × Nat) : Bool := opsMeetIn s c c x y

/-- Whether two commands under way, each in its context, disturb each other: one uses what the other protects (R637, R676). Log 69 (DESIGN CHOICE). -/
def progsClash (s : State) (c d : DCtx) (p q : Prog) : Bool :=
  p.prot.any (fun x => q.uses.any (opsMeetIn s c d x)) || q.prot.any (fun x => p.uses.any (opsMeetIn s d c x))

/-- A command goes on beside the others of its room that are under way: whether its result is unpredictable, and the state in which those that it
disturbs are marked (R637, R676). Log 69 (DESIGN CHOICE). -/
def watchOthers (c : DCtx) (r : ListRec) (p : Prog) (meets : Bool) (s : State) : Bool × State :=
  let hit := fun (x : ListRec) => match x.prog, x.cur with
    | some q, some y => x.room == r.room && !(x.fn == r.fn && x.queue == r.queue && x.list == r.list) && progsClash s c (cmdCtx s y.1 x) p q
    | _, _ => false
  if s.lists.any hit then
    (true, { s with lists := s.lists.map (fun x => if hit x then { x with prog := x.prog.map (fun q => { q with wild := true }) } else x) })
  else (p.wild || meets, s)

/-- Codes of w bits from place k on: free values of this moment and of their places where `on` holds. Log 69 (DESIGN CHOICE). -/
def wildRun (on : Bool) (s : State) (k w : Nat) (l : List Nat) : List Nat :=
  if on then (List.range l.length).map (fun j => (Config.unpredictable s.free (k + j)).toNat % 2 ^ w) else l

/-- One code that is free where `on` holds. Log 69 (DESIGN CHOICE). -/
def wildCode (on : Bool) (s : State) (k w code : Nat) : Nat := if on then (Config.unpredictable s.free k).toNat % 2 ^ w else code

/-- Bytes that are free where `on` holds. Log 69 (DESIGN CHOICE). -/
def wildBytes (on : Bool) (s : State) (k : Nat) (d : List Byte) : List Byte :=
  if on then (List.range d.length).map (fun j => (Config.unpredictable s.free (k + j)).setWidth 8) else d

/-- The next unpredictable values are others. -/
def wildUsed (on : Bool) (s : State) : State := if on then useFresh s else s

/-- How a command ends whose result is unpredictable: as its rules say, with any status and detail, with no completion, or with its queue
stopped (R15): which of them is a free value. Log 69 (DESIGN CHOICE). -/
def wildEnd (on : Bool) (x : CEnd × State) : CEnd × State :=
  if !on || x.1.stall || x.1.pend then x
  else
    let v := freshVal x.2
    let any : CEnd := { x.1 with status := wfld v 15 8, detail := wfld v 31 16 }
    ((match wfld v 1 0 with
      | 0 => x.1
      | 1 => any
      | 2 => { x.1 with lost := true }
      | _ => { any with stops := true }), useFresh x.2)

end Sys2Proof.Machine
end

