-- ==== Sys2Proof/Machine/Memory.lean ====
section
/-! DEFINITION. Extents and Harbour units (R188 to R200), the copy engines (R201 to R207), freeze and drain (R210 to R214), and the
downstream expanders (R163 to R169). -/

namespace Sys2Proof.Machine

open Sys2Proof

/-! ## Extents -/

/-- The state of an extent that no command has touched (R175, R188, R189): SYSTEM, FREE, or by its expander. Log 36 (DEDUCED). -/
def extDefault (s : State) (e : Nat) : ExtSt :=
  if e = 0 then .system
  else if e < 256 then .free
  else if 1024 ≤ e ∧ e < 2048 then .free
  else if 2048 ≤ e ∧ e < 6144 then
    let d := (e - 2048) / 1024
    let p := mget s.ds d {}
    if ((e - 2048) % 1024 + 1) * 2 ^ 30 ≤ dsUsable s d then (if p.st = 2 && !p.offline then .free else .offline) else .absent
  else .absent

/-- An extent as it stands (R188, R190): a granted extent on an offline expander is OFFLINE and keeps its owner. Log 191 (DESIGN CHOICE). -/
def extOf (s : State) (e : Nat) : Extent :=
  match mfind s.mem.extents e with
  | some x => if extDefault s e = .offline then { x with st := .offline } else x
  | none => { st := extDefault s e }

/-- Numbers that the map leaves absent (R175, R192). -/
def extAbsent (e : Nat) : Bool := !(decide (e < 256) || (decide (1024 ≤ e) && decide (e < 6144)))

/-- Set or clear an extent's record. -/
def putExt (e : Nat) (x : Option Extent) (s : State) : State :=
  { s with mem := { s.mem with extents := match x with | some x => mset s.mem.extents e x | none => mdel s.mem.extents e } }

/-- Whether a room's chart maps an extent; a window covers an extent only through such a leaf (R190). -/
def extMapped (s : State) (rm e : Nat) : Bool :=
  (room s rm).leaves1.any (fun l => l.2.dpa / 2 ^ 30 == e) ||
    (room s rm).leaves2.any (fun l => decide (l.2.dpa / 2 ^ 30 ≤ e) && decide (e < l.2.dpa / 2 ^ 30 + 512))

/-- Act on extents in ascending order, stopping at the first that cannot change: the result code and the extent reported (R192). -/
def eachExtent (f : Nat → State → Except Nat State) : Nat → Nat → State → Nat × Nat × State
  | _, 0, s => (0, 0, s)
  | e, n + 1, s =>
    match f e s with
    | .error c => (c, e, s)
    | .ok s1 => eachExtent f (e + 1) n s1

/-- MEM_GRANT of one extent (R190). -/
def grantOne (rm e : Nat) (s : State) : Except Nat State :=
  match (extOf s e).st with
  | .free => .ok (putExt e (some { st := .granted, owner := some rm }) s)
  | .absent => .error 0x11
  | _ => .error 0x10

/-- MEM_RECLAIM of one extent (R190). -/
def reclaimOne (e : Nat) (s : State) : Except Nat State :=
  let x := extOf s e
  match x.st, x.owner with
  | .granted, some rm => if extMapped s rm e then .error 9 else .ok (putExt e (some { st := .reclaiming }) s)
  | .offline, some rm =>
    if extMapped s rm e then .error 9
    else .ok (putExt e none { s with mem := clearBlocks s.mem (e * 262144) 262144 })
  | _, _ => if extAbsent e then .error 0x11 else .error 0x13

/-- What makes an extent command malformed (R192, R304, R1138). -/
def extBad (h : FdHdr) (count : Nat) (s : State) : Option Nat :=
  firstBadOf [(!isInn s h.fn, 6), (count = 0 || 4096 < count, 4)]

/-- MEM_GRANT (R192). -/
def memGrant (h : FdHdr) (first count : Nat) (s : State) : State :=
  frontDesk h 0x10 (extBad h count) (fun s =>
    if (room s h.room).st = .free then fdAnswer h 0x10 { result := 0x12 } s
    else
      let r := eachExtent (grantOne h.room) first count s
      fdAnswer h 0x10 { result := r.1, stopAt := r.2.1 } r.2.2) s

/-- MEM_GRANT (R192). -/
def execMemGrant (h : FdHdr) (first count : Nat) (s : State) : Answer := act answers (memGrant h first count) s

/-- MEM_RECLAIM (R190). Log 35 (DEDUCED). -/
def memReclaim (h : FdHdr) (first count : Nat) (s : State) : State :=
  frontDesk h 0x11 (extBad h count) (fun s =>
    let r := eachExtent reclaimOne first count s
    fdAnswer h 0x11 { result := r.1, stopAt := r.2.1 } r.2.2) s

/-- MEM_RECLAIM (R190). -/
def execMemReclaim (h : FdHdr) (first count : Nat) (s : State) : Answer := act answers (memReclaim h first count) s

/-- RECLAIM_DONE: the last valid bit is cleared and the extent is FREE (R190). Log 35 (DEDUCED), 191 (DESIGN CHOICE). -/
def reclaimDone (e : Nat) (s : State) : State :=
  match mfind s.mem.extents e with
  | some x =>
    if x.st = .reclaiming then
      raise 1 4 (putExt e none { s with mem := clearBlocks s.mem (e * 262144) 262144 })
    else s
  | none => s

/-- The code of a state (R188). -/
def extCode : ExtSt → Nat
  | .absent => 0 | .free => 1 | .granted => 2 | .reclaiming => 3 | .offline => 4 | .system => 5

/-- The two bytes of MEM_QUERY for an extent (R192). -/
def extentBytes (s : State) (e : Nat) : List Byte :=
  let x := extOf s e
  match x.owner with
  | some rm => [BitVec.ofNat 8 (extCode x.st * 32 + 16), BitVec.ofNat 8 rm]
  | none => [BitVec.ofNat 8 (extCode x.st * 32), 0]

/-- MEM_QUERY (R192). -/
def memQuery (h : FdHdr) (first count : Nat) (s : State) : State :=
  frontDesk h 0x12 (fun s => firstBadOf [(!isInn s h.fn, 6), (badResultAddr s h, 5), (count = 0 || 4096 < count, 4)]) (fun s =>
    fdResult h ((List.range count).flatMap (fun i => extentBytes s (first + i))) (fun c s => fdAnswer h 0x12 { result := c } s) s) s

/-- MEM_QUERY (R192). -/
def execMemQuery (h : FdHdr) (first count : Nat) (s : State) : Answer := act dataAccess (memQuery h first count) s

/-! ## Harbour units -/

/-- Units of a die lost to one bank in the general carve-out (R1071). -/
def bankUnits (l : Nat) : Nat := if l = 8 then 16 else if 9 ≤ l ∧ l < 32 then 80 else 0

/-- The general capacity of a die: 1,856 units less those of FATAL banks and of groups that are not ON (R195). Log 202 (DESIGN CHOICE). -/
def dieCap (s : State) (d : Nat) : Nat :=
  let lost := (List.range 32).map (fun l =>
    if (mget s.errs.latches (16 + 32 * d + l) {}).st = 2 || (12 ≤ l && (mget s.doms (128 + 8 * d + l / 4) {}).st != 2)
    then bankUnits l else 0)
  1856 - lost.foldl (· + ·) 0

/-- Units that a room reserves on a die. -/
def Room.resv (r : Room) (d : Nat) : Nat := if d = 0 then r.resv0 else r.resv1

/-- The sum of the room reservations on a die. -/
def resvSum (s : State) (d : Nat) : Nat := s.rooms.foldl (fun a p => a + p.2.resv d) 0

/-- The transit pool of a die (object 0x3001). -/
def transitPool (s : State) (d : Nat) : Nat := obj s 0x3001 (d + 1) 256

/-- The key of a die's waiters for a pool: a room, or 256 for the transit pool. -/
def poolKey (d pool : Nat) : Nat := d * 512 + pool

/-- When a reservation is raised, waiters it now holds join the order as its newest (R198, R1141). -/
def rejoin (old new : Nat) (l : List HarbourWait) : List HarbourWait :=
  l.filter (fun w => w.units ≤ old || new < w.units) ++ l.filter (fun w => !(w.units ≤ old || new < w.units))

/-- A lowered reservation that a waiting command's need exceeds is recorded, like one that a new asker exceeds (R198). -/
def starveCheck (d rm units : Nat) (s : State) : State :=
  match (mget s.mem.waits (poolKey d rm) []).find? (fun w => decide (units < w.units)) with
  | none => s
  | some w =>
    if s.mem.starved.contains (poolKey d rm) then s
    else
      let r := ledgerRoom rm { kind := 0x24, d0 := w.units } (raise 1 0 { s with mem := { s.mem with starved := sadd s.mem.starved (poolKey d rm) } })
      { ledgerOnly s r with mem := r.mem }

/-- HARBOUR_RESERVE: R194, R195, R198, R199. -/
def harbourReserve (h : FdHdr) (die units : Nat) (s : State) : State :=
  frontDesk h 0x13 (fun s => firstBadOf
      [(!isInn s h.fn, 6), (1 < die || (units ≠ 0 && units < 16) || 1856 < units, 4)]) (fun s =>
    let old := (room s h.room).resv die
    let sum := resvSum s die + transitPool s die
    if (room s h.room).st = .free then fdAnswer h 0x13 { result := 0x12 } s
    else if old < units && dieCap s die < sum + units - old then fdAnswer h 0x13 { result := 0x14 } s
    else
      fdAnswer h 0x13 {} (starveCheck die h.room units
        { modRoom h.room (fun r => if die = 0 then { r with resv0 := units } else { r with resv1 := units }) s with
          mem := { s.mem with
            waits := mmod s.mem.waits (poolKey die h.room) [] (rejoin old units)
            starved := if old < units then sdel s.mem.starved (poolKey die h.room) else s.mem.starved } })) s

/-- HARBOUR_RESERVE (R194). -/
def execHarbourReserve (h : FdHdr) (die units : Nat) (s : State) : Answer := act (answers ++ [.rooms]) (harbourReserve h die units) s

/-! ## The copy engines -/

/-- What makes a copy command malformed: DPA_MODE on a room's list (R202), a bad operand (R254), a LENGTH above 2⁴⁰ (R203). Log 24 (DEDUCED). -/
def copyBad (h : CmdHdr) (addrs : List Nat) (len : Nat) (dpaMode : Bool) (s : State) (r : Room) : Option Nat :=
  firstBadOf [(dpaMode && !isInn s h.fn, 6), (!dpaMode && addrs.any (fun a => operand r a == .bad), 5), (2 ^ 40 < len, 4)]

/-- End a copy that stopped at an offset: what lies before it is done (R207). Log 34 (DEDUCED). -/
def copyStop (c : DCtx) (a : Nat) (e : DErr × Nat) (s : State) : CEnd × State := (stopEnd e, stopEff c a e s)

/-- The lesser of two stops; `true` when it is the first. -/
def earlier (a b : Option (DErr × Nat)) : Option (Bool × (DErr × Nat)) :=
  match a, b with
  | none, none => none
  | some x, none => some (true, x)
  | none, some y => some (false, y)
  | some x, some y => if y.2 < x.2 then some (false, y) else some (true, x)

/-- Write bytes at a destination; every whole 4 KiB destination block whose source block has a clear valid bit gets a clear one instead
(R205). `clear` names those blocks by their offset. Log 34 (DEDUCED). -/
def copyBlocks (c : DCtx) (dst : Nat) (data : List Byte) (clear : Nat → Bool) : Nat → Nat → State → State
  | 0, _, s => s
  | n + 1, off, s =>
    if data.length ≤ off then s
    else
      let k := Nat.min (4096 - (dst + off) % 4096) (data.length - off)
      let s1 :=
        if k = 4096 && clear off then
          (match (resolve s c (dst + off) 4096 .write).1 with
          | [g] =>
            (match g.loc with
            | .dev d => dataOnly s { mapUse d 4096 (resolveLines d 4096 (useSeg c (dst + off) g s)) with mem := clearBlocks s.mem (d / 4096) 1 }
            | .host _ _ => writeEff c (dst + off) ((data.drop off).take k) s)
          | _ => writeEff c (dst + off) ((data.drop off).take k) s)
        else writeEff c (dst + off) ((data.drop off).take k) s
      copyBlocks c dst data clear n (off + k) s1

/-- Whether the source block at an offset lies in device memory, aligned, with a clear valid bit (R205); the blocks of the chart pool and the window
table hold their entries. Log 189 (DEDUCED). -/
def srcClear (s : State) (c : DCtx) (src off : Nat) : Bool :=
  match (resolve s c (src + off) 4096 .read).1 with
  | [g] => (match g.loc with
    | .dev d => g.len = 4096 && d % 4096 = 0 && !s.mem.valid.contains (d / 4096) && !(decide (0x3C000000 ≤ d) && decide (d < 0x40000000))
    | .host _ _ => false)
  | _ => false

/-- COPY_MOVE as a copy through a separate buffer (R201, R204 to R207). Log 24 (DEDUCED). -/
def copyMove (c : DCtx) (dst src len : Nat) (s : State) : CEnd × State :=
  let rc := { c with acc := 5 }
  let wc := { c with acc := 6 }
  let run := fun (n : Nat) (s : State) =>
    let data := peekData s rc src n .read
    copyBlocks wc dst data (srcClear s rc src) (n / 4096 + 2) 0 (readEff rc src n s)
  match earlier (readStop s rc src len) (writeStop s wc dst len) with
  | none => ({ bytes := len }, run len s)
  | some (rd, e) =>
    if e.1.waits then (stopEnd e, stopEff (if rd then rc else wc) (if rd then src else dst) e s)
    else copyStop (if rd then rc else wc) (if rd then src else dst) e (run e.2 s)

/-- COPY_MOVE (R201). -/
def execCopyMove (h : CmdHdr) (dst src len : Nat) (dpaMode : Bool) (s : State) : Answer :=
  act transfers (engine h 0x20 6 (copyBad h [dst, src] len dpaMode) (withPins [dst, src] (fun r s =>
    copyMove { cmdCtx s h r with dpa := dpaMode } dst src len s))) s

/-- The first n bytes of a 64-bit pattern repeated, starting with its byte 0 (R201). -/
def patternBytes (p : Word) (n : Nat) : List Byte := (List.range n).map (fun i => BitVec.ofNat 8 (p.toNat / 2 ^ (8 * (i % 8))))

/-- COPY_FILL (R201). Log 24 (DEDUCED). -/
def copyFill (c : DCtx) (dst len : Nat) (p : Word) (s : State) : CEnd × State :=
  match writeStop s c dst len with
  | none => ({ bytes := len }, writeEff c dst (patternBytes p len) s)
  | some e =>
    if e.1.waits then copyStop c dst e s else copyStop c dst e (writeEff c dst (patternBytes p e.2) s)

/-- COPY_FILL (R201). -/
def execCopyFill (h : CmdHdr) (dst len : Nat) (dpaMode : Bool) (pattern : Word) (s : State) : Answer :=
  act transfers (engine h 0x21 6 (copyBad h [dst] len dpaMode) (withPins [dst] (fun r s =>
    copyFill { cmdCtx s h r with dpa := dpaMode, acc := 6 } dst len pattern s))) s

/-- A piece of a COPY_ZERO: whole 4 KiB blocks lose their valid bits, the rest is written zero (R206, R184). -/
def zeroSeg (g : Seg) (s : State) : State :=
  match g.loc with
  | .host p a => hostWrite p a (List.replicate g.len 0) true s
  | .dev a =>
    let s := resolveLines a g.len s
    let b0 := (a + 4095) / 4096
    let b1 := (a + g.len) / 4096
    if b0 < b1 then
      let s1 := if a < b0 * 4096 then devWrite a (List.replicate (b0 * 4096 - a) 0) s else s
      let s2 : State := { mapUse (b0 * 4096) ((b1 - b0) * 4096) s1 with mem := clearBlocks s1.mem b0 (b1 - b0) }
      if b1 * 4096 < a + g.len then devWrite (b1 * 4096) (List.replicate (a + g.len - b1 * 4096) 0) s2 else s2
    else devWrite a (List.replicate g.len 0) s

/-- What a piece meets when COPY_ZERO clears it: only the partly covered blocks are written. -/
def zeroBad (s : State) (g : Seg) : Option (DErr × Nat) :=
  match g.loc with
  | .host _ _ => none
  | .dev a =>
    if anyFrozen s a g.len then some (.held, 0)
    else
      let b0 := (a + 4095) / 4096
      let b1 := (a + g.len) / 4096
      if b0 < b1 then
        (lowBad (firstBadW s a (b0 * 4096 - a)) (lowBad ((firstAbsent s a g.len).map Bad.absent)
          (lowBad (lowBad (deadAt s a g.len) (mapAt s a g.len)) (firstBadW s (b1 * 4096) (a + g.len - b1 * 4096))))).map (fun b => (DErr.bad b, b.addr - a))
      else (firstBadW s a g.len).map (fun b => (DErr.bad b, b.addr - a))

/-- Cut the pieces of a range off at a length. -/
def cutSegs (n : Nat) (l : List Seg) : List Seg :=
  (l.filter (fun g => g.off < n)).map (fun g => { g with len := Nat.min g.len (n - g.off) })

/-- COPY_ZERO (R201, R206). Log 24 (DEDUCED). -/
def copyZero (c : DCtx) (dst len : Nat) (s : State) : CEnd × State :=
  let r := resolve s c dst len .write
  let run := fun (n : Nat) (s : State) =>
    dataOnly s ((cutSegs n r.1).foldl (fun s g => zeroSeg g (useSeg c dst g s)) s)
  match firstStop (zeroBad s) r.1 r.2 with
  | none => ({ bytes := len }, run len s)
  | some e => if e.1.waits then copyStop c dst e s else copyStop c dst e (run e.2 s)

/-- COPY_ZERO (R206). -/
def execCopyZero (h : CmdHdr) (dst len : Nat) (dpaMode : Bool) (s : State) : Answer :=
  act transfers (engine h 0x22 6 (copyBad h [dst] len dpaMode) (withPins [dst] (fun r s =>
    copyZero { cmdCtx s h r with dpa := dpaMode, acc := 6 } dst len s))) s

/-! ## Freeze and drain -/

/-- Change device memory. -/
def modMem (f : DevMem → DevMem) (s : State) : State := { s with mem := f s.mem }

/-- Whether a unit stays frozen for good: a Harbour bank in FATAL of the general carve-out alone (R975). -/
def frozenForGood (s : State) (u : Nat) : Bool :=
  decide (16 ≤ u) && (mget s.errs.latches u {}).st == 2 && !bankVital (u - 16) && (bankPorts (u - 16)).isEmpty

/-- A unit's FREEZE bit takes a value: set, the unit grants no new access (R211); cleared, DRAINED clears with it (R214). Units are tier controllers 0
to 15 and Harbour banks 16 to 79. -/
def freezeBit (on : Bool) (u : Nat) (s : State) : State :=
  if on then
    (if s.mem.frozen.contains u then s
    else modMem (fun m => { m with frozen := sadd m.frozen u, frozenAt := mset m.frozenAt u (elapsed s) }) s)
  else if frozenForGood s u then s
  else modMem (fun m => { m with
    frozen := sdel m.frozen u, drained := sdel m.drained u, frozenLong := sdel m.frozenLong u, frozenAt := mdel m.frozenAt u }) s

/-- A write of FREEZE bits: of the n units from base on, by the bits of a value, in a block that is armed or not (R1054, R1055). -/
def freezeWrite (base n : Nat) (v : Nat) (s : State) : State :=
  if armed s 1 then disarm 1 ((List.range n).foldl (fun s i => freezeBit (nbit v i == 1) (base + i) s) s)
  else if (List.range n).all (fun i => s.mem.frozen.contains (base + i) == (nbit v i == 1)) then s
  else silent s

/-- The FREEZE bits of the register that holds a unit's, with that unit's set or cleared: the first unit, how many, and the bits. -/
def freezeBits (s : State) (u : Nat) (on : Bool) : Nat × Nat × Nat :=
  let base := if u < 16 then 0 else 16
  let n := if u < 16 then 16 else 64
  (base, n, (List.range n).foldl (fun a i => a + b2n (if base + i = u then on else s.mem.frozen.contains (base + i)) * 2 ^ i) 0)

/-- FREEZE set by the Innkeeper: the bits of the other units as they stand (R211). -/
def freezeSet (fn unit : Nat) (s : State) : State :=
  if !isInn s fn || 80 ≤ unit then s
  else let b := freezeBits s unit true; freezeWrite b.1 b.2.1 b.2.2 s

/-- FREEZE_SET (R211). -/
def execFreezeSet (fn unit : Nat) (s : State) : Answer := act [.cnt, .arms, .mem] (freezeSet fn unit) s

/-- UNIT_DRAINED (R211). -/
def unitDrained (unit : Nat) (s : State) : State :=
  if s.mem.frozen.contains unit then modMem (fun m => { m with drained := sadd m.drained unit }) s else s

/-- UNIT_DRAINED (R211). -/
def execUnitDrained (unit : Nat) (s : State) : Answer := act [.mem] (unitDrained unit) s

/-- FREEZE_LONG: one record after 100 µs, and the unit stays frozen (R213). -/
def freezeLong (unit : Nat) (s : State) : State :=
  if s.mem.frozen.contains unit && !s.mem.frozenLong.contains unit && reached (mget s.mem.frozenAt unit 0 + 1600000#64) (elapsed s) then
    ledgerInn { kind := 0x23, unit := 0x100 + unit, object := unit, d0 := unit }
      (raise 1 1 (modMem (fun m => { m with frozenLong := sadd m.frozenLong unit }) s))
  else s

/-- FREEZE_LONG (R213). -/
def execFreezeLong (unit : Nat) (s : State) : Answer := act reports (freezeLong unit) s

/-- FREEZE cleared by the Innkeeper: DRAINED clears with it (R214). A Harbour bank lost to the general carve-out stays frozen (R975). Log 192 (DESIGN CHOICE). -/
def freezeClear (fn unit : Nat) (s : State) : State :=
  if !isInn s fn || 80 ≤ unit then s
  else let b := freezeBits s unit false; freezeWrite b.1 b.2.1 b.2.2 s

/-! ## Downstream expanders -/

/-- Change a downstream port. -/
def modDs (d : Nat) (f : DsPort → DsPort) (s : State) : State := { s with ds := mmod s.ds d {} f }

/-- DS_PORT_ENUMERATE: what a port that trains finds, at start-up or after DS_ENABLE was written 0 and then 1, by the code of R167 (0 nothing, 2 a Type 3
expander at 32 GT/s or more, 4 anything else), and its capacity (R165, R166); there is no hot-plug (R164). Log 201 (DESIGN CHOICE). -/
def dsPortEnumerate (d found capacity : Nat) (s : State) : State :=
  if 4 ≤ d || (mget s.ds d {}).st ≠ 1 then s
  else
    let s1 := modDs d (fun p => { p with st := if found = 0 then 0 else if found = 2 then 2 else 4, capacity := if found = 2 then capacity else 0 }) s
    if found = 2 && 2 ^ 40 < capacity then ledgerInn { kind := 0x0D, unit := 0x208 + d, object := d, d0 := capacity } s1 else s1

/-- DS_PORT_ENUMERATE (R165). -/
def execDsPortEnumerate (ds found capacity : Nat) (s : State) : Answer := act (reports ++ [.ds]) (dsPortEnumerate ds found capacity) s

/-- DS_LINK_FAIL: the link fails, or the expander returns poison for its whole range; the extents go OFFLINE (R168, R190). Log 36 (DEDUCED). -/
def dsLinkFail (d : Nat) (poison : Bool) (s : State) : State :=
  if (mget s.ds d {}).st = 2 then
    let s1 := modDs d (fun p => { p with st := if poison then 2 else 3, offline := true }) s
    if (mget s.ds d {}).offline then s1
    else ledgerInn { kind := 0x0E, severity := 2, unit := 0x208 + d, object := d, d0 := 2048 + 1024 * d } (raise 1 3 s1)
  else s

/-- DS_LINK_FAIL (R168). -/
def execDsLinkFail (ds : Nat) (poison : Bool) (s : State) : Answer := act (reports ++ [.ds]) (dsLinkFail ds poison) s

/-- DS_LINK_RETURN: the range stays offline (R169). Log 36 (DEDUCED). -/
def dsLinkReturn (d : Nat) (s : State) : State :=
  if (mget s.ds d {}).st = 3 then modDs d (fun p => { p with st := 2 }) s else s

/-- DS_LINK_RETURN (R169). -/
def execDsLinkReturn (ds : Nat) (s : State) : Answer := act [.ds] (dsLinkReturn ds) s

/-- What an expander that was offline holds again: its blocks may return other values (R191), so each byte whose valid bit is set is free. Log 167 (DESIGN CHOICE). -/
def loseContents (d : Nat) (s : State) : State :=
  let bs := s.mem.valid.filter (fun b => decide (b * 4096 / 2 ^ 40 = d + 2))
  if !(mget s.ds d {}).offline || bs = [] then s
  else
    useFresh { s with mem := { s.mem with
      cells := bs.foldl (fun m b => cellSets m (b * 4096)
        ((List.range 4096).map (fun i => (Config.unpredictable s.free (b * 4096 + i)).setWidth 8))) s.mem.cells } }

/-- DS_ENABLE 0 then 1: with the expander Up again its extents return with their owners and valid bits (R169, R190); a port that found no expander
trains again, and one that it finds now makes its extents FREE (R190). Log 200 (DESIGN CHOICE). -/
def dsEnableCycle (d : Nat) (up : Bool) (s : State) : State :=
  if 4 ≤ d || !up || (mget s.doms (112 + d) {}).st ≠ 2 then s
  else
    match (mget s.ds d {}).st with
    | 0 => modDs d (fun p => { p with st := 1 }) s
    | 1 => s
    | 4 => modDs d (fun p => { p with st := 1 }) s
    | _ => modDs d (fun p => { p with st := 2, offline := false }) (loseContents d s)

/-- DS_ENABLE_CYCLE (R169). -/
def execDsEnableCycle (ds : Nat) (up : Bool) (s : State) : Answer := act [.free, .mem, .ds] (dsEnableCycle ds up) s

end Sys2Proof.Machine
end

