-- ==== Sys2Proof/Machine/HostPort.lean ====
section
/-! DEFINITION. Host ports: link up, HOLD and its end (R121 to R124, R133, R156), the CXL.mem window and page bias (R132 to R144). -/

namespace Sys2Proof.Machine

open Sys2Proof

/-- Base of the counters of a host port's block. -/
def hpBase (p : Nat) : Nat := 0x280000 + 0x1000 * p

/-- DEGRADED (R122). -/
def linkDegraded (rate width : Nat) : Bool := decide (rate < 5) || decide (width < 16)

/-- A width that a port trains at (R121). Log 205 (DEDUCED). -/
def widthOk (w : Nat) : Bool := w == 16 || w == 8 || w == 4

/-- The encoding at a rate: flit mode at 64 and 128 GT/s, as the partner offers at 32 GT/s, and none below (R121). -/
def flitAt (rate : Nat) (offered : Bool) : Bool := decide (6 ≤ rate) || (rate == 5 && offered)

/-- HOST_LINK_UP: the link reaches L0 and the functions enumerate; the PF is enabled with the settings the host gives it (R156,
R121 to R124, R132, R133). Rates are the codes of R170. Log 118 (PRESUMED), 205 (DEDUCED), 207 (DESIGN CHOICE). -/
def hostLinkUp (p rate width : Nat) (flit cxl : Bool) (cfg : HostCfg) (s : State) : State :=
  let h := hport s p
  if 8 ≤ p || h.st ≠ .down || !h.detect || (mget s.doms (104 + p) {}).st ≠ 2 || !lcLases s then s
  else if rate = 0 || obj s 0x2002 (p + 1) 7 < rate || !widthOk width then s
  else
    let want := objF s 0x2000 (p + 1) 0 == 1
    let on := want && cxl && decide (5 ≤ rate)
    let s1 := modHport p (fun h => { h with
      st := .up, rate := rate, width := width, flit := flitAt rate flit, cxl := on, degraded := linkDegraded rate width,
      held := [], winEnable := false, winBusy := false, shared := [], vfEnable := false, numVfs := 0,
      mps := cfg.mps, mrrs := cfg.mrrs, lowLatency := on && decide (6 ≤ rate) && cfg.lowLatency, hdm := if on then cfg.hdm else none }) s
    let s2 := modFunc (fnOf p 0) (fun f => { f with
      enabled := s.power.started, cfg := cfg, msgs := [], masked := [], pend := [] }) s1
    if want && !on then raise (16 + p) 5 s2 else s2

/-- HOST_LINK_UP (R156). -/
def execHostLinkUp (port rate width : Nat) (flit cxl : Bool) (cfg : HostCfg) (s : State) : Answer :=
  act interrupts (hostLinkUp port rate width flit cxl cfg) s

/-- A port in HOLD keeps an admitted packet of a window: it waits at its QP until the port leaves HOLD (R266, R270). Log 32 (DEDUCED). -/
def winHeld (s : State) (i : Nat) : Bool :=
  s.qps.any (fun q => (hport s (fnPort q.2.fn)).st == .hold && q.2.deferred.any (fun d => d.adm == some i))

/-- A revocation that meets admitted packets held by a port in HOLD completes with REVOKE_HELD (R270). -/
def markHeld (s : State) : State :=
  { s with windows := s.windows.map (fun w => if w.2.st = 2 && winHeld s w.1 then (w.1, { w.2 with heldSeen := true }) else w) }

/-- RETRAIN_HELD: UP ends in HOLD (R156). -/
def retrainHeld (p : Nat) (s : State) : State :=
  if (hport s p).st = .up then
    let s1 := markHeld (modHport p (fun h => { h with st := .hold }) s)
    let s2 := if s1.windows = s.windows then s1 else raise 3 1 s1
    raise (16 + p) 0 (bump (hpBase p + 0x20) s2)
  else s

/-- RETRAIN_HELD (R156). -/
def execRetrainHeld (port : Nat) (s : State) : Answer := act (interrupts ++ [.cnt, .windows]) (retrainHeld port) s

/-- An admission ends when its write is accepted onto the host link or discarded (R266, R271). -/
def admitEnd (w : Nat) (s : State) : State :=
  { s with windows := (match mfind s.windows w with
      | some x => mset s.windows w { x with admitted := x.admitted - 1 }
      | none => s.windows) }

/-- One thing that a port in HOLD kept goes onto the link (R156, R234). Log 32 (DEDUCED). -/
def replay (p : Nat) (h : Held) (s : State) : State :=
  match h with
  | .write a data ro => hostWrite p a data ro s
  | .msix fn v => emit (msixMsg s fn v) s
  | .invalidation fn tag => emit (.invalidated fn tag) s

/-- The zero-length reads of the Seawalls that began while a port was in HOLD are issued behind what it kept (R151, R153). -/
def wallReads (p : Nat) (s : State) : State :=
  { s with
    seawalls := s.seawalls.map (fun w => { w with unread := w.unread.filter (fun x => x != p) })
    out := ((s.seawalls.filter (fun w => w.unread.contains p)).map (fun w => Out.zeroRead p w.room false)).reverse ++ s.out }

/-- RETRAIN_RESUMED: held writes resume in order (R156); a changed rate or width is reported (R171); a port in CXL mode that comes back below
32 GT/s runs as plain PCIe (R133, R174). Log 186 (DEDUCED). -/
def retrainResumed (p rate width : Nat) (flit : Bool) (s : State) : State :=
  let h := hport s p
  if h.st = .hold && decide (rate ≠ 0) && decide (rate ≤ obj s 0x2002 (p + 1) 7) && widthOk width then
    let s1 := modHport p (fun h => { h with
      st := .up, rate := rate, width := width, flit := flitAt rate flit, cxl := h.cxl && decide (5 ≤ rate),
      lowLatency := h.lowLatency && decide (6 ≤ rate), degraded := linkDegraded rate width, held := [] }) s
    let s2 := wallReads p (h.held.foldl (fun s x => replay p x s) s1)
    let s3 := if rate ≠ h.rate || width ≠ h.width then raise (16 + p) 6 s2 else s2
    let s4 := if h.cxl && decide (rate < 5) then raise (16 + p) 5 s3 else s3
    raise (16 + p) 1 s4
  else s

/-! ## The CXL.mem window -/

/-- The room that owns the extent of a DPA, when it is a room of the port's functions (R136) and not quarantined (R159). Log 187 (DESIGN CHOICE). -/
def windowRoom (s : State) (p a : Nat) : Option Nat :=
  if 0x60000000000 ≤ a then none
  else
    match extOf s (a / 2 ^ 30) with
    | { st := st, owner := some rm } =>
      if (st == .granted || st == .offline) && fnPort (room s rm).fn == p && (room s rm).st != .quarantined then some rm else none
    | _ => none

/-- One line of a host access at an offset of the window: R135 to R137, R141, R965. A read asks for as many bytes as `data` holds; a frozen unit makes it
wait. -/
def cxlmemLine (p off : Nat) (write : Bool) (data : List Byte) (s : State) : State :=
  let h := hport s p
  let zeros := if write then s else emit (.hostData p false (List.replicate data.length 0)) s
  if !h.winEnable then zeros
  else
    let a := h.winBase * 2 ^ 30 + off
    let n := data.length
    match windowRoom s p a with
    | none => zeros
    | some rm =>
      if anyFrozen s a n then s
      else
        let s1 := modHport p (fun h => { h with shared := sadd h.shared (off / 2 ^ 21) }) s
        let acc : Access := { code := 11, about := some rm }
        if write then
          (match writeMem acc a data s1 with | .ok s2 => s2 | .error s2 => s2)
        else
          match readMem acc a n s1 with
          | .ok r => emit (.hostData p false r.1) r.2
          | .error s2 => emit (.hostData p true (List.replicate n 0)) s2

/-- HOST_CXLMEM_ACCESS: the lines of an access, in ascending order, that the HDM decoder of 64 GiB decodes (R132, R135, R174). Log 31 (DESIGN CHOICE). -/
def hostCxlmem (p addr : Nat) (write : Bool) (data : List Byte) (s : State) : State :=
  let h := hport s p
  match h.hdm with
  | none => s
  | some base =>
    if h.st ≠ .up || !h.cxl || data = [] then s
    else ((cutGo 64 (data.length / 64 + 2) addr data.length).filter (fun x => decide (base ≤ x.1) && decide (x.1 < base + 2 ^ 36))).foldl
      (fun s x => cxlmemLine p (x.1 - base) write ((data.drop (x.1 - addr)).take x.2) s) s

/-- HOST_CXLMEM_ACCESS (R135). -/
def execHostCxlmemAccess (port addr : Nat) (write : Bool) (data : List Byte) (s : State) : Answer :=
  act (dataAccess ++ [.lists, .tilesHalted, .rooms]) (hostCxlmem port addr write data) s

/-- HOST_SNOOP: answered RspIHitI (R132). Log 30 (DESIGN CHOICE). -/
def hostSnoop (p : Nat) (s : State) : State := if (hport s p).st = .up && (hport s p).cxl then emit (.snoopResp p) s else s

/-- HOST_SNOOP (R132). -/
def execHostSnoop (port _addr : Nat) (s : State) : Answer := act [.out] (hostSnoop port) s

/-- BIAS_DEVICE: RdOwnNoData on every line of a shared page (R143); a page that is device-owned already needs none. Log 31 (DESIGN CHOICE). -/
def biasDevice (h : FdHdr) (page : Nat) (s : State) : State :=
  frontDesk h 0x30 (fun s => firstBadOf
      [(fnSlot h.fn != 0 || !(hport s (fnPort h.fn)).cxl, 6), (32768 ≤ page, 4)]) (fun s =>
    if (hport s (fnPort h.fn)).shared.contains page then
      emit (.rdOwn (fnPort h.fn) page) (fdHold h 0x30 (.bias page) s)
    else fdAnswer h 0x30 {} s) s

/-- BIAS_DEVICE (R143). -/
def execBiasDevice (h : FdHdr) (page : Nat) (s : State) : Answer := act answers (biasDevice h page) s

/-- BIAS_DEVICE_DONE: the page is device-owned and the command completes (R143). -/
def biasDeviceDone (fn : Nat) (s : State) : State :=
  match (func s fn).fd.running with
  | some (h, op, .bias page) =>
    fdAnswer h op {} (modHport (fnPort fn) (fun x => { x with shared := sdel x.shared page }) s)
  | _ => s

/-- BIAS_DEVICE_DONE (R143). -/
def execBiasDeviceDone (fn : Nat) (s : State) : Answer := act answers (biasDeviceDone fn) s

/-- MEMWIN_ENABLE: every page is device-owned (R140). -/
def memwinEnable (fn p : Nat) (s : State) : State :=
  if !isInn s fn then s
  else disarm (16 + p) (modHport p (fun h =>
    if h.winEnable then h else { h with winEnable := true, shared := [] }) s)

/-- MEMWIN_ENABLE (R140). -/
def execMemwinEnable (fn port : Nat) (s : State) : Answer := act [.arms, .hports] (memwinEnable fn port) s

/-- MEMWIN_DISABLE: the sweep of the shared pages starts (R144); with none shared the window disables at once. -/
def memwinDisable (fn p : Nat) (s : State) : State :=
  if !isInn s fn then s
  else
    let h := hport s p
    let s1 := disarm (16 + p) (modHport p (fun h => { h with
      winEnable := false, winBusy := h.winBusy || (h.winEnable && !h.shared.isEmpty) }) s)
    if h.winEnable then h.shared.foldl (fun s pg => emit (.rdOwn p pg) s) s1 else s1

/-- MEMWIN_DISABLE (R144). -/
def execMemwinDisable (fn port : Nat) (s : State) : Answer := act (interrupts ++ [.arms]) (memwinDisable fn port) s

/-- MEMWIN_SWEEP_DONE: the last page is device-owned and BUSY clears (R144); pages that the host shares since the window was enabled again stay so (R140). -/
def memwinSweepDone (p : Nat) (s : State) : State :=
  if (hport s p).winBusy then modHport p (fun h => { h with winBusy := false, shared := if h.winEnable then h.shared else [] }) s else s

/-- MEMWIN_SWEEP_DONE (R144). -/
def execMemwinSweepDone (port : Nat) (s : State) : Answer := act [.hports] (memwinSweepDone port) s

/-- MEMWIN_BASE_WRITE: an armed write is accepted only while ENABLE and BUSY are 0 (R138, R1054, R1055); any 18-bit BASE is, and what it puts outside tiers
0 to 2 reads as R136 gives for unallocated memory. Log 187 (DESIGN CHOICE). -/
def memwinBaseWrite (fn p base : Nat) (s : State) : State :=
  if !isInn s fn then s
  else
    let h := hport s p
    if armed s (16 + p) then
      disarm (16 + p) (if h.winEnable || h.winBusy then s else modHport p (fun h => { h with winBase := base % 2 ^ 18 }) s)
    else if h.winBase = base % 2 ^ 18 then s
    else silent s

/-- MEMWIN_BASE_WRITE (R138). -/
def execMemwinBaseWrite (fn port base : Nat) (s : State) : Answer := act [.cnt, .arms, .hports] (memwinBaseWrite fn port base) s

end Sys2Proof.Machine
end

