-- ==== Sys2Proof/Machine/Translate.lean ====
section
/-! DEFINITION. Translation and windows: ATS and page requests (R220 to R234), charts (R235 to R257), the caches (R273) and windows
(R258 to R272). A PASID operand is 0 for none, p + 1 for PASID p. -/

namespace Sys2Proof.Machine

open Sys2Proof

/-! ## Host translations -/

/-- Change an outstanding translation. -/
def modAts (q : AtsReq) (f : AtsReq → Option AtsReq) (s : State) : State :=
  { s with ats := s.ats.flatMap (fun r =>
      if r.fn = q.fn ∧ r.pasid = q.pasid ∧ r.remote = q.remote ∧ r.addr = q.addr then (f r).toList else [r]) }

/-- A translation ends in a fault, which its access takes (R252). -/
def atsFault (q : AtsReq) (code : Nat) (s : State) : State := modAts q (fun r => some { r with stage := 4, fault := code }) s

/-- How many page requests a function may have outstanding: the host's allocation, within the capacity of 256 (R230). -/
def pageCap (s : State) (fn : Nat) : Nat := Nat.min 256 (func s fn).cfg.priAlloc

/-- Send a page request, with its Last bit set, or let it wait while the host's allocation is exhausted; it times out after PRI_TIMEOUT, in µs
(R227, R229, R230). -/
def pageRequest (q : AtsReq) (s : State) : State :=
  if pageCap s q.fn ≤ (s.ats.filter (fun r => r.fn == q.fn && r.stage == 1)).length then
    modAts q (fun r => some { r with stage := 3 }) s
  else
    emit (.pageRequest q.fn q.pasid q.addr true)
      (bump (0x220118 + 0x40 * q.die) (modAts q (fun r => some { r with
        stage := 1, due := elapsed s + BitVec.ofNat 64 (obj s 0x3010 1 10000 * 16000) }) s))

/-- The oldest page request of a function that waits is sent when one has ended (R230). -/
def nextPageRequest (fn : Nat) (s : State) : State :=
  match s.ats.find? (fun r => r.fn == fn && r.stage == 3) with
  | some r => pageRequest r s
  | none => s

/-- The entry that a granted range is cached as: at most the 512 GiB aligned part that holds the address, with the translated address of its first
byte (R220, R224). `xaddr` is the translated address of the range. -/
def grantEntry (r : AtsReq) (size xaddr : Nat) (rd_ wr_ : Bool) : TEntry :=
  let n := Nat.min size (2 ^ 39)
  .host r.die r.fn r.pasid (r.addr / n * n) n (xaddr / size * size + r.addr % size / n * n) rd_ wr_

/-- TRANSLATION_COMPLETION: status 0 success, 1 Unsupported Request, else Completer Abort or malformed; no permission at all reports
the page not present (R223 to R228, R231). -/
def translationCompletion (fn pasid addr status size xaddr : Nat) (r w : Bool) (s : State) : State :=
  match s.ats.find? (fun q => q.fn == fn && q.pasid == pasid && q.addr == addr / 4096 * 4096 && (q.stage == 0 || q.stage == 2)) with
  | none => s
  | some q =>
    if status ≠ 0 then raise 2 1 (atsFault q 3 s)
    else if !r && !w then
      (if q.remote || q.stage = 2 || !(func s fn).cfg.pri then atsFault q 4 s
      else pageRequest q s)
    else if size < 2 ^ 21 then raise 2 2 (atsFault q 2 s)
    else tlbFill (grantEntry q size xaddr r w) (modAts q (fun _ => none) s)

/-- PAGE_REQUEST_RESPONSE: code 0 success, and the translation is requested again; else PRI_DENIED (R227, R228). -/
def pageRequestResponse (fn pasid addr code : Nat) (s : State) : State :=
  match atsFind s fn pasid false addr with
  | none => s
  | some q =>
    if q.stage ≠ 1 then s
    else
      nextPageRequest fn (if code = 0 then
          emit (.atsRequest fn pasid q.addr) (modAts q (fun r => some { r with stage := 2 }) s)
        else atsFault q 4 s)

/-- PRI_TIMEOUT: no response within PRI_TIMEOUT of the request (R229). Log 2 (DESIGN CHOICE). -/
def priTimeout (fn pasid addr : Nat) (s : State) : State :=
  match atsFind s fn pasid false addr with
  | none => s
  | some q => if q.stage = 1 && reached q.due (elapsed s) then nextPageRequest fn (raise 2 3 (atsFault q 5 s)) else s

/-- INVALIDATE_REQUEST: both caches lose every matching entry; the completion is owed (R233). A function queues 32 (R232); flow control holds a further
one at the host. -/
def invalidateRequest (fn pasid addr size tag : Nat) (s : State) : State :=
  if 32 ≤ (s.invals.filter (fun x => x.1 == fn)).length then s else
  let hit := fun (e : TEntry) => match e with
    | .host _ f p b n _ _ _ => f == fn && p == pasid && decide (b < addr + size) && decide (addr < b + n)
    | .chart _ _ _ _ => false
  let s1 := bump 0x220160 (bump 0x220120 (tlbPurge hit s))
  { s1 with invals := s1.invals ++ [(fn, tag)] }

/-- INVALIDATE_REQUEST (R233). -/
def execInvalidateRequest (fn pasid addr size tag : Nat) (s : State) : Answer := act [.cnt, .tcache, .invals] (invalidateRequest fn pasid addr size tag) s

/-- INVALIDATE_COMPLETION: it leaves, or waits behind the held writes of a port in HOLD (R234). -/
def invalidateCompletion (fn tag : Nat) (s : State) : State :=
  if s.invals.contains (fn, tag) then
    let s1 : State := { s with invals := s.invals.erase (fn, tag) }
    match (hport s (fnPort fn)).st with
    | .up => emit (.invalidated fn tag) s1
    | .hold => modHport (fnPort fn) (fun h => { h with held := h.held ++ [.invalidation fn tag] }) s1
    | .down => s1
  else s

/-- INVALIDATE_COMPLETION (R234). -/
def execInvalidateCompletion (fn tag : Nat) (s : State) : Answer := act (interrupts ++ [.invals]) (invalidateCompletion fn tag) s

/-! ## Charts -/

/-- The size of a leaf. Log 28 (DEDUCED). -/
def leafSize (big : Bool) : Nat := if big then 2 ^ 39 else 2 ^ 30

/-- A leaf is valid only when the room holds every extent it covers (R239). -/
def leafOwned (s : State) (rm dpa : Nat) (big : Bool) : Bool :=
  (List.range (if big then 512 else 1)).all (fun i =>
    let x := extOf s (dpa / 2 ^ 30 + i)
    x.st == .granted && x.owner == some rm)

/-- Level-1 tables in use (R236). Log 28 (DEDUCED). -/
def tablesUsed (s : State) : Nat := s.rooms.foldl (fun a p => a + p.2.tables.length) 0

/-- The free level-1 tables. -/
def freeTables (s : State) : List Nat :=
  ((List.range 7936).map (fun i => 256 + i)).filter (fun t => !s.rooms.any (fun p => p.2.tables.any (fun x => x.2 == t)))

/-- The table a new level-1 table takes: which free one is not stated (R236), a free value. Log 27 (DESIGN CHOICE). -/
def pickTable (s : State) : Nat :=
  let l := freeTables s
  l.getD ((freshVal s).toNat % l.length) 256

/-- Set one leaf, or the first condition of R243 that refuses it. -/
def chartSetOne (rm dva dpa : Nat) (big : Bool) (rights : Nat) (s : State) : Except Nat State :=
  let r := room s rm
  let z := leafSize big
  let leaf : Leaf := { dpa := dpa, write := nbit rights 2 == 1, read := nbit rights 1 == 1, atomic := nbit rights 0 == 1 }
  let i2 := dva / 2 ^ 39
  if dva % z ≠ 0 || dpa % z ≠ 0 then .error 0x20
  else if !leafOwned s rm dpa big then .error 0x13
  else if (mfind r.leaves2 i2).isSome || (if big then (mfind r.tables i2).isSome else (mfind r.leaves1 (dva / 2 ^ 30)).isSome) then .error 0x21
  else if big then .ok (modRoom rm (fun r => { r with leaves2 := mset r.leaves2 i2 leaf }) s)
  else if (mfind r.tables i2).isSome then .ok (modRoom rm (fun r => { r with leaves1 := mset r.leaves1 (dva / 2 ^ 30) leaf }) s)
  else if 7936 ≤ tablesUsed s || r.quotas.chartTable ≤ r.tables.length then .error 0x22
  else .ok (useFresh (modRoom rm (fun r => { r with
      tables := mset r.tables i2 (pickTable s), leaves1 := mset r.leaves1 (dva / 2 ^ 30) leaf }) s))

/-- Act on consecutive leaves, stopping at the first that cannot change: the result, the DVA reported and whether any changed (R242). -/
def eachLeaf (f : Nat → State → Except Nat State) (z : Nat) : Nat → Nat → State → Nat × Nat × State
  | _, 0, s => (0, 0, s)
  | i, n + 1, s =>
    match f i s with
    | .error c => (c, z * i, s)
    | .ok s1 => eachLeaf f z (i + 1) n s1

/-- Run a front desk command on the room it names; a FREE room answers NO_ROOM. -/
def onRoom (h : FdHdr) (op : Nat) (f : Nat → State → State) (s : State) : State :=
  match fdRoom s h with
  | none => fdAnswer h op { result := 0x12 } s
  | some rm => f rm s

/-- CHART_SET: R241 to R244. -/
def chartSet (h : FdHdr) (dva dpa : Nat) (big : Bool) (count rights : Nat) (s : State) : State :=
  frontDesk h 0x20 (fun _ => firstBadOf
      [(2 ^ 48 ≤ dva || 2 ^ 48 ≤ dpa || 8 ≤ rights, 1),
       (count = 0 || 4096 < count || 2 ^ 48 < dva + count * leafSize big || 2 ^ 48 < dpa + count * leafSize big, 4)])
    (onRoom h 0x20 (fun rm s =>
      let z := leafSize big
      let r := eachLeaf (fun i s => chartSetOne rm (dva + z * i) (dpa + z * i) big rights s) z 0 count s
      fdAnswer h 0x20 { result := r.1, stopAt := if r.1 = 0 then 0 else dva + r.2.1 } r.2.2)) s

/-- CHART_SET (R243). -/
def execChartSet (h : FdHdr) (dva dpa : Nat) (big : Bool) (count rights : Nat) (s : State) : Answer :=
  act (answers ++ [.free, .rooms]) (chartSet h dva dpa big count rights) s

/-- Remove one leaf and purge its entries; a table whose last leaf goes is returned (R236, R245). -/
def chartClearOne (rm dva : Nat) (big : Bool) (s : State) : Except Nat State :=
  let r := room s rm
  let key := dva / leafSize big
  if dva % leafSize big ≠ 0 || (if big then (mfind r.leaves2 key).isNone else (mfind r.leaves1 key).isNone) then .error 0x23
  else
    let s1 := tlbPurge (fun e => match e with
      | .chart _ x b l => x == rm && b == big && l == key
      | .host _ _ _ _ _ _ _ _ => false) s
    .ok (modRoom rm (fun r =>
      if big then { r with leaves2 := mdel r.leaves2 key }
      else
        let l1 := mdel r.leaves1 key
        { r with leaves1 := l1, tables := if l1.any (fun p => p.1 / 512 == key / 512) then r.tables else mdel r.tables (key / 512) }) s1)

/-- CHART_CLEAR: the leaves go at once, and the command completes when the accesses through them have (R245). -/
def chartClear (h : FdHdr) (dva : Nat) (big : Bool) (count : Nat) (s : State) : State :=
  frontDesk h 0x21 (fun _ => firstBadOf
      [(2 ^ 48 ≤ dva, 1), (count = 0 || 4096 < count || 2 ^ 48 < dva + count * leafSize big, 4)])
    (onRoom h 0x21 (fun rm s =>
      let z := leafSize big
      let r := eachLeaf (fun i s => chartClearOne rm (dva + z * i) big s) z 0 count s
      fdHold h 0x21 (.chartClear r.1 (if r.1 = 0 then 0 else dva + r.2.1)) r.2.2)) s

/-- CHART_CLEAR (R245). -/
def execChartClear (h : FdHdr) (dva : Nat) (big : Bool) (count : Nat) (s : State) : Answer := act (answers ++ [.tcache, .rooms]) (chartClear h dva big count) s

/-- CHART_CLEAR_DONE (R245). -/
def chartClearDone (fn : Nat) (s : State) : State :=
  match (func s fn).fd.running with
  | some (h, op, .chartClear c at_) => fdAnswer h op { result := c, stopAt := at_ } s
  | _ => s

/-- CHART_CLEAR_DONE (R245). -/
def execChartClearDone (fn : Nat) (s : State) : Answer := act answers (chartClearDone fn) s

/-- CHART_QUERY (R241). -/
def chartQuery (h : FdHdr) (dva : Nat) (s : State) : State :=
  frontDesk h 0x22 (fun _ => firstBadOf [(2 ^ 48 ≤ dva, 1)])
    (onRoom h 0x22 (fun rm s =>
      let r := room s rm
      fdAnswer h 0x22 { epoch := r.epoch, ret := entry2 r dva, stopAt := entry1 r dva } s)) s

/-- CHART_QUERY (R241). -/
def execChartQuery (h : FdHdr) (dva : Nat) (s : State) : Answer := act answers (chartQuery h dva) s

/-- The epoch after one more CHART_EPOCH: 1 follows 65,535 (R256). -/
def nextEpoch (e : Nat) : Nat := if e = 65535 then 1 else e + 1

/-- CHART_EPOCH (R256). -/
def chartEpoch (h : FdHdr) (s : State) : State :=
  frontDesk h 0x23 (fun _ => none)
    (onRoom h 0x23 (fun rm s =>
      let e := nextEpoch (room s rm).epoch
      fdAnswer h 0x23 { epoch := e } (modRoom rm (fun r => { r with epoch := e }) s))) s

/-- CHART_EPOCH (R256). -/
def execChartEpoch (h : FdHdr) (s : State) : Answer := act (answers ++ [.rooms]) (chartEpoch h) s

/-- PURGE_ALL: both caches are empty (R273). The write uses the block's arm, since TR_CTRL holds an RWL field (R1054). -/
def execPurgeAll (fn : Nat) (s : State) : Answer :=
  act [.arms, .tcache] (fun s => if isInn s fn then disarm 2 (tlbPurge (fun _ => true) s) else s) s

/-! ## Windows -/

/-- A window table entry. -/
def window (s : State) (i : Nat) : Window := mget s.windows i {}

/-- The next index that WINDOW_OPEN takes: one never opened, then the one freed longest ago (R263). Log 26 (DEDUCED). -/
def nextWindow (s : State) : Option Nat :=
  if s.winNext < 1048576 then some s.winNext
  else match s.winFreed with | i :: _ => some i | [] => none

/-- A window's key (R258). -/
def winKey (i : Nat) (w : Window) : Nat := w.gen.toNat * 2 ^ 24 + i

/-- Windows of a room that are OPEN or REVOKING. -/
def windowsOf (s : State) (rm : Nat) : Nat := (s.windows.filter (fun p => p.2.st != 0 && p.2.room == rm)).length

/-- WINDOW_OPEN: R261 to R263. Log 25 (DEDUCED). -/
def windowOpen (h : FdHdr) (space : Bool) (base len rights : Nat) (zeroBased sealing : Bool) (pasid : Nat) (pasidValid qpBound : Bool)
    (qpn : Nat) (s : State) : State :=
  frontDesk h 0x28 (fun _ => firstBadOf [(8 ≤ rights || 2 ^ 20 ≤ pasid || 2 ^ 24 ≤ qpn, 1)])
    (onRoom h 0x28 (fun rm s =>
      if 2 ^ 40 ≤ len then fdAnswer h 0x28 { result := 0x29 } s
      else
        match nextWindow s with
        | none => fdAnswer h 0x28 { result := 0x28 } s
        | some i =>
          if (room s rm).quotas.window ≤ windowsOf s rm then fdAnswer h 0x28 { result := 0x28 } s
          else if len = 0 || (if space then 2 ^ 48 else 2 ^ 64) < base + len then fdAnswer h 0x28 { result := 0x29 } s
          else
            let w : Window := { window s i with
              st := 1, base := base, len := len, room := rm, pasid := pasid, pasidValid := pasidValid, sealed := sealing, space := space,
              rwrite := nbit rights 2 == 1, rread := nbit rights 1 == 1, atomic := nbit rights 0 == 1, zeroBased := zeroBased,
              admitted := 0, qpBound := qpBound, qpn := qpn, heldSeen := false }
            fdAnswer h 0x28 { ret := winKey i w }
              { s with
                windows := mset s.windows i w
                winNext := if s.winNext < 1048576 then s.winNext + 1 else s.winNext
                winFreed := if s.winNext < 1048576 then s.winFreed else s.winFreed.tail })) s

/-- WINDOW_OPEN (R263). -/
def execWindowOpen (h : FdHdr) (space : Bool) (base len rights : Nat) (zeroBased sealed : Bool) (pasid : Nat) (pasidValid qpBound : Bool)
    (qpn : Nat) (s : State) : Answer :=
  act (answers ++ [.windows, .winNext, .winFreed]) (windowOpen h space base len rights zeroBased sealed pasid pasidValid qpBound qpn) s

/-- The open window that a key names for a room (R1144). -/
def keyWindow (s : State) (rm key : Nat) : Option (Nat × Window) :=
  let i := key % 2 ^ 24
  let w := window s i
  if w.st = 1 && w.gen.toNat = key / 2 ^ 24 && w.room = rm then some (i, w) else none

/-- Whether a change of a window would widen it (R264). -/
def widens (w : Window) (len rights : Nat) : Bool :=
  decide (w.len < len) || (nbit rights 2 == 1 && !w.rwrite) || (nbit rights 1 == 1 && !w.rread) || (nbit rights 0 == 1 && !w.atomic)

/-- WINDOW_MODIFY: R264. -/
def windowModify (h : FdHdr) (key len rights : Nat) (s : State) : State :=
  frontDesk h 0x29 (fun _ => firstBadOf [(8 ≤ rights, 1)])
    (onRoom h 0x29 (fun rm s =>
      match keyWindow s rm key with
      | none => fdAnswer h 0x29 { result := 0x2A } s
      | some (i, w) =>
        if len = 0 || 2 ^ 40 ≤ len then fdAnswer h 0x29 { result := 0x29 } s
        else if widens w len rights then fdAnswer h 0x29 { result := 0x2B } s
        else
          fdHold h 0x29 (.windowModify i)
            { s with
              qps := s.qps.map (fun p => (p.1, { p.2 with deferred := p.2.deferred.map (fun d => if d.adm = some i then { d with old := true } else d) }))
              windows := mset s.windows i { w with
              len := len, rwrite := nbit rights 2 == 1, rread := nbit rights 1 == 1, atomic := nbit rights 0 == 1 } })) s

/-- WINDOW_MODIFY (R264). -/
def execWindowModify (h : FdHdr) (key len rights : Nat) (s : State) : Answer := act (answers ++ [.windows, .qps]) (windowModify h key len rights) s

/-- Whether a packet that a window admitted before its values changed is still outstanding: it waits at its QP (R264, R266). -/
def oldAdmitted (s : State) (i : Nat) : Bool := s.qps.any (fun p => p.2.deferred.any (fun d => d.old && d.adm == some i))

/-- WINDOW_MODIFY_DONE: the window barrier; no packet admitted before the new values is outstanding (R264, R267). -/
def windowModifyDone (fn : Nat) (s : State) : State :=
  match (func s fn).fd.running with
  | some (h, op, .windowModify i) => if oldAdmitted s i then s else fdAnswer h op {} s
  | _ => s

/-- WINDOW_MODIFY_DONE (R264). -/
def execWindowModifyDone (fn : Nat) (s : State) : Answer := act answers (windowModifyDone fn) s

/-- WINDOW_REVOKE: the generation advances and the window is REVOKING in one step (R268 to R270). -/
def windowRevoke (h : FdHdr) (key : Nat) (s : State) : State :=
  frontDesk h 0x2A (fun _ => none)
    (onRoom h 0x2A (fun rm s =>
      match keyWindow s rm key with
      | none => fdAnswer h 0x2A { result := 0x2A } s
      | some (i, w) =>
        let held := winHeld s i
        let s1 : State := { s with windows := mset s.windows i { w with gen := w.gen + 1, st := 2, heldSeen := held } }
        fdHold h 0x2A (.windowRevoke i) (if held then raise 3 1 s1 else s1))) s

/-- WINDOW_REVOKE (R268). -/
def execWindowRevoke (h : FdHdr) (key : Nat) (s : State) : Answer := act (answers ++ [.events, .windows]) (windowRevoke h key) s

/-- The function whose front desk runs a revoke of a window. -/
def revoker (s : State) (i : Nat) : Option (FdHdr × Nat) :=
  match s.funcs.find? (fun p => match p.2.fd.running with | some (_, _, .windowRevoke j) => j == i | _ => false) with
  | some p => match p.2.fd.running with | some (h, op, _) => some (h, op) | none => none
  | none => none

/-- WINDOW_REVOKE_DONE: ADMIT is zero, the window is FREE, and the revoke completes (R270). -/
def windowRevokeDone (i : Nat) (s : State) : State :=
  let w := window s i
  if w.st = 2 && w.admitted = 0 then
    let s1 := bump 0x230028 { s with windows := mset s.windows i { w with st := 0, heldSeen := false }, winFreed := s.winFreed ++ [i] }
    match revoker s i with
    | some (h, op) => fdAnswer h op { held := w.heldSeen } s1
    | none => s1
  else s

/-- WINDOW_REVOKE_DONE (R270). -/
def execWindowRevokeDone (index : Nat) (s : State) : Answer := act (answers ++ [.windows, .winFreed]) (windowRevokeDone index) s

end Sys2Proof.Machine
end

