-- ==== Sys2Proof/Machine/Rings.lean ====
section
/-! DEFINITION. Rings, doorbells, queues and the front desk (R279 to R330). The front desk's request ring is queue number 4,095 of its
function in a doorbell or a fetch, its response ring 4,094. -/

namespace Sys2Proof.Machine

open Sys2Proof

/-- A queue number of the front desk's request ring. -/
def fdReq : Nat := 4095

/-- A queue number of the front desk's response ring. -/
def fdRsp : Nat := 4094

/-- A queue that software produces (R279). -/
def QKind.software : QKind → Bool
  | .send => true
  | .recv => true
  | .engine => true
  | _ => false

/-- Change the request ring of a front desk. -/
def modReq (fn : Nat) (f : Queue → Queue) (s : State) : State := modFunc fn (fun x => { x with fd := { x.fd with req := f x.fd.req } }) s

/-- Queues of a function, by number. -/
def queuesOf (s : State) (fn : Nat) : List (Nat × Queue) :=
  (s.queues.filter (fun p => p.1 / 4096 == fn && p.2.st != .free)).map (fun p => (p.1 % 4096, p.2))

/-- Whether work fetched from a queue is outstanding: an entry that has not ended, or one whose completion is not yet written (R311 to R313). -/
def outstanding (s : State) (fn q : Nat) : Bool :=
  let k := queue s fn q
  !k.fetched.isEmpty || s.lists.any (fun r => r.fn == fn && r.queue == q) ||
    (queue s fn k.cq).held.any (fun d => fld (wordAt d 3) 27 16 == q)

/-- Whether a queue that software produces is idle: it fetches nothing more and nothing is outstanding (R313). -/
def softIdle (s : State) (fn q : Nat) : Bool := (queue s fn q).st != .active && !outstanding s fn q

/-- IDLE of a queue: for a completion queue, every queue that reports to it is idle; an event or Ledger queue fetches nothing (R313). Log 193 (DEDUCED). -/
def qIdle (s : State) (fn q : Nat) : Bool :=
  match (queue s fn q).kind with
  | .cq => (queuesOf s fn).all (fun p => !(p.2.kind.software && p.2.cq == q) || softIdle s fn p.1)
  | .eq => true
  | .ledger => true
  | _ => softIdle s fn q

/-- Whether every queue that reports to a completion or event queue is idle (R313, R314). -/
def reportersIdle (s : State) (fn q : Nat) : Bool :=
  match (queue s fn q).kind with
  | .eq => (queuesOf s fn).all (fun p => p.1 == q || !(p.2.kind != .ledger && p.2.eq == q) || qIdle s fn p.1)
  | _ => qIdle s fn q

/-- IDLE of a front desk: it takes no more entries and none runs (R299, R313). -/
def deskIdle (f : FrontDesk) : Bool := f.req.st != .active && f.running.isNone

/-! ## Doorbells -/

/-- A producer index is recorded; one beyond the capacity, or moved backwards, makes the queue's outcome unpredictable (R331). Log 68 (DESIGN CHOICE). -/
def takeProducer (i : Nat) (k : Queue) : Queue :=
  let x := BitVec.ofNat 32 i
  { k with prod := x, wild := k.wild || decide (2 ^ k.log2 < (x - k.cons).toNat) || decide ((x - k.cons).toNat < k.occupied) }

/-- PRODUCER_DOORBELL: an absolute index, recorded in every state (R291, R293, R298); a page that does not exist rejects it silently
(R290, R951). Log 68 (DESIGN CHOICE). -/
def producerDoorbell (fn q i : Nat) (s : State) : State :=
  if q = fdReq then modReq fn (takeProducer i) s
  else if (queue s fn q).st = .free then silent s
  else if (queue s fn q).kind.software then modQueue fn q (takeProducer i) s
  else s

/-- PRODUCER_DOORBELL (R293). -/
def execProducerDoorbell (fn queue index : Nat) (s : State) : Answer := act [.cnt, .funcs, .queues] (producerDoorbell fn queue index) s

/-- Whether an armed queue raises its message now: an entry lies in the ring, and MOD_COUNT entries have been written since arming or MOD_TIME
has passed (R326). -/
def modDue (now : Word) (k : Queue) : Bool :=
  k.armed && decide (0 < k.occupied) &&
    (decide (k.modCount ≤ k.sinceArm) || (match k.firstAt with | some t => reached (t + BitVec.ofNat 64 (k.modTime * 1024)) now | none => false))

/-- Arm a queue's interrupt: entries already waiting start the time, and raise the message at once when MOD_TIME is 0 (R326, R327). -/
def armQueue (now : Word) (k : Queue) : Bool × Queue :=
  if k.occupied = 0 then (false, { k with armed := true, sinceArm := 0, firstAt := none })
  else if k.modTime = 0 then (true, { k with armed := false, sinceArm := 0, firstAt := none })
  else (false, { k with armed := true, sinceArm := 0, firstAt := some now })

/-- Whether a consumer index is in range: between the previous value and the producer index (R297). -/
def consumerOk (k : Queue) (i : Nat) : Bool := decide ((BitVec.ofNat 32 i - k.cons).toNat ≤ k.occupied)

/-- CONSUMER_DOORBELL: R292, R294, R297; a completion queue that gains room takes what it held (R324). -/
def consumerDoorbell (fn q i : Nat) (arm : Bool) (s : State) : State :=
  if q = fdRsp then
    let k := (func s fn).fd.resp
    if !consumerOk k i then modRsp fn (fun k => { k with badDoorbell := true, seq := k.seq + 1 }) s
    else
      let k1 := { k with cons := BitVec.ofNat 32 i }
      let a := if arm then armQueue (elapsed s) k1 else (false, k1)
      let s1 := modRsp fn (fun _ => a.2) s
      if a.1 then msix fn k.vector s1 else s1
  else
    let k := queue s fn q
    if k.st = .free then silent s
    else if k.kind.software then s
    else if !consumerOk k i then
      (if k.kind = .ledger then
        (if k.st = .active then modQueue fn q (fun k => { k with st := .error, errIndex := i % 2 ^ 32, errDetail := 0x12 }) s else s)
      else modQueue fn q (fun k => { k with badDoorbell := true, seq := k.seq + 1 }) s)
    else
      let k1 := { k with cons := BitVec.ofNat 32 i }
      let a := if arm then armQueue (elapsed s) k1 else (false, k1)
      let s1 := modQueue fn q (fun _ => a.2) s
      let s2 := if a.1 then msix fn k.vector s1 else s1
      if k.kind = .cq then takeHeld fn q s2 else s2

/-- CONSUMER_DOORBELL (R297). -/
def execConsumerDoorbell (fn queue index : Nat) (arm : Bool) (s : State) : Answer := act (answers ++ [.queues]) (consumerDoorbell fn queue index arm) s

/-! ## Fetching -/

/-- What a read of n bytes of ring memory meets: an error, a port in HOLD or a frozen unit, for which it waits (R212, R333), or a poisoned host line
(R966). -/
inductive RingStop where
  | err (e : RingErr) | poison (a : Nat) | wait
  deriving DecidableEq, Repr

/-- What stops a read of n bytes of ring memory at an address, or the place. Log 68 (DESIGN CHOICE). -/
def ringRead (s : State) (fn a n : Nat) : Except RingStop Loc :=
  match ringAt s fn a .read n with
  | .error .wait => .error .wait
  | .error e => .error (.err e)
  | .ok (.host p h) =>
    if (hport s p).st = .hold then .error .wait
    else match hostBad s p h n with
      | some l => .error (.poison (l * 64))
      | none => .ok (.host p h)
  | .ok (.dev d) => .ok (.dev d)

/-- The detail of a read of ring memory that stopped; 0 when it only waits. -/
def RingStop.detail : RingStop → Nat
  | .err e => e.detail
  | .poison _ => 0x11
  | .wait => 0

/-- What a read of ring memory that stopped does: a fault or an error is met (R252, R286, R965), a poisoned host line recorded (R966). Log 132 (DEDUCED). -/
def ringStopEff (code fn object : Nat) (e : RingStop) (s : State) : State :=
  match e with
  | .err e => ledgerOnly s (meetRing putLedger code fn object (some e) s)
  | .poison a =>
    (match roomOf s fn with
    | some rm => ledgerRoom rm { kind := 0x0A, severity := 2, object := object, addrKind := 3, address := a, access := code, d0 := 1 } s
    | none => s)
  | .wait => s

/-- The effects of reading ring memory at a place: what is asked of the host (R124, R134), or the lines that the host shares (R142) and the counters
and corrections of device memory (R957). -/
def locReadEff (n : Nat) (s : State) (l : Loc) : State :=
  match l with
  | .host p a => hostAsk p a n s
  | .dev d => correctRange d n (countRead d n (resolveLines d n s))

/-- Places of n units of a ring from an index, or what stops the first that fails. -/
def fetchSpots (s : State) (fn : Nat) (q : Queue) (i : BitVec 32) : Nat → Except RingStop (List Loc)
  | 0 => .ok []
  | n + 1 =>
    match ringRead s fn (q.unitAddr i) 16 with
    | .error e => .error e
    | .ok l =>
      match fetchSpots s fn q (i + 1) n with
      | .error e => .error e
      | .ok ls => .ok (l :: ls)

/-- Read n units of a ring from an index, or the detail of what stops the read: FETCH_FAULT, FETCH_UE, or 0 when it waits. Log 68 (DESIGN CHOICE). -/
def fetchUnits (s : State) (fn : Nat) (q : Queue) (i : BitVec 32) (n : Nat) : Except Nat (List Byte) :=
  match fetchSpots s fn q i n with
  | .error e => .error e.detail
  | .ok ls => .ok (ls.flatMap (fun l => locRead s l 16))

/-- Keep of a state only what reading ring memory may change. -/
def ringReadOnly (s r : State) : State := { ledgerOnly s r with errs := r.errs }

/-- The effects of a fetch of n units: those of the reads, or of what stopped them. -/
def fetchEff (fn object : Nat) (q : Queue) (i : BitVec 32) (n : Nat) (s : State) : State :=
  match fetchSpots s fn q i n with
  | .error e => ringStopEff 4 fn object e s
  | .ok ls => ringReadOnly s (ls.foldl (locReadEff 16) s)

/-- The common header of an engine entry (R344, R345). -/
def hdrOf (fn q list index units : Nat) (d : List Byte) : CmdHdr :=
  let w0 := wordAt d 0
  let w1 := wordAt d 1
  let w2 := wordAt d 2
  { fn := fn, queue := q, list := list, index := index, units := units, tag := fld w0 63 32, epoch := fld w1 63 48, signal := fld w1 47 32,
    wait := fld w1 31 16, waitTimeout := fld w2 47 32, waitTarget := fld w2 31 0, ignoreFault := nbit w1 4 == 1, order := nbit w1 3 == 1,
    seawall := nbit w1 2 == 1, notify := nbit w1 1 == 1, fin := nbit w1 0 == 1 }

/-- The list of a queue whose END no entry has given yet. -/
def openList (s : State) (fn q : Nat) : Option ListRec := s.lists.find? (fun r => r.fn == fn && r.queue == q && !r.whole)

/-- Lists of a room and class in flight (R364). -/
def inFlight (s : State) (rm cls : Nat) : Nat := (s.lists.filter (fun r => r.room == rm && r.cls == cls && r.inFlight)).length

/-- LIST_QUOTA of a room for a class. -/
def listQuota (r : Room) (cls : Nat) : Nat := mget r.quotas.lists cls 16

/-- The word that holds an engine command's destination operand, and the word that holds DPA_MODE where it has one (R201, R302). -/
def destWord (cls op : Nat) : Option (Nat × Option Nat) :=
  match cls, op with
  | 6, 0x20 => some (3, some 6)
  | 6, 0x21 => some (3, some 5)
  | 6, 0x22 => some (3, some 5)
  | 1, 0x23 => some (6, none)
  | 1, _ => if 0x20 ≤ op then some (9, none) else none
  | 0, 0x20 => some (9, none)
  | 0, 0x21 => some (9, none)
  | 2, _ => if 0x20 ≤ op then some (13, none) else none
  | 3, _ => if 0x20 ≤ op then some (10, none) else none
  | 5, 0x21 => some (7, none)
  | _, _ => none

/-- The destination operand of an entry that names device memory (R360): a DPA, or a DVA. -/
def destOf (r : Room) (cls : Nat) (d : List Byte) : Option (Bool × Nat) :=
  match destWord cls (fld (wordAt d 0) 15 8) with
  | none => none
  | some (w, m) =>
    if cls ≤ 1 && wordAt d w = 0 then none
    else if (match m with | some i => nbit (wordAt d i) 0 == 1 | none => false) then some (true, wordAt d w)
    else match operand r (wordAt d w) with
      | .dva x => some (false, x)
      | _ => none

/-- Whether an operand of an engine command is one that its caller may not give: DPA_MODE on a room's list (R202), MODE 1 of a reduction while
FLOAT_MODE_ENABLE is 0 (R504). -/
def engineBarred (s : State) (fn cls : Nat) (d : List Byte) : Bool :=
  let op := fld (wordAt d 0) 15 8
  (!isInn s fn && (match dpaModeWord cls op with | some w => nbit (wordAt d w) 0 == 1 | none => false)) ||
    (cls == 1 && obj s 0xC200 1 1 == 0 && ((decide (0x20 ≤ op) && decide (op ≤ 0x22) && nbit (wordAt d 7) 0 == 1) || (op == 0x23 && nbit (wordAt d 4) 0 == 1)))

/-- The malformed command at a place of a list, if its entry is malformed by its form (R349, R1138). -/
def listBad (s : State) (cls place : Nat) (h : CmdHdr) (d : List Byte) : List (Nat × CmdHdr × Nat × Nat) :=
  match engineFormBad (engineBarred s h.fn cls d) cls d with
  | some x => [(place, h, fld (wordAt d 0) 15 8, x)]
  | none => []

/-- The last command of a list that has no END: BAD_LENGTH, unless its opcode is unknown (R336, R338, R1138). -/
def lastBad (s : State) (cls place : Nat) (h : CmdHdr) (d : List Byte) : List (Nat × CmdHdr × Nat × Nat) :=
  [(place, h, fld (wordAt d 0) 15 8, match engineFormBad (engineBarred s h.fn cls d) cls d with | some 2 => 2 | some 6 => 6 | _ => 3)]

/-- An engine entry joins its list: a new one, or the one that is open (R334 to R336, R341). Entries that follow the 4,096th of a list without an END
are passed over up to one, where the queue goes on after a malformed entry (R370). Log 175 (DEDUCED). -/
def addToList (fn q rm cls : Nat) (d : List Byte) (i units : Nat) (s : State) : State :=
  match openList s fn q with
  | none =>
    let h := hdrOf fn q i i units d
    modQueue fn q (fun k => { k with fetched := k.fetched ++ [{
        index := i, units := units, opcode := fld (wordAt d 0) 15 8, tag := h.tag, fin := h.fin }] })
      { s with lists := s.lists ++ [{
        fn := fn, queue := q, list := i, cls := cls, room := rm, order := h.order, units := units, count := 1, signals := [h.signal], whole := h.fin,
        bad := listBad s cls 0 h d, dest := destOf (room s rm) cls d }] }
  | some r =>
    let h := hdrOf fn q r.list i units d
    let long := decide (4095 ≤ r.count) && !h.fin
    let r1 := { r with
      signals := r.signals ++ [h.signal], units := r.units + units, count := r.count + 1, whole := h.fin || long,
      bad := r.bad ++ (if long then lastBad s cls r.count h d else listBad s cls r.count h d)
      dest := (match r.dest with | some x => some x | none => destOf (room s rm) cls d) }
    setList r1 (if long && !stopClass s fn q then modQueue fn q (fun k => { k with passing := true }) s else s)

/-- An entry that follows a list without an END is passed over: it does not run, and faults its SIGNAL lantern (R358, R370). Log 175 (DEDUCED). -/
def passEntry (fn q rm : Nat) (d : List Byte) (s : State) : State :=
  let h := hdrOf fn q 0 0 0 d
  lanternFault rm h.signal (modQueue fn q (fun k => { k with passing := !h.fin }) s)

/-- The malformed command that a list of a queue has come to: the list has a tile and its command before has ended (R369). Log 42 (DEDUCED), 175 (DEDUCED). -/
def reachedBad (s : State) (fn q : Nat) : Option (ListRec × CmdHdr × Nat × Nat) :=
  s.lists.findSome? (fun r =>
    if r.fn == fn && r.queue == q && r.inFlight && !r.failed && r.cur.isNone && canRun s r then
      (r.bad.find? (fun b => b.1 == r.count - r.signals.length)).map (fun b => (r, b.2))
    else none)

/-! ## List bodies -/

/-- What a walk over a list body gives: how many units it read, the body's commands in order, and whether the last has no END or runs past
UNITS. -/
structure Body where
  read : Nat
  cmds : List (List Byte)
  bad : Bool
  deriving DecidableEq, Repr

/-- A unit joins the command that is being read. -/
def joinUnit (b : List Byte) : List (List Byte) → List (List Byte)
  | [] => [b]
  | d :: r => (d ++ b) :: r

/-- Read a list body unit by unit from an address, as ring memory is read (R337, R338), up to the first END or the 4,096th command (R334). `skip` counts
units left of the command that is being read, `i` those read, `fin` is its END; `acc` holds the commands, the last one first. Log 175 (DEDUCED). -/
def bodyGo (s : State) (fn : Nat) : Nat → Nat → Nat → Nat → Bool → List (List Byte) → Except RingStop Body
  | 0, i, _, _, _, acc => .ok { read := i, cmds := acc.reverse, bad := true }
  | n + 1, i, a, skip, fin, acc =>
    if skip = 0 && (fin || decide (4096 ≤ acc.length)) then .ok { read := i, cmds := acc.reverse, bad := !fin }
    else
      match ringRead s fn a 16 with
      | .error e => .error e
      | .ok l =>
        let b := locRead s l 16
        if skip ≠ 0 then
          (if skip = 1 && fin then .ok { read := i + 1, cmds := (joinUnit b acc).reverse, bad := false }
          else bodyGo s fn n (i + 1) (a + 16) (skip - 1) fin (joinUnit b acc))
        else
          let k := fld (wordAt b 0) 7 0
          let e := nbit (wordAt b 1) 0 == 1
          if k = 0 && e then .ok { read := i + 1, cmds := (b :: acc).reverse, bad := false }
          else bodyGo s fn n (i + 1) (a + 16) k e (b :: acc)

/-- The effects of reading the first n units of a list body: counters and corrections (R957). -/
def bodyRead (fn a n : Nat) (s : State) : State :=
  ringReadOnly s ((List.range n).foldl (fun s i =>
    match ringAt s fn (a + 16 * i) .read 16 with
    | .ok l => locReadEff 16 s l
    | .error _ => s) s)

/-- The malformed commands of a list body: by their form, a LIST_EXEC inside it, or the last without an END (R338). -/
def bodyBad (s : State) (r : ListRec) (b : Body) : List (Nat × CmdHdr × Nat × Nat) :=
  b.cmds.zipIdx.flatMap (fun p =>
    let h := hdrOf r.fn r.queue r.list r.list (p.1.length / 16) p.1
    if fld (wordAt p.1 0) 15 8 = 4 then [(p.2, h, 4, 2)]
    else if b.bad && p.2 + 1 = b.cmds.length then lastBad s r.cls p.2 h p.1
    else listBad s r.cls p.2 h p.1)

/-- A list takes the commands of its body from place k on. -/
def takeFrom (s : State) (k : Nat) (b : Body) (r : ListRec) : ListRec :=
  { r with signals := (b.cmds.drop k).map (fun d => fld (wordAt d 1) 47 32), count := b.cmds.length, bad := bodyBad s r b }

/-- A list takes the commands of its body. -/
def takeBody (s : State) (b : Body) (r : ListRec) : ListRec := takeFrom s 0 b r

/-- How a LIST_EXEC ends whose body could not be read, and the detail that its queue latches (R372). -/
def RingStop.ends : RingStop → CEnd × Nat
  | .err (.fault c _) => ({ status := 3, detail := c }, 0x13)
  | _ => ({ status := 4 }, 0x14)

/-- A list body could not be read: its list ends, and its queue stops (R372). -/
def bodyFail (h : CmdHdr) (r : ListRec) (e : RingStop) (s : State) : State :=
  qStop h.fn h.queue h.list e.ends.2 (failCmd { h with fin := true } 4 r e.ends.1 (ringStopEff 3 h.fn h.queue e s))

/-! ## Fetching entries -/

/-- An entry of a send or receive queue that is malformed by its form: R315, R316. -/
def entryMalformed (fn q i units op detail : Nat) (d : List Byte) (s : State) : State :=
  let k := queue s fn q
  if stopClass s fn q then qStop fn q i detail s
  else
    complete fn { tag := fld (wordAt d 0) 63 32, status := 1, source := if k.kind = .recv then 1 else 0, opcode := op, detail := detail, index := i, queue := q }
      (modQueue fn q (fun k => { k with cons := k.cons + BitVec.ofNat 32 units }) s)

/-- Whether a work request asks of a RoCE QP what it may not (R495). -/
def sendBarred (s : State) (d : List Byte) : Bool :=
  let w := wordAt d 0
  let q := qp s (fld (wordAt d 1) 23 0)
  q.roce.isSome && q.st != .free && (fld w 15 8 == 3 || nbit w 20 == 1 || nbit w 21 == 1 ||
    (fld w 15 8 == 9 && (match q.proxy.find? (fun x => x.slot == fld (wordAt d 5) 15 0) with | some x => x.size == 4 | none => false)))

/-- What makes an entry of a send or receive queue malformed by its form. -/
def formOf (s : State) (k : Queue) (d : List Byte) : Option Nat :=
  match k.kind with
  | .send => sendFormBad (sendBarred s d) d
  | .recv => recvFormBad d
  | _ => none

/-- A queue goes past the entry at its consumer index, which it fetched before (R317, R371). -/
def passAgain (n : Nat) (k : Queue) : Queue := { k with cons := k.cons + BitVec.ofNat 32 n, again := k.again - n }

/-- Whether a queue's completions can be written now (R324, R1142). -/
def cqReady (s : State) (fn cq : Nat) : Bool := let k := queue s fn cq; k.held.isEmpty && k.st != .error

/-- Whether a front desk command is one that its caller may not issue, or an operand of it (R304, R495, R931). -/
def fdBarred (s : State) (fn op : Nat) (d : List Byte) : Bool :=
  (fdInnOnly op && !isInn s fn) || (op == 0x30 && (fnSlot fn != 0 || !(hport s (fnPort fn)).cxl)) ||
    (op == 0x81 && !isInn s fn && fld (wordAt d 2) 15 8 != 0) ||
    (op == 0x4A && (qp s (fld (wordAt d 2) 23 0)).sealed && (qp s (fld (wordAt d 2) 23 0)).st != .free)

/-- The rings in use that a function's room holds: the function, the ring and a name, its queue number. -/
def roomRings (s : State) (fn : Nat) : List (Nat × Nat × Queue) :=
  (s.queues.filter (fun p => p.2.st != .free && p.2.enable && roomOf s (p.1 / 4096) == roomOf s fn)).map (fun p => (p.1 / 4096, p.1 % 4096, p.2)) ++
    (s.funcs.filter (fun p => p.2.fd.enable && roomOf s p.1 == roomOf s fn)).flatMap (fun p => [(p.1, fdReq, p.2.fd.req), (p.1, fdRsp, p.2.fd.resp)])

/-- Whether two rings share memory: their bases are of one address space, the room's DVAs or one function's host addresses. Log 68 (DESIGN CHOICE). -/
def ringsMeet (s : State) (x y : Nat × Nat × Queue) : Bool :=
  let dva := fun (z : Nat × Nat × Queue) => match operand (room s ((roomOf s z.1).getD 0)) z.2.2.base with | .dva _ => true | _ => false
  (x.1 != y.1 || x.2.1 != y.2.1) && (if dva x then dva y else !dva y && x.1 == y.1) &&
    runsMeet (x.2.2.base, 16 * 2 ^ x.2.2.log2) (y.2.2.base, 16 * 2 ^ y.2.2.log2)

/-- Whether what a ring's fetch gives is unpredictable: a doorbell made it so, or another ring in use shares its memory (R331). Log 68 (DESIGN CHOICE). -/
def wildRing (s : State) (fn q : Nat) (k : Queue) : Bool := k.wild || (roomRings s fn).any (ringsMeet s (fn, q, k))

/-- A fetch from a ring whose outcome is unpredictable: what its rules say, nothing, an entry passed without a completion, a completion of any
status, or the stop of the queue (R15): which of them is a free value. Log 68 (DESIGN CHOICE). -/
def wildFetch (on : Bool) (fn q : Nat) (k : Queue) (body : State → State) (s : State) : State :=
  if !on then body s
  else
    let v := freshVal s
    let s1 := useFresh s
    let pass := fun (s : State) => modQueue fn q (fun k => { k with cons := k.cons + 1 }) s
    match wfld v 2 0 with
    | 0 => s1
    | 1 => if q = fdReq then s1 else pass s1
    | 2 => if q = fdReq then s1 else complete fn { tag := wfld v 63 32, status := wfld v 15 8, detail := wfld v 31 16, index := k.cons.toNat, queue := q } (pass s1)
    | 3 => if q = fdReq then fdMalformed { fn := fn, index := k.cons.toNat, tag := wfld v 63 32 } (wfld v 15 8) (wfld v 31 16) s1
      else qStop fn q k.cons.toNat (wfld v 31 16) s1
    | _ => body s1

/-- Manifest entries of a room (R439). -/
def roomOps (s : State) (rm : Nat) : Nat := s.qps.foldl (fun a p => if p.2.room = rm then a + p.2.ops.length else a) 0

/-- Manifest entries of the device. -/
def allOps (s : State) : Nat := s.qps.foldl (fun a p => a + p.2.ops.length) 0

/-- Atomics. -/
def opAtomic (op : Nat) : Bool := op == 7 || op == 8

/-- Unanswered READ_REQs of a QP: each holds the PSN of its first response (R477). -/
def readsOut (q : Qp) : Nat :=
  ((q.unacked.filter (fun u => u.pkt.opcode == 6)).map (fun u => u.pkt.reqPsn)).eraseDups.length

/-- Whether a work request waits for a manifest entry or a bound of R477 (R440, R458). -/
def wrWaits (s : State) (q : Qp) (op : Nat) : Bool :=
  decide (q.maxOps ≤ q.ops.length) || decide ((room s q.room).quotas.manifest ≤ roomOps s q.room) || decide (262144 ≤ allOps s) ||
    (op == 6 && decide (64 ≤ readsOut q)) || (opAtomic op && decide (16 ≤ (q.ops.filter (fun o => opAtomic o.opcode)).length))

/-- Whether the next entry of a send queue names a QP of that queue that cannot take it, so that the fetch pauses (R440, R477). -/
def sendPaused (s : State) (fn q : Nat) (k : Queue) (op : Nat) (d : List Byte) : Bool :=
  let x := qp s (fld (wordAt d 1) 23 0)
  k.kind == .send && x.st == .ready && x.fn == fn && x.sq == q && wrWaits s x op

/-- RING_FETCH: one entry that the producer index covers leaves the ring (R289); a fault stops the queue (R286), and the tag and opcode of an entry of
the front desk that could not be read are free values. What the entry then does is the command that it spells. An entry that spells none is malformed: on the front desk and on a send or receive queue when it is fetched,
in a list when the list comes to it (R369). Log 42 (DEDUCED), 68 (DESIGN CHOICE), 175 (DEDUCED), 208 (DESIGN CHOICE). -/
def ringFetch (fn q : Nat) (s : State) : State :=
  if q = fdReq then
    let k := (func s fn).fd.req
    if !fdFree s fn || k.occupied = 0 then s
    else wildFetch (wildRing s fn fdReq k) fn fdReq k (fun s =>
      let stop := fun (tag op d n : Nat) => fdMalformed { fn := fn, index := k.cons.toNat, tag := tag } op d (fetchEff fn fdReq k k.cons n s)
      match fetchUnits s fn k k.cons 1 with
      | .error 0 => s
      | .error d => useFresh (stop (wfld (freshVal s) 31 0) (wfld (freshVal s) 39 32) d 1)
      | .ok b =>
        let w := wordAt b 0
        let n := fld w 7 0 + 1
        if k.occupied < n then s
        else
          match fetchUnits s fn k k.cons n with
          | .error 0 => s
          | .error d => stop (fld w 63 32) (fld w 15 8) d n
          | .ok data =>
            let s0 := fetchEff fn fdReq k k.cons n s
            match fdFormBad (fdBarred s fn (fld w 15 8) data) (fld w 15 8) data with
            | some x => fdMalformed { fn := fn, index := k.cons.toNat, tag := fld w 63 32 } (fld w 15 8) x s0
            | none => s0) s
  else
    let k := queue s fn q
    match roomOf s fn with
    | none => s
    | some rm =>
      match reachedBad s fn q with
      | some (r, h, op, d) => cmdMalformed h op d r s
      | none =>
        if k.st ≠ .active || !k.kind.software || k.occupied = 0 || !cqReady s fn k.cq then s
        else if k.kind = .engine && !k.passing && (openList s fn q).isNone && listQuota (room s rm) k.cls ≤ inFlight s rm k.cls then s
        else wildFetch (wildRing s fn q k) fn q k (fun s =>
          match fetchUnits s fn k k.cons 1 with
          | .error 0 => s
          | .error d => qStop fn q k.cons.toNat d (fetchEff fn q k k.cons 1 s)
          | .ok b =>
            let w := wordAt b 0
            let n := fld w 7 0 + 1
            let op := fld w 15 8
            if k.occupied < n then s
            else if k.again ≠ 0 then modQueue fn q (passAgain n) s
            else
              match fetchUnits s fn k k.cons n with
              | .error 0 => s
              | .error d => qStop fn q k.cons.toNat d (fetchEff fn q k k.cons n s)
              | .ok data =>
                let s0 := fetchEff fn q k k.cons n s
                match formOf s k data with
                | some x => entryMalformed fn q k.cons.toNat n op x data s0
                | none =>
                  if sendPaused s fn q k op data then s
                  else
                  let s1 := modQueue fn q (fun k => { k with cons := k.cons + BitVec.ofNat 32 n }) s0
                  match k.kind with
                  | .engine => if k.passing then passEntry fn q rm data s1 else addToList fn q rm k.cls data k.cons.toNat n s1
                  | _ => modQueue fn q (fun x => { x with fetched := x.fetched ++ [{
                      index := k.cons.toNat, units := n, opcode := op, tag := fld w 63 32, fin := true }] }) s1) s

/-- RING_FETCH (R289). -/
def execRingFetch (fn queue : Nat) (s : State) : Answer := act (listWork ++ [.free]) (ringFetch fn queue) s

/-! ## Queue states -/

/-- Whether a guest's writes of ENABLE 1 and RESUME are ignored silently: its room is QUIESCING or QUIESCED (R896). -/
def qQuiet (s : State) (fn : Nat) : Bool :=
  match roomOf s fn with
  | some rm => (room s rm).st == .quiescing || (room s rm).st == .quiesced
  | none => true

/-- QUEUE_ENABLE: R311; ENABLE reads as it was written (R329). -/
def queueEnable (fn q : Nat) (s : State) : State :=
  let k := queue s fn q
  if k.st = .free then silent s
  else if qQuiet s fn then s
  else
    match k.st with
    | .disabled => takeHeld fn q (modQueue fn q (fun k => { k with enable := true, st := .active }) s)
    | .draining => takeHeld fn q (modQueue fn q (fun k => { k with enable := true, st := .active }) s)
    | _ => modQueue fn q (fun k => { k with enable := true, disablePending := false }) s

/-- QUEUE_ENABLE (R311). -/
def execQueueEnable (fn queue : Nat) (s : State) : Answer := act (answers ++ [.queues]) (queueEnable fn queue) s

/-- A list held at a malformed command ends by R358 when ENABLE 0 is written (R371). -/
def endHeld (fn q : Nat) (s : State) : State :=
  match s.lists.find? (fun r => r.fn == fn && r.queue == q && r.st == .held && r.cur.isSome && (r.tile.isNone)) with
  | some r =>
    (match r.cur with
    | some (h, op) => failCmd { h with fin := true } op r { status := 1, detail := (queue s fn q).errDetail } s
    | none => s)
  | none => s

/-- Lists that no dispatcher has taken go back to their ring: the consumer index returns to the first of them (R312, R375). Log 42 (DEDUCED). -/
def unfetch (fn q : Nat) (s : State) : State :=
  match s.lists.find? (fun r => r.fn == fn && r.queue == q && r.st == .ready && !r.inFlight) with
  | none => s
  | some r =>
    let gone := fun (x : ListRec) => x.fn == fn && x.queue == q && x.st == .ready && !x.inFlight
    modQueue fn q (fun k => { k with
      cons := if (BitVec.ofNat 32 r.list - k.cons).toNat ≤ k.again then k.cons else BitVec.ofNat 32 r.list
      again := if (BitVec.ofNat 32 r.list - k.cons).toNat ≤ k.again then (BitVec.ofNat 32 r.list - k.cons).toNat else 0
      passing := false
      fetched := k.fetched.filter (fun f => !s.lists.any (fun x => gone x && x.list == f.index)) })
      { s with lists := s.lists.filter (fun x => !gone x) }

/-- Receive entries that no message has taken go back to their ring: a message takes the entry at the consumer index (R385). Log 42 (DEDUCED). -/
def unfetchRecv (fn q : Nat) (s : State) : State :=
  match (queue s fn q).entries with
  | [] => s
  | e :: _ => modQueue fn q (fun k => { k with
      cons := BitVec.ofNat 32 e.index, entries := [], fetched := k.fetched.filter (fun f => !k.entries.any (fun x => x.index == f.index)) }) s

/-- A queue stops fetching: R311, R314, R371, R375. A queue in ERROR stays so until nothing is outstanding. Log 42 (DEDUCED). -/
def queueStop (fn q : Nat) (s : State) : State :=
  let k := queue s fn q
  let off := fun (s : State) => modQueue fn q (fun k => { k with st := .disabled, disablePending := false }) s
  let rest := fun (wait : QSt) (s : State) => if outstanding s fn q then modQueue fn q (fun k => { k with st := wait }) s else off s
  let s1 := modQueue fn q (fun k => { k with enable := false }) s
  match k.st with
  | .active =>
    if k.kind = .engine then rest .draining (unfetch fn q s1)
    else if k.kind = .recv then rest .draining (unfetchRecv fn q s1)
    else if k.kind.software then rest .draining s1
    else if k.kind = .ledger || reportersIdle s fn q then off s1
    else modQueue fn q (fun k => { k with disablePending := true }) s1
  | .error =>
    if k.kind.software then rest .error (endHeld fn q s1)
    else if k.kind = .ledger || reportersIdle s fn q then off s1
    else modQueue fn q (fun k => { k with disablePending := true }) s1
  | _ => s1

/-- QUEUE_DISABLE (R311). -/
def execQueueDisable (fn queue : Nat) (s : State) : Answer :=
  act listWork (fun s => if (Sys2Proof.Machine.queue s fn queue).st = .free then silent s else queueStop fn queue s) s

/-- QUEUE_IDLE: the last outstanding entry has completed and its completion is written, or the last queue that reports here is idle (R311, R313, R314). A
queue that was DRAINING reports it. -/
def queueIdle (fn q : Nat) (s : State) : State :=
  let k := queue s fn q
  let off := fun (s : State) => modQueue fn q (fun k => { k with st := .disabled, disablePending := false }) s
  if k.st = .draining && !outstanding s fn q then qEvent fn q 2 q k.cons.toNat 0 (off s)
  else if k.st = .error && k.kind.software && !k.enable && !outstanding s fn q then off s
  else if (k.st == .active || k.st == .error) && k.disablePending && reportersIdle s fn q then off s
  else s

/-- QUEUE_IDLE (R311). -/
def execQueueIdle (fn queue : Nat) (s : State) : Answer := act (answers ++ [.queues]) (queueIdle fn queue) s

/-- The length in units of the entry at an index, as the ring holds it; 1 when it cannot be read. -/
def entryUnits (s : State) (fn : Nat) (q : Queue) (i : Nat) : Nat :=
  match fetchUnits s fn q (BitVec.ofNat 32 i) 1 with
  | .ok b => fld (wordAt b 0) 7 0 + 1
  | .error _ => 1

/-- The header of the LIST_EXEC whose body a list runs. -/
def execHdr (s : State) (r : ListRec) : CmdHdr :=
  { fn := r.fn, queue := r.queue, list := r.list, index := r.list, fin := true, signal := r.bodySignal,
    tag := match (queue s r.fn r.queue).fetched.find? (fun f => f.index == r.list) with | some f => f.tag | none => 0 }

/-- A list held at a malformed command reads it again, from the ring or from its body, and waits for a tile (R371). -/
def rereadHeld (fn q : Nat) (h : CmdHdr) (r : ListRec) (s : State) : State :=
  let k := queue s fn q
  let place := r.count - r.signals.length
  let woken : ListRec := { r with st := .woken, cur := none }
  if r.exec then
    match bodyGo s fn r.bodyUnits 0 r.bodyAddr 0 false [] with
    | .error .wait => setList woken s
    | .error e => bodyFail (execHdr s r) r e s
    | .ok b => setList (takeFrom s place b woken) (bodyRead fn r.bodyAddr b.read s)
  else
    match fetchUnits s fn k (BitVec.ofNat 32 h.index) 1 with
    | .error 0 => setList woken s
    | .error d => qStop fn q h.index d (fetchEff fn q k (BitVec.ofNat 32 h.index) 1 s)
    | .ok b =>
      let n := fld (wordAt b 0) 7 0 + 1
      match fetchUnits s fn k (BitVec.ofNat 32 h.index) n with
      | .error 0 => setList woken s
      | .error d => qStop fn q h.index d (fetchEff fn q k (BitVec.ofNat 32 h.index) n s)
      | .ok d =>
        setList { woken with
          signals := fld (wordAt d 1) 47 32 :: r.signals.tail
          bad := r.bad.filter (fun b => b.1 != place) ++ (if place = 4095 && nbit (wordAt d 1) 0 = 0 then lastBad else listBad) s r.cls place (hdrOf fn q r.list h.index n d) d }
          (fetchEff fn q k (BitVec.ofNat 32 h.index) n s)

/-- The list that a stop-class queue holds at a malformed command goes on: from it, or with SKIP after it (R371). -/
def resumeHeld (fn q : Nat) (skip : Bool) (s : State) : State :=
  match s.lists.find? (fun r => r.fn == fn && r.queue == q && r.st == .held && r.cur.isSome && r.tile.isNone) with
  | none => s
  | some r =>
    match r.cur with
    | none => s
    | some (h, _) =>
      if !skip then rereadHeld fn q h r s
      else if h.fin || (decide (r.count ≠ 0) && r.signals.tail == []) then endList h r s
      else setList { r with st := .woken, cur := none, signals := r.signals.tail } s

/-- QUEUE_RESUME, which is written with ENABLE 1: R317, R371, R1142. Where a list is held, its entries behind the latched one, and those of later lists,
are not fetched again: the consumer index goes over them. -/
def queueResume (fn q : Nat) (skip : Bool) (s : State) : State :=
  let k := queue s fn q
  if k.st = .free then silent s
  else if qQuiet s fn then s
  else if k.st ≠ .error then queueEnable fn q s
  else if k.kind.software then
    let held := s.lists.any (fun r => r.fn == fn && r.queue == q && r.st == .held && r.cur.isSome && r.tile.isNone)
    let n := entryUnits s fn k k.errIndex
    let at_ := BitVec.ofNat 32 (k.errIndex + (if skip then n else 0))
    let more := if held then (k.cons + BitVec.ofNat 32 k.again - at_).toNat else 0
    resumeHeld fn q skip (modQueue fn q (fun k => { k with enable := true, st := .active, cons := at_, again := more }) s)
  else takeHeld fn q (modQueue fn q (fun k => { k with enable := true, disablePending := false, st := .active }) s)

/-- QUEUE_RESUME (R317). -/
def execQueueResume (fn queue : Nat) (skip : Bool) (s : State) : Answer := act listWork (queueResume fn queue skip) s

/-! ## Queue commands -/

/-- The kind of a KIND code (R279). -/
def kindOf : Nat → QKind
  | 0 => .send
  | 1 => .recv
  | 2 => .engine
  | 3 => .cq
  | 4 => .eq
  | _ => .ledger

/-- What makes a QUEUE_CREATE malformed: an operand that does not apply to the kind (R303), a bad RING_BASE, a MOD_COUNT outside 1 to
256 (R307), a KIND above 5. -/
def createBad (s : State) (h : FdHdr) (kind cls : Nat) (pasidValid : Bool) (vector cq eq modCount pasid modTime base : Nat) : Option Nat :=
  let k := kindOf kind
  let soft := k.software
  firstBadOf [
    ((kind ≤ 5) && ((kind ≠ 2 && cls ≠ 0) || (soft && (vector ≠ 0 || modCount ≠ 0 || modTime ≠ 0)) || (!soft && (cq ≠ 0 || pasidValid || pasid ≠ 0)) ||
      (k = .ledger && eq ≠ 0)), 1),
    ((match roomOf s h.fn with | some r => operand (room s r) base == .bad | none => false), 5),
    (5 < kind || (!soft && (modCount = 0 || 256 < modCount)), 4)]

/-- MSI-X vectors of a function (R130). -/
def vectorsOf (fn : Nat) : Nat := if fnSlot fn = 0 then 2048 else 64

/-- Whether a number names a queue of a kind of the function. -/
def isKind (s : State) (fn q : Nat) (k : QKind) : Bool := (queue s fn q).st != .free && (queue s fn q).kind == k

/-- The result code of QUEUE_CREATE (R306). -/
def createResult (s : State) (fn rm kind cls log2 vector cq eq base : Nat) : Nat :=
  let k := kindOf kind
  let n := (queuesOf s fn).length
  if 3840 ≤ n || (room s rm).quotas.queue ≤ n then 0x02
  else if k = .ledger && (ledgerOf s fn).isSome then 0x09
  else if log2 < 8 || 24 < log2 then 0x03
  else if base % 4096 ≠ 0 then 0x04
  else if !k.software && vectorsOf fn ≤ vector then 0x05
  else if (k.software && !isKind s fn cq .cq) || (k ≠ .ledger && eq ≠ 0xFFF && !isKind s fn eq .eq) then 0x06
  else if k = .engine && (cls = 4 || 7 ≤ cls) then 0x07
  else 0

/-- The lowest free queue number of a function. -/
def freeQueue (s : State) (fn : Nat) : Nat := (lowestFrom (fun q => (queue s fn q).st == .free) 0 3840).getD 0

/-- QUEUE_CREATE: R305, R306. -/
def queueCreate (h : FdHdr) (kind cls log2 : Nat) (pasidValid : Bool) (vector cq eq modCount pasid modTime base : Nat) (s : State) : State :=
  frontDesk h 0x01 (fun s => createBad s h kind cls pasidValid vector cq eq modCount pasid modTime base) (fun s =>
    match roomOf s h.fn with
    | none => fdAnswer h 0x01 { result := 0x02 } s
    | some rm =>
      let c := createResult s h.fn rm kind cls log2 vector cq eq base
      if c ≠ 0 then fdAnswer h 0x01 { result := c } s
      else
        let n := freeQueue s h.fn
        let soft := (kindOf kind).software
        fdAnswer h 0x01 { ret := n } (modQueue h.fn n (fun _ => {
          st := .disabled, kind := kindOf kind, cls := cls, base := base, log2 := log2, pasidValid := pasidValid, pasid := pasid, vector := vector,
          cq := if soft then cq else 0xFFF, eq := if kindOf kind = .ledger then 0xFFF else eq, modCount := modCount,
          modTime := modTime }) s)) s

/-- QUEUE_CREATE (R306). -/
def execQueueCreate (h : FdHdr) (kind cls log2 : Nat) (pasidValid : Bool) (vector cq eq modCount pasid modTime base : Nat) (s : State) : Answer :=
  act (answers ++ [.queues]) (queueCreate h kind cls log2 pasidValid vector cq eq modCount pasid modTime base) s

/-- Whether another queue of the function names this one (R307). -/
def queueNamed (s : State) (fn q : Nat) : Bool :=
  (queuesOf s fn).any (fun p => p.1 != q && ((p.2.kind.software && p.2.cq == q && (queue s fn q).kind == .cq) ||
    (p.2.kind != .ledger && p.2.eq == q && (queue s fn q).kind == .eq)))

/-- QUEUE_DESTROY: R307. -/
def queueDestroy (h : FdHdr) (q : Nat) (s : State) : State :=
  frontDesk h 0x02 (fun _ => firstBadOf [(4096 ≤ q, 1)]) (fun s =>
    let k := queue s h.fn q
    if k.st = .free then fdAnswer h 0x02 { result := 0x02 } s
    else if !((k.st == .disabled && qIdle s h.fn q) || k.st == .flushed) then fdAnswer h 0x02 { result := 0x08 } s
    else if queueNamed s h.fn q then fdAnswer h 0x02 { result := 0x09 } s
    else fdAnswer h 0x02 {} { s with queues := mdel s.queues (qkey h.fn q) }) s

/-- QUEUE_DESTROY (R307). -/
def execQueueDestroy (h : FdHdr) (queue : Nat) (s : State) : Answer := act (answers ++ [.queues]) (queueDestroy h queue) s

/-- A queue's message goes out if it is due (R326). -/
def modRaise (fn q : Nat) (s : State) : State :=
  let k := queue s fn q
  if k.st ≠ .free && !k.kind.software && modDue (elapsed s) k then
    msix fn k.vector (modQueue fn q (fun k => { k with armed := false, sinceArm := 0, firstAt := none }) s)
  else s

/-- QUEUE_MODERATE: R307. A MOD_COUNT out of range is malformed only on a queue that it moderates. -/
def queueModerate (h : FdHdr) (q modCount modTime : Nat) (s : State) : State :=
  frontDesk h 0x03 (fun s => firstBadOf [(4096 ≤ q || 512 ≤ modCount || 65536 ≤ modTime, 1),
      ((queue s h.fn q).st ≠ .free && !(queue s h.fn q).kind.software && (modCount = 0 || 256 < modCount), 4)]) (fun s =>
    let k := queue s h.fn q
    if k.st = .free then fdAnswer h 0x03 { result := 0x02 } s
    else if k.kind.software then fdAnswer h 0x03 { result := 0x06 } s
    else fdAnswer h 0x03 {} (modRaise h.fn q (modQueue h.fn q (fun k => { k with modCount := modCount, modTime := modTime }) s))) s

/-- QUEUE_MODERATE (R307). -/
def execQueueModerate (h : FdHdr) (queue modCount modTime : Nat) (s : State) : Answer := act answers (queueModerate h queue modCount modTime) s

/-! ## The front desk's own state -/

/-- FRONT_DESK_ENABLE: R299, R311. A response ring that a fault stopped leaves ERROR with its front desk, and writes what it held when it is ACTIVE
again (R1142). -/
def frontDeskEnable (fn : Nat) (on : Bool) (s : State) : State :=
  takeResp fn (modFunc fn (fun f =>
    if on then
      { f with fd := { f.fd with
        enable := true
        req := (match f.fd.req.st with | .disabled => { f.fd.req with st := .active } | .draining => { f.fd.req with st := .active } | _ => f.fd.req)
        resp := (match f.fd.resp.st with | .disabled => { f.fd.resp with st := .active } | _ => f.fd.resp) } }
    else
      { f with fd := { f.fd with
        enable := false
        req := (match f.fd.req.st with
          | .active => { f.fd.req with st := if f.fd.running.isSome then .draining else .disabled }
          | .error => { f.fd.req with st := .disabled }
          | _ => f.fd.req)
        resp := (match f.fd.resp.st with | .error => { f.fd.resp with st := .disabled } | _ => f.fd.resp) } }) s)

/-- FRONT_DESK_ENABLE (R299): a room that is QUIESCING or QUIESCED ignores ENABLE 1 of its guest's front desk too (R896). -/
def execFrontDeskEnable (fn : Nat) (enable : Bool) (s : State) : Answer :=
  act answers (fun s => if !(func s fn).enabled || (enable && qQuiet s fn && !isInn s fn) then s else frontDeskEnable fn enable s) s

/-- FRONT_DESK_RESUME: the front desk leaves ERROR; SKIP passes the latched entry (R317), and a stopped response ring writes what it
held (R1142). -/
def frontDeskResume (fn : Nat) (skip : Bool) (s : State) : State :=
  let f := func s fn
  if f.fd.req.st ≠ .error then s
  else
    let n := entryUnits s fn f.fd.req f.fd.req.errIndex
    let stuck := f.fd.resp.st == .error
    let at_ := if stuck then f.fd.req.cons else if skip then BitVec.ofNat 32 (f.fd.req.errIndex + n) else BitVec.ofNat 32 f.fd.req.errIndex
    takeResp fn (modFunc fn (fun f => { f with fd := { f.fd with
      enable := true, req := { f.fd.req with st := .active, cons := at_ }, resp := { f.fd.resp with st := .active } } }) s)

/-- FRONT_DESK_RESUME (R299). -/
def execFrontDeskResume (fn : Nat) (skip : Bool) (s : State) : Answer :=
  act answers (fun s => if !(func s fn).enabled || (qQuiet s fn && !isInn s fn) then s else frontDeskResume fn skip s) s

/-- MSIX_MODERATION_TIMER: an armed queue with waiting entries raises its message once MOD_TIME has passed (R326). -/
def execMsixModerationTimer (fn queue : Nat) (s : State) : Answer := act (interrupts ++ [.queues]) (modRaise fn queue) s

end Sys2Proof.Machine
end

