-- ==== Sys2Proof/Machine/Lists.lean ====
section
/-! DEFINITION. Command lists (R334 to R378): the common commands, list bodies, dispatch, waits and lanterns. -/

namespace Sys2Proof.Machine

open Sys2Proof

/-! ## The common commands -/

/-- NOP (R350). -/
def execNop (h : CmdHdr) (s : State) : Answer := act listWork (engine h 0x00 0 (fun _ _ => none) (fun _ s => ({}, s))) s

/-- LANTERN_SIGNAL's effect: 0 adds, 1 sets, 2 sets FAULT, 3 clears it; 0xFFFF names no lantern (R350). -/
def lanternSignal (rm l mode value : Nat) (s : State) : State :=
  match mode with
  | 0 => lanternAdd rm l value s
  | 1 => modLantern rm l (fun x => { x with count := BitVec.ofNat 32 value }) s
  | 2 => lanternFault rm l s
  | _ => modLantern rm l (fun x => { x with fault := false }) s

/-- What makes a LANTERN_SIGNAL malformed: a MODE above 3, a lantern that the room does not hold (R350, R351). -/
def lanternSignalBad (lantern mode : Nat) (_ : State) (r : Room) : Option Nat :=
  firstBadOf [(decide (3 < mode) || !lanternOk r lantern, 4)]

/-- LANTERN_SIGNAL (R350). -/
def execLanternSignal (h : CmdHdr) (lantern mode value : Nat) (s : State) : Answer :=
  act listWork (engine h 0x01 0 (lanternSignalBad lantern mode)
    (fun r s => ({}, lanternSignal r.room lantern mode value s))) s

/-- WAIT_TIDE: R105 to R108. A list that waits leaves its tile (R365). Log 23 (DEDUCED). -/
def waitTide (h : CmdHdr) (target : Word) (r : ListRec) (s : State) : CEnd × State :=
  if reached target s.tide.count then ({ flags := 1 }, s)
  else
    ({ pend := true },
      setList { r with st := .timed, tile := none, cur := some (h, 2) }
        (armWait { id := 0, target := target, fn := h.fn, queue := h.queue, list := h.list } s))

/-- WAIT_TIDE (R105). -/
def execWaitTide (h : CmdHdr) (target : Word) (s : State) : Answer :=
  act listWork (engine h 0x02 0 (fun _ _ => none) (waitTide h target)) s

/-- SEAWALL: the Seawall runs over every earlier write of the room (R347, R150). -/
def execSeawall (h : CmdHdr) (s : State) : Answer := act listWork (engine h 0x03 0 (fun _ _ => none) (fun _ s => ({}, s))) s

/-! ## List bodies -/

/-- LIST_EXEC: the body is read, and its commands follow on the list's tile (R337, R338, R372). Log 68 (DESIGN CHOICE). -/
def listExec (h : CmdHdr) (units addr : Nat) (r : ListRec) (s : State) : CEnd × State :=
  match bodyGo s h.fn units 0 addr 0 false [] with
  | .error .wait => ({ stall := true }, s)
  | .error e => ({ pend := true }, bodyFail h r e s)
  | .ok b =>
    ({ pend := true }, setList { (takeBody s b { r with bodyAddr := addr, bodyUnits := units }) with
      exec := true, bodySignal := h.signal, bodyWall := h.seawall, waitMet := false, cur := none } (bodyRead h.fn addr b.read s))

/-- What makes a LIST_EXEC malformed: one in a body, an address that breaks R254 or R255, one that is not its list's only command, a length
outside 1 to 1,048,576 units (R337, R350). -/
def listExecBad (h : CmdHdr) (units addr : Nat) (s : State) (r : Room) : Option Nat :=
  firstBadOf [((match findList s h.fn h.queue h.list with | some l => l.exec | none => false), 2), (operand r addr == .bad, 5),
    (!h.fin || h.index != h.list || decide (units = 0) || decide (1048576 < units), 4)]

/-- LIST_EXEC (R337). -/
def execListExec (h : CmdHdr) (units addr : Nat) (s : State) : Answer :=
  act listWork (engine h 0x04 0 (listExecBad h units addr) (listExec h units addr)) s

/-! ## Dispatch -/

/-- Whether a list may be taken by its dispatcher now: whole (R335), the first of its queue that has not started (R340), after every
earlier list when it carries ORDER (R341), its queue ACTIVE (R375), its room below LIST_QUOTA (R364). Log 43 (DEDUCED). -/
def dispatchable (s : State) (r : ListRec) : Bool :=
  let before := (s.lists.takeWhile (fun x => !(x.fn == r.fn && x.queue == r.queue && x.list == r.list))).filter
    (fun x => x.fn == r.fn && x.queue == r.queue)
  r.whole && r.st == .ready && (r.inFlight || ((queue s r.fn r.queue).st == .active && decide (inFlight s r.room r.cls < listQuota (room s r.room) r.cls))) &&
    before.all (fun x => x.st != .ready) && (!r.order || before.isEmpty)

/-- The number in a list that comes next after the one served last, going round (R363). -/
def nextInTurn (last : Nat) (l : List Nat) : Option Nat :=
  match sleast l (fun x => decide (last < x)) with
  | some x => some x
  | none => sleast l (fun _ => true)

/-- Lists of a class that wait for a tile: woken ones and dispatchable ones. -/
def waitingLists (s : State) (cls : Nat) : List ListRec :=
  s.lists.filter (fun r => r.cls == cls && (r.st == .woken || dispatchable s r))

/-- The room whose turn it is for a class (R363). Log 43 (DEDUCED). -/
def turnRoom (s : State) (cls : Nat) : Option Nat := nextInTurn (mget s.rrRoom cls 256) ((waitingLists s cls).map (fun r => r.room))

/-- The list that a room's turn takes: one that was woken first (R365), else its queues in turn (R363). Log 43 (DEDUCED). -/
def turnList (s : State) (cls rm : Nat) : Option ListRec :=
  let l := (waitingLists s cls).filter (fun r => r.room == rm)
  match l.find? (fun r => r.st == .woken) with
  | some r => some r
  | none =>
    match nextInTurn (mget s.rrQueue (cls * 256 + rm) 2000000) (l.map (fun r => qkey r.fn r.queue)) with
    | some k => l.find? (fun r => qkey r.fn r.queue == k)
    | none => none

/-- The die that R360 picks for a list. Log 43 (DEDUCED). -/
def pickDie (s : State) (r : ListRec) : Nat :=
  let port := fnPort r.fn / 4
  match r.dest with
  | some (true, a) => (homeDie s a).getD port
  | some (false, d) => (match xlateDva (room s r.room) d .write with
    | .ok a => (homeDie s a).getD port
    | .error _ => port)
  | none => port

/-- Lists on a tile. -/
def tileLoad (s : State) (t : Nat) : Nat := (s.lists.filter (fun r => r.tile == some t)).length

/-- The tile that takes a list: on the picked die the available one with the least work, then an idle one of the other die (R361,
R362). Log 43 (DEDUCED). -/
def pickTile (s : State) (cls die : Nat) : Option Nat :=
  let here := (classTiles cls).filter (fun t => t / 32 == die && tileAvail s t)
  let there := (classTiles cls).filter (fun t => t / 32 != die && tileAvail s t && tileLoad s t == 0)
  match sleast here (fun t => tileLoad s t == 0) with
  | some t => some t
  | none =>
    match sleast here (fun t => tileLoad s t == 1) with
    | some t => some t
    | none => sleast there (fun _ => true)

/-- LIST_DISPATCH: the room's list goes to a tile when it is the room's turn (R360 to R364); an empty class is recorded (R32). -/
def listDispatch (cls rm : Nat) (s : State) : State :=
  let s := if (waitingLists s cls).isEmpty then s else classCheck cls s
  if turnRoom s cls = some rm then
    match turnList s cls rm with
    | none => s
    | some r =>
      match pickTile s cls (pickDie s r) with
      | none => s
      | some t =>
        let s1 := setList { r with
          inFlight := true, tile := some t, die := some (t / 32), st := if tileLoad s t = 0 then .onTile else .behind } s
        { s1 with rrRoom := mset s1.rrRoom cls rm, rrQueue := mset s1.rrQueue (cls * 256 + rm) (qkey r.fn r.queue) }
  else s

/-- LIST_DISPATCH (R361). -/
def execListDispatch (cls room : Nat) (s : State) : Answer := act (reports ++ [.lists, .rrRoom, .rrQueue]) (listDispatch cls room) s

/-! ## Waits -/

/-- Whether a work request that a list posted is in flight (R458). -/
def postInFlight (s : State) (r : ListRec) : Bool :=
  s.qps.any (fun p => p.2.ops.any (fun o => match o.post with
    | some h => h.fn == r.fn && h.queue == r.queue && h.list == r.list
    | none => false))

/-- A list that waits at an XFER_POST until it can post (R458). -/
def postWaits (s : State) (r : ListRec) : Bool :=
  (match r.cur with | some (_, op) => op == 0x22 && r.cls == 0 && r.waitLantern == 0xFFFF | none => false) && !postInFlight s r

/-- PARKED_LIST_WAKE: a wait that is met, or whose lantern is at FAULT, ends the parking (R355, R356, R365). -/
def parkedWake (fn q l : Nat) (s : State) : State :=
  match findList s fn q l with
  | none => s
  | some r =>
    let x := lantern s r.room r.waitLantern
    let met := waitMet x r.waitTarget r.waitIgnore
    let wake := (r.waitLantern ≠ 0xFFFF && (met || (x.fault && !r.waitIgnore))) || postWaits s r
    if !wake then s
    else
      match r.st with
      | .parked => bump (0x250110 + 0x40 * r.cls) (setList { r with st := .woken, waitMet := met, cur := if met then none else r.cur } s)
      | .stuck => setList { r with st := .onTile, waitMet := met, parkFull := false, cur := if met then none else r.cur } s
      | _ => s

/-- PARKED_LIST_WAKE (R365). -/
def execParkedListWake (fn queue list : Nat) (s : State) : Answer := act [.cnt, .lists] (parkedWake fn queue list) s

/-- WAIT_TIMEOUT: the wait is not met WAIT_TIMEOUT µs after the list reached its command, which fails (R357). -/
def waitTimeout (fn q l : Nat) (s : State) : State :=
  match findList s fn q l with
  | none => s
  | some r =>
    if (r.st == .parked || r.st == .stuck) && decide (r.waitMax ≠ 0) && reached (r.waitSince + BitVec.ofNat 64 (r.waitMax * 16000)) (elapsed s) && !waitMet (lantern s r.room r.waitLantern) r.waitTarget r.waitIgnore then
      match r.cur with
      | some (h, op) => failCmd h op r { status := 0x40 } s
      | none => s
    else s

/-- WAIT_TIMEOUT (R357). -/
def execWaitTimeout (fn queue list : Nat) (s : State) : Answer := act listWork (waitTimeout fn queue list) s

/-! ## The lantern window -/

/-- LANTERN_HOST_ADD: ADD 1 adds to COUNT (R377). -/
def lanternHostAdd (fn l value : Nat) (s : State) : State :=
  match roomOf s fn with
  | some rm => modLanternReg rm l (fun x => { x with count := x.count + BitVec.ofNat 32 value }) s
  | none => s

/-- LANTERN_HOST_ADD (R377). -/
def execLanternHostAdd (fn lantern value : Nat) (s : State) : Answer := act [.rooms] (lanternHostAdd fn lantern value) s

/-- LANTERN_HOST_SET: ADD 0 sets COUNT and FAULT, or the half that a 4 B write covers (R377, R1048). -/
def lanternHostSet (fn l : Nat) (part : Part) (value : Nat) (fault : Bool) (s : State) : State :=
  match roomOf s fn with
  | some rm =>
    modLanternReg rm l (fun x => match part with
      | .full => { count := BitVec.ofNat 32 value, fault := fault }
      | .low => { x with count := BitVec.ofNat 32 value }
      | .high => { x with fault := fault }
      | .bytes _ => x) s
  | none => s

/-- LANTERN_HOST_SET (R377). -/
def execLanternHostSet (fn lantern : Nat) (part : Part) (value : Nat) (fault : Bool) (s : State) : Answer :=
  act [.rooms] (byPart part (fun p s => lanternHostSet fn lantern p value fault s)) s

/-! ## Tiles -/

/-- TILE_ENABLE_WRITE: an armed write takes tiles in or out of dispatch; a ready list behind a tile goes back (R378, R1054, R1055). -/
def tileEnableWrite (fn : Nat) (v : Word) (s : State) : State :=
  if !isInn s fn then s
  else if armed s 5 then
    let s1 := disarm 5 (wr 0x250000 v s)
    classChecks ((List.range 64).foldl (fun s t => if v.getLsbD t then s else requeueBehind t s) s1)
  else if rd s 0x250000 0xFFFFFFFFFFFFFFFF = v then s
  else silent s

/-- TILE_ENABLE_WRITE (R378). -/
def execTileEnableWrite (fn : Nat) (value : Word) (s : State) : Answer := act (reports ++ [.regs, .arms, .lists]) (tileEnableWrite fn value) s

/-- TILE_TRAP: the microcode word is in error (R963, R974), and the tile halts (R373). A word that waits for its reload is a repeat. -/
def tileTrap (t off : Nat) (s : State) : State :=
  if 64 ≤ t || s.tilesHalted.contains t then s
  else
    let u := 80 + t / 32
    let m := 18 + t / 32
    let acc : Access := { code := 2 }
    let s1 :=
      if s.errs.codeBad.contains (u, off) then memRecord acc 4 u m 0 false (bump (0x440300 + 8 * m) s)
      else latchNew acc 3 u m 0 (bump (0x440200 + 8 * m) (modErrs (fun e => { e with codeBad := (u, off) :: e.codeBad }) s))
    classChecks (haltTile t s1)

/-- TILE_TRAP (R373). -/
def execTileTrap (tile offset : Nat) (s : State) : Answer := act (listWork ++ [.tilesHalted, .fports, .lanes, .objNow]) (tileTrap tile offset) s

end Sys2Proof.Machine
end

