-- ==== Sys2Proof/Machine/Fws.lean ====
section
/-! DEFINITION. Numbers: the formats of R502 and R646, rounding (R526, R527), the generator (R626), correctly rounded binary
arithmetic (R532, R616, R617), and the lanes of the fixed-window sum (R505 to R529). -/

namespace Sys2Proof.Machine

open Sys2Proof

/-! ## Formats and values -/

/-- A binary format: bits of a code, mantissa bits, least normal exponent, code of the largest finite value, codes of infinity and of the
canonical NaN, all without the sign bit (R502, R646). -/
structure Fmt where
  bits : Nat
  pm : Nat
  emin : Int
  maxc : Nat
  inf : Option Nat
  nan : Nat
  deriving DecidableEq, Repr

/-- FP32. -/
def fp32 : Fmt := ⟨32, 23, -126, 0x7F7FFFFF, some 0x7F800000, 0x7FC00000⟩
/-- BF16. -/
def bf16 : Fmt := ⟨16, 7, -126, 0x7F7F, some 0x7F80, 0x7FC0⟩
/-- FP16. -/
def fp16 : Fmt := ⟨16, 10, -14, 0x7BFF, some 0x7C00, 0x7E00⟩
/-- FP8 E4M3. -/
def e4m3 : Fmt := ⟨8, 3, -6, 0x7E, none, 0x7F⟩
/-- FP8 E5M2. -/
def e5m2 : Fmt := ⟨8, 2, -14, 0x7B, some 0x7C, 0x7F⟩
/-- FP6 E2M3. -/
def e2m3 : Fmt := ⟨6, 3, 0, 0x1F, none, 0⟩
/-- FP6 E3M2. -/
def e3m2 : Fmt := ⟨6, 2, -2, 0x1F, none, 0⟩
/-- FP4 E2M1. -/
def e2m1 : Fmt := ⟨4, 1, 0, 7, none, 0⟩
/-- IEEE 754 binary64, in which the update engines form their constants (R617). -/
def fp64 : Fmt := ⟨64, 52, -1022, 0x7FEFFFFFFFFFFFFF, some 0x7FF0000000000000, 0x7FF8000000000000⟩

/-- The binary format of a format code (R502, R646); the integer codes have none and answer FP32. -/
def fmtOf : Nat → Fmt
  | 0 => fp32 | 1 => bf16 | 2 => fp16 | 3 => e4m3 | 4 => e5m2 | 5 => e4m3 | 6 => e5m2 | 7 => e2m3 | 8 => e3m2 | 9 => e2m1
  | _ => fp32

/-- Bits of an element of a format code (R646). -/
def fmtBits : Nat → Nat
  | 10 => 8 | 11 => 8 | 12 => 32 | c => (fmtOf c).bits

/-- An MX format code. -/
def isMx (c : Nat) : Bool := decide (5 ≤ c) && decide (c ≤ 10)

/-- A number: a NaN, an infinity, or (−1)^neg × m × 2^q. -/
inductive FV where
  | nan
  | inf (neg : Bool)
  | fin (neg : Bool) (m : Nat) (q : Int)
  deriving DecidableEq, Repr

/-- Two to a power, for whole exponents at or above zero. -/
def pow2 (k : Int) : Nat := 2 ^ k.toNat

/-- The sign bit of a code. -/
def Fmt.sign (f : Fmt) (c : Nat) : Bool := c / 2 ^ (f.bits - 1) % 2 == 1

/-- The value of a code of a binary format (R518, R646). -/
def Fmt.value (f : Fmt) (c : Nat) : FV :=
  let k := c % 2 ^ (f.bits - 1)
  if f.maxc < k then (if f.inf = some k then .inf (f.sign c) else .nan)
  else
    let e := k / 2 ^ f.pm
    let lsb := f.emin - f.pm
    if e = 0 then .fin (f.sign c) k lsb else .fin (f.sign c) (2 ^ f.pm + k % 2 ^ f.pm) (lsb + (e - 1 : Nat))

/-- A two's complement integer of n bits. -/
def intOf (n c : Nat) : Int := if c % 2 ^ n < 2 ^ (n - 1) then (c % 2 ^ n : Nat) else (c % 2 ^ n : Nat) - (2 ^ n : Nat)

/-- An integer as a number, scaled by a power of two. -/
def fvInt (i : Int) (q : Int) : FV := .fin (decide (i < 0)) i.natAbs q

/-- The value of an element of a format code, without a block scale (R646, R661). -/
def elemValue (code c : Nat) : FV :=
  match code with
  | 10 => fvInt (intOf 8 c) (-6)
  | 11 => fvInt (intOf 8 c) 0
  | 12 => fvInt (intOf 32 c) 0
  | n => (fmtOf n).value c

/-- A value times a power of two. -/
def FV.scale (v : FV) (k : Int) : FV :=
  match v with
  | .fin n m q => .fin n m (q + k)
  | x => x

/-- The value of an MX element under its block's scale byte (R647, R661). -/
def mxValue (code c x : Nat) : FV := if x = 255 then .nan else (elemValue code c).scale ((x : Int) - 127)

/-- Whether a number is finite. -/
def FV.isFin : FV → Bool
  | .fin _ _ _ => true
  | _ => false

/-- Whether a number is a zero. -/
def FV.isZero : FV → Bool
  | .fin _ m _ => m == 0
  | _ => false

/-- ⌊log₂|x|⌋ of a finite nonzero number. -/
def FV.exp : FV → Int
  | .fin _ m q => (Nat.log2 m : Int) + q
  | _ => 0

/-- Whether a number is negative; zeros and NaN are not. -/
def FV.isNeg : FV → Bool
  | .fin n m _ => n && m != 0
  | .inf n => n
  | .nan => false

/-- The negative of a number. -/
def FV.neg : FV → FV
  | .fin n m q => .fin (!n) m q
  | .inf n => .inf (!n)
  | .nan => .nan

/-! ## Rounding -/

/-- How a value is rounded: to nearest with ties to even, or by 16 random bits (R526, R527). -/
inductive Rnd where
  | even
  | sr (r16 : Nat)
  deriving DecidableEq, Repr

/-- A × 2⁻ᵈ rounded to nearest, ties to even (R526). -/
def rne (a d : Nat) : Nat :=
  let r := a / 2 ^ d
  let rem := a % 2 ^ d
  if 2 ^ d < 2 * rem || (2 * rem == 2 ^ d && r % 2 == 1) then r + 1 else r

/-- A × 2⁻ᵈ rounded by 16 random bits against the 16 highest dropped bits (R527). -/
def roundSr (a d r16 : Nat) : Nat :=
  let top := if 16 ≤ d then a % 2 ^ d / 2 ^ (d - 16) else a % 2 ^ d * 2 ^ (16 - d)
  a / 2 ^ d + (top + r16) / 2 ^ 16

/-- Round by either method. -/
def Rnd.round (r : Rnd) (a d : Nat) : Nat :=
  match r with
  | .even => rne a d
  | .sr r16 => roundSr a d r16

/-- m × 2^k rounded to an integer. -/
def roundInt (r : Rnd) (m : Nat) (k : Int) : Nat := if 0 ≤ k then m * pow2 k else r.round m (-k).toNat

/-- The magnitude code of m × 2^q rounded into a format; a code above the format's largest finite one is an overflow (R525). -/
def Fmt.mag (f : Fmt) (r : Rnd) (m : Nat) (q : Int) : Nat :=
  if m = 0 then 0
  else
    let e := (Nat.log2 m : Int) + q
    let lsb := (if f.emin < e then e else f.emin) - f.pm
    (lsb - (f.emin - f.pm)).toNat * 2 ^ f.pm + roundInt r m (q - lsb)

/-- A magnitude code with a sign. -/
def Fmt.signed (f : Fmt) (neg : Bool) (c : Nat) : Nat := b2n neg * 2 ^ (f.bits - 1) + c

/-- The flags of a conversion: bit 0 OVERFLOW, bit 1 NONFINITE, bit 2 TINY (R535). -/
abbrev Flags := Nat

/-- Round a finite value into a format and saturate: the code and its flags (R525, R528, R529). -/
def Fmt.sat (f : Fmt) (r : Rnd) (neg : Bool) (m : Nat) (q : Int) : Nat × Flags :=
  let c := f.mag r m q
  if f.maxc < c then (f.signed neg f.maxc, 1)
  else (f.signed neg c, if c = 0 && m != 0 then 4 else 0)

/-- The code of a value as IEEE 754 rounds it, to nearest, ties to even: overflow goes to infinity. -/
def Fmt.ieee (f : Fmt) (v : FV) : Nat :=
  match v with
  | .nan => f.nan
  | .inf n => f.signed n (f.inf.getD f.maxc)
  | .fin n m q =>
    let c := f.mag .even m q
    f.signed n (if f.maxc < c then f.inf.getD f.maxc else c)

/-- A value rounded into a format. -/
def FV.into (v : FV) (f : Fmt) : FV := f.value (f.ieee v)

/-! ## Exact and correctly rounded operations -/

/-- A magnitude with a sign. -/
def signedInt (neg : Bool) (m : Nat) : Int := if neg then -(m : Int) else m

/-- The exact sum of two numbers, with the zero signs of R532. -/
def FV.add (a b : FV) : FV :=
  match a, b with
  | .nan, _ => .nan
  | _, .nan => .nan
  | .inf x, .inf y => if x = y then .inf x else .nan
  | .inf x, _ => .inf x
  | _, .inf y => .inf y
  | .fin x m p, .fin y n q =>
    let k := if p < q then p else q
    let i : Int := signedInt x (m * pow2 (p - k)) + signedInt y (n * pow2 (q - k))
    .fin (if i = 0 then x && y else decide (i < 0)) i.natAbs k

/-- The exact product. -/
def FV.mul (a b : FV) : FV :=
  match a, b with
  | .nan, _ => .nan
  | _, .nan => .nan
  | .inf x, .inf y => .inf (x != y)
  | .inf x, .fin y n _ => if n = 0 then .nan else .inf (x != y)
  | .fin x m _, .inf y => if m = 0 then .nan else .inf (x != y)
  | .fin x m p, .fin y n q => .fin (x != y) (m * n) (p + q)

/-- The quotient, exact to the bits any format keeps, with a last bit that stands for what lies below them. -/
def FV.div (a b : FV) : FV :=
  match a, b with
  | .nan, _ => .nan
  | _, .nan => .nan
  | .inf _, .inf _ => .nan
  | .inf x, .fin y _ _ => .inf (x != y)
  | .fin x _ _, .inf y => .fin (x != y) 0 0
  | .fin x m p, .fin y n q =>
    if n = 0 then (if m = 0 then .nan else .inf (x != y))
    else
      let k := 66 + Nat.log2 n
      let t := m * 2 ^ k
      .fin (x != y) (2 * (t / n) + b2n (t % n != 0)) (p - q - k - 1)

/-- The integer square root, bit by bit from bit n − 1 down. -/
def isqrt : Nat → Nat → Nat → Nat
  | 0, _, r => r
  | n + 1, a, r => isqrt n a (if (r + 2 ^ n) * (r + 2 ^ n) ≤ a then r + 2 ^ n else r)

/-- The square root, in the same form as the quotient; −0 gives −0, other negative numbers give a NaN. -/
def FV.sqrt (a : FV) : FV :=
  match a with
  | .nan => .nan
  | .inf n => if n then .nan else .inf false
  | .fin n m q =>
    if m = 0 then .fin n 0 0
    else if n then .nan
    else
      let odd := q % 2 != 0
      let t := (if odd then 2 * m else m) * 2 ^ 132
      let r := isqrt (Nat.log2 t / 2 + 1) t 0
      .fin false (2 * r + b2n (r * r != t)) ((if odd then q - 1 else q) / 2 - 66 - 1)

/-- a × b + c, rounded once (R616). -/
def FV.fma (f : Fmt) (a b c : FV) : FV := ((a.mul b).add c).into f

/-- The magnitude of a number. -/
def FV.abs : FV → FV
  | .fin _ m q => .fin false m q
  | .inf _ => .inf false
  | .nan => .nan

/-- a > b for numbers; false when either is a NaN. -/
def FV.gt (a b : FV) : Bool :=
  match a, b with
  | .nan, _ => false
  | _, .nan => false
  | .inf true, _ => false
  | .inf false, .inf false => false
  | .inf false, _ => true
  | .fin _ _ _, .inf y => y
  | x, y => (y.add x.neg).isNeg

/-- The number one. -/
def FV.one : FV := .fin false 1 0

/-- The number zero. -/
def FV.zero : FV := .fin false 0 0

/-! ## The generator -/

/-- mix() of R626, modulo 2⁶⁴. -/
def mix (z : Word) : Word :=
  let a := (z ^^^ (z >>> 30)) * 0xBF58476D1CE4E5B9
  let b := (a ^^^ (a >>> 27)) * 0x94D049BB133111EB
  b ^^^ (b >>> 31)

/-- The rounding generator rgen() of R626. -/
def rgen (key ctr : Word) : Word := mix (key ^^^ mix (ctr + 0x9E3779B97F4A7C15))

/-- The rounding of an element: to nearest, or by bits 15–0 of the generator (R525, R527). -/
def rndOf (stochastic : Bool) (seed : Word) (i : Nat) : Rnd :=
  if stochastic then .sr ((rgen seed (BitVec.ofNat 64 i)).toNat % 65536) else .even

/-! ## Arrays of elements -/

/-- Element codes of a bit string: element j occupies bits wj to wj + w − 1 (R648). -/
def unpack (w n : Nat) (l : List Byte) : List Nat :=
  let v := ofLe l
  (List.range n).map (fun j => v / 2 ^ (w * j) % 2 ^ w)

/-- Element codes as a bit string. -/
def pack (w : Nat) (l : List Nat) : List Byte :=
  leBytes ((w * l.length + 7) / 8) (l.foldr (fun c v => c % 2 ^ w + 2 ^ w * v) 0)

/-- Bytes that n elements of a format take. -/
def fmtBytes (code n : Nat) : Nat := (fmtBits code * n + 7) / 8

/-- Bytes of whole blocks that n elements of an MX format take (R649). -/
def mxBytes (code n : Nat) : Nat := (n + 31) / 32 * (fmtBits code * 4)

/-! ## The fixed-window sum -/

/-- The FWS_CTRL word of a reduction (R499) and its SEED. -/
structure FwsCtrl where
  outFmt : Nat
  inFmt : Nat
  stochastic : Bool
  wide : Bool
  float : Bool
  seed : Word
  deriving DecidableEq, Repr

/-- The fields of an FWS_CTRL word. -/
def fwsOf (w : Nat) (seed : Word) : FwsCtrl :=
  ⟨fld w 19 16, fld w 15 12, fld w 3 3 == 1, fld w 2 2 == 1, fld w 0 0 == 1, seed⟩

/-- What makes an FWS_CTRL word malformed: R503, R504, and its reserved bits (R499, R500). -/
def fwsBad (w : Nat) (seed : Word) (floatOk : Bool) : Option Nat :=
  let c := fwsOf w seed
  if c.float && !floatOk then some 6
  else if fld w 63 20 ≠ 0 || fld w 11 4 ≠ 0 || fld w 1 1 ≠ 0 || (!c.stochastic && seed ≠ 0) then some 1
  else if 10 < c.inFmt || 5 ≤ c.outFmt || (!c.float && c.inFmt == 0 && !c.wide) ||
      (c.float && (5 ≤ c.inFmt || c.outFmt != c.inFmt || c.stochastic || c.wide)) then some 4
  else none

/-- BEXP of a block of values in formats 0 to 4 (R507). -/
def bexp (l : List FV) : Nat :=
  l.foldl (fun a v =>
    if v.isFin && !v.isZero then Nat.max a (if v.exp + 127 < 1 then 1 else (v.exp + 127).toNat) else a) 0

/-- e_max of the MX formats (R508). -/
def eMax : Nat → Nat
  | 5 => 8 | 6 => 15 | 7 => 2 | 8 => 4 | 9 => 2 | _ => 1

/-- BEXP of an MX block, from its scale (R508). -/
def bexpMx (code x : Nat) : Nat := if x = 255 then 0 else Nat.min 254 (Nat.max 1 (x + eMax code))

/-- Bits of a lane (R514). -/
def laneW (wide : Bool) : Nat := if wide then 64 else 32

/-- F of a lane (R514). -/
def laneF (wide : Bool) : Int := if wide then 47 else 23

/-- The window exponent of a block (R509). -/
def winExp (g : Nat) : Int := (Nat.max g 1 : Nat) - 127

/-- The sentinel NF of W-bit lanes (R515). -/
def laneNf (w : Nat) : Int := -(2 ^ (w - 1) : Nat)

/-- The sentinel +SAT (R515). -/
def laneSat (w : Nat) : Int := (2 ^ (w - 1) - 1 : Nat)

/-- The lane of a contribution's element, under the block's G (R517, R518). -/
def laneOf (wide mx : Bool) (g : Nat) (v : FV) : Int :=
  match v with
  | .fin n m q =>
    if m = 0 then 0
    else if mx && 127 < v.exp then laneNf (laneW wide)
    else
      let l := roundInt .even m (q - winExp g + laneF wide)
      if n then -(l : Int) else l
  | _ => laneNf (laneW wide)

/-- Fold two lanes of W bits (R521). -/
def foldLane (w : Nat) (a b : Int) : Int :=
  if a = laneNf w ∨ b = laneNf w then laneNf w
  else if (a = laneSat w ∧ b = -laneSat w) ∨ (a = -laneSat w ∧ b = laneSat w) then laneNf w
  else if a = laneSat w ∨ a = -laneSat w then a
  else if b = laneSat w ∨ b = -laneSat w then b
  else if laneSat w ≤ a + b then laneSat w
  else if a + b ≤ -laneSat w then -laneSat w
  else a + b

/-- The final conversion of a lane: the code in the output format and its flags (R525, R528, R529). -/
def finalLane (wide : Bool) (g outFmt : Nat) (r : Rnd) (x : Int) : Nat × Flags :=
  let f := fmtOf outFmt
  let w := laneW wide
  if x = laneNf w then (f.nan, 2)
  else if x = laneSat w then (f.maxc, 1)
  else if x = -laneSat w then (f.signed true f.maxc, 1)
  else f.sat r (decide (x < 0)) x.natAbs (winExp g - laneF wide)

/-- A lane as an unsigned code of W bits (R516). -/
def laneCode (w : Nat) (x : Int) : Nat := (x % (2 ^ w : Nat)).toNat

/-! ## Float mode -/

/-- One fold of float mode: the exact sum rounded once into the format (R532). -/
def floatFold (fmt a b : Nat) : Nat × Flags :=
  let f := fmtOf fmt
  match (f.value a).add (f.value b) with
  | .nan => (f.nan, 2)
  | .inf n => (f.signed n (f.inf.getD f.maxc), 2)
  | .fin n m q =>
    let c := f.mag .even m q
    if f.maxc < c then
      (match f.inf with
      | some i => (f.signed n i, 3)
      | none => (f.signed n f.maxc, 1))
    else (f.signed n c, 0)

/-- An element that no fold has touched (R1139). -/
def floatLone (fmt a : Nat) : Nat × Flags :=
  let f := fmtOf fmt
  match f.value a with
  | .nan => (f.nan, 2)
  | .inf _ => (a, 2)
  | .fin _ _ _ => (a, 0)

end Sys2Proof.Machine
end

