-- ==== Sys2Proof/Machine/Harbour.lean ====
section
/-! DEFINITION. Harbour units in use (R195 to R200, R1141). What holds units is a list, a chunk open at a node, or a round; what they use is counted
from those holders, so units return when their holder ends (R196). -/

namespace Sys2Proof.Machine

open Sys2Proof

/-- The die of a list's tile. -/
def listDie (r : ListRec) : Nat := match r.tile with | some t => t / 32 | none => r.die.getD 0

/-- A sum over a list. -/
def sumOf {α : Type} (f : α → Nat) (l : List α) : Nat := l.foldl (fun a x => a + f x) 0

/-- Units that a pool uses on a die: a room, or 256 for the transit pool. Log 37 (DESIGN CHOICE). -/
def usedUnits (s : State) (d pool : Nat) : Nat :=
  sumOf (fun r => if r.room = pool && listDie r = d then r.hunits.length else 0) s.lists +
  sumOf (fun n => sumOf (fun c => if c.pool = pool && c.die = d then c.units.length else 0) n.chunks) s.coll.nodes +
  sumOf (fun r => if r.pool = pool && r.die = d then r.units.length else 0) s.coll.rounds

/-- The units in use on a die, by number. -/
def heldUnits (s : State) (d : Nat) : List Nat :=
  s.lists.flatMap (fun r => if listDie r = d then r.hunits else []) ++
  s.coll.nodes.flatMap (fun n => n.chunks.flatMap (fun c => if c.die = d then c.units else [])) ++
  s.coll.rounds.flatMap (fun r => if r.die = d then r.units else [])

/-- Units in use on a die. Log 202 (DESIGN CHOICE). -/
def usedOnDie (s : State) (d : Nat) : Nat := (heldUnits s d).length

/-- Whether a unit of a die is lost with its bank, or with the group of its bank (R195, R975). -/
def unitLost (s : State) (d u : Nat) : Bool :=
  (mget s.errs.latches (16 + 32 * d + unitBank u) {}).st == 2 ||
    (decide (12 ≤ unitBank u) && (mget s.doms (128 + 8 * d + unitBank u / 4) {}).st != 2)

/-- The lowest n units of a die, from u on, that are there and not in use. Log 37 (DESIGN CHOICE). -/
def freeUnits (s : State) (d : Nat) (held : List Nat) : Nat → Nat → Nat → List Nat
  | 0, _, _ => []
  | fuel + 1, u, n =>
    if n = 0 then []
    else if held.contains u || unitLost s d u then freeUnits s d held fuel (u + 1) n
    else u :: freeUnits s d held fuel (u + 1) (n - 1)

/-- The first block of a unit of 64 KiB (R175, R1071). -/
def unitBlock (d u : Nat) : Nat := 0xF00000000 + 0x8000 * d + 16 * u

/-- An engine takes n units of a die: which ones, with their valid bits cleared (R197). Log 37 (DESIGN CHOICE). -/
def takeUnits (d n : Nat) (s : State) : List Nat × State :=
  let l := freeUnits s d (heldUnits s d) 1856 0 n
  (l, { s with mem := l.foldl (fun m u => clearBlocks m (unitBlock d u) 16) s.mem })

/-- The whole of a pool on a die (R194, R195). -/
def poolSize (s : State) (d pool : Nat) : Nat := if pool = 256 then transitPool s d else (room s pool).resv d

/-- Units that a pool can give now: within its size (R199) and the die's capacity (R195). Log 37 (DESIGN CHOICE). -/
def poolFree (s : State) (d pool : Nat) : Nat :=
  Nat.min (poolSize s d pool - usedUnits s d pool) (dieCap s d - usedOnDie s d)

/-- A waiter that still waits. -/
def HarbourWait.alive (s : State) (w : HarbourWait) : Bool :=
  match w.chunk with
  | none => (findList s w.fn w.queue w.list).isSome
  | some (i, e, t, k) => s.coll.nodes.any (fun n => n.itin == i && n.epoch == e && n.chunks.any (fun c => c.tree == t && c.chunk == k && !c.opened))

/-- The waiters of a pool that have a place in its order: those whose need the pool could ever hold (R1141). -/
def waitersOf (s : State) (d pool : Nat) : List HarbourWait :=
  (mget s.mem.waits (poolKey d pool) []).filter (fun w => w.alive s && decide (w.units ≤ poolSize s d pool))

/-- Keep of a state only what asking for units may change. -/
def unitsOnly (s r : State) : State := { ledgerOnly s r with mem := r.mem }

/-- Ask for units: true when they can be taken now, else the asker waits in its place (R35, R1141); a need above the room's reservation is
recorded once until the reservation is raised (R198). Log 37 (DESIGN CHOICE). -/
def askUnits (d pool : Nat) (w : HarbourWait) (s : State) : Bool × State :=
  let k := poolKey d pool
  let l := mget s.mem.waits k []
  if l.contains w then (false, s)
  else if w.units ≤ poolFree s d pool && (waitersOf s d pool).isEmpty then (true, s)
  else
    let s1 : State := { s with mem := { s.mem with waits := mset s.mem.waits k (l ++ [w]) } }
    if pool ≠ 256 && poolSize s d pool < w.units && !s.mem.starved.contains k then
      (false, unitsOnly s (ledgerRoom pool { kind := 0x24, d0 := w.units }
        (raise 1 0 { s1 with mem := { s1.mem with starved := sadd s1.mem.starved k } })))
    else (false, unitsOnly s s1)

/-- Whether a unit of a die lies in a bank that is in FATAL (R975). -/
def unitDead (s : State) (d u : Nat) : Bool := (mget s.errs.latches (16 + 32 * d + unitBank u) {}).st == 2

/-- What work meets that holds units of a die: an uncorrectable error where one of their banks is in FATAL (R975), and a wait where one is frozen (R211). Log 170 (DEDUCED). -/
def unitsStop (s : State) (d : Nat) (us : List Nat) : Option DErr :=
  match us.find? (unitDead s d) with
  | some u => some (.bad (.dead (unitBlock d u * 4096)))
  | none => if us.any (fun u => s.mem.frozen.contains (16 + 32 * d + unitBank u)) then some .held else none

/-- The record of an uncorrectable error in units that work of a room holds (R965, R975). -/
def unitsMeet (rm object : Nat) (e : DErr) (s : State) : State :=
  match e with
  | .bad b => dataOnly s (meetBad { code := 5, room := some rm, object := object } b s)
  | _ => s

/-- A running list holds units for its command (R615, R656); the command runs once it holds them, while their banks serve it (R211, R975). -/
def withUnits (n : Nat) (h : CmdHdr) (body : ListRec → State → CEnd × State) (r : ListRec) (s : State) : CEnd × State :=
  if n ≤ r.hunits.length then
    (match unitsStop s (listDie r) r.hunits with
    | some e => ({ stopEnd (e, match r.prog with | some p => p.bytes | none => 0) with stall := e.waits }, unitsMeet r.room h.index e s)
    | none => body r s)
  else
    let a := askUnits (listDie r) r.room { fn := h.fn, queue := h.queue, list := h.list, units := n } s
    let t := takeUnits (listDie r) n a.2
    if a.1 then body { r with hunits := t.1 } (setList { r with hunits := t.1 } t.2)
    else ({ stall := true }, a.2)

/-- The first command that a pool's order serves now: the oldest waiter, if its need is free (R1141). Log 38 (DESIGN CHOICE). -/
def nextGrant (s : State) (d pool : Nat) : Option HarbourWait :=
  match waitersOf s d pool with
  | [] => none
  | w :: _ => if w.units ≤ poolFree s d pool then some w else none

/-- A waiter's place in the order ends. Log 38 (DESIGN CHOICE). -/
def dropWaiter (d pool : Nat) (w : HarbourWait) (s : State) : State :=
  { s with mem := { s.mem with waits := mmod s.mem.waits (poolKey d pool) [] (fun l => l.filter (fun x => x != w && x.alive s)) } }

end Sys2Proof.Machine
end

