-- ==== Sys2Proof/Machine/Update.lean ====
section
/-! DEFINITION. The update engines (R605 to R641): SGD, AdamW, Lion, LAMB and the scaled accumulate. -/

namespace Sys2Proof.Machine

open Sys2Proof

/-! ## Layout and operands -/

/-- An FP32 operand as a number. -/
def f32 (c : Nat) : FV := fp32.value c

/-- A size padded to 4 KiB. -/
def pad4k (n : Nat) : Nat := (n + 4095) / 4096 * 4096

/-- Bytes of an element of the state arrays S1 and S2. -/
def updSz (u : UpdArgs) : Nat := if u.stateFmt = 1 then 2 else 4

/-- The address of element i of W (R606). -/
def updWAt (u : UpdArgs) (i : Nat) : Nat := u.base + 4096 + 4 * i

/-- The address of element i of S1 (R606). -/
def updS1At (u : UpdArgs) (i : Nat) : Nat := u.base + 4096 + pad4k (4 * u.count) + (updSz u) * i

/-- The address of element i of S2 (R606). -/
def updS2At (u : UpdArgs) (i : Nat) : Nat := u.base + 4096 + pad4k (4 * u.count) + pad4k ((updSz u) * u.count) + (updSz u) * i

/-- Phase 1 of UPD_LAMB, where the gradient operands are reserved (R612). -/
def updApply (u : UpdArgs) (op : Nat) : Bool := op == 0x23 && u.phase == 1

/-- Zero or more. -/
def FV.nonneg (v : FV) : Bool := !v.isNeg

/-- The range of a decay factor: 0 ≤ β < 1, or ≤ 1. -/
def betaOk (v : FV) (one : Bool) : Bool := v.isFin && v.nonneg && (if one then !v.gt FV.one else FV.one.gt v)

/-- LR × WD ≤ 1, exactly. -/
def decayOk (lr wd : FV) : Bool := !(lr.mul wd).gt FV.one

/-- Operands that a kernel reserves and that must be zero (R611, R612). Log 97 (DEDUCED). -/
def updReserved (op : Nat) (u : UpdArgs) : Bool :=
  (op == 0x24 && (u.lr != 0 || u.eps != 0 || u.wd != 0)) || ((op == 0x20 || op == 0x22) && u.eps != 0) ||
  (op != 0x20 && u.nesterov) || (op != 0x23 && (u.phase != 0 || u.segments != 0)) ||
  (!u.outSr && u.stateFmt == 0 && u.seed != 0) ||
  (updApply u op && (u.grad != 0 || u.gradFmt != 0 || u.gscale != 0 || u.maxNorm != 0 || u.norm != 0 || u.inputLantern != 0 || u.inputBase != 0))

/-- The ranges of the kernel operands (R612). -/
def kernelOk (op : Nat) (u : UpdArgs) : Bool :=
  match op with
  | 0x20 => (f32 u.lr).nonneg && betaOk (f32 u.hp1) false && betaOk (f32 u.hp2) false && (f32 u.wd).nonneg &&
      (!u.nesterov || (f32 u.hp1).gt FV.zero)
  | 0x21 => (f32 u.lr).nonneg && betaOk (f32 u.hp1) false && betaOk (f32 u.hp2) false && (f32 u.eps).gt FV.zero && (f32 u.wd).nonneg &&
      decayOk (f32 u.lr) (f32 u.wd)
  | 0x22 => (f32 u.lr).nonneg && betaOk (f32 u.hp1) true && betaOk (f32 u.hp2) false && (f32 u.wd).nonneg && decayOk (f32 u.lr) (f32 u.wd)
  | 0x23 => (f32 u.lr).nonneg && betaOk (f32 u.hp1) false && betaOk (f32 u.hp2) false && (f32 u.eps).gt FV.zero && (f32 u.wd).nonneg
  | _ => u.stateFmt != 1

/-- Element size of the copy. -/
def updOutSz (u : UpdArgs) : Nat := if u.outFmt = 15 then 1 else (fmtOf u.outFmt).bits / 8

/-- The lantern that gates the gradient; none in phase 1 of UPD_LAMB (R612). -/
def updGate (u : UpdArgs) (op : Nat) : Nat := if updApply u op then 0xFFFF else u.inputLantern

/-- What makes an update command malformed (R611 to R613). -/
def updBad (op : Nat) (h : CmdHdr) (u : UpdArgs) (_ : State) (r : Room) : Option Nat :=
  firstBadOf [
    (h.units != 9, 3),
    (updReserved op u, 1),
    ((match operand r u.base with | .dva _ => false | _ => true) || (!updApply u op && operand r u.grad == .bad) ||
      (u.outFmt != 15 && operand r u.out == .bad) || (u.norm != 0 && operand r u.norm == .bad) ||
      (op == 0x23 && operand r u.segments == .bad), 5),
    (u.count == 0 || decide (2 ^ 31 < u.count) || decide (2 < u.gradFmt) || (decide (4 < u.outFmt) && u.outFmt != 15) || decide (1 < u.stateFmt) ||
      (u.outFmt == 15 && (u.outSr || u.out != 0)) || u.chunkElems % 32 != 0 || decide (2 ^ 31 < u.chunkElems) || decide (u.count ≤ u.start) ||
      (if op = 0x23 then u.segCount == 0 || decide (4096 < u.segCount) else u.segCount != 0) ||
      !([u.lr, u.hp1, u.hp2, u.eps, u.wd, u.gscale, u.maxNorm].all (fun c => (f32 c).isFin)) ||
      (!updApply u op && (f32 u.gscale).isZero) || !kernelOk op u ||
      u.base % 4096 != 0 || u.grad % (if u.gradFmt = 0 then 4 else 2) != 0 || u.out % (updOutSz u) != 0 || u.norm % 8 != 0 || u.segments % 8 != 0 ||
      !lanternOk r u.chunkLantern || !lanternOk r (updGate u op), 4)]

/-! ## Constants -/

/-- A binary64 rounding. -/
def FV.r64 (v : FV) : FV := v.into fp64

/-- A binary32 rounding. -/
def FV.r32 (v : FV) : FV := v.into fp32

/-- a − b. -/
def FV.sub (a b : FV) : FV := a.add b.neg

/-- pw() of R617: powering from the highest set bit, in binary64, over bits j − 1 to 0. -/
def pwGo (b : FV) (t : Nat) : Nat → FV → FV
  | 0, p => p
  | j + 1, p =>
    let q := (p.mul p).r64
    pwGo b t j (if nbit t j = 1 then (q.mul b).r64 else q)

/-- pw() of R617. -/
def pw (b : FV) (t : Nat) : FV := pwGo b t 32 FV.one

/-- The constants of a command (R617), each rounded to FP32. -/
structure UpdConst where
  ac : FV
  vc : FV
  c1inv : FV
  wdec : FV
  dampc : FV
  deriving DecidableEq, Repr

/-- The constants at step t (R617). -/
def updConst (u : UpdArgs) (t : Nat) : UpdConst :=
  let c1 := (FV.one.sub (pw (f32 u.hp1) t)).r64
  let c2 := (FV.one.sub (pw (f32 u.hp2) t)).r64
  { ac := ((f32 u.lr).div c1).r64.r32
    vc := (FV.one.div c2.sqrt.r64).r64.r32
    c1inv := (FV.one.div c1).r64.r32
    wdec := (FV.one.sub ((f32 u.lr).mul (f32 u.wd)).r64).r64.r32
    dampc := (FV.one.sub (f32 u.hp2)).r64.r32 }

/-- K of R617, from the sum of squares S. -/
def updK (u : UpdArgs) (s : FV) : FV :=
  let n := ((f32 u.gscale).abs.mul s.sqrt.r64).r64
  let c := if (f32 u.maxNorm).gt FV.zero && n.gt (f32 u.maxNorm) then ((f32 u.maxNorm).div n).r64 else FV.one
  ((f32 u.gscale).mul c).r64.r32

/-! ## One element -/

/-- What a kernel makes of an element: the new W, S1 and S2 (each stored when present) as codes, the values before storing that must be
finite (R631), the squares of R624, and how many stored states saturated (R628). -/
structure ElemOut where
  w : Option Nat := none
  s1 : Option Nat := none
  s2 : Option Nat := none
  raw : List FV
  sq : FV × FV := (FV.zero, FV.zero)
  sat : Nat := 0
  deriving DecidableEq, Repr

/-- rs() of R628: a value rounded to STATE_FMT by 16 draw bits, as its code, its value and whether it saturated. -/
def rsOf (u : UpdArgs) (r16 : Nat) (x : FV) : Nat × FV × Nat :=
  if u.stateFmt = 0 then (fp32.ieee x, x, 0)
  else
    match x with
    | .fin n m q => let c := bf16.sat (.sr r16) n m q; (c.1, bf16.value c.1, c.2 % 2)
    | y => (bf16.ieee y, y, 0)

/-- den and r of R619, R624 and R625, from the stored moments. -/
def lambR (u : UpdArgs) (k : UpdConst) (w m v : FV) : FV :=
  let den := FV.fma fp32 v.sqrt.r32 k.vc (f32 u.eps)
  FV.fma fp32 (f32 u.wd) w (((m.div den).r32).mul k.c1inv).r32

/-- One element of a kernel (R619 to R625): `kk` is K, `phi` LRφ, `draw` the draw of R627. -/
def updElem (op : Nat) (u : UpdArgs) (k : UpdConst) (kk phi : FV) (t draw : Nat) (gr w s1 s2 : FV) : ElemOut :=
  let hp1 := f32 u.hp1
  let hp2 := f32 u.hp2
  let d1 := draw / 2 ^ 16 % 2 ^ 16
  let d2 := draw / 2 ^ 32 % 2 ^ 16
  let gk := (gr.mul kk).r32
  match op with
  | 0x20 =>
    let g := FV.fma fp32 (f32 u.wd) w gk
    if hp1.gt FV.zero then
      let x := if t = 1 then g else FV.fma fp32 hp1 s1 (g.mul k.dampc).r32
      let b := rsOf u d1 x
      let v := if u.nesterov then FV.fma fp32 hp1 b.2.1 g else b.2.1
      let w1 := FV.fma fp32 (f32 u.lr).neg v w
      { w := some (fp32.ieee w1), s1 := some b.1, raw := [g, x, w1], sat := b.2.2 }
    else
      let w1 := FV.fma fp32 (f32 u.lr).neg g w
      { w := some (fp32.ieee w1), raw := [g, w1] }
  | 0x22 =>
    let c := FV.fma fp32 hp1 (s1.sub gk).r32 gk
    let sg := if c.gt FV.zero then FV.one else if c.isNeg then FV.one.neg else FV.zero
    let w1 := FV.fma fp32 (f32 u.lr).neg sg (w.mul k.wdec).r32
    let x := FV.fma fp32 hp2 (s1.sub gk).r32 gk
    let m := rsOf u d1 x
    { w := some (fp32.ieee w1), s1 := some m.1, raw := [gk, w1, x], sat := m.2.2 }
  | 0x24 =>
    let a := if hp2.isZero then (hp1.mul gk).r32 else FV.fma fp32 hp1 gk (w.mul hp2).r32
    { w := some (fp32.ieee a), raw := [gk, a] }
  | _ =>
    if updApply u op then
      let w1 := FV.fma fp32 phi.neg (lambR u k w s1 s2) w
      { w := some (fp32.ieee w1), raw := [w1] }
    else
      let x := FV.fma fp32 hp1 (s1.sub gk).r32 gk
      let g2 := (gk.mul gk).r32
      let y := FV.fma fp32 hp2 (s2.sub g2).r32 g2
      let m := rsOf u d1 x
      let v := rsOf u d2 y
      if op = 0x21 then
        let den := FV.fma fp32 v.2.1.sqrt.r32 k.vc (f32 u.eps)
        let w1 := FV.fma fp32 k.ac.neg (m.2.1.div den).r32 (w.mul k.wdec).r32
        { w := some (fp32.ieee w1), s1 := some m.1, s2 := some v.1, raw := [gk, x, y, w1], sat := m.2.2 + v.2.2 }
      else
        let r := lambR u k w m.2.1 v.2.1
        { s1 := some m.1, s2 := some v.1, raw := [gk, x, y], sq := (w.mul w, r.mul r), sat := m.2.2 + v.2.2 }

/-- Whether a kernel reads W, S1, S2 (R605, R622). -/
def updReads (op : Nat) (u : UpdArgs) : Bool × Bool × Bool :=
  (op != 0x24 || !(f32 u.hp2).isZero, (op == 0x20 && (f32 u.hp1).gt FV.zero) || op == 0x21 || op == 0x22 || op == 0x23, op == 0x21 || op == 0x23)

/-- The state region of a command (R606). -/
def updRegion (op : Nat) (u : UpdArgs) : Nat × Nat :=
  let rd := updReads op u
  (u.base, 4096 + pad4k (4 * u.count) + (if rd.2.1 then pad4k (updSz u * u.count) else 0) + (if rd.2.2 then pad4k (updSz u * u.count) else 0))

/-- GRAD, OUT and SEGMENTS of a command. -/
def updOperands (op : Nat) (u : UpdArgs) : List (Nat × Nat) :=
  (if updApply u op then [] else [(u.grad, (if u.gradFmt = 0 then 4 else 2) * u.count)]) ++
    (if u.outFmt = 15 then [] else [(u.out, updOutSz u * u.count)]) ++
    (if op = 0x23 then [(u.segments, 32 * u.segCount)] else [])

/-- Whether GRAD, OUT or SEGMENTS overlaps the state region of the command, which makes its result unpredictable (R637). Log 69 (DESIGN CHOICE). -/
def updMeets (s : State) (c : DCtx) (op : Nat) (u : UpdArgs) : Bool := (updOperands op u).any (opsMeet s c (updRegion op u))

/-- A command that begins: its state region is its own, and no other's operands may lie in it (R637). -/
def updProg (op : Nat) (u : UpdArgs) : Prog :=
  { next := u.start, bytes := 4 * u.start, prot := [updRegion op u], uses := updRegion op u :: updOperands op u }

/-- Whether a command writes the copy: phase 0 of UPD_LAMB makes no new weight and writes none. Log 93 (DEDUCED). -/
def updCopies (u : UpdArgs) (op : Nat) : Bool := u.outFmt != 15 && !(op == 0x23 && u.phase == 0)

/-- The copy of a weight (R629): its code and flags. The spec gives no copy of a weight that is not finite: its code is a free value. Log 95 (DESIGN CHOICE), 96 (DEDUCED). -/
def copyOf (u : UpdArgs) (draw w : Nat) : Nat × Flags :=
  match f32 w with
  | .fin n m q =>
    if m = 0 then (0, 0)
    else (fmtOf u.outFmt).sat (if u.outSr then .sr (draw % 65536) else .even) n m q
  | _ => ((Config.openFloat u.outFmt (BitVec.ofNat 32 w) 0).toNat % 2 ^ (fmtOf u.outFmt).bits, 0)

/-! ## Memory of a command -/

/-- The first stop among accesses: (write, address, bytes). -/
def firstAccess (s : State) (c : DCtx) : List (Bool × Nat × Nat) → Option (Bool × Nat × (DErr × Nat))
  | [] => none
  | (w, a, n) :: r =>
    match (if w then writeStop s { c with acc := 6 } a n else readStop s { c with acc := 5 } a n) with
    | some e => some (w, a, e)
    | none => firstAccess s c r

/-- What a stopped access does. -/
def accessEff (c : DCtx) (x : Bool × Nat × (DErr × Nat)) (s : State) : State :=
  stopEff { c with acc := if x.1 then 6 else 5 } x.2.1 x.2.2 s

/-- The number that n bytes at an address hold. -/
def loadLe (s : State) (c : DCtx) (a n : Nat) : Nat := ofLe (peekData s { c with acc := 5 } a n .read)

/-- Reading bytes. -/
def loadEff (c : DCtx) (a n : Nat) (s : State) : State := readEff { c with acc := 5 } a n s

/-- Writing bytes. -/
def storeLe (c : DCtx) (a n v : Nat) (s : State) : State := writeEff { c with acc := 6 } a (leBytes n v) s

/-- Whether chunk k of a producer's data is ready (R545, R638). -/
def chunkReady (s : State) (rm l base k : Nat) : Bool :=
  l == 0xFFFF || waitMet (lantern s rm l) (base + (k + 1)) true

/-- The end of a stretch at an access that stopped: it waits with what is done kept, or the command fails with the bytes given. Log 98 (DESIGN CHOICE). -/
def stopStretch (r : ListRec) (p : Prog) (c : DCtx) (x : Bool × Nat × (DErr × Nat)) (s : State) : CEnd × State :=
  if x.2.2.1.waits then ({ stall := true }, setList { r with prog := some p } (accessEff c x s))
  else ({ stopEnd x.2.2 with bytes := p.bytes }, accessEff c x s)

/-! ## Elements -/

/-- The chunk of an element. -/
def updChunk (u : UpdArgs) (i : Nat) : Nat := if u.chunkElems = 0 then 0 else i / u.chunkElems

/-- Whether an element is the last of its chunk. -/
def updLast (u : UpdArgs) (i : Nat) : Bool := i + 1 == u.count || (u.chunkElems != 0 && (i + 1) % u.chunkElems == 0)

/-- The accesses of an element: gradient, W, S1 and S2 read, then those written. -/
def elemAccess (op : Nat) (u : UpdArgs) (skip : Bool) (i : Nat) : List (Bool × Nat × Nat) :=
  let rd := updReads op u
  let gz := if u.gradFmt = 0 then 4 else 2
  let copy := if updCopies u op then [(true, u.out + (updOutSz u) * i, (updOutSz u))] else []
  if skip then (if updCopies u op then [(false, updWAt u i, 4)] else []) ++ copy
  else
    (if updApply u op then [] else [(false, u.grad + gz * i, gz)]) ++ (if rd.1 then [(false, updWAt u i, 4)] else []) ++
    (if rd.2.1 then [(false, updS1At u i, (updSz u))] else []) ++ (if rd.2.2 then [(false, updS2At u i, (updSz u))] else []) ++
    (if op == 0x23 && u.phase == 0 then [] else [(true, updWAt u i, 4)]) ++
    (if updApply u op then [] else
      (if rd.2.1 then [(true, updS1At u i, (updSz u))] else []) ++ (if rd.2.2 then [(true, updS2At u i, (updSz u))] else [])) ++ copy

/-- The segment of an element: its number, from (first, elements) pairs (R623). -/
def segOf (segs : List (Nat × Nat)) (i : Nat) : Nat := (segs.takeWhile (fun g => g.1 + g.2 ≤ i)).length

/-- An element's effect: reads, writes, counters, flags and sums (R619 to R631, R634). -/
def elemRun (wild : Bool) (op : Nat) (u : UpdArgs) (k : UpdConst) (kk : FV) (t : Nat) (skip : Bool) (phi : Nat → FV) (segs : List (Nat × Nat)) (c : DCtx)
    (i : Nat) (p : Prog) (s : State) : Prog × State :=
  let ld := fun (a n : Nat) => loadLe s c a n
  let s1 := (elemAccess op u skip i).foldl (fun s x => if x.1 then s else loadEff c x.2.1 x.2.2 s) s
  let rd := updReads op u
  let draw := (rgen (u.seed ^^^ mix (BitVec.ofNat 64 t)) (BitVec.ofNat 64 i)).toNat
  let w := if skip || rd.1 || updCopies u op then ld (updWAt u i) 4 else 0
  let putCopy := fun (w : Nat) (p : Prog) (s : State) =>
    if updCopies u op then
      let x := copyOf u draw w
      (({ p with flags := p.flags ||| x.2 } : Prog), bumpBy 0x2501B0 (x.2 % 2)
        (storeLe c (u.out + (updOutSz u) * i) (updOutSz u) (wildCode wild s (4 * i + 3) (8 * updOutSz u) x.1) (wildUsed wild s)))
    else (p, s)
  if skip then putCopy w p s1
  else
    let gr := (fmtOf u.gradFmt).value (if updApply u op then 0 else ld (u.grad + (if u.gradFmt = 0 then 4 else 2) * i) (if u.gradFmt = 0 then 4 else 2))
    let sf := if u.stateFmt = 1 then bf16 else fp32
    let e := updElem op u k kk (phi (segOf segs i)) t draw gr (f32 w) (if rd.2.1 then sf.value (ld (updS1At u i) (updSz u)) else FV.zero)
      (if rd.2.2 then sf.value (ld (updS2At u i) (updSz u)) else FV.zero)
    if e.raw.all FV.isFin then
      let s2 := match e.w with | some x => storeLe c (updWAt u i) 4 (wildCode wild s (4 * i) 32 x) (wildUsed wild s1) | none => s1
      let s3 := match e.s1 with | some x => storeLe c (updS1At u i) (updSz u) (wildCode wild s (4 * i + 1) (8 * updSz u) x) (wildUsed wild s2) | none => s2
      let s4 := match e.s2 with | some x => storeLe c (updS2At u i) (updSz u) (wildCode wild s (4 * i + 2) (8 * updSz u) x) (wildUsed wild s3) | none => s3
      let j := segOf segs i
      let old := mget p.sums j (0, 0)
      let add := fun (a : Nat) (v : FV) => fp64.ieee ((fp64.value a).add v)
      let p1 := { p with
        flags := p.flags ||| (if e.sat = 0 then 0 else 1)
        sums := if op = 0x23 && u.phase = 0 then mset p.sums j (add old.1 e.sq.1, add old.2 e.sq.2) else p.sums }
      putCopy (e.w.getD w) p1 (bump 0x250198 (bumpBy 0x2501B0 e.sat s4))
    else putCopy w { p with flags := p.flags ||| 2 } (bump 0x2501A8 s1)

/-- The elements of a command from where it stands, in ascending order (R632), each chunk when its gradient is ready (R638), its
CHUNK_LANTERN after it (R639); then `fin`. Log 94 (DEDUCED), 98 (DESIGN CHOICE). -/
def elemGo (wild : Bool) (op : Nat) (u : UpdArgs) (k : UpdConst) (kk : FV) (t : Nat) (skip : Bool) (phi : Nat → FV) (segs : List (Nat × Nat)) (c : DCtx) (r : ListRec)
    (fin : Prog → State → CEnd × State) : Nat → Prog → State → CEnd × State
  | 0, p, s => fin p s
  | n + 1, p, s =>
    let i := p.next
    if !skip && !chunkReady s r.room (updGate u op) u.inputBase (updChunk u i) then ({ stall := true }, setList { r with prog := some p } s)
    else
      match firstAccess s c (elemAccess op u skip i) with
      | some x => stopStretch r p c x s
      | none =>
        let y := elemRun wild op u k kk t skip phi segs c i p s
        let s1 := if updLast u i then lanternAdd r.room u.chunkLantern 1 y.2 else y.2
        elemGo wild op u k kk t skip phi segs c r fin n { y.1 with next := i + 1, bytes := 4 * (i + 1) } s1

/-! ## A command -/

/-- The segment table: (FIRST, ELEMS) and the two sums of each entry, and whether it keeps R623. Log 93 (DEDUCED). -/
def segTable (s : State) (c : DCtx) (u : UpdArgs) : List (Nat × Nat × Nat × Nat) × Bool :=
  let d := peekData s { c with acc := 5 } u.segments (32 * u.segCount) .read
  let l := (List.range u.segCount).map (fun j =>
    (fld (wordAt d (4 * j)) 31 0, fld (wordAt d (4 * j)) 63 32, wordAt d (4 * j + 1), wordAt d (4 * j + 2)))
  let ok := l.foldl (fun (a : Nat × Bool) g => (a.1 + g.2.1, a.2 && g.1 == a.1 && g.2.1 != 0)) (0, true)
  (l, ok.2 && ok.1 == u.count && (List.range u.segCount).all (fun j => wordAt d (4 * j + 3) == 0))

/-- LRφ of a segment (R625). -/
def phiOf (u : UpdArgs) (w r : Nat) : FV :=
  let a := fp64.value w
  let b := fp64.value r
  let phi := if a.gt FV.zero && b.gt FV.zero then (a.sqrt.r64.div b.sqrt.r64).r64 else FV.one
  ((f32 u.lr).mul phi).r64.r32

/-- Write the sums of phase 0 (R624): the segment that holds START adds to what it holds, later ones afresh. Log 93 (DEDUCED). -/
def putSums (u : UpdArgs) (segs : List (Nat × Nat)) (c : DCtx) (p : Prog) (s : State) : State :=
  (List.range u.segCount).foldl (fun s j =>
    let first := segOf segs u.start
    if j < first then s
    else
      let x := mget p.sums j (0, 0)
      let a := u.segments + 32 * j
      let held := fun (off : Nat) => if j = first && u.start ≠ 0 then fp64.value (loadLe s c (a + off) 8) else FV.zero
      storeLe c (a + 16) 8 (fp64.ieee ((held 16).add (fp64.value x.2))) (storeLe c (a + 8) 8 (fp64.ieee ((held 8).add (fp64.value x.1))) s)) s

/-- The end of an update command: the sums of phase 0, the header (R610), DETAIL and BYTES (R634). Log 92 (DEDUCED). -/
def updFin (op : Nat) (u : UpdArgs) (t : Nat) (skip : Bool) (segs : List (Nat × Nat)) (c : DCtx) (r : ListRec) (p : Prog) (s : State) :
    CEnd × State :=
  let phase0 := op == 0x23 && u.phase == 0
  let acc := if skip then [] else if phase0 then [(false, u.segments, 32 * u.segCount), (true, u.segments, 32 * u.segCount)] else [(true, u.base, 16)]
  match firstAccess s c acc with
  | some x => stopStretch r p c x s
  | none =>
    let e : CEnd := { detail := p.flags + (if skip then 8 else 0), bytes := 4 * (u.count - u.start) }
    if skip then (e, bump 0x2501A0 s)
    else if phase0 then (e, putSums u segs c p s)
    else (e, storeLe c u.base 8 (t * 2 ^ 32 + u.stateFmt * 256 + op) s |> storeLe c (u.base + 8) 8 u.count)

/-- The elements of an update command whose values are formed: `words` holds t, K, and whether it is skipped. -/
def updFrom (op : Nat) (u : UpdArgs) (c : DCtx) (r : ListRec) (p : Prog) (s : State) : CEnd × State :=
  let t := p.words.getD 0 1
  let skip := p.words.getD 2 0 == 1
  let segs := if op = 0x23 then (segTable s c u).1 else []
  let phis := segs.map (fun g => phiOf u g.2.2.1 g.2.2.2)
  let ranges := segs.map (fun g => (g.1, g.2.1))
  elemGo p.wild op u (updConst u t) (f32 (p.words.getD 1 0)) t skip (fun j => phis.getD j FV.zero) ranges c r (updFin op u t skip ranges c r)
    (u.count - p.next) p s

/-- The start of an update command: the header (R608, R609), the segment table (R623), the norm (R617, R618, R630). Log 92 (DEDUCED). -/
def updStart (wild : Bool) (op : Nat) (u : UpdArgs) (c : DCtx) (r : ListRec) (s : State) : CEnd × State :=
  let acc := [(false, u.base, 4096)] ++ (if op = 0x23 then [(false, u.segments, 32 * u.segCount)] else []) ++
    (if u.norm ≠ 0 then [(false, u.norm, 8)] else [])
  match firstAccess s c acc with
  | some x =>
    if x.2.2.1.waits then ({ stall := true }, accessEff c x s) else ({ stopEnd x.2.2 with bytes := 4 * u.start }, accessEff c x s)
  | none =>
    let d := peekData s { c with acc := 5 } u.base 4096 .read
    let w0 := wordAt d 0
    let w1 := wordAt d 1
    let fresh := w0 = 0 && w1 = 0
    let rest := d.drop 16
    let s1 := acc.foldl (fun s x => loadEff c x.2.1 x.2.2 s) s
    let t := if u.step ≠ 0 then u.step else fld w0 63 32 + 1
    let tab := segTable s c u
    let nv := if u.norm ≠ 0 then fp64.value (loadLe s c u.norm 8) else FV.zero
    let badNorm := !nv.isFin || nv.isNeg || (updApply u op && tab.1.any (fun g => !(fp64.value g.2.2.1).isFin || !(fp64.value g.2.2.2).isFin))
    if (!fresh && (fld w0 7 0 != op || fld w0 15 8 != u.stateFmt || fld w1 31 0 != u.count || fld w0 31 16 != 0 || fld w1 63 32 != 0)) ||
        rest.any (fun b => b != 0) then ({ status := 0x49 }, s1)
    else if u.step = 0 && fld w0 63 32 = 0xFFFFFFFF then ({ status := 0x4A }, s1)
    else if op = 0x23 && !tab.2 then ({ status := 0x4B }, s1)
    else if badNorm && !u.skip then ({ status := 0x48 }, s1)
    else
      updFrom op u c r { updProg op u with wild := wild, words := [t, fp32.ieee (if updApply u op then FV.zero else updK u nv), b2n badNorm] } s1

/-- The body of an update command: 4 Harbour units (R615), then its elements. -/
def updBody (op : Nat) (h : CmdHdr) (u : UpdArgs) (r : ListRec) (s : State) : CEnd × State :=
  withUnits 4 h (withPins [u.grad, u.base, u.out, u.norm, u.segments] (fun r s =>
    let c := cmdCtx s h r
    let x := watchOthers c r (r.prog.getD (updProg op u)) (updMeets s c op u) s
    wildEnd x.1 (match r.prog with
    | some p => updFrom op u c r { p with wild := x.1 } x.2
    | none => updStart x.1 op u c r x.2))) r s

/-- An update command. -/
def update (op : Nat) (h : CmdHdr) (u : UpdArgs) (s : State) : State := engine h op 2 (updBad op h u) (updBody op h u) s

/-- UPD_SGD (R620). -/
def execUpdSgd (h : CmdHdr) (u : UpdArgs) (s : State) : Answer := act transfers (update 0x20 h u) s

/-- UPD_ADAMW (R619). -/
def execUpdAdamw (h : CmdHdr) (u : UpdArgs) (s : State) : Answer := act transfers (update 0x21 h u) s

/-- UPD_LION (R621). -/
def execUpdLion (h : CmdHdr) (u : UpdArgs) (s : State) : Answer := act transfers (update 0x22 h u) s

/-- UPD_LAMB (R624, R625). -/
def execUpdLamb (h : CmdHdr) (u : UpdArgs) (s : State) : Answer := act transfers (update 0x23 h u) s

/-- UPD_ACCUMULATE (R622). -/
def execUpdAccumulate (h : CmdHdr) (u : UpdArgs) (s : State) : Answer := act transfers (update 0x24 h u) s

end Sys2Proof.Machine
end

