-- ==== Sys2Proof/Machine/Codec.lean ====
section
/-! DEFINITION. The codec engines (R645 to R676): conversions between the number formats, quantising with error feedback, and dequantising. -/

namespace Sys2Proof.Machine

open Sys2Proof

/-! ## Converting one element -/

/-- Flags of a codec command: 1 OVERFLOW, 2 NONFINITE, 4 TINY, 8 SCALE_CLAMP (R673). -/
abbrev CdcFlags := Nat

/-- Round into a two's complement format of n bits between −lo and hi, in units of 2^unit (R659): its code and flags. -/
def toInt (n lo hi : Nat) (r : Rnd) (neg : Bool) (m : Nat) (q : Int) (unit : Int) : Nat × CdcFlags :=
  let i := roundInt r m (q - unit)
  let lim := if neg then lo else hi
  let x := Nat.min i lim
  let c := if neg then (2 ^ n - x) % 2 ^ n else x
  (c, (if lim < i then 1 else 0) + (if i = 0 && m ≠ 0 then 4 else 0))

/-- The lower and upper limits of an integer format (R659). -/
def intLim (fmt : Nat) : Nat × Nat × Nat := if fmt = 11 then (8, 128, 127) else (32, 2 ^ 31, 2 ^ 31 - 1)

/-- A value into a format without a scale (R658 to R660). -/
def plainCode (fmt : Nat) (ovf : Bool) (r : Rnd) (v : FV) : Nat × CdcFlags :=
  if fmt = 11 || fmt = 12 then
    let l := intLim fmt
    match v with
    | .nan => (0, 2)
    | .inf neg => (if neg then 2 ^ l.1 - l.2.1 else l.2.2, 2)
    | .fin neg m q => toInt l.1 l.2.1 l.2.2 r neg m q 0
  else
    let f := fmtOf fmt
    match v with
    | .nan => (f.nan, 2)
    | .inf neg => (match f.inf with
      | some i => f.signed neg i
      | none => if ovf then f.nan else f.signed neg f.maxc, 2)
    | .fin neg m q =>
      let c := f.sat r neg m q
      if c.2 = 1 && ovf then (match f.inf with | some i => f.signed neg i | none => f.nan, 1) else c

/-- e_sel of R662. -/
def eSel : Nat → Int
  | 5 => 8 | 6 => 15 | 7 => 2 | 8 => 4 | 9 => 2 | _ => 0

/-- Whether a scaled value rounds to nearest even beyond the largest element (R664). -/
def tooBig (fmt m : Nat) (q : Int) : Bool :=
  if fmt = 10 then decide (127 < roundInt .even m (q + 6)) else decide ((fmtOf fmt).maxc < (fmtOf fmt).mag .even m q)

/-- The largest magnitude of a block's finite elements (R662). -/
def amaxOf (l : List FV) : FV := l.foldl (fun a v => if v.isFin && v.abs.gt a then v.abs else a) FV.zero

/-- The scale of a block and whether it was clamped (R662, R664, R665). -/
def scaleOf (fmt : Nat) (fit : Bool) (amax : FV) : Nat × Bool :=
  match amax with
  | .fin _ m q =>
    if m = 0 then (0, false)
    else
      let x0 := amax.exp - eSel fmt + 127
      let x := if fit && tooBig fmt m (q + (127 - x0)) then x0 + 1 else x0
      if x < 0 then (0, true) else if 254 < x then (254, true) else (x.toNat, false)
  | _ => (255, false)

/-- An element of an MX block under its scale (R663, R666). Log 96 (DEDUCED). -/
def mxCode (fmt x : Nat) (r : Rnd) (v : FV) : Nat × CdcFlags :=
  match v with
  | .fin neg m q =>
    if fmt = 10 then toInt 8 127 127 r neg m (q + (127 - (x : Int))) (-6)
    else (fmtOf fmt).sat r neg m (q + (127 - (x : Int)))
  | _ => (0, 0)

/-- A block of values into a format: the codes, the scale of an MX format, and the flags of each element (R660 to R667). Missing elements of a
short MX block are zeros. -/
def encodeBlock (fmt : Nat) (ovf fit : Bool) (rnd : Nat → Rnd) (l : List FV) : List (Nat × CdcFlags) × Nat × CdcFlags :=
  if !isMx fmt then (l.zipIdx.map (fun p => plainCode fmt ovf (rnd p.2) p.1), 0, 0)
  else if l.any (fun v => !v.isFin) then (List.replicate 32 (0, 0), 255, 2)
  else
    let x := scaleOf fmt fit (amaxOf l)
    (l.zipIdx.map (fun p => mxCode fmt x.1 (rnd p.2) p.1) ++ List.replicate (32 - l.length) (0, 0), x.1, if x.2 then 8 else 0)

/-! ## Operands -/

/-- The address of the scale byte of a block: its own array, or joined layout (R649). -/
def scaleAt (fmt base scale count b : Nat) : Nat :=
  if scale ≠ 0 then scale + b else base + (mxBytes fmt count + 255) / 256 * 256 + b

/-- The formats that a command accepts (R652). -/
def cdcFormats (op : Nat) (c : CdcArgs) : Bool :=
  match op with
  | 0x20 => decide (c.inFmt ≤ 12) && decide (c.outFmt ≤ 12)
  | 0x21 => decide (c.inFmt ≤ 2) && decide (1 ≤ c.outFmt) && decide (c.outFmt ≤ 11) && decide (c.auxFmt ≤ 1)
  | _ => decide (3 ≤ c.inFmt) && decide (c.inFmt ≤ 11) && decide (c.outFmt ≤ 2)

/-- The alignment of an element array (R653). -/
def cdcAlign (fmt : Nat) : Nat := if isMx fmt then 256 else Nat.max 1 (fmtBits fmt / 8)

/-- What makes a codec command malformed (R651 to R653). -/
def cdcBad (op : Nat) (h : CmdHdr) (c : CdcArgs) (_ : State) (r : Room) : Option Nat :=
  firstBadOf [
    (h.units != 7, 3),
    ((op != 0x21 && (c.auxFmt != 0 || c.res != 0)) || (op != 0x22 && c.acc) || (!c.round && c.seed != 0) ||
      (!isMx c.inFmt && c.srcScale != 0) || (!isMx c.outFmt && c.dstScale != 0), 1),
    (operand r c.src == .bad || operand r c.dst == .bad || (op == 0x21 && operand r c.res == .bad) ||
      (c.srcScale != 0 && operand r c.srcScale == .bad) || (c.dstScale != 0 && operand r c.dstScale == .bad), 5),
    (!cdcFormats op c || c.count == 0 || decide (2 ^ 31 < c.count) || c.chunkElems % 32 != 0 || decide (2 ^ 31 < c.chunkElems) ||
      !(f32 c.mul).isFin || (f32 c.mul).isZero || c.src % cdcAlign c.inFmt != 0 || c.dst % cdcAlign c.outFmt != 0 ||
      (op == 0x21 && c.res % (if c.auxFmt = 1 then 2 else 4) != 0) || !lanternOk r c.chunkLantern || !lanternOk r c.inputLantern, 4)]

/-! ## One block -/

/-- Elements of a block. -/
def blockLen (count b : Nat) : Nat := Nat.min 32 (count - 32 * b)

/-- Bytes of the elements of a block as the destination holds them: the whole block of an MX format (R667). -/
def dstLen (c : CdcArgs) (b : Nat) : Nat := if isMx c.outFmt then fmtBits c.outFmt * 4 else fmtBytes c.outFmt (blockLen c.count b)

/-- The address of a block's elements. -/
def blockAt (fmt base b : Nat) : Nat := base + fmtBits fmt * 4 * b

/-- Bytes of a residual. -/
def resSz (c : CdcArgs) : Nat := if c.auxFmt = 1 then 2 else 4

/-- The accesses of a block. -/
def blockAccess (op : Nat) (c : CdcArgs) (b : Nat) : List (Bool × Nat × Nat) :=
  let n := blockLen c.count b
  [(false, blockAt c.inFmt c.src b, fmtBytes c.inFmt n)] ++
  (if isMx c.inFmt then [(false, scaleAt c.inFmt c.src c.srcScale c.count b, 1)] else []) ++
  (if op = 0x21 then [(false, c.res + resSz c * 32 * b, resSz c * n)] else []) ++
  (if c.acc then [(false, blockAt c.outFmt c.dst b, dstLen c b)] else []) ++
  [(true, blockAt c.outFmt c.dst b, dstLen c b)] ++
  (if isMx c.outFmt then [(true, scaleAt c.outFmt c.dst c.dstScale c.count b, 1)] else []) ++
  (if op = 0x21 then [(true, c.res + resSz c * 32 * b, resSz c * n)] else [])

/-- A residual (R669, R670): its code and whether it saturated. A residual whose element encodes as no finite value has no stated value. Log 95 (DESIGN CHOICE). -/
def residual (c : CdcArgs) (r : Rnd) (a deq : FV) (i : Nat) : Nat × CdcFlags :=
  let f := if c.auxFmt = 1 then bf16 else fp32
  match a with
  | .fin _ _ _ =>
    (match a.add deq.neg with
    | .fin n m q => let x := f.sat (if c.auxFmt = 1 then r else .even) n m q; (x.1, x.2 % 2)
    | _ => ((Config.openFloat 32 (BitVec.ofNat 32 (fp32.ieee a)) (BitVec.ofNat 32 i)).toNat % 2 ^ f.bits, 0))
  | _ => (0, 0)

/-- The draw of an element (R658, R669). -/
def cdcDraw (c : CdcArgs) (i : Nat) : Nat := (rgen c.seed (c.indexBase + BitVec.ofNat 64 i)).toNat

/-- Bytes of an element array as a destination holds it: whole blocks of an MX format. -/
def arrayLen (fmt count : Nat) : Nat := if isMx fmt then fmtBits fmt * 4 * ((count + 31) / 32) else fmtBytes fmt count

/-- The arrays of a command in one format: its elements and, of an MX format, its scales. -/
def arrayRuns (fmt base scale count : Nat) : List (Nat × Nat) :=
  (base, arrayLen fmt count) :: (if isMx fmt then [(scaleAt fmt base scale count 0, (count + 31) / 32)] else [])

/-- Whether DST, DST_SCALE or RES overlaps the source, which makes the result unpredictable, unless DST equals SRC and the two formats have the
same element size without a scale (R676). Log 69 (DESIGN CHOICE). -/
def cdcMeets (s : State) (x : DCtx) (op : Nat) (c : CdcArgs) : Bool :=
  let out := arrayRuns c.outFmt c.dst c.dstScale c.count
  let same := c.dst == c.src && fmtBits c.outFmt == fmtBits c.inFmt && !isMx c.inFmt && !isMx c.outFmt
  let dst := (if same then [] else out) ++ (if op = 0x21 then [(c.res, resSz c * c.count)] else [])
  dst.any (fun d => (arrayRuns c.inFmt c.src c.srcScale c.count).any (opsMeet s x d))

/-- A command that begins: no other may write its destination or its residual array (R676). -/
def cdcProg (op : Nat) (c : CdcArgs) : Prog :=
  let out := arrayRuns c.outFmt c.dst c.dstScale c.count ++ (if op = 0x21 then [(c.res, resSz c * c.count)] else [])
  { next := 0, prot := out, uses := out }

/-- A block's effect: what is read, converted and written, with its counters and flags (R657 to R673). -/
def blockRun (op : Nat) (c : CdcArgs) (x : DCtx) (b : Nat) (p : Prog) (s : State) : Prog × State :=
  let n := blockLen c.count b
  let s1 := (blockAccess op c b).foldl (fun s y => if y.1 then s else loadEff x y.2.1 y.2.2 s) s
  let rd := fun (a k : Nat) => peekData s { x with acc := 5 } a k .read
  let scale := if isMx c.inFmt then loadLe s x (scaleAt c.inFmt c.src c.srcScale c.count b) 1 else 0
  let src := (unpack (fmtBits c.inFmt) n (rd (blockAt c.inFmt c.src b) (fmtBytes c.inFmt n))).map (fun k =>
    if isMx c.inFmt then mxValue c.inFmt k scale else elemValue c.inFmt k)
  let old := if op = 0x21 then
      (unpack (8 * resSz c) n (rd (c.res + resSz c * 32 * b) (resSz c * n))).map (fun k => (if c.auxFmt = 1 then bf16 else fp32).value k)
    else if c.acc then (unpack (fmtBits c.outFmt) n (rd (blockAt c.outFmt c.dst b) (dstLen c b))).map (elemValue c.outFmt)
    else []
  let vals := if op = 0x21 then (src.zip old).map (fun y => FV.fma fp32 y.1 (f32 c.mul) y.2)
    else if c.acc then (src.zip old).map (fun y => (y.1.mul (f32 c.mul)).add y.2)
    else src.map (fun v => v.mul (f32 c.mul))
  let lo := fun (j : Nat) => if c.round then Rnd.sr (cdcDraw c (32 * b + j) % 65536) else .even
  let hi := fun (j : Nat) => if c.round then Rnd.sr (cdcDraw c (32 * b + j) / 65536 % 65536) else .even
  let e := encodeBlock c.outFmt c.ovf c.fit lo vals
  let wild := p.wild
  let codes := wildRun wild s (32 * b) (fmtBits c.outFmt) (e.1.map (fun y => y.1))
  let scaleOut := wildCode wild s (2 ^ 33 + b) 8 e.2.1
  let deq := fun (k : Nat) => if isMx c.outFmt then mxValue c.outFmt k e.2.1 else elemValue c.outFmt k
  let res := if op = 0x21 then (vals.zip codes).zipIdx.map (fun y => residual c (hi y.2) y.1.1 (deq y.1.2) (32 * b + y.2)) else []
  let s2 := writeEff { x with acc := 6 } (blockAt c.outFmt c.dst b) (pack (fmtBits c.outFmt) codes) s1
  let s3 := if isMx c.outFmt then storeLe x (scaleAt c.outFmt c.dst c.dstScale c.count b) 1 scaleOut s2 else s2
  let s4 := if op = 0x21 then writeEff { x with acc := 6 } (c.res + resSz c * 32 * b) (pack (8 * resSz c) (wildRun wild s (2 ^ 34 + 32 * b) (8 * resSz c) (res.map (fun y => y.1)))) s3
    else s3
  let all := e.1 ++ res
  let fl := all.foldl (fun a y => a ||| y.2) e.2.2
  let ov := (all.filter (fun y => y.2 % 2 == 1)).length
  let nf := (e.1.filter (fun y => y.2 / 2 % 2 == 1)).length + e.2.2 / 2 % 2
  ({ p with flags := p.flags ||| fl },
    bumpBy 0x2501F0 (e.2.2 / 8) (bumpBy 0x2501E8 nf (bumpBy 0x2501E0 ov (bumpBy 0x2501D8 n (wildUsed wild s4)))))

/-! ## A command -/

/-- The chunk of a block. -/
def cdcChunk (c : CdcArgs) (b : Nat) : Nat := if c.chunkElems = 0 then 0 else 32 * b / c.chunkElems

/-- Whether a block is the last of its chunk. -/
def cdcLast (c : CdcArgs) (b : Nat) : Bool :=
  decide (c.count ≤ 32 * (b + 1)) || (c.chunkElems != 0 && 32 * (b + 1) % c.chunkElems == 0)

/-- The blocks of a command from where it stands, in ascending order (R672), each chunk when its input is ready (R655), its CHUNK_LANTERN
after it. Log 98 (DESIGN CHOICE). -/
def blockGo (op : Nat) (c : CdcArgs) (x : DCtx) (r : ListRec) : Nat → Prog → State → CEnd × State
  | 0, p, s => ({ detail := p.flags, bytes := if isMx c.outFmt then mxBytes c.outFmt c.count else fmtBytes c.outFmt c.count }, s)
  | n + 1, p, s =>
    let b := p.next
    if !chunkReady s r.room c.inputLantern c.inputBase (cdcChunk c b) then ({ stall := true }, setList { r with prog := some p } s)
    else
      match firstAccess s x (blockAccess op c b) with
      | some y => stopStretch r p x y s
      | none =>
        let y := blockRun op c x b p s
        let s1 := if cdcLast c b then lanternAdd r.room c.chunkLantern 1 y.2 else y.2
        blockGo op c x r n { y.1 with next := b + 1, bytes := fmtBits c.outFmt * 4 * (b + 1) } s1

/-- A codec command: 2 Harbour units (R656), then its blocks. -/
def codec (op : Nat) (h : CmdHdr) (c : CdcArgs) (s : State) : State :=
  engine h op 3 (cdcBad op h c) (withUnits 2 h (withPins [c.src, c.dst, c.srcScale, c.dstScale, c.res] (fun r s =>
    let x := cmdCtx s h r
    let p := r.prog.getD (cdcProg op c)
    let y := watchOthers x r p (cdcMeets s x op c) s
    wildEnd y.1 (blockGo op c x r ((c.count + 31) / 32 - p.next) { p with wild := y.1 } y.2)))) s

/-- CDC_CONVERT (R657). -/
def execCdcConvert (h : CmdHdr) (c : CdcArgs) (s : State) : Answer := act transfers (codec 0x20 h c) s

/-- CDC_QUANTISE_EF (R668). -/
def execCdcQuantiseEf (h : CmdHdr) (c : CdcArgs) (s : State) : Answer := act transfers (codec 0x21 h c) s

/-- CDC_DEQUANTISE (R671). -/
def execCdcDequantise (h : CmdHdr) (c : CdcArgs) (s : State) : Answer := act transfers (codec 0x22 h c) s

end Sys2Proof.Machine
end

