-- ==== Sys2Proof/Machine/Transport0.lean ====
section
/-! DEFINITION. What the transport shares: sequence numbers (R404), the packets a QP sends (R394 to R403), the levels of a context (R427 to
R430), acknowledgements (R414), receive completions, and the error state (R442, R443). -/

namespace Sys2Proof.Machine

open Sys2Proof

/-! ## Queue pairs -/

/-- A sequence number in the width of its QP: 24 bits on a RoCE QP (R494). -/
def Qp.psn (q : Qp) (x : BitVec 32) : BitVec 32 := if q.roce.isSome then x &&& 0xFFFFFF else x

/-- The sequence number n after another. -/
def Qp.after (q : Qp) (x : BitVec 32) (n : Nat) : BitVec 32 := q.psn (x + BitVec.ofNat 32 n)

/-- How far a is after b, signed (R404, R494). -/
def Qp.diff (q : Qp) (a b : BitVec 32) : Int :=
  if q.roce.isSome then ((a - b).setWidth 24).toInt else (a - b).toInt

/-- Payload of a packet: 4,096 B, or the PMTU of a RoCE QP (R462, R492, R494). -/
def Qp.mtu (q : Qp) : Nat :=
  match q.roce with
  | none => 4096
  | some c => 128 * 2 ^ c.pmtu

/-- A QP that sends requests. -/
def Qp.sends (q : Qp) : Bool := q.st == .ready || q.st == .draining

/-- A QP that receives packets (R399). -/
def Qp.receives (q : Qp) : Bool := q.st == .ready || q.st == .draining || q.st == .drained || q.st == .error

/-! ## Levels of contexts -/

/-- Contexts of a room that hold a warm slot. -/
def warmOf (s : State) (rm : Nat) : Nat :=
  (s.qps.filter (fun p => p.2.st != .free && p.2.room == rm && decide (p.2.level ≤ 1))).length

/-- The hot context that the hot level of a die evicts: used longest ago, unpinned, no packet waiting (R430). Log 49 (DEDUCED). -/
def hotVictim (s : State) (die : Nat) : Option Nat :=
  (mget s.hot die []).find? (fun n => !(qp s n).pinned && !(mget s.porch die []).any (fun k => k.dstQpn == n))

/-- A context becomes the most recently used hot one of its die, and another leaves when the level is full (R430); with none to leave it
stays where it is. Log 49 (DEDUCED). -/
def makeHot (n : Nat) (s : State) : State :=
  let d := (qp s n).die
  let put := fun (s : State) => { s with
    hot := mmod s.hot d [] (fun l => l.filter (fun x => x != n) ++ [n])
    warm := mmod s.warm (qp s n).room [] (fun l => l.filter (fun x => x != n))
    qps := mmod s.qps n {} (fun q => { q with level := 0, fetching := false }) }
  if 2 ^ 24 ≤ n then s
  else if (mget s.hot d []).contains n || (mget s.hot d []).length < 8192 then put s
  else
    match hotVictim s d with
    | none => s
    | some v => put { s with
        hot := mmod s.hot d [] (fun l => l.filter (fun x => x != v))
        warm := mmod s.warm (qp s v).room [] (fun l => l ++ [v])
        qps := mmod s.qps v {} (fun q => { q with level := 1 }) }

/-- A cold context claims a warm slot: the least recently used warm context of its room goes to its spill slot (R429). -/
def claimWarm (n : Nat) (s : State) : State :=
  let rm := (qp s n).room
  if (qp s n).level ≠ 2 || warmOf s rm < (room s rm).quotas.warm then s
  else
    match (mget s.warm rm []).find? (fun v => (qp s v).homed) with
    | some v => { s with
        warm := mmod s.warm rm [] (fun l => l.filter (fun x => x != v))
        qps := mmod s.qps v {} (fun q => { q with level := 2 }) }
    | none => s

/-- Ask for a context that is not hot: one fetch at a time (R432, R436), counted. -/
def fetchCtx (n : Nat) (s : State) : State :=
  if (qp s n).fetching then s else bump 0x240140 (modQp n (fun q => { q with fetching := true }) s)

/-- Forget where a context lives. -/
def dropCtx (n : Nat) (s : State) : State :=
  { s with
    hot := mmod s.hot (qp s n).die [] (fun l => l.filter (fun x => x != n))
    warm := mmod s.warm (qp s n).room [] (fun l => l.filter (fun x => x != n))
    porch := mmod s.porch (qp s n).die [] (fun l => l.filter (fun k => k.dstQpn != n)) }

/-! ## Packets that a QP sends -/

/-- The base header of a packet of a QP (R394, R398, R934), or of a stream, whose record has a key of 2²⁴ or more (R424). -/
def Qp.pkt (s : State) (n : Nat) (q : Qp) (op : Nat) (reply : Bool) : Pkt :=
  { opcode := op, reply := reply, tc := q.tc, sealed := q.sealed, dstNode := q.peerNode, srcNode := s.router.node, dstQpn := q.peerQpn,
    srcQpn := n % 2 ^ 24, stream := decide (2 ^ 24 ≤ n), epoch := q.epoch }

/-- Bytes of a RoCE frame (R493): Ethernet, VLAN, IP, UDP, the IBTA headers of the packet, payload padded to 4, ICRC and FCS. Log 172 (DEDUCED). -/
def roceBytes (s : State) (c : RoceCfg) (k : Pkt) : Nat :=
  let ext := match k.opcode with
    | 0x07 => 28 | 0x08 => 28 | 0x06 => 16 | 0x10 => 4 | 0x11 => 12 | 0xC0 => 4 | 0xC1 => 4 | 0x81 => 16
    | 0x01 => if k.first then 16 else 0
    | 0x02 => (if k.first then 16 else 0) + (if k.last then 4 else 0)
    | 0x05 => if k.last then 4 else 0
    | _ => 0
  14 + (if obj s 0x2803 (c.port + 1) 0 = 0 then 0 else 4) + (if c.ipv6 then 40 else 20) + 8 + 12 + ext +
    (k.payload.length + 3) / 4 * 4 + 4 + 4

/-- The headers of a packet of a RoCE QP (R492 to R494). Log 62 (PRESUMED). -/
def roceHdr (s : State) (c : RoceCfg) (k : Pkt) : EthHdr :=
  let vlan := obj s 0x2803 (c.port + 1) 0
  { dst := c.mac
    src := portMac s c.port 0
    vid := if vlan = 0 then none else some vlan
    pcp := if vlan = 0 then 0 else fld (obj s 0x2832 0 0x0706050403020100) (8 * k.tc + 7) (8 * k.tc)
    ipv6 := c.ipv6
    dscp := c.dscp
    hops := c.hopLimit
    srcIp := ((localAddr s c.port c.localIp).getD (false, 0)).2
    dstIp := c.ipHi * 2 ^ 64 + c.ipLo
    sport := c.sport
    dport := 4791
    ethertype := if c.ipv6 then 0x86DD else 0x0800
    bytes := roceBytes s c k }

/-- Whether a QP's packet could leave its QP now (R726, R741). -/
def canSend (s : State) (q : Qp) (k : Pkt) : Bool :=
  match q.roce with
  | none => canInject s k
  | some c => !throttled s c.port k.tc && roomReady s k

/-- A QP sends a packet: into the router, or a RoCE QP to its port (R493, R832), whose packets wait in it as R741 and R726 give. -/
def sendPkt (q : Qp) (k : Pkt) (s : State) : State :=
  match q.roce with
  | none => originate k s
  | some c =>
    if !canSend s q k then { s with heldPkts := s.heldPkts ++ [k] }
    else fabricOnly s (enqueue c.port { pkt := k, roce := some (roceHdr s c k) } (roomCharge k (roceBytes s c k) s))

/-- Whether a PSN lies in a message that R1145 records whole. -/
def RMsg.covers (q : Qp) (m : RMsg) (x : BitVec 32) : Bool :=
  m.killed && (match m.first, m.last with
    | some a, some b => decide (0 ≤ q.diff x a) && decide (q.diff x b ≤ 0)
    | _, _ => false)

/-- Whether the receive bitmap holds a PSN (R409, R1145). -/
def Qp.has (q : Qp) (x : BitVec 32) : Bool := q.bitmap.contains x || q.msgs.any (fun m => m.covers q x)

/-- The SACK field of a QP (R400). -/
def Qp.sack (q : Qp) : Nat :=
  (List.range 128).foldl (fun a i => if q.has (q.cumPsn + 1 + BitVec.ofNat 32 i) then a + 2 ^ i else a) 0

/-- Send an ACK (R400, R414); what it reports is cleared. Log 53 (DEDUCED). -/
def sendAck (n : Nat) (s : State) : State :=
  let q := qp s n
  let k := { q.pkt s n 0xC0 true with
    cumPsn := q.cumPsn, echoPsn := q.echoPsn, echoDelay := q.echoDelay, detourSeen := q.detourSeen, ecnSeen := q.ecnSeen,
    sack := if q.roce.isSome then 0 else q.sack }
  sendPkt q k (modQp n (fun q => { q with sinceAck := 0, detourSeen := false, ecnSeen := false }) s)

/-- The RETRY_HINT of a NAK (R403). -/
def nakHint (s : State) (code : Nat) : Nat := if code = 1 then obj s 0xC100 4 8 else if code = 2 then obj s 0xC100 5 16 else 0

/-- The delay in µs of an IBTA RNR timer code (R494). Log 196 (PRESUMED). -/
def rnrDelay (code : Nat) : Nat :=
  if code = 0 then 655360
  else if code < 5 then 10 * code
  else if code % 2 = 1 then 30 * 2 ^ ((code - 3) / 2) else 40 * 2 ^ ((code - 4) / 2)

/-- The IBTA RNR timer code of the smallest delay not below a hint in µs (R494). Log 196 (PRESUMED). -/
def rnrCode (hint : Nat) : Nat := (((List.range 31).map (fun i => i + 1)).find? (fun c => decide (hint ≤ rnrDelay c))).getD 0

/-- A NAK code and its hint as a QP sends them: a RoCE QP maps them to what its peer knows (R494). -/
def nakSent (s : State) (q : Qp) (code : Nat) : Nat × Nat :=
  if q.roce.isNone then (code, nakHint s code)
  else if code = 1 || code = 2 then (2, rnrCode (nakHint s code))
  else if code = 4 || code = 5 then (7, 0)
  else (code, 0)

/-- Send a NAK (R401, R402, R494), with its counters and the event of an ACCESS NAK (R275). -/
def sendNak (n code : Nat) (psn : BitVec 32) (s : State) : State :=
  let q := qp s n
  let k := { q.pkt s n 0xC1 true with nakPsn := psn, cumPsn := q.cumPsn, nakCode := (nakSent s q code).1, hint := (nakSent s q code).2 }
  sendPkt q k (if code = 1 then bump 0x240128 s else if code = 3 then raise 3 0 (bump 0x230018 s) else s)

/-! ## Completions -/

/-- An entry of a send or receive queue has completed. -/
def wqDone (fn wq index : Nat) (s : State) : State :=
  modQueue fn wq (fun k => { k with fetched := k.fetched.filter (fun f => f.index != index) }) s

/-- A receive entry completes, and the QP's lantern advances (R390, R469, R491). -/
def recvDone (n : Nat) (e : RecvEntry) (status op flags detail bytes imm : Nat) (s : State) : State :=
  let q := qp s n
  lanternAdd q.room q.lantern 1 (wqDone q.fn q.rq e.index (complete q.fn {
    tag := e.tag, status := status, source := 1, opcode := op, flags := flags, detail := detail, index := e.index, qpn := n, bytes := bytes,
    imm := imm, queue := q.rq } s))

/-- A list's posted work request has ended: its command completes with the status, and the list goes on (R458). -/
def postDone (h : CmdHdr) (e : CEnd) (s : State) : State :=
  match findList s h.fn h.queue h.list with
  | none => s
  | some r => endCmd h 0x22 { r with st := .woken, tile := none, cur := none } e (setList { r with st := .woken, tile := none, cur := none } s)

/-- A work request ends: the completion of its entry when it carries NOTIFY or fails (R454), or that of its command (R458). -/
def wrDone (n : Nat) (w : WorkReq) (op : Nat) (post : Option CmdHdr) (status flags detail bytes : Nat) (s : State) : State :=
  match post with
  | some h => postDone h { status := status, detail := detail, flags := flags, bytes := bytes } s
  | none =>
    let s1 := if w.notify || status ≠ 0 then complete w.fn {
        tag := w.tag, status := status, source := 0, opcode := op, flags := flags, detail := detail, index := w.index, qpn := n,
        bytes := bytes, queue := w.queue } s
      else s
    wqDone w.fn w.queue w.index s1

/-- The bytes that a work request's OK completion names (R491). -/
def Op.bytes (o : Op) : Nat := if o.opcode = 7 || o.opcode = 8 then (if o.wr.size32 then 4 else 8) else if o.opcode = 9 then 0 else o.wr.bytes

/-- Whether a sequence number belongs to an operation. -/
def Op.holds (q : Qp) (o : Op) (x : BitVec 32) : Bool := decide (0 ≤ q.diff x o.first) && decide (q.diff x o.first < (o.sent : Int))

/-- An operation whose every PSN is sent and retired (R423). -/
def Op.done (q : Qp) (o : Op) : Bool := o.sent == o.total && !q.unacked.any (fun u => o.holds q u.psn)

/-- Complete the operations of a QP in order (R386, R423); one with SEAWALL waits for its Seawall (R150). `k` bounds how many. -/
def retireOps (n : Nat) : Nat → State → State
  | 0, s => s
  | k + 1, s =>
    match (qp s n).ops with
    | [] => s
    | o :: r =>
      if !o.done (qp s n) then s
      else
        let pop := fun (s : State) => modQp n (fun q => { q with ops := r }) s
        let fl := (if o.untrusted then 8 else 0) + (if o.walled = 3 then 16 else 0)
        if o.status ≠ 0 then retireOps n k (wrDone n o.wr o.opcode o.post o.status 0 o.detail (o.stopAt.getD 0) (pop s))
        else if o.wr.seawall && o.walled = 1 then s
        else if o.wr.seawall && o.walled = 0 then
          (if wallPorts s = [] then retireOps n k (wrDone n o.wr o.opcode o.post 0 (fl + 16) 0 o.bytes (pop s))
          else
            startWall { id := 0, room := (qp s n).room, ports := [], kind := 1, qpn := n, bytes := o.id }
              (modQp n (fun q => { q with ops := { o with walled := 1 } :: r }) s))
        else retireOps n k (wrDone n o.wr o.opcode o.post 0 fl 0 o.bytes (pop s))

/-- Complete what can complete. -/
def retireAll (n : Nat) (s : State) : State := retireOps n (qp s n).ops.length s

/-! ## The error state -/

/-- An admission of a deferred packet ends (R266). -/
def endAdm (d : Deferred) (s : State) : State := match d.adm with | some w => admitEnd w s | none => s

/-- The offset of the first byte of an operation that is not finished: where its local data stopped, or its first packet that is not acknowledged
(R319). -/
def Op.unfinished (q : Qp) (o : Op) : Nat :=
  match o.stopAt with
  | some b => b
  | none => Nat.min o.wr.bytes (q.mtu * ((List.range o.sent).findIdx (fun i => q.unacked.any (fun u => u.psn == q.after o.first i))))

/-- Flush a QP's operations in order: the carrier with its status and the offset of its first byte not finished (R319), every other FLUSHED (R443).
Log 66 (DESIGN CHOICE). Log 66 (DESIGN CHOICE). -/
def flushOps (n : Nat) (q : Qp) (carrier : Option Nat) (status detail : Nat) : List Op → State → State
  | [], s => s
  | o :: r, s =>
    let mine := decide (carrier = some o.id)
    let st := if o.status ≠ 0 then o.status else if mine then status else 2
    let dt := if o.status ≠ 0 then o.detail else if mine then detail else 0
    flushOps n q carrier status detail r (wrDone n o.wr o.opcode o.post st 0 dt (if st = 2 then 0 else o.unfinished q) s)

/-- Receive entries that a QP's messages hold complete FLUSHED (R443). Log 66 (DESIGN CHOICE). -/
def flushMsgs (n : Nat) : List RMsg → State → State
  | [], s => s
  | m :: r, s => flushMsgs n r (match m.entry with | some e => recvDone n e 2 m.opcode 0 0 0 0 s | none => s)

/-- The NAK that a QP in ERROR sends (R445). -/
def errNak (q : Qp) : Nat := if q.cause = 0x19 then 4 else 5

/-- A QP enters ERROR: R442, R443; one that is in ERROR when its port is lost answers for that from then on (R157, R445). `carrier` is the work request that carries the cause, which completes with `status` and
`detail`; a port loss writes no completions (R158). -/
def qpError (n cause : Nat) (psn : BitVec 32) (carrier : Option Nat) (status detail : Nat) (s : State) : State :=
  let q := qp s n
  if q.st = .free then s
  else if q.st = .error then (if cause = 0x19 then modQp n (fun q => { q with cause := cause }) s else s)
  else
    let s1 := q.deferred.foldl (fun s d => endAdm d s) s
    let s2 := bump 0x240148 { s1 with
      porch := mmod s1.porch q.die [] (fun l => l.filter (fun k => k.dstQpn != n))
      heldPkts := s1.heldPkts.filter (fun k => k.stream || k.srcQpn != n || k.reply)
      qps := mmod s1.qps n {} (fun q => { q with
        st := .error, cause := cause, unacked := [], ops := [], holdFrom := none, deferred := [], msgs := [], fetching := false }) }
    let s3 := if cause = 0x19 then
        q.ops.foldl (fun s o => wqDone o.wr.fn o.wr.queue o.wr.index s) s2
      else flushMsgs n q.msgs (flushOps n q carrier status detail q.ops s2)
    let s4 := qEvent q.fn q.sq 0x0100 n (cause + psn.toNat * 2 ^ 32) 0 s3
    if q.st = .init then s4
    else if [0x11, 0x18, 0x19, 0x1A].contains cause then sendNak n (errNak (qp s4 n)) q.cumPsn s4 else s4

/-- The operation that holds a PSN. -/
def psnOwner (q : Qp) (x : BitVec 32) : Option Nat := (q.ops.find? (fun o => o.holds q x)).map (fun o => o.id)

/-! ## Rates -/

/-- The rate of the port that packets to a node leave by (line_rate of R749). -/
def lineRate (s : State) (q : Qp) : Nat :=
  match q.roce with
  | some c => (fport s c.port).rate
  | none =>
    match route s { dstNode := q.peerNode } 0 false with
    | .go p _ _ => (fport s p).rate
    | _ => 1600000

/-- UT_MIN_RATE. -/
def utMin (s : State) : Nat := obj s 0x2A00 5 100

/-- The rate at which a sender starts (R745). -/
def startPace (s : State) (line : Nat) : Pace :=
  { rate := Nat.min (obj s 0x2A00 6 1600000) line, sendAt := elapsed s, adjustAt := elapsed s }

/-- A rate that has been cut: no lower than the floor. -/
def cutTo (s : State) (r : Nat) : Nat := Nat.max r (utMin s)

/-- UT_MIN is set when a rate reaches the floor (R751). -/
def utFloor (old new : Nat) (s : State) : State := if new = utMin s && old ≠ new then raise 6 4 s else s

/-- The base delay of a path (R747). -/
def PathSt.base (p : PathSt) : Option Nat :=
  match p.cur, p.prev with
  | some a, some b => some (Nat.min a b)
  | some a, none => some a
  | none, r => r

/-- The end of a base window that starts now (R747). -/
def baseEnd (s : State) : Word := elapsed s + BitVec.ofNat 64 (obj s 0x2A00 7 10000 * 16000)

/-- What a valid sample does to a sender (R746 to R749, R753, R757): the sample, its path, whether DETOUR_SEEN and ECN_SEEN were set, the
round trip in ticks. Log 52 (DEDUCED). -/
def paceSample (s : State) (line : Nat) (path d rtt : Nat) (detour ecn : Bool) (p : Pace) : Pace :=
  let x := mget p.paths path {}
  let x1 : PathSt := if detour then { cur := some d, prev := none, delay := some d, ends := x.ends }
    else { x with
      ends := if x.cur.isNone && x.prev.isNone then baseEnd s else x.ends
      cur := some (match x.cur with | some c => Nat.min c d | none => d)
      delay := some d }
  let p1 := { p with paths := mset p.paths path x1 }
  let qd := d - x1.base.getD d
  let t := obj s 0x2A00 1 1000 * 16
  if !reached p.adjustAt (elapsed s) || !qualified s then p1
  else
    let next := elapsed s + BitVec.ofNat 64 rtt
    if t < qd && !detour then
      let cut := Nat.min ((qd - t) * obj s 0x2A00 3 128 / qd) (obj s 0x2A00 4 128)
      let r1 := cutTo s (p.rate - p.rate * cut / 256)
      { p1 with adjustAt := next, rate := r1 }
    else if ecn then { p1 with adjustAt := next, rate := cutTo s (p.rate - p.rate * obj s 0x2A01 3 64 / 256) }
    else if qd ≤ t then { p1 with adjustAt := next, rate := Nat.min (p.rate + obj s 0x2A00 2 1000) line }
    else { p1 with adjustAt := next }

/-- A cut by ECN on an ACK without a valid sample (R757). Log 52 (DEDUCED). -/
def paceEcn (s : State) (rtt : Nat) (p : Pace) : Pace :=
  if reached p.adjustAt (elapsed s) && qualified s then
    { p with adjustAt := elapsed s + BitVec.ofNat 64 rtt, rate := cutTo s (p.rate - p.rate * obj s 0x2A01 3 64 / 256) }
  else p

/-- The sender has sent a packet of some bytes: when it may send the next (R744), in ticks of 1/16 ns. -/
def paceSent (s : State) (bytes : Nat) (p : Pace) : Pace :=
  { p with sendAt := elapsed s + BitVec.ofNat 64 (((bytes + 32) * 8 * 16000 + p.rate - 1) / Nat.max p.rate 1) }

/-- A timer loss halves the rate (R750). -/
def paceHalve (s : State) (p : Pace) : Pace := { p with rate := cutTo s (p.rate / 2) }

end Sys2Proof.Machine
end

