-- ==== Sys2Proof/Machine/Transport.lean ====
section
/-! DEFINITION. The requester side of the transport: the queue-pair commands (R387 to R393, R428, R480, R492, R932), work requests (R452 to
R458, R477), pacing and sending (R406, R407, R419, R456, R462, R470, R489, R744), acknowledgements and losses (R416 to R423), NAKs (R402) and
the timers. -/

namespace Sys2Proof.Machine

open Sys2Proof

/-! ## Queue-pair commands -/

/-- Run a queue-pair command on the QP of the caller's room that a QPN names; NO_QP otherwise (R393). -/
def onQp (h : FdHdr) (op qpn : Nat) (own : State → Option Nat) (body : Qp → State → State) (s : State) : State :=
  frontDesk h op own (fun s =>
    let q := qp s qpn
    if q.st = .free || roomOf s h.fn ≠ some q.room then fdAnswer h op { result := 0x40 } s else body q s) s

/-- The answer BAD_STATE. -/
def badState (h : FdHdr) (op : Nat) (s : State) : State := fdAnswer h op { result := 0x41 } s

/-- QPs of a room. -/
def qpsOf (s : State) (rm : Nat) : Nat := (s.qps.filter (fun p => p.2.st != .free && p.2.room == rm)).length

/-- Spill slots of a room in use (R429). -/
def spillUsed (s : State) (rm : Nat) : Nat := (s.qps.filter (fun p => p.2.st != .free && p.2.room == rm && p.2.homed)).length

/-- Whether a room has a spill area with a free slot. -/
def spillFree (s : State) (rm : Nat) : Bool := (room s rm).spillBase.isSome && decide (spillUsed s rm < (room s rm).spillCount)

/-- Warm contexts of the device. -/
def warmAll (s : State) : Nat := (s.qps.filter (fun p => p.2.st != .free && decide (p.2.level ≤ 1))).length

/-- Which unused QPN QP_CREATE returns is not stated (R389): a free value, when that QPN is unused. Log 27 (DESIGN CHOICE). -/
def pickQpn (s : State) : Nat :=
  let f := (freshVal s).toNat % 2 ^ 24
  if (qp s f).st = .free then f else (lowestFrom (fun n => (qp s n).st == .free) 0 (s.qps.length + 1)).getD 0

/-- What makes a QP_CREATE malformed. Log 63 (DEDUCED). -/
def qpCreateBad (s : State) (h : FdHdr) (sq rq maxOps lantern tc spray pathCount : Nat) : Option Nat :=
  firstBadOf [
    (decide (4096 ≤ sq) || decide (4096 ≤ rq) || decide (8192 ≤ maxOps) || decide (8 ≤ tc) || decide (4 ≤ spray) || decide (32 ≤ pathCount), 1),
    (decide (4096 < maxOps) || decide (spray = 3) || decide (pathCount = 0) || decide (16 < pathCount) ||
      (match roomOf s h.fn with | some r => !lanternOk (room s r) lantern | none => false), 4)]

/-- The refusal of a QP_CREATE (R389). -/
def qpCreateResult (s : State) (h : FdHdr) (rm sq rq : Nat) (pin : Bool) : Nat :=
  let die := fnPort h.fn / 4
  let pins := fun (p : Nat × Qp) => p.2.st != .free && p.2.pinned
  if !isKind s h.fn sq .send || (rq ≠ 0xFFF && !isKind s h.fn rq .recv) then 0x42
  else if (room s rm).quotas.qp ≤ qpsOf s rm || 16777216 ≤ (s.qps.filter (fun p => p.2.st != .free && decide (p.1 < 2 ^ 24))).length then 0x40
  else if pin && ((room s rm).quotas.pin ≤ (s.qps.filter (fun p => pins p && p.2.room == rm)).length ||
      4096 ≤ (s.qps.filter (fun p => pins p && p.2.die == die)).length) then 0x43
  else if ((room s rm).quotas.warm ≤ warmOf s rm || 1048576 ≤ warmAll s) && !spillFree s rm then 0x44
  else 0

/-- QP_CREATE: the QP is in INIT (R387 to R392); its context is hot at first. Log 49 (DEDUCED). -/
def qpCreate (h : FdHdr) (sq rq maxOps lantern tc spray pathCount : Nat) (sealing pin : Bool) (s : State) : State :=
  frontDesk h 0x40 (fun s => qpCreateBad s h sq rq maxOps lantern tc spray pathCount) (fun s =>
    match roomOf s h.fn with
    | none => fdAnswer h 0x40 { result := 0x40 } s
    | some rm =>
      let res := qpCreateResult s h rm sq rq pin
      if res = 0x44 then fdAnswer h 0x40 { result := res } (raise 4 2 s)
      else if res ≠ 0 then fdAnswer h 0x40 { result := res } s
      else
        let n := pickQpn s
        let q : Qp := {
          st := .init, fn := h.fn, room := rm, die := fnPort h.fn / 4, sq := sq, rq := rq, lantern := lantern, tc := tc, spray := spray,
          maxOps := if maxOps = 0 then obj s 0xC100 6 1024 else maxOps,
          pathCount := pathCount, sealed := sealing, pinned := pin, level := 2, homed := spillFree s rm }
        let s1 : State := useFresh { s with qps := mset s.qps n q }
        let s2 := makeHot n (claimWarm n s1)
        fdAnswer h 0x40 { ret := n } (if (qp s2 n).level = 2 then modQp n (fun q => { q with level := 1 }) s2 else s2)) s

/-- QP_CREATE (R389). -/
def execQpCreate (h : FdHdr) (sq rq maxOps lantern tc spray pathCount : Nat) (sealed pin : Bool) (s : State) : Answer :=
  act (answers ++ [.free, .events, .qps, .hot, .warm]) (qpCreate h sq rq maxOps lantern tc spray pathCount sealed pin) s

/-- QP_CONNECT: INIT ends in READY (R387, R392, R405, R745); a sealed QP needs its slot (R933), a RoCE QP takes 24-bit numbers and no node
or epoch (R492). -/
def qpConnect (h : FdHdr) (qpn peerQpn peerNode timeout epoch retryLimit rnrLimit : Nat) (sendPsn recvPsn : BitVec 32) (window : Nat)
    (s : State) : State :=
  onQp h 0x41 qpn (fun s => firstBadOf [
      (decide (2 ^ 24 ≤ qpn) || decide (2 ^ 24 ≤ peerQpn) || decide (8 ≤ retryLimit) || decide (8 ≤ rnrLimit) || decide (1024 ≤ window), 1),
      (decide (window = 0) || decide (512 < window) || (decide (timeout ≠ 0) && decide (timeout < 4)) ||
        ((qp s qpn).roce.isSome && (decide (peerNode ≠ 0) || decide (epoch ≠ 0))), 4)])
    (fun q s =>
      if q.st ≠ .init || (q.sealed && q.keySlot.isNone) then badState h 0x41 s
      else
        fdAnswer h 0x41 {} (modQp qpn (fun q =>
          let q1 := { q with
            st := .ready, peerQpn := peerQpn, peerNode := peerNode, timeout := if timeout = 0 then obj s 0xC100 1 32 else timeout,
            epoch := epoch, retryLimit := retryLimit, rnrLimit := rnrLimit, window := window, nextPsn := q.psn sendPsn,
            cumPsn := q.psn recvPsn, nextMsn := 0, doneMsn := 0, lastPath := q.pathCount - 1,
            rpDue := elapsed s + BitVec.ofNat 64 (obj s 0x2A01 6 55 * 16000) }
          { q1 with pace := startPace s (lineRate s q1) }) s)) s

/-- QP_CONNECT (R392). -/
def execQpConnect (h : FdHdr) (qpn peerQpn peerNode timeout epoch retryLimit rnrLimit : Nat) (sendPsn recvPsn : BitVec 32) (window : Nat)
    (s : State) : Answer :=
  act (answers ++ [.qps]) (qpConnect h qpn peerQpn peerNode timeout epoch retryLimit rnrLimit sendPsn recvPsn window) s

/-- QP_MODIFY: in INIT and DRAINED only (R391). -/
def qpModify (h : FdHdr) (qpn timeout retryLimit rnrLimit window spray pathCount : Nat) (s : State) : State :=
  onQp h 0x42 qpn (fun s => firstBadOf [
      (decide (2 ^ 24 ≤ qpn) || decide (8 ≤ retryLimit) || decide (8 ≤ rnrLimit) || decide (1024 ≤ window) || decide (4 ≤ spray) ||
        decide (32 ≤ pathCount), 1),
      (decide (window = 0) || decide (512 < window) || (decide (timeout ≠ 0) && decide (timeout < 4)) || decide (spray = 3) ||
        decide (pathCount = 0) || decide (16 < pathCount) ||
        ((qp s qpn).roce.isSome && (decide (spray ≠ 0) || decide (pathCount ≠ 1))), 4)])
    (fun q s =>
      if q.st = .init || q.st = .drained then
        fdAnswer h 0x42 {} (modQp qpn (fun q => { q with
          timeout := if timeout = 0 then obj s 0xC100 1 32 else timeout, retryLimit := retryLimit, rnrLimit := rnrLimit,
          window := window, spray := spray, pathCount := pathCount }) s)
      else badState h 0x42 s) s

/-- QP_MODIFY (R391). -/
def execQpModify (h : FdHdr) (qpn timeout retryLimit rnrLimit window spray pathCount : Nat) (s : State) : Answer :=
  act (answers ++ [.qps]) (qpModify h qpn timeout retryLimit rnrLimit window spray pathCount) s

/-- A QPN operand fits its field. -/
def qpnWide (qpn : Nat) : Option Nat := if 2 ^ 24 ≤ qpn then some 1 else none

/-- QP_DRAIN: READY ends in DRAINING (R392). -/
def execQpDrain (h : FdHdr) (qpn : Nat) (s : State) : Answer :=
  act (answers ++ [.qps]) (onQp h 0x43 qpn (fun _ => qpnWide qpn) (fun q s =>
    if q.st = .ready then fdAnswer h 0x43 {} (modQp qpn (fun q => { q with st := .draining }) s) else badState h 0x43 s)) s

/-- QP_DRAINED: the last outstanding operation has completed (R392, R447). -/
def qpDrained (n : Nat) (s : State) : State :=
  let q := qp s n
  if q.st = .draining && q.ops.isEmpty then
    qEvent q.fn q.sq 0x0101 n (q.nextPsn.toNat * 2 ^ 32) 0 (modQp n (fun q => { q with st := .drained }) s)
  else s

/-- QP_DRAINED (R392). -/
def execQpDrained (qpn : Nat) (s : State) : Answer := act (answers ++ [.queues, .qps]) (qpDrained qpn) s

/-- QP_RESUME: DRAINED ends in READY (R392). -/
def execQpResume (h : FdHdr) (qpn : Nat) (s : State) : Answer :=
  act (answers ++ [.qps]) (onQp h 0x44 qpn (fun _ => qpnWide qpn) (fun q s =>
    if q.st = .drained then fdAnswer h 0x44 {} (modQp qpn (fun q => { q with st := .ready }) s) else badState h 0x44 s)) s

/-- A QP after QP_RESET: sequence state, bitmap and counters cleared, the peer kept (R392, R745). -/
def Qp.cleared (q : Qp) (p : Pace) : Qp :=
  { q with
    st := .init, cause := 0, nextPsn := 0, nextMsn := 0, lastPath := 0, unacked := [], orders := 0, ops := [], rnrCount := 0,
    holdFrom := none, noInfer := false, cumPsn := 0, bitmap := [], doneMsn := 0, msgs := [], killed := [], deferred := [], sinceAck := 0,
    echoPsn := 0, echoDelay := 0, detourSeen := false, ecnSeen := false, atomics := [], proxy := [], nakOpen := false, pace := p }

/-- QP_RESET: ERROR, INIT or DRAINED ends in INIT (R392). A receive entry that an unfinished message held completes FLUSHED. Log 57 (DEDUCED). -/
def qpReset (n : Nat) (q : Qp) (s : State) : State :=
  flushMsgs n q.msgs (modQp n (fun q => q.cleared (startPace s (lineRate s q))) (q.deferred.foldl (fun s d => endAdm d s) s))

/-- QP_RESET (R392). -/
def execQpReset (h : FdHdr) (qpn : Nat) (s : State) : Answer :=
  act (answers ++ [.windows, .queues, .qps, .rooms]) (onQp h 0x45 qpn (fun _ => qpnWide qpn) (fun q s =>
    if q.st = .init || q.st = .drained || q.st = .error then fdAnswer h 0x45 {} (qpReset qpn q s) else badState h 0x45 s)) s

/-- A QP ends: its context, its QPN and its waiting Porch packets go (R392). -/
def qpFree (n : Nat) (q : Qp) (s : State) : State :=
  let s1 := dropCtx n (flushMsgs n q.msgs (q.deferred.foldl (fun s d => endAdm d s) s))
  { s1 with qps := mdel s1.qps n }

/-- QP_DESTROY: in INIT, DRAINED or ERROR with no operation outstanding (R392). -/
def execQpDestroy (h : FdHdr) (qpn : Nat) (s : State) : Answer :=
  act (answers ++ [.windows, .queues, .qps, .porch, .hot, .warm, .rooms]) (onQp h 0x46 qpn (fun _ => qpnWide qpn) (fun q s =>
    if (q.st = .init || q.st = .drained || q.st = .error) && q.ops.isEmpty then fdAnswer h 0x46 {} (qpFree qpn q s)
    else badState h 0x46 s)) s

/-- The state field of QP_QUERY (R448). -/
def QpSt.code : QpSt → Nat
  | .free => 0 | .init => 1 | .ready => 2 | .draining => 3 | .drained => 4 | .error => 5

/-- The oldest unacknowledged PSN; the next new one when none is. -/
def Qp.oldest (q : Qp) : BitVec 32 := match q.unacked with | u :: _ => u.psn | [] => q.nextPsn

/-- The 64 B of QP_QUERY (R448). -/
def Qp.query (q : Qp) : List Byte :=
  wordsLe [
    q.peerQpn % 2 ^ 24 * 2 ^ 40 + q.peerNode % 2 ^ 16 * 2 ^ 24 + q.epoch % 256 * 2 ^ 16 + q.cause % 256 * 2 ^ 8 + q.level % 4 * 2 ^ 6 +
      b2n q.pinned * 2 ^ 5 + q.st.code,
    q.nextPsn.toNat * 2 ^ 32 + q.oldest.toNat,
    q.cumPsn.toNat * 2 ^ 32 + q.nextMsn.toNat,
    q.ops.length % 2 ^ 16 * 2 ^ 48 + (q.unacked.foldl (fun a u => Nat.max a u.count) 0) % 256 * 2 ^ 40, 0, 0, 0, 0]

/-- QP_QUERY (R387, R448). -/
def execQpQuery (h : FdHdr) (qpn : Nat) (s : State) : Answer :=
  act dataAccess (onQp h 0x47 qpn (fun s => firstBadOf [(decide (2 ^ 24 ≤ qpn), 1), (badResultAddr s h, 5)]) (fun q s =>
    fdResult h q.query (fun c s => fdAnswer h 0x47 { result := c } s) s)) s

/-- QP_SPILL (R428). Log 63 (DEDUCED). -/
def qpSpill (h : FdHdr) (base contexts : Nat) (s : State) : State :=
  frontDesk h 0x48 (fun _ => firstBadOf [
      (decide (2 ^ 32 ≤ contexts), 1),
      (decide (contexts % 8 ≠ 0) || decide (16777216 < contexts) || (decide (contexts = 0) && decide (base ≠ 0)), 4)]) (fun s =>
    match roomOf s h.fn with
    | none => fdAnswer h 0x48 { result := 0x12 } s
    | some rm =>
      if base % 4096 ≠ 0 then fdAnswer h 0x48 { result := 4 } s
      else if spillUsed s rm ≠ 0 then fdAnswer h 0x48 { result := 9 } s
      else fdAnswer h 0x48 {} (modRoom rm (fun r => { r with
        spillBase := if contexts = 0 then none else some base, spillCount := contexts }) s)) s

/-- QP_SPILL (R428). -/
def execQpSpill (h : FdHdr) (base contexts : Nat) (s : State) : Answer := act (answers ++ [.rooms]) (qpSpill h base contexts) s

/-- QP_PROXY: the proxy area of a QP in INIT or DRAINED (R480). -/
def execQpProxy (h : FdHdr) (qpn slots base : Nat) (s : State) : Answer :=
  act (answers ++ [.qps]) (onQp h 0x49 qpn (fun s => firstBadOf [
      (decide (2 ^ 24 ≤ qpn) || decide (256 ≤ slots), 1), (match roomOf s h.fn with | some r => operand (room s r) base == .bad | none => false, 5),
      (decide (16 < slots), 4)]) (fun q s =>
    if q.st ≠ .init && q.st ≠ .drained then badState h 0x49 s
    else if base % 64 ≠ 0 then fdAnswer h 0x49 { result := 4 } s
    else fdAnswer h 0x49 {} (modQp qpn (fun q => { q with proxyBase := base, proxySlots := slots, proxy := [] }) s))) s

/-- QP_ROCE: a QP in INIT becomes a RoCE v2 QP (R492, R494, R495). -/
def execQpRoce (h : FdHdr) (qpn port : Nat) (ipv6 : Bool) (dscp hopLimit pmtu pkey sport localIp mac ipHi ipLo : Nat) (s : State) : Answer :=
  act (answers ++ [.qps]) (onQp h 0x4A qpn (fun s => firstBadOf [
      ((qp s qpn).sealed && decide ((qp s qpn).st ≠ .free), 6),
      (decide (2 ^ 24 ≤ qpn) || decide (256 ≤ port) || decide (256 ≤ dscp) || decide (256 ≤ hopLimit) || decide (65536 ≤ pkey) ||
        decide (65536 ≤ sport) || decide (8 ≤ localIp) || decide (2 ^ 48 ≤ mac), 1),
      (decide (pmtu < 3) || decide (5 < pmtu) ||
        (decide ((qp s qpn).st ≠ .free) && (decide ((qp s qpn).spray ≠ 0) || decide ((qp s qpn).pathCount ≠ 1))), 4)]) (fun q s =>
    if q.st ≠ .init then badState h 0x4A s
    else if 16 ≤ port || (fport s port).direct then fdAnswer h 0x4A { result := 0x45 } s
    else fdAnswer h 0x4A {} (modQp qpn (fun q => { q with roce := some {
        port := port, ipv6 := ipv6, dscp := dscp, hopLimit := hopLimit, pmtu := pmtu, pkey := pkey, sport := sport, localIp := localIp,
        mac := mac, ipHi := ipHi, ipLo := ipLo } }) s))) s

/-- QP_SEAL: a sealed QP in INIT is bound to a key slot of its room (R932). -/
def execQpSeal (h : FdHdr) (qpn slot : Nat) (s : State) : Answer :=
  act (answers ++ [.qps]) (onQp h 0x80 qpn (fun _ => firstBadOf [(decide (2 ^ 24 ≤ qpn) || decide (256 ≤ slot), 1), (decide (4 ≤ slot), 4)]) (fun q s =>
    if q.st ≠ .init || !q.sealed then badState h 0x80 s
    else
      let k := mget (room s q.room).keys slot {}
      if !(k.bank k.active).loaded then fdAnswer h 0x80 { result := 0x5C } s
      else fdAnswer h 0x80 {} (modQp qpn (fun q => { q with keySlot := some slot }) s))) s

/-! ## Work requests -/

/-- Operations that make a requester read local memory. -/
def opSends (op : Nat) : Bool := decide (1 ≤ op) && decide (op ≤ 5)

/-- The PSNs of a work request: one a packet (R462), one a READ response (R470), none for PROXY_REPLY. -/
def opTotal (q : Qp) (w : WorkReq) (op : Nat) : Nat :=
  if op = 9 then 0 else if opAtomic op then 1 else Nat.max 1 ((w.bytes + q.mtu - 1) / q.mtu)

/-- Whether a work request's words that its opcode does not use are zero (R454). -/
def wrReserved (w : WorkReq) (op : Nat) : Bool :=
  let z := fun (used : Bool) (zero : Bool) => used || zero
  z (op ≠ 9) (w.localAddr == 0 && w.remoteAddr == 0 && w.key == 0) && z (op ≠ 4 && op ≠ 5) (w.remoteAddr == 0 && w.key == 0) &&
    z (op = 2 || op = 5) (w.immediate == 0) && z (op = 3 || op = 9) (w.lantern == 0) && z (opAtomic op || op = 9) (w.compareAdd == 0) &&
    z (op = 8) (w.swap == 0) && z (opSends op) (!w.rseawall) && z (op = 7) (!w.size32 || op == 8) && z (!w.inline) (w.localAddr == 0) &&
    z (op ≠ 9) (w.bytes == 0)

/-- The first cause by which a work request is malformed (R384, R454, R455, R458, R495, R1138). -/
def wrBad (s : State) (w : WorkReq) (op : Nat) (posted : Bool) : Option Nat :=
  let q := qp s w.qpn
  let slot := q.proxy.find? (fun x => x.slot == w.lantern)
  firstBadOf [
    (q.roce.isSome && decide (q.st ≠ .free) && (op == 3 || w.size32 || w.rseawall || (op == 9 && (match slot with | some x => x.size == 4 | none => false))), 6),
    (!posted && decide (w.units ≠ (if w.inline then 4 + (w.bytes + 15) / 16 else 4)), 3),
    (!wrReserved w op || decide (65536 ≤ w.epoch) || decide (2 ^ 24 ≤ w.qpn), 1),
    (!w.inline && op ≠ 9 && (match roomOf s w.fn with | some r => operand (room s r) w.localAddr == .bad | none => false), 5),
    (decide (2 ^ 31 < w.bytes) || (w.inline && (decide (4032 < w.bytes) || !opSends op || posted)) || (op == 6 && decide (w.bytes = 0)) ||
      (opAtomic op && (decide (w.bytes ≠ (if w.size32 then 4 else 8)) || decide (w.remoteAddr % (if w.size32 then 4 else 8) ≠ 0))) ||
      (op == 8 && w.size32) || decide (q.st = .free) || decide (roomOf s w.fn ≠ some q.room) ||
      (!posted && (decide (q.fn ≠ w.fn) || decide (q.sq ≠ w.queue))), 4)]

/-- Whether an index of a ring is another or lies behind it (R282). -/
def notBefore (a b : Nat) : Bool := decide ((BitVec.ofNat 32 b - BitVec.ofNat 32 a).toNat < 2 ^ 31)

/-- Whether an entry of a send or receive queue may run: its queue fetches, or it was fetched before the queue stopped (R311). -/
def mayRun (k : Queue) (index : Nat) : Bool := k.st == .active || k.fetched.any (fun f => f.index == index)

/-- A malformed entry of a send or receive queue: the queue stops at it, and what was fetched behind it is fetched again after RESUME, or it completes
and the queue goes on (R315 to R317). -/
def wqMalformed (fn wq index tag source op detail : Nat) (s : State) : State :=
  if stopClass s fn wq then
    qStop fn wq index detail (modQueue fn wq (fun k => { k with
      cons := if k.fetched.any (fun f => f.index == index) then BitVec.ofNat 32 index else k.cons
      fetched := k.fetched.filter (fun f => !notBefore index f.index)
      entries := k.entries.filter (fun e => !notBefore index e.index) }) s)
  else
    wqDone fn wq index (complete fn {
      tag := tag, status := 1, source := source, opcode := op, detail := detail, index := index, queue := wq } s)

/-- The context of a QP's local data, for the queue that carried the work request. -/
def wrCtx (s : State) (n : Nat) (q : Qp) (w : WorkReq) : DCtx :=
  let k := queue s w.fn w.queue
  { fn := w.fn, room := q.room, die := q.die, pasid := if k.pasidValid then k.pasid + 1 else 0, acc := 7, object := n }

/-- The context of an operation's local data: its operand is what it was when the work request was accepted (R246, R255). Log 190 (DEDUCED). -/
def opCtx (s : State) (n : Nat) (q : Qp) (o : Op) : DCtx := { wrCtx s n q o.wr with pins := o.pins }

/-- What the translation of the whole local range of a work request meets (R456). -/
def wrXlate (s : State) (n : Nat) (q : Qp) (w : WorkReq) (op : Nat) : Option (DErr × Nat) :=
  if w.inline || op = 9 || w.bytes = 0 then none
  else (resolve s (wrCtx s n q w) w.localAddr w.bytes (if opSends op then .read else .write)).2

/-- What a work request does when the Skeond takes it. -/
inductive Post where
  | wait | fetch | miss (e : DErr × Nat) | fails (status detail : Nat) (e : Option (DErr × Nat)) | go
  deriving DecidableEq, Repr

/-- Whether a work request's entry stands behind a fetched one of its send queue that is neither taken nor ended: a queue's entries run in
ring order (R289, R440). Log 197 (DEDUCED). -/
def wrBehind (s : State) (w : WorkReq) : Bool :=
  let taken := fun (i : Nat) => s.qps.any (fun p => p.2.ops.any (fun o => o.post.isNone && o.wr.fn == w.fn && o.wr.queue == w.queue && o.wr.index == i))
  (queue s w.fn w.queue).fetched.any (fun f => f.index != w.index && notBefore f.index w.index && !taken f.index)

/-- The course of a well-formed work request (R384, R257, R440, R436, R456). -/
def wrCourse (s : State) (w : WorkReq) (op : Nat) : Post :=
  let q := qp s w.qpn
  if q.st = .error then .fails 2 0 none
  else if q.st ≠ .ready then .fails 0x10 0 none
  else if wrWaits s q op then .wait
  else if q.level ≠ 0 then .fetch
  else if w.epoch ≠ 0 && w.epoch ≠ (room s q.room).epoch then .fails 3 8 none
  else
    match wrXlate s w.qpn q w op with
    | some e => if e.1.waits then .miss e else .fails (stopEnd e).status (stopEnd e).detail (some e)
    | none => .go

/-- A PROXY_REPLY sends its response and frees its slot; the result enters the cache (R478, R483). -/
def proxyReply (n slot : Nat) (orig : Word) (s : State) : State :=
  let q := qp s n
  match q.proxy.find? (fun x => x.slot == slot) with
  | none => s
  | some x =>
    let v := if x.size = 4 then BitVec.ofNat 64 (orig.toNat % 2 ^ 32) else orig
    sendPkt q { q.pkt s n 0x11 true with psn := x.psn, msn := x.msn, path := x.path, original := v }
      (modQp n (fun q => { q with
        proxy := q.proxy.filter (fun x => x.slot != slot), atomics := ((x.psn, v) :: q.atomics).take 16 }) s)

/-- An accepted work request takes its manifest entry (R439). -/
def wrTake (w : WorkReq) (op : Nat) (post : Option CmdHdr) (s : State) : State :=
  let q := qp s w.qpn
  let bad := op == 9 && !(q.proxy.any (fun x => x.slot == w.lantern))
  let o : Op := { id := q.opSeq, wr := w, opcode := op, total := opTotal q w op, post := post, status := if bad then 0x21 else 0, pins := pinsOf s q.room [w.localAddr] }
  let s1 := makeHot w.qpn (modQp w.qpn (fun q => { q with
    ops := q.ops ++ [o], opSeq := q.opSeq + 1 }) s)
  let s2 := if allOps s + 1 = 262144 then raise 4 1 s1 else s1
  if op = 9 then retireAll w.qpn (if bad then s2 else proxyReply w.qpn w.lantern w.compareAdd s2) else s2

/-- The record of a translation that keeps a work request from starting (R252). -/
def wrFault (s : State) (w : WorkReq) (e : DErr × Nat) : State := stopEff (wrCtx s w.qpn (qp s w.qpn) w) w.localAddr e s

/-- The record of a stale epoch (R252, R257). -/
def wrStale (w : WorkReq) (s : State) : State :=
  ledgerRoom (qp s w.qpn).room { kind := 0x60, severity := 2, object := w.qpn, access := 7, code := 8 } s

/-- A work request of a send queue (R384, R452 to R457). One that must wait, for its QP's manifest, its context or a translation, has no
further effect and is offered again (R440). -/
def postWr (w : WorkReq) (op : Nat) (s : State) : State :=
  let k := queue s w.fn w.queue
  if (roomOf s w.fn).isNone || k.kind != .send || k.st == .free || k.st == .flushed || !mayRun k w.index || wrBehind s w || cacheFrozen s (qp s w.qpn).die then s
  else
    match wrBad s w op false with
    | some d => wqMalformed w.fn w.queue w.index w.tag 0 op d s
    | none =>
      match wrCourse s w op with
      | .wait => s
      | .fetch => fetchCtx w.qpn s
      | .miss e => wrFault s w e
      | .fails st d e =>
        let s1 := match e with | some x => wrFault s w x | none => if st = 3 then wrStale w s else s
        wrDone w.qpn w op none st 0 d 0 s1
      | .go => wrTake w op none s

/-- WRITE (R452). -/
def execWrite (w : WorkReq) (s : State) : Answer := act (transfers ++ [.hot, .warm]) (postWr w 1) s

/-- WRITE_IMM (R452). -/
def execWriteImm (w : WorkReq) (s : State) : Answer := act (transfers ++ [.hot, .warm]) (postWr w 2) s

/-- WRITE_SIGNAL (R452). -/
def execWriteSignal (w : WorkReq) (s : State) : Answer := act (transfers ++ [.hot, .warm]) (postWr w 3) s

/-- SEND (R452). -/
def execSend (w : WorkReq) (s : State) : Answer := act (transfers ++ [.hot, .warm]) (postWr w 4) s

/-- SEND_IMM (R452). -/
def execSendImm (w : WorkReq) (s : State) : Answer := act (transfers ++ [.hot, .warm]) (postWr w 5) s

/-- READ (R452). -/
def execRead (w : WorkReq) (s : State) : Answer := act (transfers ++ [.hot, .warm]) (postWr w 6) s

/-- FETCH_ADD (R452). -/
def execFetchAdd (w : WorkReq) (s : State) : Answer := act (transfers ++ [.hot, .warm]) (postWr w 7) s

/-- CMP_SWAP (R452). -/
def execCmpSwap (w : WorkReq) (s : State) : Answer := act (transfers ++ [.hot, .warm]) (postWr w 8) s

/-- PROXY_REPLY (R483). -/
def execProxyReply (w : WorkReq) (s : State) : Answer := act (transfers ++ [.hot, .warm]) (postWr w 9) s

/-- A list waits at its XFER_POST: a park slot, or its tile when none is free (R458). -/
def parkPost (h : CmdHdr) (r : ListRec) (s : State) : State :=
  parkList { h with wait := 0xFFFF, waitTimeout := 0 } 0x22 r s

/-- XFER_POST: the work request is posted and the command completes with it (R458). -/
def xferPost (h : CmdHdr) (op : Nat) (w : WorkReq) (r : ListRec) (s : State) : CEnd × State :=
  let w := { w with fn := h.fn, queue := h.queue, index := h.index, tag := h.tag }
  match wrCourse s w op with
  | .wait => ({ pend := true }, parkPost h r s)
  | .fetch => ({ stall := true }, fetchCtx w.qpn s)
  | .miss e => ({ stall := true }, wrFault s w e)
  | .fails st d e => ({ status := st, detail := d }, match e with | some x => wrFault s w x | none => if st = 3 then wrStale w s else s)
  | .go => ({ pend := true }, wrTake w op (some h) (parkPost h r s))

/-- What makes an XFER_POST malformed: its length, its OPCODE, or its work request (R455, R458). -/
def xferPostBad (h : CmdHdr) (opcode : Nat) (w : WorkReq) (s : State) (_ : Room) : Option Nat :=
  if h.units ≠ 6 then some 3
  else if opcode = 0 || 9 < opcode then some 4
  else wrBad s { w with fn := h.fn, queue := h.queue } opcode true

/-- XFER_POST (R458). -/
def execXferPost (h : CmdHdr) (opcode : Nat) (w : WorkReq) (s : State) : Answer :=
  act (transfers ++ [.hot, .warm]) (engine h 0x22 0 (xferPostBad h opcode w) (xferPost h opcode w)) s

/-- RECV: a receive entry waits for a message (R453, R459). -/
def recvPost (fn wq index tag epoch : Nat) (segs : List (Nat × Nat)) (s : State) : State :=
  let k := queue s fn wq
  match roomOf s fn with
  | none => s
  | some rm =>
    if k.kind != .recv || k.st == .free || k.st == .flushed || !mayRun k index then s
    else
      match firstBadOf [
          (decide (15 < segs.length), 3), (decide (65536 ≤ epoch) || segs.any (fun g => decide (2 ^ 32 ≤ g.2)), 1),
          (segs.any (fun g => operand (room s rm) g.1 == .bad), 5), (segs.any (fun g => decide (2 ^ 31 < g.2)), 4)] with
      | some d => wqMalformed fn wq index tag 1 1 d s
      | none => modQueue fn wq (fun k => { k with entries := k.entries ++ [{
          index := index, tag := tag, epoch := epoch, segs := segs, pins := pinsOf s rm (segs.map (fun g => g.1)) }] }) s

/-- RECV (R459). -/
def execRecv (fn queue index tag epoch : Nat) (segs : List (Nat × Nat)) (s : State) : Answer := act (answers ++ [.queues]) (recvPost fn queue index tag epoch segs) s

/-! ## Sending -/

/-- Whether the output that a path of a QP takes is not THROTTLED (R742). -/
def pathOpen (s : State) (q : Qp) (path : Nat) : Bool :=
  match route s { dstNode := q.peerNode, path := path, tc := q.tc } 0 false with
  | .go p _ _ => !throttled s p q.tc
  | _ => true

/-- The PATH of a new packet (R407, R742, R752). -/
def newPath (s : State) (q : Qp) : Nat :=
  let next := (q.lastPath + 1) % Nat.max 1 q.pathCount
  match q.spray with
  | 1 => next
  | 2 =>
    let d : Nat → Nat := fun p => match (mget q.pace.paths p {}).delay with | some x => x + 1 | none => 0
    let order := (List.range q.pathCount).map (fun i => (next + i) % Nat.max 1 q.pathCount)
    let free := order.filter (pathOpen s q)
    let order := if free.isEmpty then order else free
    order.foldl (fun best p => if d p < d best then p else best) (order.headD next)
  | _ => 0

/-- The packet of an operation's PSN i: its header and extension (R394, R415, R460, R462); a READ_REQ asks for `n` packets (R470). Log 50 (DEDUCED). -/
def opPkt (s : State) (n : Nat) (q : Qp) (o : Op) (i k : Nat) (psn : BitVec 32) : Pkt :=
  let b := q.pkt s n o.opcode false
  let off := q.mtu * i
  let len := Nat.min (q.mtu * k) (o.wr.bytes - off)
  let fin := i + k = o.total
  { b with
    psn := psn, reqPsn := psn, msn := o.msn, first := i == 0, last := fin, ar := fin
    addr := if o.opcode = 4 || o.opcode = 5 then off else o.wr.remoteAddr + off
    key := if o.opcode = 4 || o.opcode = 5 then 0 else o.wr.key
    msgLen := if o.opcode = 6 then len else if opAtomic o.opcode then (if o.wr.size32 then 4 else 8) else o.wr.bytes
    imm := if (o.opcode = 2 || o.opcode = 5) && fin then o.wr.immediate else if o.opcode = 3 then o.wr.lantern else 0
    rseawall := o.wr.rseawall && opSends o.opcode
    compareAdd := if opAtomic o.opcode then o.wr.compareAdd else 0
    swap := if o.opcode = 8 then o.wr.swap else 0 }

/-- The bytes of an operation's packet, or what reading them meets. -/
def opData (s : State) (n : Nat) (q : Qp) (o : Op) (i : Nat) : Except (DErr × Nat) (List Byte) :=
  let off := q.mtu * i
  let len := Nat.min q.mtu (o.wr.bytes - off)
  if !opSends o.opcode || len = 0 then .ok []
  else if o.wr.inline then .ok ((o.wr.data.drop off).take len)
  else
    match readStop s (opCtx s n q o) (o.wr.localAddr + off) len with
    | some e => .error e
    | none => .ok (peekData s (opCtx s n q o) (o.wr.localAddr + off) len .read)

/-- The effect of reading the bytes of an operation's packet. -/
def opRead (n : Nat) (o : Op) (i : Nat) (s : State) : State :=
  let q := qp s n
  let off := q.mtu * i
  let len := Nat.min q.mtu (o.wr.bytes - off)
  if !opSends o.opcode || len = 0 || o.wr.inline then s
  else readEff (opCtx s n q o) (o.wr.localAddr + off) len s

/-- A packet enters the fabric and the pace: whether it can now, and its effect (R741, R744). Log 64 (DEDUCED). -/
def sendPaced (n : Nat) (k : Pkt) (s : State) : State :=
  let q := qp s n
  sendPkt q k (makeHot n (modQp n (fun q => { q with pace := paceSent s (match q.roce with | some c => roceBytes s c k | none => pktBytes k) q.pace }) s))

/-- Local data of an operation met an error while it was being sent: before its first packet the operation alone fails, later the QP
enters ERROR (R457). -/
def sendFault (n : Nat) (o : Op) (i : Nat) (e : DErr × Nat) (s : State) : State :=
  let q := qp s n
  let st := (stopEnd e).status
  let d := (stopEnd e).detail
  let s1 := modQp n (fun q => { q with ops := q.ops.map (fun x => if x.id = o.id then { x with stopAt := some (q.mtu * i + e.2) } else x) })
    (stopEff (opCtx s n q o) (o.wr.localAddr + q.mtu * i) e s)
  if o.sent = 0 then
    retireAll n (modQp n (fun q => { q with
      ops := q.ops.map (fun x => if x.id = o.id then { x with total := 0, status := st, detail := d } else x) }) s1)
  else qpError n 0x1A q.nextPsn (some o.id) st d s1

/-- Resend a lost PSN: on the next path, with RT and AR, counted unless it follows a BUSY hold (R419 to R421, R473). Log 51 (DEDUCED). -/
def resend (n : Nat) (u : Unacked) (s : State) : State :=
  let q := qp s n
  match q.ops.find? (fun o => o.holds q u.psn) with
  | none => modQp n (fun q => { q with unacked := q.unacked.filter (fun x => x.psn != u.psn) }) s
  | some o =>
    let i := (q.diff u.psn o.first).toNat
    let path := if q.roce.isSome then 0 else (u.path + 1) % Nat.max 1 q.pathCount
    match opData s n q o i with
    | .error e => if e.1.waits then stopEff (opCtx s n q o) (o.wr.localAddr + q.mtu * i) e s else sendFault n o i e s
    | .ok data =>
      let k := { u.pkt with payload := data, path := path, rt := true, ar := true }
      if !canSend s q k then s
      else
        sendPaced n k (opRead n o i (modQp n (fun q => { q with
          orders := q.orders + 1
          unacked := q.unacked.map (fun x => if x.psn = u.psn then
            { x with path := path, order := q.orders, count := if x.free then x.count else x.count + 1, sentAt := elapsed s, lost := false, free := false }
            else x) }) s))

/-- The operation that sends next: the first that has PSNs to send; one with FENCE waits for every earlier READ and atomic (R489). Log 50 (DEDUCED), 64 (DEDUCED). -/
def nextOp : List Op → Bool → Option Op
  | [], _ => none
  | o :: r, before =>
    if o.sent < o.total then (if o.wr.fence && o.sent = 0 && before then none else some o)
    else nextOp r (before || o.opcode == 6 || opAtomic o.opcode)

/-- How many PSNs the next packet of an operation takes: a READ_REQ of up to 65,536 B (R470), else one. Log 51 (DEDUCED). -/
def psnsNext (q : Qp) (o : Op) : Nat :=
  if o.opcode = 6 then Nat.min (Nat.min (65536 / q.mtu) q.window) (o.total - o.sent) else 1

/-- Send the next new packet of an operation (R405 to R407, R415, R456, R462, R470). -/
def sendNew (n : Nat) (o : Op) (s : State) : State :=
  let q := qp s n
  let o : Op := { o with msn := if o.sent = 0 then q.nextMsn else o.msn }
  let k := psnsNext q o
  let used := (q.diff q.nextPsn q.oldest).toNat
  if q.window < used + k || (o.opcode = 6 && 64 ≤ readsOut q) then s
  else
    match opData s n q o o.sent with
    | .error e => if e.1.waits then stopEff (opCtx s n q o) (o.wr.localAddr + q.mtu * o.sent) e s else sendFault n o o.sent e s
    | .ok data =>
      let path := newPath s q
      let p := { opPkt s n q o o.sent k q.nextPsn with payload := data, path := path }
      if !canSend s q p then s
      else
        let one := fun j => { opPkt s n q o (o.sent + j) 1 (q.after q.nextPsn j) with path := path, reqPsn := q.nextPsn }
        let us := (List.range k).map (fun j => ({
          psn := q.after q.nextPsn j, path := path, order := q.orders, sentAt := elapsed s, pkt := one j } : Unacked))
        sendPaced n p (opRead n o o.sent (modQp n (fun q => { q with
          unacked := q.unacked ++ us, orders := q.orders + 1, lastPath := path, nextPsn := q.after q.nextPsn k
          nextMsn := if o.sent = 0 then q.nextMsn + 1 else q.nextMsn
          ops := q.ops.map (fun x => if x.id = o.id then
            { x with sent := x.sent + k, msn := o.msn, first := if x.sent = 0 then q.nextPsn else x.first } else x) }) s))

/-- A QP's turn to send: a packet that waits in it (R741), then a lost PSN, then a new one; nothing while it is held (R402), and not
before its pace allows (R744). A context that is not hot is asked for (R436). Log 55 (DESIGN CHOICE). -/
def qpPace (n : Nat) (s : State) : State :=
  if cacheFrozen s (qp s n).die then s
  else
  let q := qp s n
  match s.heldPkts.find? (fun k => !k.stream && k.srcQpn == n) with
  | some k => if canSend s q k then sendPkt q k { s with heldPkts := s.heldPkts.erase k } else s
  | none =>
    if !q.sends || q.holdFrom.isSome || !reached q.pace.sendAt (elapsed s) then s
    else if q.level ≠ 0 then (if q.ops.isEmpty then s else fetchCtx n s)
    else
      match q.unacked.find? (fun u => u.lost) with
      | some u => resend n u s
      | none =>
        match nextOp q.ops false with
        | some o => sendNew n o s
        | none => s

/-! ## Acknowledgements and losses -/

/-- A PSN that only its response retires (R472). -/
def Unacked.byResponse (u : Unacked) : Bool := u.pkt.opcode == 6 || opAtomic u.pkt.opcode

/-- Whether an ACK marks a PSN received (R400, R416). -/
def ackMarks (q : Qp) (p : Pkt) (x : BitVec 32) : Bool :=
  let d := q.diff x p.cumPsn
  decide (d < 0) || (decide (0 < d) && decide (d ≤ 128) && q.roce.isNone && nbit p.sack (d - 1).toNat == 1)

/-- Declare PSNs lost: each waits to be resent, or the QP ends at RETRY_LIMIT (R420). -/
def declareLost (n : Nat) : List Unacked → State → State
  | [], s => s
  | u :: r, s =>
    let q := qp s n
    if q.st = .error then s
    else if q.retryLimit ≤ u.count then qpError n 0x11 u.psn (psnOwner q u.psn) 0x11 0 s
    else declareLost n r (modQp n (fun q => { q with
      unacked := q.unacked.map (fun x => if x.psn = u.psn then { x with lost := true, free := false } else x) }) s)

/-- What an ACK does to the pace (R746 to R749, R757). -/
def ackPace (n : Nat) (p : Pkt) (s : State) : State :=
  let q := qp s n
  if q.roce.isSome then s
  else
    match q.unacked.find? (fun u => u.psn == p.echoPsn) with
    | none => s
    | some u =>
      let rtt := (elapsed s - u.sentAt).toNat
      let d := p.echoDelay.toInt
      let p1 := if 0 ≤ d ∧ d ≤ 1600000 then paceSample s (lineRate s q) u.path d.toNat rtt p.detourSeen p.ecnSeen q.pace
        else if p.ecnSeen then paceEcn s rtt q.pace else q.pace
      utFloor q.pace.rate p1.rate (modQp n (fun q => { q with pace := p1 }) s)

/-- An ACK: its sample, what it retires, and the PSNs that it shows lost (R416, R417). Log 54 (DEDUCED). -/
def ackMark (n : Nat) (p : Pkt) (s : State) : List Unacked × State :=
  let s1 := ackPace n p s
  let q := qp s1 n
  let marked := q.unacked.filter (fun u => ackMarks q p u.psn)
  let left := q.unacked.filter (fun u => u.byResponse || !ackMarks q p u.psn)
  let infer := q.roce.isNone && !p.detourSeen && !q.noInfer
  let lost := if infer then left.filter (fun u => !u.byResponse && !u.lost && marked.any (fun m => m.path == u.path && decide (u.order < m.order)))
    else []
  (lost, bumpBy 0x240118 lost.length (modQp n (fun q => { q with
    unacked := left, noInfer := q.noInfer || p.detourSeen, noInferEnd := if p.detourSeen then elapsed s + 64000#64 else q.noInferEnd, rnrCount := if marked.isEmpty then q.rnrCount else 0 }) s1))

/-- An ACK of a QP: what it shows lost, and what completes (R416, R417, R423). -/
def ackTake (n : Nat) (p : Pkt) (s : State) : State :=
  let r := ackMark n p s
  retireAll n (declareLost n r.1 r.2)

/-- A NAK: R402. Log 54 (DEDUCED). -/
def nakTake (n : Nat) (p : Pkt) (s : State) : State :=
  let q := qp s n
  let us := if q.roce.isSome then rnrDelay p.hint else p.hint
  let hold := fun (s : State) => modQp n (fun q => { q with
    holdSince := if q.holdFrom.isSome then q.holdSince else elapsed s
    holdUntil := elapsed s + BitVec.ofNat 64 (us * 16000)
    holdFrom := some (match q.holdFrom with | some x => if q.diff x p.nakPsn < 0 then x else p.nakPsn | none => p.nakPsn) }) s
  let owner := psnOwner q p.nakPsn
  match p.nakCode with
  | 1 => hold (bump 0x240130 s)
  | 2 =>
    if q.rnrLimit ≠ 7 && q.rnrLimit ≤ q.rnrCount then qpError n 0x12 p.nakPsn owner 0x12 0 s
    else hold (modQp n (fun q => { q with rnrCount := q.rnrCount + 1 }) s)
  | 3 => qpError n 0x13 p.nakPsn owner 0x13 0 s
  | 4 => qpError n 0x14 p.nakPsn owner 0x14 0 s
  | 5 => qpError n 0x15 p.nakPsn (q.ops.head?.map (fun o => o.id)) 0x15 0 s
  | 6 => qpError n 0x16 p.nakPsn owner 0x16 0 s
  | 7 => qpError n 0x17 p.nakPsn owner 0x17 0 s
  | _ => s

/-! ## Timers -/

/-- Whether a PSN has gone TIMEOUT without a send (R418). -/
def goneTimeout (s : State) (q : Qp) (u : Unacked) : Bool := reached (u.sentAt + BitVec.ofNat 64 (q.timeout * 16000)) (elapsed s)

/-- RETX_TIMEOUT: a PSN has gone TIMEOUT without a send and is declared lost (R418, R420, R750); none while a BUSY hold lasts (R421). Log 2 (DESIGN CHOICE). -/
def retxTimeout (n : Nat) (psn : BitVec 32) (s : State) : State :=
  let q := qp s n
  match q.unacked.find? (fun u => u.psn == psn) with
  | none => s
  | some u =>
    if !q.sends || q.holdFrom.isSome || u.lost || !goneTimeout s q u then s
    else
      let p1 := paceHalve s q.pace
      declareLost n [u] (utFloor q.pace.rate p1.rate (bump 0x240110 (modQp n (fun q => { q with pace := p1 }) s)))

/-- DETOUR_SUSPEND_END: 4 µs after an ACK with DETOUR_SEEN the inference works again (R417). -/
def detourEnd (n : Nat) (s : State) : State :=
  if (qp s n).noInfer && reached (qp s n).noInferEnd (elapsed s) then modQp n (fun q => { q with noInfer := false }) s else s

/-- BUSY_HOLD_END: RETRY_HINT has passed; what was sent from NAK_PSN on is resent, uncounted, and the hold does not count towards the timer of the
rest (R402, R421). -/
def busyHoldEnd (n : Nat) (s : State) : State :=
  match (qp s n).holdFrom with
  | none => s
  | some x =>
    if !reached (qp s n).holdUntil (elapsed s) then s
    else modQp n (fun q => { q with
      holdFrom := none
      unacked := q.unacked.map (fun u => if 0 ≤ q.diff u.psn x then { u with lost := true, free := true }
        else { u with sentAt := u.sentAt + (elapsed s - q.holdSince) }) }) s

/-- ACK_DELAY_TIMER: ACK_DELAY after the first packet placed since the last ACK, an ACK goes out (R414). -/
def ackDelay (n : Nat) (s : State) : State :=
  if (qp s n).receives && decide ((qp s n).sinceAck ≠ 0) && reached (qp s n).ackDue (elapsed s) then sendAck n s else s

/-- The end of a recovery period that starts now (R759). -/
def recoveryEnd (s : State) : Word := elapsed s + BitVec.ofNat 64 (obj s 0x2A01 6 55 * 16000)

/-- CNP_RECEIVE: the rate of a RoCE QP falls, at most once per CNP_INTERVAL, and its recovery period restarts (R759, R760). -/
def cnpReceive (n : Nat) (s0 : State) : State :=
  let q := qp s0 n
  let s := if q.roce.isSome && q.sends then modQp n (fun q => { q with rpDue := recoveryEnd s0 }) s0 else s0
  if q.roce.isNone || !q.sends || !reached q.cnpGot (elapsed s) then s
  else
    let r := cutTo s (q.pace.rate - q.pace.rate * obj s 0x2A01 5 64 / 256)
    utFloor q.pace.rate r (modQp n (fun q => { q with
      pace := { q.pace with rate := r }, cnpGot := elapsed s + BitVec.ofNat 64 (obj s 0x2A01 4 50 * 16000) }) s)

/-- CNP_RECEIVE (R759). -/
def execCnpReceive (qpn : Nat) (s : State) : Answer := act (interrupts ++ [.qps]) (cnpReceive qpn) s

/-- RP_RECOVERY: a period that ended without a CNP raises the rate, and the next one starts (R759, R760). -/
def rpRecovery (n : Nat) (s : State) : State :=
  let q := qp s n
  if q.roce.isNone || !q.sends || !reached q.rpDue (elapsed s) then s
  else modQp n (fun q => { q with
    rpDue := recoveryEnd s, pace := { q.pace with rate := Nat.min (q.pace.rate + obj s 0x2A01 7 5000) (lineRate s q) } }) s

/-- RP_RECOVERY (R759). -/
def execRpRecovery (qpn : Nat) (s : State) : Answer := act [.qps] (rpRecovery qpn) s

/-- A base window of a path ends: the current least sample becomes the previous one, and the next window starts (R747). -/
def baseWindow (s : State) (path : Nat) (p : Pace) : Pace :=
  let x := mget p.paths path {}
  if reached x.ends (elapsed s) then { p with paths := mset p.paths path { x with prev := x.cur, cur := none, ends := baseEnd s } } else p

end Sys2Proof.Machine
end

