-- ==== Sys2Proof/Machine/Remote0.lean ====
section
/-! DEFINITION. The responder: the receive bitmap (R409 to R412), the check of windows (R265, R266), placing writes and sends (R463 to R468,
R1145), reads (R471), atomics and proxied atomics (R475 to R486), and the completion of messages. -/

namespace Sys2Proof.Machine

open Sys2Proof

/-! ## The receive bitmap -/

/-- CUM_PSN moves past what is placed (R400). -/
def Qp.advance (q : Qp) : Nat → Qp
  | 0 => q
  | k + 1 =>
    if q.bitmap.contains q.cumPsn then
      Qp.advance { q with bitmap := q.bitmap.filter (fun x => x != q.cumPsn), cumPsn := q.after q.cumPsn 1 } k
    else
      match q.msgs.find? (fun m => m.covers q q.cumPsn) with
      | some m => Qp.advance { q with cumPsn := q.after (m.last.getD q.cumPsn) 1 } k
      | none => q

/-- Record PSNs as placed. -/
def Qp.mark (q : Qp) (psn : BitVec 32) (k : Nat) : Qp :=
  let q1 := { q with bitmap := ((List.range k).map (fun i => q.after psn i)).filter (fun x => !q.bitmap.contains x) ++ q.bitmap }
  q1.advance (q1.bitmap.length + q1.msgs.length + 1)

/-- An accepted packet of a QP has arrived: what the next ACK echoes and reports (R400, R756). Log 53 (DEDUCED). -/
def noteArrival (n : Nat) (p : Pkt) (s : State) : State :=
  modQp n (fun q => { q with
    echoPsn := p.psn, echoDelay := BitVec.ofNat 32 s.tide.count.toNat - p.txStamp
    detourSeen := q.detourSeen || p.detour, ecnSeen := q.ecnSeen || p.ce }) s

/-- A packet is placed: its PSNs are recorded and an ACK goes out when one is due (R409, R414). -/
def recordPkt (n : Nat) (p : Pkt) (k : Nat) (s : State) : State :=
  let due := elapsed s + BitVec.ofNat 64 (obj s 0xC100 3 1000 * 16)
  let s1 := modQp n (fun q => { q.mark p.psn k with sinceAck := q.sinceAck + 1, ackDue := if q.sinceAck = 0 then due else q.ackDue }) s
  if p.ar || obj s 0xC100 2 8 ≤ (qp s1 n).sinceAck then sendAck n s1 else s1

/-! ## Messages -/

/-- The record of a packet's message. -/
def msgOf (q : Qp) (p : Pkt) : RMsg :=
  match q.msgs.find? (fun m => m.msn == p.msn) with
  | some m => m
  | none => { msn := p.msn, opcode := p.opcode, len := p.msgLen, total := Nat.max 1 ((p.msgLen + q.mtu - 1) / q.mtu) }

/-- Put a message's record in its place, messages in order of their numbers. -/
def putMsg (q : Qp) (m : RMsg) : List RMsg → List RMsg
  | [] => [m]
  | x :: r => if x.msn = m.msn then m :: r else if (m.msn - x.msn).toInt < 0 then m :: x :: r else x :: putMsg q m r

/-- Set a message's record. -/
def setMsg (n : Nat) (m : RMsg) (s : State) : State := modQp n (fun q => { q with msgs := putMsg q m q.msgs }) s

/-- What a packet tells of the range of its message: its first and last PSN. Log 56 (DEDUCED). -/
def msgRange (q : Qp) (p : Pkt) (m : RMsg) : RMsg :=
  let f := if p.first then some p.psn
    else if (p.opcode = 4 || p.opcode = 5) && q.roce.isNone then some (p.psn - BitVec.ofNat 32 (p.addr / 4096))
    else if p.last && q.roce.isNone then some (p.psn - BitVec.ofNat 32 (m.total - 1)) else m.first
  let l := if p.last then some p.psn
    else if q.roce.isSome then m.last
    else match f with | some x => some (q.after x (m.total - 1)) | none => m.last
  { m with first := f, last := l }

/-- A message completes: its receive completion or its lantern (R412, R464, R468, R469, R938). -/
def endMsg (n : Nat) (m : RMsg) (s : State) : State :=
  let fl := (if m.untrusted then 8 else 0) + (if m.partialWall then 16 else 0) + (if m.opcode = 2 || m.opcode = 5 then 32 else 0)
  if m.killed then s
  else if m.opcode = 3 then modLanternReg (qp s n).room m.lantern (fun x => { x with count := x.count + 1 }) s
  else
    match m.entry with
    | some e => recvDone n e 0 m.opcode fl 0 (if m.opcode = 2 then 0 else m.len) m.imm s
    | none => s

/-- Complete the messages whose turn it is: all their PSNs recorded and every earlier message complete (R412). -/
def finishMsgs (n : Nat) : Nat → State → State
  | 0, s => s
  | k + 1, s =>
    let q := qp s n
    match q.msgs with
    | [] => s
    | m :: r =>
      if m.msn = q.doneMsn && (match m.last with | some l => decide (0 < q.diff q.cumPsn l) | none => false) then
        finishMsgs n k (endMsg n m (modQp n (fun q => { q with msgs := r, doneMsn := q.doneMsn + 1 }) s))
      else s

/-- Complete what can complete. -/
def finishAll (n : Nat) (s : State) : State := finishMsgs n ((qp s n).msgs.length + 1) s

/-- A packet of a message is placed: its record, and its PSN; the last PSN of a message with RSEAWALL waits for the Seawall (R490). Log 47 (DESIGN CHOICE), 60 (DEDUCED). -/
def placedPkt (n : Nat) (p : Pkt) (m : RMsg) (s : State) : State :=
  let q := qp s n
  let m1 := msgRange q p { m with
    placed := m.placed + 1, imm := if p.last then p.imm else m.imm, offset := m.offset + p.payload.length,
    len := if q.roce.isSome then m.offset + p.payload.length else m.len, lastIn := m.lastIn || (p.rseawall && p.last),
    rseawall := p.rseawall, lantern := if p.opcode = 3 then p.imm else m.lantern }
  let s1 := setMsg n m1 s
  let s2 := if p.rseawall && p.last then s1 else finishAll n (recordPkt n p 1 s1)
  if m1.rseawall && m1.lastIn && m1.placed = m1.total && m1.walled = 0 then
    (if wallPorts s2 = [] then
      finishAll n (recordPkt n { p with psn := m1.last.getD p.psn, ar := true } 1 (setMsg n { m1 with walled := 2, partialWall := true } s2))
    else
      startWall { id := 0, room := q.room, ports := [], kind := 2, qpn := n, msn := m1.msn } (setMsg n { m1 with walled := 1 } s2))
  else s2

/-- A message is given up (R1145): nothing more of it is placed, and its PSNs are recorded. Log 56 (DEDUCED), 57 (DEDUCED). -/
def killMsg (n : Nat) (p : Pkt) (m : RMsg) (s : State) : State :=
  let q := qp s n
  let m1 := { msgRange q p m with killed := true, entry := none }
  let s1 := modQp n (fun q => { q with msgs := putMsg q m1 q.msgs, killed := if q.killed.contains p.msn then q.killed else p.msn :: q.killed }) s
  finishAll n (modQp n (fun q => q.mark p.psn 1) s1)

/-! ## The check of a window -/

/-- The place of a remote address in its window's space (R260). -/
def Window.at (w : Window) (a : Nat) : Nat := if w.zeroBased then w.base + a else a

/-- Whether a window gives an operation's right. -/
def Window.gives (w : Window) : Need → Bool
  | .read => w.rread
  | .write => w.rwrite
  | .atomic => w.atomic
  | .both => w.rread && w.rwrite

/-- Steps 1 to 6 of R265. Log 61 (DEDUCED). -/
def winCheck (s : State) (n : Nat) (key a len : Nat) (need : Need) : Option Nat :=
  let i := key % 2 ^ 24
  let w := window s i
  let q := qp s n
  if decide (i < 1048576) && w.st == 1 && w.gen.toNat == key / 2 ^ 24 % 256 && w.room == q.room && (!w.qpBound || w.qpn == n) &&
      (!w.sealed || q.sealed) && w.gives need && decide (w.base ≤ w.at a) && decide (w.at a + len ≤ w.base + w.len) then some i else none

/-- The context of an access through a window (R220, R265). -/
def winCtx (s : State) (n i acc : Nat) : DCtx :=
  let w := window s i
  { fn := (room s w.room).fn, room := w.room, die := (qp s n).die, pasid := if w.pasidValid then w.pasid + 1 else 0, remote := true,
    acc := acc, object := n, space := some w.space }

/-- A packet is admitted (R266). -/
def admitOne (i : Nat) (s : State) : State :=
  bump 0x230020 { s with windows := mmod s.windows i {} (fun w => { w with admitted := w.admitted + 1 }) }

/-- A packet waits at its QP. Log 58 (DEDUCED), 203 (DESIGN CHOICE). -/
def deferPkt (n : Nat) (d : Deferred) (s : State) : State := modQp n (fun q => { q with deferred := q.deferred ++ [d] }) s

/-- A deferred packet's admission, or a new one; none when the check fails. -/
def admitted (s : State) (n : Nat) (d : Deferred) (len : Nat) (need : Need) : Option (Nat × State) :=
  match d.adm with
  | some i => some (i, s)
  | none =>
    match winCheck s n d.pkt.key d.pkt.addr len need with
    | some i => some (i, admitOne i s)
    | none => none

/-- The entry of a packet's window is read before the packet is admitted: one that fails in both copies ends the packet with REMOTE_OP (R965,
R968). Log 176 (DEDUCED). -/
def winRead (n : Nat) (d : Deferred) (go lost : State → State) (s : State) : State :=
  let a := winEntryAt (d.pkt.key % 2 ^ 24)
  if d.adm.isSome || decide (1048576 ≤ d.pkt.key % 2 ^ 24) then go s
  else if tableOk s a then go (tableRead a s)
  else sendNak n 7 d.pkt.psn (lost (tableRead a s))

/-- Whether a range reaches host memory through a port in HOLD, where a write waits to be accepted (R156, R413). -/
def holdsHost (s : State) (c : DCtx) (a len : Nat) (need : Need) : Bool :=
  (resolve s c a len need).1.any (fun g => match g.loc with | .host p _ => (hport s p).st == .hold | .dev _ => false)

/-- What a write of a range meets, a port in HOLD included. Log 58 (DEDUCED). -/
def writeStopHeld (s : State) (c : DCtx) (a len : Nat) : Option (DErr × Nat) :=
  match writeStop s c a len with
  | some e => some e
  | none => if holdsHost s c a len .write then some (.held, 0) else none

/-! ## Receive entries -/

/-- The context of a receive entry. Log 67 (DEDUCED). -/
def recvCtx (s : State) (n : Nat) (pins : List (Nat × Bool)) : DCtx :=
  let q := qp s n
  let k := queue s q.fn q.rq
  { fn := q.fn, room := q.room, die := q.die, pasid := if k.pasidValid then k.pasid + 1 else 0, remote := true, acc := 8, object := n,
    pins := pins }

/-- The entry that a message takes: the one at the consumer index of its receive queue (R385). Log 61 (DEDUCED). -/
def headEntry (s : State) (n : Nat) : Option RecvEntry :=
  let q := qp s n
  if q.rq = 0xFFF then none else (queue s q.fn q.rq).entries.head?

/-- Take it. Log 59 (DEDUCED). -/
def takeEntry (n : Nat) (s : State) : State :=
  let q := qp s n
  modQueue q.fn q.rq (fun k => { k with entries := k.entries.tail }) s

/-- Where bytes at an offset of an entry's segments lie: address and length of each piece (R465). -/
def segPieces : List (Nat × Nat) → Nat → Nat → List (Nat × Nat)
  | [], _, _ => []
  | (a, l) :: r, off, len =>
    if len = 0 then []
    else if l ≤ off then segPieces r (off - l) len
    else
      let k := Nat.min len (l - off)
      (a + off, k) :: segPieces r 0 (len - k)

/-- The bytes of an entry's segments. -/
def RecvEntry.size (e : RecvEntry) : Nat := e.segs.foldl (fun a g => a + g.2) 0

/-- What placing bytes into an entry meets first: the cause, the piece's address, the offset in the piece, and that in the whole run, which begins
at `at_`. -/
def placeStop (s : State) (c : DCtx) (at_ : Nat) : List (Nat × Nat) → Option (DErr × Nat × Nat × Nat)
  | [] => none
  | (a, l) :: r =>
    match writeStopHeld s c a l with
    | some e => some (e.1, a, e.2, at_ + e.2)
    | none => placeStop s c (at_ + l) r

/-- Whether a receive entry's expected chart epoch is another than its room's as the entry is taken (R257). -/
def entryStale (s : State) (n : Nat) (e : RecvEntry) : Bool := e.epoch != 0 && e.epoch != (room s (qp s n).room).epoch

/-- A stale receive entry completes with STALE_EPOCH, which is recorded (R252, R257). -/
def staleEntry (n : Nat) (e : RecvEntry) (op : Nat) (s : State) : State :=
  recvDone n e 3 op 0 8 0 0 (ledgerRoom (qp s n).room { kind := 0x60, severity := 2, object := n, access := 8, code := 8 } s)

/-- A message whose receive entry is stale as it is taken is answered REMOTE_OP and given up (R257, R466, R1145). -/
def takeStale (n : Nat) (p : Pkt) (m : RMsg) (e : RecvEntry) (s : State) : State :=
  sendNak n 7 p.psn (killMsg n p m (staleEntry n e p.opcode (takeEntry n s)))

/-- Place bytes into an entry's pieces. Log 66 (DESIGN CHOICE). -/
def placeAt (c : DCtx) : List (Nat × Nat) → List Byte → State → State
  | [], _, s => s
  | (a, l) :: r, d, s => placeAt c r (d.drop l) (writeEff c a (d.take l) s)

/-! ## Writes and sends -/

/-- Operations that take a receive entry (R452). -/
def opTakes (op : Nat) : Bool := op == 2 || op == 4 || op == 5

/-- A WRITE* packet: checked against its window, placed at ADDR (R463, R464, R468, R1145). Log 61 (DEDUCED). -/
def rxWrite (n : Nat) (d : Deferred) (s : State) : State :=
  let p := d.pkt
  let q := qp s n
  let m := msgOf q p
  let len := p.payload.length
  if p.opcode = 3 && !decide (p.imm < (room s q.room).quotas.lantern) then sendNak n 6 p.psn s
  else if decide (2 ^ 31 < p.msgLen) then sendNak n 6 p.psn s
  else winRead n d (fun s =>
    match admitted s n d len .write with
    | none => sendNak n 3 p.psn s
    | some (i, s1) =>
      let e? := if opTakes p.opcode && m.entry.isNone then headEntry s n else none
      if opTakes p.opcode && m.entry.isNone && e?.isNone then sendNak n 2 p.psn (admitEnd i s1)
      else if e?.any (entryStale s n) then takeStale n p m (e?.getD { index := 0 }) (admitEnd i s1)
      else
        let c := winCtx s n i 8
        let a := (window s i).at p.addr
        match writeStopHeld s c a len with
        | some e =>
          if e.1.waits then deferPkt n { d with adm := some i } (stopEff c a e s1)
          else
            let s2 := stopEff c a e (admitEnd i s1)
            (match e.1 with
            | .fault _ => sendNak n 3 p.psn s2
            | _ => sendNak n 7 p.psn (killMsg n p m (match m.entry with | some x => recvDone n x 4 p.opcode 0 0 0 0 s2 | none => s2)))
        | none =>
          let s2 := admitEnd i (writeEff c a p.payload s1)
          let m1 := { m with untrusted := m.untrusted || d.bad, addr := if p.first then p.addr else m.addr, key := p.key }
          if opTakes p.opcode && m.entry.isNone then placedPkt n p { m1 with entry := headEntry s n } (takeEntry n s2)
          else placedPkt n p m1 s2)
    (fun s => killMsg n p m (match m.entry with | some x => recvDone n x 4 p.opcode 0 0 0 0 s | none => s)) s

/-- A SEND* packet: placed in its receive entry (R464 to R466, R1145). -/
def rxSend (n : Nat) (d : Deferred) (s : State) : State :=
  let p := d.pkt
  let q := qp s n
  let m := msgOf q p
  match (match m.entry with | some e => some e | none => headEntry s n) with
  | none => sendNak n 2 p.psn s
  | some e =>
    let s1 := if m.entry.isNone then takeEntry n s else s
    let m1 := { m with entry := some e, untrusted := m.untrusted || d.bad }
    let c := recvCtx s n e.pins
    if m.entry.isNone && entryStale s n e then takeStale n p m e s
    else if e.size < p.msgLen then sendNak n 6 p.psn (killMsg n p m1 (recvDone n e 0x20 p.opcode 0 0 0 0 s1))
    else
      let ps := segPieces e.segs p.addr p.payload.length
      match placeStop s c p.addr ps with
      | some (x, a, o, b) =>
        if x.waits then deferPkt n d (setMsg n m1 (stopEff c a (x, o) s1))
        else
          let fin := stopEnd (x, o)
          sendNak n 7 p.psn (killMsg n p m1 (recvDone n e fin.status p.opcode 0 fin.detail b 0 (stopEff c a (x, o) s1)))
      | none => placedPkt n p m1 (placeAt c ps p.payload s1)

/-! ## Reads -/

/-- The responses of a READ_REQ (R461, R471). Log 51 (DEDUCED). -/
def readResps (s : State) (n : Nat) (q : Qp) (p : Pkt) (data : List Byte) : List Pkt :=
  let k := (p.msgLen + q.mtu - 1) / q.mtu
  (List.range k).map (fun i => { q.pkt s n 0x10 true with
    psn := q.after p.psn i, msn := p.msn, path := p.path, reqPsn := p.psn, offset := q.mtu * i, payload := (data.drop (q.mtu * i)).take q.mtu,
    first := p.first && i == 0, last := p.last && i + 1 == k })

/-- A READ_REQ is served: checked once over its whole range, read, answered (R471, R473). -/
def serveRead (n : Nat) (d : Deferred) (s : State) : State :=
  let p := d.pkt
  winRead n d (fun s => match admitted s n d p.msgLen .read with
  | none => sendNak n 3 p.psn s
  | some (i, s1) =>
    let c := winCtx s n i 9
    let a := (window s i).at p.addr
    match readStop s c a p.msgLen with
    | some e =>
      if e.1.waits then deferPkt n { d with adm := some i } (stopEff c a e s1)
      else
        let s2 := stopEff c a e (admitEnd i s1)
        (match e.1 with
        | .fault _ => sendNak n 3 p.psn s2
        | _ => sendNak n 7 p.psn s2)
    | none =>
      let data := peekData s c a p.msgLen .read
      let s2 := bump 0x240150 (admitEnd i (readEff c a p.msgLen s1))
      (readResps s n (qp s n) p data).foldl (fun s k => sendPkt (qp s n) k s) s2) id s

/-- The most that one READ_REQ may ask for (R460). -/
def readMax (q : Qp) : Nat := if q.roce.isSome then 2 ^ 31 else 65536

/-- A READ_REQ: its PSNs are recorded, and it is served once every earlier PSN is placed (R471). Log 59 (DEDUCED). -/
def rxRead (n : Nat) (d : Deferred) (s : State) : State :=
  let p := d.pkt
  let q := qp s n
  if p.msgLen = 0 || readMax q < p.msgLen then sendNak n 6 p.psn s
  else
    let k := (p.msgLen + q.mtu - 1) / q.mtu
    let m := msgOf q p
    let m1 := { m with first := if p.first then some p.psn else m.first, last := if p.last then some (q.after p.psn (k - 1)) else m.last }
    let s1 := finishAll n (recordPkt n p k (setMsg n m1 s))
    if 0 ≤ q.diff (qp s1 n).cumPsn p.psn then serveRead n d s1 else deferPkt n d s1

/-! ## Atomics -/

/-- The new value of an atomic (R475). -/
def atomicNew (p : Pkt) (old : Word) : Word :=
  if p.opcode = 8 then (if old = p.compareAdd then p.swap else old)
  else if p.msgLen = 4 then BitVec.ofNat 64 ((old.toNat + p.compareAdd.toNat % 2 ^ 32) % 2 ^ 32)
  else old + p.compareAdd

/-- An atomic has executed: the response, the cache, the PSN (R475, R478). -/
def atomicDone (n : Nat) (p : Pkt) (orig : Word) (s : State) : State :=
  let q := qp s n
  let m := msgOf q p
  let s1 := sendPkt q { q.pkt s n 0x11 true with psn := p.psn, msn := p.msn, path := p.path, original := orig }
    (modQp n (fun q => { q with atomics := ((p.psn, orig) :: q.atomics).take 16 }) s)
  finishAll n (recordPkt n p 1 (setMsg n { m with first := some p.psn, last := some p.psn } s1))

/-- The record of a proxy slot (R482). Log 65 (DESIGN CHOICE). -/
def slotRecord (q : Qp) (p : Pkt) (slot a : Nat) : List Byte :=
  wordsLe [p.psn.toNat * 2 ^ 32 + p.opcode * 2 ^ 16 + (if p.msgLen = 8 then 256 else 0) + slot, a % 2 ^ 64, p.compareAdd.toNat, p.swap.toNat,
    q.peerNode % 2 ^ 16 * 2 ^ 24 + q.peerQpn % 2 ^ 24, 0, 0, 0]

/-- An atomic on host memory whose root port does not take AtomicOps is proxied; its admission ends when the slot
record is written (R481, R486). -/
def proxyAtomic (n : Nat) (d : Deferred) (a i : Nat) (s : State) : State :=
  let p := d.pkt
  let q := qp s n
  let c := recvCtx s n []
  let due := elapsed s + BitVec.ofNat 64 (obj s 0xC102 1 1000 * 16000)
  if q.proxySlots = 0 || q.rq = 0xFFF then sendNak n 6 p.psn (admitEnd i s)
  else
    match lowestFrom (fun i => !q.proxy.any (fun x => x.slot == i)) 0 q.proxySlots with
    | none => sendNak n 1 p.psn (admitEnd i s)
    | some slot =>
      match headEntry s n with
      | none => sendNak n 2 p.psn (admitEnd i s)
      | some e =>
        if !cqReady s q.fn (queue s q.fn q.rq).cq then sendNak n 1 p.psn (admitEnd i s)
        else if entryStale s n e then takeStale n p (msgOf q p) e (admitEnd i s)
        else
          let b := q.proxyBase + 64 * slot
          match writeStopHeld s c b 64 with
          | some x =>
            if x.1.waits then deferPkt n { d with adm := some i } (stopEff c b x s) else sendNak n 7 p.psn (stopEff c b x (admitEnd i s))
          | none =>
            let m := msgOf q p
            let s1 := bump 0x240160 (takeEntry n (admitEnd i (writeEff c b (slotRecord q p slot a) s)))
            let s2 := modQp n (fun q => { q with
              proxy := q.proxy ++ [{ slot := slot, psn := p.psn, msn := p.msn, opcode := p.opcode, size := p.msgLen, path := p.path, due := due }] }) s1
            let s3 := recvDone n e 0 p.opcode 32 0 p.msgLen p.psn.toNat s2
            finishAll n (recordPkt n { p with ar := true } 1 (setMsg n { m with first := some p.psn, last := some p.psn } s3))

/-- An atomic executes on the place that its window names (R476, R479). Log 65 (DESIGN CHOICE). -/
def runAtomic (n : Nat) (d : Deferred) (i : Nat) (s : State) : State :=
  let p := d.pkt
  let c := winCtx s n i 10
  let a := (window s i).at p.addr
  let r := resolve s c a p.msgLen .atomic
  let stop := fun (e : DErr × Nat) =>
    if e.1.waits then deferPkt n { d with adm := some i } (stopEff c a e s)
    else
      let s2 := stopEff c a e (admitEnd i s)
      match e.1 with
      | .fault _ => sendNak n 3 p.psn s2
      | _ => sendNak n 7 p.psn s2
  match r.2, r.1 with
  | some e, _ => stop e
  | none, g :: _ =>
    (match g.loc with
    | .host port h =>
      if !(func s c.fn).cfg.atomicOp then proxyAtomic n d a i s
      else
        (match segReadBad s g with
        | some e => stop e
        | none =>
          let old := BitVec.ofNat 64 (ofLe (hostRead s port h p.msgLen))
          atomicDone n p old (bump 0x240158 (admitEnd i (dataOnly s
            (emit (.atomicOp port h p.opcode p.msgLen)
              (useSeg c a g { s with hmem := mset s.hmem port (cellSets (hostCells s port) h (leBytes p.msgLen (atomicNew p old).toNat)) }))))))
    | .dev x =>
      (match segReadBad s g with
      | some e => stop e
      | none =>
        let old := BitVec.ofNat 64 (ofLe (devRead s x p.msgLen))
        atomicDone n p old (bump 0x240158 (admitEnd i (dataOnly s
          (devWrite x (leBytes p.msgLen (atomicNew p old).toNat) (readSegEff g (useSeg c a g s))))))))
  | none, [] => sendNak n 6 p.psn (admitEnd i s)

/-- An atomic request: executed in PSN order, once every earlier PSN is placed (R475). Log 59 (DEDUCED). -/
def rxAtomic (n : Nat) (d : Deferred) (s : State) : State :=
  let p := d.pkt
  let q := qp s n
  if (p.msgLen ≠ 4 && p.msgLen ≠ 8) || (p.opcode = 8 && p.msgLen ≠ 8) then sendNak n 6 p.psn s
  else if q.cumPsn ≠ p.psn then deferPkt n d s
  else winRead n d (fun s =>
    match admitted s n d p.msgLen .atomic with
    | none => sendNak n 3 p.psn s
    | some (i, s1) =>
      if (window s i).at p.addr % p.msgLen ≠ 0 then sendNak n 6 p.psn (admitEnd i s1) else runAtomic n d i s1) id s

end Sys2Proof.Machine
end

