-- ==== Sys2Proof/Machine/Remote.lean ====
section
/-! DEFINITION. Packets that arrive for queue pairs: the discards of R399, the Porch (R432 to R438), duplicates (R410), seals (R934 to R940),
responses at the requester (R457, R474), RoCE v2 (R492 to R495, R758), and the ends of Seawalls. -/

namespace Sys2Proof.Machine

open Sys2Proof

/-! ## Requests -/

/-- A packet is discarded and counted (R399, R411). -/
def discard (s : State) : State := bump 0x240138 s

/-- Request opcodes of a QP. -/
def isRequest (op : Nat) : Bool := decide (1 ≤ op) && decide (op ≤ 8)

/-- A request that is not a duplicate runs, or runs again after waiting. -/
def rxRun (n : Nat) (d : Deferred) (s : State) : State :=
  let op := d.pkt.opcode
  if op ≤ 3 then rxWrite n d s else if op ≤ 5 then rxSend n d s else if op = 6 then rxRead n d s else rxAtomic n d s

/-- A duplicate request: R410, R473, R478, R484, R487. -/
def rxDup (n : Nat) (p : Pkt) (s : State) : State :=
  let q := qp s n
  let s1 := bump 0x240120 s
  if p.opcode = 6 then
    (if p.msgLen = 0 || readMax q < p.msgLen then sendNak n 6 p.psn s1
    else if 0 ≤ q.diff q.cumPsn p.psn then serveRead n { pkt := p } s1 else deferPkt n { pkt := p } s1)
  else if opAtomic p.opcode then
    (match q.atomics.find? (fun x => x.1 == p.psn) with
    | some x => sendPkt q { q.pkt s n 0x11 true with psn := p.psn, msn := p.msn, path := p.path, original := x.2 } s1
    | none =>
      if q.proxy.any (fun x => x.psn == p.psn) then (if q.roce.isSome then s1 else sendNak n 1 p.psn s1) else discard s1)
  else sendAck n s1

/-- Whether a request is answered BUSY: its port is in HOLD (R156), its room is QUIESCING or QUIESCED (R894), or it needs a completion on a
queue that takes none (R324). -/
def rxBusy (s : State) (q : Qp) (op : Nat) : Bool :=
  (hport s (fnPort q.fn)).st == .hold || (room s q.room).st == .quiescing || (room s q.room).st == .quiesced ||
    (opTakes op && q.rq != 0xFFF && !cqReady s q.fn (queue s q.fn q.rq).cq)

/-- A request of a QP whose context is hot. -/
def rxReq (n : Nat) (p : Pkt) (bad : Bool) (s : State) : State :=
  let s := noteArrival n p s
  let q := qp s n
  let d := q.diff p.psn q.cumPsn
  let k := if p.opcode = 6 then Nat.max 1 ((p.msgLen + q.mtu - 1) / q.mtu) else 1
  if q.killed.contains p.msn && q.roce.isNone then
    discard (match q.msgs.find? (fun m => m.msn == p.msn) with
      | some m => finishAll n (modQp n (fun q => q.mark p.psn 1) (setMsg n (msgRange q p m) s))
      | none => s)
  else if d < 0 || q.has p.psn then rxDup n p s
  else if 512 < d + k then discard s
  else if q.deferred.any (fun x => x.pkt.psn == p.psn && x.pkt.opcode == p.opcode) ||
      (p.last && q.msgs.any (fun m => m.msn == p.msn && m.lastIn)) then bump 0x240120 s
  else rxRun n { pkt := p, bad := bad } s

/-! ## Seals -/

/-- What the check of a packet's tag says: it goes on, it goes on marked, or it is discarded (R934, R937, R940). -/
inductive SealRes where
  | ok | marked | mismatch | noTile | failed
  deriving DecidableEq, Repr

/-- The check of a packet at a QP. -/
def sealRes (s : State) (n : Nat) (p : Pkt) : SealRes :=
  let q := qp s n
  if !q.sealed then (if p.sealed then .mismatch else .ok)
  else if p.sealed && !sealTile s then .noTile
  else if p.sealed && sealOk s n p then .ok
  else if p.opcode ≤ 5 || p.opcode = 0x10 || p.opcode = 0x11 then .marked else .failed

/-- The record and counters of a failed check (R939). -/
def sealFail (n : Nat) (p : Pkt) (s : State) : State :=
  raise 9 0 (bump 0x380110 (ledgerRoom (qp s n).room {
    kind := 0x63, severity := 2, object := n, d0 := p.psn.toNat + p.srcNode * 2 ^ 32 } s))

/-- A checked packet, or none when it is discarded; the second component is whether it is marked. -/
def sealCheck (n : Nat) (p : Pkt) (s : State) : Option Bool × State :=
  let s1 := if (qp s n).sealed && p.sealed && sealTile s then bump 0x380108 s else s
  match sealRes s n p with
  | .ok => (some false, s1)
  | .marked => (some true, sealFail n p s1)
  | .mismatch => (none, bump 0x380118 s1)
  | .noTile => (none, raise 9 1 (discard s1))
  | .failed => (none, discard (sealFail n p s1))

/-! ## Responses at the requester -/

/-- Local data could not be placed: the work request fails and the QP enters ERROR (R457). -/
def respFault (n : Nat) (p : Pkt) (o : Op) (c : DCtx) (a : Nat) (e : DErr × Nat) (s : State) : State :=
  qpError n 0x1A p.psn (some o.id) (stopEnd e).status (stopEnd e).detail
    (modQp n (fun q => { q with ops := q.ops.map (fun x => if x.id = o.id then { x with stopAt := some (a - o.wr.localAddr + e.2) } else x) }) (stopEff c a e s))

/-- A response is placed and retires its PSN (R472, R474). Log 60 (DEDUCED). -/
def rxResp (n : Nat) (d : Deferred) (s : State) : State :=
  let p := d.pkt
  let q := qp s n
  match q.unacked.find? (fun u => u.psn == p.psn && u.byResponse && (u.pkt.opcode == 6) == (p.opcode == 0x10)), q.ops.find? (fun o => o.holds q p.psn) with
  | some _, some o =>
    let off := if p.opcode = 0x11 then 0
      else if q.roce.isSome then (q.diff p.psn o.first).toNat * q.mtu
      else (q.diff p.reqPsn o.first).toNat * q.mtu + p.offset
    let data := if p.opcode = 0x11 then leBytes (if o.wr.size32 then 4 else 8) p.original.toNat else p.payload
    let c := opCtx s n q o
    let a := o.wr.localAddr + off
    (match writeStopHeld s c a data.length with
    | some e => if e.1.waits then deferPkt n d (stopEff c a e s) else respFault n p o c a e s
    | none =>
      retireAll n (modQp n (fun q => { q with
        unacked := q.unacked.filter (fun u => u.psn != p.psn)
        ops := q.ops.map (fun x => if x.id = o.id then { x with untrusted := x.untrusted || d.bad } else x) })
        (writeEff c a data s)))
  | _, _ => bump 0x240120 s

/-! ## Packets of a hot context -/

/-- A packet runs by its kind. -/
def rxKind (n : Nat) (p : Pkt) (bad : Bool) (s : State) : State :=
  if isRequest p.opcode then rxReq n p bad s
  else if p.opcode = 0x10 || p.opcode = 0x11 then rxResp n { pkt := p, bad := bad } s
  else if p.opcode = 0xC0 then ackTake n p s
  else nakTake n p s

/-- Try the packets that wait at a QP once more, in their order. -/
def retryPass (n : Nat) (s : State) : State :=
  let ds := (qp s n).deferred
  ds.foldl (fun s d => if (qp s n).st = .error then s
      else if d.pkt.opcode = 6 && (qp s n).has d.pkt.psn || (d.pkt.opcode = 6 && decide ((qp s n).diff d.pkt.psn (qp s n).cumPsn < 0)) then
        (if 0 ≤ (qp s n).diff (qp s n).cumPsn d.pkt.psn then serveRead n d s else deferPkt n d s)
      else if isRequest d.pkt.opcode then rxRun n d s else rxResp n d s)
    (modQp n (fun q => { q with deferred := [] }) s)

/-- Passes over what waits, as long as one changes it: an atomic that executes lets the next one execute. -/
def retryGo (n : Nat) : Nat → State → State
  | 0, s => s
  | k + 1, s =>
    if (qp s n).deferred.isEmpty then s
    else
      let s1 := retryPass n s
      if (qp s1 n).deferred.length < (qp s n).deferred.length then retryGo n k s1 else s1

/-- Try what waits at a QP. -/
def retryAll (n : Nat) (s : State) : State := retryGo n ((qp s n).deferred.length + 1) s

/-- A packet of a hot context: its seal, its kind, and what it lets go on. -/
def rxHot (n : Nat) (p : Pkt) (s : State) : State :=
  if !(qp s n).receives || (qp s n).st = .error then discard s
  else
    match sealCheck n p s with
    | (none, s1) => s1
    | (some bad, s1) => retryAll n (rxKind n p bad (makeHot n s1))

/-! ## Arrival -/

/-- Opcodes of a native QP packet (R397, R452). -/
def rxKnown (op : Nat) : Bool := isRequest op || op == 0x10 || op == 0x11 || op == 0xC0 || op == 0xC1

/-- The discards of R399. -/
def rxOk (s : State) (p : Pkt) : Bool :=
  let q := qp s p.dstQpn
  trailerOk p && p.version == 1 && rxKnown p.opcode && p.lenOk && !p.stream && q.receives && q.roce.isNone && p.srcNode == q.peerNode &&
    p.srcQpn == q.peerQpn && p.epoch == q.epoch

/-- Porch slots of a room on a die (R434). -/
def porchOf (s : State) (die rm : Nat) : Nat := ((mget s.porch die []).filter (fun k => (qp s k.dstQpn).room == rm)).length

/-- A packet whose context is not hot waits in the Porch, and the context is fetched; a full Porch answers BUSY (R432 to R435). -/
def toPorch (n : Nat) (p : Pkt) (s : State) : State :=
  let q := qp s n
  if 2048 ≤ (mget s.porch q.die []).length then sendNak n 1 p.psn (raise 4 0 s)
  else if (room s q.room).quotas.porch ≤ porchOf s q.die q.room then sendNak n 1 p.psn s
  else fetchCtx n { s with porch := mmod s.porch q.die [] (fun l => l ++ [p]) }

/-- The room whose Breakwater a packet of some bytes is checked against: that of the receiving QP, for requests and the responses of reads and atomics
(R730). -/
def policeRoom (s : State) (p : Pkt) : Option Nat :=
  if p.stream || !(isRequest p.opcode || p.opcode == 0x10 || p.opcode == 0x11) then none
  else match mfind s.qps p.dstQpn with
    | some q => if q.st = .free then none else some q.room
    | none => none

/-- Whether a Breakwater drops a packet (R727). Log 172 (DEDUCED). -/
def overBreakwater (s : State) (p : Pkt) (bytes : Nat) : Bool :=
  match policeRoom s p with
  | some r => bucketOn s (rpolice r) && decide (bucketTok s (rpolice r) 0 < (bytes + 32 : Nat))
  | none => false

/-- A Breakwater drops a packet silently (R732). -/
def breakwaterDrop (p : Pkt) (s : State) : State :=
  match policeRoom s p with
  | some r => raise 6 1 (bump (0x420020 + 0x40 * r) s)
  | none => s

/-- A Breakwater accepts a packet and is charged for it (R727). -/
def breakwaterTake (p : Pkt) (bytes : Nat) (s : State) : State :=
  match policeRoom s p with
  | some r => bumpBy (0x420028 + 0x40 * r) bytes (bucketCharge (rpolice r) 0 (bytes + 32) s)
  | none => s

/-- A packet arrives for a queue pair: its trailer, the Breakwater of its room (R731), and the other discards of R399. -/
def rxPkt (p : Pkt) (s : State) : State :=
  let n := p.dstQpn
  if qpFrozen s n then s
  else if !trailerOk p then discard s
  else if overBreakwater s p (pktBytes p) then breakwaterDrop p s
  else
  let s := breakwaterTake p (pktBytes p) s
  if !rxOk s p then discard s
  else
    let s := bump 0x240108 s
    let q := qp s n
    if q.st = .error then (if isRequest p.opcode then sendNak n (errNak q) p.psn s else discard s)
    else if isRequest p.opcode && rxBusy s q p.opcode then sendNak n 1 p.psn s
    else if q.level ≠ 0 then toPorch n p s
    else rxHot n p s

/-- A command that brings a packet of certain kinds; an opcode that names nothing is one of the discards of R399. -/
def rxRow (ops : List Nat) (p : Pkt) (s : State) : State :=
  if ops.contains p.opcode || !(rxKnown p.opcode || (decide (0x40 ≤ p.opcode) && decide (p.opcode < 0x80))) then rxPkt p s else s

/-- WRITE_PACKET_RECEIVE (R463). -/
def execWritePacketReceive (p : Pkt) (s : State) : Answer := act losses (rxRow [1, 2, 3] p) s

/-- SEND_PACKET_RECEIVE (R465). -/
def execSendPacketReceive (p : Pkt) (s : State) : Answer := act losses (rxRow [4, 5] p) s

/-- READ_REQ_RECEIVE (R471). -/
def execReadReqReceive (p : Pkt) (s : State) : Answer := act losses (rxRow [6] p) s

/-- ATOMIC_REQ_RECEIVE (R475). -/
def execAtomicReqReceive (p : Pkt) (s : State) : Answer := act losses (rxRow [7, 8] p) s

/-- READ_RESP_RECEIVE (R474). -/
def execReadRespReceive (p : Pkt) (s : State) : Answer := act losses (rxRow [0x10] p) s

/-- ATOMIC_RESP_RECEIVE (R472). -/
def execAtomicRespReceive (p : Pkt) (s : State) : Answer := act losses (rxRow [0x11] p) s

/-! ## RoCE v2 -/

/-- A RoCE packet is discarded and counted (R494, R495). -/
def roceDiscard (s : State) : State := bump 0x240170 s

/-- The packets of R493: native opcode numbers, CNP as 0x81, and 0x60 as the code of a PSN Sequence Error. -/
def roceKnown (op : Nat) : Bool :=
  op == 1 || op == 2 || op == 4 || op == 5 || op == 6 || op == 7 || op == 8 || op == 0x10 || op == 0x11 || op == 0xC0 || op == 0xC1

/-- Whether a packet is its RoCE QP's: ICRC, P_Key, port and peer (R494). -/
def roceOk (s : State) (port pkey : Nat) (h : EthHdr) (p : Pkt) : Bool :=
  let q := qp s p.dstQpn
  match q.roce with
  | none => false
  | some c => p.crcOk && p.lenOk && roceKnown p.opcode && q.receives && c.port == port && c.pkey == pkey && c.ipv6 == h.ipv6 &&
      h.srcIp == c.ipHi * 2 ^ 64 + c.ipLo && !(opAtomic p.opcode && p.msgLen != 8)

/-- A CE-marked packet is answered with a CNP, at most one per CNP_INTERVAL (R758). Log 62 (PRESUMED). -/
def cnpSend (n : Nat) (p : Pkt) (s : State) : State :=
  let q := qp s n
  if !p.ce || !reached q.cnpSent (elapsed s) then s
  else
    sendPkt q (q.pkt s n 0x81 true)
      (modQp n (fun q => { q with cnpSent := elapsed s + BitVec.ofNat 64 (obj s 0x2A01 4 50 * 16000) }) s)

/-- A request packet with the message number, address and length that a native packet would carry: a RoCE message arrives in order, so its
place follows from what has arrived. Log 62 (PRESUMED). -/
def roceNative (q : Qp) (p : Pkt) : Pkt :=
  let m := (q.msgs.find? (fun m => m.msn == q.doneMsn)).getD { msn := q.doneMsn, opcode := p.opcode }
  let k := { p with msn := q.doneMsn }
  if p.opcode ≤ 2 then (if p.first then k else { k with addr := m.addr + m.offset, key := m.key, msgLen := m.len })
  else if p.opcode ≤ 5 then { k with addr := m.offset, msgLen := m.offset + p.payload.length }
  else k

/-- A request of a RoCE QP: in PSN order only (R494). -/
def roceReq (n : Nat) (p : Pkt) (s : State) : State :=
  let q := qp s n
  let d := q.diff p.psn q.cumPsn
  if d < 0 then rxDup n p s
  else if 0 < d then
    (if q.nakOpen then roceDiscard s
    else roceDiscard (sendNak n 0x60 q.cumPsn (modQp n (fun q => { q with nakOpen := true }) s)))
  else rxReq n (roceNative q p) false (modQp n (fun q => { q with nakOpen := false }) s)

/-- A RoCE packet at a hot context. -/
def roceHot (n : Nat) (p : Pkt) (s : State) : State :=
  let s := cnpSend n p s
  if isRequest p.opcode then retryAll n (roceReq n p s)
  else if p.opcode = 0x10 || p.opcode = 0x11 then retryAll n (rxResp n { pkt := p } s)
  else if p.opcode = 0xC0 then ackTake n p s
  else if p.nakCode = 0x60 then
    declareLost n ((qp s n).unacked.filter (fun u => decide (0 ≤ (qp s n).diff u.psn p.nakPsn))) s
  else nakTake n p s

/-- A packet of a RoCE QP arrives (R493 to R495). -/
def roceReceive (port pkey : Nat) (h : EthHdr) (p : Pkt) (s : State) : State :=
  let n := p.dstQpn
  if qpFrozen s n then s
  else if !p.crcOk then roceDiscard s
  else if overBreakwater s p h.bytes then breakwaterDrop p s
  else
  let s := breakwaterTake p h.bytes s
  if !roceOk s port pkey h p then roceDiscard s
  else
    let q := qp s n
    if q.st = .error then (if isRequest p.opcode then sendNak n (errNak q) p.psn s else roceDiscard s)
    else if isRequest p.opcode && rxBusy s q p.opcode then sendNak n 1 p.psn s
    else if q.level ≠ 0 then toPorch n p s
    else roceHot n p (makeHot n s)

/-- ROCE_PACKET_RECEIVE (R493). -/
def execRocePacketReceive (port pkey : Nat) (h : EthHdr) (p : Pkt) (s : State) : Answer := act losses (roceReceive port pkey h p) s

/-! ## Context fetches -/

/-- CONTEXT_FETCH_COMPLETE: the context is hot and the Porch releases its packets in order (R433); a failed fetch ends the QP (R437), and a
cold one through a port in HOLD waits (R438). Log 49 (DEDUCED), 173 (DEDUCED). -/
def contextFetched (n : Nat) (ok : Bool) (s : State) : State :=
  let q := qp s n
  if !q.fetching || q.st = .free then s
  else if q.level = 2 && (hport s (fnPort q.fn)).st == .hold then s
  else if qpFrozen s n || (q.level = 1 && ctxFrozen s n) then s
  else if !ok then
    ledgerRoom q.room { kind := 0x61, severity := 2, object := n, access := 12 } (raise 4 3 (qpError n 0x18 0 none 2 0 s))
  else
    let s1 := makeHot n (claimWarm n s)
    if (qp s1 n).level ≠ 0 then s1
    else
      let ps := (mget s1.porch q.die []).filter (fun k => k.dstQpn == n)
      ps.foldl (fun s p => if q.roce.isSome then roceHot n p s else rxHot n p s) { s1 with porch := mmod s1.porch q.die [] (fun l => l.filter (fun k => k.dstQpn != n)) }

/-- CONTEXT_FETCH_COMPLETE (R433). -/
def execContextFetchComplete (qpn : Nat) (ok : Bool) (s : State) : Answer := act losses (contextFetched qpn ok) s

/-- PROXY_TIMEOUT: a slot that stays pending is freed (R485). -/
def proxyTimeout (n slot : Nat) (s : State) : State :=
  let q := qp s n
  match q.proxy.find? (fun x => x.slot == slot) with
  | none => s
  | some x =>
    if !reached x.due (elapsed s) then s
    else ledgerRoom q.room { kind := 0x62, severity := 0, object := n, d0 := slot }
      (sendNak n 7 x.psn (bump 0x240168 (modQp n (fun q => { q with proxy := q.proxy.filter (fun y => y.slot != slot) }) s)))

/-- PROXY_TIMEOUT (R485). -/
def execProxyTimeout (qpn slot : Nat) (s : State) : Answer := act (reports ++ [.qps, .fports, .heldPkts, .tokens]) (proxyTimeout qpn slot) s

/-! ## What waited for a translation -/

/-- Every QP tries what waits for a translation, a port or a unit. Log 58 (DEDUCED), 192 (DESIGN CHOICE). -/
def retryQps (s : State) : State :=
  (s.qps.filter (fun p => !p.2.deferred.isEmpty)).foldl (fun s p => retryAll p.1 s) s

/-! ## Ends of Seawalls -/

/-- A Seawall ends: what waited for it completes, marked when a port was skipped (R150, R152, R347, R490). Log 48 (DEDUCED). -/
def wallEnd (w : SeawallRec) (s : State) : State :=
  let fl := if w.partialSeen then 16 else 0
  match w.kind with
  | 0 =>
    (match w.hdr with
    | some h =>
      (match findList s h.fn h.queue h.list with
      | some r => if r.st = .held && r.cur = some (h, w.opcode) then
          okCmd h w.opcode { r with st := .onTile } { bytes := w.bytes, flags := w.flags ||| fl } s else s
      | none => s)
    | none => s)
  | 1 => retireAll w.qpn (modQp w.qpn (fun q => { q with
      ops := q.ops.map (fun o => if o.id = w.bytes && o.walled = 1 then { o with walled := if w.partialSeen then 3 else 2 } else o) }) s)
  | 2 =>
    (match (qp s w.qpn).msgs.find? (fun m => m.msn == w.msn && m.walled == 1) with
    | some m =>
      let p : Pkt := { psn := m.last.getD 0, ar := true }
      retryAll w.qpn (finishAll w.qpn (recordPkt w.qpn p 1 (setMsg w.qpn { m with walled := 2, partialWall := w.partialSeen } s)))
    | none => s)
  | _ => lanternAdd w.room w.bytes 1 s

/-- SEAWALL_COMPLETE: the reads have come back behind the writes of every port; a port in HOLD keeps it waiting (R150, R153). -/
def seawallComplete (id : Nat) (s : State) : State :=
  match s.seawalls.find? (fun w => w.id == id) with
  | none => s
  | some w =>
    if w.ports.any (fun p => (hport s p).st == .hold) then s
    else wallEnd w { s with seawalls := s.seawalls.filter (fun x => x.id != id) }

/-- SEAWALL_COMPLETE (R150). -/
def execSeawallComplete (id : Nat) (s : State) : Answer := act (transfers ++ [.windows, .porch]) (seawallComplete id) s

/-- TRANSLATION_COMPLETION: the cache, and the packets that waited for it (R224, R250). -/
def execTranslationCompletion (fn pasid addr status size xaddr : Nat) (r w : Bool) (s : State) : Answer :=
  act (transfers ++ [.windows, .porch]) (fun s => retryQps (translationCompletion fn pasid addr status size xaddr r w s)) s

/-- PAGE_REQUEST_RESPONSE: the translation is requested again, or the accesses that waited for it take PRI_DENIED (R227, R228). -/
def execPageRequestResponse (fn pasid addr code : Nat) (s : State) : Answer :=
  act (transfers ++ [.windows, .porch]) (fun s => retryQps (pageRequestResponse fn pasid addr code s)) s

/-- PRI_TIMEOUT: the accesses that waited for the page take the fault (R229). -/
def execPriTimeout (fn pasid addr : Nat) (s : State) : Answer := act (transfers ++ [.windows, .porch]) (fun s => retryQps (priTimeout fn pasid addr s)) s

/-- RETRAIN_RESUMED: what the port kept goes on, and so do the packets that waited for it (R156). -/
def execRetrainResumed (port rate width : Nat) (flit : Bool) (s : State) : Answer :=
  act (transfers ++ [.windows, .porch]) (fun s => retryQps (retrainResumed port rate width flit s)) s

/-- FREEZE_CLEAR: requests to the unit go on, and so do the packets that waited for it (R214). -/
def execFreezeClear (fn unit : Nat) (s : State) : Answer := act (transfers ++ [.arms, .windows, .porch]) (fun s => retryQps (drainRings (freezeClear fn unit s))) s

end Sys2Proof.Machine
end

