-- ==== Sys2Proof/Machine/Coll0.lean ====
section
/-! DEFINITION. What collectives rest on: device streams (R424 to R426, R563, R696), itineraries (R548 to R556) and party contexts
(R681 to R688). -/

namespace Sys2Proof.Machine

open Sys2Proof

/-! ## Device streams -/

/-- The key of a stream's record: its peer, its epoch and its number (R424, R563, R696). -/
def streamKey (peer epoch num : Nat) : Nat := (1 + peer) * 2 ^ 32 + epoch % 256 * 2 ^ 24 + num % 2 ^ 24

/-- The number of a bulk stream: `down` away from the root (R563). -/
def bulkNum (itin tree : Nat) (down : Bool) : Nat := itin % 2 ^ 16 + tree % 64 * 2 ^ 16 + b2n down * 2 ^ 22

/-- The number of a round stream (R696). -/
def roundNum (ctrl : Nat) (down : Bool) : Nat := ctrl % 2 ^ 16 + b2n down * 2 ^ 22 + 2 ^ 23

/-- A stream that has sent and received nothing: the itinerary's TC and PATH_COUNT, adaptive spraying, PSNs and MSNs from 0, a rate that
starts anew (R563, R745, R935). It belongs to no room and no function. -/
def newStream (s : State) (it : Itin) (peer epoch num : Nat) : Qp :=
  let q : Qp := {
    st := .ready, fn := 2 ^ 32, room := 256, level := 2, tc := it.tc, spray := 2, pathCount := it.paths, sealed := it.sealed,
    peerQpn := num % 2 ^ 24, peerNode := peer, epoch := epoch % 256, timeout := obj s 0xC100 1 32 }
  { q with pace := startPace s (lineRate s q) }

/-- A stream's record, made when it is first used. -/
def openStream (it : Itin) (peer epoch num : Nat) (s : State) : State :=
  let k := streamKey peer epoch num
  if (qp s k).st = .free then { s with qps := mset s.qps k (newStream s it peer epoch num) } else s

/-- The records of streams that satisfy a condition on peer, epoch and number end (R425, R593). -/
def dropStreams (p : Nat → Nat → Nat → Bool) (s : State) : State :=
  let hit := fun (k : Nat) => decide (2 ^ 32 ≤ k) && p (k / 2 ^ 32 - 1) (k / 2 ^ 24 % 256) (k % 2 ^ 24)
  { s with
    qps := s.qps.filter (fun x => !hit x.1)
    heldPkts := s.heldPkts.filter (fun k => !(k.stream && !k.reply && p k.dstNode k.epoch k.srcQpn)) }

/-- A packet joins what its stream has to send. -/
def streamQueue (key : Nat) (k : Pkt) (s : State) : State := modQp key (fun q => { q with outq := q.outq ++ [k] }) s

/-- The next message number of a stream (R405). -/
def streamMsn (key : Nat) (s : State) : BitVec 32 × State :=
  ((qp s key).nextMsn, modQp key (fun q => { q with nextMsn := q.nextMsn + 1 }) s)

/-- A list cut into runs of n. -/
def cut {α : Type} (n : Nat) : Nat → List α → List (List α)
  | 0, _ => []
  | k + 1, l => if l.length ≤ n then [l] else l.take n :: cut n k (l.drop n)

/-- Send a payload as one message of packets of up to 4,096 B (R564): OFFSET in each, CHUNK_CRC in the last. -/
def streamSend (it : Itin) (peer epoch num op : Nat) (ext : CollExt) (payload : List Byte) (s : State) : State :=
  let key := streamKey peer epoch num
  let m := streamMsn key (openStream it peer epoch num s)
  let parts := cut 4096 (payload.length / 4096 + 1) payload
  let base := (qp m.2 key).pkt m.2 key op false
  parts.zipIdx.foldl (fun s x =>
    let fin := x.2 + 1 == parts.length
    streamQueue key { base with
      msn := m.1, first := x.2 == 0, last := fin, ar := fin, payload := x.1
      coll := { ext with offset := 4096 * x.2, crc := if fin then crc32c payload else 0 } } s) m.2

/-- Whether a message of a stream is still waiting or unacknowledged. -/
def streamHolds (s : State) (key op tree chunk : Nat) : Bool :=
  let mine := fun (k : Pkt) => k.opcode == op && k.coll.tree == tree && k.coll.chunk == chunk
  (qp s key).outq.any mine || (qp s key).unacked.any (fun u => mine u.pkt)

/-- A stream's turn to send: a packet that waits at the router (R741), then a lost PSN (R419), then the next packet; nothing while it is held
(R402), and not before its pace allows (R744). Log 55 (DESIGN CHOICE). -/
def streamPace (n : Nat) (s : State) : State :=
  let q := qp s n
  match s.heldPkts.find? (fun k => k.stream && !k.reply && k.srcQpn == n % 2 ^ 24 && k.dstNode == q.peerNode && k.epoch == q.epoch) with
  | some k => if canInject s k then originate k { s with heldPkts := s.heldPkts.erase k } else s
  | none =>
    if q.st ≠ .ready || q.holdFrom.isSome || !reached q.pace.sendAt (elapsed s) then s
    else
      match q.unacked.find? (fun u => u.lost) with
      | some u =>
        let path := (u.path + 1) % Nat.max 1 q.pathCount
        let k := { u.pkt with path := path, rt := true, ar := true }
        if !canSend s q k then s
        else sendPaced n k (modQp n (fun q => { q with
          orders := q.orders + 1
          unacked := q.unacked.map (fun x => if x.psn = u.psn then
            { x with path := path, order := q.orders, count := if x.free then x.count else x.count + 1, sentAt := elapsed s, lost := false, free := false }
            else x) }) s)
      | none =>
        match q.outq with
        | [] => s
        | k :: rest =>
          let oldest := match q.unacked with | u :: _ => u.psn | [] => q.nextPsn
          let path := newPath s q
          let p := { k with psn := q.nextPsn, path := path }
          if q.window < (q.diff q.nextPsn oldest).toNat + 1 || !canSend s q p then s
          else sendPaced n p (modQp n (fun q => { q with
            unacked := q.unacked ++ [{ psn := q.nextPsn, path := path, order := q.orders, sentAt := elapsed s, pkt := p }]
            orders := q.orders + 1, lastPath := path, nextPsn := q.nextPsn + 1, outq := rest }) s)

/-- UNDERTOW_PACE: a QP or a stream sends when its rate allows (R744). -/
def execUndertowPace (stream : Bool) (qpn node epoch : Nat) (s : State) : Answer :=
  act losses (fun s => if stream then streamPace (streamKey node epoch qpn) s else qpPace qpn s) s

/-- The record that a timer names. -/
def timerKey (stream : Bool) (qpn node epoch : Nat) : Nat := if stream then streamKey node epoch qpn else qpn

/-- UT_BASE_WINDOW_END (R747). -/
def execUtBaseWindowEnd (stream : Bool) (qpn node epoch path : Nat) (s : State) : Answer :=
  act [.qps] (fun s =>
    let n := timerKey stream qpn node epoch
    if (qp s n).st = .free then s else modQp n (fun q => { q with pace := baseWindow s path q.pace }) s) s

/-- DETOUR_SUSPEND_END (R417). -/
def execDetourSuspendEnd (stream : Bool) (qpn node epoch : Nat) (s : State) : Answer := act [.qps] (detourEnd (timerKey stream qpn node epoch)) s

/-- BUSY_HOLD_END (R402). -/
def execBusyHoldEnd (stream : Bool) (qpn node epoch : Nat) (s : State) : Answer := act [.qps] (busyHoldEnd (timerKey stream qpn node epoch)) s

/-- ACK_DELAY_TIMER (R414). -/
def execAckDelayTimer (stream : Bool) (qpn node epoch : Nat) (s : State) : Answer := act (interrupts ++ [.cnt, .qps, .fports, .heldPkts, .tokens]) (ackDelay (timerKey stream qpn node epoch)) s

/-! ## Itineraries -/

/-- The collective engine's record. -/
def modColl (f : Colls → Colls) (s : State) : State := { s with coll := f s.coll }

/-- An installed itinerary. -/
def itin? (s : State) (i : Nat) : Option Itin := mfind s.coll.itins i

/-- The bound of R543. -/
def timeoutBound (s : State) : Nat := 32 * obj s 0xC100 1 32

/-- A TIMEOUT in ticks: COLL_TIMEOUT_DEFAULT for 0 (R541, R548, R704). -/
def timeoutTicks (s : State) (t : Nat) : Nat := (if t = 0 then obj s 0xC201 1 2000 else t) * 16000

/-- The timeout of an itinerary's nodes, no lower than the bound of R543 (R603). -/
def nodeTicks (s : State) (it : Itin) : Nat := timeoutTicks s (if it.timeout = 0 then 0 else Nat.max it.timeout (timeoutBound s))

/-- A TIMEOUT operand that R543 accepts. -/
def timeoutOk (s : State) (t : Nat) : Bool := t == 0 || decide (timeoutBound s ≤ t)

/-- A tree record's four words (R549). -/
def treeOf (l : List Nat) : Tree :=
  let w0 := l.getD 0 0
  let w1 := l.getD 1 0
  let n := fld w1 27 24
  { first := fld w0 31 0, blocks := fld w0 63 32, parent := fld w1 63 48, rootRank := fld w1 47 32, locals := fld w1 19 16
    children := (List.range n).map (fun i => fld (l.getD (2 + i / 4) 0) (16 * (i % 4) + 15) (16 * (i % 4))) }

/-- Whether a tree record keeps the ranges of R549 and R553. -/
def treeOk (l : List Nat) (t : Tree) : Bool :=
  let w1 := l.getD 1 0
  decide (1 ≤ t.blocks) && decide (t.children.length ≤ 8) && fld w1 31 28 == 0 && fld w1 23 20 == 0 && fld w1 15 0 == 0 &&
  (List.range 8).all (fun i => decide (i < t.children.length) || fld (l.getD (2 + i / 4) 0) (16 * (i % 4) + 15) (16 * (i % 4)) == 0) &&
  t.children.all (fun c => c != 0xFFFF && c != t.parent) && t.children.eraseDups.length == t.children.length

/-- Whether trees cover blocks contiguously from a block, and where they end. -/
def treesEnd : Nat → List Tree → Option Nat
  | b, [] => some b
  | b, t :: r => if t.first = b then treesEnd (b + t.blocks) r else none

/-- The identifier and tree count of a record's header. -/
def recId (d : List Byte) : Nat := fld (wordAt d 0) 63 48

/-- The length of a record from its header (R548). -/
def recLen (d : List Byte) : Nat := 32 + 32 * fld (wordAt d 0) 31 24

/-- Read an itinerary record (R548, R549): none when R553 answers BAD_ITIN. Log 91 (DESIGN CHOICE). -/
def parseItin (s : State) (d : List Byte) : Option Itin :=
  let w0 := wordAt d 0
  let w1 := wordAt d 1
  let w2 := wordAt d 2
  let n := fld w0 31 24
  let recs := (List.range n).map (fun i => (List.range 4).map (fun j => wordAt d (4 + 4 * i + j)))
  let trees := recs.map treeOf
  let it : Itin := {
    chunkBlocks := fld w0 47 32, window := fld w0 23 16, sealed := nbit w0 11 == 1, tc := fld w0 10 8, paths := fld w0 4 0
    tag := fld w1 63 32, total := fld w1 31 0, timeout := fld w2 63 48, trees := trees }
  if decide (32 ≤ it.chunkBlocks) && decide (it.chunkBlocks ≤ 8192) && decide (1 ≤ n) && decide (n ≤ 64) && decide (1 ≤ it.window) &&
      decide (it.window ≤ 16) && fld w0 15 12 == 0 && fld w0 7 5 == 0 && decide (1 ≤ it.paths) && decide (it.paths ≤ 16) &&
      decide (1 ≤ it.total) && decide (it.total ≤ 2 ^ 26) && fld w2 47 0 == 0 && wordAt d 3 == 0 && timeoutOk s it.timeout &&
      (recs.zip trees).all (fun x => treeOk x.1 x.2) && treesEnd 0 trees == some it.total
  then some it else none

/-- Install a record: the result code of R553 and R936. Log 88 (DEDUCED). -/
def installItin (d : List Byte) (s : State) : Nat × State :=
  match parseItin s d with
  | none => (0x50, s)
  | some it =>
    let i := recId d
    let k := mget s.sealing.fab (i % 16) {}
    if (itin? s i).isSome then (0x51, s)
    else if 4096 ≤ s.coll.itins.length then (0x53, s)
    else if it.sealed && !(k.bank k.active).loaded then (0x5C, s)
    else (0, modColl (fun c => { c with itins := mset c.itins i it }) s)

/-- Whether a collective is open on an itinerary at this device (R554). -/
def itinBusy (s : State) (i : Nat) : Bool :=
  s.coll.nodes.any (fun n => n.itin == i && !n.fin) || s.coll.members.any (fun m => m.cls ≠ 5 && m.bulk.itin == i)

/-- Remove an itinerary: the result code of R554. -/
def removeItin (i : Nat) (s : State) : Nat × State :=
  if (itin? s i).isNone then (0x52, s)
  else if itinBusy s i then (8, s)
  else (0, dropStreams (fun _ _ n => n % 2 ^ 16 == i)
    (modColl (fun c => { c with itins := mdel c.itins i, nodes := c.nodes.filter (fun n => n.itin != i) }) s))

/-- What stops the reading of a record at an address: its first 32 B, or the whole, whose length they give (R548). Log 91 (DESIGN CHOICE). -/
def itinStop (s : State) (c : DCtx) (a : Nat) : Option (DErr × Nat) :=
  match readStop s c a 32 with
  | some e => some e
  | none => readStop s c a (recLen (peekData s c a 32 .read))

/-- ITINERARY_INSTALL: R552, R553, R936; a failed read of the record leaves the device unchanged (R1143), and a read that waits leaves the
command untaken. Log 29 (DEDUCED), 91 (DESIGN CHOICE), 169 (DEDUCED). -/
def itineraryInstall (h : FdHdr) (a : Nat) (s : State) : State :=
  frontDesk h 0x68 (fun s => firstBadOf [(!isInn s h.fn, 6),
      ((match roomOf s h.fn with | some r => operand (room s r) a == .bad | none => true), 5)]) (fun s =>
    let c := fdCtx s h 5
    match itinStop s c a with
    | some e =>
      if e.1.waits then stopEff c a e s
      else fdAnswer h 0x68 { result := fdFail e.1 } (stopEff c a e s)
    | none =>
      let n := recLen (peekData s c a 32 .read)
      let r := installItin (peekData s c a n .read) (readEff c a n s)
      fdAnswer h 0x68 { result := r.1 } r.2) s

/-- ITINERARY_INSTALL (R552). -/
def execItineraryInstall (h : FdHdr) (addr : Nat) (s : State) : Answer := act (dataAccess ++ [.coll]) (itineraryInstall h addr) s

/-- ITINERARY_REMOVE (R552). -/
def execItineraryRemove (h : FdHdr) (itin : Nat) (s : State) : Answer :=
  act (answers ++ [.qps, .coll, .heldPkts]) (frontDesk h 0x69 (fun s => firstBadOf [(!isInn s h.fn, 6)]) (fun s =>
    let r := removeItin itin s
    fdAnswer h 0x69 { result := r.1 } r.2)) s

/-- Harbour units that an itinerary's nodes hold. -/
def itinUnits (s : State) (i : Nat) : Nat :=
  sumOf (fun n => if n.itin = i then sumOf (fun c => c.units.length) n.chunks else 0) s.coll.nodes

/-- The 32 B of ITINERARY_QUERY (R552). -/
def itinWords (s : State) (i : Nat) (it : Itin) : List Byte :=
  wordsLe [it.epoch % 256 + (s.coll.nodes.filter (fun n => n.itin == i && !n.fin)).length % 256 * 2 ^ 8 + itinUnits s i % 65536 * 2 ^ 16, 0, 0, 0]

/-- ITINERARY_QUERY (R552). -/
def execItineraryQuery (h : FdHdr) (itin : Nat) (s : State) : Answer :=
  act dataAccess (frontDesk h 0x6A (fun s => firstBadOf [(!isInn s h.fn, 6), (badResultAddr s h, 5)]) (fun s =>
    match itin? s itin with
    | none => fdAnswer h 0x6A { result := 0x52 } s
    | some it =>
      fdResult h (itinWords s itin it) (fun c s => fdAnswer h 0x6A { result := c } s) s)) s

/-- ITIN_LOAD: a record written over Relivicel; what follows it in the 2,080 B must be zero (R555, R556). -/
def itinLoad (d : List Byte) (s : State) : State :=
  let r := if d.length = 2080 && (d.drop (recLen d)).all (fun b => b == 0) then installItin d s else (0x50, s)
  modColl (fun c => { c with itinResult := r.1 }) r.2

/-- ITIN_LOAD (R555). -/
def execItinLoad (data : List Byte) (s : State) : Answer := act [.coll] (itinLoad data) s

/-- ITIN_UNLOAD (R555). -/
def execItinUnload (itin : Nat) (s : State) : Answer :=
  act [.qps, .coll, .heldPkts] (fun s => let r := removeItin itin s; modColl (fun c => { c with itinResult := r.1 }) r.2) s

/-! ## Parties -/

/-- Contexts of a room. -/
def partiesOf (s : State) (rm : Nat) : Nat := (s.coll.parties.filter (fun p => p.2.room == rm)).length

/-- Which free context PARTY_CREATE takes is not stated: a free value, when that one is free. Log 27 (DESIGN CHOICE). -/
def pickParty (s : State) : Nat :=
  let f := (freshVal s).toNat % 4096
  if (mfind s.coll.parties f).isNone then f else (lowestFrom (fun n => (mfind s.coll.parties n).isNone) 0 4096).getD 0

/-- The refusals of PARTY_CREATE that do not wait (R685). -/
def partyBad (s : State) (tag rank size gen : Nat) : Option Nat :=
  if size = 0 || 1048576 < size || size ≤ rank || s.coll.parties.any (fun p => p.2.tag == tag && p.2.gen != gen) then some 0x55
  else if s.coll.parties.any (fun p => p.2.tag == tag && p.2.rank == rank) then some 0x56
  else none

/-- Whether a room can have another context (R682, R686). -/
def partyRoom (s : State) (rm : Nat) : Bool := decide (s.coll.parties.length < 4096) && decide (partiesOf s rm < (room s rm).quotas.party)

/-- Make a context, or answer why not; none when it must wait (R685, R686). Log 88 (DEDUCED). -/
def tryParty (h : FdHdr) (tag rank size ctrl gen : Nat) (s : State) : Option State :=
  match partyBad s tag rank size gen, roomOf s h.fn with
  | some r, _ => some (fdAnswer h 0x60 { result := r } s)
  | none, none => some (fdAnswer h 0x60 { result := 0x54 } s)
  | none, some rm =>
    if partyRoom s rm then
      let n := pickParty s
      some (fdAnswer h 0x60 { ret := n } (useFresh (modColl (fun c => { c with
        parties := mset c.parties n { room := rm, tag := tag, rank := rank, size := size, ctrl := ctrl, gen := gen } }) s)))
    else none

/-- PARTY_CREATE: R683, R685, R686. -/
def partyCreate (h : FdHdr) (tag rank size ctrl gen : Nat) (s : State) : State :=
  frontDesk h 0x60 (fun _ => none) (fun s =>
    match tryParty h tag rank size ctrl gen s with
    | some s1 => s1
    | none => if obj s 0xC220 2 1000 = 0 then fdAnswer h 0x60 { result := 0x54 } s else fdHold h 0x60 (.party tag rank size ctrl gen (elapsed s + BitVec.ofNat 64 (obj s 0xC220 2 1000 * 16000))) s) s

/-- PARTY_CREATE (R683). -/
def execPartyCreate (h : FdHdr) (tag rank size ctrl gen : Nat) (s : State) : Answer := act (answers ++ [.free, .coll]) (partyCreate h tag rank size ctrl gen) s

/-- PARTY_WAIT_EXPIRED: no context has become free within PARTY_WAIT (R686). -/
def execPartyWaitExpired (fn : Nat) (s : State) : Answer :=
  act answers (fun s => match (func s fn).fd.running with
    | some (h, op, .party _ _ _ _ _ due) => if reached due (elapsed s) then fdAnswer h op { result := 0x54 } s else s
    | _ => s) s

/-- A front desk that waits for a context tries again. -/
def retryParty (fn : Nat) (s : State) : State :=
  match (func s fn).fd.running with
  | some (h, _, .party tag rank size ctrl gen _) => (tryParty h tag rank size ctrl gen s).getD s
  | _ => s

/-- Every front desk that waits for a context tries again, by function number. Log 88 (DEDUCED). -/
def retryParties (s : State) : State := s.funcs.foldl (fun s p => retryParty p.1 s) s

/-- A context of the caller's room. -/
def party? (s : State) (fn n : Nat) : Option Party :=
  match mfind s.coll.parties n with
  | some p => if roomOf s fn = some p.room then some p else none
  | none => none

/-- Collectives of a context in flight. -/
def partyFlight (s : State) (n : Nat) : Nat := (s.coll.members.filter (fun m => m.ctx == n)).length

/-- PARTY_DESTROY (R683, R687). -/
def execPartyDestroy (h : FdHdr) (party : Nat) (s : State) : Answer :=
  act (answers ++ [.free, .coll]) (frontDesk h 0x61 (fun _ => none) (fun s =>
    match party? s h.fn party with
    | none => fdAnswer h 0x61 { result := 0x55 } s
    | some _ =>
      if partyFlight s party ≠ 0 then fdAnswer h 0x61 { result := 8 } s
      else retryParties (fdAnswer h 0x61 {} (modColl (fun c => { c with parties := mdel c.parties party }) s)))) s

/-- The 32 B of PARTY_QUERY (R688). -/
def partyWords (s : State) (n : Nat) (p : Party) : List Byte :=
  wordsLe [p.tag + p.rank * 2 ^ 32, p.size + p.nextSeq.toNat * 2 ^ 32, p.ctrl + p.gen * 2 ^ 16 + Nat.min 4 (partyFlight s n) * 2 ^ 24, 0]

/-- PARTY_QUERY (R683, R688). -/
def execPartyQuery (h : FdHdr) (party : Nat) (s : State) : Answer :=
  act dataAccess (frontDesk h 0x62 (fun s => firstBadOf [(badResultAddr s h, 5)]) (fun s =>
    match party? s h.fn party with
    | none => fdAnswer h 0x62 { result := 0x55 } s
    | some p =>
      fdResult h (partyWords s party p) (fun c s => fdAnswer h 0x62 { result := c } s) s)) s

end Sys2Proof.Machine
end

