-- ==== Sys2Proof/Machine/Coll1.lean ====
section
/-! DEFINITION. Members' collectives and rounds: completion, stopping, rounds and their merging (R680, R691 to R710), aborts (R592 to R597, R713 to R718). -/

namespace Sys2Proof.Machine

open Sys2Proof

/-! ## Members -/

/-- A member's collective. -/
def member? (s : State) (id : Nat) : Option Member := s.coll.members.find? (fun m => m.id == id)

/-- Change a member's record. -/
def modMember (id : Nat) (f : Member → Member) (s : State) : State :=
  modColl (fun c => { c with members := c.members.map (fun m => if m.id = id then f m else m) }) s

/-- The collective of a member: tag, generation, sequence (R693). -/
def Member.key (m : Member) : Nat × Nat × Nat := (m.party.tag, m.party.gen, m.seq)

/-- Members of a collective on this device. -/
def membersOf (s : State) (k : Nat × Nat × Nat) : List Member := s.coll.members.filter (fun m => m.key == k)

/-- A member's timer starts anew (R594, R717). -/
def Member.restart (s : State) (m : Member) : Member := { m with due := elapsed s + BitVec.ofNat 64 m.limit }

/-- A bulk collective, as against a barrier or a scalar reduction. -/
def Member.isBulk (m : Member) : Bool := m.cls != 5

/-- A member's record ends, and its list's command completes (R590); the timer of one that it kept from starting begins now (R558). -/
def memberDone (m : Member) (e : CEnd) (s : State) : State :=
  let held := fun (x : Member) => x.phase == 0 && x.ctx == m.ctx && x.isBulk && x.bulk.itin == m.bulk.itin
  let s1 := modColl (fun c => { c with
    members := (c.members.filter (fun x => x.id != m.id)).map (fun x => if held x then x.restart s else x) }) s
  let s2 : State := { s1 with tide := { s1.tide with waits := s1.tide.waits.filter (fun w => !(w.start && w.coll == m.id)) } }
  let s3 := slotFreed (if !m.silent && e.flags / 4 % 2 = 1 then bump 0x250178 s2 else s2)
  if m.silent then s3
  else
    match findList s3 m.h.fn m.h.queue m.h.list with
    | none => s3
    | some r =>
      let r1 := { r with st := .woken, tile := none, cur := none, waitMet := true }
      endCmd m.h m.op r1 e (setList r1 s3)

/-- FLAGS of a member's completion. -/
def Member.fl (m : Member) : Nat := b2n m.late + 2 * b2n m.unq + 8 * b2n m.untrusted

/-- Bytes of DST in the chunks that a member has released (R599). -/
def Member.done (m : Member) : Nat := sumOf (fun j => mget m.bytes j 0) (List.range m.released)

/-- A member ends OK (R590, R599, R709), or in any way where its DST overlapped a source (R544). Log 69 (DESIGN CHOICE). -/
def memberOk (m : Member) (s : State) : State :=
  let x := wildEnd m.wild ({ detail := m.flags, bytes := if m.isBulk then m.done else mget m.bytes 0 0, flags := m.fl }, s)
  memberDone m x.1 x.2

/-- A member ends COLL_ABORT with the common cause (R595, R596, R599). Log 90 (DESIGN CHOICE). -/
def memberAborted (m : Member) (cause : Nat) (tainted : Bool) (s : State) : State :=
  memberDone m { status := 0x30, detail := m.flags % 8 + cause % 256 * 256, bytes := m.done, flags := m.fl + 4 * b2n tainted }
    (bump 0x250118 s)

/-- The lower of two causes, 0 standing for none (R700). -/
def lowCause (a b : Nat) : Nat := if a = 0 then b else if b = 0 then a else Nat.min a b

/-- A member stops: it reads and sends no more, and its chunk and exponent lanterns are at FAULT (R595). -/
def stopMember (m : Member) (cause : Nat) (s : State) : State :=
  if m.phase = 5 then modMember m.id (fun m => { m with cause := lowCause m.cause cause }) s
  else
    let s1 := modMember m.id (fun m => { m.restart s with phase := 5, cause := lowCause m.cause cause }) s
    if m.isBulk then lanternFault m.room m.bulk.chunkLantern (if m.cls = 1 then lanternFault m.room m.bulk.expLantern s1 else s1)
    else s1

/-! ## Nodes of bulk collectives -/

/-- An open node. -/
def node? (s : State) (i e : Nat) : Option CNode := s.coll.nodes.find? (fun n => n.itin == i && n.epoch == e)

/-- Set a node's record. -/
def setNode (n : CNode) (s : State) : State :=
  modColl (fun c => { c with nodes := c.nodes.map (fun x => if x.itin = n.itin && x.epoch = n.epoch then n else x) }) s

/-- Local members whose data a node carries. -/
def nodeMembers (s : State) (i e : Nat) : List Member :=
  s.coll.members.filter (fun m => m.isBulk && m.bulk.itin == i && m.epoch == e && (m.phase == 3 || m.phase == 4))

/-- Send ABORT on an edge at once (R595). Log 89 (DEDUCED). -/
def sendAbort (it : Itin) (n : CNode) (tree peer : Nat) (down : Bool) (cause : Nat) (s : State) : State :=
  let s1 := openStream it peer n.epoch (bulkNum n.itin tree down) s
  let key := streamKey peer n.epoch (bulkNum n.itin tree down)
  let q := qp s1 key
  originate { q.pkt s1 key 0x44 false with
    psn := q.nextPsn, msn := q.nextMsn, first := true, last := true
    coll := { itin := n.itin, tree := tree, count := n.count, ctrl := n.ctrl, cause := cause } } s1

/-- The edges of a tree: its parent, and its children (true: away from the root). -/
def treeEdges (t : Tree) : List (Nat × Bool) :=
  (if t.parent = 0xFFFF then [] else [(t.parent, false)]) ++ t.children.map (fun c => (c, true))

/-- A node's collective is aborted: ABORT on every edge but the one it came by — of that tree alone when no member is here (R595, R597) — and its
state and streams end (R425, R595). Log 81 (DEDUCED). -/
def abortNode (i e cause : Nat) (via : Option (Nat × Nat)) (s : State) : State :=
  match node? s i e, itin? s i with
  | some n, some it =>
    let here := !(nodeMembers s i e).isEmpty
    let s1 := it.trees.zipIdx.foldl (fun s x =>
      match via with
      | some (t, p) =>
        if !here && x.2 ≠ t then s
        else ((treeEdges x.1).filter (fun y => !(x.2 == t && y.1 == p))).foldl (fun s y => sendAbort it n x.2 y.1 y.2 cause s) s
      | none => (treeEdges x.1).foldl (fun s y => sendAbort it n x.2 y.1 y.2 cause s) s) s
    dropStreams (fun _ ep k => k % 2 ^ 16 == i && decide (k < 2 ^ 23) && ep == e)
      (modColl (fun c => { c with nodes := c.nodes.filter (fun x => !(x.itin == i && x.epoch == e)) }) s1)
  | _, _ => s

/-- The state of a node's collective ends without a word (R597). -/
def freeNode (i e : Nat) (s : State) : State :=
  dropStreams (fun _ ep k => k % 2 ^ 16 == i && decide (k < 2 ^ 23) && ep == e)
    (modColl (fun c => { c with nodes := c.nodes.filter (fun x => !(x.itin == i && x.epoch == e)) }) s)

/-- Open a node for an epoch: R581 keeps two, of consecutive epochs; older finished ones make way. None when the epoch cannot open. Log 81 (DEDUCED). -/
def openNode (i e count ctrl : Nat) (force : Bool) (s : State) : Option State :=
  match itin? s i with
  | none => none
  | some it =>
    if (node? s i e).isSome then some s
    else
      let mine := s.coll.nodes.filter (fun n => n.itin == i)
      let live := mine.filter (fun n => !n.fin)
      let ok := match live with
        | [] => force || !it.opened || decide ((e + 256 - (it.epoch + 1)) % 256 < 128)
        | [x] => force || e == (x.epoch + 1) % 256
        | _ => false
      if !ok then none
      else
        let s1 := (mine.filter (fun n => n.fin && n.epoch != (e + 255) % 256)).foldl (fun s n => freeNode i n.epoch s) s
        some (modColl (fun c => { c with
          nodes := c.nodes ++ [{ itin := i, epoch := e, count := count, ctrl := ctrl, due := elapsed s + BitVec.ofNat 64 (nodeTicks s it) }]
          itins := mset c.itins i { it with epoch := e, opened := true } }) s1)

/-! ## Wire forms of round data -/

/-- Bytes of an element in memory (R704). -/
def dtSize (dtype : Nat) : Nat := if dtype = 0 || dtype = 2 || dtype = 4 then 4 else 8

/-- A floating data type. -/
def dtFloat (dtype : Nat) : Bool := dtype == 4 || dtype == 5

/-- Bytes of an element in a ROUND_UP (R706). -/
def wireSize (op dtype : Nat) : Nat := if op = 0 && dtype = 4 then 48 else if op = 0 && dtype = 5 then 280 else 8

/-- An integer in the range of its type: modulo its width, signed for I32 and I64. -/
def dtNorm (dtype : Nat) (x : Int) : Int :=
  match dtype with
  | 0 => x % 2 ^ 32
  | 1 => x % 2 ^ 64
  | 2 => intOf 32 (x % 2 ^ 32).toNat
  | _ => intOf 64 (x % 2 ^ 64).toNat

/-- A contribution's element: a flag word and a value (R706, R707). Float sums are integers in units of the smallest subnormal; MIN and MAX of
floats hold FP64 codes. -/
def wireIn (op dtype code : Nat) : Nat × Int :=
  if dtFloat dtype then
    let f := if dtype = 4 then fp32 else fp64
    let v := f.value code
    if op = 0 then
      match v with
      | .nan => (1, 0)
      | .inf n => (if n then 4 else 2, 0)
      | .fin n m q => (0, signedInt n (m * pow2 (q + (if dtype = 4 then 149 else 1074))))
    else (0, (fp64.ieee v : Nat))
  else (0, dtNorm dtype code)

/-- The order of FP64 codes: −0 below +0 (R706). -/
def f64Key (c : Nat) : Int := if c / 2 ^ 63 % 2 = 1 then -((c % 2 ^ 63 : Nat) : Int) - 1 else (c % 2 ^ 63 : Nat)

/-- The merge of MIN or MAX on FP64 codes (R706). -/
def f64Pick (isMin : Bool) (a b : Nat) : Nat :=
  if fp64.value a = .nan || fp64.value b = .nan then fp64.nan
  else if (f64Key a < f64Key b) = isMin then a else b

/-- A bitwise merge (R706). -/
def bitMerge (op : Nat) (a b : Nat) : Nat := if op = 3 then a &&& b else if op = 4 then a ||| b else a ^^^ b

/-- The merge of two elements (R706, R707). -/
def wireMerge (op dtype : Nat) (a b : Nat × Int) : Nat × Int :=
  if dtFloat dtype then
    if op = 0 then (a.1 ||| b.1, a.2 + b.2)
    else (0, (f64Pick (op == 1) a.2.toNat b.2.toNat : Nat))
  else
    match op with
    | 0 => (0, dtNorm dtype (a.2 + b.2))
    | 1 => (0, if b.2 < a.2 then b.2 else a.2)
    | 2 => (0, if a.2 < b.2 then b.2 else a.2)
    | _ => (0, dtNorm dtype (bitMerge op (a.2 % 2 ^ 64).toNat (b.2 % 2 ^ 64).toNat : Nat))

/-- The final value of an element as a code of its type, and its flags (R708, R535). -/
def wireFinal (op dtype : Nat) (x : Nat × Int) : Nat × Flags :=
  if dtFloat dtype then
    let f := if dtype = 4 then fp32 else fp64
    let inf := f.inf.getD f.maxc
    if op = 0 then
      if x.1 % 2 = 1 || x.1 / 2 % 4 = 3 then (f.nan, 2)
      else if x.1 / 2 % 2 = 1 then (inf, 2)
      else if x.1 / 4 % 2 = 1 then (f.signed true inf, 2)
      else
        let m := f.mag .even x.2.natAbs (if dtype = 4 then -149 else -1074)
        if f.maxc < m then (f.signed (decide (x.2 < 0)) inf, 3) else (f.signed (decide (x.2 < 0)) m, 0)
    else
      let v := fp64.value x.2.toNat
      (f.ieee v, if v.isFin then 0 else 2)
  else ((x.2 % 2 ^ (8 * dtSize dtype)).toNat, 0)

/-- An element's bytes in a ROUND_UP (R706, R707). -/
def wireBytes (op dtype : Nat) (x : Nat × Int) : List Byte :=
  let n := wireSize op dtype
  if n = 8 then leBytes 8 (x.2 % 2 ^ 64).toNat
  else leBytes 8 x.1 ++ leBytes (n - 8) (x.2 % 2 ^ (8 * (n - 8))).toNat

/-- An element from its bytes. -/
def wireOf (op dtype : Nat) (b : List Byte) : Nat × Int :=
  let n := wireSize op dtype
  if n = 8 then (0, if dtFloat dtype then (ofLe b : Int) else dtNorm dtype (ofLe b : Int))
  else (ofLe (b.take 8), intOf (8 * (n - 8)) (ofLe (b.drop 8)))

/-! ## Signatures -/

/-- Byte i of a signature, most significant first (R699). -/
def sigByte (sig i : Nat) : Nat := sig / 2 ^ (8 * (31 - i)) % 256

/-- Bytes a to a + n − 1 of a signature as a number. -/
def sigField (sig a n : Nat) : Nat := sig / 2 ^ (8 * (32 - a - n)) % 2 ^ (8 * n)

/-- The signature of a member's command (R559, R699, R711). Log 89 (DEDUCED). -/
def Member.sig (m : Member) : Nat :=
  let b := m.bulk
  let xfer := m.cls == 0
  let head := m.cls * 2 ^ 248 + m.op * 2 ^ 240
  if m.isBulk then
    head + (2 * b2n b.scaled + b2n b.verified) * 2 ^ 232 + (if xfer then b.ctrl % 256 else 0) * 2 ^ 224 + b.itin * 2 ^ 208 + b.rootRank * 2 ^ 192 +
      b.count * 2 ^ 160 + (if xfer then 0 else b.ctrl % 2 ^ 20) * 2 ^ 128 + (if xfer then 0 else b.seed.toNat) * 2 ^ 64 + m.party.size
  else head + m.sc.count * 2 ^ 160 + m.sc.op * 2 ^ 56 + m.sc.dtype * 2 ^ 48 + m.party.size

/-! ## Rounds -/

/-- What an input gives to a round (R698). -/
structure Contrib where
  members : Nat := 1
  sigMin : Nat := 0
  sigMax : Nat := 0
  localFail : Bool := false
  released : Bool := false
  cause : Nat := 0
  first : Nat := 0
  vals : List (Nat × Int) := []
  deriving DecidableEq, Repr

/-- Tree 0 of a control itinerary (R688). -/
def ctrlTree (s : State) (ctrl : Nat) : Option (Itin × Tree) :=
  match itin? s ctrl with
  | some it => (match it.trees with | t :: _ => some (it, t) | [] => none)
  | none => none

/-- The inputs a tree node waits for (R572, R700). -/
def Tree.inputs (t : Tree) : Nat := t.locals + t.children.length

/-- A round that is open here. -/
def round? (s : State) (k : Nat × Nat × Nat) (kind : Nat) : Option Round :=
  s.coll.rounds.find? (fun r => r.tag == k.1 && r.gen == k.2.1 && r.seq == k.2.2 && r.kind == kind)

/-- Set a round's record. -/
def setRound (r : Round) (s : State) : State :=
  let same := fun (x : Round) => x.tag == r.tag && x.gen == r.gen && x.seq == r.seq && x.kind == r.kind
  modColl (fun c =>
    let l := if c.rounds.any same then c.rounds.map (fun x => if same x then r else x) else c.rounds ++ [r]
    { c with rounds := l }) s

/-- Elements of a round's data: COUNT of a scalar reduction (R699, R704). -/
def roundCount (kind sig : Nat) : Nat := if kind = 4 then sigField sig 8 4 else 0

/-- Merge an element into a round's data. -/
def putVal (op dtype i : Nat) (x : Nat × Int) (m : NMap (Nat × Int)) : NMap (Nat × Int) :=
  match mfind m i with
  | some y => mset m i (wireMerge op dtype y x)
  | none => mset m i x

/-- An input's contribution, or one packet of it, merges (R700): its header once, its elements each. -/
def mergeContrib (src : Nat) (c : Contrib) (r : Round) : Round :=
  if r.got.contains src then r
  else
    let op := sigByte c.sigMin 24
    let dt := sigByte c.sigMin 25
    let fresh := (mfind r.part src).isNone
    let seen := mget r.part src 0 + c.vals.length
    let need := if c.sigMin = c.sigMax then roundCount r.kind c.sigMin else 0
    let r1 := if !fresh then r else
      { r with
        members := r.members + c.members
        sigMin := if r.got.isEmpty && r.part.isEmpty then c.sigMin else Nat.min r.sigMin c.sigMin
        sigMax := if r.got.isEmpty && r.part.isEmpty then c.sigMax else Nat.max r.sigMax c.sigMax
        localFail := r.localFail || c.localFail, released := r.released || c.released, cause := lowCause r.cause c.cause }
    { r1 with
      part := mset r1.part src seen
      vals := c.vals.zipIdx.foldl (fun m x => putVal op dt (c.first + x.2) x.1 m) r1.vals
      got := if need ≤ seen then r1.got ++ [src] else r1.got }

/-- The extension of a round's packets (R698). -/
def Round.ext (r : Round) : CollExt :=
  { party := r.tag, seq := r.seq, kind := r.kind, localFail := r.localFail, released := r.released, cause := r.cause, members := r.members,
    sigMin := r.sigMin, sigMax := r.sigMax }

/-- Send a round packet for each run of elements; each is one message (R696). -/
def sendRound (it : Itin) (ctrl gen peer op : Nat) (down : Bool) (ext : CollExt) (runs : List (List (List Byte))) (s : State) : State :=
  let num := roundNum ctrl down
  let key := streamKey peer gen num
  (runs.foldl (fun (a : Nat × State) run =>
    let m := streamMsn key (openStream it peer gen num a.2)
    (a.1 + run.length, streamQueue key { (qp m.2 key).pkt m.2 key op false with
      msn := m.1, first := true, last := true, ar := true, payload := run.flatten
      coll := { ext with firstElem := a.1, elems := run.length } } m.2)) (0, s)).2

/-- Elements cut into packets: as many of a size as a packet holds. -/
def roundRuns (size : Nat) (l : List (List Byte)) : List (List (List Byte)) := cut (4096 / size) (l.length + 1) l

/-- A sequence's outcome has been forwarded: R703 keeps the last 64 of a party and generation. -/
def keepDecided (k : Nat × Nat × Nat) (l : List (Nat × Nat × Nat)) : List (Nat × Nat × Nat) :=
  (k :: l.filter (fun x => x.1 == k.1 && x.2.1 == k.2.1)).take 64 ++ l.filter (fun x => !(x.1 == k.1 && x.2.1 == k.2.1))

/-- A collective is over at this node: its rounds, alerts and calls end (R702, R703). -/
def closeSeq (k : Nat × Nat × Nat) (s : State) : State :=
  modColl (fun c => { c with
    rounds := c.rounds.filter (fun r => !(r.tag == k.1 && r.gen == k.2.1 && r.seq == k.2.2))
    decided := keepDecided k c.decided
    alerted := c.alerted.filter (fun x => x != k)
    called := c.called.filter (fun x => x != k) }) s

/-- A round that another one follows ends here (R702, R712). -/
def closeRound (k : Nat × Nat × Nat) (kind : Nat) (s : State) : State :=
  modColl (fun c => { c with rounds := c.rounds.filter (fun r => !(r.tag == k.1 && r.gen == k.2.1 && r.seq == k.2.2 && r.kind == kind)) }) s

/-! ## Outcomes at members -/

/-- A member's collective runs its bulk phase: its node is open here (R109, R561). -/
def bulkBegin (m : Member) (s : State) : State :=
  let ctrl := if m.cls = 0 then m.bulk.ctrl % 256 * 2 ^ 20 else m.bulk.ctrl % 2 ^ 20
  match openNode m.bulk.itin m.epoch m.bulk.count ctrl true s with
  | none => s
  | some s1 =>
    let s2 := modMember m.id (fun m => { m with phase := 3 }) s1
    match node? s2 m.bulk.itin m.epoch with
    | none => s2
    | some n => setNode { n with seed := m.bulk.seed, known := true, down := n.down || m.op == 0x21 || m.cls == 0 } s2

/-- A member's wait for START_TIME ends: its bulk phase begins, or its result may be written (R109, R110, R710). -/
def startFire (w : TimedWait) (s : State) : State :=
  match member? s w.coll with
  | none => s
  | some m =>
    let unq := !qualified s
    if m.phase = 2 then bulkBegin m (modMember m.id (fun m => { m with late := m.late || w.late, unq := m.unq || unq, due := elapsed s + m.left }) s)
    else if m.phase = 6 then modMember m.id (fun m => { m with phase := 7, late := m.late || w.late, unq := m.unq || unq }) s
    else s

/-- A member waits for its START_TIME, its timer standing still (R594), unless it has passed: then it goes on with LATE (R109, R110, R710). -/
def startWait (m : Member) (t : Word) (waiting : Nat) (go : Member → State → State) (s : State) : State :=
  if t = 0 then go m s
  else if reached t s.tide.count then
    let unq := !qualified s
    let m1 := { m with late := true, unq := unq }
    go m1 (modMember m.id (fun m => { m with late := true, unq := unq }) s)
  else
    armWait { id := 0, target := t, fn := m.h.fn, queue := m.h.queue, list := m.h.list, start := true, coll := m.id }
      (modMember m.id (fun m => { m with phase := waiting, left := m.due - elapsed s }) s)

/-- Whether an element of a result may stand for an overflow that only the root sees: the flag of a member away from it has no stated source. -/
def openFlag (s : State) (possible : Bool) : Nat := if possible then (freshVal s).toNat % 2 else 0

/-- The round's ROUND_DOWN reaches a member (R590, R709 to R712, R716); `root` when this device decided it and knows its flags. -/
def roundOk (m : Member) (kind : Nat) (vals : List Nat) (flags : Flags) (root : Bool) (s : State) : State :=
  if kind = 1 && m.phase = 1 then startWait m m.bulk.start 2 bulkBegin s
  else if kind = 2 && (m.phase = 4 || m.phase = 5) then
    let total := m.passed.length
    let m1 := { m with released := if m.bulk.verified then total else m.released }
    let s1 := if m.bulk.verified then lanternAdd m.room m.bulk.chunkLantern (total - m.released) s else s
    memberOk m1 s1
  else if (kind = 3 || kind = 4) && (m.phase = 4 || m.phase = 5) then
    let f := if m.sc.dtype = 4 then fp32 else fp64
    let anyNf := dtFloat m.sc.dtype && vals.any (fun v => !(f.value v).isFin)
    let anyInf := dtFloat m.sc.dtype && m.sc.op == 0 && vals.any (fun v => match f.value v with | .inf _ => true | _ => false)
    let fl := if root then flags else 2 * b2n anyNf + openFlag s anyInf
    let s1 := if !root && anyInf then useFresh s else s
    let put := fun (m : Member) => { m with phase := 7, result := vals, flags := fl }
    startWait m m.sc.start 6 (fun m s => modMember m.id put s) (modMember m.id put s1)
  else s

/-- ABORT_DOWN reaches a member (R595, R596, R701). -/
def roundAborted (m : Member) (cause : Nat) (tainted : Bool) (s : State) : State :=
  let s1 := stopMember m cause (if m.isBulk && m.phase ≥ 3 && m.phase ≤ 4 then abortNode m.bulk.itin m.epoch cause none s else s)
  memberAborted ((member? s1 m.id).getD m) cause tainted s1

/-! ## Deciding and forwarding -/

/-- The lowest cause that applies at the root, 0 for none (R701). -/
def roundCause (s : State) (r : Round) : Nat :=
  let size := if r.sigMax = 0 then
      (match (s.coll.parties.find? (fun p => p.2.tag == r.tag && p.2.gen == r.gen)) with | some p => p.2.size | none => r.members)
    else sigField r.sigMax 28 4
  lowCause r.cause (lowCause (if r.sigMin = r.sigMax then 0 else 1) (lowCause (if r.localFail then 2 else 0)
    (if r.members = size then 0 else 0x10)))

/-- Whether a kind of round is a collective's last (R716). -/
def lastKind (kind : Nat) : Bool := kind != 1

/-- The abort outcome of a collective at a node: forwarded and delivered (R701, R714, R715). -/
def outAbort (k : Nat × Nat × Nat) (ctrl kind cause : Nat) (tainted incomplete : Bool) (s : State) : State :=
  let s1 := match ctrlTree s ctrl with
    | some (it, t) => t.children.foldl (fun s c => sendRound it ctrl k.2.1 c 0x4C true
        { party := k.1, seq := k.2.2, kind := kind, cause := cause, tainted := tainted, notAll := incomplete } [[]] s) s
    | none => s
  (membersOf s1 k).foldl (fun s m => if m.phase = 0 then s else roundAborted ((member? s m.id).getD m) cause tainted s) (closeSeq k s1)

/-- The OK outcome of a round at the root: sent and delivered (R701, R708). -/
def outOk (r : Round) (s : State) : State :=
  let k := (r.tag, r.gen, r.seq)
  let op := sigByte r.sigMin 24
  let dt := sigByte r.sigMin 25
  let fin := if r.kind = 4 then r.vals.map (fun x => wireFinal op dt x.2) else []
  let codes := fin.map (fun x => x.1)
  let flags := fin.foldl (fun a x => a ||| x.2) 0
  let s1 := match ctrlTree s r.ctrl with
    | some (it, t) => t.children.foldl (fun s c => sendRound it r.ctrl r.gen c 0x49 true r.ext (roundRuns 8 (codes.map (leBytes 8))) s) s
    | none => s
  let s2 := if lastKind r.kind then closeSeq k s1 else closeRound k r.kind s1
  (membersOf s2 k).foldl (fun s m => roundOk ((member? s m.id).getD m) r.kind codes flags true s) s2

/-- The root decides a round (R701, R714, R716). -/
def decide_ (r : Round) (s : State) : State :=
  let k := (r.tag, r.gen, r.seq)
  let c := if r.kind = 5 then r.cause else roundCause s r
  let s1 := bump 0x250258 (if r.kind ≠ 5 && (c = 1 || c = 0x10) then bump 0x250260 s else s)
  if r.kind = 5 || c ≠ 0 then outAbort k r.ctrl r.kind c r.released false s1 else outOk r s1

/-- A round whose inputs are all here goes up, or is decided at the root (R700, R701). -/
def roundStep (k : Nat × Nat × Nat) (kind : Nat) (s : State) : State :=
  match round? s k kind with
  | none => s
  | some r =>
    match ctrlTree s r.ctrl with
    | none => s
    | some (it, t) =>
      if r.up || r.got.length < t.inputs then s
      else if t.parent = 0xFFFF then decide_ r s
      else
        let op := sigByte r.sigMin 24
        let dt := sigByte r.sigMin 25
        sendRound it r.ctrl r.gen t.parent 0x48 false r.ext (roundRuns (wireSize op dt) (r.vals.map (fun x => wireBytes op dt x.2)))
          (setRound { r with up := true } s)

/-- A contribution arrives at this node (R700). -/
def roundIn (k : Nat × Nat × Nat) (kind ctrl src : Nat) (c : Contrib) (s : State) : State :=
  let r := (round? s k kind).getD { tag := k.1, gen := k.2.1, seq := k.2.2, kind := kind, ctrl := ctrl }
  roundStep k kind (setRound (mergeContrib src c r) s)

/-- A member's own contribution. -/
def contribute (m : Member) (kind : Nat) (c : Contrib) (s : State) : State := roundIn m.key kind m.party.ctrl (65536 + m.party.rank) c s

/-! ## Aborts -/

/-- The members here join the abort round: each stops and contributes its cause and RELEASED (R714). -/
def joinLocals (k : Nat × Nat × Nat) (cause : Nat) (s : State) : State :=
  (membersOf s k).foldl (fun s m0 =>
    match member? s m0.id with
    | none => s
    | some m =>
      if m.joined || m.phase = 0 then s
      else
        let s1 := if m.isBulk && (m.phase = 3 || m.phase = 4) then abortNode m.bulk.itin m.epoch cause none s else s
        let s2 := modMember m.id (fun m => { m with joined := true }) (stopMember m 0 s1)
        contribute m 5 { released := decide (m.released ≠ 0), cause := m.cause } s2) s

/-- The members here are called: the call goes on to the children (R714). -/
def callHere (k : Nat × Nat × Nat) (ctrl cause : Nat) (s : State) : State :=
  if s.coll.decided.contains k || s.coll.called.contains k then s
  else
    let s1 := modColl (fun c => { c with called := k :: c.called }) s
    let s2 := match ctrlTree s1 ctrl with
      | some (it, t) => t.children.foldl (fun s c => sendRound it ctrl k.2.1 c 0x4B true
          { party := k.1, seq := k.2.2, kind := 5, cause := cause } [[]] s) s1
      | none => s1
    joinLocals k cause s2

/-- The root calls every member to the abort round of an undecided collective (R714, R716). -/
def callAbort (k : Nat × Nat × Nat) (ctrl cause : Nat) (s : State) : State :=
  if s.coll.decided.contains k || s.coll.called.contains k then s
  else
    let wait := match itin? s ctrl with | some it => nodeTicks s it | none => 0
    callHere k ctrl cause (setRound {
      tag := k.1, gen := k.2.1, seq := k.2.2, kind := 5, ctrl := ctrl, cause := cause, due := elapsed s + BitVec.ofNat 64 wait } s)

/-- An alert at this node: the first of a sequence goes up at once, or makes the root call (R713, R714). -/
def alert (k : Nat × Nat × Nat) (ctrl cause : Nat) (released : Bool) (s : State) : State :=
  if s.coll.decided.contains k || s.coll.alerted.contains k then s
  else
    match ctrlTree s ctrl with
    | none => s
    | some (it, t) =>
      let s1 := modColl (fun c => { c with alerted := k :: c.alerted }) s
      if t.parent = 0xFFFF then callAbort k ctrl cause s1
      else sendRound it ctrl k.2.1 t.parent 0x4A false { party := k.1, seq := k.2.2, kind := 5, cause := cause, released := released } [[]] s1

/-- A member detects a cause, or learns of an abort: it stops, its node aborts, and it alerts (R595, R713). -/
def memberAbort (id cause : Nat) (s : State) : State :=
  match member? s id with
  | none => s
  | some m =>
    if m.phase = 5 then s
    else
      let s1 := if m.isBulk && (m.phase = 3 || m.phase = 4) then abortNode m.bulk.itin m.epoch cause none s else s
      let s2 := modMember id (fun m => { m with alerted := true }) (stopMember m cause s1)
      alert m.key m.party.ctrl cause (decide (m.released ≠ 0)) s2

/-- A collective is aborted at a node: the node's state ends, and each member here learns of it (R593, R595, R597). Log 90 (DESIGN CHOICE). -/
def nodeAborted (i e cause : Nat) (via : Option (Nat × Nat)) (s : State) : State :=
  let ms := s.coll.members.filter (fun m => m.isBulk && m.bulk.itin == i && m.epoch == e && decide (1 ≤ m.phase) && decide (m.phase ≤ 4))
  ms.foldl (fun s m => memberAbort m.id cause s) (abortNode i e cause via s)

/-- The queue of a member's command was flushed: it aborts with LOCAL_FAULT and writes no completion (R690). -/
def memberFlushed (id : Nat) (s : State) : State :=
  match member? s id with
  | none => s
  | some m =>
    if s.coll.decided.contains m.key then memberDone { m with silent := true } {} s
    else memberAbort id 5 (modMember id (fun m => { m with silent := true }) s)

end Sys2Proof.Machine
end

