-- ==== Sys2Proof/Machine/Bulk0.lean ====
section
/-! DEFINITION. The data of a bulk collective: chunks and their places (R505, R506, R539, R562), the contributions of a member (R507 to R519, R532),
folding and the final conversion (R521, R525, R1139). -/

namespace Sys2Proof.Machine

open Sys2Proof

/-! ## Chunks -/

/-- Chunks of a tree (R562). -/
def Tree.chunks (t : Tree) (cb : Nat) : Nat := (t.blocks + cb - 1) / Nat.max cb 1

/-- A tree of an itinerary. -/
def Itin.tree (it : Itin) (t : Nat) : Tree := it.trees.getD t { first := 0, blocks := 0 }

/-- Chunks of the whole tensor. -/
def Itin.allChunks (it : Itin) : Nat := sumOf (fun t => t.chunks it.chunkBlocks) it.trees

/-- The number of chunk k of a tree across the whole tensor (R545). -/
def Itin.number (it : Itin) (t k : Nat) : Nat := sumOf (fun x => x.chunks it.chunkBlocks) (it.trees.take t) + k

/-- The tree and the chunk in it of chunk g of the whole tensor, from tree i on. -/
def chunkPlace (cb : Nat) : List Tree → Nat → Nat → Option (Nat × Nat)
  | [], _, _ => none
  | t :: r, i, g => if g < t.chunks cb then some (i, g) else chunkPlace cb r (i + 1) (g - t.chunks cb)

/-- First block of a chunk. -/
def Itin.b0 (it : Itin) (t k : Nat) : Nat := (it.tree t).first + it.chunkBlocks * k

/-- Blocks of a chunk (R562). -/
def Itin.nb (it : Itin) (t k : Nat) : Nat := Nat.min it.chunkBlocks ((it.tree t).blocks - it.chunkBlocks * k)

/-- First element of a chunk. -/
def Itin.e0 (it : Itin) (t k : Nat) : Nat := 32 * it.b0 t k

/-- Elements of a chunk of a tensor of COUNT elements (R505). -/
def Itin.elems (it : Itin) (count t k : Nat) : Nat := Nat.min (32 * (it.b0 t k + it.nb t k)) count - it.e0 t k

/-- Elements of a tree. -/
def Tree.elems (t : Tree) (count : Nat) : Nat := Nat.min (32 * (t.first + t.blocks)) count - 32 * t.first

/-- Where an element lies in the shard of a member (R539): the elements of its earlier trees, and the place in the tree. -/
def Itin.shardAt (it : Itin) (count rank t e : Nat) : Nat :=
  sumOf (fun x => if x.rootRank = rank then x.elems count else 0) (it.trees.take t) + (e - 32 * (it.tree t).first)

/-- Where a block lies in a member's shard, for its scale bytes. -/
def Itin.shardBlock (it : Itin) (rank t b : Nat) : Nat :=
  sumOf (fun x => if x.rootRank = rank then x.blocks else 0) (it.trees.take t) + (b - (it.tree t).first)

/-! ## What a node carries -/

/-- Gather traffic, by its CTRL (R566). -/
def CNode.gather (n : CNode) : Bool := decide (2 ^ 20 ≤ n.ctrl)

/-- The FWS_CTRL of reduce traffic. -/
def CNode.fws (n : CNode) : FwsCtrl := fwsOf (n.ctrl % 2 ^ 20) n.seed

/-- Float mode. -/
def CNode.flt (n : CNode) : Bool := !n.gather && n.fws.float

/-- An exponent pass. -/
def CNode.exps (n : CNode) : Bool := !n.gather && !n.fws.float

/-- Bits of an element as a node holds it: a lane, a value of IN_FMT, or ELEM_BITS (R580). -/
def CNode.width (n : CNode) : Nat := if n.gather then n.ctrl / 2 ^ 20 % 256 else if n.fws.float then fmtBits n.fws.inFmt else laneW n.fws.wide

/-- Elements of a range: those of one packet of 4,096 B. -/
def CNode.rangeElems (n : CNode) : Nat := 32768 / Nat.max 1 n.width

/-- Bits of an element of a result. -/
def CNode.outBits (n : CNode) : Nat := if n.gather then n.width else fmtBits n.fws.outFmt

/-- Harbour units of an open chunk, its exponent bytes apart (R580). -/
def chunkUnits (it : Itin) (n : CNode) : Nat := (it.chunkBlocks * 32 * n.width / 8 + 65535) / 65536

/-- A chunk's record. -/
def chunk? (n : CNode) (t k : Nat) : Option CChunk := n.chunks.find? (fun c => c.tree == t && c.chunk == k)

/-- Put a chunk's record in its place, by tree and chunk. -/
def putChunk (c : CChunk) : List CChunk → List CChunk
  | [] => [c]
  | x :: r =>
    if x.tree = c.tree && x.chunk = c.chunk then c :: r
    else if c.tree < x.tree || (c.tree == x.tree && decide (c.chunk < x.chunk)) then c :: x :: r
    else x :: putChunk c r

/-- A chunk's record, or a new one. -/
def CNode.chunkOf (n : CNode) (t k : Nat) : CChunk := (chunk? n t k).getD { tree := t, chunk := k }

/-- Set a chunk's record. -/
def CNode.put (n : CNode) (c : CChunk) : CNode := { n with chunks := putChunk c n.chunks }

/-- Ranges of a chunk of n elements. -/
def CNode.ranges (n : CNode) (elems : Nat) : Nat := (elems + n.rangeElems - 1) / n.rangeElems

/-! ## Contributions -/

/-- The reads of a run of blocks of a source (R541, R649): elements, and the scale bytes of an MX format. -/
def srcAccess (fmt count b0 nb elems a : Nat) : List (Bool × Nat × Nat) :=
  [(false, blockAt fmt a b0, fmtBytes fmt elems)] ++ (if isMx fmt then [(false, scaleAt fmt a 0 count b0, nb)] else [])

/-- The elements and scale of a block of a source. -/
def srcBlock (s : State) (x : DCtx) (fmt count a b : Nat) : List Nat × Nat :=
  let n := blockLen count b
  let x5 := { x with acc := 5 }
  (unpack (fmtBits fmt) n (peekData s x5 (blockAt fmt a b) (fmtBytes fmt n) .read),
    if isMx fmt then loadLe s x (scaleAt fmt a 0 count b) 1 else 0)

/-- The values of a block. -/
def blockVals (fmt : Nat) (p : List Nat × Nat) : List FV := p.1.map (fun k => if isMx fmt then mxValue fmt k p.2 else elemValue fmt k)

/-- BEXP of a block (R507, R508). -/
def blockExp (fmt : Nat) (p : List Nat × Nat) : Nat := if isMx fmt then bexpMx fmt p.2 else bexp (blockVals fmt p)

/-- The exponent bytes of a run of blocks: the greatest over the member's sources. -/
def srcExps (s : State) (x : DCtx) (fmt count : Nat) (srcs : List Nat) (b0 nb : Nat) : List Nat :=
  (List.range nb).map (fun i => srcs.foldl (fun m a => Nat.max m (blockExp fmt (srcBlock s x fmt count a (b0 + i)))) 0)

/-- A fold of float mode; a mark above the code keeps that it overflowed (R532, R535). Log 84 (DESIGN CHOICE). -/
def fltFold (fmt : Nat) (a b : Int) : Int :=
  let r := floatFold fmt (a % 2 ^ 40).toNat (b % 2 ^ 40).toNat
  (r.1 : Int) + 2 ^ 40 * (if 2 ^ 40 ≤ a ∨ 2 ^ 40 ≤ b ∨ r.2 % 2 = 1 then 1 else 0)

/-- Fold two elements of a reduction (R521, R532). Log 84 (DESIGN CHOICE). -/
def foldElem (c : FwsCtrl) (a b : Int) : Int := if c.float then fltFold c.inFmt a b else foldLane (laneW c.wide) a b

/-- Fold two runs of elements. -/
def foldRun (c : FwsCtrl) (a b : List Int) : List Int := (a.zip b).map (fun x => foldElem c x.1 x.2)

/-- A block of a source as lanes under G, or as codes in float mode (R517). -/
def blockElems (c : FwsCtrl) (g : Nat) (p : List Nat × Nat) : List Int :=
  if c.float then p.1.map (fun (k : Nat) => (k : Int)) else (blockVals c.inFmt p).map (laneOf c.wide (isMx c.inFmt) g)

/-- The elements that a member's sources give to a block, folded. -/
def srcElems (s : State) (x : DCtx) (c : FwsCtrl) (count : Nat) (srcs : List Nat) (g b : Nat) : List Int :=
  match srcs.map (fun a => blockElems c g (srcBlock s x c.inFmt count a b)) with
  | [] => []
  | l :: r => r.foldl (foldRun c) l

/-- The final conversion of an element of a tensor (R525, R1139). -/
def finalElem (c : FwsCtrl) (g i : Nat) (v : Int) : Nat × Flags :=
  if c.float then
    let r := floatLone c.inFmt (v % 2 ^ 40).toNat
    (r.1, r.2 ||| (if 2 ^ 40 ≤ v then 1 else 0))
  else finalLane c.wide g c.outFmt (rndOf c.stochastic c.seed i) v

/-- Count output elements by their flags (EN_FWS_OVERFLOW, EN_FWS_NONFINITE). -/
def countFinal (l : List (Nat × Flags)) (s : State) : State :=
  bumpBy 0x250170 (l.filter (fun x => x.2 / 2 % 2 == 1)).length (bumpBy 0x250168 (l.filter (fun x => x.2 % 2 == 1)).length s)

/-- Count contributions converted or folded (EN_FWS_ELEMENTS, EN_FLOAT_ELEMENTS). -/
def countIn (flt : Bool) (n : Nat) (s : State) : State := bumpBy (if flt then 0x250160 else 0x250158) n s

/-- Elements of a payload: lanes, or codes in float mode (R516). -/
def payloadElems (c : FwsCtrl) (w : Nat) (d : List Byte) : List Int :=
  (unpack w (d.length * 8 / Nat.max 1 w) d).map (fun (k : Nat) => if c.float then (k : Int) else intOf w k)

/-- A payload of elements. -/
def elemsPayload (c : FwsCtrl) (w : Nat) (l : List Int) : List Byte :=
  pack w (l.map (fun v => if c.float then (v % 2 ^ 40).toNat else laneCode w v))

/-! ## Sums of squares -/

/-- The FP64 sum of the squares of a run of output elements, in element order (R546); a NaN when one is not finite. -/
def sumSquares (fmt : Nat) (codes : List Nat) : Nat :=
  if codes.any (fun c => !((fmtOf fmt).value c).isFin) then fp64.nan
  else fp64.ieee (codes.foldl (fun a c => (a.add (((fmtOf fmt).value c).mul ((fmtOf fmt).value c))).into fp64) FV.zero)

/-- The sum of the chunk sums, in chunk order (R546). -/
def sumChunks (l : List Nat) : Nat := fp64.ieee (l.foldl (fun a c => (a.add (fp64.value c)).into fp64) FV.zero)

/-! ## RDC_LOCAL_REDUCE -/

/-- What FWS_CTRL and SEED make malformed, and the lane and format rules (R503, R504). -/
def fwsCause (s : State) (b : BulkArgs) : Option Nat := fwsBad b.ctrl b.seed (obj s 0xC200 1 1 != 0)

/-- What makes an RDC_LOCAL_REDUCE malformed (R542, R543). -/
def localBad (h : CmdHdr) (b : BulkArgs) (s : State) (r : Room) : Option Nat :=
  let f := fwsCause s b
  firstBadOf [
    (f == some 6, 6),
    (h.units != (8 + b.srcs.length + 1) / 2, 3),
    (f == some 1, 1),
    (operand r b.dst == .bad || (b.norm != 0 && operand r b.norm == .bad) || b.srcs.any (fun a => operand r a == .bad), 5),
    (f == some 4 || b.srcs.isEmpty || decide (16 < b.srcs.length) || b.count == 0 || decide (2 ^ 31 < b.count), 4)]

/-- Bytes of a source of elements in a format, its scales with it (R653). -/
def srcLen (fmt count : Nat) : Nat :=
  if isMx fmt then (mxBytes fmt count + 255) / 256 * 256 + (count + 31) / 32 else (fmtBits fmt * count + 7) / 8

/-- Whether DST overlaps a source, which makes the result unpredictable (R544). Log 69 (DESIGN CHOICE), 70 (DEDUCED). -/
def localMeets (s : State) (x : DCtx) (c : FwsCtrl) (b : BulkArgs) : Bool :=
  b.srcs.any (fun a => opsMeet s x (b.dst, fmtBytes c.outFmt b.count) (a, srcLen c.inFmt b.count))

/-- The blocks of a local reduction from where it stands, in order; the FP64 sum so far is in `words`. Log 98 (DESIGN CHOICE). -/
def localGo (c : FwsCtrl) (b : BulkArgs) (x : DCtx) (r : ListRec) : Nat → Prog → State → CEnd × State
  | 0, p, s =>
    let fin : CEnd := { detail := p.flags, bytes := b.count * fmtBits c.outFmt / 8 }
    if b.norm = 0 then (fin, s)
    else
      match firstAccess s x [(true, b.norm, 8)] with
      | some y => stopStretch r p x y s
      | none => (fin, storeLe x b.norm 8 (p.words.getD 0 0) s)
  | n + 1, p, s =>
    let k := p.next
    let len := blockLen b.count k
    let acc := b.srcs.flatMap (srcAccess c.inFmt b.count k 1 len)
    let d := b.dst + 32 * k * fmtBits c.outFmt / 8
    match firstAccess s x (acc ++ [(true, d, len * fmtBits c.outFmt / 8)]) with
    | some y => stopStretch r p x y s
    | none =>
      let g := if c.float then 0 else (srcExps s x c.inFmt b.count b.srcs k 1).getD 0 0
      let fin := (srcElems s x c b.count b.srcs g k).zipIdx.map (fun v => finalElem c g (32 * k + v.2) v.1)
      let wild := p.wild
      let codes := wildRun wild s (32 * k) (fmtBits c.outFmt) (fin.map (fun y => y.1))
      let nf := codes.any (fun v => !((fmtOf c.outFmt).value v).isFin)
      let old := fp64.value (p.words.getD 0 0)
      let sq := if nf then fp64.nan else fp64.ieee (codes.foldl (fun a v =>
        (a.add (((fmtOf c.outFmt).value v).mul ((fmtOf c.outFmt).value v))).into fp64) old)
      let s1 := acc.foldl (fun s y => loadEff x y.2.1 y.2.2 s) s
      let s2 := writeEff { x with acc := 6 } d (pack (fmtBits c.outFmt) codes) s1
      localGo c b x r n { p with
        next := k + 1, words := [sq], flags := fin.foldl (fun a y => a ||| y.2) p.flags, bytes := 32 * (k + 1) * fmtBits c.outFmt / 8 }
        (countFinal fin (countIn c.float (len * b.srcs.length) (wildUsed wild s2)))

/-- RDC_LOCAL_REDUCE (R547). -/
def rdcLocalReduce (h : CmdHdr) (b : BulkArgs) (s : State) : State :=
  engine h 0x23 1 (localBad h b) (withPins (b.dst :: b.norm :: b.srcs) (fun r s =>
    let c := fwsOf b.ctrl b.seed
    let x := cmdCtx s h r
    let p := r.prog.getD { next := 0, uses := [(b.dst, fmtBytes c.outFmt b.count)] }
    let y := watchOthers x r p (localMeets s x c b) s
    wildEnd y.1 (localGo c b x r ((b.count + 31) / 32 - p.next) { p with wild := y.1 } y.2))) s

/-- RDC_LOCAL_REDUCE (R547). -/
def execRdcLocalReduce (h : CmdHdr) (b : BulkArgs) (s : State) : Answer := act transfers (rdcLocalReduce h b) s

end Sys2Proof.Machine
end

