-- ==== Sys2Proof/Machine/Bulk.lean ====
section
/-! DEFINITION. What a node of a bulk collective does with its chunks (R568 to R580), and what its members do with them (R586 to R591). -/

namespace Sys2Proof.Machine

open Sys2Proof

/-! ## Records -/

/-- Act on an open node. -/
def atNode (i e : Nat) (f : Itin → CNode → State → State) (s : State) : State :=
  match itin? s i, node? s i e with
  | some it, some n => f it n s
  | _, _ => s

/-- Act on a chunk of an open node. -/
def atChunk (i e t k : Nat) (f : Itin → CNode → CChunk → State → State) (s : State) : State :=
  atNode i e (fun it n s => match chunk? n t k with | some c => f it n c s | none => s) s

/-- Set a chunk of a node. -/
def setChunk (n : CNode) (c : CChunk) (s : State) : State := setNode (n.put c) s

/-- The extension of a chunk's packets (R566, R585). -/
def chunkExt (n : CNode) (c : CChunk) : CollExt :=
  { itin := n.itin, tree := c.tree, untrusted := c.untrusted, chunk := c.chunk, count := n.count, ctrl := n.ctrl }

/-- Whether this device is the root of a tree. -/
def Tree.isRoot (t : Tree) : Bool := t.parent == 0xFFFF

/-- Whether this device is a node of a tree (R550). -/
def Tree.here (t : Tree) : Bool := !(t.parent == 0xFFFF && t.children.isEmpty && t.locals == 0)

/-- A chunk's number across the tensor. -/
def CChunk.num (c : CChunk) (it : Itin) : Nat := it.number c.tree c.chunk

/-- The context of a member's data. -/
def memCtx (s : State) (m : Member) : DCtx :=
  let q := queue s m.h.fn m.h.queue
  { fn := m.h.fn, room := m.room, die := m.die, pasid := if q.pasidValid then q.pasid + 1 else 0, object := m.h.index }

/-- The local member that owns a tree's result. -/
def rootMember (s : State) (n : CNode) (t : Tree) : Option Member :=
  (nodeMembers s n.itin n.epoch).find? (fun m => m.party.rank == t.rootRank)

/-- A member's access stopped: it waits for a translation, a unit or a port, or the collective aborts with LOCAL_FAULT (R592). -/
def memStop (m : Member) (x : DCtx) (y : Bool × Nat × (DErr × Nat)) (s : State) : State :=
  if y.2.2.1.waits then accessEff x y s else memberAbort m.id 5 (accessEff x y s)

/-! ## Exponents and grants -/

/-- The maximum over all inputs goes up, or is G at the root (R569). -/
def expStep (it : Itin) (n : CNode) (c : CChunk) (s : State) : State :=
  let t := it.tree c.tree
  if !n.exps || c.expDone || c.expIn < t.inputs then s
  else if t.isRoot then setChunk n { c with expDone := true, g := c.expMax, granted := true } s
  else streamSend it t.parent n.epoch (bulkNum n.itin c.tree false) 0x40 (chunkExt n c) (c.expMax.map (BitVec.ofNat 8))
    (setChunk n { c with expDone := true } s)

/-- Chunks of a tree that are open at a node. -/
def openChunks (n : CNode) (t : Nat) : Nat := (n.chunks.filter (fun c => c.tree == t && c.opened && !c.done)).length

/-- The chunks that the root of a tree opens without an exponent pass, in order (R570, R571, R575): one more becomes ready. -/
def candStep (i e t : Nat) (s : State) : State :=
  atNode i e (fun it n s =>
    let tr := it.tree t
    let k := mget n.nextOpen t 0
    let wait := (n.chunks.filter (fun c => c.tree == t && c.granted && !c.done)).length
    let ready := if n.gather then (match rootMember s n tr with | some m => decide (it.number t k < m.scanned) && m.phase == 3 | none => false)
      else n.flt && n.known
    if !tr.isRoot || !tr.here || tr.chunks it.chunkBlocks ≤ k || it.window ≤ wait || !ready then s
    else setNode { n.put { n.chunkOf t k with granted := true } with nextOpen := mset n.nextOpen t (k + 1) } s) s

/-- The die of the port towards a node. Log 77 (DESIGN CHOICE), 100 (DEDUCED). -/
def dieToward (s : State) (node : Nat) : Nat :=
  match route s { dstNode := node } 0 false with
  | .go p _ _ => p / 16
  | _ => 0

/-- Where a node folds a tree, and the pool it takes units from (R578, R579): none while the member that decides it has not begun. Log 77 (DESIGN CHOICE). -/
def foldPlace (s : State) (it : Itin) (n : CNode) (t : Tree) : Option (Nat × Nat) :=
  let die := if t.isRoot then (rootMember s n t).map (fun m => m.die) else some (dieToward s t.parent)
  let mine := s.coll.parties.filter (fun p => p.2.tag == it.tag)
  let pool := if t.locals = 0 then some 256
    else mine.foldl (fun a p => match a with | none => some p | some q => if p.2.rank < q.2.rank then some p else some q) none |>.map (fun p => p.2.room)
  match die, pool with
  | some d, some p => some (d, p)
  | _, _ => none

/-- A chunk opens with its Harbour units: the grant goes down (R570, R580). -/
def openChunk (i e t k die pool units : Nat) (s : State) : State :=
  atChunk i e t k (fun it n c s =>
    if c.opened then s
    else
      let u := takeUnits die units s
      let s1 := setChunk n { c with opened := true, die := die, pool := pool, units := u.1 } u.2
      if n.gather then s1
      else (it.tree t).children.foldl (fun s p =>
        streamSend it p n.epoch (bulkNum n.itin t true) 0x41 (chunkExt n c) (if n.flt then [] else c.g.map (BitVec.ofNat 8)) s) s1) s

/-- Units that an opening chunk takes: its lanes and one more for its exponent bytes (R580); a leaf of gather traffic holds none. Log 76 (DESIGN CHOICE). -/
def openUnits (it : Itin) (n : CNode) (t : Tree) : Nat :=
  if n.gather && t.children.isEmpty && !t.isRoot then 0 else chunkUnits it n + b2n n.exps

/-- A granted chunk opens when fewer than WINDOW are open and its units are free (R570, R1141). -/
def openStep (it : Itin) (n : CNode) (c : CChunk) (s : State) : State :=
  let t := it.tree c.tree
  if c.opened || !c.granted || it.window ≤ openChunks n c.tree then s
  else
    let u := openUnits it n t
    if u = 0 then openChunk n.itin n.epoch c.tree c.chunk 0 256 0 s
    else
      match foldPlace s it n t with
      | none => s
      | some (d, p) =>
        let a := askUnits d p { units := u, chunk := some (n.itin, n.epoch, c.tree, c.chunk) } s
        if a.1 then openChunk n.itin n.epoch c.tree c.chunk d p u a.2 else a.2

/-- Members learn of G: EXP_LANTERN advances once for each chunk (R591). -/
def heldStep (it : Itin) (n : CNode) (c : CChunk) (s : State) : State :=
  if !c.granted || n.gather then s
  else (nodeMembers s n.itin n.epoch).foldl (fun s m =>
    if m.phase ≠ 3 || m.held.contains (c.num it) then s
    else lanternAdd m.room m.bulk.expLantern 1 (modMember m.id (fun m => { m.restart s with held := c.num it :: m.held }) s)) s

/-! ## Lanes -/

/-- An input's elements of range j fold (R572). -/
def foldRange (c : FwsCtrl) (j : Nat) (l : List Int) (m : NMap (Nat × List Int)) : NMap (Nat × List Int) :=
  match mfind m j with
  | some x => mset m j (x.1 + 1, foldRun c x.2 l)
  | none => mset m j (1, l)

/-- An input's elements of a whole chunk fold. -/
def foldAll (c : FwsCtrl) (size : Nat) (l : List Int) (m : NMap (Nat × List Int)) : NMap (Nat × List Int) :=
  (cut size (l.length / Nat.max 1 size + 1) l).zipIdx.foldl (fun m x => foldRange c x.2 x.1 m) m

/-- A member converts its part of an open chunk (R511, R517, R571). -/
def convOne (it : Itin) (n : CNode) (c : CChunk) (m : Member) (s : State) : State :=
  let count := m.bulk.count
  let b0 := it.b0 c.tree c.chunk
  let nb := it.nb c.tree c.chunk
  let el := it.elems count c.tree c.chunk
  let x := memCtx s m
  let f := n.fws
  let acc := m.bulk.srcs.flatMap (srcAccess f.inFmt count b0 nb el)
  match firstAccess s x acc with
  | some y => memStop m x y s
  | none =>
    let l := (List.range nb).flatMap (fun i => srcElems s x f count m.bulk.srcs (c.g.getD i 0) (b0 + i))
    let s1 := acc.foldl (fun s y => loadEff x y.2.1 y.2.2 s) s
    let s2 := countIn f.float (el * m.bulk.srcs.length) s1
    let s3 := modMember m.id (fun m => { m with conv := c.num it :: m.conv }) s2
    atChunk n.itin n.epoch c.tree c.chunk (fun _ n c s => setChunk n { c with ranges := foldAll f n.rangeElems l c.ranges } s) s3

/-- Every local member that can converts a chunk. -/
def convStep (i e t k : Nat) (s : State) : State :=
  (nodeMembers s i e).foldl (fun s m =>
    atChunk i e t k (fun it n c s =>
      if n.gather || !c.opened || m.phase ≠ 3 || m.conv.contains (c.num it) || m.scanned ≤ c.num it then s else convOne it n c m s) s) s

/-- Whether every expected input has folded into a range (R572). -/
def rangeFull (t : Tree) (c : CChunk) (j : Nat) : Bool := match mfind c.ranges j with | some x => decide (t.inputs ≤ x.1) | none => false

/-- The message number of a chunk's message on a stream, given when its first packet is queued. -/
def chunkMsn (n : CNode) (c : CChunk) (slot key : Nat) (s : State) : BitVec 32 × State :=
  match mfind c.msns slot with
  | some m => (m, s)
  | none =>
    let r := streamMsn key s
    (r.1, setChunk n { c with msns := mset c.msns slot r.1 } r.2)

/-- One packet of a chunk's message joins a stream (R564). Log 75 (DEDUCED). -/
def chunkPkt (it : Itin) (n : CNode) (c : CChunk) (peer slot op : Nat) (down : Bool) (off : Nat) (data : List Byte) (fin : Option Nat) (s : State) : State :=
  let num := bulkNum n.itin c.tree down
  let key := streamKey peer n.epoch num
  let r := chunkMsn n c slot key (openStream it peer n.epoch num s)
  streamQueue key { (qp r.2 key).pkt r.2 key op false with
    msn := r.1, first := off == 0, last := fin.isSome, ar := fin.isSome, payload := data
    coll := { chunkExt n c with offset := off, crc := fin.getD 0 } } r.2

/-- All the payload that a node sends up for a chunk. -/
def sumPayload (n : CNode) (c : CChunk) (ranges : Nat) : List Byte :=
  (List.range ranges).flatMap (fun j => elemsPayload n.fws n.width (mget c.ranges j (0, [])).2)

/-- A full range goes up, ranges in order (R572). -/
def sumOne (i e t k : Nat) (s : State) : State :=
  atChunk i e t k (fun it n c s =>
    let tr := it.tree t
    let total := n.ranges (it.elems n.count t k)
    if n.gather || tr.isRoot || !c.opened || total ≤ c.sent || !rangeFull tr c c.sent then s
    else
      let fin := if c.sent + 1 = total then some (crc32c (sumPayload n c total)) else none
      let data := elemsPayload n.fws n.width (mget c.ranges c.sent (0, [])).2
      let s1 := chunkPkt it n c tr.parent 0 0x42 false (4096 * c.sent) data fin s
      atChunk i e t k (fun _ n c s => setChunk n { c with sent := c.sent + 1 } s) s1) s

/-- Every range that can goes up. -/
def sumStep (i e t k : Nat) (s : State) : State :=
  atNode i e (fun it n s => (List.range (n.ranges (it.elems n.count t k))).foldl (fun s _ => sumOne i e t k s) s) s

/-! ## Results -/

/-- The whole of a result. -/
def outBytes (c : CChunk) : List Byte := c.out.flatMap (fun x => x.2)

/-- Whether a float sum may have overflowed where this node cannot see it: it has children, and the result holds an infinity or a NaN, or the
format has none. -/
def fltOpen (f : FwsCtrl) (t : Tree) (nonfinite : Bool) : Bool := f.float && !t.children.isEmpty && ((fmtOf f.inFmt).inf.isNone || nonfinite)

/-- The root converts a range that is full (R573). -/
def rootOne (i e t k j : Nat) (s : State) : State :=
  atChunk i e t k (fun it n c s =>
    let tr := it.tree t
    let off := j * n.rangeElems * n.outBits / 8
    if !c.opened || (mfind c.out off).isSome || !rangeFull tr c j then s
    else
      let fin := (mget c.ranges j (0, [])).2.zipIdx.map (fun x =>
        let p := j * n.rangeElems + x.2
        finalElem n.fws (c.g.getD (p / 32) 0) (it.e0 t k + p) x.1)
      let fl := fin.foldl (fun a x => a ||| x.2) 0
      countFinal fin (setChunk n { c with
        out := mset c.out off (pack n.outBits (fin.map (fun x => x.1))), flags := c.flags ||| fl
        flagsOpen := c.flagsOpen || fltOpen n.fws tr (fl / 2 % 2 == 1) } s)) s

/-- Results go down whole from the root (R573, R575). Log 73 (DESIGN CHOICE). -/
def sendResult (it : Itin) (n : CNode) (c : CChunk) (s : State) : State :=
  (it.tree c.tree).children.foldl (fun s p =>
    streamSend it p n.epoch (bulkNum n.itin c.tree true) 0x43 (chunkExt n c) (outBytes c) s) s

/-- The root's conversions of a chunk; its result goes down when it is whole (R573, R574). -/
def rootStep (i e t k : Nat) (s : State) : State :=
  atChunk i e t k (fun it n c s =>
    let total := n.ranges (it.elems n.count t k)
    if n.gather || !(it.tree t).isRoot || c.outDone then s
    else
      atChunk i e t k (fun it n c s =>
        if c.out.length < total then s
        else
          let c1 := { c with outDone := true }
          let s1 := setChunk n c1 s
          if n.down then sendResult it n c1 s1 else s1)
        ((List.range total).foldl (fun s j => rootOne i e t k j s) s)) s

/-- The owner of a tree reads a chunk of gather traffic and it goes down (R567, R575). -/
def gatherStep (i e t k : Nat) (s : State) : State :=
  atChunk i e t k (fun it n c s =>
    let tr := it.tree t
    match rootMember s n tr with
    | none => s
    | some m =>
      if !n.gather || !tr.isRoot || !c.opened || c.outDone || m.phase ≠ 3 then s
      else
        let el := it.elems n.count t k
        let at_ := if m.op = 0x20 then it.shardAt n.count m.party.rank t (it.e0 t k) else it.e0 t k
        let bl := if m.op = 0x20 then it.shardBlock m.party.rank t (it.b0 t k) else it.b0 t k
        let x := memCtx s m
        let acc := [(false, m.bulk.srcs.getD 0 0 + at_ * n.width / 8, (el * n.width + 7) / 8)] ++
          (if m.bulk.scaled then [(false, m.bulk.norm + bl, it.nb t k)] else [])
        (match firstAccess s x acc with
        | some y => memStop m x y s
        | none =>
          let data := acc.flatMap (fun (y : Bool × Nat × Nat) => peekData s { x with acc := 5 } y.2.1 y.2.2 .read)
          let c1 := { c with out := [(0, data)], outDone := true }
          sendResult it n c1 (setChunk n c1 (acc.foldl (fun s y => loadEff x y.2.1 y.2.2 s) s)))) s

/-! ## Members' parts -/

/-- What a member's part in a chunk is. -/
inductive Share where
  | waits | none | writes (at_ : Nat)
  deriving DecidableEq, Repr

/-- A member's part in a chunk, once it can be done (R573 to R575, R586): whether it writes the result, and at which byte of DST. -/
def memberPart (it : Itin) (n : CNode) (c : CChunk) (m : Member) : Share :=
  let t := it.tree c.tree
  let own := m.party.rank == t.rootRank
  let e0 := it.e0 c.tree c.chunk
  let whole := Share.writes (e0 * n.outBits / 8)
  if m.cls = 0 then
    (if !c.outDone then .waits else if own && m.op == 0x21 && m.bulk.dst == 0 then .none else whole)
  else if m.op = 0x21 then (if c.outDone then whole else .waits)
  else if own then
    (if !c.outDone then .waits
    else if m.op = 0x20 then .writes (it.shardAt n.count m.party.rank c.tree e0 * n.outBits / 8) else whole)
  else if m.conv.contains (c.num it) then .none else .waits

/-- The flags that a member reports for the elements it wrote (R535): those of the conversion where it was made; elsewhere NONFINITE from the result,
and what the result leaves open free. Log 83 (DESIGN CHOICE). -/
def partFlags (s : State) (it : Itin) (n : CNode) (c : CChunk) (codes : List Nat) : Flags × Bool :=
  let f := fmtOf n.fws.outFmt
  let r := (freshVal s).toNat
  if n.gather then (0, false)
  else if (it.tree c.tree).isRoot then (if c.flagsOpen then (c.flags ||| r % 2, true) else (c.flags, false))
  else
    let nf := codes.any (fun v => !(f.value v).isFin)
    let half := 2 ^ (f.bits - 1)
    let ovf := if n.flt then f.inf.isNone || nf else codes.any (fun v => v % half == f.maxc)
    let neg0 := !n.flt && codes.contains half
    let zero := !n.flt && codes.contains 0
    ((if ovf then r % 2 else 0) + 2 * b2n nf + 4 * (if neg0 then 1 else if zero then r / 2 % 2 else 0), ovf || (zero && !neg0))

/-- Whether a member's DST overlaps a source of its command, which makes its result unpredictable; in RDC_ALL_REDUCE it may equal SRC 0 (R544). Log 69 (DESIGN CHOICE). -/
def memberMeets (s : State) (it : Itin) (n : CNode) (m : Member) : Bool :=
  let shard := sumOf (fun x => if x.rootRank = m.party.rank then x.elems n.count else 0) it.trees
  let out := if m.cls = 1 && m.op = 0x20 then shard else n.count
  let src := if m.cls = 0 && m.op = 0x20 then shard else n.count
  let from_ := if m.cls = 1 && m.op = 0x21 && m.bulk.srcs.head? = some m.bulk.dst then m.bulk.srcs.drop 1 else m.bulk.srcs
  from_.any (fun a => opsMeet s (memCtx s m) (m.bulk.dst, (out * n.outBits + 7) / 8) (a, if n.gather then (src * n.outBits + 7) / 8 else srcLen n.fws.inFmt src))

/-- A member does its part in a chunk (R546, R585, R586, R599). -/
def passOne (it : Itin) (n : CNode) (c : CChunk) (m : Member) (s : State) : State :=
  match memberPart it n c m with
  | .waits => s
  | .none => modMember m.id (fun m => { m.restart s with passed := m.passed ++ [c.num it] }) s
  | .writes a =>
    let el := it.elems n.count c.tree c.chunk
    let len := (el * n.outBits + 7) / 8
    let wild := memberMeets s it n m
    let data := wildBytes wild s a (outBytes c)
    let x := memCtx s m
    let sc := n.gather && m.bulk.scaled
    let acc := [(true, m.bulk.dst + a, len)] ++ (if sc then [(true, m.bulk.seed.toNat + it.b0 c.tree c.chunk, it.nb c.tree c.chunk)] else [])
    match firstAccess s x acc with
    | some y => memStop m x y s
    | none =>
      let codes := if n.gather then [] else unpack n.outBits el data
      let fl := partFlags s it n c codes
      let s1 := writeEff { x with acc := 6 } (m.bulk.dst + a) (data.take len) s
      let s2 := if sc then writeEff { x with acc := 6 } (m.bulk.seed.toNat + it.b0 c.tree c.chunk) (data.drop len) s1 else s1
      modMember m.id (fun m => { m.restart s with
        bytes := mset m.bytes m.passed.length len, passed := m.passed ++ [c.num it], flags := m.flags ||| fl.1
        untrusted := m.untrusted || c.untrusted
        wild := m.wild || wild
        sq := if n.gather then m.sq else mset m.sq (c.num it) (sumSquares n.fws.outFmt codes) }) (if fl.2 || wild then useFresh s2 else s2)

/-- Every local member that can does its part in a chunk. -/
def passStep (i e t k : Nat) (s : State) : State :=
  (nodeMembers s i e).foldl (fun s m0 =>
    atChunk i e t k (fun it n c s =>
      match member? s m0.id with
      | some m => if m.phase ≠ 3 || m.passed.contains (c.num it) then s else passOne it n c m s
      | none => s) s) s

/-! ## The end of a chunk at a node -/

/-- Whether a chunk's sums have left this node (R576). -/
def upGone (s : State) (it : Itin) (n : CNode) (c : CChunk) : Bool :=
  let t := it.tree c.tree
  if t.isRoot then c.outDone
  else if n.gather then true
  else c.sent == n.ranges (it.elems n.count c.tree c.chunk) &&
    !streamHolds s (streamKey t.parent n.epoch (bulkNum n.itin c.tree false)) 0x42 c.tree c.chunk

/-- Whether its results have been acknowledged by every child, where results are known to travel down (R576). -/
def downGone (s : State) (it : Itin) (n : CNode) (c : CChunk) : Bool :=
  let t := it.tree c.tree
  if !(n.gather || (n.known && n.down)) then true
  else c.outDone && t.children.all (fun p => !streamHolds s (streamKey p n.epoch (bulkNum n.itin c.tree true)) 0x43 c.tree c.chunk)

/-- A chunk gives back the unit of its exponent bytes when they are used, and all its units when it is done (R576, R580). -/
def relStep (i e t k : Nat) (s : State) : State :=
  atChunk i e t k (fun it n c s =>
    let tr := it.tree t
    let total := n.ranges (it.elems n.count t k)
    if !c.opened || c.done then s
    else if upGone s it n c && downGone s it n c then
      setChunk n { c with done := true, units := [] } (if tr.locals = 0 && !n.gather then bump 0x250138 s else s)
    else if n.exps && c.units.length == chunkUnits it n + 1 && (List.range total).all (rangeFull tr c) && (!tr.isRoot || c.outDone) then
      setChunk n { c with units := c.units.take (chunkUnits it n) } s
    else s) s

/-- All that a node does with one chunk. -/
def chunkGo (i e t k : Nat) (s : State) : State :=
  relStep i e t k (passStep i e t k (rootStep i e t k (sumStep i e t k (convStep i e t k (gatherStep i e t k
    (atChunk i e t k heldStep (atChunk i e t k openStep (atChunk i e t k expStep s))))))))

/-- A node does with a chunk what its units allow: one in a frozen bank makes it wait (R211), one in a bank in FATAL aborts the collective with
LOCAL_FAULT (R592, R965, R975). -/
def chunkStep (i e t k : Nat) (s : State) : State :=
  match (node? s i e).bind (fun n => chunk? n t k) with
  | none => chunkGo i e t k s
  | some c =>
    match unitsStop s c.die c.units with
    | none => chunkGo i e t k s
    | some x => if x.waits then s else nodeAborted i e 5 none (unitsMeet c.pool 0 x s)

/-! ## Members -/

/-- The sum of squares is written before the last advance (R546). -/
def normStep (id : Nat) (s : State) : State :=
  match member? s id with
  | none => s
  | some m =>
    match itin? s m.bulk.itin with
    | none => s
    | some it =>
      if m.phase ≠ 3 || m.cls ≠ 1 || m.bulk.norm = 0 || m.normed || m.passed.length < it.allChunks then s
      else
        let x := memCtx s m
        match firstAccess s x [(true, m.bulk.norm, 8)] with
        | some y => memStop m x y s
        | none => modMember id (fun m => { m with normed := true }) (storeLe x m.bulk.norm 8 (sumChunks (m.sq.map (fun y => y.2))) s)

/-- Whether a member has done its part in every chunk, its sum of squares included. -/
def Member.whole (m : Member) (it : Itin) : Bool := decide (it.allChunks ≤ m.passed.length) && (m.cls != 1 || m.bulk.norm == 0 || m.normed)

/-- A speculative member releases the chunks that have passed (R587); after its last one it enters the closing round (R589). -/
def relMember (id : Nat) (s : State) : State :=
  match member? s id with
  | none => s
  | some m =>
    match itin? s m.bulk.itin with
    | none => s
    | some it =>
      if m.phase ≠ 3 then s
      else
        let goal := if m.bulk.verified then m.released
          else if it.allChunks ≤ m.passed.length && !m.whole it then m.passed.length - 1 else m.passed.length
        let s1 := if m.released < goal then
            lanternAdd m.room m.bulk.chunkLantern (goal - m.released) (modMember id (fun m => { m.restart s with released := goal }) s)
          else s
        if !m.whole it then s1
        else contribute m 2 { released := decide (goal ≠ 0) } (modMember id (fun m => { m.restart s with phase := 4 }) s1)

/-- A node whose every chunk is done is finished; it stays to answer what comes again. -/
def finStep (i e : Nat) (s : State) : State :=
  atNode i e (fun it n s =>
    let all := sumOf (fun t => if t.here then t.chunks it.chunkBlocks else 0) it.trees
    if n.fin || (n.chunks.filter (fun c => c.done)).length < all then s else setNode { n with fin := true } s) s

/-- All that a node and its members can do now. Log 72 (DESIGN CHOICE). -/
def nodeStep (i e : Nat) (s : State) : State :=
  let s1 := atNode i e (fun it _ s => (List.range it.trees.length).foldl (fun s t =>
    (List.range it.window).foldl (fun s _ => candStep i e t s) s) s) s
  let s2 := atNode i e (fun _ n s => n.chunks.foldl (fun s c => chunkStep i e c.tree c.chunk s) s) s1
  let s3 := (nodeMembers s2 i e).foldl (fun s m => relMember m.id (normStep m.id s)) s2
  finStep i e s3

end Sys2Proof.Machine
end

