-- ==== Sys2Proof/Machine/Coll2.lean ====
section
/-! DEFINITION. The commands of collectives: starting (R541 to R561, R689 to R695, R704 to R711), what arrives in device streams (R563 to R585, R696 to
R703), timers (R592 to R597, R715, R717), and the grant of Harbour units (R1141). -/

namespace Sys2Proof.Machine

open Sys2Proof

/-! ## Round slots -/

/-- The die and the pool of a round's units at this node (R702). Log 77 (DESIGN CHOICE). -/
def roundPlace (s : State) (ctrl : Nat) : Nat × Nat :=
  match ctrlTree s ctrl with
  | none => (0, 256)
  | some (it, t) =>
    let mine := s.coll.parties.filter (fun p => p.2.tag == it.tag)
    let low := mine.foldl (fun a p => match a with | none => some p.2 | some q => if p.2.rank < q.rank then some p.2 else some q) (none : Option Party)
    let pool := match (if t.locals = 0 then none else low) with | some p => p.room | none => 256
    (if t.isRoot then (if pool = 256 then 0 else fnPort (room s pool).fn / 4) else dieToward s t.parent, pool)

/-- Units that a round's merged data takes (R702). Log 78 (DEDUCED). -/
def roundUnits (kind sig : Nat) : Nat :=
  let b := roundCount kind sig * wireSize (sigByte sig 24) (sigByte sig 25)
  if b ≤ 1024 then 0 else (b + 65535) / 65536

/-- The round's record, made with its slot and units when it is new; none when no slot or unit is free (R702). Log 78 (DEDUCED). -/
def takeRound (k : Nat × Nat × Nat) (kind ctrl sig : Nat) (s : State) : Option State :=
  if (round? s k kind).isSome then some s
  else
    let u := roundUnits kind sig
    let p := roundPlace s ctrl
    if 16384 ≤ s.coll.rounds.length || poolFree s p.1 p.2 < u || (decide (u ≠ 0) && !(waitersOf s p.1 p.2).isEmpty) then none
    else
      let t := takeUnits p.1 u s
      some (setRound { tag := k.1, gen := k.2.1, seq := k.2.2, kind := kind, ctrl := ctrl, die := p.1, pool := p.2, units := t.1 } t.2)

/-! ## Starting a member's collective -/

/-- The local check of an itinerary (R557). -/
def localCheck (s : State) (m : Member) : Bool :=
  match itin? s m.bulk.itin with
  | none => false
  | some it =>
    it.tag == m.party.tag && it.total == (m.bulk.count + 31) / 32 && it.trees.all (fun t => decide (1 ≤ t.locals)) &&
      it.trees.all (fun t => t.rootRank != m.party.rank || t.isRoot) &&
      (!((m.cls == 1 && m.op == 0x22) || (m.cls == 0 && m.op == 0x21)) || it.trees.all (fun t => t.rootRank == m.bulk.rootRank))

/-- Whether another collective of the same member on the same itinerary is still open (R558). -/
def itinHeld (s : State) (m : Member) : Bool :=
  m.isBulk && s.coll.members.any (fun x => decide (x.id < m.id) && x.ctx == m.ctx && x.isBulk && x.bulk.itin == m.bulk.itin)

/-- Whether four collectives of the context are in flight before this one (R694). -/
def flightFull (s : State) (m : Member) : Bool :=
  decide (4 ≤ (s.coll.members.filter (fun x => decide (x.id < m.id) && x.ctx == m.ctx)).length)

/-- Bytes of an element's place in a grouped array (R704). -/
def scalarAt (c : ScalarArgs) (base i : Nat) : Nat :=
  if c.group = 0 then base + i * dtSize c.dtype else base + i / c.group * c.stride + i % c.group * dtSize c.dtype

/-- The accesses of a scalar reduction's elements. -/
def scalarAccess (c : ScalarArgs) (w : Bool) (base : Nat) : List (Bool × Nat × Nat) :=
  (List.range c.count).map (fun i => (w, scalarAt c base i, dtSize c.dtype))

/-- A member joins an abort round that was already called (R714). -/
def joinCalled (id : Nat) (s : State) : State :=
  match member? s id with
  | some m => if s.coll.called.contains m.key then joinLocals m.key 0 s else s
  | none => s

/-- A member's first round begins: set-up of a bulk collective (R559, R711), or the one round of a barrier or scalar reduction (R704, R706). -/
def memberStart (id : Nat) (s : State) : State :=
  match member? s id with
  | none => s
  | some m =>
    if m.phase ≠ 0 || itinHeld s m || flightFull s m then s
    else
      let sig := m.sig
      let kind := if m.isBulk then 1 else if m.op = 0x20 then 3 else 4
      let go := fun (c : Contrib) (s : State) =>
        match takeRound m.key kind m.party.ctrl sig s with
        | none => s
        | some s1 =>
          let s2 := modMember id (fun m => if m.isBulk then { m with phase := 1 } else { m.restart s with phase := 4 }) s1
          if s2.coll.called.contains m.key then joinCalled id s2 else contribute m kind c s2
      let c : Contrib := { sigMin := sig, sigMax := sig }
      if m.isBulk then go { c with localFail := !localCheck s m } s
      else if kind = 3 then go c s
      else
        let x := memCtx s m
        let acc := scalarAccess m.sc false m.sc.src
        match firstAccess s x acc with
        | some y => memStop m x y s
        | none =>
          let v := acc.map (fun y => wireIn m.sc.op m.sc.dtype (loadLe s x y.2.1 y.2.2))
          (match takeRound m.key kind m.party.ctrl sig s with
          | none => s
          | some _ => go { c with vals := v } (acc.foldl (fun s y => loadEff x y.2.1 y.2.2 s) s))

/-- A member whose round has ended writes its result and completes (R709, R710). -/
def memberWrite (id : Nat) (s : State) : State :=
  match member? s id with
  | none => s
  | some m =>
    if m.phase ≠ 7 then s
    else
      let x := memCtx s m
      let acc := scalarAccess m.sc true m.sc.dst
      match firstAccess s x acc with
      | some y => if y.2.2.1.waits then accessEff x y s else memberAborted m 5 false (accessEff x y s)
      | none =>
        let z := dtSize m.sc.dtype
        let s1 := (m.result.zip acc).foldl (fun s y => storeLe x y.2.2.1 z (y.1 % 2 ^ (8 * z)) s) s
        memberOk { m with bytes := [(0, z * m.sc.count)] } s1

/-! ## Settling -/

/-- A scheduled start that took a freed slot only after its START_TIME had passed goes on with LATE (R107). -/
def memberLate (id : Nat) (s : State) : State :=
  match s.tide.waits.find? (fun w => w.start && w.coll == id && w.armed && w.late) with
  | some w => slotFreed (startFire w { s with tide := { s.tide with waits := s.tide.waits.filter (fun x => x.id != w.id) } })
  | none => s

/-- A round whose units lie in a bank in FATAL aborts its collective with LOCAL_FAULT (R592, R965, R975). -/
def roundUnitsLost (r : Round) (s : State) : State :=
  match unitsStop s r.die r.units with
  | some x => if x.waits then s else alert (r.tag, r.gen, r.seq) r.ctrl 5 false (setRound { r with units := [] } (unitsMeet r.pool 0 x s))
  | none => s

/-- Everything that the collectives of this device can do now, once over. -/
def settlePass (s : State) : State :=
  let s0 := s.coll.rounds.foldl (fun s r => roundUnitsLost r s) (s.coll.members.foldl (fun s m => memberLate m.id s) s)
  let s1 := s0.coll.members.foldl (fun s m => memberStart m.id s) s0
  let s2 := s1.coll.nodes.foldl (fun s n => nodeStep n.itin n.epoch s) s1
  s2.coll.members.foldl (fun s m => memberWrite m.id s) s2

/-- Passes over the collectives. -/
def settleGo : Nat → State → State
  | 0, s => s
  | k + 1, s => settleGo k (settlePass s)

/-- What the collectives of this device can do now: one pass more than there are members, since a member's end lets another one start. -/
def settle (s : State) : State := settleGo (s.coll.members.length + 2) s

/-- A command of collectives. -/
def collRow (f : State → State) (s : State) : State := settle (f s)

/-! ## Commands -/

/-- Whether a member writes a result (R538, R544). -/
def writesResult (op cls : Nat) (b : BulkArgs) (rank : Nat) : Bool :=
  if cls = 1 then (if op = 0x22 then rank == b.rootRank else true) else !(op == 0x21 && rank == b.rootRank && b.dst == 0)

/-- What makes a party collective malformed (R541, R543, R544, R503, R504). Log 86 (DEDUCED). -/
def bulkBad (op cls : Nat) (h : CmdHdr) (b : BulkArgs) (s : State) (r : Room) : Option Nat :=
  let f := if cls = 1 then fwsCause s b else none
  let p := party? s h.fn b.party
  let rank := match p with | some x => x.rank | none => 0
  let k := b.srcs.length
  let root := cls == 0 && op == 0x21 && rank == b.rootRank
  firstBadOf [
    (f == some 6, 6),
    (h.units != (11 + k + 1) / 2, 3),
    (f == some 1 || (cls == 1 && b.scaled) || (!((cls == 1 && op == 0x22) || (cls == 0 && op == 0x21)) && b.rootRank != 0) ||
      (cls == 0 && (b.expLantern != 0 || decide (256 ≤ b.ctrl) || (!b.scaled && (b.seed != 0 || b.norm != 0)))), 1),
    (b.srcs.any (fun a => operand r a == .bad) || (writesResult op cls b rank && b.dst != 0 && operand r b.dst == .bad) ||
      (b.norm != 0 && operand r b.norm == .bad) || (cls == 0 && b.scaled && operand r b.seed.toNat == .bad), 5),
    (f == some 4 || p.isNone || b.count == 0 || decide (2 ^ 31 < b.count) || !timeoutOk s b.timeout ||
      (if cls = 1 then k == 0 || decide (16 < k) else if op = 0x20 then k != 1 else k != b2n root) ||
      (cls == 0 && !([4, 6, 8, 16, 32, 64].contains b.ctrl)) || !lanternOk r b.chunkLantern || (cls == 1 && !lanternOk r b.expLantern) ||
      !lanternOk r b.inputLantern, 4)]

/-- What makes a COLL command malformed (R704, R705). Log 86 (DEDUCED). -/
def scalarBad (op : Nat) (h : CmdHdr) (c : ScalarArgs) (s : State) (r : Room) : Option Nat :=
  let z := dtSize c.dtype
  let bar := op == 0x20
  firstBadOf [
    (h.units != 4, 3),
    (!bar && (operand r c.src == .bad || operand r c.dst == .bad), 5),
    ((if bar then c.op != 0 || c.dtype != 0 || c.count != 0
      else decide (5 < c.op) || decide (5 < c.dtype) || (decide (3 ≤ c.op) && decide (4 ≤ c.dtype)) || c.count == 0 || decide (8192 < c.count) ||
        (c.group != 0 && decide (c.stride < c.group * z)) || c.src % z != 0 || c.dst % z != 0) ||
      (party? s h.fn c.party).isNone || !timeoutOk s c.timeout, 4)]

/-- Why a collective is unrouted (R689). -/
def unrouted (s : State) (p : Party) : Bool :=
  match ctrlTree s p.ctrl with
  | none => true
  | some (it, t) => it.tag != p.tag || !t.here || t.locals == 0

/-- The epoch of a collective on its itinerary: the first member here that names its sequence number counts it (R561). Log 82 (DESIGN CHOICE). -/
def takeEpoch (i gen seq : Nat) (s : State) : Nat × State :=
  match itin? s i with
  | none => (0, s)
  | some it =>
    match it.seqs.find? (fun x => x.1 == gen && x.2.1 == seq) with
    | some x => (x.2.2, s)
    | none =>
      let e := it.count % 256
      (e, modColl (fun c => { c with itins := mset c.itins i { it with count := it.count + 1, seqs := ((gen, seq, e) :: it.seqs).take 64 } }) s)

/-- A collective command starts: it takes its number (R691), and its list waits in a park slot until it ends (R695). Log 71 (DEDUCED). -/
def startColl (op cls : Nat) (h : CmdHdr) (ctx : Nat) (b : BulkArgs) (c : ScalarArgs) (r : ListRec) (s : State) : CEnd × State :=
  match mfind s.coll.parties ctx with
  | none => ({ status := 1, detail := 4 }, s)
  | some p =>
    let s1 := modColl (fun c => { c with parties := mset c.parties ctx { p with nextSeq := p.nextSeq + 1 } }) s
    if unrouted s p then ({ status := 0x31 }, s1)
    else
      let e := if cls = 5 then (0, s1) else takeEpoch b.itin p.gen p.nextSeq.toNat s1
      let limit := timeoutTicks s (if cls = 5 then c.timeout else b.timeout)
      let m : Member := {
        id := s.coll.nextMember, h := h, op := op, cls := cls, room := r.room, ctx := ctx, party := p, seq := p.nextSeq.toNat, bulk := b, sc := c
        epoch := e.1, die := pickDie s r, limit := limit, due := elapsed s + BitVec.ofNat 64 limit }
      let s2 := parkList { h with wait := 0xFFFF, waitTimeout := 0 } op r e.2
      ({ pend := true }, settle (modColl (fun c => { c with members := c.members ++ [m], nextMember := c.nextMember + 1 }) s2))

/-- A bulk collective's command. Log 71 (DEDUCED). -/
def bulkCmd (op cls : Nat) (h : CmdHdr) (b : BulkArgs) (s : State) : State :=
  engine h op cls (bulkBad op cls h b) (startColl op cls h b.party b {}) s

/-- RDC_ALL_REDUCE (R538). -/
def execRdcAllReduce (h : CmdHdr) (b : BulkArgs) (s : State) : Answer := act collectives (bulkCmd 0x21 1 h b) s

/-- RDC_REDUCE_SCATTER (R538). -/
def execRdcReduceScatter (h : CmdHdr) (b : BulkArgs) (s : State) : Answer := act collectives (bulkCmd 0x20 1 h b) s

/-- RDC_REDUCE (R538). -/
def execRdcReduce (h : CmdHdr) (b : BulkArgs) (s : State) : Answer := act collectives (bulkCmd 0x22 1 h b) s

/-- XFER_ALL_GATHER (R538). -/
def execXferAllGather (h : CmdHdr) (b : BulkArgs) (s : State) : Answer := act collectives (bulkCmd 0x20 0 h b) s

/-- XFER_BROADCAST (R538). -/
def execXferBroadcast (h : CmdHdr) (b : BulkArgs) (s : State) : Answer := act collectives (bulkCmd 0x21 0 h b) s

/-- COLL_BARRIER (R704). -/
def execCollBarrier (h : CmdHdr) (c : ScalarArgs) (s : State) : Answer :=
  act collectives (engine h 0x20 5 (scalarBad 0x20 h c) (startColl 0x20 5 h c.party {} c)) s

/-- COLL_SCALAR_REDUCE (R704). -/
def execCollScalarReduce (h : CmdHdr) (c : ScalarArgs) (s : State) : Answer :=
  act collectives (engine h 0x21 5 (scalarBad 0x21 h c) (startColl 0x21 5 h c.party {} c)) s

/-! ## Sources -/

/-- The oldest chunk whose G a member does not hold, from g on (R568). -/
def oldestOpen (m : Member) : Nat → Nat → Nat
  | 0, g => g
  | n + 1, g => if m.held.contains g then oldestOpen m n (g + 1) else g

/-- A member's next chunk is ready: it is scanned for its exponents, which join its node's (R545, R507, R508, R568). Log 72 (DESIGN CHOICE). -/
def sourceReady (id : Nat) (s : State) : State :=
  match member? s id with
  | none => s
  | some m =>
    match itin? s m.bulk.itin, (match itin? s m.bulk.itin with | some it => chunkPlace it.chunkBlocks it.trees 0 m.scanned | none => none) with
    | some it, some (t, k) =>
      if m.phase ≠ 3 || !chunkReady s m.room m.bulk.inputLantern m.bulk.inputBase m.scanned then s
      else
        atNode m.bulk.itin m.epoch (fun _ n s =>
          let next := fun (m : Member) => { m with scanned := m.scanned + 1 }
          if !n.exps then modMember id next s
          else if oldestOpen m m.held.length 0 + 64 < m.scanned then s
          else
            let x := memCtx s m
            let f := n.fws
            let acc := m.bulk.srcs.flatMap (srcAccess f.inFmt m.bulk.count (it.b0 t k) (it.nb t k) (it.elems m.bulk.count t k))
            match firstAccess s x acc with
            | some y => memStop m x y s
            | none =>
              let l := srcExps s x f.inFmt m.bulk.count m.bulk.srcs (it.b0 t k) (it.nb t k)
              let c := n.chunkOf t k
              let mx := if c.expMax.isEmpty then l else (c.expMax.zip l).map (fun y => Nat.max y.1 y.2)
              modMember id next (setChunk n { c with expIn := c.expIn + 1, expMax := mx } (acc.foldl (fun s y => loadEff x y.2.1 y.2.2 s) s))) s
    | _, _ => s

/-- SOURCE_CHUNK_READY (R545). -/
def execSourceChunkReady (member : Nat) (s : State) : Answer := act collectives (collRow (sourceReady member)) s

/-! ## Tide time -/

/-- A timed wait or a scheduled start fires (R105, R107 to R110). -/
def timedFire (w : TimedWait) (s : State) : State :=
  if !w.armed || !reached w.target s.tide.count then s
  else if w.start then
    slotFreed (startFire w { s with tide := { s.tide with waits := s.tide.waits.filter (fun x => x.id != w.id) } })
  else fireWait w s

/-- TIMED_WAIT_FIRE (R105). -/
def execTimedWaitFire (id : Nat) (s : State) : Answer :=
  act collectives (collRow (fun s => match s.tide.waits.find? (fun w => w.id == id) with | some w => timedFire w s | none => s)) s

/-- COLL_START_TIME (R109). -/
def execCollStartTime (member : Nat) (s : State) : Answer :=
  act collectives (collRow (fun s => match s.tide.waits.find? (fun w => w.start && w.coll == member) with | some w => timedFire w s | none => s)) s

/-- Fire every armed wait and scheduled start whose target is reached (R111). -/
def fireReached (s : State) : State :=
  (s.tide.waits.filter (fun w => w.armed && reached w.target s.tide.count)).foldl (fun s w => timedFire w s) s

/-- The tide unit steps its count by an offset: STEP, the waits reached, the tables restart with their gates open (R85, R111). Log 22 (DEDUCED), 177 (DEDUCED). -/
def tideStep (off : Int) (s : State) : State :=
  let s1 := modTide (fun t => { t with count := t.count - BitVec.ofInt 64 off, base := t.base - BitVec.ofInt 64 off, goodRun := 0 }) s
  let s2 := modTide (fun t => { t with ports := mmapV t.ports (fun p x =>
    if gclOn s p then { x with gates := 0xFF, slack := 0, switchAt := some (cycleStart x.oper t.count) } else x) }) s1
  settle (fireReached (tideRec 0xC0 off (raise 0 0 s2)))

/-- RATE_ADJUST: the mean of 16 offsets of the source in use moves the rate, steps the count once in ACQUIRE, or loses lock (R84, R85, R87). Log 19 (DESIGN CHOICE), 184 (DESIGN CHOICE). -/
def rateAdjust (s : State) : State :=
  let t := s.tide
  if t.samples.length < 16 then s
  else
    let m := Int.tdiv ((t.samples.take 16).foldl (fun a x => a + x) 0) 16
    let s1 := modTide (fun t => { t with samples := t.samples.drop 16, offset := m }) s
    let big := decide (m < -160) || decide (160 < m)
    let adj := fun (b : Int) (s : State) => modTide (fun t =>
      let r := clampRate b (Config.servo t.rate m)
      { t with rate := r, rateLog := ((t.count, r) :: t.rateLog).take 400000 }) s
    match t.st with
    | .acquire =>
      if !t.firstDone && (decide (m < -usTicks) || decide (usTicks < m)) then
        tideStep m (modTide (fun t => { t with firstDone := true }) s1)
      else adj rateMax (modTide (fun t => { t with firstDone := true }) s1)
    | .locked =>
      if big && 16 ≤ t.badRun + 1 then toHoldover t.rate t.hops s1
      else adj rateMax (modTide (fun t => { t with badRun := if big then t.badRun + 1 else 0 }) s1)
    | .holdover => adj slewMax s1
    | .freerun => s1

/-- RATE_ADJUST (R84). -/
def execRateAdjust (s : State) : Answer := act (collectives ++ [.objNow]) rateAdjust s

/-! ## Streams -/

/-- A stream reaches its limit, or is refused: its state ends, and the collective aborts with STREAM_LOST (R593, R713). Log 80 (DEDUCED). -/
def streamLost (key : Nat) (p : Pkt) (s : State) : State :=
  let s1 := modQp key (fun q => { q with st := .error, unacked := [], outq := [], holdFrom := none }) s
  if key % 2 ^ 24 < 2 ^ 23 then nodeAborted (key % 2 ^ 16) p.epoch 4 none s1
  else
    let k := (p.coll.party, p.epoch, p.coll.seq)
    let s2 := (membersOf s1 k).foldl (fun s m => memberAbort m.id 4 s) s1
    alert k (key % 2 ^ 16) 4 false s2

/-- Lost PSNs of a stream wait to be resent, or end it at RETRY_LIMIT (R420, R593). Log 80 (DEDUCED). -/
def streamDeclare (key : Nat) : List Unacked → State → State
  | [], s => s
  | u :: r, s =>
    let q := qp s key
    if q.st ≠ .ready then s
    else if q.retryLimit ≤ u.count then streamLost key u.pkt s
    else streamDeclare key r (modQp key (fun q => { q with
      unacked := q.unacked.map (fun x => if x.psn = u.psn then { x with lost := true, free := false } else x) }) s)

/-- RETX_TIMEOUT of a stream (R418, R420, R421, R750). -/
def streamTimeout (key : Nat) (psn : BitVec 32) (s : State) : State :=
  let q := qp s key
  match q.unacked.find? (fun u => u.psn == psn) with
  | none => s
  | some u =>
    if q.st ≠ .ready || q.holdFrom.isSome || u.lost || !goneTimeout s q u then s
    else
      let p1 := paceHalve s q.pace
      streamDeclare key [u] (utFloor q.pace.rate p1.rate (bump 0x240110 (modQp key (fun q => { q with pace := p1 }) s)))

/-- RETX_TIMEOUT (R418). -/
def execRetxTimeout (stream : Bool) (qpn node epoch : Nat) (psn : BitVec 32) (s : State) : Answer :=
  act (collectives ++ [.windows, .porch]) (collRow (fun s => if stream then streamTimeout (streamKey node epoch qpn) psn s else retxTimeout qpn psn s)) s

/-- What every packet of a stream must keep (R399), apart from its stream and epoch. -/
def streamPktOk (p : Pkt) : Bool := trailerOk p && p.version == 1 && p.lenOk && p.stream

/-- The check of a stream packet's tag: none when it is discarded, else whether its data is marked (R935, R937, R939, R940). -/
def streamSeal (key : Nat) (it : Itin) (marks : Bool) (p : Pkt) (s : State) : Option Bool × State :=
  if !it.sealed then (if p.sealed then (none, bump 0x380118 s) else (some false, s))
  else if p.sealed && !sealTile s then (none, raise 9 1 (discard s))
  else
    let s1 := if p.sealed then bump 0x380108 s else s
    if p.sealed && sealOk s key p then (some false, s1)
    else
      let s2 := raise 9 0 (bump 0x380110 (ledgerInn {
        kind := 0x63, severity := 2, object := key % 2 ^ 24, d0 := p.psn.toNat + p.srcNode * 2 ^ 32 } s1))
      if marks then (some true, s2) else (none, discard s2)

/-- The stream of an ACK or NAK that this device sent on. -/
def ackStream (p : Pkt) (s : State) (f : Nat → State → State) : State :=
  let key := streamKey p.srcNode p.epoch p.dstQpn
  match itin? s (p.dstQpn % 2 ^ 16) with
  | none => discard s
  | some it =>
    if !streamPktOk p || (qp s key).st ≠ .ready then discard s
    else
      match streamSeal key it false p s with
      | (none, s1) => s1
      | (some _, s1) => f key (bump 0x240108 s1)

/-- An ACK of a stream (R416, R417). -/
def streamAck (p : Pkt) (key : Nat) (s : State) : State :=
  let r := ackMark key p s
  streamDeclare key r.1 r.2

/-- A NAK of a stream: BUSY holds it; another ends it (R593). -/
def streamNak (p : Pkt) (key : Nat) (s : State) : State :=
  if p.nakCode = 1 then nakTake key p s
  else if p.nakCode = 0 || 7 < p.nakCode then s
  else
    match (qp s key).unacked.find? (fun u => u.psn == p.nakPsn) with
    | some u => streamLost key u.pkt s
    | none => s

/-- ACK_RECEIVE (R416). -/
def execAckReceive (p : Pkt) (s : State) : Answer :=
  act losses (collRow (fun s => if p.opcode = 0xC0 && p.stream then ackStream p s (streamAck p) else rxRow [0xC0] p s)) s

/-- NAK_RECEIVE (R402). -/
def execNakReceive (p : Pkt) (s : State) : Answer :=
  act losses (collRow (fun s => if p.opcode = 0xC1 && p.stream then ackStream p s (streamNak p) else rxRow [0xC1] p s)) s

/-- A packet of a stream that this device takes: duplicates are acknowledged (R410), one too far ahead is discarded (R411), and one that is taken is
recorded if its stream still stands. -/
def streamTake (key : Nat) (p : Pkt) (body : State → Bool × State) (s : State) : State :=
  let s1 := noteArrival key p (bump 0x240108 s)
  let q := qp s1 key
  let d := q.diff p.psn q.cumPsn
  if d < 0 || q.has p.psn then sendAck key (bump 0x240120 s1)
  else if 512 ≤ d then discard s1
  else
    let r := body s1
    if r.1 && (qp r.2 key).st == .ready then recordPkt key p 1 r.2 else r.2

/-! ## Bulk packets -/

/-- The payload lengths that a message of a chunk may have (R564, R582). A node without a member does not know SCALED. Log 74 (DEDUCED). -/
def msgLens (it : Itin) (n : CNode) (scaled : Option Bool) (op t k : Nat) : List Nat :=
  let el := it.elems n.count t k
  let nb := it.nb t k
  let out := (el * n.outBits + 7) / 8
  if (it.tree t).chunks it.chunkBlocks ≤ k then []
  else
    match op with
    | 0x40 => if n.exps then [nb] else []
    | 0x41 => if n.gather then [] else if n.flt then [0] else [nb]
    | 0x42 => if n.gather then [] else [el * n.width / 8]
    | _ => if !n.gather then [out] else match scaled with
      | some b => [out + (if b then nb else 0)]
      | none => [out, out + nb]

/-- The record of a message that is arriving. Log 87 (DEDUCED). -/
def inMsg (n : CNode) (p : Pkt) : InMsg :=
  (n.msgs.find? (fun m => m.src == p.srcNode && m.op == p.opcode && m.tree == p.coll.tree && m.chunk == p.coll.chunk)).getD
    { src := p.srcNode, op := p.opcode, tree := p.coll.tree, chunk := p.coll.chunk }

/-- Replace or drop a message's record. -/
def putInMsg (m : InMsg) (keep : Bool) (n : CNode) : CNode :=
  { n with msgs := n.msgs.filter (fun x => !(x.src == m.src && x.op == m.op && x.tree == m.tree && x.chunk == m.chunk)) ++ (if keep then [m] else []) }

/-- A message with one more packet. Log 87 (DEDUCED). -/
def InMsg.add (m : InMsg) (n : CNode) (p : Pkt) : InMsg :=
  { m with
    parts := mset m.parts p.coll.offset p.payload
    crc := if p.last then some p.coll.crc else m.crc
    endAt := if p.last then p.coll.offset + p.payload.length else m.endAt
    bad := m.bad || p.coll.count != n.count || p.coll.ctrl != n.ctrl }

/-- The bytes of a message. -/
def InMsg.data (m : InMsg) : List Byte := m.parts.flatMap (fun x => x.2)

/-- Whether all of a message has come. -/
def InMsg.whole (m : InMsg) : Bool := m.crc.isSome && decide (m.endAt ≤ m.data.length)

/-- The checks of R582. -/
def msgOk (it : Itin) (n : CNode) (scaled : Option Bool) (m : InMsg) : Bool :=
  !m.bad && m.crc == some (crc32c m.data) && (msgLens it n scaled m.op m.tree m.chunk).contains m.data.length &&
    (!(m.op == 0x40 || (m.op == 0x41 && n.exps)) || m.data.all (fun b => b != 0xFF))

/-- A chunk's failure: the record and the abort (R583). -/
def chunkFail (i e : Nat) (m : InMsg) (s : State) : State :=
  nodeAborted i e 3 none (bump 0x250120 (ledgerInn {
    kind := 0x80, severity := 2, object := i, d0 := m.tree + m.chunk * 2 ^ 32, d1 := m.src } s))

/-- A SUM_UP packet folds as it arrives (R572, R583): none when it is not one range of its chunk. Log 75 (DEDUCED). -/
def foldPacket (it : Itin) (n : CNode) (c : CChunk) (p : Pkt) : Option CChunk :=
  let j := p.coll.offset / 4096
  let el := it.elems n.count c.tree c.chunk
  let want := Nat.min n.rangeElems (el - j * n.rangeElems) * n.width / 8
  if p.coll.offset % 4096 = 0 && p.payload.length = want && want ≠ 0 then
    some { c with ranges := foldRange n.fws j (payloadElems n.fws n.width p.payload) c.ranges }
  else none

/-- The next run of result bytes that has come goes on to the children, in order of its offset (R573). Log 73 (DESIGN CHOICE). -/
def fwdOne (i e t k : Nat) (m : InMsg) (s : State) : State :=
  atChunk i e t k (fun it _ c s =>
    match mfind m.parts c.fwd with
    | none => s
    | some d =>
      if d.isEmpty then s
      else
        let fin := if m.crc.isSome && c.fwd + d.length = m.endAt then m.crc else none
        let s1 := (it.tree t).children.foldl (fun s p =>
          atChunk i e t k (fun it n c s => chunkPkt it n c p (65536 + p) 0x43 true c.fwd d fin s) s) s
        atChunk i e t k (fun _ n c s => setChunk n { c with fwd := c.fwd + d.length } s) s1) s

/-- A node makes progress: its timeout, and the timers of its members, start anew (R594, R597). -/
def nodeProgress (i e : Nat) (whole : Bool) (s : State) : State :=
  atNode i e (fun it n s =>
    (if whole then nodeMembers s i e else []).foldl (fun s m => modMember m.id (Member.restart s) s)
      (setNode { n with due := elapsed s + BitVec.ofNat 64 (nodeTicks s it) } s)) s

/-- All that a whole message gives its chunk. -/
def msgDone (m : InMsg) (n : CNode) (c : CChunk) : CChunk :=
  let l := m.data.map (fun b => b.toNat)
  match m.op with
  | 0x40 => { c with expIn := c.expIn + 1, expMax := if c.expMax.isEmpty then l else (c.expMax.zip l).map (fun y => Nat.max y.1 y.2) }
  | 0x41 => { c with g := if n.flt then [] else l, granted := true }
  | 0x43 => { c with out := [(0, m.data)], outDone := true }
  | _ => c

/-- A packet of a chunk is taken: folded or forwarded as it comes, and checked once its message is whole (R572, R582 to R585). -/
def bulkTake (i e : Nat) (marked : Bool) (p : Pkt) (s : State) : State :=
  atNode i e (fun it n s =>
    let t := p.coll.tree
    let k := p.coll.chunk
    let scaled := (nodeMembers s i e).head?.map (fun m => m.bulk.scaled)
    let c0 := n.chunkOf t k
    let un := marked || p.coll.untrusted
    let s0 := if marked && !c0.untrusted then bump 0x250128 s else s
    let c1 := { c0 with untrusted := c0.untrusted || un }
    let folded := if p.opcode = 0x42 && c1.opened then foldPacket it n c1 p else none
    let m1 := (inMsg n p).add n p
    let m := { m1 with bad := m1.bad || (p.opcode == 0x42 && folded.isNone) }
    let s1 := setNode (putInMsg m true (n.put (folded.getD c1))) s0
    let s2 := if p.opcode = 0x43 then (List.range (m.parts.length + 1)).foldl (fun s _ => fwdOne i e t k m s) s1 else s1
    if !m.whole then nodeProgress i e false s2
    else if !msgOk it n scaled m then chunkFail i e m s2
    else nodeProgress i e true (atChunk i e t k (fun _ n c s => setNode ((putInMsg m false n).put (msgDone m n c)) s) s2)) s

/-- Whether a RESULT_DOWN of gather traffic finds its chunk open, or opens it with its units (R580, R1141). Log 76 (DESIGN CHOICE). -/
def gatherOpen (i e t k : Nat) (s : State) : Bool × State :=
  match node? s i e with
  | some n =>
    let c := n.chunkOf t k
    if !n.gather || c.opened then (true, s)
    else
      let s1 := setChunk n { c with granted := true } s
      let s2 := atChunk i e t k openStep s1
      ((match node? s2 i e with | some n2 => ((chunk? n2 t k).map (fun c => c.opened)).getD false | none => false), s2)
  | none => (false, s)

/-- A bulk packet arrives (R426, R556, R565, R581, R597): `down` is its direction. -/
def bulkRx (op : Nat) (down : Bool) (p : Pkt) (s : State) : State :=
  let i := p.coll.itin
  let t := p.coll.tree
  match itin? s i with
  | none => discard s
  | some it =>
    let tr := it.tree t
    let num := bulkNum i t down
    let peerOk := if op = 0x44 then (if down then p.srcNode == tr.parent else tr.children.contains p.srcNode)
      else if down then p.srcNode == tr.parent && p.srcNode != 0xFFFF else tr.children.contains p.srcNode
    if !streamPktOk p || p.opcode ≠ op || p.reply || it.trees.length ≤ t || !peerOk || p.dstQpn ≠ num || p.srcQpn ≠ num then discard s
    else
      match openNode i p.epoch p.coll.count p.coll.ctrl false s with
      | none => discard s
      | some s1 =>
        let key := streamKey p.srcNode p.epoch num
        let s2 := openStream it p.srcNode p.epoch num s1
        match streamSeal key it (op != 0x44) p s2 with
        | (none, s3) => { s3 with coll := s.coll, qps := s.qps }
        | (some marked, s3) =>
          if op = 0x44 then nodeAborted i p.epoch p.coll.cause (some (t, p.srcNode)) (bump 0x240108 s3)
          else if (qp s3 key).st ≠ .ready then discard s3
          else
            streamTake key p (fun s =>
              let g := if op = 0x43 then gatherOpen i p.epoch t p.coll.chunk s else (true, s)
              if g.1 then (true, bulkTake i p.epoch marked p g.2) else g) s3

/-- EXP_UP_RECEIVE (R569). -/
def execExpUpReceive (p : Pkt) (s : State) : Answer := act collectives (collRow (bulkRx 0x40 false p)) s

/-- EXP_DOWN_RECEIVE (R570, R571). -/
def execExpDownReceive (p : Pkt) (s : State) : Answer := act collectives (collRow (bulkRx 0x41 true p)) s

/-- SUM_UP_RECEIVE (R572). -/
def execSumUpReceive (p : Pkt) (s : State) : Answer := act collectives (collRow (bulkRx 0x42 false p)) s

/-- RESULT_DOWN_RECEIVE (R573, R575). -/
def execResultDownReceive (p : Pkt) (s : State) : Answer := act collectives (collRow (bulkRx 0x43 true p)) s

/-- ABORT_RECEIVE (R595, R597): its direction is that of its stream. -/
def execAbortReceive (p : Pkt) (s : State) : Answer := act collectives (collRow (bulkRx 0x44 (decide (2 ^ 22 ≤ p.dstQpn % 2 ^ 23)) p)) s

/-! ## Round packets -/

/-- The values of a round packet's payload. -/
def roundVals (p : Pkt) : List (Nat × Int) :=
  let op := sigByte p.coll.sigMin 24
  let dt := sigByte p.coll.sigMin 25
  (cut (wireSize op dt) p.coll.elems p.payload).take p.coll.elems |>.map (wireOf op dt)

/-- A ROUND_UP merges (R700, R702): none when no slot or unit is free. -/
def roundUp (k : Nat × Nat × Nat) (ctrl : Nat) (p : Pkt) (s : State) : Option State :=
  (takeRound k p.coll.kind ctrl p.coll.sigMin s).map (fun s1 => roundIn k p.coll.kind ctrl p.srcNode {
    members := p.coll.members, sigMin := p.coll.sigMin, sigMax := p.coll.sigMax, localFail := p.coll.localFail, released := p.coll.released
    cause := p.coll.cause, first := p.coll.firstElem, vals := roundVals p } s1)

/-- A ROUND_DOWN: its result gathers; whole, it goes on to the children and to the members (R701, R709, R712). -/
def roundDown (k : Nat × Nat × Nat) (p : Pkt) (s : State) : State :=
  match round? s k p.coll.kind with
  | none => s
  | some r =>
    let vals := ((cut 8 p.coll.elems p.payload).take p.coll.elems).map ofLe
    let d := vals.zipIdx.foldl (fun m x => mset m (p.coll.firstElem + x.2) x.1) r.down
    let r1 := { r with down := d }
    if d.length < roundCount p.coll.kind p.coll.sigMax then setRound r1 s
    else
      let codes := d.map (fun x => x.2)
      let s1 := match ctrlTree s r.ctrl with
        | some (it, t) => t.children.foldl (fun s c =>
            sendRound it r.ctrl r.gen c 0x49 true { p.coll with firstElem := 0, elems := 0 } (roundRuns 8 (codes.map (leBytes 8))) s) s
        | none => s
      let s2 := if lastKind r.kind then closeSeq k s1 else closeRound k r.kind s1
      (membersOf s2 k).foldl (fun s m => roundOk ((member? s m.id).getD m) r.kind codes 0 false s) s2

/-- What a round packet that is taken does. Log 79 (DEDUCED). -/
def roundTake (k : Nat × Nat × Nat) (ctrl : Nat) (p : Pkt) (s : State) : Option State :=
  match p.opcode with
  | 0x48 => roundUp k ctrl p s
  | 0x49 => some (roundDown k p s)
  | 0x4A => some (alert k ctrl p.coll.cause p.coll.released s)
  | 0x4B => some (callHere k ctrl p.coll.cause s)
  | _ => some (outAbort k ctrl p.coll.kind p.coll.cause p.coll.tainted p.coll.notAll s)

/-- A round packet arrives (R696, R697, R700 to R703): `down` is its direction. Log 79 (DEDUCED), 86 (DEDUCED). -/
def roundRx (op : Nat) (down : Bool) (p : Pkt) (s : State) : State :=
  let ctrl := p.dstQpn % 2 ^ 16
  let num := roundNum ctrl down
  let k := (p.coll.party, p.epoch, p.coll.seq)
  match ctrlTree s ctrl with
  | none => discard s
  | some (it, t) =>
    let peerOk := if down then p.srcNode == t.parent && p.srcNode != 0xFFFF else t.children.contains p.srcNode
    if !streamPktOk p || p.opcode ≠ op || p.reply || !peerOk || p.dstQpn ≠ num || p.srcQpn ≠ num || p.coll.kind = 0 || 5 < p.coll.kind ||
        it.tag ≠ p.coll.party then discard s
    else
      let key := streamKey p.srcNode p.epoch num
      let s1 := openStream it p.srcNode p.epoch num s
      match streamSeal key it false p s1 with
      | (none, s2) => { s2 with qps := s.qps }
      | (some _, s2) =>
        if (qp s2 key).st ≠ .ready then discard s2
        else
          streamTake key p (fun s =>
            if s.coll.decided.contains k || s.coll.parties.any (fun x => x.2.tag == it.tag && x.2.gen != p.epoch) then (false, bump 0x250278 s)
            else
              match roundTake k ctrl p s with
              | some r => (true, r)
              | none => (false, sendNak key 1 p.psn (bump 0x250268 s))) s2

/-- ROUND_UP_RECEIVE (R700). -/
def execRoundUpReceive (p : Pkt) (s : State) : Answer := act collectives (collRow (roundRx 0x48 false p)) s

/-- ROUND_DOWN_RECEIVE (R701). -/
def execRoundDownReceive (p : Pkt) (s : State) : Answer := act collectives (collRow (roundRx 0x49 true p)) s

/-- ABORT_UP_RECEIVE (R713, R714). -/
def execAbortUpReceive (p : Pkt) (s : State) : Answer := act collectives (collRow (roundRx 0x4A false p)) s

/-- ABORT_CALL_RECEIVE (R714). -/
def execAbortCallReceive (p : Pkt) (s : State) : Answer := act collectives (collRow (roundRx 0x4B true p)) s

/-- ABORT_DOWN_RECEIVE (R701, R714, R715). -/
def execAbortDownReceive (p : Pkt) (s : State) : Answer := act collectives (collRow (roundRx 0x4C true p)) s

/-! ## Timers -/

/-- COLL_TIMEOUT: a member has made no progress for its TIMEOUT (R592, R594, R694); a member already stopped ends with its own cause. Log 85 (DEDUCED). -/
def collTimeout (id : Nat) (s : State) : State :=
  match member? s id with
  | none => s
  | some m =>
    if !reached m.due (elapsed s) then s
    else if (m.phase = 0 && !itinHeld s m) || m.phase = 1 || m.phase = 3 || (m.phase = 4 && !m.isBulk) then memberAbort id 6 s
    else if m.phase = 5 && (m.isBulk || m.joined) then memberAborted m m.cause (decide (m.released ≠ 0)) s
    else s

/-- COLL_TIMEOUT (R594). -/
def execCollTimeout (member : Nat) (s : State) : Answer := act collectives (collRow (collTimeout member)) s

/-- ROUND_LOST: no outcome has come within TIMEOUT of a member's last contribution (R717). Log 85 (DEDUCED). -/
def roundLost (id : Nat) (s : State) : State :=
  match member? s id with
  | none => s
  | some m =>
    if !reached m.due (elapsed s) then s
    else if (m.isBulk && m.phase = 4) || (!m.isBulk && (m.phase = 4 || m.phase = 5) && m.alerted && !m.joined) then
      memberDone m { status := 0x32, detail := m.flags % 8, bytes := m.done, flags := m.fl + 4 * b2n (m.released != 0) }
        (bump 0x250270 (ledgerRoom m.room { kind := 0x81, severity := 2, object := m.party.tag, d0 := m.seq } s))
    else s

/-- ROUND_LOST (R717). -/
def execRoundLost (member : Nat) (s : State) : Answer := act collectives (collRow (roundLost member)) s

/-- NODE_TIMEOUT: a node frees a collective that makes no progress, and sends nothing (R597). -/
def nodeTimeout (i e : Nat) (s : State) : State :=
  match node? s i e with
  | some n => if n.fin || !reached n.due (elapsed s) then s else bump 0x250130 (freeNode i e s)
  | none => s

/-- NODE_TIMEOUT (R597). -/
def execNodeTimeout (itin epoch : Nat) (s : State) : Answer := act collectives (collRow (nodeTimeout itin epoch)) s

/-- ABORT_JOIN_TIMEOUT: the abort round still lacks members (R715). Log 85 (DEDUCED). -/
def joinTimeout (k : Nat × Nat × Nat) (s : State) : State :=
  match round? s k 5 with
  | none => s
  | some r =>
    match ctrlTree s r.ctrl with
    | some (_, t) => if t.isRoot && s.coll.called.contains k && reached r.due (elapsed s) then outAbort k r.ctrl 5 r.cause true true (bump 0x250258 s) else s
    | none => s

/-- ABORT_JOIN_TIMEOUT (R715). -/
def execAbortJoinTimeout (tag gen seq : Nat) (s : State) : Answer := act collectives (collRow (joinTimeout (tag, gen, seq))) s

/-! ## Harbour units -/

/-- HARBOUR_UNITS_GRANTED: freed units go to the oldest waiter, whose command or chunk goes on (R35, R200, R1141). Log 76 (DESIGN CHOICE). -/
def unitsGranted (d pool : Nat) (s : State) : State :=
  match nextGrant s d pool with
  | none => s
  | some w =>
    let s1 := dropWaiter d pool w s
    match w.chunk with
    | some (i, e, t, k) => atNode i e (fun it n s => if it.window ≤ openChunks n t then s else openChunk i e t k d pool w.units s) s1
    | none =>
      match findList s1 w.fn w.queue w.list with
      | some r =>
        let t := takeUnits d w.units s1
        setList { r with hunits := t.1 } t.2
      | none => s1

/-- HARBOUR_UNITS_GRANTED (R1141). -/
def execHarbourUnitsGranted (die pool : Nat) (s : State) : Answer := act collectives (collRow (unitsGranted die pool)) s

end Sys2Proof.Machine
end

