-- ==== Sys2Proof/Machine/DictTable.lean ====
section
/-! DEFINITION. The object dictionary as a table (R996 to R998, R1012): one row for each line of the spec's object tables, in ascending order. -/

namespace Sys2Proof.Machine

open Sys2Proof

/-- A line of an object table: the indexes lo to hi and subindexes subLo to subHi it gives, its name, type code (R997), size in bytes, access (0 RO,
1 RW, 2 WO, 3 RWS, 4 CONST), default (in the entry's encoding), range, unit, boundary code, and whether it is SECRET (R1002). -/
structure DRow where
  lo : Nat
  hi : Nat
  subLo : Nat
  subHi : Nat
  name : String
  type : Nat
  size : Nat
  access : Nat
  dflt : Nat
  min : Int
  max : Int
  unit : String
  boundary : Nat
  hidden : Bool
  deriving DecidableEq, Repr

/-- Rows of the dictionary, part 0. -/
def dictRows0 : List DRow := [
  { lo := 0x1000, hi := 0x1000, subLo := 0, subHi := 0, name := "VENDOR_NAME", type := 13, size := 16, access := 4, dflt := 418313432900, min := 0, max := 0, unit := "", boundary := 0, hidden := false },
  { lo := 0x1001, hi := 0x1001, subLo := 0, subHi := 0, name := "PRODUCT_NAME", type := 13, size := 16, access := 4, dflt := 110425478097747, min := 0, max := 0, unit := "", boundary := 0, hidden := false },
  { lo := 0x1002, hi := 0x1002, subLo := 0, subHi := 0, name := "PART_NUMBER", type := 13, size := 16, access := 4, dflt := 888916610233049893955, min := 0, max := 0, unit := "", boundary := 0, hidden := false },
  { lo := 0x1003, hi := 0x1003, subLo := 0, subHi := 0, name := "STEPPING", type := 2, size := 1, access := 4, dflt := 176, min := 0, max := 255, unit := "", boundary := 0, hidden := false },
  { lo := 0x1004, hi := 0x1004, subLo := 0, subHi := 0, name := "SERIAL_NUMBER", type := 13, size := 16, access := 4, dflt := 0, min := 0, max := 0, unit := "", boundary := 0, hidden := false },
  { lo := 0x1005, hi := 0x1005, subLo := 0, subHi := 0, name := "DEVICE_ID", type := 5, size := 8, access := 4, dflt := 0, min := 0, max := 18446744073709551615, unit := "", boundary := 0, hidden := false },
  { lo := 0x1006, hi := 0x1006, subLo := 0, subHi := 0, name := "MODULE_UUID", type := 12, size := 16, access := 4, dflt := 0, min := 0, max := 0, unit := "", boundary := 0, hidden := false },
  { lo := 0x1007, hi := 0x1007, subLo := 0, subHi := 0, name := "MAC_BASE", type := 12, size := 6, access := 4, dflt := 0, min := 0, max := 0, unit := "", boundary := 0, hidden := false },
  { lo := 0x1008, hi := 0x1008, subLo := 1, subHi := 1, name := "FIRMWARE_VERSION", type := 4, size := 4, access := 0, dflt := 0, min := 0, max := 4294967295, unit := "", boundary := 0, hidden := false },
  { lo := 0x1008, hi := 0x1008, subLo := 2, subHi := 2, name := "FIRMWARE_BUILD", type := 4, size := 4, access := 0, dflt := 0, min := 0, max := 4294967295, unit := "", boundary := 0, hidden := false },
  { lo := 0x1009, hi := 0x1009, subLo := 0, subHi := 0, name := "DICT_VERSION", type := 3, size := 2, access := 4, dflt := 256, min := 0, max := 65535, unit := "", boundary := 0, hidden := false },
  { lo := 0x100A, hi := 0x100A, subLo := 0, subHi := 0, name := "UPTIME", type := 5, size := 8, access := 0, dflt := 0, min := 0, max := 18446744073709551615, unit := "", boundary := 0, hidden := false },
  { lo := 0x1010, hi := 0x1010, subLo := 0, subHi := 0, name := "RESTORE_DEFAULTS", type := 4, size := 4, access := 2, dflt := 0, min := 0, max := 4294967295, unit := "", boundary := 11, hidden := false },
  { lo := 0x1020, hi := 0x1020, subLo := 1, subHi := 1, name := "MGMT_IP_MODE", type := 2, size := 1, access := 3, dflt := 0, min := 0, max := 1, unit := "", boundary := 15, hidden := false },
  { lo := 0x1020, hi := 0x1020, subLo := 2, subHi := 2, name := "MGMT_IPV4", type := 12, size := 4, access := 3, dflt := 0, min := 0, max := 0, unit := "", boundary := 15, hidden := false },
  { lo := 0x1020, hi := 0x1020, subLo := 3, subHi := 3, name := "MGMT_IPV4_PREFIX", type := 2, size := 1, access := 3, dflt := 24, min := 1, max := 30, unit := "", boundary := 15, hidden := false },
  { lo := 0x1020, hi := 0x1020, subLo := 4, subHi := 4, name := "MGMT_IPV4_GATEWAY", type := 12, size := 4, access := 3, dflt := 0, min := 0, max := 0, unit := "", boundary := 15, hidden := false },
  { lo := 0x1020, hi := 0x1020, subLo := 5, subHi := 5, name := "MGMT_IPV6", type := 12, size := 16, access := 3, dflt := 0, min := 0, max := 0, unit := "", boundary := 15, hidden := false },
  { lo := 0x1020, hi := 0x1020, subLo := 6, subHi := 6, name := "MGMT_IPV6_PREFIX", type := 2, size := 1, access := 3, dflt := 64, min := 1, max := 127, unit := "", boundary := 15, hidden := false },
  { lo := 0x1020, hi := 0x1020, subLo := 7, subHi := 7, name := "MGMT_VLAN", type := 3, size := 2, access := 3, dflt := 0, min := 0, max := 4094, unit := "", boundary := 15, hidden := false },
  { lo := 0x1030, hi := 0x1030, subLo := 1, subHi := 1, name := "RELIVICEL_UDP_PORT", type := 3, size := 2, access := 3, dflt := 53110, min := 0, max := 65535, unit := "", boundary := 15, hidden := false },
  { lo := 0x1030, hi := 0x1030, subLo := 2, subHi := 2, name := "I2C_ADDRESS", type := 2, size := 1, access := 3, dflt := 76, min := 8, max := 119, unit := "7-bit address", boundary := 11, hidden := false },
  { lo := 0x1031, hi := 0x1031, subLo := 1, subHi := 4, name := "FRESH_HIGHEST", type := 4, size := 4, access := 0, dflt := 0, min := 0, max := 4294967295, unit := "", boundary := 0, hidden := false },
  { lo := 0x2000, hi := 0x2000, subLo := 1, subHi := 8, name := "PORT_MODE", type := 2, size := 1, access := 3, dflt := 0, min := 0, max := 1, unit := "", boundary := 10, hidden := false }]

/-- Rows of the dictionary, part 1. -/
def dictRows1 : List DRow := [
  { lo := 0x2001, hi := 0x2001, subLo := 1, subHi := 8, name := "VF_BUDGET", type := 2, size := 1, access := 3, dflt := 31, min := 0, max := 64, unit := "Functions", boundary := 10, hidden := false },
  { lo := 0x2002, hi := 0x2002, subLo := 1, subHi := 8, name := "MAX_RATE", type := 2, size := 1, access := 3, dflt := 7, min := 1, max := 7, unit := "RATE code", boundary := 9, hidden := false },
  { lo := 0x2003, hi := 0x2003, subLo := 1, subHi := 8, name := "LINK_STATUS", type := 5, size := 8, access := 0, dflt := 0, min := 0, max := 18446744073709551615, unit := "", boundary := 0, hidden := false },
  { lo := 0x2004, hi := 0x2004, subLo := 1, subHi := 8, name := "RETRAINS_HELD", type := 4, size := 4, access := 0, dflt := 0, min := 0, max := 4294967295, unit := "Count", boundary := 0, hidden := false },
  { lo := 0x2005, hi := 0x2005, subLo := 1, subHi := 8, name := "LINKS_LOST", type := 4, size := 4, access := 0, dflt := 0, min := 0, max := 4294967295, unit := "Count", boundary := 0, hidden := false },
  { lo := 0x2006, hi := 0x2006, subLo := 1, subHi := 8, name := "HOST_READ_PATH", type := 2, size := 1, access := 3, dflt := 0, min := 0, max := 1, unit := "", boundary := 10, hidden := false },
  { lo := 0x2100, hi := 0x2100, subLo := 1, subHi := 4, name := "DS_STATE", type := 2, size := 1, access := 0, dflt := 0, min := 0, max := 255, unit := "", boundary := 0, hidden := false },
  { lo := 0x2101, hi := 0x2101, subLo := 1, subHi := 4, name := "DS_CAPACITY", type := 5, size := 8, access := 0, dflt := 0, min := 0, max := 18446744073709551615, unit := "", boundary := 0, hidden := false },
  { lo := 0x2102, hi := 0x2102, subLo := 1, subHi := 4, name := "DS_ENABLE", type := 1, size := 1, access := 3, dflt := 1, min := 0, max := 1, unit := "", boundary := 1, hidden := false },
  { lo := 0x2800, hi := 0x2800, subLo := 1, subHi := 32, name := "PORT_MODE", type := 2, size := 1, access := 3, dflt := 0, min := 0, max := 2, unit := "Mode code", boundary := 15, hidden := false },
  { lo := 0x2801, hi := 0x2801, subLo := 1, subHi := 32, name := "PORT_ENABLE", type := 1, size := 1, access := 3, dflt := 1, min := 0, max := 1, unit := "", boundary := 13, hidden := false },
  { lo := 0x2802, hi := 0x2802, subLo := 1, subHi := 32, name := "MAC_ADDR", type := 12, size := 6, access := 0, dflt := 0, min := 0, max := 0, unit := "", boundary := 0, hidden := false },
  { lo := 0x2803, hi := 0x2803, subLo := 1, subHi := 32, name := "VLAN_ID", type := 3, size := 2, access := 3, dflt := 0, min := 0, max := 4094, unit := "", boundary := 3, hidden := false },
  { lo := 0x2804, hi := 0x2804, subLo := 1, subHi := 32, name := "GATEWAY_MAC", type := 12, size := 6, access := 3, dflt := 0, min := 0, max := 0, unit := "", boundary := 3, hidden := false },
  { lo := 0x2805, hi := 0x2805, subLo := 1, subHi := 32, name := "WAYBILL_SRC_IP", type := 2, size := 1, access := 3, dflt := 0, min := 0, max := 7, unit := "", boundary := 3, hidden := false },
  { lo := 0x2806, hi := 0x2806, subLo := 1, subHi := 32, name := "HOP_LIMIT", type := 2, size := 1, access := 3, dflt := 64, min := 0, max := 255, unit := "Hop", boundary := 3, hidden := false },
  { lo := 0x2807, hi := 0x2807, subLo := 1, subHi := 32, name := "PAUSE_MODE", type := 2, size := 1, access := 3, dflt := 2, min := 0, max := 255, unit := "", boundary := 3, hidden := false },
  { lo := 0x2808, hi := 0x2808, subLo := 1, subHi := 32, name := "PFC_PRIORITIES", type := 2, size := 1, access := 3, dflt := 15, min := 0, max := 255, unit := "", boundary := 3, hidden := false },
  { lo := 0x2809, hi := 0x2809, subLo := 1, subHi := 32, name := "PFC_HIGH", type := 3, size := 2, access := 3, dflt := 96, min := 0, max := 65535, unit := "KiB", boundary := 3, hidden := false },
  { lo := 0x280A, hi := 0x280A, subLo := 1, subHi := 32, name := "PFC_LOW", type := 3, size := 2, access := 3, dflt := 48, min := 0, max := 65535, unit := "KiB", boundary := 3, hidden := false },
  { lo := 0x2810, hi := 0x282F, subLo := 1, subHi := 8, name := "LOCAL_ADDR", type := 12, size := 17, access := 3, dflt := 0, min := 0, max := 0, unit := "", boundary := 3, hidden := false },
  { lo := 0x2830, hi := 0x2830, subLo := 0, subHi := 0, name := "UDP_PORT", type := 3, size := 2, access := 3, dflt := 53100, min := 0, max := 65535, unit := "", boundary := 3, hidden := false },
  { lo := 0x2831, hi := 0x2831, subLo := 0, subHi := 0, name := "DSCP_MAP", type := 12, size := 8, access := 3, dflt := 4048780183313844224, min := 0, max := 0, unit := "", boundary := 3, hidden := false },
  { lo := 0x2832, hi := 0x2832, subLo := 0, subHi := 0, name := "PCP_MAP", type := 12, size := 8, access := 3, dflt := 506097522914230528, min := 0, max := 0, unit := "", boundary := 3, hidden := false }]

/-- Rows of the dictionary, part 2. -/
def dictRows2 : List DRow := [
  { lo := 0x2840, hi := 0x2847, subLo := 1, subHi := 32, name := "MAX_FRAME", type := 3, size := 2, access := 3, dflt := 4352, min := 64, max := 9216, unit := "B", boundary := 3, hidden := false },
  { lo := 0x2850, hi := 0x2850, subLo := 0, subHi := 0, name := "FEC_SD_THRESHOLD", type := 4, size := 4, access := 3, dflt := 240000, min := 0, max := 4294967295, unit := "", boundary := 14, hidden := false },
  { lo := 0x2860, hi := 0x2860, subLo := 1, subHi := 1, name := "ETH_PEER_WRITE", type := 12, size := 1028, access := 2, dflt := 0, min := 0, max := 0, unit := "", boundary := 1, hidden := false },
  { lo := 0x2860, hi := 0x2860, subLo := 2, subHi := 2, name := "ETH_PEER_RESULT", type := 2, size := 1, access := 0, dflt := 0, min := 0, max := 255, unit := "", boundary := 0, hidden := false },
  { lo := 0x2870, hi := 0x2870, subLo := 1, subHi := 32, name := "PEER_DEVICE_ID", type := 5, size := 8, access := 0, dflt := 0, min := 0, max := 18446744073709551615, unit := "", boundary := 0, hidden := false },
  { lo := 0x2871, hi := 0x2871, subLo := 1, subHi := 32, name := "PEER_NODE", type := 4, size := 4, access := 0, dflt := 65535, min := 0, max := 4294967295, unit := "", boundary := 0, hidden := false },
  { lo := 0x2A00, hi := 0x2A00, subLo := 1, subHi := 1, name := "UT_TARGET", type := 4, size := 4, access := 3, dflt := 1000, min := 100, max := 50000, unit := "ns", boundary := 15, hidden := false },
  { lo := 0x2A00, hi := 0x2A00, subLo := 2, subHi := 2, name := "UT_AI", type := 4, size := 4, access := 3, dflt := 1000, min := 1, max := 100000, unit := "Mb/s", boundary := 15, hidden := false },
  { lo := 0x2A00, hi := 0x2A00, subLo := 3, subHi := 3, name := "UT_BETA", type := 2, size := 1, access := 3, dflt := 128, min := 1, max := 255, unit := "1/256", boundary := 15, hidden := false },
  { lo := 0x2A00, hi := 0x2A00, subLo := 4, subHi := 4, name := "UT_MD_MAX", type := 2, size := 1, access := 3, dflt := 128, min := 1, max := 255, unit := "1/256", boundary := 15, hidden := false },
  { lo := 0x2A00, hi := 0x2A00, subLo := 5, subHi := 5, name := "UT_MIN_RATE", type := 4, size := 4, access := 3, dflt := 100, min := 1, max := 1600000, unit := "Mb/s", boundary := 15, hidden := false },
  { lo := 0x2A00, hi := 0x2A00, subLo := 6, subHi := 6, name := "UT_START_RATE", type := 4, size := 4, access := 3, dflt := 1600000, min := 1, max := 1600000, unit := "Mb/s", boundary := 15, hidden := false },
  { lo := 0x2A00, hi := 0x2A00, subLo := 7, subHi := 7, name := "UT_BASE_WINDOW", type := 4, size := 4, access := 3, dflt := 10000, min := 100, max := 1000000, unit := "µs", boundary := 14, hidden := false },
  { lo := 0x2A01, hi := 0x2A01, subLo := 1, subHi := 1, name := "ECN_ENABLE", type := 1, size := 1, access := 3, dflt := 1, min := 0, max := 1, unit := "", boundary := 2, hidden := false },
  { lo := 0x2A01, hi := 0x2A01, subLo := 2, subHi := 2, name := "ECN_THRESHOLD", type := 4, size := 4, access := 3, dflt := 256, min := 4, max := 2048, unit := "KiB", boundary := 3, hidden := false },
  { lo := 0x2A01, hi := 0x2A01, subLo := 3, subHi := 3, name := "ECN_CUT", type := 2, size := 1, access := 3, dflt := 64, min := 1, max := 255, unit := "1/256", boundary := 15, hidden := false },
  { lo := 0x2A01, hi := 0x2A01, subLo := 4, subHi := 4, name := "CNP_INTERVAL", type := 3, size := 2, access := 3, dflt := 50, min := 1, max := 1000, unit := "µs", boundary := 15, hidden := false },
  { lo := 0x2A01, hi := 0x2A01, subLo := 5, subHi := 5, name := "RP_CUT", type := 2, size := 1, access := 3, dflt := 64, min := 1, max := 255, unit := "1/256", boundary := 15, hidden := false },
  { lo := 0x2A01, hi := 0x2A01, subLo := 6, subHi := 6, name := "RP_RECOVERY", type := 3, size := 2, access := 3, dflt := 55, min := 1, max := 10000, unit := "µs", boundary := 14, hidden := false },
  { lo := 0x2A01, hi := 0x2A01, subLo := 7, subHi := 7, name := "RP_AI", type := 4, size := 4, access := 3, dflt := 5000, min := 1, max := 100000, unit := "Mb/s", boundary := 14, hidden := false },
  { lo := 0x3000, hi := 0x3000, subLo := 1, subHi := 1, name := "TIER0_INTERLEAVE", type := 2, size := 1, access := 3, dflt := 1, min := 0, max := 1, unit := "", boundary := 11, hidden := false },
  { lo := 0x3000, hi := 0x3000, subLo := 2, subHi := 2, name := "TIER1_INTERLEAVE", type := 2, size := 1, access := 3, dflt := 1, min := 0, max := 1, unit := "", boundary := 11, hidden := false },
  { lo := 0x3001, hi := 0x3001, subLo := 1, subHi := 2, name := "HARBOUR_TRANSIT", type := 3, size := 2, access := 3, dflt := 256, min := 0, max := 1856, unit := "64 KiB unit", boundary := 1, hidden := false },
  { lo := 0x3002, hi := 0x3002, subLo := 1, subHi := 3, name := "TIER_CAPACITY", type := 5, size := 8, access := 0, dflt := 0, min := 0, max := 18446744073709551615, unit := "Byte", boundary := 0, hidden := false }]

/-- Rows of the dictionary, part 3. -/
def dictRows3 : List DRow := [
  { lo := 0x3003, hi := 0x3003, subLo := 1, subHi := 3, name := "EXTENTS_FREE", type := 3, size := 2, access := 0, dflt := 0, min := 0, max := 65535, unit := "Extent", boundary := 0, hidden := false },
  { lo := 0x3004, hi := 0x3004, subLo := 1, subHi := 2, name := "HARBOUR_UNITS_FREE", type := 3, size := 2, access := 0, dflt := 0, min := 0, max := 65535, unit := "64 KiB unit", boundary := 0, hidden := false },
  { lo := 0x3010, hi := 0x3010, subLo := 1, subHi := 1, name := "PRI_TIMEOUT", type := 4, size := 4, access := 3, dflt := 10000, min := 0, max := 4294967295, unit := "µs", boundary := 15, hidden := false },
  { lo := 0x3010, hi := 0x3010, subLo := 2, subHi := 2, name := "INVALIDATE_QUEUE_DEPTH", type := 2, size := 1, access := 4, dflt := 32, min := 0, max := 255, unit := "Request", boundary := 0, hidden := false },
  { lo := 0x3011, hi := 0x3011, subLo := 1, subHi := 1, name := "CHART_TABLES_FREE", type := 3, size := 2, access := 0, dflt := 7936, min := 0, max := 65535, unit := "Table", boundary := 0, hidden := false },
  { lo := 0x3012, hi := 0x3012, subLo := 1, subHi := 1, name := "WINDOWS_OPEN", type := 4, size := 4, access := 0, dflt := 0, min := 0, max := 4294967295, unit := "Window", boundary := 0, hidden := false },
  { lo := 0x3012, hi := 0x3012, subLo := 2, subHi := 2, name := "WINDOW_TABLE_SIZE", type := 4, size := 4, access := 4, dflt := 1048576, min := 0, max := 4294967295, unit := "Entry", boundary := 0, hidden := false },
  { lo := 0x4000, hi := 0x4000, subLo := 1, subHi := 1, name := "TIDE_STATE", type := 2, size := 1, access := 0, dflt := 0, min := 0, max := 255, unit := "", boundary := 0, hidden := false },
  { lo := 0x4000, hi := 0x4000, subLo := 2, subHi := 2, name := "TIDE_OFFSET", type := 9, size := 8, access := 0, dflt := 0, min := -9223372036854775808, max := 9223372036854775807, unit := "tick", boundary := 0, hidden := false },
  { lo := 0x4001, hi := 0x4001, subLo := 0, subHi := 0, name := "FABRIC_EPOCH", type := 5, size := 8, access := 3, dflt := 1735689600, min := 0, max := 18446744073709551615, unit := "s", boundary := 8, hidden := false },
  { lo := 0x4002, hi := 0x4002, subLo := 0, subHi := 0, name := "MASTER_PRIORITY", type := 2, size := 1, access := 3, dflt := 128, min := 0, max := 255, unit := "", boundary := 4, hidden := false },
  { lo := 0x4003, hi := 0x4003, subLo := 1, subHi := 1, name := "SOURCE_ORDER", type := 12, size := 4, access := 3, dflt := 197121, min := 0, max := 0, unit := "", boundary := 7, hidden := false },
  { lo := 0x4003, hi := 0x4003, subLo := 2, subHi := 2, name := "HOLDOVER_LIMIT", type := 4, size := 4, access := 3, dflt := 100, min := 10, max := 10000, unit := "ns", boundary := 1, hidden := false },
  { lo := 0x4004, hi := 0x4004, subLo := 1, subHi := 1, name := "PTP_DOMAIN", type := 2, size := 1, access := 3, dflt := 0, min := 0, max := 127, unit := "", boundary := 6, hidden := false },
  { lo := 0x4004, hi := 0x4004, subLo := 2, subHi := 2, name := "PTP_MODE", type := 2, size := 1, access := 3, dflt := 0, min := 0, max := 2, unit := "", boundary := 6, hidden := false },
  { lo := 0x4004, hi := 0x4004, subLo := 3, subHi := 3, name := "PTP_TRANSPORT", type := 2, size := 1, access := 3, dflt := 1, min := 0, max := 2, unit := "", boundary := 6, hidden := false },
  { lo := 0x4005, hi := 0x4005, subLo := 1, subHi := 1, name := "PPS_IN_DELAY", type := 8, size := 4, access := 3, dflt := 0, min := -2147483648, max := 2147483647, unit := "tick", boundary := 5, hidden := false },
  { lo := 0x4005, hi := 0x4005, subLo := 2, subHi := 2, name := "PPS_OUT_DELAY", type := 8, size := 4, access := 3, dflt := 0, min := -2147483648, max := 2147483647, unit := "tick", boundary := 5, hidden := false },
  { lo := 0x4005, hi := 0x4005, subLo := 3, subHi := 3, name := "PPS_OUT_WIDTH", type := 4, size := 4, access := 3, dflt := 1000000, min := 0, max := 4294967295, unit := "ns", boundary := 5, hidden := false },
  { lo := 0x4005, hi := 0x4005, subLo := 4, subHi := 4, name := "NEXT_PPS_SECOND", type := 5, size := 8, access := 2, dflt := 0, min := 0, max := 18446744073709551615, unit := "s", boundary := 5, hidden := false },
  { lo := 0x4006, hi := 0x4006, subLo := 1, subHi := 32, name := "PORT_ASYMMETRY", type := 8, size := 4, access := 3, dflt := 0, min := -2147483648, max := 2147483647, unit := "tick", boundary := 4, hidden := false },
  { lo := 0x5000, hi := 0x5000, subLo := 1, subHi := 1, name := "ROOMS_IN_USE", type := 3, size := 2, access := 0, dflt := 8, min := 0, max := 65535, unit := "Room", boundary := 0, hidden := false },
  { lo := 0x5000, hi := 0x5000, subLo := 2, subHi := 2, name := "INNKEEPER_ROOM", type := 2, size := 1, access := 0, dflt := 0, min := 0, max := 255, unit := "Room", boundary := 0, hidden := false },
  { lo := 0x5001, hi := 0x5001, subLo := 1, subHi := 1, name := "QUEUE_QUOTA_DEFAULT", type := 3, size := 2, access := 3, dflt := 256, min := 0, max := 3840, unit := "Queue", boundary := 12, hidden := false }]

/-- Rows of the dictionary, part 4. -/
def dictRows4 : List DRow := [
  { lo := 0x5001, hi := 0x5001, subLo := 2, subHi := 2, name := "QP_QUOTA_DEFAULT", type := 4, size := 4, access := 3, dflt := 65536, min := 0, max := 16777216, unit := "QP", boundary := 12, hidden := false },
  { lo := 0x5002, hi := 0x5002, subLo := 0, subHi := 0, name := "QUIESCE_LIMIT", type := 4, size := 4, access := 3, dflt := 10000, min := 100, max := 1000000, unit := "µs", boundary := 15, hidden := false },
  { lo := 0x5100, hi := 0x51FF, subLo := 1, subHi := 1, name := "ROOM_STATE", type := 5, size := 8, access := 0, dflt := 0, min := 0, max := 18446744073709551615, unit := "", boundary := 0, hidden := false },
  { lo := 0x5100, hi := 0x51FF, subLo := 2, subHi := 2, name := "ROOM_QUOTAS", type := 12, size := 56, access := 0, dflt := 0, min := 0, max := 0, unit := "", boundary := 0, hidden := false },
  { lo := 0x6000, hi := 0x6000, subLo := 1, subHi := 151, name := "DOMAIN_REQUEST", type := 2, size := 1, access := 3, dflt := 2, min := 0, max := 2, unit := "", boundary := 1, hidden := false },
  { lo := 0x6001, hi := 0x6001, subLo := 1, subHi := 151, name := "DOMAIN_STATE", type := 2, size := 1, access := 0, dflt := 0, min := 0, max := 255, unit := "", boundary := 0, hidden := false },
  { lo := 0x6002, hi := 0x6002, subLo := 0, subHi := 0, name := "POWER_LIMIT", type := 3, size := 2, access := 3, dflt := 2000, min := 500, max := 2000, unit := "W", boundary := 1, hidden := false },
  { lo := 0x6003, hi := 0x6003, subLo := 0, subHi := 0, name := "MODULE_RESET", type := 4, size := 4, access := 2, dflt := 0, min := 0, max := 4294967295, unit := "", boundary := 1, hidden := false },
  { lo := 0x6004, hi := 0x6004, subLo := 0, subHi := 0, name := "TIDE_RESET", type := 4, size := 4, access := 2, dflt := 0, min := 0, max := 4294967295, unit := "", boundary := 1, hidden := false },
  { lo := 0x6005, hi := 0x6005, subLo := 1, subHi := 1, name := "CORE_SPREAD", type := 1, size := 1, access := 3, dflt := 1, min := 0, max := 1, unit := "", boundary := 11, hidden := false },
  { lo := 0x6005, hi := 0x6005, subLo := 2, subHi := 2, name := "CXL_REFCLK_SSC", type := 1, size := 1, access := 3, dflt := 0, min := 0, max := 1, unit := "", boundary := 9, hidden := false },
  { lo := 0x6006, hi := 0x6006, subLo := 0, subHi := 0, name := "LAST_RESET", type := 2, size := 1, access := 0, dflt := 0, min := 0, max := 255, unit := "", boundary := 0, hidden := false },
  { lo := 0x6007, hi := 0x6007, subLo := 0, subHi := 0, name := "STARTUP_TIME", type := 4, size := 4, access := 0, dflt := 0, min := 0, max := 4294967295, unit := "", boundary := 0, hidden := false },
  { lo := 0x6008, hi := 0x6008, subLo := 0, subHi := 0, name := "LIMITER_DUTY", type := 2, size := 1, access := 0, dflt := 16, min := 0, max := 255, unit := "Sixteenths", boundary := 0, hidden := false },
  { lo := 0x6010, hi := 0x6010, subLo := 1, subHi := 8, name := "INPUT_FILTER", type := 2, size := 1, access := 3, dflt := 3, min := 0, max := 4, unit := "", boundary := 15, hidden := false },
  { lo := 0x6010, hi := 0x6010, subLo := 9, subHi := 9, name := "INPUT_FILTER", type := 2, size := 1, access := 3, dflt := 4, min := 0, max := 4, unit := "", boundary := 15, hidden := false },
  { lo := 0x6010, hi := 0x6010, subLo := 10, subHi := 10, name := "INPUT_FILTER", type := 2, size := 1, access := 3, dflt := 3, min := 0, max := 4, unit := "", boundary := 15, hidden := false },
  { lo := 0x6010, hi := 0x6010, subLo := 11, subHi := 11, name := "INPUT_FILTER", type := 2, size := 1, access := 3, dflt := 2, min := 0, max := 4, unit := "", boundary := 15, hidden := false },
  { lo := 0x6011, hi := 0x6011, subLo := 1, subHi := 1, name := "OUTPUT_SLEW", type := 2, size := 1, access := 3, dflt := 0, min := 0, max := 2, unit := "", boundary := 15, hidden := false },
  { lo := 0x6011, hi := 0x6011, subLo := 2, subHi := 4, name := "OUTPUT_SLEW", type := 2, size := 1, access := 3, dflt := 2, min := 0, max := 2, unit := "", boundary := 15, hidden := false },
  { lo := 0x7000, hi := 0x7000, subLo := 1, subHi := 2, name := "DIE_TEMP", type := 7, size := 2, access := 0, dflt := 0, min := -32768, max := 32767, unit := "0.01 °C", boundary := 0, hidden := false },
  { lo := 0x7001, hi := 0x7001, subLo := 1, subHi := 4, name := "HBM_TEMP", type := 7, size := 2, access := 0, dflt := 0, min := -32768, max := 32767, unit := "0.01 °C", boundary := 0, hidden := false },
  { lo := 0x7002, hi := 0x7002, subLo := 1, subHi := 16, name := "LPDDR_TEMP", type := 7, size := 2, access := 0, dflt := 0, min := -32768, max := 32767, unit := "0.01 °C", boundary := 0, hidden := false },
  { lo := 0x7003, hi := 0x7003, subLo := 1, subHi := 1, name := "INPUT_VOLTAGE", type := 4, size := 4, access := 0, dflt := 0, min := 0, max := 4294967295, unit := "", boundary := 0, hidden := false }]

/-- Rows of the dictionary, part 5. -/
def dictRows5 : List DRow := [
  { lo := 0x7003, hi := 0x7003, subLo := 2, subHi := 2, name := "INPUT_CURRENT", type := 4, size := 4, access := 0, dflt := 0, min := 0, max := 4294967295, unit := "mA", boundary := 0, hidden := false },
  { lo := 0x7003, hi := 0x7003, subLo := 3, subHi := 3, name := "INPUT_POWER", type := 4, size := 4, access := 0, dflt := 0, min := 0, max := 4294967295, unit := "mW", boundary := 0, hidden := false },
  { lo := 0x7004, hi := 0x7004, subLo := 0, subHi := 0, name := "TELEMETRY_TIME", type := 11, size := 8, access := 0, dflt := 0, min := 0, max := 18446744073709551615, unit := "", boundary := 0, hidden := false },
  { lo := 0x7010, hi := 0x7010, subLo := 1, subHi := 1, name := "COOLANT_IN_TEMP", type := 7, size := 2, access := 0, dflt := 0, min := -32768, max := 32767, unit := "0.01 °C", boundary := 0, hidden := false },
  { lo := 0x7010, hi := 0x7010, subLo := 2, subHi := 2, name := "COOLANT_OUT_TEMP", type := 7, size := 2, access := 0, dflt := 0, min := -32768, max := 32767, unit := "0.01 °C", boundary := 0, hidden := false },
  { lo := 0x7011, hi := 0x7011, subLo := 0, subHi := 0, name := "THERMAL_STATE", type := 2, size := 1, access := 0, dflt := 0, min := 0, max := 255, unit := "", boundary := 0, hidden := false },
  { lo := 0x7012, hi := 0x7012, subLo := 0, subHi := 0, name := "SB_VREF_LEVEL", type := 3, size := 2, access := 0, dflt := 0, min := 0, max := 65535, unit := "mV", boundary := 0, hidden := false },
  { lo := 0x8000, hi := 0x8000, subLo := 1, subHi := 8, name := "LASER_ALLOW", type := 1, size := 1, access := 3, dflt := 1, min := 0, max := 1, unit := "", boundary := 13, hidden := false },
  { lo := 0x8001, hi := 0x8001, subLo := 1, subHi := 8, name := "LASER_STATE", type := 2, size := 1, access := 0, dflt := 0, min := 0, max := 255, unit := "", boundary := 0, hidden := false },
  { lo := 0x8002, hi := 0x8002, subLo := 1, subHi := 32, name := "LASER_CURRENT", type := 3, size := 2, access := 0, dflt := 0, min := 0, max := 65535, unit := "0.1 mA", boundary := 0, hidden := false },
  { lo := 0x8003, hi := 0x8003, subLo := 1, subHi := 32, name := "LASER_TAP_POWER", type := 7, size := 2, access := 0, dflt := 0, min := -32768, max := 32767, unit := "0.01 dBm", boundary := 0, hidden := false },
  { lo := 0x8004, hi := 0x8004, subLo := 1, subHi := 32, name := "LASER_TEMP", type := 7, size := 2, access := 0, dflt := 0, min := -32768, max := 32767, unit := "0.01 °C", boundary := 0, hidden := false },
  { lo := 0x8005, hi := 0x8005, subLo := 1, subHi := 32, name := "LASER_SOL_CURRENT", type := 3, size := 2, access := 0, dflt := 0, min := 0, max := 65535, unit := "0.1 mA", boundary := 0, hidden := false },
  { lo := 0x8010, hi := 0x8010, subLo := 0, subHi := 0, name := "LASER_TARGET", type := 7, size := 2, access := 3, dflt := 1700, min := 1200, max := 1900, unit := "0.01 dBm", boundary := 14, hidden := false },
  { lo := 0x8011, hi := 0x8011, subLo := 0, subHi := 0, name := "LASER_EOL_RATIO", type := 3, size := 2, access := 3, dflt := 130, min := 105, max := 200, unit := "%", boundary := 14, hidden := false },
  { lo := 0x8012, hi := 0x8012, subLo := 0, subHi := 0, name := "RING_MARGIN", type := 3, size := 2, access := 3, dflt := 300, min := 50, max := 550, unit := "0.1 pm", boundary := 14, hidden := false },
  { lo := 0x8013, hi := 0x8013, subLo := 0, subHi := 0, name := "HOLD_ACTION", type := 2, size := 1, access := 3, dflt := 1, min := 0, max := 1, unit := "", boundary := 14, hidden := false },
  { lo := 0x8014, hi := 0x8014, subLo := 0, subHi := 0, name := "RX_LOW_WARN", type := 7, size := 2, access := 3, dflt := 64936, min := -32768, max := 32767, unit := "0.01 dBm", boundary := 14, hidden := false },
  { lo := 0x8015, hi := 0x8015, subLo := 0, subHi := 0, name := "RX_LOW_ALARM", type := 7, size := 2, access := 3, dflt := 64786, min := -32768, max := 32767, unit := "0.01 dBm", boundary := 14, hidden := false },
  { lo := 0x8016, hi := 0x8016, subLo := 0, subHi := 0, name := "LASER_TEMP_TARGET", type := 7, size := 2, access := 3, dflt := 4500, min := 3500, max := 6000, unit := "0.01 °C", boundary := 15, hidden := false },
  { lo := 0x8100, hi := 0x811F, subLo := 1, subHi := 8, name := "RX_POWER", type := 7, size := 2, access := 0, dflt := 0, min := -32768, max := 32767, unit := "0.01 dBm", boundary := 0, hidden := false },
  { lo := 0x8120, hi := 0x813F, subLo := 1, subHi := 8, name := "TX_POWER", type := 7, size := 2, access := 0, dflt := 0, min := -32768, max := 32767, unit := "0.01 dBm", boundary := 0, hidden := false },
  { lo := 0x8140, hi := 0x815F, subLo := 1, subHi := 8, name := "RING_OFFSET", type := 7, size := 2, access := 0, dflt := 0, min := -32768, max := 32767, unit := "0.1 pm", boundary := 0, hidden := false },
  { lo := 0x8160, hi := 0x817F, subLo := 1, subHi := 8, name := "HEATER", type := 3, size := 2, access := 0, dflt := 0, min := 0, max := 65535, unit := "µW", boundary := 0, hidden := false }]

/-- Rows of the dictionary, part 6. -/
def dictRows6 : List DRow := [
  { lo := 0x8180, hi := 0x819F, subLo := 1, subHi := 8, name := "PRE_FEC_BER", type := 10, size := 4, access := 0, dflt := 2143289344, min := 0, max := 0, unit := "Ratio", boundary := 0, hidden := false },
  { lo := 0x81A0, hi := 0x81A0, subLo := 1, subHi := 32, name := "PE_TEMP", type := 7, size := 2, access := 0, dflt := 0, min := -32768, max := 32767, unit := "0.01 °C", boundary := 0, hidden := false },
  { lo := 0x9000, hi := 0x9000, subLo := 1, subHi := 1, name := "SCRUB_PERIOD_TIER0", type := 4, size := 4, access := 3, dflt := 86400, min := 3600, max := 2592000, unit := "s", boundary := 14, hidden := false },
  { lo := 0x9000, hi := 0x9000, subLo := 2, subHi := 2, name := "SCRUB_PERIOD_TIER1", type := 4, size := 4, access := 3, dflt := 86400, min := 3600, max := 2592000, unit := "s", boundary := 14, hidden := false },
  { lo := 0x9000, hi := 0x9000, subLo := 3, subHi := 3, name := "SCRUB_PERIOD_TIER2", type := 4, size := 4, access := 3, dflt := 604800, min := 3600, max := 2592000, unit := "s", boundary := 14, hidden := false },
  { lo := 0x9000, hi := 0x9000, subLo := 4, subHi := 4, name := "SCRUB_PERIOD_HARBOUR", type := 4, size := 4, access := 3, dflt := 60, min := 1, max := 3600, unit := "s", boundary := 14, hidden := false },
  { lo := 0x9000, hi := 0x9000, subLo := 5, subHi := 5, name := "SCRUB_PERIOD_CODE", type := 4, size := 4, access := 3, dflt := 600, min := 1, max := 3600, unit := "s", boundary := 14, hidden := false },
  { lo := 0x9001, hi := 0x9001, subLo := 1, subHi := 1, name := "CE_REPEAT", type := 3, size := 2, access := 3, dflt := 16, min := 2, max := 65535, unit := "Error", boundary := 15, hidden := false },
  { lo := 0x9001, hi := 0x9001, subLo := 2, subHi := 2, name := "CE_RATE_LIMIT", type := 4, size := 4, access := 3, dflt := 1000, min := 0, max := 4294967295, unit := "", boundary := 14, hidden := false },
  { lo := 0x9002, hi := 0x9002, subLo := 0, subHi := 0, name := "UE_AUTO_ACK", type := 4, size := 4, access := 3, dflt := 0, min := 0, max := 86400, unit := "s", boundary := 15, hidden := false },
  { lo := 0x9003, hi := 0x9003, subLo := 0, subHi := 0, name := "FATAL_STATE", type := 5, size := 8, access := 0, dflt := 0, min := 0, max := 18446744073709551615, unit := "ER_FATAL image", boundary := 0, hidden := false },
  { lo := 0x9004, hi := 0x9004, subLo := 1, subHi := 21, name := "CE_COUNT", type := 5, size := 8, access := 0, dflt := 0, min := 0, max := 18446744073709551615, unit := "Error", boundary := 0, hidden := false },
  { lo := 0x9005, hi := 0x9005, subLo := 1, subHi := 21, name := "UE_COUNT", type := 5, size := 8, access := 0, dflt := 0, min := 0, max := 18446744073709551615, unit := "Error", boundary := 0, hidden := false },
  { lo := 0x9010, hi := 0x9010, subLo := 0, subHi := 0, name := "LEDGER_HISTORY", type := 12, size := 4096, access := 0, dflt := 0, min := 0, max := 0, unit := "", boundary := 0, hidden := false },
  { lo := 0x9011, hi := 0x9011, subLo := 0, subHi := 0, name := "LEDGER_DROPPED", type := 4, size := 4, access := 0, dflt := 0, min := 0, max := 4294967295, unit := "Record", boundary := 0, hidden := false },
  { lo := 0xA000, hi := 0xA000, subLo := 1, subHi := 1, name := "INNKEEPER_PORT", type := 2, size := 1, access := 3, dflt := 0, min := 0, max := 7, unit := "", boundary := 11, hidden := false },
  { lo := 0xA001, hi := 0xA001, subLo := 1, subHi := 1, name := "LC_STATE", type := 2, size := 1, access := 0, dflt := 0, min := 0, max := 255, unit := "", boundary := 0, hidden := false },
  { lo := 0xA001, hi := 0xA001, subLo := 2, subHi := 2, name := "LC_NONCE", type := 12, size := 16, access := 0, dflt := 0, min := 0, max := 0, unit := "", boundary := 0, hidden := false },
  { lo := 0xA001, hi := 0xA001, subLo := 3, subHi := 3, name := "LC_REQUEST", type := 12, size := 128, access := 2, dflt := 0, min := 0, max := 0, unit := "", boundary := 1, hidden := false },
  { lo := 0xA001, hi := 0xA001, subLo := 4, subHi := 4, name := "LC_RESULT", type := 2, size := 1, access := 0, dflt := 0, min := 0, max := 255, unit := "", boundary := 0, hidden := false },
  { lo := 0xA010, hi := 0xA010, subLo := 0, subHi := 0, name := "UNLOCK_KEY", type := 12, size := 8, access := 3, dflt := 0, min := 0, max := 0, unit := "", boundary := 1, hidden := true },
  { lo := 0xA100, hi := 0xA100, subLo := 1, subHi := 1, name := "FABRIC_KEY_WRITE", type := 12, size := 34, access := 2, dflt := 0, min := 0, max := 0, unit := "", boundary := 1, hidden := true },
  { lo := 0xA100, hi := 0xA100, subLo := 2, subHi := 2, name := "FABRIC_ROTATE", type := 12, size := 9, access := 2, dflt := 0, min := 0, max := 0, unit := "", boundary := 1, hidden := false },
  { lo := 0xA100, hi := 0xA100, subLo := 3, subHi := 3, name := "FABRIC_SLOT_STATUS", type := 12, size := 16, access := 0, dflt := 0, min := 0, max := 0, unit := "", boundary := 0, hidden := false }]

/-- Rows of the dictionary, part 7. -/
def dictRows7 : List DRow := [
  { lo := 0xA200, hi := 0xA200, subLo := 1, subHi := 4, name := "MGMT_KEY", type := 12, size := 32, access := 2, dflt := 0, min := 0, max := 0, unit := "", boundary := 3, hidden := true },
  { lo := 0xA200, hi := 0xA200, subLo := 5, subHi := 5, name := "MGMT_KEYS_LOADED", type := 2, size := 1, access := 0, dflt := 0, min := 0, max := 255, unit := "", boundary := 0, hidden := false },
  { lo := 0xB000, hi := 0xB000, subLo := 1, subHi := 1, name := "NODE_ADDR", type := 3, size := 2, access := 1, dflt := 0, min := 0, max := 65535, unit := "", boundary := 1, hidden := false },
  { lo := 0xB000, hi := 0xB000, subLo := 2, subHi := 2, name := "NODE_VALID", type := 1, size := 1, access := 0, dflt := 0, min := 0, max := 1, unit := "", boundary := 0, hidden := false },
  { lo := 0xB001, hi := 0xB001, subLo := 1, subHi := 32, name := "VC_RESERVE", type := 3, size := 2, access := 3, dflt := 36, min := 17, max := 256, unit := "Credit", boundary := 9, hidden := false },
  { lo := 0xB002, hi := 0xB002, subLo := 1, subHi := 32, name := "REPLY_SHARED", type := 3, size := 2, access := 3, dflt := 1976, min := 0, max := 8056, unit := "Credit", boundary := 9, hidden := false },
  { lo := 0xB010, hi := 0xB010, subLo := 1, subHi := 1, name := "ROUTE_WRITE", type := 12, size := 1028, access := 2, dflt := 0, min := 0, max := 0, unit := "", boundary := 1, hidden := false },
  { lo := 0xB010, hi := 0xB010, subLo := 2, subHi := 2, name := "ROUTE_COMMIT", type := 2, size := 1, access := 2, dflt := 0, min := 0, max := 255, unit := "", boundary := 1, hidden := false },
  { lo := 0xB010, hi := 0xB010, subLo := 3, subHi := 3, name := "ROUTE_RESULT", type := 2, size := 1, access := 0, dflt := 0, min := 0, max := 255, unit := "", boundary := 0, hidden := false },
  { lo := 0xB011, hi := 0xB011, subLo := 1, subHi := 1, name := "ROUTER_DRAIN", type := 1, size := 1, access := 1, dflt := 0, min := 0, max := 1, unit := "", boundary := 1, hidden := false },
  { lo := 0xB011, hi := 0xB011, subLo := 2, subHi := 2, name := "ROUTER_STATE", type := 2, size := 1, access := 0, dflt := 0, min := 0, max := 255, unit := "", boundary := 0, hidden := false },
  { lo := 0xB012, hi := 0xB012, subLo := 1, subHi := 32, name := "PORT_FENCE", type := 1, size := 1, access := 1, dflt := 0, min := 0, max := 1, unit := "", boundary := 1, hidden := false },
  { lo := 0xB013, hi := 0xB013, subLo := 1, subHi := 32, name := "PORT_LOST", type := 1, size := 1, access := 0, dflt := 0, min := 0, max := 1, unit := "", boundary := 0, hidden := false },
  { lo := 0xC000, hi := 0xC000, subLo := 1, subHi := 4, name := "LIST_QUOTA_DEFAULT", type := 3, size := 2, access := 3, dflt := 16, min := 1, max := 1024, unit := "List", boundary := 12, hidden := false },
  { lo := 0xC000, hi := 0xC000, subLo := 6, subHi := 7, name := "LIST_QUOTA_DEFAULT", type := 3, size := 2, access := 3, dflt := 16, min := 1, max := 1024, unit := "List", boundary := 12, hidden := false },
  { lo := 0xC001, hi := 0xC001, subLo := 0, subHi := 0, name := "PARK_QUOTA_DEFAULT", type := 3, size := 2, access := 3, dflt := 256, min := 0, max := 16384, unit := "Slot", boundary := 12, hidden := false },
  { lo := 0xC002, hi := 0xC002, subLo := 0, subHi := 0, name := "LANTERN_QUOTA_DEFAULT", type := 3, size := 2, access := 3, dflt := 256, min := 0, max := 16384, unit := "Lantern", boundary := 12, hidden := false },
  { lo := 0xC003, hi := 0xC003, subLo := 1, subHi := 64, name := "TILE_STATE", type := 2, size := 1, access := 0, dflt := 0, min := 0, max := 255, unit := "", boundary := 0, hidden := false },
  { lo := 0xC004, hi := 0xC004, subLo := 0, subHi := 0, name := "PARK_SLOTS_FREE", type := 3, size := 2, access := 0, dflt := 16384, min := 0, max := 65535, unit := "Slot", boundary := 0, hidden := false },
  { lo := 0xC100, hi := 0xC100, subLo := 1, subHi := 1, name := "RETX_TIMEOUT_DEFAULT", type := 3, size := 2, access := 3, dflt := 32, min := 4, max := 65535, unit := "µs", boundary := 15, hidden := false },
  { lo := 0xC100, hi := 0xC100, subLo := 2, subHi := 2, name := "ACK_EVERY", type := 2, size := 1, access := 3, dflt := 8, min := 1, max := 64, unit := "Packet", boundary := 2, hidden := false },
  { lo := 0xC100, hi := 0xC100, subLo := 3, subHi := 3, name := "ACK_DELAY", type := 3, size := 2, access := 3, dflt := 1000, min := 100, max := 65535, unit := "ns", boundary := 2, hidden := false },
  { lo := 0xC100, hi := 0xC100, subLo := 4, subHi := 4, name := "BUSY_HINT", type := 3, size := 2, access := 3, dflt := 8, min := 1, max := 1000, unit := "µs", boundary := 15, hidden := false },
  { lo := 0xC100, hi := 0xC100, subLo := 5, subHi := 5, name := "RNR_HINT", type := 3, size := 2, access := 3, dflt := 16, min := 1, max := 65535, unit := "µs", boundary := 15, hidden := false }]

/-- Rows of the dictionary, part 8. -/
def dictRows8 : List DRow := [
  { lo := 0xC100, hi := 0xC100, subLo := 6, subHi := 6, name := "MAX_OPS_DEFAULT", type := 3, size := 2, access := 3, dflt := 1024, min := 1, max := 4096, unit := "Operation", boundary := 15, hidden := false },
  { lo := 0xC100, hi := 0xC100, subLo := 7, subHi := 7, name := "PORCH_QUOTA_DEFAULT", type := 3, size := 2, access := 3, dflt := 256, min := 0, max := 2048, unit := "Slot per die", boundary := 12, hidden := false },
  { lo := 0xC100, hi := 0xC100, subLo := 8, subHi := 8, name := "WARM_QUOTA_DEFAULT", type := 4, size := 4, access := 3, dflt := 4096, min := 0, max := 1048576, unit := "Context", boundary := 12, hidden := false },
  { lo := 0xC100, hi := 0xC100, subLo := 9, subHi := 9, name := "PIN_QUOTA_DEFAULT", type := 3, size := 2, access := 3, dflt := 64, min := 0, max := 4096, unit := "Context", boundary := 12, hidden := false },
  { lo := 0xC100, hi := 0xC100, subLo := 10, subHi := 10, name := "MANIFEST_QUOTA_DEFAULT", type := 4, size := 4, access := 3, dflt := 1024, min := 0, max := 262144, unit := "Entry", boundary := 12, hidden := false },
  { lo := 0xC101, hi := 0xC101, subLo := 1, subHi := 1, name := "CONTEXTS_HOT", type := 3, size := 2, access := 0, dflt := 0, min := 0, max := 65535, unit := "Context", boundary := 0, hidden := false },
  { lo := 0xC101, hi := 0xC101, subLo := 2, subHi := 2, name := "CONTEXTS_WARM", type := 4, size := 4, access := 0, dflt := 0, min := 0, max := 4294967295, unit := "Context", boundary := 0, hidden := false },
  { lo := 0xC101, hi := 0xC101, subLo := 3, subHi := 3, name := "PORCH_SLOTS_FREE", type := 3, size := 2, access := 0, dflt := 4096, min := 0, max := 65535, unit := "Slot", boundary := 0, hidden := false },
  { lo := 0xC101, hi := 0xC101, subLo := 4, subHi := 4, name := "MANIFEST_FREE", type := 4, size := 4, access := 0, dflt := 262144, min := 0, max := 4294967295, unit := "Entry", boundary := 0, hidden := false },
  { lo := 0xC102, hi := 0xC102, subLo := 1, subHi := 1, name := "PROXY_TIMEOUT", type := 4, size := 4, access := 3, dflt := 1000, min := 10, max := 1000000, unit := "µs", boundary := 15, hidden := false },
  { lo := 0xC102, hi := 0xC102, subLo := 2, subHi := 2, name := "ATOMIC_CACHE_DEPTH", type := 2, size := 1, access := 4, dflt := 16, min := 0, max := 255, unit := "Result per QP", boundary := 0, hidden := false },
  { lo := 0xC102, hi := 0xC102, subLo := 3, subHi := 3, name := "READS_PER_QP", type := 2, size := 1, access := 4, dflt := 64, min := 0, max := 255, unit := "READ_REQ", boundary := 0, hidden := false },
  { lo := 0xC200, hi := 0xC200, subLo := 1, subHi := 1, name := "FLOAT_MODE_ENABLE", type := 1, size := 1, access := 3, dflt := 1, min := 0, max := 1, unit := "", boundary := 15, hidden := false },
  { lo := 0xC200, hi := 0xC200, subLo := 2, subHi := 2, name := "FWS_SAFE_COUNT_32", type := 4, size := 4, access := 4, dflt := 128, min := 0, max := 4294967295, unit := "Contribution", boundary := 0, hidden := false },
  { lo := 0xC200, hi := 0xC200, subLo := 3, subHi := 3, name := "FWS_SAFE_COUNT_64", type := 4, size := 4, access := 4, dflt := 32768, min := 0, max := 4294967295, unit := "Contribution", boundary := 0, hidden := false },
  { lo := 0xC200, hi := 0xC200, subLo := 4, subHi := 4, name := "FWS_BLOCK", type := 2, size := 1, access := 4, dflt := 32, min := 0, max := 255, unit := "Element", boundary := 0, hidden := false },
  { lo := 0xC200, hi := 0xC200, subLo := 5, subHi := 5, name := "FWS_RATE", type := 3, size := 2, access := 4, dflt := 64, min := 0, max := 65535, unit := "", boundary := 0, hidden := false },
  { lo := 0xC201, hi := 0xC201, subLo := 1, subHi := 1, name := "COLL_TIMEOUT_DEFAULT", type := 3, size := 2, access := 3, dflt := 2000, min := 1024, max := 65535, unit := "µs", boundary := 15, hidden := false },
  { lo := 0xC201, hi := 0xC201, subLo := 2, subHi := 2, name := "ITINERARIES_INSTALLED", type := 3, size := 2, access := 0, dflt := 0, min := 0, max := 65535, unit := "Itinerary", boundary := 0, hidden := false },
  { lo := 0xC201, hi := 0xC201, subLo := 3, subHi := 3, name := "ITINERARY_LIMIT", type := 3, size := 2, access := 4, dflt := 4096, min := 0, max := 65535, unit := "Itinerary", boundary := 0, hidden := false },
  { lo := 0xC210, hi := 0xC210, subLo := 1, subHi := 1, name := "ITIN_LOAD", type := 12, size := 2080, access := 2, dflt := 0, min := 0, max := 0, unit := "", boundary := 1, hidden := false },
  { lo := 0xC210, hi := 0xC210, subLo := 2, subHi := 2, name := "ITIN_UNLOAD", type := 3, size := 2, access := 2, dflt := 0, min := 0, max := 65535, unit := "ITIN_ID", boundary := 1, hidden := false },
  { lo := 0xC210, hi := 0xC210, subLo := 3, subHi := 3, name := "ITIN_RESULT", type := 2, size := 1, access := 0, dflt := 0, min := 0, max := 255, unit := "Result code", boundary := 0, hidden := false },
  { lo := 0xC220, hi := 0xC220, subLo := 1, subHi := 1, name := "PARTY_QUOTA_DEFAULT", type := 3, size := 2, access := 3, dflt := 64, min := 0, max := 4096, unit := "Context", boundary := 12, hidden := false }]

/-- Rows of the dictionary, part 9. -/
def dictRows9 : List DRow := [
  { lo := 0xC220, hi := 0xC220, subLo := 2, subHi := 2, name := "PARTY_WAIT", type := 4, size := 4, access := 3, dflt := 1000, min := 0, max := 1000000, unit := "µs", boundary := 15, hidden := false },
  { lo := 0xC220, hi := 0xC220, subLo := 3, subHi := 3, name := "PARTY_CONTEXTS_FREE", type := 3, size := 2, access := 0, dflt := 4096, min := 0, max := 65535, unit := "Context", boundary := 0, hidden := false },
  { lo := 0xC220, hi := 0xC220, subLo := 4, subHi := 4, name := "ROUND_SLOTS_FREE", type := 3, size := 2, access := 0, dflt := 16384, min := 0, max := 65535, unit := "Slot", boundary := 0, hidden := false },
  { lo := 0xC220, hi := 0xC220, subLo := 5, subHi := 5, name := "SCALAR_COUNT_MAX", type := 3, size := 2, access := 4, dflt := 8192, min := 0, max := 65535, unit := "Element", boundary := 0, hidden := false },
  { lo := 0xC300, hi := 0xC300, subLo := 1, subHi := 1, name := "UPD_TILE_RATE", type := 3, size := 2, access := 4, dflt := 32, min := 0, max := 65535, unit := "", boundary := 0, hidden := false },
  { lo := 0xC300, hi := 0xC300, subLo := 2, subHi := 2, name := "UPD_HARBOUR_UNITS", type := 3, size := 2, access := 4, dflt := 4, min := 0, max := 65535, unit := "", boundary := 0, hidden := false },
  { lo := 0xC300, hi := 0xC300, subLo := 3, subHi := 3, name := "STATE_HEADER_SIZE", type := 3, size := 2, access := 4, dflt := 4096, min := 0, max := 65535, unit := "", boundary := 0, hidden := false },
  { lo := 0xC300, hi := 0xC300, subLo := 4, subHi := 4, name := "LAMB_SEGMENTS_MAX", type := 3, size := 2, access := 4, dflt := 4096, min := 0, max := 65535, unit := "Segment", boundary := 0, hidden := false },
  { lo := 0xC400, hi := 0xC400, subLo := 1, subHi := 1, name := "CDC_TILE_RATE", type := 3, size := 2, access := 4, dflt := 64, min := 0, max := 65535, unit := "", boundary := 0, hidden := false },
  { lo := 0xC400, hi := 0xC400, subLo := 2, subHi := 2, name := "CDC_EF_RATE", type := 3, size := 2, access := 4, dflt := 32, min := 0, max := 65535, unit := "", boundary := 0, hidden := false },
  { lo := 0xC400, hi := 0xC400, subLo := 3, subHi := 3, name := "CDC_HARBOUR_UNITS", type := 3, size := 2, access := 4, dflt := 2, min := 0, max := 65535, unit := "", boundary := 0, hidden := false },
  { lo := 0xC400, hi := 0xC400, subLo := 4, subHi := 4, name := "MX_BLOCK", type := 2, size := 1, access := 4, dflt := 32, min := 0, max := 255, unit := "Element", boundary := 0, hidden := false }]

/-- Every row of the dictionary. -/
def dictRows : List DRow := dictRows0 ++ dictRows1 ++ dictRows2 ++ dictRows3 ++ dictRows4 ++ dictRows5 ++ dictRows6 ++ dictRows7 ++ dictRows8 ++ dictRows9

end Sys2Proof.Machine
end

