-- ==== Sys2Proof/Machine/Errors.lean ====
section
/-! DEFINITION. Patrol scrub, correctable-error rates, acknowledgement of latches, management cores and the causes of device FATAL (R26, R49 to R51,
R960 to R978, R1065, R1085). -/

namespace Sys2Proof.Machine

open Sys2Proof

/-! ## Patrol scrub -/

/-- SCRUB_PERIOD of a memory in s (object 0x9000). -/
def scrubPeriod (s : State) (m : Nat) : Nat :=
  if m < 4 then obj s 0x9000 1 86400 else if m < 12 then obj s 0x9000 2 86400 else if m < 16 then obj s 0x9000 3 604800
  else if m < 18 then obj s 0x9000 4 60 else obj s 0x9000 5 600

/-- The scrub state of a memory. -/
def scrubOf (s : State) (m : Nat) : Scrub := mget s.errs.scrub m {}

/-- Whether patrol scrub reads a block: its valid bit is set, it lies in the memory, its unit is neither frozen nor in FATAL, and its stack or
channel group is not in RETAIN or OFF (R969, R975, R1074). -/
def scrubReads (s : State) (m b : Nat) : Bool :=
  let a := b * 4096
  let u := latchUnit s a
  dpaPresent s a && memNo s a == m && !s.mem.frozen.contains u && (mget s.errs.latches u {}).st != 2 &&
    (if m < 12 then (mget s.doms (116 + m) {}).st == 2 else true)

/-- The address of the next scrub access of 256 B in a memory's pass, if one is left (R969). -/
def scrubNext (s : State) (m : Nat) : Option Nat :=
  let from_ := (scrubOf s m).next
  match sleast s.mem.valid (fun b => decide (from_ < (b + 1) * 4096) && scrubReads s m b) with
  | some b => some (Nat.max from_ (b * 4096))
  | none => none

/-- The room that owns a DPA, when its extent has one. -/
def dpaOwner (s : State) (a : Nat) : Option Nat := (extOf s (a / 2 ^ 30)).owner

/-- One line of a scrub access: a correctable error is corrected, an uncorrectable one is met (R972). Log 129 (DEDUCED). -/
def scrubLine (m position symbols l : Nat) (s : State) : State :=
  let x : Access := { code := 15, about := dpaOwner s (l * 64), syms := symbols }
  if s.mem.poison.contains l then meetAs 5 x (.repeated l) s
  else if s.mem.latentUe.contains l then meetAs 5 x (.fresh l) s
  else if s.mem.latentCe.contains l then meetCe m l position s
  else s

/-- A scrub access to a word of a code memory, and what it finds there: nothing, a correctable error, or an uncorrectable one (R955, R963). Log 130 (DESIGN CHOICE). -/
def scrubCode (m position symbols : Nat) (code : Option (Nat × Bool)) (s : State) : State :=
  match code with
  | none => s
  | some (w, false) => meetCe m w position s
  | some (w, true) =>
    let u := 62 + m
    let x : Access := { code := 15, syms := symbols }
    if s.errs.codeBad.contains (u, w) then memRecord x 4 u m 0 false (bump (0x440300 + 8 * m) s)
    else latchNew x 5 u m 0 (bump (0x440200 + 8 * m) (modErrs (fun e => { e with codeBad := (u, w) :: e.codeBad }) s))

/-- SCRUB_ACCESS: patrol scrub of memory m reads its next 256 B (R969 to R972), and first the map word of its block (R187). -/
def scrubAccess (m position symbols : Nat) (code : Option (Nat × Bool)) (s : State) : State :=
  if 21 ≤ m then s
  else if 18 ≤ m then (if (mget s.errs.latches (62 + m) {}).st = 2 then s else scrubCode m position symbols code s)
  else
    match scrubNext s m with
    | none => s
    | some a =>
      let s1 := modErrs (fun e => { e with scrub := mmod e.scrub m {} (fun x => { x with next := a + 256 }) }) s
      match mapAt s a 256 with
      | some b => meetAs 5 { code := 15, about := dpaOwner s a, syms := symbols } b s1
      | none => (List.range 4).foldl (fun s i => scrubLine m position symbols (a / 64 + i) s) s1

/-- SCRUB_ACCESS (R969). -/
def execScrubAccess (m position symbols : Nat) (code : Option (Nat × Bool)) (s : State) : Answer := act (dataAccess ++ [.lists, .tilesHalted, .rooms]) (scrubAccess m position symbols code) s

/-- The latch unit that a record of a whole memory names: its tier controller, the first bank of its Harbour, or its code memory. Log 130 (DESIGN CHOICE). -/
def memUnit (m : Nat) : Nat := if m < 16 then m else if m = 16 then 16 else if m = 17 then 48 else 62 + m

/-- SCRUB_PASS_END: a pass that ends after its period is late; the next one starts at once (R973). -/
def scrubPassEnd (m : Nat) (s : State) : State :=
  if 21 ≤ m || (decide (m < 18) && (scrubNext s m).isSome) then s
  else
    let x := scrubOf s m
    let period := if x.period = 0 then scrubPeriod s m else x.period
    let past := (sdiff (elapsed s) x.passStart).toNat
    let s1 := modErrs (fun e => { e with scrub := mset e.scrub m { next := 0, passStart := elapsed s, period := scrubPeriod s m } }) s
    if period * 16000000000 < past then
      ledgerInn { kind := 6, severity := 0, unit := 0x100 + memUnit m, object := m, d0 := past / 16000000000 } (raise 12 2 s1)
    else s1

/-- SCRUB_PASS_END (R973). -/
def execScrubPassEnd (m : Nat) (s : State) : Answer := act reports (scrubPassEnd m) s

/-! ## Rates of correctable errors -/

/-- One memory's second of correctable errors against the limit (R960). Log 131 (DEDUCED). -/
def ceRate (m : Nat) (s : State) : State :=
  let n := mget s.errs.ceSecond m 0
  if s.errs.ceLim < n then
    (if s.errs.ceSpell.contains m then s
    else
      ledgerInn { kind := 2, severity := 1, unit := 0x100 + memUnit m, object := m, d0 := n }
        (raise 12 4 (modErrs (fun e => { e with ceSpell := sadd e.ceSpell m }) s)))
  else if n < s.errs.ceLim && s.errs.ceSpell.contains m then modErrs (fun e => { e with ceSpell := sdel e.ceSpell m }) s
  else s

/-- CE_RATE_SECOND: a second after the one before it ends (R960); a new limit applies from the next one. -/
def ceRateSecond (s : State) : State :=
  if reached (s.errs.secondAt + 16000000000) (elapsed s) then
    modErrs (fun e => { e with ceSecond := [], ceLim := obj s 0x9001 2 1000, secondAt := elapsed s }) ((List.range 21).foldl (fun s m => ceRate m s) s)
  else s

/-- CE_RATE_SECOND (R960). -/
def execCeRateSecond (s : State) : Answer := act reports ceRateSecond s

/-- EXPANDER_EVENT_POLL: an expander's corrected events of the last second join its port's count; they enter no address table (R960). Log 2 (DESIGN CHOICE). -/
def expanderEventPoll (d n : Nat) (s : State) : State :=
  if 4 ≤ d || (mget s.ds d {}).st < 2 then s
  else modErrs (fun e => { e with ceSecond := mmod e.ceSecond (12 + d) 0 (fun x => x + n) }) (bumpBy (0x440160 + 8 * d) n s)

/-- EXPANDER_EVENT_POLL (R960). -/
def execExpanderEventPoll (ds events : Nat) (s : State) : Answer := act [.cnt, .errs] (expanderEventPoll ds events) s

/-- CODE_WORD_RELOAD: a failed word of memory m returns from flash (R963). -/
def codeWordReload (m word : Nat) (s : State) : State :=
  modErrs (fun e => { e with codeBad := e.codeBad.filter (fun x => x != (62 + m, word)) }) s

/-- CODE_WORD_RELOAD (R963). -/
def execCodeWordReload (m word : Nat) (s : State) : Answer := act [.errs] (codeWordReload m word) s

/-! ## Latches -/

/-- A latch clears; its SEQ stays (R974, R992). -/
def latchClear (u : Nat) (s : State) : State :=
  modErrs (fun e => { e with latches := mmod e.latches u {} (fun l => { seq := l.seq }) }) s

/-- LATCH_ACK: the Innkeeper writes a SEQ back to ER_LATCH (R974, R1059). -/
def latchAck (fn u seq : Nat) (s : State) : State :=
  let l := mget s.errs.latches u {}
  if isInn s fn && l.st == 1 && l.seq.toNat == seq then latchClear u s else s

/-- LATCH_ACK (R974). -/
def execLatchAck (fn unit seq : Nat) (s : State) : Answer := act [.errs] (latchAck fn unit seq) s

/-- UE_AUTO_ACK: the seconds in force when the unit latched have passed, and its record is kept (R978, R987). -/
def ueAutoAck (u : Nat) (s : State) : State :=
  let l := mget s.errs.latches u {}
  if l.st = 1 && l.recorded && l.ack ≠ 0 && reached (l.since + BitVec.ofNat 64 (l.ack * 16000000000)) (elapsed s) then latchClear u s else s

/-- UE_AUTO_ACK (R978). -/
def execUeAutoAck (unit : Nat) (s : State) : Answer := act [.errs] (ueAutoAck unit) s

/-! ## The device in FATAL -/

/-- DEVICE_FATAL: all three copies of a TRV field of a block differ (R1065, R976). -/
def execDeviceFatal (block : Nat) (s : State) : Answer := act reports (deviceFatal 0x2FF block 0x2FF) s

/-- D2D_UNRECOVERABLE (R26). -/
def execD2dUnrecoverable (s : State) : Answer := act reports (deviceFatal 0x249 0 0x249) s

/-- CLOCK_FAIL: the module reference stops, or a core PLL loses lock (R1085). -/
def execClockFail (s : State) : Answer := act reports (deviceFatal 0x2FF 0 0x2FF) s

/-! ## Management cores -/

/-- A management core halts: core 3 records it and raises the module alert (R49 to R51); while core 1 is halted every lane holds its heater. -/
def coreHalt (k : Nat) (s : State) : State :=
  if s.errs.coresHalted.contains k then s
  else
    let s1 := modErrs (fun e => { e with coresHalted := sadd e.coresHalted k }) s
    let s2 := if k = 1 then holdLanes s1 else s1
    if k ≠ 3 && core3Runs s then
      modErrs (fun e => { e with alert := true }) (ledgerInn { kind := 0x22, severity := 2, unit := 0x240 + k, object := k, d0 := k } s2)
    else s2

/-- MGMT_CORE_HALT: an instruction fetch of core k meets an uncorrectable error at a word of the management SRAM (R49, R965, R974). -/
def mgmtCoreHalt (k word : Nat) (s : State) : State :=
  if 4 ≤ k || s.errs.coresHalted.contains k then s
  else
    let x : Access := { code := 1 }
    let s1 :=
      if s.errs.codeBad.contains (82, word) then memRecord x 4 82 20 0 false (bump (0x440300 + 8 * 20) s)
      else latchNew x 3 82 20 0 (bump (0x440200 + 8 * 20) (modErrs (fun e => { e with codeBad := (82, word) :: e.codeBad }) s))
    coreHalt k s1

/-- MGMT_CORE_HALT (R49). -/
def execMgmtCoreHalt (core word : Nat) (s : State) : Answer := act (listWork ++ [.tilesHalted, .fports, .lanes, .objNow]) (mgmtCoreHalt core word) s

/-- WATCHDOG_EXPIRE: the always-on watchdog finds core 3 halted (R51). -/
def execWatchdogExpire (s : State) : Answer :=
  act [.errs] (fun s => if core3Runs s then s else modErrs (fun e => { e with alert := true }) s) s

end Sys2Proof.Machine
end

