-- ==== Sys2Proof/Machine/Reset0.lean ====
section
/-! DEFINITION. Power domains and their kinds (R1045, R1070, R1071), and the restart of the module: what each reset keeps and what start-up
loads (R186, R1033, R1068, R1086, R1093). -/

namespace Sys2Proof.Machine

open Sys2Proof

/-- A power domain's record. -/
def dom (s : State) (d : Nat) : Dom := mget s.doms d {}

/-- Change a power domain's record. -/
def modDom (d : Nat) (f : Dom → Dom) (s : State) : State := { s with doms := mmod s.doms d {} f }

/-- The kind of a domain (R1045): 0 tile, 1 fabric port, 2 laser unit, 3 host port, 4 downstream port, 5 HBM4, 6 LPDDR5X, 7 Harbour retention group,
8 router plane, 9 always powered. -/
def domKind (d : Nat) : Nat :=
  if d < 64 then 0 else if d < 96 then 1 else if d < 104 then 2 else if d < 112 then 3 else if d < 116 then 4 else if d < 120 then 5
  else if d < 128 then 6 else if d < 144 then 7 else if d < 148 then 8 else 9

/-- The die of a domain (R24; a laser unit by R1076). -/
def domDie (d : Nat) : Nat :=
  match domKind d with
  | 0 => d / 32 | 1 => (d - 64) / 16 | 2 => (d - 96) / 4 | 3 => (d - 104) / 4 | 4 => (d - 112) / 2 | 5 => (d - 116) / 2
  | 6 => (d - 120) / 4 | 7 => (d - 128) / 8 | 8 => (d - 144) / 2 | _ => 0

/-- The wake step of a domain's kind in W (R1070). -/
def domStep (d : Nat) : Nat :=
  match domKind d with
  | 0 => 6 | 1 => 8 | 2 => 20 | 3 => 18 | 4 => 9 | 5 => 30 | 6 => 11 | 7 => 6 | 8 => 12 | _ => 0

/-- Whether a domain's kind has RETAIN (R1070). -/
def domRetains (d : Nat) : Bool := [0, 5, 6, 7, 8].contains (domKind d)

/-- General Harbour units that a retention group of its die holds, by local number (R1071). -/
def groupUnits (g : Nat) : Nat := if g < 2 then 0 else if g = 2 then 256 else 320

/-- Whether a refusal condition of R1074 makes start-up wake a domain whatever its request (R1093): the Innkeeper's host port, planes 0 and 2, the
groups that must stay ON or that the transit pool needs, and the stacks that extent 0 lies on. Log 16 (DESIGN CHOICE), 163 (DEDUCED). -/
def bootPinned (s : State) (d : Nat) : Bool :=
  match domKind d with
  | 3 => d - 104 == innPort s
  | 5 => !s.mem.dieLocal0 || decide (d < 118)
  | 7 =>
    let die := domDie d
    let kept := (List.range 8).foldl (fun a g => if g = 2 || obj s 0x6000 (129 + 8 * die + g) 2 ≠ 0 then a + groupUnits g else a) 0
    decide ((d - 128) % 8 < 3) || decide (kept < obj s 0x3001 (die + 1) 256)
  | 8 => d % 2 == 0
  | _ => false

/-- A domain as start-up finds it (R1093): a request for RETAIN wakes the domain to ON first. Log 16 (DESIGN CHOICE), 17 (DEDUCED), 137 (DEDUCED), 163 (DEDUCED). -/
def bootDom (s : State) (d : Nat) : Dom :=
  let v := obj s 0x6000 (d + 1) 2
  let up := v == 1 || v == 2 || bootPinned s d
  if 148 ≤ d then { st := 2 }
  else { req := v, next := if v = 1 then some 1 else none, wanting := up, cold := true, boot := up }

/-- The fields of FP_PFC_CFG that objects 0x2807 to 0x280A back (R844, R845). -/
def pfcImage (s : State) (p : Nat) : Nat :=
  obj s 0x280A (p + 1) 48 * 2 ^ 32 + obj s 0x2809 (p + 1) 96 * 65536 + obj s 0x2808 (p + 1) 15 * 256 + obj s 0x2807 (p + 1) 2

/-- What start-up loads from the RWS entries into registers and units (R1068, R1001), and the domains it asks for. Log 14 (DESIGN CHOICE), 140 (DEDUCED). -/
def loadRws (s : State) : State :=
  let s1 : State := { s with
    regs := ((List.range 32).foldl (fun m p =>
        if pfcImage s p = 0x3000600F02 then m else mset m (0x300030 + 0x1000 * p) (BitVec.ofNat 64 (pfcImage s p)))
      ((List.range 8).foldl (fun m u => mset m (0x340100 + 0x40 * u) (BitVec.ofNat 64 (obj s 0x8000 (u + 1) 1)))
        (if obj s 0x6002 0 2000 = 2000 then s.regs else mset s.regs 0x270018 (BitVec.ofNat 64 (obj s 0x6002 0 2000)))))
    fports := (List.range 32).foldl (fun m p =>
      if obj s 0x2800 (p + 1) 0 = 0 then m else mset m p { mode := obj s 0x2800 (p + 1) 0 }) s.fports
    mem := { s.mem with dieLocal0 := obj s 0x3000 1 1 == 1, dieLocal1 := obj s 0x3000 2 1 == 1 }
    errs := { s.errs with ceLim := obj s 0x9001 2 1000 } }
  { s1 with
    doms := (List.range 151).map (fun d => (d, bootDom s1 d))
    power := { s1.power with queue := bootOrder.filter (fun d => (bootDom s1 d).wanting) } }

/-- The seal engine after a restart: keys of rooms and fabric slots are gone, management keys stand as R946 and R948 leave them, LC_NONCE is fresh
(R950), and a fuse
that was written applies (R945). In RETURN and RETIRED the erasure of R946 is complete. Log 124 (DEDUCED), 127 (DEDUCED). -/
def restartSeal (s : State) : Seal :=
  let x := s.sealing
  let lc := x.fuse.getD x.lc
  { mgmt := if lc = 3 then (if x.erased then x.mgmt.filter (fun p => p.1 == 1) else []) else if lc = 4 then [] else x.mgmt
    lc := lc
    erased := x.erased || decide (3 ≤ lc)
    nonce := (Config.freeValue s.free).toNat + 2 ^ 64 * (Config.freeValue (s.free + 1)).toNat }

/-- The state in which start-up begins again: `cause` is the code of LAST_RESET, and `cold` a power-up, which loses the tide count and the
Ledger history as well (R47, R988). Host memory, pin levels and flash lie outside the reset. Log 127 (DEDUCED), 137 (DEDUCED), 138 (DEDUCED). -/
def restart (cause : Nat) (cold : Bool) (s : State) : State :=
  let flash := if s.dict.restore then [] else if 3 ≤ s.sealing.fuse.getD s.sealing.lc then mdel s.dict.flash (okey 0xA010 0) else s.dict.flash
  let t : Tide := if cold then {} else
    { count := s.tide.count, base := s.tide.count, frac := s.tide.frac, rate := s.tide.rate, st := if s.tide.st = .freerun then .freerun else .acquire }
  loadRws { State.reset with
    pending := s.pending
    out := s.out
    free := s.free + 2
    hmem := s.hmem
    hpoison := s.hpoison
    objs := flash
    tide := t
    hports := (s.hports.filter (fun p => p.2.perst)).map (fun p => (p.1, { perst := true }))
    lasers := mmapV s.lasers (fun _ x => { sol := x.sol })
    laserEn := s.laserEn
    errs := { history := if cold then [] else s.errs.history }
    sealing := restartSeal s
    power := { inputOk := s.power.inputOk, pin := s.power.pin, lastReset := cause, mgmtUp := false }
    dict := { flash := flash, fresh := mmapV s.dict.fresh (fun _ f => { highest := f.stored, stored := f.stored }) } }

/-- Whether the module may begin a reset: a tripped module waits until every die sensor reads below 95 °C (R1131). -/
def resetReady (s : State) : Bool :=
  !s.power.tripped || (decide (mget s.power.tele (okey 0x7000 1) 0 < 9500) && decide (mget s.power.tele (okey 0x7000 2) 0 < 9500))

/-- A module reset begins, or waits for the module to cool (R1131). -/
def moduleReset (cause : Nat) (s : State) : State :=
  if resetReady s then restart cause false s
  else { s with power := { s.power with resetDue := some cause } }

end Sys2Proof.Machine
end

