-- ==== Sys2Proof/Machine/Optics.lean ====
section
/-! DEFINITION. Optical engines and their loops (R847 to R878), and the enabling of fabric ports (R810, R816). -/

namespace Sys2Proof.Machine

open Sys2Proof

/-! ## Ports -/

/-- PORT_ENABLE: the Innkeeper writes ENABLE 1 (R816, R841). -/
def execPortEnable (fn port : Nat) (s : State) : Answer := act (interrupts ++ [.cnt, .fports, .lanes, .lasers]) (fun s => if isInn s fn then fpEnable port s else s) s

/-- PORT_DISABLE: the Innkeeper writes ENABLE 0 (R816, R841). -/
def execPortDisable (fn port : Nat) (s : State) : Answer := act dataAccess (fun s => if isInn s fn then fpDisable port s else s) s

/-! ## The ring loop -/

/-- The longest spell of beyond-margin and within-margin samples that R858 waits for. -/
def spell : Nat := 10

/-- A lane with a new sample: offset, heater, and the counts of consecutive samples (R855, R856, R858). -/
def Lane.sampled (x : Lane) (offset : Int) (heater : Nat) (margin : Nat) (runs : Bool) : Lane :=
  let a := offset.natAbs
  { x with
    offset := offset
    heater := if runs && (x.st == 1 || x.st == 2) then Nat.min 12000 heater else x.heater
    lockRun := if a ≤ 50 then x.lockRun + 1 else 0
    outRun := if 600 < a then x.outRun + 1 else 0
    driftRun := if margin < a then x.driftRun + 1 else 0
    inRun := if a ≤ margin then x.inRun + 1 else 0 }

/-- The drift of a lane that sends: a spell begins with DRIFT, its event and its record, and ends within the margin (R858, R859). Log 105 (DESIGN CHOICE), 106 (DEDUCED), 199 (DEDUCED). -/
def laneDrift (p l : Nat) (s : State) : State :=
  let x := lane s p l
  if x.st ≠ 2 && x.st ≠ 3 then s
  else if spell ≤ x.driftRun && !x.drift then
    let s1 := ledgerInn { kind := 0xA2, severity := 1, unit := 0x210 + p, object := l, d0 := (BitVec.ofInt 64 x.offset).toNat }
      (raise 8 4 (modLane p l (fun x => { x with drift := true }) s))
    if x.st = 3 && obj s 0x8013 0 1 = 1 then raise 8 8 (fpDisable p s1) else s1
  else if spell ≤ x.inRun && x.drift then modLane p l (fun x => { x with drift := false }) s
  else s

/-- The tuning state of a lane after a sample (R856). Log 105 (DESIGN CHOICE). -/
def laneTune (p l : Nat) (s : State) : State :=
  let x := lane s p l
  match x.st with
  | 1 => if 64 ≤ x.lockRun && core1Runs s then modLane p l (fun x => { x with st := 2, tries := 0 }) s else s
  | 2 =>
    if !core1Runs s then modLane p l (fun x => { x with st := 3 }) s
    else if spell ≤ x.outRun then startSweep p l s else s
  | 3 => if !core1Runs s then s else if x.outRun = 0 then modLane p l (fun x => { x with st := 2 }) s else startSweep p l s
  | _ => s

/-- RING_SAMPLE: an offset is measured, and the heater takes the setting the loop corrects it to (R853, R855). Log 2 (DESIGN CHOICE), 18 (DESIGN CHOICE), 106 (DEDUCED). -/
def ringSample (p l : Nat) (offset : Int) (heater : Nat) (s : State) : State :=
  laneDrift p l (laneTune p l (modLane p l (fun x => x.sampled offset heater (obj s 0x8012 0 300) (core1Runs s)) s))

/-- RING_SAMPLE (R855). -/
def execRingSample (port lane : Nat) (offset : Int) (heater : Nat) (s : State) : Answer := act dataAccess (ringSample port (lane % 8) offset heater) s

/-- HEATER_SWEEP_END: after 1 ms of sweep a resonance is chosen; without one, or without a lock within 10 ms of the sweep, the sweep is
repeated, or after the third try the lane has FAILED (R856, R857). -/
def sweepEnd (p l : Nat) (found : Bool) (heater : Nat) (s : State) : State :=
  let x := lane s p l
  if x.st ≠ 1 || !core1Runs s || !reached x.due (elapsed s) then s
  else if found && !x.chosen then
    modLane p l (fun x => { x with heater := Nat.min 12000 heater, chosen := true, due := elapsed s + 160000000 }) s
  else
    let s1 := modLane p l (fun x => { x with tries := x.tries + 1 }) s
    if x.tries + 1 < 3 then startSweep p l s1
    else ledgerInn { kind := 0xA1, severity := 2, unit := 0x210 + p, object := p, d0 := l }
      (raise 8 5 (modLane p l (fun x => { x with st := 5 }) s1))

/-- HEATER_SWEEP_END (R856). -/
def execHeaterSweepEnd (port lane : Nat) (found : Bool) (heater : Nat) (s : State) : Answer := act (reports ++ [.lanes]) (sweepEnd port (lane % 8) found heater) s

/-- OP_LANE_CTRL of a lane, as it holds a written value: HEATER_SET at most 12,000 (R875). -/
def laneCtrl (v : Nat) : Word := BitVec.ofNat 64 (v / 65536 % 2 * 65536 + Nat.min 12000 (v % 65536))

/-- LANE_MANUAL_WRITE: an armed write of OP_LANE_CTRL (R856, R875, R1054, R1055). -/
def laneManual (fn p l v : Nat) (s : State) : State :=
  let a := 0x350010 + 0x100 * p + 0x20 * l
  let w := laneCtrl v
  if !isInn s fn || 32 ≤ p then s
  else if armed s 8 then
    let s1 := disarm 8 (wr a w s)
    let x := lane s p l
    if w.getLsbD 16 then
      (if x.st = 0 || x.st = 2 || x.st = 3 || x.st = 4 then modLane p l (fun x => { x with st := 4, heater := w.toNat % 65536, drift := false }) s1 else s1)
    else if x.st = 4 then startSweep p l s1 else s1
  else if rd s a 0 = w then s
  else silent s

/-- LANE_MANUAL_WRITE (R875). -/
def execLaneManualWrite (fn port lane value : Nat) (s : State) : Answer := act [.regs, .cnt, .arms, .lanes] (laneManual fn port (lane % 8) value) s

/-! ## Laser units -/

/-- A unit goes to another state (R868, R872). -/
def laserTo (u st : Nat) (s : State) : State := raise 8 0 (modLaser u (fun x => { x with st := st, since := elapsed s }) s)

/-- The light of a unit goes: its lanes are DARK, and its ports that are UP lose their neighbours at once (R870). -/
def laserDark (u : Nat) (s : State) : State :=
  (List.range 4).foldl (fun s k => darkLanes (4 * u + k) (ethDown (4 * u + k) 1 (linkDown (4 * u + k) 0 s))) s

/-- A unit leaves its state for OFF or FAULT: currents to 0, and light goes when it was ON. -/
def laserOff (u st : Nat) (s : State) : State :=
  let on := (laser s u).st == 3
  let s1 := laserTo u st (modLaser u (fun x => { x with current := [], limit := false }) s)
  if on then laserDark u s1 else s1

/-- A unit latches a fault (R868). Log 108 (DEDUCED). -/
def laserFault (u cause : Nat) (s : State) : State :=
  ledgerInn { kind := 0xA5, severity := 2, unit := 0x238 + u, object := u, d0 := cause }
    (raise 8 1 (bump (0x340110 + 0x40 * u) (modLaser u (fun x => { x with cause := cause }) (laserOff u 4 s))))

/-- LASER_SETTLED (R868). -/
def execLaserSettled (unit : Nat) (s : State) : Answer :=
  act (interrupts ++ [.lasers]) (fun s => if (laser s unit).st = 1 && laserPermit s unit then laserTo unit 2 s else s) s

/-- TEC_FAIL: 1 s in SETTLE (R868, R869). -/
def tecFail (u : Nat) (s : State) : State :=
  if (laser s u).st = 1 && reached ((laser s u).since + 16000000000) (elapsed s) then laserFault u 3 s else s

/-- TEC_FAIL (R868, R869). -/
def execTecFail (unit : Nat) (s : State) : Answer := act (dataAccess ++ [.lasers]) (tecFail unit) s

/-- Values by laser of a unit. -/
def byLaser {α : Type} (l : List α) : NMap α := (l.take 4).zipIdx.map (fun x => (x.2, x.1))

/-- The currents and tap powers of a unit are published, and LASER_LIMIT and LASER_EOL follow from them (R863, R864). -/
def laserMarks (u : Nat) (s : State) : State :=
  let x := laser s u
  let target := intOf 16 (obj s 0x8010 0 1700)
  let lim := x.current.any (fun c => c.2 == 5000 && decide (mget x.tap c.1 target < target))
  let aged := x.current.find? (fun c => (match mfind x.sol c.1 with | some b => decide (obj s 0x8011 0 130 * b < 100 * c.2) | none => false))
  let old := aged.isSome
  let s1 := if lim && !x.limit then raise 8 2 s else s
  let s2 := if old && !x.eol then ledgerInn { kind := 0xA3, severity := 0, unit := 0x238 + u, object := u, d0 := (aged.getD (0, 0)).2 } (raise 8 3 s1) else s1
  modLaser u (fun x => { x with limit := lim, eol := x.eol || old }) s2

/-- LASER_RAMP_DONE: every laser has reached its target or 500 mA: the unit is ON, and the lanes of its ports sweep (R856, R864, R868). Log 107 (DEDUCED). -/
def rampDone (u : Nat) (currents : List Nat) (taps : List Int) (s : State) : State :=
  if (laser s u).st ≠ 2 || !laserPermit s u then s
  else
    let s1 := modLaser u (fun x => { x with
      st := 3, current := byLaser (currents.map (Nat.min 5000)), tap := byLaser taps
      sol := if s.sealing.lc = 1 && x.sol.isEmpty then byLaser (currents.map (Nat.min 5000)) else x.sol }) s
    (List.range 4).foldl (fun s k => wakeLanes (4 * u + k) s) (laserMarks u (raise 8 0 s1))

/-- LASER_RAMP_DONE (R868). -/
def execLaserRampDone (unit : Nat) (currents : List Nat) (taps : List Int) (s : State) : Answer := act (reports ++ [.lanes, .lasers]) (rampDone unit currents taps) s

/-- LASER_IDLE_OFF: no port of a unit in ON has had ENABLE 1 for 1 s (R868). -/
def laserIdleOff (u : Nat) (s : State) : State :=
  if (laser s u).st = 3 && !laserDemand s u &&
      (List.range 4).all (fun k => reached ((fport s (4 * u + k)).offSince + 16000000000) (elapsed s)) then laserOff u 0 s else s

/-- LASER_IDLE_OFF (R868). -/
def execLaserIdleOff (unit : Nat) (s : State) : Answer := act (dataAccess ++ [.lasers]) (laserIdleOff unit) s

/-- PERMIT_DROP: a unit in SETTLE, RAMP or ON whose permit does not hold goes OFF (R868, R872). -/
def permitDrop (u : Nat) (s : State) : State :=
  let x := laser s u
  if (x.st = 1 || x.st = 2 || x.st = 3) && !laserPermit s u then raise 8 7 (laserOff u 0 s) else s

/-- PERMIT_DROP (R868). -/
def execPermitDrop (unit : Nat) (s : State) : Answer := act (dataAccess ++ [.lasers]) (permitDrop unit) s

/-- LASER_PATH_FAULT: the tap power of a laser that draws at least its start-of-life current has stayed 6 dB low (R868); in RAMP, whose currents the state
does not hold, the command says so. -/
def execLaserPathFault (unit laser : Nat) (s : State) : Answer :=
  act (dataAccess ++ [.lasers]) (fun s =>
    let x := Sys2Proof.Machine.laser s unit
    if x.st = 2 || (x.st = 3 && decide (mget x.sol laser 0 ≤ mget x.current laser 0)) then laserFault unit 1 s else s) s

/-- LASER_OVERTEMP (R868). -/
def execLaserOvertemp (unit : Nat) (s : State) : Answer := act (dataAccess ++ [.lasers]) (fun s => if (laser s unit).st ≠ 0 then laserFault unit 2 s else s) s

/-- A write of CLEAR_FAULT, which keeps ALLOW and uses the block's arm; `gone` when the fault's condition is gone (R868, R869, R873, R1054). -/
def clearFault (fn u : Nat) (gone : Bool) (s : State) : State :=
  if !isInn s fn || 8 ≤ u then s
  else
    let s1 := disarm 8 s
    if (laser s u).st = 4 && gone then laserCheck u (laserTo u 0 (modLaser u (fun x => { x with cause := 0 }) s1)) else s1

/-- CLEAR_FAULT (R868). -/
def execClearFault (fn unit : Nat) (gone : Bool) (s : State) : Answer :=
  act (interrupts ++ [.arms, .lasers]) (clearFault fn unit gone) s

/-- LASER_ALLOW_WRITE: an armed write of ALLOW (R867, R873, R1054, R1055). -/
def laserAllowWrite (fn u : Nat) (allow : Bool) (s : State) : State :=
  if !isInn s fn || 8 ≤ u then s
  else if armed s 8 then laserCheck u (disarm 8 (wr (0x340100 + 0x40 * u) (BitVec.ofNat 64 (b2n allow)) s))
  else if laserAllow s u = allow then s
  else silent s

/-- LASER_ALLOW_WRITE (R873). -/
def execLaserAllowWrite (fn unit : Nat) (allow : Bool) (s : State) : Answer := act (interrupts ++ [.regs, .cnt, .arms, .lasers]) (laserAllowWrite fn unit allow) s

/-- LASER_EN_CHANGE: the laser enable input changes (R867). -/
def laserEnChange (on : Bool) (s : State) : State := (List.range 8).foldl (fun s u => laserCheck u s) (inputAccepted 10 { s with laserEn := on })

/-- LASER_EN_CHANGE (R867). -/
def execLaserEnChange (asserted : Bool) (s : State) : Answer :=
  .next (keep (interrupts ++ [.lasers, .laserEn, .objNow]) s (if unpowered s then { s with laserEn := asserted } else laserEnChange asserted s))

/-- TEC_LOOP: the temperatures of a unit's lasers; published while core 1 runs (R851, R853, R861). Log 18 (DESIGN CHOICE). -/
def execTecLoop (unit : Nat) (temps : List Int) (s : State) : Answer :=
  act [.lasers] (fun s => if core1Runs s then modLaser unit (fun x => { x with temp := byLaser temps }) s else s) s

/-- A laser's current after a bias step: towards the target by at most 1 mA, of which the spec states no more (R862). Log 105 (DESIGN CHOICE). -/
def biasTo (target tap : Int) (current step : Nat) : Nat :=
  if tap < target then Nat.min 5000 (current + step) else if target < tap then current - step else current

/-- BIAS_STEP: each laser's current moves towards LASER_TARGET (R862 to R864); it holds while core 1 is halted (R53). Log 2 (DESIGN CHOICE), 18 (DESIGN CHOICE). -/
def biasStep (u : Nat) (taps : List Int) (s : State) : State :=
  if (laser s u).st ≠ 3 || !core1Runs s then s
  else
    let step := (freshVal s).toNat % 11
    let target := intOf 16 (obj s 0x8010 0 1700)
    laserMarks u (useFresh (modLaser u (fun x => { x with
      tap := byLaser taps, current := mmapV x.current (fun k c => biasTo target (taps.getD k target) c step) }) s))

/-- BIAS_STEP (R862). -/
def execBiasStep (unit : Nat) (taps : List Int) (s : State) : Answer := act (reports ++ [.free, .lasers]) (biasStep unit taps) s

/-! ## Once a second -/

/-- The pre-FEC bit error ratio of a lane over a second, in FP32 (R852). -/
def preFecBer (corrected codewords lanes : Nat) : Nat :=
  if codewords * 544 / lanes = 0 then fp32.nan
  else fp32.ieee ((FV.fin false (corrected * lanes) 0).div (FV.fin false (10 * codewords * 544) 0))

/-- Received power against its limits: a spell begins with its event and its record (R876). Log 199 (DEDUCED). -/
def rxLow (p l : Nat) (high : Int) (s : State) : State :=
  let x := lane s p l
  let warn := decide (high < intOf 16 (obj s 0x8014 0 64936))
  let alarm := decide (high < intOf 16 (obj s 0x8015 0 64786))
  let note := fun (s : State) =>
    ledgerInn { kind := 0xA4, severity := 1, unit := 0x210 + p, object := l, d0 := (BitVec.ofInt 64 high).toNat } (raise 8 6 s)
  let s1 := if warn && !x.rxWarn then note s else s
  let s2 := if alarm && !x.rxAlarm then note s1 else s1
  modLane p l (fun x => { x with rxWarn := warn, rxAlarm := alarm }) s2

/-- OPTICS_SECOND: a lane's error ratio, powers, alarms and pre-emphasis; `rxHigh` is the greatest received power over the second. What core 1
publishes stands while it is halted (R852, R853, R865, R876). Log 2 (DESIGN CHOICE), 18 (DESIGN CHOICE). -/
def opticsSecond (p l corrected codewords : Nat) (rx rxHigh tx temp : Int) (s : State) : State :=
  let s1 := rxLow p l rxHigh s
  if !core1Runs s then s1
  else
    let f := fport s p
    let step : Int := (freshVal s).toNat % 3
    let tuned := f.direct && (f.st == .up)
    let s2 := modLane p l (fun x => { x with
      rx := rx, tx := tx, ber := preFecBer corrected codewords (if f.mode = 2 then 4 else 8), pre := if tuned then x.pre + (step - 1) else x.pre }) s1
    { (if tuned then useFresh s2 else s2) with peTemp := mset s.peTemp p temp }

/-- OPTICS_SECOND (R852). -/
def execOpticsSecond (port lane corrected codewords : Nat) (rx rxHigh tx temp : Int) (s : State) : Answer :=
  act (reports ++ [.free, .lanes, .peTemp]) (opticsSecond port (lane % 8) corrected codewords rx rxHigh tx temp) s

end Sys2Proof.Machine
end

