-- ==== Sys2Proof/Machine/Rooms0.lean ====
section
/-! DEFINITION. Loss actions: what a port loss, an FLR, a function that ceases and a quarantine take down (R157 to R162, R311, R690, R885, R893),
and the events that start them. -/

namespace Sys2Proof.Machine

open Sys2Proof

/-- The RM_ROOM_STATE image of a room (R916). Log 46 (DEDUCED). -/
def roomImage (s : State) (rm : Nat) : Nat :=
  let r := room s rm
  let st := match r.st with | .free => 0 | .opened => 1 | .quiescing => 2 | .quiesced => 3 | .quarantined => 4
  if r.st = .free then 0
  else fnPort r.fn * 2 ^ 40 + fnSlot r.fn * 2 ^ 32 + r.qcause * 4096 + b2n r.gone * 128 + b2n r.quotas.mirrored * 64 + st

/-- The functions of a port that have a room. -/
def portRooms (s : State) (p : Nat) : List Nat :=
  (s.rooms.filter (fun r => fnPort r.2.fn == p && r.2.st != .free)).map (fun r => r.1)

/-- A queue that is flushed: its outstanding work goes without completions (R311, R158). -/
def Queue.flush (q : Queue) : Queue :=
  if q.st = .free then q
  else { q with st := .flushed, fetched := [], entries := [], held := [], disablePending := false, passing := false, armed := false, again := 0 }

/-- How many queues of a function go FLUSHED that name an event queue: their QUEUE_FLUSHED events (R323). Log 168 (DEDUCED). -/
def flushEvents (s : State) (fn e : Nat) : Nat :=
  (s.queues.filter (fun p => p.1 / 4096 == fn && p.2.st != .free && p.2.st != .flushed && p.2.kind != .ledger && p.2.eq == e)).length

/-- A FLUSHED event queue drops n events that are meant for it (R325). Log 168 (DEDUCED). -/
def Queue.drops (n : Nat) (q : Queue) : Queue :=
  if n = 0 then q else { q with dropped := q.dropped + BitVec.ofNat 32 n, overflow := true, seq := q.seq + BitVec.ofNat 8 n }

/-- Every queue of a function is FLUSHED, and its lists end without completions (R311, R375); what they held or waited for goes with them, and
their events are dropped, since the event queues are FLUSHED too (R325). Log 168 (DEDUCED). -/
def flushFn (fn : Nat) (s : State) : State :=
  let rm := roomOf s fn
  slotFreed { s with
    queues := s.queues.map (fun p => if p.1 / 4096 = fn then (p.1, (p.2.flush).drops (flushEvents s fn (p.1 % 4096))) else p)
    lists := s.lists.filter (fun r => r.fn != fn)
    tide := { s.tide with waits := s.tide.waits.filter (fun w => w.start || w.fn != fn) }
    mem := { s.mem with waits := s.mem.waits.map (fun p => (p.1, p.2.filter (fun w => w.chunk.isSome || w.fn != fn))) }
    seawalls := s.seawalls.filter (fun w => !(decide (w.kind = 0 ∨ w.kind = 3) && rm == some w.room)) }

/-- The queue pairs of a function enter ERROR with PORT_LOSS (R157, R443). -/
def flushQps (fn : Nat) (s : State) : State :=
  (s.qps.filter (fun p => p.2.fn == fn && decide (p.1 < 2 ^ 24))).foldl (fun s p => qpError p.1 0x19 (qp s p.1).oldest none 0 0 s) s

/-- Collectives whose queue was flushed abort with LOCAL_FAULT (R690). -/
def flushMembers (fn : Nat) (s : State) : State :=
  settle ((s.coll.members.filter (fun m => m.h.fn == fn)).foldl (fun s m => memberFlushed m.id s) s)

/-- The front desk of a function that loses its port or is reset: a command already started completes its effect, and its response is not
written (R310). Log 114 (DEDUCED). -/
def muteDesk (fn : Nat) (s : State) : State :=
  match (func s fn).fd.running with
  | none => s
  | some (_, _, .bias page) =>
    modFunc fn (fun f => { f with fd := { f.fd with running := none } }) (modHport (fnPort fn) (fun x => { x with shared := sdel x.shared page }) s)
  | some _ => modFunc fn (fun f => { f with fd := { f.fd with mute := true } }) s

/-- The loss actions on one function: its queues, queue pairs, collectives and translations (R157, R160). -/
def lossFn (fn : Nat) (s : State) : State :=
  let s1 := flushMembers fn (flushQps fn (flushFn fn s))
  tlbPurge (fun e => match e with | .host _ f _ _ _ _ _ _ => f == fn | .chart _ _ _ _ => false)
    { s1 with ats := s1.ats.filter (fun r => r.fn != fn), invals := s1.invals.filter (fun x => x.1 != fn) }

/-- The front desk command that quiesces a room completes (R893, R902). -/
def endQuiesce (rm result : Nat) (s : State) : State :=
  match s.funcs.find? (fun p => match p.2.fd.running with | some (_, _, .quiesce r) => r == rm | _ => false) with
  | some p =>
    (match p.2.fd.running with
    | some (h, op, _) => fdAnswer h op { result := result, ret := roomImage s rm } s
    | none => s)
  | none => s

/-- A room is quarantined: R893. A room in QUARANTINED keeps its first cause, and one that is being removed is left alone (R903). -/
def quarantine (rm qcause : Nat) (gone : Bool) (s : State) : State :=
  let r := room s rm
  if r.st = .free || r.removing then s
  else
    let s1 := lossFn r.fn s
    if r.st = .quarantined then modRoom rm (fun r => { r with gone := r.gone || gone }) s1
    else raise 10 2 (modRoom rm (fun r => { r with st := .quarantined, qcause := qcause, gone := gone }) s1)

/-- A room is quarantined, and a quiesce that ran on it ends: it answers OK (R902). -/
def lossRoom (rm qcause : Nat) (gone : Bool) (s : State) : State :=
  let s1 := quarantine rm qcause gone s
  if (room s rm).st = .quiescing then endQuiesce rm 0 s1 else s1

/-- The record of loss actions (R157, R984): the HP_EVENT bit of the cause; a cause that has none leaves the value open. Log 111 (DEDUCED). -/
def lossRecord (p : Nat) (rm : Option Nat) (bit : Option Nat) (s : State) : State :=
  let rec_ : LedgerRec := {
    kind := 0x40, severity := 2, unit := 0x200 + p, object := p, room := rm, d0 := (match bit with | some b => b | none => (freshVal s).toNat) }
  ledgerInn rec_ (if bit.isSome then s else useFresh s)

/-- A Seawall skips a port that ends in DOWN (R153). Log 48 (DEDUCED). -/
def skipWalls (p : Nat) (s : State) : State :=
  { s with seawalls := s.seawalls.map (fun w =>
      if w.ports.contains p then { w with ports := w.ports.filter (fun x => x != p), unread := w.unread.filter (fun x => x != p), partialSeen := true } else w) }

/-- PCI configuration of a function returns to its reset state (R1068). -/
def resetCfg (f : Func) : Func :=
  { f with cfg := {}, msgs := [], masked := [], pend := [], latchTd := none, latchGlb := none }

/-- The loss actions on a port (R157), which discard its held writes and leave it in DOWN (R156). `bit` is the HP_EVENT bit of the cause. Log 112 (DEDUCED). -/
def portDown (p bit : Nat) (s : State) : State :=
  let s1 := modHport p (fun h => { h with
    st := .down, rate := 0, width := 0, flit := false, cxl := false, degraded := false, held := [], winEnable := false, winBusy := false,
    shared := [], vfEnable := false, numVfs := 0, mps := 128, mrrs := 512, lowLatency := false, hdm := none }) (skipWalls p s)
  let s2 : State := { s1 with
    funcs := s1.funcs.map (fun f => if fnPort f.1 = p then (f.1, { resetCfg f.2 with enabled := false }) else f) }
  let s3 := (portRooms s2 p).foldl (fun s rm =>
    let fn := (room s rm).fn
    lossRoom rm 1 (decide (fnSlot fn ≠ 0)) (muteDesk fn s)) s2
  lossRecord p none (some bit) (raise (16 + p) bit s3)

/-- A reset of a port by PERST# or a hot reset (R1086): its objects that apply at the next port reset are in force (R173). -/
def portReset (p : Nat) (s : State) : State :=
  { s with objNow := mdel (mdel (mdel s.objNow (okey 0x2000 (p + 1))) (okey 0x2001 (p + 1))) (okey 0x2006 (p + 1)) }

/-- LINK_LOST: 50 ms pass in HOLD without L0 (R156). -/
def linkLost (p : Nat) (s : State) : State :=
  if (hport s p).st = .hold then portDown p 2 (bump (hpBase p + 0x28) s) else s

/-- LINK_LOST (R156). -/
def execLinkLost (port : Nat) (s : State) : Answer := act losses (linkLost port) s

/-- PERST: PERST# is asserted (R156, R1122); a port already in DOWN takes no event of it. Log 188 (DESIGN CHOICE). -/
def perst (p : Nat) (s : State) : State :=
  if 8 ≤ p || (hport s p).perst then s
  else
    let s1 := portReset p (inputAccepted (p + 1) (modHport p (fun h => { h with perst := true, detect := false }) s))
    if (hport s p).st = .down then s1 else portDown p 3 s1

/-- PERST (R156). The pin's level stands whatever the device does. -/
def execPerst (port : Nat) (s : State) : Answer :=
  .next (keep losses s (if s.errs.fatal || unpowered s then (if port < 8 then modHport port (fun h => { h with perst := true }) s else s) else perst port s))

/-- HOT_RESET: a hot reset, or Link Disable, arrives (R156). -/
def hotReset (p : Nat) (s : State) : State := if (hport s p).st = .down then s else portReset p (portDown p 4 s)

/-- HOT_RESET (R156). -/
def execHotReset (port : Nat) (s : State) : Answer := act losses (hotReset port) s

/-- PERST_RELEASE: the port enters Detect, once its domain is ON (R1097). -/
def perstRelease (p : Nat) (s : State) : State :=
  if 8 ≤ p then s
  else
    let s1 := modHport p (fun h => { h with perst := false, detect := h.detect || decide ((mget s.doms (104 + p) {}).st = 2) }) s
    inputAccepted (p + 1) { s1 with power := { s1.power with released := if s1.power.released.isSome then s1.power.released else some (elapsed s1) } }

/-- PERST_RELEASE (R1097). The pin's level stands whatever the device does. -/
def execPerstRelease (port : Nat) (s : State) : Answer :=
  .next (keep [.hports, .power, .objNow] s (if s.errs.fatal || unpowered s then (if port < 8 then modHport port (fun h => { h with perst := false }) s else s) else perstRelease port s))

/-- FLR of a function: the loss actions on its queue pairs and room only (R160). Log 112 (DEDUCED). -/
def flr (fn : Nat) (s : State) : State :=
  if !(func s fn).enabled || (hport s (fnPort fn)).st ≠ .up then s
  else
    let s1 := raise (16 + fnPort fn) 7 (modFunc fn resetCfg (muteDesk fn s))
    match roomOf s fn with
    | some rm => lossRecord (fnPort fn) (some rm) (some 7) (lossRoom rm 2 false s1)
    | none => s1

/-- FLR (R160). -/
def execFlr (fn : Nat) (s : State) : Answer := act losses (flr fn) s

/-! ## Virtual functions -/

/-- A function ceases to be enabled: the loss actions of FLR, and GONE (R885). -/
def cease (fn : Nat) (s : State) : State :=
  let s1 := modFunc fn (fun f => { resetCfg f with enabled := false }) (muteDesk fn s)
  match roomOf s fn with
  | some rm => if (room s rm).removing then s1 else lossRecord (fnPort fn) (some rm) none (lossRoom rm 3 true s1)
  | none => s1

/-- The enabled VFs of a port above a number cease (R885). Log 117 (DEDUCED). -/
def ceaseAbove (p n : Nat) (s : State) : State :=
  ((List.range 65).filter (fun v => decide (n < v) && (func s (fnOf p v)).enabled)).foldl (fun s v => cease (fnOf p v) s) s

/-- VF_DISABLE: VF Enable is cleared (0 VFs remain) or NumVFs is lowered (R885). -/
def vfDisable (p n : Nat) (s : State) : State :=
  let h := hport s p
  if !h.vfEnable || h.numVfs ≤ n then s
  else ceaseAbove p n (modHport p (fun h => { h with vfEnable := decide (n ≠ 0), numVfs := n }) s)

/-- VF_DISABLE (R885). -/
def execVfDisable (port numVfs : Nat) (s : State) : Answer := act losses (vfDisable port numVfs) s

/-- The sum of a quota over the rooms but one that are not FREE. -/
def quotaSum (s : State) (rm : Nat) (f : Quotas → Nat) : Nat :=
  s.rooms.foldl (fun a p => if p.1 = rm || p.2.st = .free then a else a + f p.2.quotas) 0

/-- A default quota, or what its device limit leaves (R884). -/
def quotaLeft (s : State) (rm v limit : Nat) (f : Quotas → Nat) : Nat := Nat.min v (limit - quotaSum s rm f)

/-- The quotas of a new room (R888, R884). -/
def defaultQuotas (s : State) (rm : Nat) : Quotas :=
  { queue := obj s 0x5001 1 256
    lantern := quotaLeft s rm (obj s 0xC002 0 256) 65536 (fun q => q.lantern)
    park := obj s 0xC001 0 256
    porch := obj s 0xC100 7 256
    warm := quotaLeft s rm (obj s 0xC100 8 4096) 1048576 (fun q => q.warm)
    pin := obj s 0xC100 9 64
    party := obj s 0xC220 1 64
    manifest := quotaLeft s rm (obj s 0xC100 10 1024) 262144 (fun q => q.manifest)
    qp := quotaLeft s rm (obj s 0x5001 2 65536) 16777216 (fun q => q.qp)
    lists := [0, 1, 2, 3, 5, 6].map (fun c => (c, obj s 0xC000 (c + 1) 16)) }

/-- Whether a device limit cut a default quota (R884). -/
def quotasCut (s : State) (q : Quotas) : Bool :=
  decide (q.lantern < obj s 0xC002 0 256) || decide (q.warm < obj s 0xC100 8 4096) || decide (q.manifest < obj s 0xC100 10 1024) ||
    decide (q.qp < obj s 0x5001 2 65536)

/-- The lowest-numbered FREE room. -/
def freeRoom (s : State) : Option Nat := lowestFrom (fun r => (room s r).st == .free) 8 248

/-- How many rooms are FREE. -/
def freeRooms (s : State) : Nat := ((List.range 256).filter (fun r => decide (8 ≤ r) && (room s r).st == .free)).length

/-- Bind the lowest FREE room to a slot and create it: R881, R883, R884. -/
def createRoom (fn : Nat) (s : State) : State :=
  match freeRoom s with
  | none => s
  | some rm =>
    let q := defaultQuotas s rm
    let s1 := raise 10 0 { s with rooms := mset s.rooms rm { st := .opened, fn := fn, quotas := q } }
    if quotasCut s q then raise 10 4 s1 else s1

/-- A VF becomes enabled: its slot's room, or a new one, is its own; a VF whose room is being removed waits (R881, R904). Log 116 (DEDUCED). -/
def enableVf (fn : Nat) (s : State) : State :=
  let on := modFunc fn (fun f => { f with enabled := true })
  match roomOf s fn with
  | some rm => if (room s rm).removing then s else on (modRoom rm (fun r => { r with gone := false }) s)
  | none => on (createRoom fn s)

/-- VF_ENABLE: VF Enable is set with NumVFs (R128, R881, R882). The settings are what software gives the VFs. Log 117 (DEDUCED). -/
def vfEnable (p n : Nat) (cfg : HostCfg) (s : State) : State :=
  let vs := (List.range n).map (fun i => fnOf p (i + 1))
  let clear := fun (s : State) => ceaseAbove p 0 (modHport p (fun h => { h with vfEnable := false, numVfs := 0 }) s)
  if (hport s p).st ≠ .up || !(func s (fnOf p 0)).enabled || n = 0 || n ≤ (hport s p).numVfs then s
  else if objF s 0x2001 (p + 1) 31 < n then
    ledgerInn { kind := 0x41, severity := 0, unit := 0x200 + p, object := p, d0 := n } (clear s)
  else if freeRooms s < (vs.filter (fun f => (roomOf s f).isNone)).length then
    raise 10 3 (ledgerInn { kind := 0x42, severity := 0, unit := 0x200 + p, object := p, d0 := n } (clear s))
  else
    vs.foldl (fun s f => if (func s f).enabled then s
        else enableVf f (modFunc f (fun x => { resetCfg x with cfg := cfg }) s))
      (modHport p (fun h => { h with vfEnable := true, numVfs := n }) s)

/-- VF_ENABLE (R881). -/
def execVfEnable (port numVfs : Nat) (cfg : HostCfg) (s : State) : Answer := act losses (vfEnable port numVfs cfg) s

end Sys2Proof.Machine
end

