-- ==== Sys2Proof/Machine/Rooms.lean ====
section
/-! DEFINITION. Rooms and the Innkeeper (R879 to R917): the room commands and the mailbox. -/

namespace Sys2Proof.Machine

open Sys2Proof

/-! ## Quotas -/

/-- The device limit of a quota, and the quota of a room (R888). -/
def quotaLimit (id : Nat) : Option (Nat × (Quotas → Nat)) :=
  match id with
  | 0x02 => some (65536, fun q => q.lantern)
  | 0x05 => some (1048576, fun q => q.warm)
  | 0x08 => some (262144, fun q => q.manifest)
  | 0x09 => some (16777216, fun q => q.qp)
  | _ => none

/-- The range of a quota's VALUE; none where the ID names no quota (R888). -/
def quotaRange (id : Nat) : Option (Nat × Nat) :=
  match id with
  | 0x00 => some (0, 1) | 0x01 => some (0, 3840) | 0x02 => some (0, 16384) | 0x03 => some (0, 16384) | 0x04 => some (0, 2048)
  | 0x05 => some (0, 1048576) | 0x06 => some (0, 4096) | 0x07 => some (0, 4096) | 0x08 => some (0, 262144) | 0x09 => some (0, 16777216)
  | 0x0A => some (0, 1048575) | 0x0B => some (0, 7936)
  | 0x10 => some (1, 1024) | 0x11 => some (1, 1024) | 0x12 => some (1, 1024) | 0x13 => some (1, 1024) | 0x15 => some (1, 1024)
  | 0x16 => some (1, 1024)
  | _ => none

/-- Set a quota by its ID (R888). -/
def Quotas.put (q : Quotas) (id v : Nat) : Quotas :=
  match id with
  | 0x00 => { q with mirrored := v == 1 }
  | 0x01 => { q with queue := v }
  | 0x02 => { q with lantern := v }
  | 0x03 => { q with park := v }
  | 0x04 => { q with porch := v }
  | 0x05 => { q with warm := v }
  | 0x06 => { q with pin := v }
  | 0x07 => { q with party := v }
  | 0x08 => { q with manifest := v }
  | 0x09 => { q with qp := v }
  | 0x0A => { q with window := v }
  | 0x0B => { q with chartTable := v }
  | _ => { q with lists := mset q.lists (id - 0x10) v }

/-- Whether a VALUE lies outside its quota's range. -/
def quotaBad (id v : Nat) : Bool :=
  match quotaRange id with
  | none => true
  | some (lo, hi) => decide (v < lo) || decide (hi < v)

/-- Answer a room command: RETURN holds the room's state image after it (R891). Log 40 (DEDUCED). -/
def roomAnswer (h : FdHdr) (op result : Nat) (s : State) : State := fdAnswer h op { result := result, ret := roomImage s h.room } s

/-- A room command: the Innkeeper's alone, malformed before its own outcomes (R304, R890, R1138); a FREE room answers NO_ROOM (R891), the
Innkeeper's own room OWN_ROOM where the command refuses it (R892). Log 40 (DEDUCED). -/
def roomCmd (h : FdHdr) (op : Nat) (bad : Bool) (own : Bool) (body : State → State) (s : State) : State :=
  frontDesk h op (fun s => firstBadOf [(!isInn s h.fn, 6), (bad, 4)]) (fun s =>
    if (room s h.room).st = .free then roomAnswer h op 0x12 s
    else if own && (room s h.room).fn == innFn s then roomAnswer h op 0x5B s
    else body s) s

/-- ROOM_QUOTA: R889. -/
def roomQuota (h : FdHdr) (id v : Nat) (s : State) : State :=
  roomCmd h 0x70 (quotaBad id v) false (fun s =>
    let r := room s h.room
    if (id = 0 || id = 2) && r.st != .quiesced then roomAnswer h 0x70 0x41 s
    else if (match quotaLimit id with | some (m, f) => decide (m < quotaSum s h.room f + v) | none => false) then roomAnswer h 0x70 0x58 s
    else
      let s1 := modRoom h.room (fun r => { r with
        quotas := r.quotas.put id v
        lanterns := if id = 2 then r.lanterns.filter (fun l => decide (l.1 < v)) else r.lanterns }) s
      roomAnswer h 0x70 0 (if id = 7 then retryParties s1 else s1)) s

/-- ROOM_QUOTA (R889). -/
def execRoomQuota (h : FdHdr) (id value : Nat) (s : State) : Answer := act (answers ++ [.free, .rooms, .coll]) (roomQuota h id value) s

/-! ## Quiescing -/

/-- Every queue of a function stops fetching as on ENABLE 0 (R894, R311). -/
def stopQueues (fn : Nat) (s : State) : State := (queuesOf s fn).foldl (fun s q => queueStop fn q.1 s) s

/-- FAULT on every lantern of a room for which a parked list waits (R894). Log 121 (DEDUCED). -/
def faultWaits (rm : Nat) (s : State) : State :=
  (s.lists.filter (fun r => r.room == rm && r.st == .parked)).foldl (fun s r => lanternFault rm r.waitLantern s) s

/-- ROOM_QUIESCE: R893, R894. Log 121 (DEDUCED). -/
def roomQuiesce (h : FdHdr) (fw : Nat) (s : State) : State :=
  roomCmd h 0x71 (decide (1 < fw)) true (fun s =>
    let r := room s h.room
    if r.st ≠ .opened then roomAnswer h 0x71 0x41 s
    else
      let s1 := stopQueues r.fn (modRoom h.room (fun r => { r with
        st := .quiescing, quiesceEnd := elapsed s + BitVec.ofNat 64 (obj s 0x5002 0 10000 * 16000) }) s)
      fdHold h 0x71 (.quiesce h.room) (if fw = 1 then faultWaits h.room s1 else s1)) s

/-- ROOM_QUIESCE (R893). -/
def execRoomQuiesce (h : FdHdr) (faultWaits : Nat) (s : State) : Answer := act listWork (roomQuiesce h faultWaits) s

/-- Whether a room's drain is complete (R895). -/
def drained (s : State) (rm : Nat) : Bool :=
  let fn := (room s rm).fn
  (queuesOf s fn).all (fun q => qIdle s fn q.1) && !s.lists.any (fun r => r.room == rm) &&
    decide (roomOps s rm = 0) && !s.coll.members.any (fun m => m.room == rm) &&
    s.windows.all (fun w => w.2.st == 0 || w.2.room != rm || w.2.admitted == 0) &&
    decide (usedUnits s 0 rm = 0) && decide (usedUnits s 1 rm = 0)

/-- QUIESCED: the drain is complete (R893, R895). -/
def quiesced (rm : Nat) (s : State) : State :=
  if (room s rm).st = .quiescing && drained s rm then
    endQuiesce rm 0 (raise 10 1 (modRoom rm (fun r => { r with st := .quiesced }) s))
  else s

/-- QUIESCED (R895). -/
def execQuiesced (room : Nat) (s : State) : Answer := act (answers ++ [.events, .rooms]) (quiesced room) s

/-- QUIESCE_TIMEOUT: QUIESCE_LIMIT passes (R893). -/
def quiesceTimeout (rm : Nat) (s : State) : State :=
  if (room s rm).st = .quiescing && reached (room s rm).quiesceEnd (elapsed s) then
    endQuiesce rm 0x59 (lossRecord (fnPort (room s rm).fn) (some rm) none (quarantine rm 5 false s))
  else s

/-- QUIESCE_TIMEOUT (R893). -/
def execQuiesceTimeout (room : Nat) (s : State) : Answer := act losses (quiesceTimeout room) s

/-- ROOM_RESUME: R893. -/
def roomResume (h : FdHdr) (s : State) : State :=
  roomCmd h 0x72 false false (fun s =>
    if (room s h.room).st = .quiesced then roomAnswer h 0x72 0 (modRoom h.room (fun r => { r with st := .opened }) s)
    else roomAnswer h 0x72 0x41 s) s

/-- ROOM_RESUME (R893). -/
def execRoomResume (h : FdHdr) (s : State) : Answer := act (answers ++ [.rooms]) (roomResume h) s

/-- ROOM_QUARANTINE: R893. -/
def roomQuarantine (h : FdHdr) (s : State) : State :=
  roomCmd h 0x74 false true (fun s =>
    let r := room s h.room
    if r.st = .quarantined then roomAnswer h 0x74 0x41 s
    else roomAnswer h 0x74 0 (lossRecord (fnPort r.fn) (some h.room) none (lossRoom h.room 4 false s))) s

/-- ROOM_QUARANTINE (R893). -/
def execRoomQuarantine (h : FdHdr) (s : State) : Answer := act losses (roomQuarantine h) s

/-! ## Release, reset and removal -/

/-- Free every queue of a function. -/
def freeQueues (fn : Nat) (s : State) : State := { s with queues := s.queues.filter (fun p => decide (p.1 / 4096 ≠ fn)) }

/-- Free every QP of a function as QP_DESTROY does; each connected one sends NAK TARGET_RESET first (R897, R900). Log 119 (DEDUCED). -/
def freeQps (fn : Nat) (s : State) : State :=
  (s.qps.filter (fun p => p.2.fn == fn && decide (p.1 < 2 ^ 24) && p.2.st != .free)).foldl (fun s p =>
    let q := qp s p.1
    qpFree p.1 q (if q.st = .init then s else sendNak p.1 4 q.cumPsn s)) s

/-- The front desk registers of a function return to their reset values (R897, R1068). Log 113 (DESIGN CHOICE). -/
def resetDesk (fn : Nat) (s : State) : State :=
  modFunc fn (fun f => { f with fd := { running := f.fd.running, mute := f.fd.running.isSome } }) s

/-- What ROOM_RELEASE does: R897. The registers of the front desk that asks for it are reset once it is answered. Log 115 (DEDUCED). -/
def releaseActs (rm : Nat) (s : State) : State :=
  let fn := (room s rm).fn
  let s1 := freeQps fn (freeQueues fn s)
  if isInn s fn then s1 else resetDesk fn s1

/-- Revoke and free a window (R898, R268, R270). -/
def dropWindow (i : Nat) (s : State) : State :=
  let w := window s i
  let s1 := bump 0x230028 { s with
    windows := mset s.windows i { w with gen := if w.st = 1 then w.gen + 1 else w.gen, st := 0, heldSeen := false }, winFreed := s.winFreed ++ [i] }
  match revoker s i with
  | some (h, op) => fdAnswer h op { held := w.heldSeen } s1
  | none => s1

/-- Revoke and free every window of a room. -/
def dropWindows (rm : Nat) (s : State) : State :=
  (s.windows.filter (fun w => w.2.st != 0 && w.2.room == rm)).foldl (fun s w => dropWindow w.1 s) s

/-- Extents that a room owns. -/
def extentsOf (s : State) (rm : Nat) : List Nat := (s.mem.extents.filter (fun e => e.2.owner == some rm)).map (fun e => e.1)

/-- The room's memory goes: its chart leaves, its extents, its Harbour reservations and its keys (R898, R245, R190). Log 120 (DEDUCED). -/
def dropMemory (rm : Nat) (s : State) : State :=
  let s1 := tlbPurge (fun e => match e with | .chart _ x _ _ => x == rm | .host _ _ _ _ _ _ _ _ => false)
    (modRoom rm (fun r => { r with leaves1 := [], leaves2 := [], tables := [], resv0 := 0, resv1 := 0, keys := [] }) s)
  (extentsOf s rm).foldl (fun s e => match reclaimOne e s with | .ok t => t | .error _ => s) s1

/-- What ROOM_RESET does besides: R898. Log 115 (DEDUCED). -/
def resetActs (rm : Nat) (keep : Bool) (s : State) : State :=
  let s1 := retryParties (modColl (fun c => { c with parties := c.parties.filter (fun p => p.2.room != rm) }) (dropWindows rm s))
  let s2 := modRoom rm (fun r => { r with
    lanterns := [], epoch := nextEpoch r.epoch, outBox := {}, inBox := {}, guestCfg := {}, keeperCfg := {} }) s1
  if keep then s2 else dropMemory rm s2

/-- ROOM_RELEASE: QUARANTINED, not GONE, ends in OPEN (R893, R897). Log 46 (DEDUCED), 113 (DESIGN CHOICE). -/
def roomRelease (h : FdHdr) (s : State) : State :=
  roomCmd h 0x75 false false (fun s =>
    let r := room s h.room
    if r.st ≠ .quarantined || r.gone then roomAnswer h 0x75 0x41 s
    else
      let s1 := roomAnswer h 0x75 0 (modRoom h.room (fun r => { r with st := .opened, qcause := 0 }) (releaseActs h.room s))
      if isInn s r.fn then resetDesk r.fn s1 else s1) s

/-- ROOM_RELEASE (R897). -/
def execRoomRelease (h : FdHdr) (s : State) : Answer := act losses (roomRelease h) s

/-- ROOM_RESET: QUIESCED, or QUARANTINED and not GONE, ends in OPEN (R893, R898). Log 113 (DESIGN CHOICE). -/
def roomReset (h : FdHdr) (keep : Nat) (s : State) : State :=
  roomCmd h 0x73 (decide (1 < keep)) true (fun s =>
    let r := room s h.room
    if r.st = .quiesced || (r.st == .quarantined && !r.gone) then
      roomAnswer h 0x73 0 (modRoom h.room (fun r => { r with st := .opened, qcause := 0 }) (resetActs h.room (keep == 1) (releaseActs h.room s)))
    else roomAnswer h 0x73 0x41 s) s

/-- ROOM_RESET (R898). -/
def execRoomReset (h : FdHdr) (keepMemory : Nat) (s : State) : Answer := act losses (roomReset h keepMemory) s

/-- A room becomes FREE: its binding clears, its Breakwater and its shaper return to their reset values (R899); a VF that waited for the
removal is bound to a fresh room (R904). Log 116 (DEDUCED). -/
def freeRoomNow (rm : Nat) (s : State) : State :=
  let fn := (room s rm).fn
  let off := fun (k : Nat) => decide (rshape rm ≤ k) && decide (k < rshape rm + 0x20)
  let s1 : State := { s with
    rooms := mdel s.rooms rm
    regs := s.regs.filter (fun p => !off p.1)
    eff := s.eff.filter (fun p => !off p.1)
    bufs := s.bufs.filter (fun p => !off p.1)
    tokens := s.tokens.filter (fun p => !off p.1) }
  if (hport s (fnPort fn)).vfEnable && decide (fnSlot fn ≤ (hport s (fnPort fn)).numVfs) then enableVf fn s1 else s1

/-- The removals whose extents have all left RECLAIMING complete (R899). Log 35 (DEDUCED), 120 (DEDUCED). -/
def removeCheck (s : State) : State :=
  s.funcs.foldl (fun s p =>
    match (func s p.1).fd.running with
    | some (h, op, .remove rm es) =>
      if es.any (fun e => (extOf s e).st == .reclaiming) then s
      else fdAnswer h op {} (freeRoomNow rm s)
    | _ => s) s

/-- ROOM_REMOVE: R892, R893, R899. Log 120 (DEDUCED). -/
def roomRemove (h : FdHdr) (s : State) : State :=
  roomCmd h 0x76 false true (fun s =>
    let r := room s h.room
    if h.room < 8 || !r.gone then roomAnswer h 0x76 0x5A s
    else if r.st ≠ .quarantined then roomAnswer h 0x76 0x41 s
    else
      let es := extentsOf s h.room
      removeCheck (fdHold h 0x76 (.remove h.room es)
        (modRoom h.room (fun r => { r with removing := true }) (resetActs h.room false (releaseActs h.room s))))) s

/-- ROOM_REMOVE (R899). -/
def execRoomRemove (h : FdHdr) (s : State) : Answer := act (losses ++ [.regs, .eff, .bufs, .tokens]) (roomRemove h) s

/-- RECLAIM_DONE: the extent is FREE, and a removal that waited for it may complete (R190, R899). -/
def execReclaimDone (extent : Nat) (s : State) : Answer := act (answers ++ [.regs, .eff, .bufs, .events, .rooms, .tokens]) (fun s => removeCheck (reclaimDone extent s)) s

/-- The eight words of ROOM_QUERY (R888). -/
def roomWords (s : State) (rm : Nat) : List Nat :=
  let r := room s rm
  let q := r.quotas
  [roomImage s rm,
    q.porch * 2 ^ 48 + q.park * 2 ^ 32 + q.lantern * 2 ^ 16 + q.queue,
    q.party * 2 ^ 48 + q.pin * 2 ^ 32 + q.warm,
    q.qp * 2 ^ 32 + q.manifest,
    b2n q.mirrored * 2 ^ 48 + q.chartTable * 2 ^ 32 + q.window,
    listQuota r 3 * 2 ^ 48 + listQuota r 2 * 2 ^ 32 + listQuota r 1 * 2 ^ 16 + listQuota r 0,
    r.resv1 * 2 ^ 48 + r.resv0 * 2 ^ 32 + listQuota r 6 * 2 ^ 16 + listQuota r 5,
    (extentsOf s rm).length]

/-- ROOM_QUERY: 64 B at RESULT_ADDR (R888, R890). -/
def roomQuery (h : FdHdr) (s : State) : State :=
  frontDesk h 0x77 (fun s => firstBadOf [(!isInn s h.fn, 6), (badResultAddr s h, 5)]) (fun s =>
    if (room s h.room).st = .free then roomAnswer h 0x77 0x12 s
    else
      fdResult h (wordsLe (roomWords s h.room)) (fun c s => roomAnswer h 0x77 c s) s) s

/-- ROOM_QUERY (R890). -/
def execRoomQuery (h : FdHdr) (s : State) : Answer := act dataAccess (roomQuery h) s

/-! ## The mailbox -/

/-- The keeper of a room: the Innkeeper for rooms 0 to 7, the PF of its port for a VF's room (R906). -/
def keeperOf (s : State) (rm : Nat) : Nat := if rm < 8 then innFn s else fnOf (fnPort (room s rm).fn) 0

/-- Whether a function may write a side of a room's mailbox (R886). Log 122 (DEDUCED). -/
def mailRight (s : State) (fn rm : Nat) (keeper : Bool) : Bool :=
  (func s fn).enabled && (room s rm).st != .free && (if keeper then fn == keeperOf s rm else fn == (room s rm).fn)

/-- A direction of a mailbox: OUT is the guest's, IN the keeper's (R906). -/
def mailDir (r : Room) (out : Bool) : MailDir := if out then r.outBox else r.inBox

/-- Change a direction. -/
def putDir (rm : Nat) (out : Bool) (d : MailDir) (s : State) : State :=
  modRoom rm (fun r => if out then { r with outBox := d } else { r with inBox := d }) s

/-- Raise a side's vector (R908, R909). -/
def mailIrq (rm : Nat) (keeper : Bool) (s : State) : State :=
  let r := room s rm
  if keeper then msix (keeperOf s rm) r.keeperCfg.vector s else msix r.fn r.guestCfg.vector s

/-- MAILBOX_POST: R908. The sender is the keeper, or else the guest. Log 122 (DEDUCED). -/
def mailPost (fn rm : Nat) (keeper : Bool) (len : Nat) (s : State) : State :=
  if !mailRight s fn rm keeper then silent s
  else
    let r := room s rm
    let d := mailDir r (!keeper)
    if d.posted || len = 0 || 16 < len then s
    else
      let s1 := putDir rm (!keeper) { d with posted := true, len := len, posts := d.posts + 1 } s
      let s2 := if (if keeper then r.guestCfg.irqEn else r.keeperCfg.irqEn) then mailIrq rm (!keeper) s1 else s1
      if !keeper && decide (rm < 8) then raise 10 5 s2 else s2

/-- MAILBOX_POST (R908). -/
def execMailboxPost (fn room : Nat) (keeper : Bool) (len : Nat) (s : State) : Answer := act (interrupts ++ [.cnt, .rooms]) (mailPost fn room keeper len) s

/-- MAILBOX_ACK: the receiver makes the other side's direction IDLE (R909). Log 122 (DEDUCED). -/
def mailAck (fn rm : Nat) (keeper : Bool) (s : State) : State :=
  if !mailRight s fn rm keeper then silent s
  else
    let r := room s rm
    let d := mailDir r keeper
    if !d.posted then s
    else
      let s1 := putDir rm keeper { d with posted := false } s
      if (if keeper then r.guestCfg.ackIrq else r.keeperCfg.ackIrq) then mailIrq rm (!keeper) s1 else s1

/-- MAILBOX_ACK (R909). -/
def execMailboxAck (fn room : Nat) (keeper : Bool) (s : State) : Answer := act (answers ++ [.rooms]) (mailAck fn room keeper) s

end Sys2Proof.Machine
end

