-- ==== Sys2Proof/Machine/Seal.lean ====
section
/-! DEFINITION. Key slots, key rotation, management keys and the life cycle (R925 to R950). -/

namespace Sys2Proof.Machine

open Sys2Proof

/-- The value that a write of one part of a 64-bit register leaves (R1047, R1048). Log 156 (DEDUCED). -/
def partWrite (old : Word) (part : Part) (v : Word) : Word :=
  match part with
  | .full => v
  | .low => setFld old 31 0 (v.toNat % 2 ^ 32)
  | .high => setFld old 63 32 (v.toNat % 2 ^ 32)
  | .bytes _ => old

/-- Change the seal engine's record. -/
def modSeal (f : Seal → Seal) (s : State) : State := { s with sealing := f s.sealing }

/-- A key slot: of a room, or the fabric slot when no room is named (R925). -/
def slotOf (s : State) (owner : Option Nat) (i : Nat) : KeySlot :=
  match owner with
  | some rm => mget (room s rm).keys i {}
  | none => mget s.sealing.fab i {}

/-- Change a key slot. -/
def modSlot (owner : Option Nat) (i : Nat) (f : KeySlot → KeySlot) (s : State) : State :=
  match owner with
  | some rm => modRoom rm (fun r => { r with keys := mmod r.keys i {} f }) s
  | none => modSeal (fun x => { x with fab := mmod x.fab i {} f }) s

/-- Whether room and fabric keys may be loaded in this life-cycle state (R947). -/
def keysAllowed (s : State) : Bool := s.sealing.lc == 1 || s.sealing.lc == 2

/-- Write one word of a bank; word 3 loads it (R926). -/
def KeyBank.write (b : KeyBank) (w : Nat) (part : Part) (v : Word) : KeyBank :=
  { words := mset b.words w (partWrite (mget b.words w 0) part v), loaded := b.loaded || w == 3 }

/-- Change one bank of a slot. -/
def KeySlot.modBank (k : KeySlot) (b : Nat) (f : KeyBank → KeyBank) : KeySlot := if b = 0 then { k with b0 := f k.b0 } else { k with b1 := f k.b1 }

/-- A write of word w, from 0 to 7, of a slot (R926): accepted only while the bank is not LOADED and no rotation is armed. -/
def keyWord (owner : Option Nat) (i w : Nat) (part : Part) (v : Word) (s : State) : State :=
  let k := slotOf s owner i
  if (k.bank (w / 4)).loaded || k.rotating || !keysAllowed s then silent s
  else modSlot owner i (fun k => k.modBank (w / 4) (fun b => b.write (w % 4) part v)) s

/-- Who owns the slots that a function's write reaches: its room, or the fabric slots for the Innkeeper. -/
def slotOwner (s : State) (fn : Nat) (fabric : Bool) : Option (Option Nat) :=
  if fabric then (if isInn s fn then some none else none)
  else if (func s fn).enabled then (roomOf s fn).map some else none

/-- KEY_BANK_LOAD (R926). -/
def keyBankLoad (fn : Nat) (fabric : Bool) (i w : Nat) (part : Part) (v : Word) (s : State) : State :=
  match slotOwner s fn fabric with
  | some owner => if i < 16 && w < 8 then keyWord owner i w part v s else s
  | none => s

/-- A request of several accesses of 8 B, in ascending address order, each with the part that it covers (R1050). -/
def eachAccess (f : Nat → Part → Word → State → State) : Nat → List (Part × Word) → State → State
  | _, [], s => s
  | i, x :: r, s => eachAccess f (i + 1) r (byPart x.1 (fun p s => f i p x.2 s) s)

/-- KEY_BANK_LOAD (R926): a bank can be written in one request, whose last word loads it (R1050). -/
def execKeyBankLoad (fn : Nat) (fabric : Bool) (slot word : Nat) (accesses : List (Part × Word)) (s : State) : Answer :=
  act [.cnt, .rooms, .sealing] (eachAccess (fun i p v s => keyBankLoad fn fabric slot (word + i) p v s) 0 accesses) s

/-- A write of ROTATE_AT arms a rotation when the idle bank is LOADED and none is armed (R927). Log 123 (DEDUCED). -/
def rotateAt (owner : Option Nat) (i : Nat) (time : Word) (s : State) : State :=
  let k := slotOf s owner i
  if (k.bank (1 - k.active)).loaded && !k.rotating then modSlot owner i (fun k => { k with rotateAt := time, rotating := true }) s else s

/-- ROTATE_AT_WRITE (R927). -/
def rotateAtWrite (fn : Nat) (fabric : Bool) (i : Nat) (part : Part) (time : Word) (s : State) : State :=
  match slotOwner s fn fabric with
  | some owner => if i < 16 then rotateAt owner i (partWrite (slotOf s owner i).rotateAt part time) s else s
  | none => s

/-- ROTATE_AT_WRITE (R927). -/
def execRotateAtWrite (fn : Nat) (fabric : Bool) (slot : Nat) (part : Part) (time : Word) (s : State) : Answer :=
  act [.rooms, .sealing] (byPart part (fun p s => rotateAtWrite fn fabric slot p time s)) s

/-- The end of a rotation: the banks change roles and the former active bank is erased (R929). -/
def KeySlot.rotated (k : KeySlot) : KeySlot :=
  { (k.modBank k.active (fun _ => {})) with active := 1 - k.active, rotating := false }

/-- KEY_ROTATE_COMPLETE: ROTATE_AT + 1 ms (R929); a fabric slot reports it (R952). Log 2 (DESIGN CHOICE). -/
def keyRotateComplete (owner : Option Nat) (i : Nat) (s : State) : State :=
  let k := slotOf s owner i
  if k.rotating && reached (k.rotateAt + 16000000#64) s.tide.count then
    (if owner.isNone then raise 9 2 (modSlot owner i KeySlot.rotated s) else modSlot owner i KeySlot.rotated s)
  else s

/-- KEY_ROTATE_COMPLETE (R929). -/
def execKeyRotateComplete (owner : Option Nat) (slot : Nat) (s : State) : Answer := act (interrupts ++ [.rooms, .sealing]) (keyRotateComplete owner slot) s

/-- Whether a slot is in use (R931): a QP of the room is bound to it, or a sealed itinerary uses the fabric slot. -/
def slotInUse (s : State) (owner : Option Nat) (i : Nat) : Bool :=
  match owner with
  | some rm => s.qps.any (fun p => p.2.st != .free && p.2.room == rm && p.2.keySlot == some i)
  | none => s.coll.itins.any (fun p => p.2.sealed && p.1 % 16 == i)

/-- KEY_ERASE (R931, front desk opcode 0x81). Log 123 (DEDUCED). -/
def keyErase (h : FdHdr) (i : Nat) (fabric : Bool) (s : State) : State :=
  frontDesk h 0x81 (fun s => firstBadOf [(fabric && !isInn s h.fn, 6), (decide (16 ≤ i), 4)])
    (fun s =>
      let owner := if fabric then none else roomOf s h.fn
      if !fabric && owner.isNone then s
      else if slotInUse s owner i then fdAnswer h 0x81 { result := 0x09 } s
      else fdAnswer h 0x81 {} (modSlot owner i (fun k => { k with b0 := {}, b1 := {} }) s)) s

/-- KEY_ERASE (R931). -/
def execKeyErase (h : FdHdr) (slot : Nat) (fabric : Bool) (s : State) : Answer := act (answers ++ [.rooms, .sealing]) (keyErase h slot fabric) s

/-! ## Key objects -/

/-- FABRIC_KEY_WRITE: the four words of a bank of a fabric slot, least first (object 0xA100:01, R926). Log 127 (DEDUCED). -/
def fabricKeyWrite (i b : Nat) (key : List Byte) (s : State) : State :=
  if 16 ≤ i || 2 ≤ b then silent s
  else
    let k := slotOf s none i
    if (k.bank b).loaded || k.rotating || !keysAllowed s then silent s
    else (List.range 4).foldl (fun s w => keyWord none i (4 * b + w) .full (BitVec.ofNat 64 (wordAt key w)) s) s

/-- FABRIC_KEY_WRITE (R926). -/
def execFabricKeyWrite (slot bank : Nat) (key : List Byte) (s : State) : Answer := act [.cnt, .rooms, .sealing] (fabricKeyWrite slot bank key) s

/-- FABRIC_ROTATE (object 0xA100:02, R927). -/
def fabricRotate (i : Nat) (time : Word) (s : State) : State :=
  if !keysAllowed s then silent s else if i < 16 then rotateAt none i time s else s

/-- FABRIC_ROTATE (R927). -/
def execFabricRotate (slot : Nat) (time : Word) (s : State) : Answer := act [.cnt, .rooms, .sealing] (fabricRotate slot time) s

/-- MGMT_KEY: a remote write needs a CMAC under a loaded key (R943); the key's freshness starts again (R1015). Log 124 (DEDUCED). -/
def mgmtKey (k : Nat) (key : List Byte) (remote authentic : Bool) (s : State) : State :=
  if k = 0 || 4 < k then s
  else if remote && !authentic then bump 0x380120 s
  else if !keysAllowed s then silent s
  else { s with
    sealing := { s.sealing with mgmt := mset s.sealing.mgmt k (leBytes 32 (ofLe key)) }
    dict := { s.dict with fresh := mset s.dict.fresh k {} } }

/-- MGMT_KEY (R943). -/
def execMgmtKey (slot : Nat) (key : List Byte) (remote authentic : Bool) (s : State) : Answer := act [.cnt, .sealing, .dict] (mgmtKey slot key remote authentic) s

/-! ## The life cycle -/

/-- How a request stands to the rows of R944: it matches none, it is a plain request of its row, or its row asks for a vendor token. `path` is 0
over the test access port, 1 over the management port, 2 over MCTP. -/
inductive LcRow where
  | none | plain | token
  deriving DecidableEq, Repr

/-- The row that a request matches (R944). Log 125 (DEDUCED). -/
def lcRow (lc target path : Nat) (authentic : Bool) : LcRow :=
  match lc, target with
  | 0, 1 => if path = 0 then .token else .none
  | 1, 2 => if path = 0 then .none else .plain
  | 2, 3 => if path = 0 then .none else .token
  | 2, 4 => if path ≠ 0 && authentic then .plain else .none
  | 3, 4 => .token
  | _, _ => .none

/-- Whether a token names this device, the nonce that stands, and no reserved bit (R949). -/
def tokenNames (s : State) (t : List Byte) : Bool :=
  ofBe (t.take 4) == 1 && ofBe ((t.drop 4).take 8) == Config.deviceId.toNat && ofBe ((t.drop 12).take 16) == s.sealing.nonce &&
    ofBe ((t.drop 29).take 3) == 0

/-- A refused request: LC_RESULT, a fresh nonce, the event; a refused token counts towards the eight (R944, R950). Log 125 (DEDUCED). -/
def lcRefuse (result : Nat) (token : Bool) (s : State) : State :=
  raise 9 3 { s with
    free := s.free + 2
    sealing := { s.sealing with
      lcResult := result
      refused := s.sealing.refused + b2n token
      nonce := (Config.freeValue s.free).toNat + 2 ^ 64 * (Config.freeValue (s.free + 1)).toNat } }

/-- What leaves the device on the way out of SEALED (R946). -/
def eraseSecrets (s : State) : State :=
  { s with
    rooms := s.rooms.map (fun p => (p.1, { p.2 with keys := [] }))
    objs := mdel s.objs (okey 0xA010 0)
    sealing := { s.sealing with fab := [], mgmt := [], erased := true }
    dict := { s.dict with flash := mdel s.dict.flash (okey 0xA010 0), fresh := [] } }

/-- A transition: the erasure when it leaves SEALED, then its fuse, then the module reset (R944 to R948). Log 126 (DESIGN CHOICE). -/
def lcMove (target : Nat) (t : List Byte) (s : State) : State :=
  let s1 := if s.sealing.lc = 2 then eraseSecrets s else s
  let s2 := modSeal (fun x => { x with
    fuse := some target
    mgmt := if target = 3 then [(1, leBytes 32 (Config.vendorKey t).toNat)] else x.mgmt }) s1
  moduleReset 3 s2

/-- LC_REQUEST: R944, R949, R950. Log 10 (DESIGN CHOICE), 194 (DEDUCED). -/
def lcRequest (t : List Byte) (path : Nat) (authentic : Bool) (s : State) : State :=
  let target := ofBe ((t.drop 28).take 1)
  let row := lcRow s.sealing.lc target path authentic
  let token := row == .token || ofBe (t.take 4) == 1
  if s.sealing.fuse.isSome || !core2Runs s then s
  else if token && decide (8 ≤ s.sealing.refused) then lcRefuse 3 false s
  else
    match row with
    | .none => lcRefuse 1 token s
    | .plain => lcMove target t s
    | .token =>
      if !tokenNames s t then lcRefuse 1 true s
      else if !Config.ecdsa (t.take 32) (t.drop 32) then lcRefuse 2 true s
      else lcMove target t s

/-- LC_REQUEST (R944). -/
def execLcRequest (token : List Byte) (path : Nat) (authentic : Bool) (s : State) : Answer := act everything (lcRequest token path authentic) s

end Sys2Proof.Machine
end

