-- ==== Sys2Proof/Machine/Power.lean ====
section
/-! DEFINITION. Power domains, the limiter, the thermal monitor, resets and start-up, and the management port's addresses (R1020, R1070 to R1131). -/

namespace Sys2Proof.Machine

open Sys2Proof

/-- Change the power record. -/
def modPower (f : Power → Power) (s : State) : State := { s with power := f s.power }

/-- PW_LIMIT in W. -/
def powerLimit (s : State) : Nat := wfld (rd s 0x270018 2000) 15 0

/-! ## Domains -/

/-- Whether an extent of a range, given by its first and its count, is in a state that keeps its memory ON. -/
def extentsHold (s : State) (first count : Nat) (offline : Bool) : Bool :=
  let holds := fun (x : Extent) => x.st == .system || x.st == .granted || x.st == .reclaiming || (offline && x.st == .offline && x.owner.isSome)
  s.mem.extents.any (fun p => decide (first ≤ p.1) && decide (p.1 < first + count) && holds p.2) || (first == 0 && holds (extOf s 0))

/-- The extents with memory on a stack or channel group, by domain: first and count (R178, R179). -/
def memExtents (s : State) (d : Nat) : Nat × Nat :=
  if d < 120 then (if s.mem.dieLocal0 then (128 * domDie d, 128) else (0, 256))
  else if s.mem.dieLocal1 then (1024 + 512 * domDie d, 512) else (1024, 1024)

/-- Whether a domain may not leave ON now (R1074): PINNED. Log 17 (DEDUCED). -/
def domPinned (s : State) (d : Nat) : Bool :=
  match domKind d with
  | 3 => d - 104 == innPort s
  | 4 => extentsHold s (2048 + 1024 * (d - 112)) 1024 true
  | 5 => extentsHold s (memExtents s d).1 (memExtents s d).2 false
  | 6 => extentsHold s (memExtents s d).1 (memExtents s d).2 false || (List.range 2).any (fun e => (dom s (112 + 2 * domDie d + e)).st == 2)
  | 7 =>
    let die := domDie d
    decide ((d - 128) % 8 < 3) || decide (dieCap (modDom d (fun x => { x with st := 0 }) s) die < resvSum s die + transitPool s die)
  | 8 => d % 2 == 0 || (List.range 8).any (fun i => (dom s (64 + 8 * (d - 144) + i)).st != 0)
  | 9 => d == 149
  | _ => false

/-- A domain changes STATE, and the change is reported (R1046). -/
def domTo (d st : Nat) (s : State) : State := raise 11 0 (modDom d (fun x => { x with st := st }) s)

/-- A refused request (R1074). Log 135 (DEDUCED). -/
def domRefuse (s : State) : State := raise 11 3 s

/-- What leaving ON does (R1074), once the domain no longer reads ON. -/
def domLeave (d : Nat) (s : State) : State :=
  match domKind d with
  | 0 => classChecks (requeueBehind d s)
  | 1 => if (fport s (d - 64)).enable then fpDisable (d - 64) s else s
  | 2 => permitDrop (d - 96) s
  | 3 =>
    let p := d - 104
    modHport p (fun h => { h with detect := false }) (if (hport s p).st = .down then s else portDown p 3 s)
  | 4 => modDs (d - 112) (fun _ => {}) s
  | _ => s

/-- A request that takes effect now: R1072 to R1074. The first component says whether it was refused. Log 135 (DEDUCED). -/
def domApply (d v : Nat) (s : State) : Bool × State :=
  let x := dom s d
  let want := fun (s : State) =>
    modPower (fun p => { p with queue := p.queue.filter (fun e => e != d) ++ [d] })
      (modDom d (fun x => { x with req := 2, wanting := true }) s)
  if v = 2 then (false, if x.st = 2 then modDom d (fun x => { x with req := 2 }) s else if x.wanting then s else want s)
  else if v = 1 && !domRetains d then (true, domRefuse s)
  else if x.st = 2 then
    (if domPinned s d then (true, domRefuse s)
    else (false, domLeave d (modDom d (fun x => { x with req := v }) (domTo d 4 s))))
  else
    let idle := modPower (fun p => { p with queue := p.queue.filter (fun e => e != d) })
      (modDom d (fun x => { x with req := v, wanting := false, boot := false }) s)
    if x.st = 1 && v = 0 then
      (if domPinned s d then (true, domRefuse s) else (false, domTo d 0 (modDom d (fun x => { x with cold := true }) idle)))
    else (false, idle)

/-- A write of REQUEST (R1046, R1072 to R1074); while core 2 is halted nothing comes of it (R48). Log 135 (DEDUCED), 194 (DEDUCED). -/
def domRequest (d v : Nat) (s : State) : Bool × State :=
  let x := dom s d
  if 151 ≤ d || 3 ≤ v || d = 148 || d = 150 then (false, s)
  else if d = 149 then (if v = 2 then (false, s) else (true, domRefuse s))
  else if x.st = 3 || x.st = 4 || !core2Runs s then
    (false, modDom d (fun y => { y with next := if v = (if x.st = 3 then 2 else x.req) then none else some v }) s)
  else domApply d v s

/-- A write that came during a transition takes effect as it ends (R1073). Log 135 (DEDUCED). -/
def domNext (d : Nat) (s : State) : State :=
  match (dom s d).next with
  | none => s
  | some v => (domApply d v (modDom d (fun x => { x with next := none }) s)).2

/-- DOMAIN_REQUEST: an armed write of PW_DOMAIN by the Innkeeper (R1054, R1055, R1072). -/
def domainRequest (fn d v : Nat) (s : State) : State :=
  if !isInn s fn || 151 ≤ d then s
  else if armed s 11 then (domRequest d v (disarm 11 s)).2
  else if v = (dom s d).req then s else silent s

/-- DOMAIN_REQUEST (R1072). -/
def execDomainRequest (fn domain value : Nat) (s : State) : Answer := act (losses ++ [.arms, .doms, .lasers, .power]) (domainRequest fn domain value) s

/-- Wake steps admitted in the last 100 µs, in W (R1076). -/
def recentSteps (s : State) : Nat :=
  (s.power.admits.filter (fun a => decide (sdiff (elapsed s) a.1 < 1600000))).foldl (fun n a => n + a.2) 0

/-- Whether a waiting wake is admitted (R1076). Log 136 (DEDUCED). -/
def admits (s : State) (average d : Nat) : Bool :=
  decide (recentSteps s + domStep d ≤ 60) && decide (average + domStep d ≤ powerLimit s) &&
    !s.doms.any (fun p => p.2.st == 3 && domKind p.1 == domKind d && domDie p.1 == domDie d)

/-- DOMAIN_WAKE_ADMIT: core 2 admits the oldest waiting wake that R1076 allows; `average` is the input power over the last 1 ms in W. Log 136 (DEDUCED), 194 (DEDUCED). -/
def domainWakeAdmit (average : Nat) (s : State) : State :=
  match (if core2Runs s then s.power.queue.find? (fun d => admits s average d) else none) with
  | none => s
  | some d =>
    domTo d 3 (modPower (fun p => { p with
        queue := p.queue.filter (fun e => e != d)
        admits := (elapsed s, domStep d) :: p.admits.filter (fun a => decide (sdiff (elapsed s) a.1 < 1600000)) })
      (modDom d (fun x => { x with wanting := false }) s))

/-- DOMAIN_WAKE_ADMIT (R1076). -/
def execDomainWakeAdmit (average : Nat) (s : State) : Answer := act (interrupts ++ [.doms, .power]) (domainWakeAdmit average) s

/-- The memory of a domain that was OFF reads zero: its valid-bit map clears (R186, R1075). -/
def memCold (d : Nat) (s : State) : State :=
  { s with
    mem := (s.mem.valid.filter (fun b => memNo s (b * 4096) == d - 116)).foldl (fun m b => clearBlocks m b 1)
      { s.mem with badMap := s.mem.badMap.filter (fun w => w / 2 ^ 32 != d - 116) }
    mapLines := mdel s.mapLines (d - 116) }

/-- The banks of a retention group that was OFF lose their data and their valid bits (R186, R1075): general units of the carve-out. -/
def harbourCold (g : Nat) (s : State) : State :=
  let us := (List.range 1856).filter (fun u => unitBank u / 4 == g % 8 && decide (12 ≤ unitBank u))
  { s with mem := us.foldl (fun m u => clearBlocks m (unitBlock (g / 8) u) 16) s.mem }

/-- A downstream port whose domain comes ON trains (R165, R167). -/
def dsTrain (d : Nat) (s : State) : State := if (mget s.ds d {}).st = 0 then modDs d (fun p => { p with st := 1 }) s else s

/-- What reaching ON does, by kind (R1070, R1094, R1097). -/
def domArrive (d : Nat) (x : Dom) (s : State) : State :=
  match domKind d with
  | 0 => classChecks s
  | 1 => if x.boot && obj s 0x2801 (d - 63) 1 = 1 then fpEnable (d - 64) s else s
  | 2 => laserCheck (d - 96) s
  | 3 => modHport (d - 104) (fun h => { h with detect := !h.perst }) s
  | 4 => dsTrain (d - 112) s
  | 5 => if x.cold then memCold d s else s
  | 6 => if x.cold then memCold d s else s
  | 7 => if x.cold then harbourCold (d - 128) s else s
  | _ => s

/-- DOMAIN_ON: a waking domain passes its checks (R1072). -/
def domainOn (d : Nat) (s : State) : State :=
  let x := dom s d
  if x.st ≠ 3 || !core2Runs s then s
  else
    domNext d (domArrive d x (bump (0x272000 + 8 * d) (domTo d 2 (modDom d (fun y => { y with cold := false, boot := false }) s))))

/-- DOMAIN_ON (R1072). -/
def execDomainOn (domain : Nat) (s : State) : Answer := act (losses ++ [.doms, .lasers, .power]) (domainOn domain) s

/-- WAKE_FAIL: a check fails, or ten times the kind's latency passes (R1072). -/
def wakeFail (d : Nat) (s : State) : State :=
  if (dom s d).st ≠ 3 || !core2Runs s then s
  else domNext d (raise 11 2 (domTo d 0 (modDom d (fun y => { y with cold := true, boot := false }) s)))

/-- WAKE_FAIL (R1072). -/
def execWakeFail (domain : Nat) (s : State) : Answer := act (losses ++ [.doms, .lasers, .power]) (wakeFail domain) s

/-- DOMAIN_SLEEP_DONE: the drain of a leaving domain is complete; a tile waits for its running list (R1072, R1074). -/
def domainSleepDone (d : Nat) (s : State) : State :=
  let x := dom s d
  if x.st ≠ 4 || !core2Runs s || s.lists.any (fun r => r.tile == some d) then s
  else domNext d (domTo d x.req (modDom d (fun y => { y with cold := y.cold || x.req == 0 }) s))

/-- DOMAIN_SLEEP_DONE (R1072). -/
def execDomainSleepDone (domain : Nat) (s : State) : Answer := act (losses ++ [.doms, .lasers, .power]) (domainSleepDone domain) s

/-! ## The limiter and the thermal monitor -/

/-- Telemetry by object. -/
def teleOf (s : State) (idx sub : Nat) : Int := mget s.power.tele (okey idx sub) 0

/-- The readings of the die sensors and of the HBM4 sensors. -/
def dieTemps (s : State) : List Int := (List.range 2).map (fun i => teleOf s 0x7000 (i + 1))
/-- The HBM4 sensors. -/
def hbmTemps (s : State) : List Int := (List.range 4).map (fun i => teleOf s 0x7001 (i + 1))

/-- Every sensor reads below the release limits of R1128. -/
def tempsCool (s : State) : Bool := (dieTemps s).all (fun t => decide (t < 9700)) && (hbmTemps s).all (fun t => decide (t < 8900))

/-- LIMITER_STEP: one step, 100 µs after the one before, with the input power averaged over the last 1 ms in W (R1077 to R1079, R1128). Log 2 (DESIGN CHOICE), 18 (DESIGN CHOICE), 139 (DEDUCED). -/
def limiterStep (average : Nat) (s0 : State) : State :=
  let s := modPower (fun p => { p with stepAt := elapsed s0 }) s0
  let lim := powerLimit s
  if !reached (s0.power.stepAt + 1600000) (elapsed s0) then s0
  else if lim < average || s.power.hot then
    let s1 := modPower (fun p => { p with duty := Nat.max 4 (p.duty - 1), limiting := true }) s
    if s.power.limiting then s1 else raise 11 1 s1
  else
    modPower (fun p => { p with
      limiting := false
      duty := if average * 100 < lim * 95 && tempsCool s then Nat.min 16 (p.duty + 1) else p.duty }) s

/-- LIMITER_STEP (R1078). -/
def execLimiterStep (average : Nat) (s : State) : Answer := act (interrupts ++ [.power]) (limiterStep average) s

/-- Set a run of telemetry from subindex 1. -/
def teleSet (idx : Nat) (l : List Int) (m : NMap Int) : NMap Int := l.zipIdx.foldl (fun m x => mset m (okey idx (x.2 + 1)) x.1) m

/-- The hottest of a list of readings. -/
def hottest (l : List Int) : Int := l.foldl (fun a b => if a < b then b else a) (l.headD 0)

/-- The module trips (R1130): every domain but 148 to 150 loses power, every host link goes down, and THERM_TRIP# is asserted. Log 139 (DEDUCED). -/
def thermalTrip (s : State) : State :=
  let s1 := (List.range 8).foldl (fun s p => if (hport s p).st = .down then s else portDown p 2 s) s
  let s2 := (List.range 32).foldl (fun s p => if (fport s p).enable then fpDisable p s else s) s1
  let s3 := modPower (fun p => { p with tripped := true, queue := [] })
    { s2 with
      doms := s2.doms.map (fun p => if 148 ≤ p.1 then p else (p.1, { req := p.2.req, cold := true }))
      hports := mmapV s2.hports (fun _ h => { h with detect := false }) }
  (List.range 8).foldl (fun s u => permitDrop u s) s3

/-- THERM_ALERT# and its record, one for a spell (R1129). Log 139 (DEDUCED). -/
def thermAlert (on : Bool) (s : State) : State :=
  let s1 := modPower (fun p => { p with alert := on }) s
  if on && !s.power.alert then
    ledgerInn { kind := 0x0F, severity := 1, d0 := (BitVec.ofInt 64 (hottest (dieTemps s ++ hbmTemps s))).toNat } s1
  else s1

/-- THERMAL_SAMPLE: the sensors and meters are read; `coolHot` says that the coolant has passed a limit of R1129 for 10 s. Log 18 (DESIGN CHOICE), 164 (DESIGN CHOICE). -/
def thermalSample (dies hbms lpddr : List Int) (coolIn coolOut : Int) (coolHot : Bool) (volts amps watts : Nat) (s : State) : State :=
  let m := teleSet 0x7000 (dies.take 2) (teleSet 0x7001 (hbms.take 4) (teleSet 0x7002 (lpddr.take 16)
    (teleSet 0x7003 [volts, amps, watts] (teleSet 0x7010 [coolIn, coolOut] s.power.tele))))
  let s1 := modPower (fun p => { p with tele := m, teleTime := s.tide.count }) s
  let hot := (dieTemps s1).any (fun t => decide (10000 ≤ t)) || (hbmTemps s1).any (fun t => decide (9200 ≤ t))
  let warm := hot || (s.power.warm && !tempsCool s1)
  let trip := (dieTemps s1).any (fun t => decide (11500 ≤ t)) || (hbmTemps s1).any (fun t => decide (10500 ≤ t))
  let s2 := thermAlert (warm || coolHot) (modPower (fun p => { p with hot := hot, warm := warm }) s1)
  if trip && !s.power.tripped then thermalTrip s2
  else
    match s2.power.resetDue with
    | some c => if s.dict.stores.isEmpty || c ≠ 2 then moduleReset c s2 else s2
    | none => s2

/-- THERMAL_SAMPLE (R1128). -/
def execThermalSample (dies hbms lpddr : List Int) (coolIn coolOut : Int) (coolHot : Bool) (volts amps watts : Nat) (s : State) : Answer :=
  actAlways everything (thermalSample dies hbms lpddr coolIn coolOut coolHot volts amps watts) s

/-- THERMAL_STATE (R1134). -/
def thermalState (s : State) : Nat := if s.power.tripped then 3 else if s.power.warm then 2 else if s.power.alert then 1 else 0

/-! ## Resets and start-up -/

/-- The module with only domains 148 and 150 powered (R1087, R1116). -/
def darkModule (s : State) : State :=
  modPower (fun p => { p with queue := [] })
    { s with doms := (List.range 151).map (fun d => (d, { (mget s.doms d ({} : Dom)) with st := if d = 148 || d = 150 then 2 else 0, wanting := false })) }

/-- POWER_UP: the 54 V input has entered its range (R1086, R1113). -/
def powerUp (s : State) : State :=
  if s.power.inputOk then s
  else
    let s1 := restart 0 true (modPower (fun p => { p with inputOk := true }) s)
    if s1.power.pin then darkModule s1 else s1

/-- POWER_UP (R1113). -/
def execPowerUp (s : State) : Answer := .next (keep everything s (powerUp s))

/-- INPUT_REMOVAL: everything that only power keeps is lost (R1114, R1116, R1117). Log 164 (DESIGN CHOICE). -/
def inputRemoval (s : State) : State :=
  if s.power.inputOk then darkModule (restart 0 true (modPower (fun p => { p with inputOk := false }) s)) else s

/-- INPUT_REMOVAL (R1116). -/
def execInputRemoval (s : State) : Answer := .next (keep everything s (inputRemoval s))

/-- MODULE_RESET_PIN: while asserted, only domains 148 and 150 are powered; start-up begins at the release (R1087, R1089, R1117). -/
def moduleResetPin (on : Bool) (s : State) : State :=
  let s := inputAccepted 9 s
  if !s.power.inputOk || on == s.power.pin then modPower (fun p => { p with pin := on }) s
  else if !resetReady s then modPower (fun p => { p with pin := on, resetDue := some 1 }) s
  else if on then darkModule (restart 1 false (modPower (fun p => { p with pin := true }) s))
  else restart 1 false (modPower (fun p => { p with pin := false }) s)

/-- MODULE_RESET_PIN (R1087). -/
def execModuleResetPin (asserted : Bool) (s : State) : Answer := .next (keep everything s (moduleResetPin asserted s))

/-- MODULE_RESET: the reset starts at the end of any store in progress (R1088). Log 141 (DEDUCED). -/
def moduleResetWrite (v : Nat) (s : State) : State :=
  if v ≠ 0x72737430 then s
  else if s.dict.stores.isEmpty then moduleReset 2 s
  else modPower (fun p => { p with resetDue := some 2 }) s

/-- MODULE_RESET (R1088). A device in FATAL leaves it by a module reset only (R976). -/
def execModuleReset (value : Nat) (s : State) : Answer := actAlways everything (moduleResetWrite value) s

/-- Whether a key slot holds a key. -/
def KeySlot.loaded (k : KeySlot) : Bool := k.b0.loaded || k.b1.loaded

/-- A tide reset is refused while a timed wait or start is armed, a tide table is enabled, or a key is loaded (R1091). -/
def tideResetBad (s : State) : Bool :=
  !s.tide.waits.isEmpty || (List.range 32).any (fun p => gclOn s p) || s.sealing.fab.any (fun p => p.2.loaded) ||
    s.rooms.any (fun p => p.2.keys.any (fun k => k.2.loaded))

/-- TIDE_RESET: the tide unit starts again at count 0 in FREERUN (R87, R1091). The first component says whether it was refused. Log 177 (DEDUCED). -/
def tideReset (v : Nat) (s : State) : Bool × State :=
  if v ≠ 0x74696465 then (false, s)
  else if tideResetBad s then (true, s)
  else (false, { s with tide := { base := s.tide.base - s.tide.count }, sealing := { s.sealing with lastTx := 0, lastKeys := [] } })

/-- TIDE_RESET (R1091). -/
def execTideReset (value : Nat) (s : State) : Answer := act [.tide, .sealing] (fun s => (tideReset value s).2) s

/-- Keys of every RWS entry (R998). -/
def rwsKeys : List Nat :=
  (dictRows.filter (fun r => r.access = 3)).flatMap (fun r =>
    (List.range (r.hi + 1 - r.lo)).flatMap (fun i => (List.range (r.subHi + 1 - r.subLo)).map (fun j => okey (r.lo + i) (r.subLo + j))))

/-- The kinds of domain that start-up waits for (R1094, R1095). -/
def startupWaits (d : Nat) : Bool := [0, 3, 5, 6, 7, 8].contains (domKind d)

/-- 900 ms have passed since the first release of PERST# (R1094). -/
def startupLate (s : State) : Bool :=
  match s.power.released with | some t => reached (t + 14400000000) (elapsed s) | none => false

/-- STARTUP_DONE: the domains woken at start-up have reached ON or WAKE_FAIL, or, `late`, 900 ms have passed since the first release of PERST#
(R1094). The PFs whose ports are up are enabled from then on (R1095); an entry without a valid record is reported (R1001, R1035). Log 140 (DEDUCED). -/
def startupDone (late : Bool) (s : State) : State :=
  let waits := s.doms.any (fun p => startupWaits p.1 && p.2.boot)
  if s.power.started || s.power.tripped || (waits && !(late && startupLate s)) then s
  else
    let s1 := modPower (fun p => { p with started := true, startMs := (elapsed s).toNat / 16000000 }) s
    let s2 := (List.range 8).foldl (fun s p => if (hport s p).st = .down then s else modFunc (fnOf p 0) (fun f => { f with enabled := true }) s) s1
    if rwsKeys.all (fun k => (mfind s.dict.flash k).isSome) then s2 else raise 13 3 s2

/-- STARTUP_DONE (R1094). -/
def execStartupDone (late : Bool) (s : State) : Answer := act (interrupts ++ [.power]) (startupDone late) s

/-- RESTORE_DEFAULTS: every RWS entry takes its default at the next module reset (R1003). -/
def restoreDefaults (v : Nat) (s : State) : State := if v = 0x6C6F6164 then { s with dict := { s.dict with restore := true } } else s

/-- RESTORE_DEFAULTS (R1003). -/
def execRestoreDefaults (value : Nat) (s : State) : Answer := act [.dict] (restoreDefaults value) s

/-! ## The management port -/

/-- MGMT_LINK_UP: the stored settings of the management port take effect (R1020, R999). -/
def mgmtLinkUp (s : State) : State :=
  modPower (fun p => { p with mgmtUp := true }) { s with objNow := s.objNow.filter (fun p => p.1 / 256 != 0x1020) }

/-- MGMT_LINK_UP (R1020). -/
def execMgmtLinkUp (s : State) : Answer := act [.objNow, .power] mgmtLinkUp s

/-- The addresses of the management port (R1020): IPv4 static or by DHCPv4, IPv6 link-local and static. -/
def mgmtAddrs (s : State) (ipv6 : Bool) : List Nat :=
  if ipv6 then
    let a := ofBe (leBytes 16 (objF s 0x1020 5 0))
    (Config.ownAddress 1).toNat :: (if a = 0 then [] else [a])
  else if objF s 0x1020 1 0 = 1 then [(Config.ownAddress 0).toNat]
  else
    let a := ofBe (leBytes 4 (objF s 0x1020 2 0))
    if a = 0 then [] else [a]

/-- MGMT_ADDRESS_RESOLUTION: ARP and Neighbor Solicitation for an own address are answered (R1020). -/
def mgmtResolution (ipv6 : Bool) (target : Nat) (s : State) : State :=
  if s.power.mgmtUp && (mgmtAddrs s ipv6).contains target then emit (.resolution target ((Config.macBase.toNat + 64) % 2 ^ 48)) s else s

/-- MGMT_ADDRESS_RESOLUTION (R1020). -/
def execMgmtAddressResolution (ipv6 : Bool) (target : Nat) (s : State) : Answer := act [.out] (mgmtResolution ipv6 target) s

end Sys2Proof.Machine
end

