-- ==== Sys2Proof/Machine/Views.lean ====
section
/-! DEFINITION. Registers as software reads them: the images of the register map (R1037 to R1068 and the field tables of the blocks). Reading changes
nothing but what TIDE_NOW_READ latches (R1052). -/

namespace Sys2Proof.Machine

open Sys2Proof

/-- A signed number in a field of w bits. -/
def sfld (w : Nat) (x : Int) : Nat := (BitVec.ofInt w x).toNat

/-! ## Tide time, host ports, memory, translation -/

/-- STATE codes of the tide unit. -/
def tideCode : TideSt → Nat
  | .freerun => 0 | .acquire => 1 | .locked => 2 | .holdover => 3

/-- Codes of the sources of tide time. -/
def srcCode : TideSrc → Nat
  | .free => 0 | .ext => 1 | .ptp => 2 | .beacon => 3

/-- TD_STATUS (R116). -/
def tdStatus (s : State) : Word :=
  let t := s.tide
  img (t.mNode % 2 ^ 16 * 2 ^ 48 + t.hops % 256 * 2 ^ 40 + t.mPrio % 256 * 2 ^ 32 + (t.parent.getD 0) % 32 * 2 ^ 21 + b2n t.parent.isSome * 2 ^ 20 +
    srcCode t.src * 2 ^ 16 + b2n t.isMaster * 2 ^ 15 + b2n (qualified s) * 2 ^ 14 + b2n t.outOfBudget * 2 ^ 13 + tideCode t.st)

/-- TD_GCL_CTRL (R118). -/
def gclImage (s : State) (p : Nat) : Word :=
  let w := gclCtrl s p
  img (wfld w 40 32 * 2 ^ 32 + b2n (tport s p).pend.isSome * 16 + wfld w 3 3 * 8 + b2n (tport s p).cfgErr * 4 + wfld w 0 0)

/-- PORT_STATE of a host port. -/
def portCode : PortSt → Nat
  | .down => 0 | .up => 1 | .hold => 2

/-- Whether a room of a port's functions is quarantined (R170). -/
def portQuarantine (s : State) (p : Nat) : Bool := s.rooms.any (fun r => fnPort r.2.fn == p && r.2.st == .quarantined)

/-- HP_LINK_STATUS (R170). -/
def linkStatus (s : State) (p : Nat) : Word :=
  let h := hport s p
  img (h.rate % 16 * 2 ^ 20 + h.width % 32 * 2 ^ 15 + b2n h.flit * 2 ^ 14 + b2n h.cxl * 2 ^ 13 + b2n h.degraded * 2 ^ 12 + portCode h.st * 2 ^ 10 +
    b2n h.perst * 512 + b2n (portQuarantine s p) * 256)

/-- HP_MEMWIN (R172). -/
def memwin (s : State) (p : Nat) : Word :=
  let h := hport s p
  img (h.winBase % 2 ^ 18 * 2 ^ 30 + b2n h.winBusy * 2 + b2n h.winEnable)

/-- MT_TC_CTRL (R215). -/
def tcCtrl (s : State) : Word :=
  img (bitsOf 16 (fun c => s.mem.drained.contains c) * 2 ^ 16 + bitsOf 16 (fun c => s.mem.frozen.contains c))

/-- MT_HB_FREEZE (false) and MT_HB_DRAINED (true). -/
def hbBits (s : State) (drained : Bool) : Word :=
  img (bitsOf 64 (fun b => if drained then s.mem.drained.contains (16 + b) else s.mem.frozen.contains (16 + b)))

/-- MT_CFG (R217). -/
def mtCfg (s : State) : Word := img (b2n s.mem.dieLocal1 * 2 + b2n s.mem.dieLocal0)

/-- Windows OPEN or REVOKING (WN_OPEN). -/
def windowsOpen (s : State) : Nat := (s.windows.filter (fun w => w.2.st != 0)).length

/-! ## Engines and transport -/

/-- EN_TILE_STATE. -/
def tileState (s : State) : Word := img (bitsOf 64 (tileAvail s))

/-- EN_PARKED. -/
def enParked (s : State) : Word := img (timedUsed s * 2 ^ 32 + parked s)

/-- QM_CTX_USE. -/
def ctxUse (s : State) : Word := img (warmAll s * 2 ^ 32 + (mget s.hot 1 []).length * 2 ^ 16 + (mget s.hot 0 []).length)

/-- QM_PORCH_USE. -/
def porchUse (s : State) : Word := img ((mget s.porch 1 []).length * 2 ^ 16 + (mget s.porch 0 []).length)

/-- Queue states as codes (R330). -/
def qCode : QSt → Nat
  | .free => 0 | .disabled => 1 | .active => 2 | .draining => 3 | .error => 4 | .flushed => 5

/-- Units of an entry that the Skeond writes to a queue, and the least that software writes: what the ring must have room for (R319, R322, R980). -/
def QKind.entry : QKind → Nat
  | .cq => 2
  | .eq => 2
  | .ledger => 4
  | _ => 1

/-- FULL: the ring has no room now (R324, R325, R330). -/
def ringFull (k : Queue) (units : Nat) : Bool := decide (2 ^ k.log2 < k.occupied + units)

/-- Q_STATUS (R330). -/
def qStatus (k : Queue) (idle full : Bool) : Word :=
  img (k.errIndex % 2 ^ 32 * 2 ^ 32 + k.seq.toNat * 2 ^ 24 + k.errDetail % 256 * 2 ^ 16 + b2n idle * 256 + b2n k.badDoorbell * 128 + b2n k.overflow * 64 +
    b2n full * 32 + b2n k.armed * 16 + b2n k.disablePending * 8 + qCode k.st)

/-- QM_FD_STATUS: the state of the front desk, the index latched in the ring that stopped (R1142), and the arming, the consumer doorbells and the room of
the response ring. Log 193 (DEDUCED). -/
def deskStatus (f : FrontDesk) : Word :=
  let stopped := f.resp.st == .error
  qStatus { f.resp with
    st := f.req.st
    errIndex := if stopped then f.resp.errIndex else f.req.errIndex
    errDetail := if stopped then f.resp.errDetail else f.req.errDetail } (deskIdle f) (ringFull f.resp 2)

/-- Q_CTRL (R329). -/
def qCtrl (k : Queue) : Word :=
  img (k.modTime % 2 ^ 16 * 2 ^ 16 + k.modCount % 2 ^ 9 * 2 ^ 7 + b2n k.enable)

/-- QM_FD_CTRL (R299). -/
def fdCtrl (f : FrontDesk) : Word := img (f.resp.vector % 2 ^ 11 * 2 ^ 21 + f.req.log2 % 32 * 2 ^ 16 + b2n f.enable)

/-- Lanterns of a room as its window shows them (R377). -/
def lanternImage (l : Lantern) : Word := img (b2n l.fault * 2 ^ 32 + l.count.toNat)

/-! ## Router, fabric ports, optics -/

/-- STATE codes of the router. -/
def rtCode : RtSt → Nat
  | .unset => 0 | .run => 1 | .draining => 2 | .drained => 3

/-- RT_CTRL (R805). -/
def rtCtrl (s : State) : Word :=
  let r := s.router
  img (r.node % 2 ^ 16 * 2 ^ 32 + b2n r.valid * 2 ^ 16 + b2n r.cfgErr * 16 + b2n r.drain * 4 + rtCode r.st)

/-- RT_FENCE. -/
def rtFence (s : State) : Word := img (bitsOf 32 (fun p => (fport s p).fence))

/-- RT_PORT_LOST. -/
def rtLost (s : State) : Word := img (bitsOf 32 (fun p => (fport s p).lost))

/-- FP_CTRL (R841). -/
def fpCtrl (s : State) (p : Nat) : Word := img ((fport s p).mode % 4 * 2 ^ 16 + b2n (fport s p).enable)

/-- STATE codes of a fabric port. -/
def linkCode : LinkSt → Nat
  | .disabled => 0 | .acquire => 1 | .handshake => 2 | .up => 3

/-- FP_STATUS (R842). -/
def fpStatus (s : State) (p : Nat) : Word :=
  let f := fport s p
  img (f.peerNode % 2 ^ 16 * 2 ^ 48 + f.peerPort % 32 * 2 ^ 43 + b2n f.peerNodeValid * 2 ^ 42 + f.laneLock % 256 * 2 ^ 16 +
    bitsOf 8 (fun c => (mfind f.pauseA c).isSome || (mfind f.pauseB c).isSome) * 256 + b2n f.fecSd * 128 + b2n f.mismatch * 64 +
    (if f.mode = 2 then linkCode f.stB else 0) * 8 + linkCode f.st)

/-- CC_EGRESS_BYTES of a port and class (R739). -/
def egressImage (s : State) (p c : Nat) : Word := img (egressBytes s p c % 2 ^ 32)

/-- OP_PERMIT. -/
def opPermit (s : State) : Word := img (b2n (lcLases s) * 2 + b2n s.laserEn)

/-- OP_LASER_STATUS (R874). -/
def laserStatus (s : State) (u : Nat) : Word :=
  let x := laser s u
  img (b2n x.eol * 2 ^ 14 + b2n x.limit * 2 ^ 13 + x.cause % 8 * 2 ^ 10 + b2n (laserPermit s u) * 256 +
    bitsOf 4 (fun k => (fport s (4 * u + k)).enable) * 16 + x.st)

/-- OP_LASER_MEAS of laser k of a unit (R875). -/
def laserMeas (s : State) (u k : Nat) : Word :=
  let x := laser s u
  img (sfld 16 (mget x.tap k 0) * 2 ^ 48 + sfld 16 (mget x.temp k 0) * 2 ^ 32 + mget x.current k 0 % 2 ^ 16 * 2 ^ 16 + mget x.sol k 0 % 2 ^ 16)

/-- OP_LANE_MEAS (R875). -/
def laneMeas (s : State) (p l : Nat) : Word :=
  let x := lane s p l
  img (sfld 16 x.tx * 2 ^ 48 + x.heater % 2 ^ 16 * 2 ^ 32 + sfld 16 x.offset * 2 ^ 16 + sfld 16 x.rx)

/-- OP_LANE_STATUS (R875). -/
def laneStatus (s : State) (p l : Nat) : Word :=
  let x := lane s p l
  img (x.ber % 2 ^ 32 * 2 ^ 32 + x.tries % 256 * 256 + b2n x.rxAlarm * 32 + b2n x.rxWarn * 16 + b2n x.drift * 8 + x.st)

/-! ## Rooms, seal engine, errors -/

/-- MB_OUT_CTRL of a direction (R914). -/
def outCtrl (m : MailDir) : Word := img (m.posts.toNat * 2 ^ 32 + m.len % 32 * 256 + b2n m.posted * 2)

/-- MB_IN_CTRL of a direction (R914). -/
def inCtrl (m : MailDir) : Word := img ((if m.posted then m.len % 32 * 256 else 0) + b2n m.posted * 2)

/-- MB_CFG (R915). -/
def mailCfg (c : MailCfg) : Word := img (c.vector % 2 ^ 11 * 2 ^ 16 + b2n c.ackIrq * 2 + b2n c.irqEn)

/-- Rooms not FREE (RM_ROOMS). -/
def roomsInUse (s : State) : Nat := (s.rooms.filter (fun r => r.2.st != .free)).length

/-- Word 9 of a key slot (R925). No key word is ever read (R1002). -/
def slotStatus (k : KeySlot) : Nat := b2n k.rotating * 16 + b2n k.b1.loaded * 8 + b2n k.b0.loaded * 4 + k.active

/-- A word of a key slot as a read returns it (R925). -/
def slotWord (k : KeySlot) (w : Nat) : Word := if w = 8 then k.rotateAt else if w = 9 then img (slotStatus k) else 0

/-- SL_LC. -/
def slLc (s : State) : Word := img (b2n s.sealing.erased * 256 + s.sealing.lc)

/-- SL_TILES. -/
def slTiles (s : State) : Word := img (b2n (tileAvail s 61) * 8 + b2n (tileAvail s 60) * 4 + b2n (tileAvail s 29) * 2 + b2n (tileAvail s 28))

/-- ER_FATAL (R991). -/
def erFatal (s : State) : Word :=
  img (s.errs.fatalUnit % 2 ^ 16 * 2 ^ 48 + s.errs.fatalKind % 2 ^ 16 * 2 ^ 32 + b2n s.errs.alert * 2 + b2n s.errs.fatal)

/-- A word of ER_LATCH (R992). -/
def erLatch (s : State) (u w : Nat) : Word :=
  let l := mget s.errs.latches u {}
  match w with
  | 0 => img (l.seq.toNat * 2 ^ 56 + l.secondary % 256 * 2 ^ 48 + l.kind % 2 ^ 16 * 2 ^ 32 + l.st)
  | 1 => img l.dpa
  | 2 => l.time
  | _ => 0

/-- A word of ER_CE_ENTRY (R993). -/
def ceEntry (s : State) (m e w : Nat) : Word :=
  match (mget s.errs.ce m [])[e]? with
  | none => 0
  | some x =>
    match w with
    | 0 => img (x.count % 2 ^ 16 * 2 ^ 48 + x.line * 64 % 2 ^ 48)
    | 1 => x.firstAt
    | 2 => x.lastAt
    | _ => img (x.position % 256 * 2 ^ 56 + 1)

/-! ## The GLB_ and PW_ blocks and the function page -/

/-- The summary bit of block b (R1066). -/
def sumBit (s : State) (b : Nat) : Bool := b != 14 && b != 15 && evAny (evReg s b)

/-- GLB_EVENT_SUM (R1066). -/
def eventSum (s : State) : Word := img (bitsOf 56 (sumBit s))

/-- GLB_STATUS (R1044). -/
def glbStatus (s : State) : Word := img (innPort s % 8 * 256 + b2n s.errs.fatal * 128 + b2n s.power.started * 64 + s.sealing.lc)

/-- GLB_UNLOCK_STATE. -/
def unlockState (s : State) : Word := img (bitsOf 56 (armed s))

/-- PW_DOMAIN (R1046). -/
def pwDomain (s : State) (d : Nat) : Word :=
  let x := dom s d
  img (b2n (d == 148 || d == 150) * 2048 + b2n (domPinned s d) * 1024 + x.req % 4 * 16 + x.st)

/-- GLB_FUNC_ID (R1041). -/
def funcId (s : State) (fn : Nat) : Word :=
  img ((roomOf s fn).getD 0 % 256 * 2 ^ 40 + fnPort fn % 8 * 2 ^ 32 + fnSlot fn % 256 * 2 ^ 24 + b2n (fnSlot fn == 0) * 2 + b2n (isInn s fn))

/-- Queues that a function holds, the front desk not counted. -/
def queuesHeld (s : State) (fn : Nat) : Nat := (s.queues.filter (fun p => p.1 / 4096 == fn && p.2.st != .free)).length

/-- GLB_FUNC_LIMITS (R1041): MSI-X table entries minus 1, queues held, LANTERN_QUOTA. -/
def funcLimits (s : State) (fn : Nat) : Word :=
  img ((if fnSlot fn = 0 then 2047 else 63) * 2 ^ 32 + queuesHeld s fn % 4096 * 2 ^ 16 +
    (match roomOf s fn with | some rm => (room s rm).quotas.lantern % 2 ^ 16 | none => 0))

/-- A register of a port block with offset o, stride 0x1000. -/
def hpReg (s : State) (p o : Nat) : Word :=
  match o with
  | 0x00 => linkStatus s p
  | 0x08 => evReg s (16 + p)
  | 0x10 => memwin s p
  | _ => mget s.snap (0x280000 + 0x1000 * p + o) 0

/-- A register of the FP_ block of a port. -/
def fpReg (s : State) (p o : Nat) : Word :=
  match o with
  | 0x00 => fpCtrl s p
  | 0x08 => fpStatus s p
  | 0x10 => evReg s (24 + p)
  | 0x28 => img (fport s p).peerId
  | 0x30 => pfcCfg s p
  | _ => mget s.snap (0x300000 + 0x1000 * p + o) 0

/-- A register of the OP_ block. -/
def opReg (s : State) (o : Nat) : Word :=
  if o = 0 then evReg s 8
  else if o = 0x18 then opPermit s
  else if 0x100 ≤ o && o < 0x300 then
    let u := (o - 0x100) / 0x40
    let r := (o - 0x100) % 0x40
    if r = 0 then img (b2n (laserAllow s u)) else if r = 8 then laserStatus s u
    else if 0x20 ≤ r then laserMeas s u ((r - 0x20) / 8) else mget s.snap (0x340000 + o) 0
  else if 0x10000 ≤ o && o < 0x12000 then
    let p := (o - 0x10000) / 0x100
    let l := (o - 0x10000) % 0x100 / 0x20
    match (o - 0x10000) % 0x20 with
    | 0x00 => laneMeas s p l
    | 0x08 => laneStatus s p l
    | 0x10 => rd s (0x340000 + o) 0
    | _ => mget s.snap (0x340000 + o) 0
  else mget s.snap (0x340000 + o) 0

/-- A register of the ER_ block. -/
def erReg (s : State) (o : Nat) : Word :=
  if o = 0 then evReg s 12 else if o = 0x10 then erFatal s
  else if 0x10000 ≤ o && o < 0x10000 + 0x20 * 83 then erLatch s ((o - 0x10000) / 0x20) (o % 0x20 / 8)
  else if 0x20000 ≤ o && o < 0x20000 + 0x400 * 21 then ceEntry s ((o - 0x20000) / 0x400) (o % 0x400 / 0x20) (o % 0x20 / 8)
  else mget s.snap (0x440000 + o) 0

/-- A register of the RT_ block. -/
def rtReg (s : State) (o : Nat) : Word :=
  if 0x180000 ≤ o then img (mget s.router.shadow ((o - 0x180000) / 8) 0)
  else if 0x100000 ≤ o then img (mget s.router.active ((o - 0x100000) / 8) 0)
  else match o with
    | 0x00 => rtCtrl s | 0x08 => evReg s 7 | 0x20 => rtFence s | 0x28 => rtLost s | _ => mget s.snap (0x600000 + o) 0

/-- A register of the CC_ block. -/
def ccReg (s : State) (o : Nat) : Word :=
  if o = 0 then evReg s 6
  else if 0x20000 ≤ o then
    match o % 0x40 with
    | 0x00 => rd s (0x400000 + o) (65536 * 2 ^ 32 + 1600000)
    | 0x08 => BitVec.ofInt 64 (bucketTok s (0x400000 + o - 8) 0)
    | 0x10 => rd s (0x400000 + o) (65536 * 2 ^ 32 + 1600000)
    | 0x18 => BitVec.ofInt 64 (bucketTok s (0x400000 + o - 8) 0)
    | _ => mget s.snap (0x400000 + o) 0
  else if 0x10000 ≤ o && o < 0x18000 then
    let p := (o - 0x10000) / 0x400
    let r := (o - 0x10000) % 0x400
    if r < 0x80 then (if r % 0x10 = 0 then rd s (0x400000 + o) (65536 * 2 ^ 32 + 1600000) else BitVec.ofInt 64 (bucketTok s (0x400000 + o - 8) 0))
    else if r = 0x100 then rd s (0x400000 + o) 0xC0
    else if r = 0x108 then rd s (0x400000 + o) 0x0808080808080808
    else if r = 0x110 then injCfg s p
    else if r = 0x118 then img (fport s p).throttled
    else if 0x120 ≤ r && r < 0x160 then egressImage s p ((r - 0x120) / 8)
    else mget s.snap (0x400000 + o) 0
  else mget s.snap (0x400000 + o) 0

/-- A register of the TD_ block; TD_NOW is read by TIDE_NOW_READ. -/
def tdReg (s : State) (o : Nat) : Word :=
  if 0x10000 ≤ o then
    let p := (o - 0x10000) / 0x2000
    let r := (o - 0x10000) % 0x2000
    if r = 0 then gclImage s p
    else if 0x1000 ≤ r then ((tport s p).oper.entries[(r - 0x1000) / 8]?).getD 0xFF00000000
    else if 0x800 ≤ r then rd s (0x480000 + o) 0xFF00000000
    else rd s (0x480000 + o) 0
  else match o with
    | 0x08 => tdStatus s | 0x10 => evReg s 0 | 0x18 => BitVec.ofInt 64 s.tide.rate | 0x20 => BitVec.ofInt 64 s.tide.offset | _ => 0

/-- A register of the SL_ block. -/
def slReg (s : State) (o : Nat) : Word :=
  if 0x10000 ≤ o && o < 0x10800 then slotWord (mget s.sealing.fab ((o - 0x10000) / 0x80) {}) (o % 0x80 / 8)
  else match o with
    | 0x00 => evReg s 9 | 0x10 => slLc s | 0x18 => slTiles s | _ => mget s.snap (0x380000 + o) 0

/-- The keeper's page of a room's mailbox in the lodge pages or the RM_ block (R906). -/
def keeperReg (r : Room) (s : State) (rm o : Nat) : Word :=
  if o < 0x80 then mget r.inBox.words (o / 8) 0
  else if o < 0x100 then mget r.outBox.words ((o - 0x80) / 8) 0
  else match o with
    | 0x100 => outCtrl r.inBox | 0x108 => inCtrl r.outBox | 0x110 => mailCfg r.keeperCfg | 0x118 => img (roomImage s rm) | _ => 0

/-- The guest's page of a room's mailbox, with the key page at 0x800 (R887, R914). -/
def guestReg (r : Room) (s : State) (rm o : Nat) : Word :=
  if 0x800 ≤ o then slotWord (mget r.keys ((o - 0x800) / 0x80) {}) (o % 0x80 / 8)
  else if o < 0x80 then mget r.outBox.words (o / 8) 0
  else if o < 0x100 then mget r.inBox.words ((o - 0x80) / 8) 0
  else match o with
    | 0x100 => outCtrl r.outBox | 0x108 => inCtrl r.inBox | 0x110 => mailCfg r.guestCfg | 0x118 => img (roomImage s rm) | _ => 0

/-- A register of the global blocks, as the Innkeeper reads it at a BAR0 offset (R1042). -/
def globalReg (s : State) (o : Nat) : Word :=
  if 0x600000 ≤ o then (if o < 0x800000 then rtReg s (o - 0x600000) else 0)
  else if 0x510000 ≤ o && o < 0x550000 then keeperReg (room s ((o - 0x510000) / 0x400)) s ((o - 0x510000) / 0x400) (o % 0x400)
  else if 0x500000 ≤ o then
    (match o with | 0x500000 => evReg s 10 | 0x500008 => rd s o 0 | 0x500010 => img (roomsInUse s) | _ => 0)
  else if 0x480000 ≤ o then tdReg s (o - 0x480000)
  else if 0x440000 ≤ o then erReg s (o - 0x440000)
  else if 0x400000 ≤ o then ccReg s (o - 0x400000)
  else if 0x380000 ≤ o then slReg s (o - 0x380000)
  else if 0x340000 ≤ o then opReg s (o - 0x340000)
  else if 0x300000 ≤ o then (if o < 0x320000 then fpReg s ((o - 0x300000) / 0x1000) (o % 0x1000) else 0)
  else if 0x280000 ≤ o then (if o < 0x288000 then hpReg s ((o - 0x280000) / 0x1000) (o % 0x1000) else 0)
  else if 0x271000 ≤ o && o < 0x271000 + 8 * 151 then pwDomain s ((o - 0x271000) / 8)
  else match o with
    | 0x200000 => 0x1E5B5132B0000000
    | 0x200008 => glbStatus s | 0x200010 => eventSum s | 0x200018 => rd s o 0 | 0x200030 => img Config.deviceId.toNat | 0x200038 => unlockState s
    | 0x200040 => rd s o 0x00FFFFFFFFFFFFFF
    | 0x210000 => hbBits s false | 0x210008 => hbBits s true | 0x210010 => tcCtrl s | 0x210018 => evReg s 1 | 0x210028 => mtCfg s
    | 0x220000 => rd s o 0x0000100000000000 | 0x220008 => evReg s 2
    | 0x230000 => evReg s 3 | 0x230010 => img (windowsOpen s)
    | 0x240000 => evReg s 4 | 0x240010 => ctxUse s | 0x240018 => porchUse s | 0x240020 => img (allOps s)
    | 0x250000 => rd s o 0xFFFFFFFFFFFFFFFF | 0x250008 => tileState s | 0x250010 => evReg s 5 | 0x250028 => enParked s
    | 0x260000 => evReg s 13
    | 0x270000 => evReg s 11 | 0x270018 => rd s o 2000 | 0x270020 => img (sfld 32 (teleOf s 0x7003 3))
    | _ => mget s.snap o 0

/-- A register of a queue's doorbell page (R290). -/
def queueReg (s : State) (fn q o : Nat) : Word :=
  let k := queue s fn q
  if k.st = .free then 0
  else match o with
    | 0x00 => img k.prod.toNat | 0x08 => img k.cons.toNat | 0x10 => qCtrl k | 0x18 => qStatus k (qIdle s fn q) (ringFull k k.kind.entry) | 0x20 => img k.dropped.toNat | _ => 0

/-- A register of the front desk page (R299). -/
def deskReg (s : State) (fn o : Nat) : Word :=
  let f := (func s fn).fd
  match o with
  | 0x00 => img f.req.base | 0x08 => img f.resp.base | 0x10 => fdCtrl f | 0x18 => img f.req.prod.toNat | 0x20 => img f.req.cons.toNat
  | 0x28 => img f.resp.prod.toNat | 0x30 => img f.resp.cons.toNat | 0x38 => deskStatus f | _ => 0

/-- A word of a function's MSI-X table: a message's address, or its data and the vector's mask (R130). -/
def tableWord (f : Func) (o : Nat) : Word :=
  let e := mget f.msgs (o / 16) (0, 0)
  if o % 16 = 0 then img e.1 else img (b2n (f.masked.contains (o / 16)) * 2 ^ 32 + e.2 % 2 ^ 32)

/-- What a function reads at a BAR0 offset (R1037, R1038): in a device that is FATAL only ER_FATAL answers, with the tide time of TIDE_NOW_READ
(R976). -/
def barNow (s : State) (fn o : Nat) : Word :=
  if o = 0x10 then erFatal s
  else if s.errs.fatal then (if isInn s fn && o == 0x440010 then erFatal s else 0)
  else if o < 0x1000 then (match o with | 0x00 => funcId s fn | 0x18 => funcLimits s fn | _ => 0)
  else if o < 0x2000 then deskReg s fn (o - 0x1000)
  else if 0x1000000 ≤ o then (if o < 0x1F00000 then queueReg s fn ((o - 0x1000000) / 0x1000) (o % 0x1000) else 0)
  else if 0x200000 ≤ o then (if isInn s fn then globalReg s o else 0)
  else
    match roomOf s fn with
    | none => 0
    | some rm =>
      if 0x110000 ≤ o then
        (if fnSlot fn = 0 && o < 0x120000 then
          (match roomOf s (fn + 1 + (o - 0x110000) / 0x400) with
          | some r => if 1 + (o - 0x110000) / 0x400 ≤ 64 then keeperReg (room s r) s r (o % 0x400) else 0
          | none => 0)
        else 0)
      else if 0x100000 ≤ o then (if o < 0x101000 then guestReg (room s rm) s rm (o - 0x100000) else 0)
      else if 0xF0000 ≤ o && o < 0xF8000 then (if (o - 0xF0000) / 16 < vectorsOf fn then tableWord (func s fn) (o - 0xF0000) else 0)
      else if 0xF8000 ≤ o && o < 0xF8100 then img (bitsOf 64 (fun i => (func s fn).pend.contains ((o - 0xF8000) * 8 + i)))
      else if 0x40000 ≤ o && o < 0x60000 then
        (if (o - 0x40000) / 8 < (room s rm).quotas.lantern then lanternImage (lantern s rm ((o - 0x40000) / 8)) else 0)
      else 0

/-- What a function reads at a BAR0 offset: a read of a critical field votes its copies first (R1064). Log 20 (DEDUCED), 158 (DESIGN CHOICE), 206 (DESIGN CHOICE). -/
def barRead (s : State) (fn o : Nat) : Word := barNow (vote s) fn o

/-- What a read of a part of the register at an offset returns: the addressed half (R1047), or the enabled bytes in their places (R1049). Log 158 (DESIGN CHOICE). -/
def barPart (s : State) (fn o : Nat) : Part → Word
  | .full => barRead s fn o
  | .low => img (wfld (barRead s fn o) 31 0)
  | .high => img (wfld (barRead s fn o) 63 32)
  | .bytes e => enabledBytes e (barRead s fn o)

/-- What a read of several words returns, in ascending address order (R1050). Log 158 (DESIGN CHOICE). -/
def barWords (s : State) (fn o n : Nat) : List Word := (List.range n).map (fun i => barRead s fn (o + 8 * i))

end Sys2Proof.Machine
end

