-- ==== Sys2Proof/Machine/Dictionary.lean ====
section
/-! DEFINITION. The object dictionary and the Relivicel protocol on its four transports (R996 to R1036), with the MCTP control commands (R1022). -/

namespace Sys2Proof.Machine

open Sys2Proof

/-! ## Entries -/

/-- Whether a row of the table gives an entry. -/
def DRow.has (r : DRow) (idx sub : Nat) : Bool := decide (r.lo ≤ idx) && decide (idx ≤ r.hi) && decide (r.subLo ≤ sub) && decide (sub ≤ r.subHi)

/-- The row that gives an entry. -/
def rowOf (idx sub : Nat) : Option DRow := dictRows.find? (fun r => r.has idx sub)

/-- The rows of an index that is a RECORD (R996). Log 153 (DEDUCED). -/
def recordRows (idx : Nat) : List DRow := dictRows.filter (fun r => decide (r.lo ≤ idx) && decide (idx ≤ r.hi) && decide (1 ≤ r.subLo))

/-- The entry INDEX:SUB; subindex 0 of a RECORD holds its highest subindex (R996). Log 153 (DEDUCED). -/
def entryOf (idx sub : Nat) : Option DRow :=
  match rowOf idx sub with
  | some r => some r
  | none =>
    if sub = 0 then
      match recordRows idx with
      | [] => none
      | r :: l =>
        some { lo := idx, hi := idx, subLo := 0, subHi := 0, name := r.name, type := 0x0E, size := 1, access := 4,
               dflt := (r :: l).foldl (fun a x => Nat.max a x.subHi) 0, min := 0, max := 0, unit := "", boundary := 0, hidden := false }
    else none

/-- The least entry of a row after INDEX:SUB, as an object key. -/
def DRow.after (r : DRow) (idx sub : Nat) : Option Nat :=
  let head := fun (i : Nat) => okey i 0
  if idx < r.lo then some (head r.lo)
  else if r.hi < idx then none
  else if sub < r.subLo then some (okey idx r.subLo)
  else if sub < r.subHi then some (okey idx (sub + 1))
  else if idx < r.hi then some (head (idx + 1))
  else none

/-- The least existing entry after INDEX:SUB among the indexes that a requester is shown (R1010). -/
def nextEntry (shown : Nat → Bool) (idx sub : Nat) : Option Nat :=
  dictRows.foldl (fun a r =>
    match r.after idx sub with
    | none => a
    | some k =>
      if !shown (k / 256) then a
      else match a with
        | none => some k
        | some j => some (Nat.min j k)) none

/-! ## Live values -/

/-- An unsigned number of a signed reading in n bytes. -/
def le (n : Nat) (x : Int) : Nat := (BitVec.ofInt (8 * n) x).toNat

/-- STATE of a tile in object 0xC003. -/
def tileCode (s : State) (t : Nat) : Nat :=
  if (dom s t).st ≠ 2 then 0
  else if s.tilesHalted.contains t then 3
  else if (rd s 0x250000 0xFFFFFFFFFFFFFFFF).getLsbD t then 1 else 2

/-- Extents FREE of a tier. -/
def extentsFree (s : State) (tier : Nat) : Nat :=
  let r := if tier = 0 then (0, 256) else if tier = 1 then (1024, 1024) else (2048, 4096)
  ((List.range r.2).filter (fun i => (extOf s (r.1 + i)).st == .free)).length

/-- Live values of the ranges 0x1000 to 0x3000. Log 201 (DESIGN CHOICE), 202 (DESIGN CHOICE). -/
def liveLow (s : State) (idx sub : Nat) : Option Nat :=
  if idx = 0x1004 then some Config.serialNumber.toNat
  else if idx = 0x1005 then some Config.deviceId.toNat
  else if idx = 0x1006 then some Config.moduleUuid.toNat
  else if idx = 0x1007 then some (ofLe (beBytes 6 Config.macBase.toNat))
  else if idx = 0x1008 then some (Config.firmware (sub - 1)).toNat
  else if idx = 0x100A then some ((elapsed s).toNat / 16000000)
  else if idx = 0x1031 then some (mget s.dict.fresh sub {}).highest
  else if idx = 0x2003 then some (linkStatus s (sub - 1)).toNat
  else if idx = 0x2004 then some ((counter s (0x280020 + 0x1000 * (sub - 1))).toNat % 2 ^ 32)
  else if idx = 0x2005 then some ((counter s (0x280028 + 0x1000 * (sub - 1))).toNat % 2 ^ 32)
  else if idx = 0x2100 then some (mget s.ds (sub - 1) {}).st
  else if idx = 0x2101 then some (mget s.ds (sub - 1) {}).capacity
  else if idx = 0x2802 then some (ofLe (beBytes 6 (portMac s (sub - 1) 0)))
  else if idx = 0x2807 then some (wfld (rd s (0x300030 + 0x1000 * (sub - 1)) 0x0000003000600F02) 1 0)
  else if idx = 0x2808 then some (wfld (rd s (0x300030 + 0x1000 * (sub - 1)) 0x0000003000600F02) 15 8)
  else if idx = 0x2809 then some (wfld (rd s (0x300030 + 0x1000 * (sub - 1)) 0x0000003000600F02) 31 16)
  else if idx = 0x280A then some (wfld (rd s (0x300030 + 0x1000 * (sub - 1)) 0x0000003000600F02) 47 32)
  else if idx = 0x2860 then if sub = 2 then some s.ethResult else none
  else if idx = 0x2870 then some (fport s (sub - 1)).peerId
  else if idx = 0x2871 then
    let f := fport s (sub - 1)
    some (f.peerNode % 2 ^ 16 + f.peerPort % 32 * 2 ^ 16 + b2n f.peerNodeValid * 2 ^ 21)
  else if idx = 0x3002 then some (if sub = 1 then 2 ^ 38 else if sub = 2 then 2 ^ 40 else ((List.range 4).map (dsUsable s)).foldl (· + ·) 0)
  else if idx = 0x3003 then some (extentsFree s (sub - 1))
  else if idx = 0x3004 then some (dieCap s (sub - 1) - usedOnDie s (sub - 1))
  else if idx = 0x3011 then some (7936 - tablesUsed s)
  else if idx = 0x3012 then if sub = 1 then some (windowsOpen s) else none
  else none

/-- Live values of the ranges 0x4000 to 0x9000. -/
def liveMid (s : State) (idx sub : Nat) : Option Nat :=
  if idx = 0x4000 then some (if sub = 1 then tideCode s.tide.st else le 8 s.tide.offset)
  else if idx = 0x5000 then some (if sub = 1 then roomsInUse s else (roomOf s (innFn s)).getD 0)
  else if idx = 0x6000 then some ((dom s (sub - 1)).next.getD (dom s (sub - 1)).req)
  else if idx = 0x6001 then some (dom s (sub - 1)).st
  else if idx = 0x6002 then some (powerLimit s)
  else if idx = 0x6006 then some s.power.lastReset
  else if idx = 0x6007 then some s.power.startMs
  else if idx = 0x6008 then some s.power.duty
  else if idx = 0x7000 then some (le 2 (teleOf s idx sub))
  else if idx = 0x7001 then some (le 2 (teleOf s idx sub))
  else if idx = 0x7002 then some (le 2 (teleOf s idx sub))
  else if idx = 0x7003 then some (le 4 (teleOf s idx sub))
  else if idx = 0x7004 then some s.power.teleTime.toNat
  else if idx = 0x7010 then some (le 2 (teleOf s idx sub))
  else if idx = 0x7011 then some (thermalState s)
  else if idx = 0x7012 then some (le 2 (Config.sensor 0x7012 0 s.tide.count.toNat))
  else if idx = 0x8001 then some (laser s (sub - 1)).st
  else if idx = 0x8002 then some (mget (laser s ((sub - 1) / 4)).current ((sub - 1) % 4) 0)
  else if idx = 0x8003 then some (le 2 (mget (laser s ((sub - 1) / 4)).tap ((sub - 1) % 4) 0))
  else if idx = 0x8004 then some (le 2 (mget (laser s ((sub - 1) / 4)).temp ((sub - 1) % 4) 0))
  else if idx = 0x8005 then some (mget (laser s ((sub - 1) / 4)).sol ((sub - 1) % 4) 0)
  else if idx = 0x81A0 then some (le 2 (mget s.peTemp (sub - 1) 0))
  else if idx = 0x9003 then some (erFatal s).toNat
  else if idx = 0x9004 then some (counter s (0x440100 + 8 * (sub - 1))).toNat
  else if idx = 0x9005 then some (counter s (0x440200 + 8 * (sub - 1))).toNat
  else if idx = 0x9010 then some (ofLe (s.errs.history.flatMap (fun r => r.data 0 false)))
  else if idx = 0x9011 then some ((counter s 0x440400).toNat % 2 ^ 32)
  else
    if 0x5100 ≤ idx && idx < 0x5200 then
      some (if sub = 1 then roomImage s (idx - 0x5100) else ofLe (wordsLe ((roomWords s (idx - 0x5100)).drop 1)))
    else if 0x8100 ≤ idx && idx < 0x81A0 then
      let x := lane s (idx % 32) (sub - 1)
      some (match (idx - 0x8100) / 32 with
        | 0 => le 2 x.rx | 1 => le 2 x.tx | 2 => le 2 x.offset | 3 => x.heater | _ => x.ber)
    else none

/-- Live values of the ranges 0xA000 to 0xC000. -/
def liveHigh (s : State) (idx sub : Nat) : Option Nat :=
  if idx = 0xA001 && sub = 1 then some s.sealing.lc
  else if idx = 0xA001 && sub = 2 then some (ofLe (beBytes 16 s.sealing.nonce))
  else if idx = 0xA001 && sub = 4 then some s.sealing.lcResult
  else if idx = 0xA100 && sub = 3 then some (ofLe ((List.range 16).map (fun i => BitVec.ofNat 8 (slotStatus (mget s.sealing.fab i {})))))
  else if idx = 0xA200 && sub = 5 then some (bitsOf 4 (fun k => (mfind s.sealing.mgmt (k + 1)).isSome))
  else if idx = 0xB000 && sub = 1 then some s.router.node
  else if idx = 0xB000 && sub = 2 then some (b2n s.router.valid)
  else if idx = 0xB010 && sub = 3 then some s.router.result
  else if idx = 0xB011 && sub = 1 then some (b2n s.router.drain)
  else if idx = 0xB011 && sub = 2 then some (rtCode s.router.st)
  else if idx = 0xB012 then some (b2n (fport s (sub - 1)).fence)
  else if idx = 0xB013 then some (b2n (fport s (sub - 1)).lost)
  else if idx = 0xC003 then some (tileCode s (sub - 1))
  else if idx = 0xC004 then some (16384 - parked s)
  else if idx = 0xC101 && sub = 1 then some ((mget s.hot 0 []).length + (mget s.hot 1 []).length)
  else if idx = 0xC101 && sub = 2 then some (warmAll s)
  else if idx = 0xC101 && sub = 3 then some (4096 - ((mget s.porch 0 []).length + (mget s.porch 1 []).length))
  else if idx = 0xC101 && sub = 4 then some (262144 - allOps s)
  else if idx = 0xC201 && sub = 2 then some s.coll.itins.length
  else if idx = 0xC210 && sub = 3 then some s.coll.itinResult
  else if idx = 0xC220 && sub = 3 then some (4096 - s.coll.parties.length)
  else if idx = 0xC220 && sub = 4 then some (16384 - s.coll.rounds.length)
  else none

/-- A live value, where the entry has one. -/
def liveOf (s : State) (idx sub : Nat) : Option Nat :=
  if idx < 0x4000 then liveLow s idx sub else if idx < 0xA000 then liveMid s idx sub else liveHigh s idx sub

/-- The value that a read returns (R998, R1002): WO and SECRET entries read zero. Log 152 (DESIGN CHOICE). -/
def readValue (s : State) (r : DRow) (idx sub : Nat) : Nat :=
  if r.hidden || r.access = 2 then 0
  else if r.type = 0x0E then r.dflt
  else match liveOf s idx sub with
    | some v => v
    | none => obj s idx sub r.dflt

/-! ## Requester classes and rights -/

/-- Classes of R1004; a lodge PF's names its port. -/
inductive RClass where
  | innkeeper | lodge (port : Nat) | board | manager | openly | vendor
  deriving DecidableEq, Repr

/-- The bit of a class (R1004). -/
def RClass.bit : RClass → Nat
  | .innkeeper => 0 | .lodge _ => 1 | .board => 2 | .manager => 3 | .openly => 4 | .vendor => 5

/-- The range of R1006 that an index lies in; 0x28 for the fabric ports. -/
def rangeOf (idx : Nat) : Nat := if 0x2800 ≤ idx && idx < 0x3000 then 0x28 else idx / 0x1000

/-- Whether a lodge PF on a port may read an entry (R1006). -/
def lodgeReads (s : State) (p idx sub : Nat) : Bool :=
  match rangeOf idx with
  | 1 => true
  | 2 => sub == p + 1
  | 4 => true
  | 5 => decide (0x5100 ≤ idx) && (room s (idx - 0x5100)).st != .free && fnPort (room s (idx - 0x5100)).fn == p && fnSlot (room s (idx - 0x5100)).fn != 0
  | 6 => true
  | 7 => true
  | _ => false

/-- Entries that the state of the device bars from reading: in FATAL, while tripped, and in RETIRED (R976, R1130, R1007). -/
def stateReads (s : State) (idx : Nat) : Bool :=
  let r := rangeOf idx
  (!s.errs.fatal || r == 1 || r == 9) && (!s.power.tripped || r == 1 || r == 7 || r == 9) && (s.sealing.lc != 4 || r == 1)

/-- Key entries (R1002, R1007). Log 142 (DEDUCED). -/
def keyEntry (idx sub : Nat) : Bool := (idx == 0xA100 && sub != 3) || (idx == 0xA200 && sub != 5) || idx == 0xA010

/-- Entries that the state of the device bars from writing (R976, R1130, R1007). -/
def stateWrites (s : State) (idx sub : Nat) : Bool :=
  !s.errs.fatal && !s.power.tripped && s.sealing.lc != 4 && (!keyEntry idx sub || keysAllowed s)

/-- Whether a class may read an entry (R1006, R1007). -/
def mayRead (s : State) (c : RClass) (idx sub : Nat) : Bool :=
  stateReads s idx &&
    match c with
    | .lodge p => lodgeReads s p idx sub
    | .board => [1, 4, 6, 7, 8, 9].contains (rangeOf idx)
    | _ => true

/-- Whether a class may write an entry (R1006, R1007). -/
def mayWrite (s : State) (c : RClass) (idx sub : Nat) : Bool :=
  stateWrites s idx sub &&
    match c with
    | .lodge _ => false
    | .board => rangeOf idx == 6
    | _ => rangeOf idx != 7

/-- The classes that some condition admits, as the bits of R1012; a lodge PF's bit is set when some port's is admitted. Log 148 (DEDUCED). -/
def classBits (f : RClass → Bool) : Nat :=
  b2n (f .innkeeper) + 2 * b2n ((List.range 8).any (fun p => f (.lodge p))) + 4 * b2n (f .board) + 8 * b2n (f .manager) + 16 * b2n (f .openly) +
    32 * b2n (f .vendor)

/-! ## Descriptors -/

/-- A string in n bytes, padded with zeros (R997). Log 143 (DESIGN CHOICE). -/
def strBytes (n : Nat) (t : String) : List Byte := ((t.toUTF8.toList.map (fun (b : UInt8) => b.toBitVec)) ++ List.replicate n 0).take n

/-- A bound in an entry's type, zero-extended (R1012). Log 143 (DESIGN CHOICE). -/
def DRow.bound (r : DRow) (x : Int) : Nat := if r.type = 0 || 0x0B < r.type then 0 else (BitVec.ofInt (8 * r.size) x).toNat

/-- The 80 B descriptor of an entry (R1012). Log 143 (DESIGN CHOICE). -/
def descriptor (s : State) (r : DRow) (idx sub : Nat) : List Byte :=
  [BitVec.ofNat 8 r.type, BitVec.ofNat 8 r.access] ++ leBytes 2 r.size ++
    [BitVec.ofNat 8 (classBits (fun c => mayRead s c idx sub)), BitVec.ofNat 8 (classBits (fun c => mayWrite s c idx sub)),
     BitVec.ofNat 8 (b2n r.hidden), BitVec.ofNat 8 r.boundary] ++
    leBytes 8 (r.bound r.min) ++ leBytes 8 (r.bound r.max) ++ leBytes 8 r.dflt ++ strBytes 16 r.unit ++ strBytes 32 r.name

/-! ## Frames -/

/-- Transports of the MG_ counters: 0 MCTP on host ports, 1 sideband, 2 UDP, 3 in-band. -/
def transport : RSrc → Nat
  | .mctp _ => 0 | .sideband => 1 | .udp _ _ => 2 | .inband _ => 3

/-- Whether a source lies beyond the module's own connectors (R947). -/
def isRemote (src : RSrc) : Bool := decide (2 ≤ transport src)

/-- Whether a fabric port carries MGMT frames (R828). -/
def mgmtPort (s : State) (p : Nat) : Bool := decide (p < 32) && (fport s p).direct && (fport s p).st == .up

/-- Whether the path to a source stands. -/
def reachable (s : State) : RSrc → Bool
  | .mctp p => decide (p < 8) && (hport s p).st == .up
  | .sideband => true
  | .udp _ _ => s.power.mgmtUp
  | .inband p => mgmtPort s p

/-- The length of a frame (R1008). -/
def frameSize (f : RFrame) : Nat := 16 + (if f.route.isSome then 20 else 0) + f.data.length + (if f.auth.isSome then 24 else 0)

/-- The opcode that a frame carries. -/
def frameOp (op : Nat) (f : RFrame) : Nat := f.opcode.getD op

/-- The bytes that the tag covers: everything before it, with the route extension as zero (R1008, R1009, R1013). -/
def cmacBytes (op : Nat) (f : RFrame) : List Byte :=
  [BitVec.ofNat 8 (f.version % 16 * 16 + f.type % 16), BitVec.ofNat 8 (frameOp op f)] ++ beBytes 2 f.tag ++
    [BitVec.ofNat 8 (b2n f.auth.isSome * 128 + b2n f.route.isSome * 64 + b2n f.more * 32 + f.reserved % 4 * 8 + f.keyId % 8), BitVec.ofNat 8 f.status] ++
    beBytes 2 f.index ++ [BitVec.ofNat 8 f.sub, BitVec.ofNat 8 (f.reserved / 4)] ++ beBytes 2 f.data.length ++ beBytes 4 f.offset ++
    (if f.route.isSome then List.replicate 20 0 else []) ++ f.data ++
    (match f.auth with | some a => beBytes 4 a.1 ++ List.replicate 4 0 | none => [])

/-- The key under which a frame's tag passes, if it does (R941, R942). Log 10 (DESIGN CHOICE). -/
def authKey (s : State) (op : Nat) (f : RFrame) : Option (List Byte) :=
  match f.auth, mfind s.sealing.mgmt f.keyId with
  | some a, some key => if Config.cmac (ofLe key) (cmacBytes op f) = a.2 then some key else none
  | _, _ => none

/-- Whether R947, or R943 for a management key, requires authentication of a remote request. Log 145 (DEDUCED). -/
def authRequired (s : State) (op : Nat) (f : RFrame) : Bool :=
  s.sealing.lc == 2 || s.sealing.lc == 3 || (s.sealing.lc == 1 && !s.sealing.mgmt.isEmpty) ||
    (frameOp op f == 2 && f.index == 0xA200 && decide (1 ≤ f.sub) && decide (f.sub ≤ 4))

/-- Whether a freshness count is accepted (R1014, R1015). -/
def Fresh.accepts (x : Fresh) (v : Nat) : Bool :=
  decide (v < 0xFFFFFFFF) && (decide (x.highest < v) || (decide (v < x.highest) && decide (x.highest ≤ v + 64) && !x.seen.contains v))

/-- Accept a freshness count (R1014, R1016). -/
def Fresh.take (x : Fresh) (v : Nat) : Fresh :=
  let h := Nat.max x.highest v
  { highest := h
    seen := (sadd x.seen v).filter (fun y => decide (h ≤ y + 64))
    stored := if x.highest / 65536 < h / 65536 then h + 65536 else x.stored }

/-- Change the dictionary's record. -/
def modDict (f : Dict → Dict) (s : State) : State := { s with dict := f s.dict }

/-! ## Responses -/

/-- Sixteen route ports. -/
def routePorts (r : RRoute) : List Nat := (r.ports ++ List.replicate 16 0).take 16

/-- The route of a response (R1025). -/
def returnRoute (src : RSrc) (r : RRoute) : RRoute :=
  let first := match src with | .inband p => p | _ => 0xFF
  { hops := r.hops
    hopIndex := 0
    ports := ((if r.hops = 0 then [] else first :: (List.range (r.hops - 1)).map (fun k => (routePorts r).getD (r.hops - (k + 1)) 0)) ++
      List.replicate 16 0).take 16 }

/-- A response as it is sent: on the request's way back, and under the request's FRESH, KEY_ID and key when it was authenticated (R1013, R1025). -/
def sealResponse (src : RSrc) (f : RFrame) (key : Option (List Byte)) (resp : RFrame) : RFrame :=
  let r1 : RFrame := { resp with route := f.route.map (returnRoute src) }
  match key, f.auth with
  | some k, some a =>
    let r2 : RFrame := { r1 with keyId := f.keyId, auth := some (a.1, []) }
    { r2 with auth := some (a.1, Config.cmac (ofLe k) (cmacBytes 0 r2)) }
  | _, _ => r1

/-- Send a response. -/
def sendResponse (src : RSrc) (f : RFrame) (key : Option (List Byte)) (resp : RFrame) (s : State) : State :=
  if reachable s src then emit (.relivicel src (sealResponse src f key resp)) s else s

/-- Keep a response: the last 16 of its source (R1032). Log 146 (DEDUCED). -/
def keepResponse (src : RSrc) (f : RFrame) (resp : RFrame) (s : State) : State :=
  let k : Kept := { src := src, tag := f.tag, index := f.index, sub := f.sub, offset := f.offset, data := f.data, resp := resp, time := elapsed s }
  let mine := s.dict.kept.filter (fun x => x.src == src)
  modDict (fun d => { d with kept := k :: (mine.take 15 ++ d.kept.filter (fun x => x.src != src)) }) s

/-- The kept response of a repeat within 1 s (R1032). Log 146 (DEDUCED). -/
def keptOf (s : State) (src : RSrc) (f : RFrame) : Option RFrame :=
  (s.dict.kept.find? (fun k => k.src == src && k.tag == f.tag && k.index == f.index && k.sub == f.sub && k.offset == f.offset && k.data == f.data &&
    decide (sdiff (elapsed s) k.time < 16000000000))).map (fun k => k.resp)

/-- Answer a request: the response is kept and sent. -/
def respond (src : RSrc) (f : RFrame) (op : Nat) (key : Option (List Byte)) (status : Nat) (data : List Byte) (more : Bool) (s : State) : State :=
  let resp : RFrame := { type := 1, opcode := some (frameOp op f), tag := f.tag, more := more, status := status, index := f.index, sub := f.sub,
                         offset := f.offset, data := data }
  sendResponse src f key resp (keepResponse src f resp s)

/-! ## What a write does -/

/-- Entries whose written value waits for a reset, a link, a beacon or a change of the tide unit's state before it is in force (their "Applies at"
column). Log 195 (DEDUCED). -/
def deferredEntry (idx sub : Nat) : Bool :=
  idx == 0xA000 || idx == 0x4001 || idx == 0x4002 || (idx == 0x4003 && sub == 1) || (idx == 0x1030 && sub == 2) || (idx == 0x6005 && sub == 1) || idx == 0x6010 || idx == 0x2000 || idx == 0x2001 || idx == 0x2006 || idx == 0x1020

/-- Set an object's value; a deferred one leaves the value in force where it was (R999). -/
def setObj (r : DRow) (idx sub v : Nat) (s : State) : State :=
  let k := okey idx sub
  { s with
    objNow := if deferredEntry idx sub && (mfind s.objNow k).isNone then mset s.objNow k (obj s idx sub r.dflt) else s.objNow
    objs := mset s.objs k v }

/-- Whether a port's flow-control settings are rejected (R844). -/
def pfcBad (s : State) (p mode high low : Nat) : Bool := decide (2 < mode) || decide (high ≤ low) || decide (ingressCap (fport s p) / 1024 < high)

/-- A write of one of the four flow-control objects of a port: FP_PFC_CFG holds the value (R844, R1029). Log 102 (DEDUCED). -/
def pfcWrite (idx p v : Nat) (s : State) : Nat × State :=
  let old := rd s (0x300030 + 0x1000 * p) 0x0000003000600F02
  let mode := if idx = 0x2807 then v else wfld old 1 0
  let prio := if idx = 0x2808 then v else wfld old 15 8
  let high := if idx = 0x2809 then v else wfld old 31 16
  let low := if idx = 0x280A then v else wfld old 47 32
  if pfcBad s p mode high low then (5, s)
  else (0, wrBuf (0x300030 + 0x1000 * p) 0x0000003000600F02 (img (low % 2 ^ 16 * 2 ^ 32 + high % 2 ^ 16 * 65536 + prio % 256 * 256 + mode)) .frame s)

/-- The sum of VF_BUDGET with one port's new value (R127). -/
def budgetSum (s : State) (p v : Nat) : Nat := (List.range 8).foldl (fun a i => a + (if i = p then v else obj s 0x2001 (i + 1) 31)) 0

/-- A write of the transit pool (R195). -/
def transitOk (s : State) (d v : Nat) : Bool := decide (resvSum s d + v ≤ dieCap s d) || decide (v ≤ transitPool s d)

/-- The chapter's own part of a write of an object: its status, and what it does beside the value itself. Log 102 (DEDUCED), 200 (DESIGN CHOICE). -/
def writeEffect (idx sub v : Nat) (bytes : List Byte) (remote authentic : Bool) (s : State) : Nat × State :=
  if idx = 0x1010 then (0, restoreDefaults v s)
  else if idx = 0x2001 then (if 248 < budgetSum s (sub - 1) v then 5 else 0, s)
  else if idx = 0x2102 then (0, if v = 1 && obj s 0x2102 sub 1 = 0 then dsEnableCycle (sub - 1) ((mget s.ds (sub - 1) {}).st == 2) s else s)
  else if idx = 0x2807 then pfcWrite idx (sub - 1) v s
  else if idx = 0x2808 then pfcWrite idx (sub - 1) v s
  else if idx = 0x2809 then pfcWrite idx (sub - 1) v s
  else if idx = 0x280A then pfcWrite idx (sub - 1) v s
  else if idx = 0x2860 then (0, ethPeerWrite (ofLe (bytes.take 4)) (bytes.drop 4) s)
  else if idx = 0x3001 then (if transitOk s (sub - 1) v then 0 else 5, s)
  else if idx = 0x4005 then (0, if sub = 4 then modTide (fun t => { t with nextPps := some v }) s else s)
  else if idx = 0x6000 then let r := domRequest (sub - 1) v s; (if r.1 then 5 else 0, r.2)
  else if idx = 0x6002 then (0, wr 0x270018 (img v) s)
  else if idx = 0x6004 then let r := tideReset v s; (if r.1 then 5 else 0, r.2)
  else if idx = 0xA100 then
    (0, if sub = 1 then fabricKeyWrite (ofLe (bytes.take 1)) (ofLe ((bytes.drop 1).take 1)) (bytes.drop 2) s
        else fabricRotate (ofLe (bytes.take 1)) (img (ofLe (bytes.drop 1))) s)
  else if idx = 0xA200 then (0, mgmtKey sub bytes remote authentic s)
  else if idx = 0xB000 then
    if (s.router.st == .run || s.router.st == .draining) && s.router.node != v then (5, s) else (0, nodeAddrSet v s)
  else if idx = 0xB001 then (if 8192 < 8 * v + obj s 0xB002 sub 1976 then 5 else 0, s)
  else if idx = 0xB002 then (if 8192 < 8 * obj s 0xB001 sub 36 + v then 5 else 0, s)
  else if idx = 0xB010 then
    if sub = 1 then (0, routeWrite (ofLe (bytes.take 4)) ((List.range 128).map (fun i => wordAt (bytes.drop 4) i)) s)
    else if v = 1 then
      let s1 := routerCommit s
      (0, modRouter (fun r => { r with result := b2n r.cfgErr }) s1)
    else (0, s)
  else if idx = 0xB011 then (0, routerDrain (v == 1) s)
  else if idx = 0xB012 then (0, setFence (sub - 1) (v == 1) s)
  else if idx = 0xC100 then (if sub = 1 && decide (obj s 0xC201 1 2000 < 32 * v) then 5 else 0, s)
  else if idx = 0xC201 then (if v < 32 * obj s 0xC100 1 32 then 5 else 0, s)
  else if idx = 0xC210 then
    (0, if sub = 1 then itinLoad bytes s
        else let r := removeItin v s; modColl (fun c => { c with itinResult := r.1 }) r.2)
  else (0, s)

/-- What follows the answer to a write: MODULE_RESET and LC_REQUEST reset the module (R1088, R944). Log 141 (DEDUCED). -/
def writeAfter (idx sub v : Nat) (bytes : List Byte) (remote authentic : Bool) (s : State) : State :=
  if idx = 0x6003 then moduleResetWrite v s
  else if idx = 0xA001 && sub = 3 then lcRequest bytes (if remote then 1 else 2) authentic s
  else s

/-- Whether a value lies in an entry's range (R997, R1000). -/
def DRow.inRange (r : DRow) (v : Nat) : Bool :=
  if r.type = 1 then decide (v ≤ 1)
  else if 2 ≤ r.type && r.type ≤ 5 then decide (r.min ≤ (v : Int)) && decide ((v : Int) ≤ r.max)
  else if 6 ≤ r.type && r.type ≤ 9 then
    let x := (BitVec.ofNat (8 * r.size) v).toInt
    decide (r.min ≤ x) && decide (x ≤ r.max)
  else true

/-! ## Serving a request -/

/-- A request being served: its source, frame, opcode, class, and the key under which it was authenticated. -/
structure Req where
  src : RSrc
  frame : RFrame
  op : Nat
  cls : RClass
  key : Option (List Byte)
  deriving DecidableEq, Repr

/-- Answer a request without data. -/
def Req.answer (q : Req) (status : Nat) (s : State) : State := respond q.src q.frame q.op q.key status [] false s

/-- Apply a whole value to an entry: its range, its chapter's own checks, its effect; an RWS value is answered once it is stored (R1000, R1001). Log 151 (DEDUCED). -/
def applyWrite (q : Req) (r : DRow) (bytes : List Byte) (s : State) : State :=
  let f := q.frame
  let v := ofLe bytes
  if !r.inRange v then q.answer 4 s
  else
    let e := writeEffect f.index f.sub v bytes (isRemote q.src) q.key.isSome s
    if e.1 ≠ 0 then q.answer e.1 e.2
    else if r.access = 3 then
      modDict (fun d => { d with stores := d.stores ++ [{ index := f.index, sub := f.sub, value := v, src := q.src, frame := f, key := q.key }] })
        (setObj r f.index f.sub v e.2)
    else
      let s1 := if r.access = 1 then setObj r f.index f.sub v e.2 else e.2
      writeAfter f.index f.sub v bytes (isRemote q.src) q.key.isSome (q.answer 0 s1)

/-- Whether a held write is a requester's write of an entry. -/
def SegWrite.of (w : SegWrite) (q : Req) : Bool := w.src == q.src && w.index == q.frame.index && w.sub == q.frame.sub

/-- Discard a requester's held write of an entry. -/
def dropHeld (q : Req) (s : State) : State := modDict (fun d => { d with writes := d.writes.filter (fun w => !w.of q) }) s

/-- Hold the bytes of a segmented write so far. -/
def holdWrite (q : Req) (data : List Byte) (s : State) : State :=
  modDict (fun d => { d with
    writes := d.writes.filter (fun w => !w.of q) ++
      [{ src := q.src, tag := q.frame.tag, index := q.frame.index, sub := q.frame.sub, data := data, due := elapsed s + 1600000000 }] }) s

/-- The first segment of a write (R1017, R1018). -/
def firstSegment (q : Req) (r : DRow) (s : State) : State :=
  let s1 := dropHeld q s
  if r.size ≤ q.frame.data.length then q.answer 6 s1
  else if 8 ≤ s1.dict.writes.length then q.answer 7 s1
  else q.answer 1 (holdWrite q q.frame.data s1)

/-- A later segment of a write (R1017). -/
def laterSegment (q : Req) (r : DRow) (s : State) : State :=
  match s.dict.writes.find? (fun w => w.of q && w.tag == q.frame.tag) with
  | none => q.answer 6 s
  | some w =>
    let all := w.data ++ q.frame.data
    if q.frame.offset ≠ w.data.length then q.answer 6 (dropHeld q s)
    else if q.frame.more then (if all.length < r.size then q.answer 1 (holdWrite q all s) else q.answer 6 (dropHeld q s))
    else if all.length = r.size then applyWrite q r all (dropHeld q s)
    else q.answer 6 (dropHeld q s)

/-- WRITE of an entry (R998, R1000, R1006, R1017). Log 147 (DEDUCED). -/
def objectWrite (q : Req) (r : DRow) (s : State) : State :=
  let f := q.frame
  if !mayWrite s q.cls f.index f.sub then q.answer 0 (silent s)
  else if r.access = 0 || r.access = 4 then q.answer 0 s
  else if f.offset ≠ 0 then laterSegment q r s
  else if f.more then firstSegment q r s
  else if f.data.length ≠ r.size then q.answer 3 s
  else applyWrite q r f.data s

/-- READ of an entry (R1006, R1010, R1019). -/
def objectRead (q : Req) (r : DRow) (s : State) : State :=
  let f := q.frame
  if r.size ≤ f.offset then q.answer 3 s
  else
    let n := Nat.min 1024 (r.size - f.offset)
    let ok := mayRead s q.cls f.index f.sub
    let v := if ok then ((leBytes r.size (readValue s r f.index f.sub)).drop f.offset).take n else List.replicate n 0
    respond q.src f q.op q.key 0 v (decide (f.offset + n < r.size)) (if ok then s else silent s)

/-- DESCRIBE of an entry (R1012). Log 148 (DEDUCED). -/
def serveDescribe (q : Req) (r : DRow) (s : State) : State :=
  if stateReads s q.frame.index then respond q.src q.frame q.op q.key 0 (descriptor s r q.frame.index q.frame.sub) false s
  else respond q.src q.frame q.op q.key 0 (List.replicate 80 0) false (silent s)

/-- NEXT (R1010). Log 148 (DEDUCED). -/
def serveNext (q : Req) (s : State) : State :=
  match nextEntry (stateReads s) q.frame.index q.frame.sub with
  | none => q.answer 0x0A s
  | some k => respond q.src q.frame q.op q.key 0 (leBytes 2 (k / 256) ++ [BitVec.ofNat 8 k]) false s

/-- Whether a header field breaks R1009 or R1010. -/
def malformed (f : RFrame) : Bool :=
  f.version != 1 || decide (1 < f.type) || f.opcode.isSome || f.status != 0 || f.reserved != 0 ||
    (if f.auth.isSome then f.keyId == 0 || decide (4 < f.keyId) else f.keyId != 0)

/-- Execute a request whose class is decided (R1010, R1011, R1032). -/
def serveReq (q : Req) (s : State) : State :=
  let f := q.frame
  match keptOf s q.src f with
  | some resp => sendResponse q.src f q.key resp s
  | none =>
    if malformed f then q.answer 9 s
    else if 1024 < f.data.length || (q.op ≠ 2 && !f.data.isEmpty) then q.answer 3 s
    else if q.op = 4 then serveNext q s
    else match entryOf f.index f.sub with
      | none => q.answer 2 s
      | some r => if q.op = 1 then objectRead q r s else if q.op = 2 then objectWrite q r s else serveDescribe q r s

/-- The class of a request that needs no authentication, or came on a path that asks none (R1004). Log 145 (DEDUCED). -/
def plainClass (s : State) : RSrc → RClass
  | .mctp p => if p = innPort s then .innkeeper else .lodge p
  | .sideband => .board
  | _ => .openly

/-- Decide the class of a request that this device serves, and serve it (R1004, R1005, R1014). Log 145 (DEDUCED). -/
def serveHere (op : Nat) (src : RSrc) (f : RFrame) (s : State) : State :=
  if f.type = 1 then bump (0x260120 + 8 * transport src) s
  else
    let plain := serveReq { src := src, frame := f, op := op, cls := plainClass s src, key := none }
    if !isRemote src then plain s
    else
      match authKey s op f with
      | none => if authRequired s op f then bump 0x380120 s else plain s
      | some key =>
        let v := (f.auth.getD (0, [])).1
        if !(mget s.dict.fresh f.keyId {}).accepts v then raise 13 0 (bump 0x260140 s)
        else
          serveReq { src := src, frame := f, op := op, cls := if s.sealing.lc = 3 && f.keyId = 1 then .vendor else .manager, key := some key }
            (modDict (fun d => { d with fresh := mset d.fresh f.keyId ((mget d.fresh f.keyId {}).take v) }) s)

/-! ## The relay -/

/-- The relay key of a frame (R1026). -/
def relayKey (f : RFrame) : Nat × Nat × Nat :=
  match f.auth with
  | some a => (f.tag, f.keyId, a.1)
  | none => (f.tag, 0, 0)

/-- The key of a relay entry. -/
def Relay.key (e : Relay) : Nat × Nat × Nat := (e.tag, e.keyId, e.fresh)

/-- A relayed frame is dropped (R1024, R1026). -/
def relayDrop (s : State) : State := bump 0x260148 s

/-- Send a frame on by its next port, with the port it came by in that place (R1024). -/
def relaySend (src : RSrc) (f : RFrame) (r : RRoute) (s : State) : State :=
  let came := match src with | .inband p => p | _ => 0xFF
  let out := (routePorts r).getD r.hopIndex 0
  emit (.relivicel (.inband out) { f with route := some { r with hopIndex := r.hopIndex + 1, ports := (routePorts r).set r.hopIndex came } }) s

/-- Forward a frame; a gateway enters a request in its relay table (R1024, R1026). Log 144 (DEDUCED). -/
def relayForward (src : RSrc) (f : RFrame) (r : RRoute) (s : State) : State :=
  if 16 < r.hops || !mgmtPort s ((routePorts r).getD r.hopIndex 0) then relayDrop s
  else
    let gateway := match src with | .inband _ => false | _ => f.type == 0
    if !gateway then relaySend src f r s
    else
      let k := relayKey f
      match s.dict.relay.find? (fun e => e.key == k) with
      | some e =>
        let again := { e with due := elapsed s + 16000000000 }
        if e.src = src then relaySend src f r (modDict (fun d => { d with relay := d.relay.map (fun x => if x.key = k then again else x) }) s)
        else relayDrop s
      | none =>
        if 256 ≤ s.dict.relay.length then s
        else relaySend src f r (modDict (fun d => { d with relay := d.relay ++ [{ tag := k.1, keyId := k.2.1, fresh := k.2.2, src := src, due := elapsed s + 16000000000 }] }) s)

/-- A frame that core 0 takes off an in-band port's receive buffer (R828). Log 150 (DEDUCED). -/
def takeMgmt (src : RSrc) (s : State) : State :=
  match src with
  | .inband p => modFport p (fun f => { f with mgmtHeld := f.mgmtHeld - 1 }) s
  | _ => s

/-- Whether core 0 serves requests (R48, R52). -/
def core0Runs (s : State) : Bool := !s.errs.coresHalted.contains 0

/-- Requests that wait on a transport for a store to end (R1031). -/
def waitingOn (s : State) (k : Nat) : Nat := (s.dict.stores.filter (fun x => transport x.src == k)).length

/-- What core 0 does with a frame that arrives, before and after it knows whether the frame is for this device (R1020, R1021, R1024, R1025, R1031). Log 144 (DEDUCED). -/
def frameIn (here : State → State) (src : RSrc) (f : RFrame) (s : State) : State :=
  if !core0Runs s || !reachable s src then s
  else
    let s1 := takeMgmt src s
    let k := transport src
    if !f.formOk then bump (0x260120 + 8 * k) s1
    else if 1084 < frameSize f then s1
    else if 32 ≤ waitingOn s1 k then raise 13 1 (bump 0x260150 s1)
    else
      let s2 := bump (0x260100 + 8 * k) s1
      match f.route with
      | none => here s2
      | some r =>
        if r.hopIndex < r.hops then relayForward src f r s2
        else if 16 < r.hops || r.hops < r.hopIndex then relayDrop s2
        else here s2

/-- A Relivicel request arrives. -/
def relivicel (op : Nat) (src : RSrc) (f : RFrame) (s : State) : State :=
  frameIn (serveHere op src f) src f s

/-- RELIVICEL_READ (R1010). -/
def execRelivicelRead (src : RSrc) (f : RFrame) (s : State) : Answer := actAlways everything (relivicel 1 src f) s

/-- RELIVICEL_WRITE (R1010). -/
def execRelivicelWrite (src : RSrc) (f : RFrame) (s : State) : Answer := actAlways everything (relivicel 2 src f) s

/-- RELIVICEL_DESCRIBE (R1010). -/
def execRelivicelDescribe (src : RSrc) (f : RFrame) (s : State) : Answer := actAlways everything (relivicel 3 src f) s

/-- RELIVICEL_NEXT (R1010). -/
def execRelivicelNext (src : RSrc) (f : RFrame) (s : State) : Answer := actAlways everything (relivicel 4 src f) s

/-- RELAY_FORWARD: a frame whose route goes on from here; one that ends here is served or delivered by its own command (R1024). -/
def execRelayForward (src : RSrc) (f : RFrame) (s : State) : Answer := actAlways (interrupts ++ [.cnt, .fports, .dict]) (frameIn id src f) s

/-- A response that ends here goes to the entry whose key it carries (R1026). Log 144 (DEDUCED). -/
def relayResponse (f : RFrame) (s : State) : State :=
  match s.dict.relay.find? (fun e => e.key == relayKey f) with
  | none => bump 0x260138 s
  | some e =>
    let s1 := modDict (fun d => { d with relay := d.relay.erase e }) s
    if reachable s1 e.src then emit (.relivicel e.src f) s1 else s1

/-- RELAY_RESPONSE: a response arrives by a fabric port (R1026). -/
def execRelayResponse (port : Nat) (f : RFrame) (s : State) : Answer :=
  actAlways (interrupts ++ [.cnt, .fports, .dict]) (frameIn (fun s => if f.type = 1 then relayResponse f s else s) (.inband port) f) s

/-- RELAY_ENTRY_EXPIRE: 1 s without a refresh (R1026). -/
def relayEntryExpire (tag keyId fresh : Nat) (s : State) : State :=
  modDict (fun d => { d with relay := d.relay.filter (fun e => e.key != (tag, keyId, fresh) || !reached e.due (elapsed s)) }) s

/-- RELAY_ENTRY_EXPIRE (R1026). -/
def execRelayEntryExpire (tag keyId fresh : Nat) (s : State) : Answer := actAlways [.dict] (relayEntryExpire tag keyId fresh) s

/-- SEGMENT_GAP_EXPIRE: 100 ms without a segment (R1018). -/
def segmentGapExpire (src : RSrc) (tag idx sub : Nat) (s : State) : State :=
  modDict (fun d => { d with writes := d.writes.filter (fun w =>
    !(w.src == src && w.tag == tag && w.index == idx && w.sub == sub && reached w.due (elapsed s))) }) s

/-- SEGMENT_GAP_EXPIRE (R1018). -/
def execSegmentGapExpire (src : RSrc) (tag index sub : Nat) (s : State) : Answer := actAlways [.dict] (segmentGapExpire src tag index sub) s

/-- A store of an entry ends: its write is answered, and a module reset that waited for it may start (R1001, R1030, R1088). Log 151 (DEDUCED). -/
def rwsStoreDone (idx sub : Nat) (ok : Bool) (s : State) : State :=
  if !core0Runs s then s
  else match s.dict.stores.find? (fun x => x.index == idx && x.sub == sub) with
    | none => s
    | some x =>
      let s1 := modDict (fun d => { d with
        stores := d.stores.erase x
        flash := if ok then mset d.flash (okey idx sub) x.value else d.flash }) s
      let s2 := if ok then bump 0x260158 s1 else raise 13 2 s1
      let s3 := respond x.src x.frame 2 x.key (if ok then 0 else 8) [] false s2
      if s3.power.resetDue = some 2 && s3.dict.stores.isEmpty then moduleReset 2 s3 else s3

/-- RWS_STORE_DONE (R1001). -/
def execRwsStoreDone (index sub : Nat) (ok : Bool) (s : State) : Answer := actAlways everything (rwsStoreDone index sub ok) s

/-! ## MCTP control commands -/

/-- Whether an endpoint answers: the PF of port p is endpoint p, the sideband endpoint 8 (R1022). -/
def endpointOk (s : State) (e : Nat) : Bool := core0Runs s && (if e < 8 then (hport s e).st == .up else e == 8)

/-- Answer an MCTP control command. Log 149 (PRESUMED). -/
def mctpAnswer (e cmd : Nat) (data : List Nat) (s : State) : State := if endpointOk s e then emit (.mctp e cmd data) s else s

/-- SET_ENDPOINT_ID: IDs 0 and 255 are refused (DSP0236, PRESUMED). Log 149 (PRESUMED). -/
def setEndpointId (e eid : Nat) (s : State) : State :=
  if !endpointOk s e then s
  else if eid = 0 || 255 ≤ eid then mctpAnswer e 1 [2] s
  else mctpAnswer e 1 [0, 0, eid, 0] (modDict (fun d => { d with eids := mset d.eids e eid }) s)

/-- SET_ENDPOINT_ID (R1022). -/
def execSetEndpointId (endpoint eid : Nat) (s : State) : Answer := actAlways [.out, .dict] (setEndpointId endpoint eid) s

/-- GET_ENDPOINT_ID (R1022). -/
def execGetEndpointId (endpoint : Nat) (s : State) : Answer :=
  actAlways [.out] (fun s => mctpAnswer endpoint 2 [0, mget s.dict.eids endpoint 0, 0, 0] s) s

/-- GET_ENDPOINT_UUID: MODULE_UUID (R1022, R1034). -/
def execGetEndpointUuid (endpoint : Nat) (s : State) : Answer :=
  actAlways [.out] (mctpAnswer endpoint 3 (0 :: (leBytes 16 Config.moduleUuid.toNat).map (fun b => b.toNat))) s

/-- GET_MCTP_VERSION_SUPPORT: which version of DSP0236 the endpoint reports is not stated: a free value. Log 149 (PRESUMED). -/
def getVersionSupport (e : Nat) (s : State) : State :=
  if endpointOk s e then useFresh (mctpAnswer e 4 [0, 1, (freshVal s).toNat % 2 ^ 32] s) else s

/-- GET_MCTP_VERSION_SUPPORT (R1022). -/
def execGetMctpVersionSupport (endpoint : Nat) (s : State) : Answer := actAlways [.out, .free] (getVersionSupport endpoint) s

/-- GET_MESSAGE_TYPE_SUPPORT: type 0x7E (R1021, R1022). -/
def execGetMessageTypeSupport (endpoint : Nat) (s : State) : Answer := actAlways [.out] (mctpAnswer endpoint 5 [0, 1, 0x7E]) s

/-- GET_VDM_SUPPORT: PCI vendor ID 0x1E5B, the only set; its command set version is not stated: a free value (R1021, R1022). Log 149 (PRESUMED). -/
def getVdmSupport (e : Nat) (s : State) : State :=
  if endpointOk s e then useFresh (mctpAnswer e 6 [0, 0xFF, 0, 0x1E, 0x5B, (freshVal s).toNat % 2 ^ 16] s) else s

/-- GET_VDM_SUPPORT (R1022). -/
def execGetVdmSupport (endpoint : Nat) (s : State) : Answer := actAlways [.out, .free] (getVdmSupport endpoint) s

end Sys2Proof.Machine
end

