-- ==== Sys2Proof/Machine/Registers.lean ====
section
/-! DEFINITION. Writes of registers without behaviour of their own, write-backs of SEQ, snapshots and arms (R1037 to R1067). A 4 B write is a write of
one half of its register (R1048); the commands of other files write the registers that act. -/

namespace Sys2Proof.Machine

open Sys2Proof

/-- Whether a part of a register covers its low half. -/
def coversLow (p : Part) : Bool := p == .full || p == .low

/-- Whether a part of a register covers its high half. -/
def coversHigh (p : Part) : Bool := p == .full || p == .high

/-- Blocks with an UNLOCK register (R1042). -/
def hasUnlock (b : Nat) : Bool := [14, 1, 2, 5, 11, 8, 6, 7].contains b || (decide (16 ≤ b) && decide (b < 56))

/-- UNLOCK_WRITE: the Innkeeper writes an UNLOCK register; only a write of 8 B arms or disarms (R1053). Log 142 (DEDUCED). -/
def unlockWrite (fn b : Nat) (part : Part) (key : Word) (s : State) : State :=
  if !isInn s fn || !hasUnlock b || part ≠ .full then s
  else if key.toNat = obj s 0xA010 0 0 then { s with arms := mset s.arms b (elapsed s) }
  else silent (disarm b s)

/-- UNLOCK_WRITE (R1053). -/
def execUnlockWrite (fn block : Nat) (part : Part) (key : Word) (s : State) : Answer := act [.cnt, .arms] (byPart part (fun p s => unlockWrite fn block p key s)) s

/-- UNLOCK_LAPSE: an arm that no write has used within 1 ms (R1054). Log 162 (DEDUCED). -/
def unlockLapse (b : Nat) (s : State) : State :=
  match mfind s.arms b with
  | some t => if reached (t + 16000000#64) (elapsed s) then disarm b s else s
  | none => s

/-- UNLOCK_LAPSE (R1054). -/
def execUnlockLapse (block : Nat) (s : State) : Answer := act [.arms] (unlockLapse block) s

/-! ## Write-backs -/

/-- The offset of a block's EVENT register in its block (R1042). -/
def eventOff (b : Nat) : Option Nat :=
  if 24 ≤ b then some 0x10
  else if 16 ≤ b then some 8
  else match b with
    | 1 => some 0x18 | 2 => some 8 | 7 => some 8 | 5 => some 0x10 | 0 => some 0x10
    | 14 => none | 15 => none | _ => some 0

/-- The block whose EVENT register lies at a BAR0 offset. -/
def eventBlock (off : Nat) : Option Nat :=
  (List.range 56).find? (fun b => match eventOff b with | some o => blkBase b + o == off | none => false)

/-- The SEQ that a write gives a register whose SEQ lies in bits 63 to 56, if it covers it. -/
def writtenSeq (part : Part) (v : Word) : Option Nat :=
  match part with
  | .full => some (wfld v 63 56)
  | .high => some (wfld v 31 24)
  | _ => none

/-- A write-back of an EVENT register: a match clears every event bit; bits left raise the Innkeeper's vector again (R1059, R1067). Log 159 (DEDUCED). -/
def eventBack (b seq : Nat) (s : State) : State :=
  let w := evReg s b
  let w1 := if wfld w 63 56 = seq then setFld w 55 0 0 else w
  let s1 : State := { s with events := mset s.events b w1 }
  if irqOn s1 b && evAny w1 then msix (innFn s1) (wfld (rd s1 0x200018 0) 10 0) s1 else s1

/-- The SEQ of Q_STATUS lies in bits 31 to 24 (R330). -/
def writtenQSeq (part : Part) (v : Word) : Option Nat := if coversLow part then some (wfld v 31 24) else none

/-- Clear the event bits of a queue's status (R330, R1059). -/
def Queue.cleared (k : Queue) (seq : Nat) : Queue := if k.seq.toNat = seq then { k with badDoorbell := false, overflow := false } else k

/-- EVENT_WRITE_BACK: an EVENT register, or the status of a queue or front desk (R1059). -/
def eventWriteBack (fn off : Nat) (v : Word) (part : Part) (s : State) : State :=
  if off = 0x1038 then
    match writtenQSeq part v with
    | some n => modRsp fn (fun k => k.cleared n) s
    | none => s
  else if 0x1000000 ≤ off && off < 0x1F00000 && off % 0x1000 = 0x18 then
    let q := (off - 0x1000000) / 0x1000
    if (queue s fn q).st = .free then silent s
    else match writtenQSeq part v with
      | some n => modQueue fn q (fun k => k.cleared n) s
      | none => s
  else if !isInn s fn then s
  else match eventBlock off, writtenSeq part v with
    | some b, some n => eventBack b n s
    | _, _ => s

/-- EVENT_WRITE_BACK (R1059). -/
def execEventWriteBack (fn off : Nat) (value : Word) (part : Part) (s : State) : Answer :=
  act reports (byPart part (fun p s => eventWriteBack fn off value p s)) s

/-! ## Snapshots -/

/-- The size of a block (R1042). -/
def blkSize (b : Nat) : Nat :=
  if 16 ≤ b then 0x1000
  else match b with
    | 8 => 0x20000 | 9 => 0x20000 | 6 => 0x40000 | 12 => 0x40000 | 7 => 0x200000 | 0 => 0 | 10 => 0 | 15 => 0 | _ => 0x10000

/-- Whether a counter's holding register lies in a block. -/
def inBlock (b off : Nat) : Bool := decide (blkBase b ≤ off) && decide (off < blkBase b + blkSize b)

/-- Copy the counters that a condition selects into their holding registers, the others keep theirs (R1062, R1063). Log 157 (DEDUCED). -/
def snapWhere (f : Nat → Bool) (s : State) : State :=
  { s with snap := (s.cnt.filter (fun p => f p.1)).foldl (fun m p => mset m p.1 p.2) (s.snap.filter (fun p => !f p.1)) }

/-- BLOCK_SNAPSHOT: a write of 1 to a block's SNAP bit; GLB_SNAP is every block's (R1062). Log 157 (DEDUCED). -/
def blockSnapshot (fn b : Nat) (s : State) : State :=
  if !isInn s fn then s
  else if b = 14 then { s with snap := s.cnt }
  else if b < 56 then snapWhere (inBlock b) s else s

/-- BLOCK_SNAPSHOT (R1062). -/
def execBlockSnapshot (fn block : Nat) (s : State) : Answer := act [.snap] (blockSnapshot fn block) s

/-- GLB_SNAPSHOT (R1062). -/
def execGlbSnapshot (fn : Nat) (s : State) : Answer := act [.snap] (fun s => if isInn s fn then { s with snap := s.cnt } else s) s

/-! ## Registers of a function -/

/-- A write of the front desk page (R299): bases and sizes only while ENABLE is 0 and IDLE is 1, a size only from 8 to 16 (R333). -/
def deskWrite (fn o : Nat) (part : Part) (v : Word) (s : State) : State :=
  let f := (func s fn).fd
  let open_ := !f.enable && deskIdle f
  let put := fun (g : FrontDesk → FrontDesk) (s : State) => modFunc fn (fun x => { x with fd := g x.fd }) s
  if !(func s fn).enabled then s
  else if o = 0 then
    (if open_ then put (fun f => { f with req := { f.req with base := (partWrite (img f.req.base) part v).toNat } }) s else s)
  else if o = 8 then
    (if open_ then put (fun f => { f with resp := { f.resp with base := (partWrite (img f.resp.base) part v).toNat } }) s else s)
  else if o = 0x10 && coversLow part then
    let n := wfld v 20 16
    let s1 := put (fun f => { f with resp := { f.resp with vector := wfld v 31 21 } }) s
    if open_ && decide (8 ≤ n) && decide (n ≤ 16) then
      put (fun f => { f with req := { f.req with log2 := n }, resp := { f.resp with log2 := n + 1 } }) s1
    else s1
  else s

/-- A write of a queue's Q_CTRL: MOD_TIME and MOD_COUNT (R329); a message that they make due goes out (R326). Log 154 (DESIGN CHOICE). -/
def qCtrlWrite (fn q : Nat) (part : Part) (v : Word) (s : State) : State :=
  if (queue s fn q).st = .free then silent s
  else if coversLow part then
    let n := wfld v 15 7
    modRaise fn q (modQueue fn q (fun k => { k with modTime := wfld v 31 16, modCount := if n = 0 || 256 < n then k.modCount else n }) s)
  else s

/-- A write of the vector control of an MSI-X table entry: a vector unmasked with its pending bit set sends its message (R130, R328). -/
def msixMask (fn v : Nat) (mask : Bool) (s : State) : State :=
  if mask then modFunc fn (fun f => { f with masked := sadd f.masked v }) s
  else
    let s1 := modFunc fn (fun f => { f with masked := sdel f.masked v, pend := sdel f.pend v }) s
    if (func s fn).pend.contains v then msix fn v s1 else s1

/-- A write of the MSI-X table: the message's address, then its data and the vector's mask (R130). Log 118 (PRESUMED), 157 (DEDUCED). -/
def msixWrite (fn o : Nat) (part : Part) (v : Word) (s : State) : State :=
  let n := o / 16
  let e := mget (func s fn).msgs n (0, 0)
  if !(func s fn).enabled || vectorsOf fn ≤ n then s
  else if o % 16 = 0 then modFunc fn (fun f => { f with msgs := mset f.msgs n ((partWrite (img e.1) part v).toNat / 4 * 4, e.2) }) s
  else
    let s1 := if coversLow part then modFunc fn (fun f => { f with msgs := mset f.msgs n (e.1, wfld v 31 0) }) s else s
    if coversHigh part then msixMask fn n (if part = .high then v.getLsbD 0 else v.getLsbD 32) s1 else s1

/-! ## Mailbox pages -/

/-- A write of a mailbox page of one side: its message registers while its direction is IDLE, and its settings (R907, R915). Log 122 (DEDUCED). -/
def mailWrite (fn rm : Nat) (keeper : Bool) (o : Nat) (part : Part) (v : Word) (s : State) : State :=
  if !mailRight s fn rm keeper then silent s
  else if o < 0x80 then
    let d := mailDir (room s rm) (!keeper)
    if d.posted then s
    else putDir rm (!keeper) { d with words := mset d.words (o / 8) (partWrite (mget d.words (o / 8) 0) part v) } s
  else if o = 0x110 then
    let w := partWrite (mailCfg (if keeper then (room s rm).keeperCfg else (room s rm).guestCfg)) part v
    let c : MailCfg := { vector := wfld w 26 16, ackIrq := w.getLsbD 1, irqEn := w.getLsbD 0 }
    modRoom rm (fun r => if keeper then { r with keeperCfg := c } else { r with guestCfg := c }) s
  else s

/-! ## Global registers -/

/-- Whether a write of a token bucket's configuration is rejected (R723): the greatest rate and the least burst are given. -/
def bucketBad (w : Word) (maxRate minBurst : Nat) : Bool :=
  wfld w 25 0 == 0 || decide (maxRate < wfld w 25 0) || decide (wfld w 55 32 < minBurst)

/-- A rejected write of the CC_ block. -/
def ccErr (s : State) : State := raise 6 0 s

/-- A register with the bits of a mask. Log 156 (DEDUCED). -/
def masked (w : Word) (m : Nat) : Word := w &&& img m

/-- A write of a token bucket's configuration (R722, R723). -/
def bucketWrite (off maxRate minBurst : Nat) (bd : Boundary) (part : Part) (v : Word) (s : State) : State :=
  let w := masked (partWrite (rd s off (65536 * 2 ^ 32 + 1600000)) part v) 0xC0FFFFFF03FFFFFF
  if bucketBad w maxRate minBurst then ccErr s else wrBuf off (65536 * 2 ^ 32 + 1600000) w bd s

/-- Whether a QUANTUM is zero. -/
def quantumZero (w : Word) : Bool := (List.range 8).any (fun c => wfld w (8 * c + 7) (8 * c) == 0)

/-- A write of the CC_ block (R721 to R723, R738, R743, R762, R763). -/
def ccWrite (off : Nat) (part : Part) (v : Word) (s : State) : State :=
  if 0x410000 ≤ off && off < 0x418000 then
    let p := (off - 0x410000) / 0x400
    let r := off % 0x400
    if r < 0x80 && r % 0x10 = 0 then bucketWrite off (if (fport s p).mode = 2 then 800000 else 1600000) 64 .frame part v s
    else if r = 0x100 then wrBuf off 0xC0 (masked (partWrite (rd s off 0xC0) part v) 0xFF) .frame s
    else if r = 0x108 then
      let w := partWrite (rd s off 0x0808080808080808) part v
      if quantumZero w then ccErr s else wrBuf off 0x0808080808080808 w .frame s
    else if r = 0x110 then
      let w := masked (partWrite (injCfg s p) part v) 0x03FF01FF
      if wfld w 25 16 ≤ wfld w 8 0 || wfld w 25 16 < 2 || 512 < wfld w 25 16 then ccErr s
      else (List.range 8).foldl (fun s c => throttleStep p c s) (wr off w s)
    else s
  else if 0x420000 ≤ off && off < 0x424000 then
    let r := off % 0x40
    if r = 0 then bucketWrite off 51200000 64 .packet part v s
    else if r = 0x10 then bucketWrite off 51200000 8192 .packet part v s
    else s
  else s

/-- A write of TD_GCL_CTRL: ENABLE 1 starts the operational table at the place where its cycle stands, ENABLE 0 opens every gate (R94, R118). Log 21 (DEDUCED), 156 (DEDUCED). -/
def gclWrite (p : Nat) (part : Part) (v : Word) (s : State) : State :=
  let s1 := wr (0x490000 + 0x2000 * p) (masked (partWrite (gclCtrl s p) part v) 0x1FF00000009) s
  if gclOn s1 p = gclOn s p then s1
  else modTport p (fun x => { x with
    gates := if gclOn s1 p then gatesAt x.oper s.tide.count else 0xFF
    slack := 0
    switchAt := none }) s1

/-- A write of the TD_ block (R91, R118). -/
def tdWrite (off : Nat) (part : Part) (v : Word) (s : State) : State :=
  let p := (off - 0x490000) / 0x2000
  let r := (off - 0x490000) % 0x2000
  if off < 0x490000 || 32 ≤ p then s
  else if r = 0 then gclWrite p part v s
  else if r = 8 || r = 0x18 then wr off (partWrite (rd s off 0) part v) s
  else if r = 0x10 then wr off (masked (partWrite (rd s off 0) part v) 0x3FFFFFFF) s
  else if 0x800 ≤ r && r < 0x1000 then wr off (masked (partWrite (rd s off 0xFF00000000) part v) 0xFF3FFFFFFF) s
  else s

/-- ROOM_LIMIT takes a value, and no room keeps more entries of a die's cache than it allows (R249). -/
def roomLimitTo (n : Nat) (s : State) : State :=
  let s1 := wr 0x220000 (img (n * 2 ^ 32)) s
  { s1 with tcache := trimTlb s1 n s1.tcache }

/-- A write of TR_CTRL: ROOM_LIMIT is guarded; a value outside 1 to 4,096 leaves which limit stands open, a free value (R273, R1054, R1055). Log 155 (DESIGN CHOICE). -/
def trWrite (part : Part) (v : Word) (s : State) : State :=
  let old := rd s 0x220000 0x0000100000000000
  let n := wfld (partWrite old part v) 44 32
  if armed s 2 then
    (if 1 ≤ n && n ≤ 4096 then roomLimitTo n (disarm 2 s)
    else useFresh (roomLimitTo ((freshVal s).toNat % 4096 + 1) (disarm 2 s)))
  else if n = wfld old 44 32 then s else silent s

/-- A write of PW_LIMIT (the PW_ block's table). -/
def limitWrite (part : Part) (v : Word) (s : State) : State :=
  if !coversLow part then s
  else if 500 ≤ wfld v 15 0 && wfld v 15 0 ≤ 2000 then wr 0x270018 (img (wfld v 15 0)) s else raise 11 3 s

/-- A write of FP_PFC_CFG (R844). -/
def pfcRegWrite (p : Nat) (part : Part) (v : Word) (s : State) : State :=
  let off := 0x300030 + 0x1000 * p
  let w := masked (partWrite (rd s off 0x0000003000600F02) part v) 0xFFFFFFFFFF03
  if pfcBad s p (wfld w 1 0) (wfld w 31 16) (wfld w 47 32) then raise (24 + p) 7 s
  else wrBuf off 0x0000003000600F02 w .frame s

/-- A write of a global register by the Innkeeper. Log 154 (DESIGN CHOICE). -/
def globalWrite (fn off : Nat) (part : Part) (v : Word) (s : State) : State :=
  if off = 0x200018 then wr off (masked (partWrite (rd s off 0) part v) 0x87FF) s
  else if off = 0x200040 then wr off (masked (partWrite (rd s off 0x00FFFFFFFFFFFFFF) part v) 0x00FFFFFFFFFFFFFF) s
  else if off = 0x210000 then retryQps (drainRings (freezeWrite 16 64 (partWrite (hbBits s false) part v).toNat s))
  else if off = 0x210010 then retryQps (drainRings (freezeWrite 0 16 (partWrite (tcCtrl s) part v).toNat s))
  else if off = 0x220000 then trWrite part v s
  else if off = 0x270018 then limitWrite part v s
  else if 0x300000 ≤ off && off < 0x320000 then (if off % 0x1000 = 0x30 then pfcRegWrite ((off - 0x300000) / 0x1000) part v s else s)
  else if 0x400000 ≤ off && off < 0x440000 then ccWrite off part v s
  else if 0x480000 ≤ off && off < 0x500000 then tdWrite off part v s
  else if off = 0x500008 then wr off (masked (partWrite (rd s off 0) part v) 0x7FF) s
  else if 0x510000 ≤ off && off < 0x512000 then mailWrite fn ((off - 0x510000) / 0x400) true (off % 0x400) part v s
  else if 0x780000 ≤ off && off < 0x800000 then
    let n := (off - 0x780000) / 8
    modRouter (fun r => { r with shadow := putEntry r.shadow n (partWrite (img (mget r.shadow n 0)) part v).toNat }) s
  else s

/-- A write of 8 B, or of one half, at a BAR0 offset of a function (R1038, R1047, R1048). Log 154 (DESIGN CHOICE). -/
def registerWrite (fn off : Nat) (part : Part) (v : Word) (s : State) : State :=
  if off % 8 ≠ 0 then s
  else if 0x1000 ≤ off && off < 0x2000 then deskWrite fn (off - 0x1000) part v s
  else if 0xF0000 ≤ off && off < 0xF8000 then msixWrite fn (off - 0xF0000) part v s
  else if 0x100000 ≤ off && off < 0x100800 then
    (match roomOf s fn with | some rm => mailWrite fn rm false (off - 0x100000) part v s | none => s)
  else if 0x110000 ≤ off && off < 0x120000 then
    (if fnSlot fn ≠ 0 then silent s
    else match roomOf s (fn + 1 + (off - 0x110000) / 0x400) with
      | some rm => mailWrite fn rm true (off % 0x400) part v s
      | none => silent s)
  else if 0x1000000 ≤ off && off < 0x1F00000 then
    (if off % 0x1000 = 0x10 then qCtrlWrite fn ((off - 0x1000000) / 0x1000) part v s else s)
  else if 0x200000 ≤ off && off < 0x1000000 then (if isInn s fn then globalWrite fn off part v s else s)
  else s

/-- REGISTER_WRITE: a request of 8 B accesses in ascending address order (R1047 to R1051). -/
def execRegisterWrite (fn off : Nat) (accesses : List (Part × Word)) (s : State) : Answer :=
  act (transfers ++ [.regs, .eff, .bufs, .arms, .router, .windows, .porch]) (eachAccess (fun i p v s => registerWrite fn (off + 8 * i) p v s) 0 accesses) s

end Sys2Proof.Machine
end

