-- ==== Sys2Proof/Machine/Traffic.lean ====
section
/-! DEFINITION. Output arbitration and token buckets (R721 to R743). -/

namespace Sys2Proof.Machine

open Sys2Proof

/-- STRICT of a port (R762). -/
def strictOf (s : State) (p c : Nat) : Bool := (rdEff s (0x410100 + 0x400 * p) 0xC0).getLsbD c

/-- QUANTUM of a class, in bytes (R735, R738). -/
def quantum (s : State) (p c : Nat) : Nat := wfld (rdEff s (0x410108 + 0x400 * p) 0x0808080808080808) (8 * c + 7) (8 * c) * 512

/-- Whether a class has a frame waiting on a half. -/
def waiting (s : State) (p half c : Nat) : Bool :=
  (fport s p).egress.any (fun e => e.pkt.tc == c && (fport s p).half e.pkt e.roce.isSome == half)

/-- The frame that a strict class would send, the highest class first (R734). Log 104 (DESIGN CHOICE). -/
def strictPick (s : State) (p half : Nat) : Nat → Option EgFrame
  | 0 => none
  | c + 1 =>
    match (if strictOf s p c && eligible s p half c then nextOf s p half c else none) with
    | some e => some e
    | none => strictPick s p half c

/-- Deficit round robin from the class whose turn it is (R735, R736): the frame chosen, the turn, whether the class keeps it, and
the deficits. Log 104 (DESIGN CHOICE). -/
def drr (s : State) (p half : Nat) : Nat → Nat → Bool → NMap Int → Option EgFrame × Nat × Bool × NMap Int
  | 0, t, on, d => (none, t, on, d)
  | n + 1, t, on, d =>
    let next := (t + 1) % 8
    if strictOf s p t then drr s p half n next false d
    else if !waiting s p half t then drr s p half n next false (mset d t 0)
    else
      match (if eligible s p half t then nextOf s p half t else none) with
      | none => drr s p half n next false d
      | some e =>
        let v := mget d t 0 + (if on then 0 else (quantum s p t : Int))
        let b : Int := frameBytes s p e + 32
        if b ≤ v then (some e, t, true, mset d t (v - b)) else drr s p half n next false (mset d t v)

/-- Whether some weighted class could send now. -/
def weightedReady (s : State) (p half : Nat) : Bool :=
  (List.range 8).any (fun c => !strictOf s p c && eligible s p half c && (nextOf s p half c).isSome)

/-- Frames larger than MAX_FRAME of their class are discarded at egress (R814). -/
def dropOversize (p : Nat) (s : State) : State :=
  ((fport s p).egress.filter (fun e => decide (obj s (0x2840 + e.pkt.tc) (p + 1) 4352 < frameBytes s p e))).foldl
    (fun s e => releaseInput e (bump (0x300210 + 0x1000 * p) (dequeue p e s))) s

/-- Waybill packets for an Ethernet-mode port whose peer entry fails in both copies are dropped (R832, R968). Log 176 (DEDUCED). -/
def dropPeerless (p : Nat) (s : State) : State :=
  if (fport s p).direct then s
  else ((fport s p).egress.filter (fun e => e.roce.isNone && !tableOk s (peerEntryAt e.pkt.dstNode))).foldl
    (fun s e => releaseInput e (dropAt (some (if e.inPort < 32 then e.inPort else p)) 2 (tableUse (peerEntryAt e.pkt.dstNode) (dequeue p e s)))) s

/-- The peer entry of a Waybill packet is read as its frame starts on an Ethernet-mode port (R830, R967). Log 176 (DEDUCED). -/
def readPeer (p : Nat) (e : EgFrame) (s : State) : State :=
  if (fport s p).direct || e.roce.isSome then s else tableUse (peerEntryAt e.pkt.dstNode) s

/-- A waiting frame starts, its input takes its turn (R737), and a class whose queue empties loses its deficit (R736). -/
def startWaiting (p half : Nat) (e : EgFrame) (s : State) : State :=
  let c := e.pkt.tc
  let s1 := startFrame p half e (dequeue p e (readPeer p e
    (modFport p (fun f => { f with rr := mset f.rr (2 * c + b2n e.pkt.reply) e.inPort }) s)))
  if strictOf s p c || waiting s1 p half c then s1 else modFport p (fun f => { f with deficit := mset f.deficit c 0 }) s1

/-- The port chooses its next data frame: strict classes, then deficit round robin (R734). -/
def chooseFrame (p half : Nat) (s : State) : State :=
  match strictPick s p half 8 with
  | some e => startWaiting p half e s
  | none =>
    if !weightedReady s p half then s
    else
      let f := fport s p
      let r := drr s p half 200 f.turn f.turnOn f.deficit
      let s1 := modFport p (fun f => { f with turn := r.2.1, turnOn := r.2.2.1, deficit := r.2.2.2 }) s
      match r.1 with
      | some e => startWaiting p half e s1
      | none => s1

/-- Control frames go first: credit returns, a HELLO that is due, pause frames (R734, R791, R838). Log 103 (DEDUCED). -/
def controlFrames (p : Nat) (s : State) : State :=
  let f := fport s p
  if f.direct then
    let s1 := if f.creditDue then sendCredit p false s else s
    if f.helloDue then helloSend p s1 else s1
  else
    f.pfcDue.foldl (fun s x => sendPause p x.1 x.2 s) (modFport p (fun f => { f with pfcDue := [] }) s)

/-- FRAME_BOUNDARY: what was leaving is sent; then control frames, a waiting beacon, and the next data frame, in the order of
R734; nothing while the transmitter is muted (R857). Log 101 (DEDUCED). -/
def frameBoundary (p half : Nat) (s : State) : State :=
  let f := fport s p
  if (if half = 0 then f.st else f.stB) ≠ .up then s
  else if !lanesReady s p half then endFrame p half s
  else
    let s1 := controlFrames p (endFrame p half s)
    let s2 := if (fport s1 p).beaconDue then sendBeacon p (modFport p (fun f => { f with beaconDue := false }) s1) else s1
    chooseFrame p half (dropPeerless p (dropOversize p s2))

/-- FRAME_BOUNDARY (R734). -/
def execFrameBoundary (port half : Nat) (s : State) : Answer := act (reports ++ [.tide, .fports, .objNow, .tokens, .sealing]) (frameBoundary port half) s

/-- BUCKET_REFILL: a bucket gains tokens at RATE over a span of core clock time, up to BURST (R724, R725). The remainder below one
byte is kept, in 1/8,000 B. -/
def bucketRefill (off half ns : Nat) (s : State) : State :=
  let v := bucketCfg s off
  let burst : Int := wfld v 55 32
  let k := off + half
  let a := mget s.tokenFrac k 0 + wfld v 25 0 * ns
  let n := bucketTok s off half + (a / 8000 : Nat)
  if !bucketOn s off then s
  else if burst ≤ n then { s with tokens := mset s.tokens k burst, tokenFrac := mdel s.tokenFrac k }
  else { s with tokens := mset s.tokens k n, tokenFrac := mset s.tokenFrac k (a % 8000) }

/-- BUCKET_REFILL (R724). -/
def execBucketRefill (off half ns : Nat) (s : State) : Answer := act [.tokens, .tokenFrac] (bucketRefill off half ns) s

end Sys2Proof.Machine
end

