-- ==== Sys2Proof/Machine/Dispatch.lean ====
section
/-! DEFINITION. The dispatch of the commands: one arm per constructor, each a direct call of its meaning. -/

namespace Sys2Proof.Machine

open Sys2Proof

/-- What a command does to everything but the queue of waiting commands. Log 165 (DESIGN CHOICE). -/
def exec (i : Instr) (s : State) : Host.Outcome State Fault Refusal :=
  match i with
  | .beaconSend port => Sys2Proof.Machine.execBeaconSend port s
  | .beaconReceive port frame rxTime => Sys2Proof.Machine.execBeaconReceive port frame rxTime s
  | .neighbourLoss port => Sys2Proof.Machine.execNeighbourLoss port s
  | .rateAdjust => Sys2Proof.Machine.execRateAdjust s
  | .holdoverExpired => Sys2Proof.Machine.execHoldoverExpired s
  | .ppsEdge stamp freq => Sys2Proof.Machine.execPpsEdge stamp freq s
  | .clk10mLoss => Sys2Proof.Machine.execClk10mLoss s
  | .ppsOutEdge => Sys2Proof.Machine.execPpsOutEdge s
  | .ptpMessage m => Sys2Proof.Machine.execPtpMessage m s
  | .tideNowRead fn global part => Sys2Proof.Machine.execTideNowRead fn global part s
  | .tdGclCommit fn port => Sys2Proof.Machine.execTdGclCommit fn port s
  | .tableSwitched port => Sys2Proof.Machine.execTableSwitched port s
  | .gateEntryBoundary port => Sys2Proof.Machine.execGateEntryBoundary port s
  | .slackWaterStart port cls => Sys2Proof.Machine.execSlackWaterStart port cls s
  | .timedWaitFire id => Sys2Proof.Machine.execTimedWaitFire id s
  | .bufTakeEffect off port bd => Sys2Proof.Machine.execBufTakeEffect off port bd s
  | .hostLinkUp port rate width flit cxl cfg => Sys2Proof.Machine.execHostLinkUp port rate width flit cxl cfg s
  | .retrainHeld port => Sys2Proof.Machine.execRetrainHeld port s
  | .retrainResumed port rate width flit => Sys2Proof.Machine.execRetrainResumed port rate width flit s
  | .linkLost port => Sys2Proof.Machine.execLinkLost port s
  | .perst port => Sys2Proof.Machine.execPerst port s
  | .hotReset port => Sys2Proof.Machine.execHotReset port s
  | .flr fn => Sys2Proof.Machine.execFlr fn s
  | .vfEnable port numVfs cfg => Sys2Proof.Machine.execVfEnable port numVfs cfg s
  | .vfDisable port numVfs => Sys2Proof.Machine.execVfDisable port numVfs s
  | .hostCxlmemAccess port addr write data => Sys2Proof.Machine.execHostCxlmemAccess port addr write data s
  | .hostSnoop port addr => Sys2Proof.Machine.execHostSnoop port addr s
  | .biasDevice h page => Sys2Proof.Machine.execBiasDevice h page s
  | .memwinEnable fn port => Sys2Proof.Machine.execMemwinEnable fn port s
  | .memwinDisable fn port => Sys2Proof.Machine.execMemwinDisable fn port s
  | .memwinSweepDone port => Sys2Proof.Machine.execMemwinSweepDone port s
  | .memwinBaseWrite fn port base => Sys2Proof.Machine.execMemwinBaseWrite fn port base s
  | .seawall h => Sys2Proof.Machine.execSeawall h s
  | .seawallComplete id => Sys2Proof.Machine.execSeawallComplete id s
  | .invalidateRequest fn pasid addr size tag => Sys2Proof.Machine.execInvalidateRequest fn pasid addr size tag s
  | .invalidateCompletion fn tag => Sys2Proof.Machine.execInvalidateCompletion fn tag s
  | .translationCompletion fn pasid addr status size xaddr r w => Sys2Proof.Machine.execTranslationCompletion fn pasid addr status size xaddr r w s
  | .pageRequestResponse fn pasid addr code => Sys2Proof.Machine.execPageRequestResponse fn pasid addr code s
  | .priTimeout fn pasid addr => Sys2Proof.Machine.execPriTimeout fn pasid addr s
  | .dsPortEnumerate ds found capacity => Sys2Proof.Machine.execDsPortEnumerate ds found capacity s
  | .dsLinkFail ds poison => Sys2Proof.Machine.execDsLinkFail ds poison s
  | .dsEnableCycle ds up => Sys2Proof.Machine.execDsEnableCycle ds up s
  | .memGrant h first count => Sys2Proof.Machine.execMemGrant h first count s
  | .memReclaim h first count => Sys2Proof.Machine.execMemReclaim h first count s
  | .reclaimDone extent => Sys2Proof.Machine.execReclaimDone extent s
  | .memQuery h first count => Sys2Proof.Machine.execMemQuery h first count s
  | .harbourReserve h die units => Sys2Proof.Machine.execHarbourReserve h die units s
  | .harbourUnitsGranted die pool => Sys2Proof.Machine.execHarbourUnitsGranted die pool s
  | .copyMove h dst src len dpaMode => Sys2Proof.Machine.execCopyMove h dst src len dpaMode s
  | .copyFill h dst len dpaMode pattern => Sys2Proof.Machine.execCopyFill h dst len dpaMode pattern s
  | .copyZero h dst len dpaMode => Sys2Proof.Machine.execCopyZero h dst len dpaMode s
  | .freezeSet fn unit => Sys2Proof.Machine.execFreezeSet fn unit s
  | .unitDrained unit => Sys2Proof.Machine.execUnitDrained unit s
  | .freezeLong unit => Sys2Proof.Machine.execFreezeLong unit s
  | .freezeClear fn unit => Sys2Proof.Machine.execFreezeClear fn unit s
  | .chartSet h dva dpa big count rights => Sys2Proof.Machine.execChartSet h dva dpa big count rights s
  | .chartClear h dva big count => Sys2Proof.Machine.execChartClear h dva big count s
  | .chartClearDone fn => Sys2Proof.Machine.execChartClearDone fn s
  | .chartQuery h dva => Sys2Proof.Machine.execChartQuery h dva s
  | .chartEpoch h => Sys2Proof.Machine.execChartEpoch h s
  | .windowOpen h space base len rights zeroBased sealed pasid pasidValid qpBound qpn => Sys2Proof.Machine.execWindowOpen h space base len rights zeroBased sealed pasid pasidValid qpBound qpn s
  | .windowModify h key len rights => Sys2Proof.Machine.execWindowModify h key len rights s
  | .windowModifyDone fn => Sys2Proof.Machine.execWindowModifyDone fn s
  | .windowRevoke h key => Sys2Proof.Machine.execWindowRevoke h key s
  | .windowRevokeDone index => Sys2Proof.Machine.execWindowRevokeDone index s
  | .purgeAll fn => Sys2Proof.Machine.execPurgeAll fn s
  | .producerDoorbell fn queue index => Sys2Proof.Machine.execProducerDoorbell fn queue index s
  | .consumerDoorbell fn queue index arm => Sys2Proof.Machine.execConsumerDoorbell fn queue index arm s
  | .ringFetch fn queue => Sys2Proof.Machine.execRingFetch fn queue s
  | .queueEnable fn queue => Sys2Proof.Machine.execQueueEnable fn queue s
  | .queueDisable fn queue => Sys2Proof.Machine.execQueueDisable fn queue s
  | .queueIdle fn queue => Sys2Proof.Machine.execQueueIdle fn queue s
  | .queueResume fn queue skip => Sys2Proof.Machine.execQueueResume fn queue skip s
  | .queueCreate h kind cls log2 pasidValid vector cq eq modCount pasid modTime base => Sys2Proof.Machine.execQueueCreate h kind cls log2 pasidValid vector cq eq modCount pasid modTime base s
  | .queueDestroy h queue => Sys2Proof.Machine.execQueueDestroy h queue s
  | .queueModerate h queue modCount modTime => Sys2Proof.Machine.execQueueModerate h queue modCount modTime s
  | .frontDeskEnable fn enable => Sys2Proof.Machine.execFrontDeskEnable fn enable s
  | .frontDeskResume fn skip => Sys2Proof.Machine.execFrontDeskResume fn skip s
  | .msixModerationTimer fn queue => Sys2Proof.Machine.execMsixModerationTimer fn queue s
  | .nop h => Sys2Proof.Machine.execNop h s
  | .lanternSignal h lantern mode value => Sys2Proof.Machine.execLanternSignal h lantern mode value s
  | .waitTide h target => Sys2Proof.Machine.execWaitTide h target s
  | .listExec h units addr => Sys2Proof.Machine.execListExec h units addr s
  | .listDispatch cls room => Sys2Proof.Machine.execListDispatch cls room s
  | .parkedListWake fn queue list => Sys2Proof.Machine.execParkedListWake fn queue list s
  | .waitTimeout fn queue list => Sys2Proof.Machine.execWaitTimeout fn queue list s
  | .lanternHostAdd fn lantern value => Sys2Proof.Machine.execLanternHostAdd fn lantern value s
  | .lanternHostSet fn lantern part value fault => Sys2Proof.Machine.execLanternHostSet fn lantern part value fault s
  | .tileEnableWrite fn value => Sys2Proof.Machine.execTileEnableWrite fn value s
  | .tileTrap tile offset => Sys2Proof.Machine.execTileTrap tile offset s
  | .qpCreate h sq rq maxOps lantern tc spray pathCount sealed pin => Sys2Proof.Machine.execQpCreate h sq rq maxOps lantern tc spray pathCount sealed pin s
  | .qpConnect h qpn peerQpn peerNode timeout epoch retryLimit rnrLimit sendPsn recvPsn window => Sys2Proof.Machine.execQpConnect h qpn peerQpn peerNode timeout epoch retryLimit rnrLimit sendPsn recvPsn window s
  | .qpModify h qpn timeout retryLimit rnrLimit window spray pathCount => Sys2Proof.Machine.execQpModify h qpn timeout retryLimit rnrLimit window spray pathCount s
  | .qpDrain h qpn => Sys2Proof.Machine.execQpDrain h qpn s
  | .qpDrained qpn => Sys2Proof.Machine.execQpDrained qpn s
  | .qpResume h qpn => Sys2Proof.Machine.execQpResume h qpn s
  | .qpReset h qpn => Sys2Proof.Machine.execQpReset h qpn s
  | .qpDestroy h qpn => Sys2Proof.Machine.execQpDestroy h qpn s
  | .qpQuery h qpn => Sys2Proof.Machine.execQpQuery h qpn s
  | .qpSpill h base contexts => Sys2Proof.Machine.execQpSpill h base contexts s
  | .qpProxy h qpn slots base => Sys2Proof.Machine.execQpProxy h qpn slots base s
  | .qpRoce h qpn port ipv6 dscp hopLimit pmtu pkey sport localIp mac ipHi ipLo => Sys2Proof.Machine.execQpRoce h qpn port ipv6 dscp hopLimit pmtu pkey sport localIp mac ipHi ipLo s
  | .qpSeal h qpn slot => Sys2Proof.Machine.execQpSeal h qpn slot s
  | .write w => Sys2Proof.Machine.execWrite w s
  | .writeImm w => Sys2Proof.Machine.execWriteImm w s
  | .writeSignal w => Sys2Proof.Machine.execWriteSignal w s
  | .send w => Sys2Proof.Machine.execSend w s
  | .sendImm w => Sys2Proof.Machine.execSendImm w s
  | .read w => Sys2Proof.Machine.execRead w s
  | .fetchAdd w => Sys2Proof.Machine.execFetchAdd w s
  | .cmpSwap w => Sys2Proof.Machine.execCmpSwap w s
  | .proxyReply w => Sys2Proof.Machine.execProxyReply w s
  | .recv fn queue index tag epoch segs => Sys2Proof.Machine.execRecv fn queue index tag epoch segs s
  | .xferPost h opcode w => Sys2Proof.Machine.execXferPost h opcode w s
  | .undertowPace stream qpn node epoch => Sys2Proof.Machine.execUndertowPace stream qpn node epoch s
  | .writePacketReceive p => Sys2Proof.Machine.execWritePacketReceive p s
  | .sendPacketReceive p => Sys2Proof.Machine.execSendPacketReceive p s
  | .readReqReceive p => Sys2Proof.Machine.execReadReqReceive p s
  | .atomicReqReceive p => Sys2Proof.Machine.execAtomicReqReceive p s
  | .readRespReceive p => Sys2Proof.Machine.execReadRespReceive p s
  | .atomicRespReceive p => Sys2Proof.Machine.execAtomicRespReceive p s
  | .ackReceive p => Sys2Proof.Machine.execAckReceive p s
  | .nakReceive p => Sys2Proof.Machine.execNakReceive p s
  | .ackDelayTimer stream qpn node epoch => Sys2Proof.Machine.execAckDelayTimer stream qpn node epoch s
  | .retxTimeout stream qpn node epoch psn => Sys2Proof.Machine.execRetxTimeout stream qpn node epoch psn s
  | .detourSuspendEnd stream qpn node epoch => Sys2Proof.Machine.execDetourSuspendEnd stream qpn node epoch s
  | .busyHoldEnd stream qpn node epoch => Sys2Proof.Machine.execBusyHoldEnd stream qpn node epoch s
  | .contextFetchComplete qpn ok => Sys2Proof.Machine.execContextFetchComplete qpn ok s
  | .proxyTimeout qpn slot => Sys2Proof.Machine.execProxyTimeout qpn slot s
  | .utBaseWindowEnd stream qpn node epoch path => Sys2Proof.Machine.execUtBaseWindowEnd stream qpn node epoch path s
  | .rocePacketReceive port pkey h p => Sys2Proof.Machine.execRocePacketReceive port pkey h p s
  | .cnpReceive qpn => Sys2Proof.Machine.execCnpReceive qpn s
  | .rpRecovery qpn => Sys2Proof.Machine.execRpRecovery qpn s
  | .rdcAllReduce h b => Sys2Proof.Machine.execRdcAllReduce h b s
  | .rdcReduceScatter h b => Sys2Proof.Machine.execRdcReduceScatter h b s
  | .rdcReduce h b => Sys2Proof.Machine.execRdcReduce h b s
  | .rdcLocalReduce h b => Sys2Proof.Machine.execRdcLocalReduce h b s
  | .xferAllGather h b => Sys2Proof.Machine.execXferAllGather h b s
  | .xferBroadcast h b => Sys2Proof.Machine.execXferBroadcast h b s
  | .sourceChunkReady member => Sys2Proof.Machine.execSourceChunkReady member s
  | .collStartTime member => Sys2Proof.Machine.execCollStartTime member s
  | .expUpReceive p => Sys2Proof.Machine.execExpUpReceive p s
  | .expDownReceive p => Sys2Proof.Machine.execExpDownReceive p s
  | .sumUpReceive p => Sys2Proof.Machine.execSumUpReceive p s
  | .resultDownReceive p => Sys2Proof.Machine.execResultDownReceive p s
  | .abortReceive p => Sys2Proof.Machine.execAbortReceive p s
  | .collTimeout member => Sys2Proof.Machine.execCollTimeout member s
  | .nodeTimeout itin epoch => Sys2Proof.Machine.execNodeTimeout itin epoch s
  | .itineraryInstall h addr => Sys2Proof.Machine.execItineraryInstall h addr s
  | .itineraryRemove h itin => Sys2Proof.Machine.execItineraryRemove h itin s
  | .itineraryQuery h itin => Sys2Proof.Machine.execItineraryQuery h itin s
  | .itinLoad data => Sys2Proof.Machine.execItinLoad data s
  | .itinUnload itin => Sys2Proof.Machine.execItinUnload itin s
  | .updSgd h u => Sys2Proof.Machine.execUpdSgd h u s
  | .updAdamw h u => Sys2Proof.Machine.execUpdAdamw h u s
  | .updLion h u => Sys2Proof.Machine.execUpdLion h u s
  | .updLamb h u => Sys2Proof.Machine.execUpdLamb h u s
  | .updAccumulate h u => Sys2Proof.Machine.execUpdAccumulate h u s
  | .cdcConvert h c => Sys2Proof.Machine.execCdcConvert h c s
  | .cdcQuantiseEf h c => Sys2Proof.Machine.execCdcQuantiseEf h c s
  | .cdcDequantise h c => Sys2Proof.Machine.execCdcDequantise h c s
  | .partyCreate h tag rank size ctrl gen => Sys2Proof.Machine.execPartyCreate h tag rank size ctrl gen s
  | .partyWaitExpired fn => Sys2Proof.Machine.execPartyWaitExpired fn s
  | .partyDestroy h party => Sys2Proof.Machine.execPartyDestroy h party s
  | .partyQuery h party => Sys2Proof.Machine.execPartyQuery h party s
  | .collBarrier h c => Sys2Proof.Machine.execCollBarrier h c s
  | .collScalarReduce h c => Sys2Proof.Machine.execCollScalarReduce h c s
  | .roundUpReceive p => Sys2Proof.Machine.execRoundUpReceive p s
  | .roundDownReceive p => Sys2Proof.Machine.execRoundDownReceive p s
  | .abortUpReceive p => Sys2Proof.Machine.execAbortUpReceive p s
  | .abortCallReceive p => Sys2Proof.Machine.execAbortCallReceive p s
  | .abortDownReceive p => Sys2Proof.Machine.execAbortDownReceive p s
  | .abortJoinTimeout tag gen seq => Sys2Proof.Machine.execAbortJoinTimeout tag gen seq s
  | .roundLost member => Sys2Proof.Machine.execRoundLost member s
  | .dataFrameReceive port f => Sys2Proof.Machine.execDataFrameReceive port f s
  | .creditFrameReceive port frame => Sys2Proof.Machine.execCreditFrameReceive port frame s
  | .creditCountTimer port => Sys2Proof.Machine.execCreditCountTimer port s
  | .routerCommit fn => Sys2Proof.Machine.execRouterCommit fn s
  | .routerDrain fn => Sys2Proof.Machine.execRouterDrain fn s
  | .routerUndrain fn => Sys2Proof.Machine.execRouterUndrain fn s
  | .routerDrained => Sys2Proof.Machine.execRouterDrained s
  | .drainLong => Sys2Proof.Machine.execDrainLong s
  | .nodeAddrWrite fn node => Sys2Proof.Machine.execNodeAddrWrite fn node s
  | .fenceWrite fn mask => Sys2Proof.Machine.execFenceWrite fn mask s
  | .portUp port => Sys2Proof.Machine.execPortUp port s
  | .routeWrite first entries => Sys2Proof.Machine.execRouteWrite first entries s
  | .portEnable fn port => Sys2Proof.Machine.execPortEnable fn port s
  | .portDisable fn port => Sys2Proof.Machine.execPortDisable fn port s
  | .linkAcquired port half => Sys2Proof.Machine.execLinkAcquired port half s
  | .linkDown port half => Sys2Proof.Machine.execLinkDown port half s
  | .helloSend port => Sys2Proof.Machine.execHelloSend port s
  | .helloReceive port frame => Sys2Proof.Machine.execHelloReceive port frame s
  | .modeMismatch port => Sys2Proof.Machine.execModeMismatch port s
  | .mgmtFrameReceive port frame => Sys2Proof.Machine.execMgmtFrameReceive port frame s
  | .fecSdWindow port received codewords corrected uncorrected symbols hist => Sys2Proof.Machine.execFecSdWindow port received codewords corrected uncorrected symbols hist s
  | .ethFrameReceive port half h p => Sys2Proof.Machine.execEthFrameReceive port half h p s
  | .pauseReceive port half pfc times => Sys2Proof.Machine.execPauseReceive port half pfc times s
  | .pauseExpire port half cls => Sys2Proof.Machine.execPauseExpire port half cls s
  | .pfcRefresh port prio => Sys2Proof.Machine.execPfcRefresh port prio s
  | .ethPeerWrite first data => Sys2Proof.Machine.execEthPeerWrite first data s
  | .ringSample port lane offset heater => Sys2Proof.Machine.execRingSample port lane offset heater s
  | .heaterSweepEnd port lane found heater => Sys2Proof.Machine.execHeaterSweepEnd port lane found heater s
  | .laneManualWrite fn port lane value => Sys2Proof.Machine.execLaneManualWrite fn port lane value s
  | .tecLoop unit temps => Sys2Proof.Machine.execTecLoop unit temps s
  | .biasStep unit taps => Sys2Proof.Machine.execBiasStep unit taps s
  | .laserSettled unit => Sys2Proof.Machine.execLaserSettled unit s
  | .tecFail unit => Sys2Proof.Machine.execTecFail unit s
  | .laserRampDone unit currents taps => Sys2Proof.Machine.execLaserRampDone unit currents taps s
  | .laserIdleOff unit => Sys2Proof.Machine.execLaserIdleOff unit s
  | .permitDrop unit => Sys2Proof.Machine.execPermitDrop unit s
  | .laserPathFault unit laser => Sys2Proof.Machine.execLaserPathFault unit laser s
  | .laserOvertemp unit => Sys2Proof.Machine.execLaserOvertemp unit s
  | .clearFault fn unit gone => Sys2Proof.Machine.execClearFault fn unit gone s
  | .laserAllowWrite fn unit allow => Sys2Proof.Machine.execLaserAllowWrite fn unit allow s
  | .laserEnChange asserted => Sys2Proof.Machine.execLaserEnChange asserted s
  | .opticsSecond port lane corrected codewords rx rxHigh tx temp => Sys2Proof.Machine.execOpticsSecond port lane corrected codewords rx rxHigh tx temp s
  | .roomQuota h id value => Sys2Proof.Machine.execRoomQuota h id value s
  | .roomQuiesce h faultWaits => Sys2Proof.Machine.execRoomQuiesce h faultWaits s
  | .quiesced room => Sys2Proof.Machine.execQuiesced room s
  | .quiesceTimeout room => Sys2Proof.Machine.execQuiesceTimeout room s
  | .roomResume h => Sys2Proof.Machine.execRoomResume h s
  | .roomReset h keepMemory => Sys2Proof.Machine.execRoomReset h keepMemory s
  | .roomQuarantine h => Sys2Proof.Machine.execRoomQuarantine h s
  | .roomRelease h => Sys2Proof.Machine.execRoomRelease h s
  | .roomRemove h => Sys2Proof.Machine.execRoomRemove h s
  | .roomQuery h => Sys2Proof.Machine.execRoomQuery h s
  | .mailboxPost fn room keeper len => Sys2Proof.Machine.execMailboxPost fn room keeper len s
  | .mailboxAck fn room keeper => Sys2Proof.Machine.execMailboxAck fn room keeper s
  | .keyBankLoad fn fabric slot word accesses => Sys2Proof.Machine.execKeyBankLoad fn fabric slot word accesses s
  | .rotateAtWrite fn fabric slot part time => Sys2Proof.Machine.execRotateAtWrite fn fabric slot part time s
  | .keyRotateComplete owner slot => Sys2Proof.Machine.execKeyRotateComplete owner slot s
  | .keyErase h slot fabric => Sys2Proof.Machine.execKeyErase h slot fabric s
  | .fabricKeyWrite slot bank key => Sys2Proof.Machine.execFabricKeyWrite slot bank key s
  | .fabricRotate slot time => Sys2Proof.Machine.execFabricRotate slot time s
  | .mgmtKey slot key remote authentic => Sys2Proof.Machine.execMgmtKey slot key remote authentic s
  | .lcRequest token path authentic => Sys2Proof.Machine.execLcRequest token path authentic s
  | .scrubAccess m position symbols code => Sys2Proof.Machine.execScrubAccess m position symbols code s
  | .scrubPassEnd m => Sys2Proof.Machine.execScrubPassEnd m s
  | .ceRateSecond => Sys2Proof.Machine.execCeRateSecond s
  | .expanderEventPoll ds events => Sys2Proof.Machine.execExpanderEventPoll ds events s
  | .codeWordReload m word => Sys2Proof.Machine.execCodeWordReload m word s
  | .latchAck fn unit seq => Sys2Proof.Machine.execLatchAck fn unit seq s
  | .ueAutoAck unit => Sys2Proof.Machine.execUeAutoAck unit s
  | .deviceFatal block => Sys2Proof.Machine.execDeviceFatal block s
  | .d2dUnrecoverable => Sys2Proof.Machine.execD2dUnrecoverable s
  | .mgmtCoreHalt core word => Sys2Proof.Machine.execMgmtCoreHalt core word s
  | .watchdogExpire => Sys2Proof.Machine.execWatchdogExpire s
  | .relivicelRead src f => Sys2Proof.Machine.execRelivicelRead src f s
  | .relivicelWrite src f => Sys2Proof.Machine.execRelivicelWrite src f s
  | .relivicelDescribe src f => Sys2Proof.Machine.execRelivicelDescribe src f s
  | .relivicelNext src f => Sys2Proof.Machine.execRelivicelNext src f s
  | .rwsStoreDone index sub ok => Sys2Proof.Machine.execRwsStoreDone index sub ok s
  | .segmentGapExpire src tag index sub => Sys2Proof.Machine.execSegmentGapExpire src tag index sub s
  | .relayForward src f => Sys2Proof.Machine.execRelayForward src f s
  | .relayResponse port f => Sys2Proof.Machine.execRelayResponse port f s
  | .relayEntryExpire tag keyId fresh => Sys2Proof.Machine.execRelayEntryExpire tag keyId fresh s
  | .setEndpointId endpoint eid => Sys2Proof.Machine.execSetEndpointId endpoint eid s
  | .getEndpointId endpoint => Sys2Proof.Machine.execGetEndpointId endpoint s
  | .getEndpointUuid endpoint => Sys2Proof.Machine.execGetEndpointUuid endpoint s
  | .getMctpVersionSupport endpoint => Sys2Proof.Machine.execGetMctpVersionSupport endpoint s
  | .getMessageTypeSupport endpoint => Sys2Proof.Machine.execGetMessageTypeSupport endpoint s
  | .getVdmSupport endpoint => Sys2Proof.Machine.execGetVdmSupport endpoint s
  | .restoreDefaults value => Sys2Proof.Machine.execRestoreDefaults value s
  | .unlockWrite fn block part key => Sys2Proof.Machine.execUnlockWrite fn block part key s
  | .unlockLapse block => Sys2Proof.Machine.execUnlockLapse block s
  | .eventWriteBack fn off value part => Sys2Proof.Machine.execEventWriteBack fn off value part s
  | .blockSnapshot fn block => Sys2Proof.Machine.execBlockSnapshot fn block s
  | .glbSnapshot fn => Sys2Proof.Machine.execGlbSnapshot fn s
  | .registerWrite fn off accesses => Sys2Proof.Machine.execRegisterWrite fn off accesses s
  | .domainRequest fn domain value => Sys2Proof.Machine.execDomainRequest fn domain value s
  | .domainWakeAdmit average => Sys2Proof.Machine.execDomainWakeAdmit average s
  | .domainOn domain => Sys2Proof.Machine.execDomainOn domain s
  | .wakeFail domain => Sys2Proof.Machine.execWakeFail domain s
  | .domainSleepDone domain => Sys2Proof.Machine.execDomainSleepDone domain s
  | .limiterStep average => Sys2Proof.Machine.execLimiterStep average s
  | .thermalSample dies hbms lpddr coolIn coolOut coolHot volts amps watts => Sys2Proof.Machine.execThermalSample dies hbms lpddr coolIn coolOut coolHot volts amps watts s
  | .powerUp => Sys2Proof.Machine.execPowerUp s
  | .inputRemoval => Sys2Proof.Machine.execInputRemoval s
  | .moduleResetPin asserted => Sys2Proof.Machine.execModuleResetPin asserted s
  | .moduleReset value => Sys2Proof.Machine.execModuleReset value s
  | .tideReset value => Sys2Proof.Machine.execTideReset value s
  | .startupDone late => Sys2Proof.Machine.execStartupDone late s
  | .clockFail => Sys2Proof.Machine.execClockFail s
  | .frameBoundary port half => Sys2Proof.Machine.execFrameBoundary port half s
  | .bucketRefill off half ns => Sys2Proof.Machine.execBucketRefill off half ns s
  | .perstRelease port => Sys2Proof.Machine.execPerstRelease port s
  | .mgmtLinkUp => Sys2Proof.Machine.execMgmtLinkUp s
  | .mgmtAddressResolution ipv6 target => Sys2Proof.Machine.execMgmtAddressResolution ipv6 target s
  | .ptpSyncDelayReqSend => Sys2Proof.Machine.execPtpSyncDelayReqSend s
  | .dsLinkReturn ds => Sys2Proof.Machine.execDsLinkReturn ds s
  | .biasDeviceDone fn => Sys2Proof.Machine.execBiasDeviceDone fn s

end Sys2Proof.Machine
end

