-- ==== Sys2Proof/Machine/Step.lean ====
section
/-! DEFINITION. One step of the block: the command at the front of the queue, or one cycle of the tide clock when none waits. -/

namespace Sys2Proof.Machine

open Sys2Proof

/-- The state with the rest of the queue. -/
def State.withPending (s : State) (l : List Instr) : State := { s with pending := l }

/-- A cycle that no command fills (R62): the tide unit counts while the module has power (R47, R70). Log 1 (DESIGN CHOICE). -/
def idle (s : State) : State := if s.power.inputOk then tideTick s else s

/-- One step. Log 1 (DESIGN CHOICE), 4 (DESIGN CHOICE), 165 (DESIGN CHOICE). -/
def step (s : State) : Host.Outcome State Fault Refusal :=
  match s.pending with
  | [] => .next (idle s)
  | c :: l => exec c (s.withPending l)

/-- A state with the command that a word spells put at the front of its queue; no word spells one. Log 11 (DESIGN CHOICE). -/
def State.withFetchWord (s : State) (nbits w : Nat) : State :=
  match decodeTableWord nbits w with
  | some c => s.withPending (c :: s.pending)
  | none => s

end Sys2Proof.Machine
end

