-- ==== Sys2Proof/Machine/PciConfig.lean ====
section
/-! DEFINITION. What a function shows outside BAR0: its PCI configuration space (R3, R126, R129, R130, R230, R232) and, on a PF in CXL mode, the component
registers of BAR2 (R132, R1039). Reading changes nothing. Where a field stands in its capability is the PCI Express specification's and is not numbered here. -/

namespace Sys2Proof.Machine

open Sys2Proof

/-- The fields of a function's configuration space whose value the spec states. -/
inductive CfgField where
  | revisionId
  | bar0Size | bar2Size | registerLocator
  | totalVfs | initialVfs | numVfs | vfEnable
  | atsQueueDepth | priCapacity | priAllocation | pasidWidth
  | msixTableSize | msixTable | msixPba
  | maxPayload | maxReadRequest
  deriving DecidableEq, Repr

/-- Whether a function is a PF whose port runs CXL. -/
def cxlPf (s : State) (fn : Nat) : Bool := fnSlot fn == 0 && (hport s (fnPort fn)).cxl

/-- Whether configuration requests to a function get Configuration Request Retry Status: before readiness (R156, R1095), and a VF whose slot's room is being
removed (R904). -/
def cfgRetry (s : State) (fn : Nat) : Bool :=
  !s.power.started ||
    (fnSlot fn != 0 && decide (fnSlot fn ≤ (hport s (fnPort fn)).numVfs) && !(func s fn).enabled &&
      (match roomOf s fn with | some rm => (room s rm).removing | none => false))

/-- The value of a field; one that a VF, a PF or a PF outside CXL mode lacks reads as 0. Log 204 (PRESUMED). -/
def cfgValue (s : State) (fn : Nat) : CfgField → Nat
  | .revisionId => 0xB0
  | .bar0Size => 64 * 2 ^ 20
  | .bar2Size => if cxlPf s fn then 65536 else 0
  | .registerLocator => if cxlPf s fn then 2 else 0
  | .totalVfs => if fnSlot fn = 0 then objF s 0x2001 (fnPort fn + 1) 31 else 0
  | .initialVfs => if fnSlot fn = 0 then objF s 0x2001 (fnPort fn + 1) 31 else 0
  | .numVfs => if fnSlot fn = 0 then (hport s (fnPort fn)).numVfs else 0
  | .vfEnable => if fnSlot fn = 0 then b2n (hport s (fnPort fn)).vfEnable else 0
  | .atsQueueDepth => 32
  | .priCapacity => 256
  | .priAllocation => (func s fn).cfg.priAlloc
  | .pasidWidth => 20
  | .msixTableSize => vectorsOf fn
  | .msixTable => 0xF0000
  | .msixPba => 0xF8000
  | .maxPayload => (hport s (fnPort fn)).mps
  | .maxReadRequest => (hport s (fnPort fn)).mrrs

/-- A configuration read: none is Configuration Request Retry Status. A port that is DOWN carries no request. Log 158 (DESIGN CHOICE), 204 (PRESUMED). -/
def cfgRead (s : State) (fn : Nat) (f : CfgField) : Option Nat := if cfgRetry s fn then none else some (cfgValue s fn f)

/-- The component registers of BAR2 (R1039): the RAS and the link capability, present with the reset values of the CXL specification, and the HDM decoder. -/
inductive CxlReg where
  | rasCapability | linkCapability | hdmBase | hdmSize | hdmCommitted | hdmDecoders
  deriving DecidableEq, Repr

/-- What a PF reads of BAR2; none where the function has no BAR2. Log 158 (DESIGN CHOICE), 204 (PRESUMED). -/
def bar2Read (s : State) (fn : Nat) (r : CxlReg) : Option Nat :=
  if !cxlPf s fn then none
  else
    let h := hport s (fnPort fn)
    some (match r with
      | .rasCapability => 1
      | .linkCapability => 1
      | .hdmBase => h.hdm.getD 0
      | .hdmSize => 64 * 2 ^ 30
      | .hdmCommitted => b2n h.hdm.isSome
      | .hdmDecoders => 1)

end Sys2Proof.Machine
end

