-- ==== Sys2Proof/Safety.lean ====
section
/-! DEFINITION. What claims about the block say: a block that serves commands, a command that completes, and the canonical form of
sparse memory. -/

namespace Sys2Proof.Machine

open Sys2Proof

/-- A block that serves commands: it has power, is not held in reset, is not in the device FATAL state, and the copies of its critical fields
agree (R47, R976, R1064, R1087). -/
def Live (s : State) : Prop := s.errs.fatal = false ∧ unpowered s = false ∧ s.trv = []

/-- A command that answers a next state, of which something holds. -/
def Completes (c : Instr) (s : State) (P : State → Prop) : Prop := ∃ t, exec c s = .next t ∧ P t

/-- The front desk of a function takes the command of an opcode now: its entry is the next one of the request ring and is whole (R289, R299,
R300), and the two units of its response can be written (R1142). -/
def Takes (s : State) (h : FdHdr) (op : Nat) : Prop :=
  Live s ∧ fdReady s h op = true ∧ (ringSpots s h.fn (func s h.fn).fd.resp (func s h.fn).fd.resp.prod .both 2).isOk = true

/-- The Innkeeper's front desk takes the command of an opcode now. -/
def InnTakes (s : State) (h : FdHdr) (op : Nat) : Prop := Takes s h op ∧ isInn s h.fn = true

/-- A command of a list that waits for nothing, signals nothing and writes no completion: one in the midst of its list (R345). -/
def Plain (h : CmdHdr) : Prop :=
  h.signal = 0xFFFF ∧ h.wait = 0xFFFF ∧ h.epoch = 0 ∧ h.seawall = false ∧ h.notify = false ∧ h.fin = false

/-- A command of room rm's engine queue begins now: its list has a tile and has not failed, and the command is well formed (R362, R369). -/
def Begins (s : State) (h : CmdHdr) (op cls : Nat) (own : State → Room → Option Nat) (rm : Nat) : Prop :=
  Live s ∧ roomOf s h.fn = some rm ∧ (queue s h.fn h.queue).kind = .engine ∧ (queue s h.fn h.queue).st = .active ∧
  canRun s (listOf s h rm) = true ∧ (listOf s h rm).failed = false ∧ (listOf s h rm).prog = none ∧ (listOf s h rm).pins = [] ∧
  cmdBad (queue s h.fn h.queue) (room s rm) h op cls (own s (room s rm)) = none

/-- The record of a list whose command runs. -/
def begun (s : State) (h : CmdHdr) (op rm : Nat) : ListRec :=
  { listOf s h rm with parkFull := false, st := .onTile, cur := some (h, op) }

/-- The state in which the body of a command that begins runs. -/
def begunState (s : State) (h : CmdHdr) (op rm : Nat) : State := setList (begun s h op rm) s

/-- The Harbour units that a command needs are granted as it begins (R615, R656, R1141): its list holds none yet. -/
def Granted (s : State) (h : CmdHdr) (op rm n : Nat) : Prop :=
  (listOf s h rm).hunits = [] ∧
  askUnits (listDie (listOf s h rm)) (listOf s h rm).room { fn := h.fn, queue := h.queue, list := h.list, units := n } (begunState s h op rm) =
    (true, begunState s h op rm)

/-- A front desk command of a QP's own room on that QP, which exists (R393). -/
def OwnsQp (s : State) (h : FdHdr) (op n : Nat) : Prop :=
  Takes s h op ∧ n < 2 ^ 24 ∧ (qp s n).st ≠ .free ∧ roomOf s h.fn = some (qp s n).room

/-- A packet arrives in its turn at a ready, unsealed QP whose context is hot and which holds nothing back: it is the packet that CUM_PSN waits
for, no earlier packet of its message is known, its room's Breakwater has tokens for it, and no frozen bank holds it (R399, R411, R432, R727, R212). -/
def InTurn (s : State) (p : Pkt) : Prop :=
  Live s ∧ rxOk s p = true ∧ (qp s p.dstQpn).st = .ready ∧ (qp s p.dstQpn).level = 0 ∧ (qp s p.dstQpn).sealed = false ∧ p.sealed = false ∧
  rxBusy s (qp s p.dstQpn) p.opcode = false ∧ p.psn = (qp s p.dstQpn).cumPsn ∧ (qp s p.dstQpn).bitmap = [] ∧ (qp s p.dstQpn).msgs = [] ∧
  (qp s p.dstQpn).killed = [] ∧ (qp s p.dstQpn).deferred = [] ∧ overBreakwater s p (pktBytes p) = false ∧ qpFrozen s p.dstQpn = false

/-- A packet of a device stream arrives in its turn on a stream that is open, whose data is not sealed (R399, R424, R581). -/
def StreamTurn (s : State) (p : Pkt) (it : Itin) (num : Nat) : Prop :=
  Live s ∧ streamPktOk p = true ∧ p.reply = false ∧ p.dstQpn = num ∧ p.srcQpn = num ∧ it.sealed = false ∧ p.sealed = false ∧
  (qp s (streamKey p.srcNode p.epoch num)).st = .ready ∧ (qp s (streamKey p.srcNode p.epoch num)).roce = none ∧
  (qp s (streamKey p.srcNode p.epoch num)).cumPsn = p.psn ∧ (qp s (streamKey p.srcNode p.epoch num)).bitmap = [] ∧
  (qp s (streamKey p.srcNode p.epoch num)).msgs = []

/-- A round packet arrives in its turn on the control tree of its party, of a generation that no context here contradicts, for a collective that
is not over (R696, R703). -/
def RoundTurn (s : State) (p : Pkt) (down : Bool) (it : Itin) (tr : Tree) : Prop :=
  ctrlTree s (p.dstQpn % 2 ^ 16) = some (it, tr) ∧ StreamTurn s p it (roundNum (p.dstQpn % 2 ^ 16) down) ∧ it.tag = p.coll.party ∧
  (if down then p.srcNode = tr.parent ∧ p.srcNode ≠ 0xFFFF else p.srcNode ∈ tr.children) ∧ 1 ≤ p.coll.kind ∧ p.coll.kind ≤ 5 ∧
  (p.coll.party, p.epoch, p.coll.seq) ∉ s.coll.decided ∧ (∀ x ∈ s.coll.parties, x.2.tag = it.tag → x.2.gen = p.epoch) ∧
  s.coll.members = [] ∧ s.coll.nodes = []

/-- An access resolves to one run of device memory that takes it: its unit is not frozen and nothing it needs is in error. -/
def MapsTo (s : State) (c : DCtx) (a n : Nat) (need : Need) (x : Nat) : Prop :=
  n ≠ 0 ∧ resolve s c a n need = ([{ off := 0, loc := .dev x, len := n }], none) ∧ anyFrozen s x n = false ∧
  (if need = .write then firstBadW s x n else firstBad s x n) = none

/-- Device memory without errors: nothing poisoned, failing or frozen, and no unit in FATAL. -/
def Sound (s : State) : Prop :=
  s.mem.poison = [] ∧ s.mem.latentUe = [] ∧ s.mem.latentCe = [] ∧ s.mem.badMap = [] ∧ s.mem.frozen = [] ∧ s.errs.latches.all (fun p => p.2.st != 2) = true

/-- A range of a context's addresses lies in one 1 GiB leaf of its room's chart that gives reading and writing, over tier 0 from DPA x on (R240). -/
def Charted (s : State) (c : DCtx) (a n x : Nat) : Prop :=
  c.dpa = false ∧ c.space = none ∧ x + n ≤ 0x4000000000 ∧
  ∃ d l, (∀ k, k < n → opndOf s c (a + k) = .dva (d + k)) ∧ d % 2 ^ 30 + n ≤ 2 ^ 30 ∧
    mfind (room s c.room).leaves1 (d / 2 ^ 30) = some l ∧ l.read = true ∧ l.write = true ∧ x = l.dpa + d % 2 ^ 30

/-- What a kernel makes of the only element of a tensor at its first step: the record at DPA a, the gradient at DPA y, without clipping (R619 to R622). -/
def soleElem (s : State) (op : Nat) (u : UpdArgs) (a y : Nat) (k phi : FV) : ElemOut :=
  let sf := if u.stateFmt = 1 then bf16 else fp32
  updElem op u (updConst u 1) k phi 1 (rgen (u.seed ^^^ mix 1#64) 0#64).toNat
    ((fmtOf u.gradFmt).value (if updApply u op then 0 else ofLe (devRead s y (if u.gradFmt = 0 then 4 else 2))))
    (f32 (if (updReads op u).1 then ofLe (devRead s (a + 4096) 4) else 0))
    (if (updReads op u).2.1 then sf.value (ofLe (devRead s (a + 8192) (updSz u))) else FV.zero)
    (if (updReads op u).2.2 then sf.value (ofLe (devRead s (a + 12288) (updSz u))) else FV.zero)

/-- Bytes of a number stand at a DPA. -/
def Holds (t : State) (x n v : Nat) : Prop := ∀ k, k < n → cellGet t.mem.cells (x + k) = (leBytes n v).getD k 0

/-- A list has moved on past its command, which holds nothing any more. -/
def MovedOn (t : State) (h : CmdHdr) : Prop :=
  ∃ r, findList t h.fn h.queue h.list = some r ∧ r.st = .onTile ∧ r.cur = none ∧ r.prog = none ∧ r.hunits = []

/-- The bytes of a run of device memory after a command are those of a list, and every other byte is as it was. -/
def Lands (s t : State) (x : Nat) (data : List Byte) : Prop :=
  (∀ k, k < data.length → cellGet t.mem.cells (x + k) = data.getD k 0) ∧
  ∀ a, (a < x ∨ x + data.length ≤ a) → cellGet t.mem.cells a = cellGet s.mem.cells a

/-- A byte of device memory that lies in none of the Harbour units that a command takes as it begins, whose data it loses (R197). -/
def Untaken (s : State) (h : CmdHdr) (op rm n a : Nat) : Prop :=
  ∀ u ∈ (takeUnits (listDie (listOf s h rm)) n (begunState s h op rm)).1, a / 0x10000 ≠ unitBlock (listDie (listOf s h rm)) u / 16

/-- As `Lands`, of a command that takes n Harbour units: every other byte outside these is as it was. -/
def LandsTaking (s t : State) (h : CmdHdr) (op rm n x : Nat) (data : List Byte) : Prop :=
  (∀ k, k < data.length → cellGet t.mem.cells (x + k) = data.getD k 0) ∧
  ∀ a, Untaken s h op rm n a → (a < x ∨ x + data.length ≤ a) → cellGet t.mem.cells a = cellGet s.mem.cells a

/-- No other command under way in the room disturbs one that is to begin, or is disturbed by it (R637, R676). -/
def Apart (s : State) (h : CmdHdr) (rm : Nat) (p : Prog) : Prop :=
  ∀ x ∈ s.lists, ∀ q y, x.prog = some q → x.cur = some y → x.room = rm → (x.fn, x.queue, x.list) ≠ (h.fn, h.queue, h.list) →
    progsClash s (cmdCtx s h (listOf s h rm)) (cmdCtx s y.1 x) p q = false

/-- The management complex takes a request over a path that asks for no authentication: it is whole, ends here, breaks no header rule, and repeats
no request whose response is kept (R1004, R1009, R1020, R1031, R1032). -/
def Asks (s : State) (src : RSrc) (f : RFrame) : Prop :=
  Live s ∧ core0Runs s = true ∧ reachable s src = true ∧ isRemote src = false ∧ f.formOk = true ∧ f.type = 0 ∧ f.route = none ∧ f.auth = none ∧
  malformed f = false ∧ f.data.length ≤ 1024 ∧ waitingOn s (transport src) < 32 ∧ keptOf s src f = none

/-- A frame that some command of the management complex relays (R1024, R1031). -/
def Relays (s : State) (src : RSrc) (f : RFrame) (r : RRoute) : Prop :=
  Live s ∧ core0Runs s = true ∧ reachable s src = true ∧ f.formOk = true ∧ frameSize f ≤ 1084 ∧ waitingOn s (transport src) < 32 ∧ f.route = some r

/-- The state in which a request is served: its receipt is counted (MG_CNT_RX). -/
def received (s : State) (src : RSrc) : State := bump (0x260100 + 8 * transport src) s

/-- The response to a request, by its source (R1009, R1013, R1025). -/
def replyTo (src : RSrc) (f : RFrame) (op status : Nat) (data : List Byte) (more : Bool) : Out :=
  .relivicel src { type := 1, opcode := some op, tag := f.tag, more := more, status := status, index := f.index, sub := f.sub, offset := f.offset, data := data }

/-- The keys of a table rise strictly from a bound up (the form every sparse table keeps). -/
def Keyed {α : Type} (b : Nat) : NMap α → Prop
  | [] => True
  | (j, _) :: r => b ≤ j ∧ Keyed (j + 1) r

/-- Whether cells stand in strictly rising order of address from a bound up, none of them zero. -/
def risesFrom (b : Nat) : List Host.Cell → Bool
  | [] => true
  | c :: r => decide (b ≤ c.1) && c.2 != 0 && risesFrom (c.1 + 1) r

/-- The canonical form of a sparse memory whose unlisted bytes read zero: addresses strictly rising, no entry zero. -/
def Memory.wf (m : List Host.Cell) : Bool := risesFrom 0 m

/-- Device memory, and the host memory behind every host port, in canonical form; a block of device memory that holds a byte other than zero
has its valid bit set (R184). -/
def State.memWf (s : State) : Bool :=
  Memory.wf s.mem.cells && s.hmem.all (fun p => Memory.wf p.2) && s.mem.cells.all (fun c => s.mem.valid.contains (c.1 / 4096))

/-- What each command may change of the state. -/
def scopeOf : Instr → List Piece
  | .beaconSend _ => reports ++ [.tide, .fports, .objNow]
  | .beaconReceive _ _ _ => reports ++ [.tide, .objNow]
  | .neighbourLoss _ => reports ++ [.tide, .fports, .objNow]
  | .rateAdjust => collectives ++ [.objNow]
  | .holdoverExpired => reports ++ [.tide, .objNow]
  | .ppsEdge _ _ => reports ++ [.tide, .objNow]
  | .clk10mLoss => reports ++ [.tide, .objNow]
  | .ppsOutEdge => [.out, .tide]
  | .ptpMessage _ => reports ++ [.tide, .objNow]
  | .tideNowRead _ _ _ => [.out, .funcs]
  | .tdGclCommit _ _ => interrupts ++ [.tide]
  | .tableSwitched _ => interrupts ++ [.tide]
  | .gateEntryBoundary _ => [.tide]
  | .slackWaterStart _ _ => [.tide]
  | .timedWaitFire _ => collectives
  | .bufTakeEffect _ _ _ => [.eff, .bufs, .tokens, .tokenFrac]
  | .hostLinkUp _ _ _ _ _ _ => interrupts
  | .retrainHeld _ => interrupts ++ [.cnt, .windows]
  | .retrainResumed _ _ _ _ => transfers ++ [.windows, .porch]
  | .linkLost _ => losses
  | .perst _ => losses
  | .hotReset _ => losses
  | .flr _ => losses
  | .vfEnable _ _ _ => losses
  | .vfDisable _ _ => losses
  | .hostCxlmemAccess _ _ _ _ => dataAccess ++ [.lists, .tilesHalted, .rooms]
  | .hostSnoop _ _ => [.out]
  | .biasDevice _ _ => answers
  | .memwinEnable _ _ => [.arms, .hports]
  | .memwinDisable _ _ => interrupts ++ [.arms]
  | .memwinSweepDone _ => [.hports]
  | .memwinBaseWrite _ _ _ => [.cnt, .arms, .hports]
  | .seawall _ => listWork
  | .seawallComplete _ => transfers ++ [.windows, .porch]
  | .invalidateRequest _ _ _ _ _ => [.cnt, .tcache, .invals]
  | .invalidateCompletion _ _ => interrupts ++ [.invals]
  | .translationCompletion _ _ _ _ _ _ _ _ => transfers ++ [.windows, .porch]
  | .pageRequestResponse _ _ _ _ => transfers ++ [.windows, .porch]
  | .priTimeout _ _ _ => transfers ++ [.windows, .porch]
  | .dsPortEnumerate _ _ _ => reports ++ [.ds]
  | .dsLinkFail _ _ => reports ++ [.ds]
  | .dsEnableCycle _ _ => [.free, .mem, .ds]
  | .memGrant _ _ _ => answers
  | .memReclaim _ _ _ => answers
  | .reclaimDone _ => answers ++ [.regs, .eff, .bufs, .events, .rooms, .tokens]
  | .memQuery _ _ _ => dataAccess
  | .harbourReserve _ _ _ => answers ++ [.rooms]
  | .harbourUnitsGranted _ _ => collectives
  | .copyMove _ _ _ _ _ => transfers
  | .copyFill _ _ _ _ _ => transfers
  | .copyZero _ _ _ _ => transfers
  | .freezeSet _ _ => [.cnt, .arms, .mem]
  | .unitDrained _ => [.mem]
  | .freezeLong _ => reports
  | .freezeClear _ _ => transfers ++ [.arms, .windows, .porch]
  | .chartSet _ _ _ _ _ _ => answers ++ [.free, .rooms]
  | .chartClear _ _ _ _ => answers ++ [.tcache, .rooms]
  | .chartClearDone _ => answers
  | .chartQuery _ _ => answers
  | .chartEpoch _ => answers ++ [.rooms]
  | .windowOpen _ _ _ _ _ _ _ _ _ _ _ => answers ++ [.windows, .winNext, .winFreed]
  | .windowModify _ _ _ _ => answers ++ [.windows, .qps]
  | .windowModifyDone _ => answers
  | .windowRevoke _ _ => answers ++ [.events, .windows]
  | .windowRevokeDone _ => answers ++ [.windows, .winFreed]
  | .purgeAll _ => [.arms, .tcache]
  | .producerDoorbell _ _ _ => [.cnt, .funcs, .queues]
  | .consumerDoorbell _ _ _ _ => answers ++ [.queues]
  | .ringFetch _ _ => listWork ++ [.free]
  | .queueEnable _ _ => answers ++ [.queues]
  | .queueDisable _ _ => listWork
  | .queueIdle _ _ => answers ++ [.queues]
  | .queueResume _ _ _ => listWork
  | .queueCreate _ _ _ _ _ _ _ _ _ _ _ _ => answers ++ [.queues]
  | .queueDestroy _ _ => answers ++ [.queues]
  | .queueModerate _ _ _ _ => answers
  | .frontDeskEnable _ _ => answers
  | .frontDeskResume _ _ => answers
  | .msixModerationTimer _ _ => interrupts ++ [.queues]
  | .nop _ => listWork
  | .lanternSignal _ _ _ _ => listWork
  | .waitTide _ _ => listWork
  | .listExec _ _ _ => listWork
  | .listDispatch _ _ => reports ++ [.lists, .rrRoom, .rrQueue]
  | .parkedListWake _ _ _ => [.cnt, .lists]
  | .waitTimeout _ _ _ => listWork
  | .lanternHostAdd _ _ _ => [.rooms]
  | .lanternHostSet _ _ _ _ _ => [.rooms]
  | .tileEnableWrite _ _ => reports ++ [.regs, .arms, .lists]
  | .tileTrap _ _ => listWork ++ [.tilesHalted, .fports, .lanes, .objNow]
  | .qpCreate _ _ _ _ _ _ _ _ _ _ => answers ++ [.free, .events, .qps, .hot, .warm]
  | .qpConnect _ _ _ _ _ _ _ _ _ _ _ => answers ++ [.qps]
  | .qpModify _ _ _ _ _ _ _ _ => answers ++ [.qps]
  | .qpDrain _ _ => answers ++ [.qps]
  | .qpDrained _ => answers ++ [.queues, .qps]
  | .qpResume _ _ => answers ++ [.qps]
  | .qpReset _ _ => answers ++ [.windows, .queues, .qps, .rooms]
  | .qpDestroy _ _ => answers ++ [.windows, .queues, .qps, .porch, .hot, .warm, .rooms]
  | .qpQuery _ _ => dataAccess
  | .qpSpill _ _ _ => answers ++ [.rooms]
  | .qpProxy _ _ _ _ => answers ++ [.qps]
  | .qpRoce _ _ _ _ _ _ _ _ _ _ _ _ _ => answers ++ [.qps]
  | .qpSeal _ _ _ => answers ++ [.qps]
  | .write _ => transfers ++ [.hot, .warm]
  | .writeImm _ => transfers ++ [.hot, .warm]
  | .writeSignal _ => transfers ++ [.hot, .warm]
  | .send _ => transfers ++ [.hot, .warm]
  | .sendImm _ => transfers ++ [.hot, .warm]
  | .read _ => transfers ++ [.hot, .warm]
  | .fetchAdd _ => transfers ++ [.hot, .warm]
  | .cmpSwap _ => transfers ++ [.hot, .warm]
  | .proxyReply _ => transfers ++ [.hot, .warm]
  | .recv _ _ _ _ _ _ => answers ++ [.queues]
  | .xferPost _ _ _ => transfers ++ [.hot, .warm]
  | .undertowPace _ _ _ _ => losses
  | .writePacketReceive _ => losses
  | .sendPacketReceive _ => losses
  | .readReqReceive _ => losses
  | .atomicReqReceive _ => losses
  | .readRespReceive _ => losses
  | .atomicRespReceive _ => losses
  | .ackReceive _ => losses
  | .nakReceive _ => losses
  | .ackDelayTimer _ _ _ _ => interrupts ++ [.cnt, .qps, .fports, .heldPkts, .tokens]
  | .retxTimeout _ _ _ _ _ => collectives ++ [.windows, .porch]
  | .detourSuspendEnd _ _ _ _ => [.qps]
  | .busyHoldEnd _ _ _ _ => [.qps]
  | .contextFetchComplete _ _ => losses
  | .proxyTimeout _ _ => reports ++ [.qps, .fports, .heldPkts, .tokens]
  | .utBaseWindowEnd _ _ _ _ _ => [.qps]
  | .rocePacketReceive _ _ _ _ => losses
  | .cnpReceive _ => interrupts ++ [.qps]
  | .rpRecovery _ => [.qps]
  | .rdcAllReduce _ _ => collectives
  | .rdcReduceScatter _ _ => collectives
  | .rdcReduce _ _ => collectives
  | .rdcLocalReduce _ _ => transfers
  | .xferAllGather _ _ => collectives
  | .xferBroadcast _ _ => collectives
  | .sourceChunkReady _ => collectives
  | .collStartTime _ => collectives
  | .expUpReceive _ => collectives
  | .expDownReceive _ => collectives
  | .sumUpReceive _ => collectives
  | .resultDownReceive _ => collectives
  | .abortReceive _ => collectives
  | .collTimeout _ => collectives
  | .nodeTimeout _ _ => collectives
  | .itineraryInstall _ _ => dataAccess ++ [.coll]
  | .itineraryRemove _ _ => answers ++ [.qps, .coll, .heldPkts]
  | .itineraryQuery _ _ => dataAccess
  | .itinLoad _ => [.coll]
  | .itinUnload _ => [.qps, .coll, .heldPkts]
  | .updSgd _ _ => transfers
  | .updAdamw _ _ => transfers
  | .updLion _ _ => transfers
  | .updLamb _ _ => transfers
  | .updAccumulate _ _ => transfers
  | .cdcConvert _ _ => transfers
  | .cdcQuantiseEf _ _ => transfers
  | .cdcDequantise _ _ => transfers
  | .partyCreate _ _ _ _ _ _ => answers ++ [.free, .coll]
  | .partyWaitExpired _ => answers
  | .partyDestroy _ _ => answers ++ [.free, .coll]
  | .partyQuery _ _ => dataAccess
  | .collBarrier _ _ => collectives
  | .collScalarReduce _ _ => collectives
  | .roundUpReceive _ => collectives
  | .roundDownReceive _ => collectives
  | .abortUpReceive _ => collectives
  | .abortCallReceive _ => collectives
  | .abortDownReceive _ => collectives
  | .abortJoinTimeout _ _ _ => collectives
  | .roundLost _ => collectives
  | .dataFrameReceive _ _ => interrupts ++ [.cnt, .fports, .tokens, .sealing]
  | .creditFrameReceive _ _ => [.cnt, .fports]
  | .creditCountTimer _ => [.out, .fports]
  | .routerCommit _ => interrupts ++ [.arms, .router]
  | .routerDrain _ => [.arms, .router]
  | .routerUndrain _ => [.arms, .router]
  | .routerDrained => [.router]
  | .drainLong => reports ++ [.router]
  | .nodeAddrWrite _ _ => interrupts ++ [.cnt, .arms, .fports, .router]
  | .fenceWrite _ _ => [.fports]
  | .portUp _ => interrupts ++ [.fports]
  | .routeWrite _ _ => [.router]
  | .portEnable _ _ => interrupts ++ [.cnt, .fports, .lanes, .lasers]
  | .portDisable _ _ => dataAccess
  | .linkAcquired _ _ => interrupts ++ [.fports]
  | .linkDown _ _ => reports ++ [.tide, .fports, .objNow]
  | .helloSend _ => interrupts ++ [.fports]
  | .helloReceive _ _ => reports ++ [.tide, .fports, .objNow]
  | .modeMismatch _ => interrupts ++ [.fports]
  | .mgmtFrameReceive _ _ => interrupts ++ [.cnt, .fports]
  | .fecSdWindow _ _ _ _ _ _ _ => reports ++ [.fports]
  | .ethFrameReceive _ _ _ _ => interrupts ++ [.cnt, .fports, .tokens, .sealing]
  | .pauseReceive _ _ _ _ => [.cnt, .fports]
  | .pauseExpire _ _ _ => [.fports]
  | .pfcRefresh _ _ => [.out, .cnt, .fports]
  | .ethPeerWrite _ _ => [.mem, .ethResult]
  | .ringSample _ _ _ _ => dataAccess
  | .heaterSweepEnd _ _ _ _ => reports ++ [.lanes]
  | .laneManualWrite _ _ _ _ => [.regs, .cnt, .arms, .lanes]
  | .tecLoop _ _ => [.lasers]
  | .biasStep _ _ => reports ++ [.free, .lasers]
  | .laserSettled _ => interrupts ++ [.lasers]
  | .tecFail _ => dataAccess ++ [.lasers]
  | .laserRampDone _ _ _ => reports ++ [.lanes, .lasers]
  | .laserIdleOff _ => dataAccess ++ [.lasers]
  | .permitDrop _ => dataAccess ++ [.lasers]
  | .laserPathFault _ _ => dataAccess ++ [.lasers]
  | .laserOvertemp _ => dataAccess ++ [.lasers]
  | .clearFault _ _ _ => interrupts ++ [.arms, .lasers]
  | .laserAllowWrite _ _ _ => interrupts ++ [.regs, .cnt, .arms, .lasers]
  | .laserEnChange _ => interrupts ++ [.lasers, .laserEn, .objNow]
  | .opticsSecond _ _ _ _ _ _ _ _ => reports ++ [.free, .lanes, .peTemp]
  | .roomQuota _ _ _ => answers ++ [.free, .rooms, .coll]
  | .roomQuiesce _ _ => listWork
  | .quiesced _ => answers ++ [.events, .rooms]
  | .quiesceTimeout _ => losses
  | .roomResume _ => answers ++ [.rooms]
  | .roomReset _ _ => losses
  | .roomQuarantine _ => losses
  | .roomRelease _ => losses
  | .roomRemove _ => losses ++ [.regs, .eff, .bufs, .tokens]
  | .roomQuery _ => dataAccess
  | .mailboxPost _ _ _ _ => interrupts ++ [.cnt, .rooms]
  | .mailboxAck _ _ _ => answers ++ [.rooms]
  | .keyBankLoad _ _ _ _ _ => [.cnt, .rooms, .sealing]
  | .rotateAtWrite _ _ _ _ _ => [.rooms, .sealing]
  | .keyRotateComplete _ _ => interrupts ++ [.rooms, .sealing]
  | .keyErase _ _ _ => answers ++ [.rooms, .sealing]
  | .fabricKeyWrite _ _ _ => [.cnt, .rooms, .sealing]
  | .fabricRotate _ _ => [.cnt, .rooms, .sealing]
  | .mgmtKey _ _ _ _ => [.cnt, .sealing, .dict]
  | .lcRequest _ _ _ => everything
  | .scrubAccess _ _ _ _ => dataAccess ++ [.lists, .tilesHalted, .rooms]
  | .scrubPassEnd _ => reports
  | .ceRateSecond => reports
  | .expanderEventPoll _ _ => [.cnt, .errs]
  | .codeWordReload _ _ => [.errs]
  | .latchAck _ _ _ => [.errs]
  | .ueAutoAck _ => [.errs]
  | .deviceFatal _ => reports
  | .d2dUnrecoverable => reports
  | .mgmtCoreHalt _ _ => listWork ++ [.tilesHalted, .fports, .lanes, .objNow]
  | .watchdogExpire => [.errs]
  | .relivicelRead _ _ => everything
  | .relivicelWrite _ _ => everything
  | .relivicelDescribe _ _ => everything
  | .relivicelNext _ _ => everything
  | .rwsStoreDone _ _ _ => everything
  | .segmentGapExpire _ _ _ _ => [.dict]
  | .relayForward _ _ => interrupts ++ [.cnt, .fports, .dict]
  | .relayResponse _ _ => interrupts ++ [.cnt, .fports, .dict]
  | .relayEntryExpire _ _ _ => [.dict]
  | .setEndpointId _ _ => [.out, .dict]
  | .getEndpointId _ => [.out]
  | .getEndpointUuid _ => [.out]
  | .getMctpVersionSupport _ => [.out, .free]
  | .getMessageTypeSupport _ => [.out]
  | .getVdmSupport _ => [.out, .free]
  | .restoreDefaults _ => [.dict]
  | .unlockWrite _ _ _ _ => [.cnt, .arms]
  | .unlockLapse _ => [.arms]
  | .eventWriteBack _ _ _ _ => reports
  | .blockSnapshot _ _ => [.snap]
  | .glbSnapshot _ => [.snap]
  | .registerWrite _ _ _ => transfers ++ [.regs, .eff, .bufs, .arms, .router, .windows, .porch]
  | .domainRequest _ _ _ => losses ++ [.arms, .doms, .lasers, .power]
  | .domainWakeAdmit _ => interrupts ++ [.doms, .power]
  | .domainOn _ => losses ++ [.doms, .lasers, .power]
  | .wakeFail _ => losses ++ [.doms, .lasers, .power]
  | .domainSleepDone _ => losses ++ [.doms, .lasers, .power]
  | .limiterStep _ => interrupts ++ [.power]
  | .thermalSample _ _ _ _ _ _ _ _ _ => everything
  | .powerUp => everything
  | .inputRemoval => everything
  | .moduleResetPin _ => everything
  | .moduleReset _ => everything
  | .tideReset _ => [.tide, .sealing]
  | .startupDone _ => interrupts ++ [.power]
  | .clockFail => reports
  | .frameBoundary _ _ => reports ++ [.tide, .fports, .objNow, .tokens, .sealing]
  | .bucketRefill _ _ _ => [.tokens, .tokenFrac]
  | .perstRelease _ => [.hports, .power, .objNow]
  | .mgmtLinkUp => [.objNow, .power]
  | .mgmtAddressResolution _ _ => [.out]
  | .ptpSyncDelayReqSend => reports ++ [.tide, .objNow]
  | .dsLinkReturn _ => [.ds]
  | .biasDeviceDone _ => answers

/-- The commands of which a module without power, or held in reset, takes note: its input power and its pins (R1087, R1116). -/
def darkServes : Instr → Bool
  | .perst ..
  | .laserEnChange ..
  | .powerUp ..
  | .inputRemoval ..
  | .moduleResetPin ..
  | .perstRelease ..
    => true
  | _ => false

/-- The commands of the object dictionary and its relay, which core 0 serves in FATAL as well (R976). -/
def requestServes : Instr → Bool
  | .relivicelRead ..
  | .relivicelWrite ..
  | .relivicelDescribe ..
  | .relivicelNext ..
  | .rwsStoreDone ..
  | .segmentGapExpire ..
  | .relayForward ..
  | .relayResponse ..
  | .relayEntryExpire ..
    => true
  | _ => false

/-- The commands of an MCTP endpoint (R976, R1022). -/
def endpointServes : Instr → Bool
  | .setEndpointId ..
  | .getEndpointId ..
  | .getEndpointUuid ..
  | .getMctpVersionSupport ..
  | .getMessageTypeSupport ..
  | .getVdmSupport ..
    => true
  | _ => false

/-- The commands that a device in FATAL still serves: tide time, the management complex, the ways out of FATAL, and the
levels of pins (R976, R1087). -/
def fatalServes (c : Instr) : Bool :=
  darkServes c || requestServes c || endpointServes c ||
    (match c with
    | .tideNowRead .. => true
    | .thermalSample .. => true
    | .moduleReset .. => true
    | _ => false)

/-- The laser units are safe: each is in one of its five states, drives its lasers only while it is ON, and none above 500 mA (R863, R868); no
copies of a critical field disagree (R1064). Currents count in 0.1 mA. -/
def LasersSafe (s : State) : Prop :=
  s.trv = [] ∧ ∀ u, (laser s u).st ≤ 4 ∧ ((laser s u).current ≠ [] → (laser s u).st = 3) ∧ ∀ c ∈ (laser s u).current, c.2 ≤ 5000

/-- The limiter's duty lies from 4/16 to 16/16 (R1078, R1079), and the life-cycle state is one of the five, with a written
fuse, if any, of a state no earlier (R944). -/
def Legal (s : State) : Prop :=
  4 ≤ s.power.duty ∧ s.power.duty ≤ 16 ∧ s.sealing.lc ≤ 4 ∧ ∀ n, s.sealing.fuse = some n → s.sealing.lc ≤ n ∧ n ≤ 4

end Sys2Proof.Machine
end

