-- ==== Sys2Proof/Certificates/Slice0/Obligations.lean ====
section
/-! DEFINITION. The statements about the block that are to be proved. -/

open Sys2Proof Sys2Proof.Machine

/-- Beacons: sending, taking a valid one, discarding a broken one, losing a neighbour (R79, R80, R81, R82, R83, R818). The counter of a discarded beacon frame is the model's choice (log entry 101). -/
def Obligations.BeaconsAreSentAndTaken : Prop :=
  (∀ (s : State) (p : Nat), Live s → (fport s p).direct = true → (fport s p).st = .up → lanesReady s p 0 = true → (fport s p).leaving = none →
    Completes (.beaconSend p) s fun t =>
      (∃ b : Beacon, t.out.head? = some (.beacon p (linkFrame 2 (beaconBytes b))) ∧ b.version = 1 ∧ b.kind = 1 ∧ b.txTime = s.tide.count ∧
        b.seq = (tport s p).txSeq.toNat ∧ b.echoSeq = (tport s p).rxSeq.toNat ∧ b.echoTx = (tport s p).rxTx ∧
        b.echoRx = (tport s p).rxTime ∧ b.node = t.tide.mNode ∧ b.prio = t.tide.mPrio ∧ b.hops = t.tide.hops ∧ b.master = t.tide.isMaster) ∧
      (tport t p).txSeq = (tport s p).txSeq + 1) ∧
  (∀ (s : State) (p : Nat) (frame data : List Byte) (rx : Word), Live s → (fport s p).direct = true → (fport s p).st = .up →
    linkBody 2 frame = some data → (beaconOf data).kind = 1 → beaconValid (tport s p) (beaconOf data) rx = true →
    Completes (.beaconReceive p frame rx) s fun t =>
      (tport t p).rxSeq = BitVec.ofNat 8 (beaconOf data).seq ∧ (tport t p).rxTx = (beaconOf data).txTime ∧ (tport t p).rxTime = rx ∧
      (tport t p).delay = Int.tdiv (sdiff rx (beaconOf data).echoTx - sdiff (beaconOf data).txTime (beaconOf data).echoRx) 2 ∧
      (tport t p).lost = false ∧
      (tport t p).announce =
        (if (beaconOf data).locked
         then some { ref := if (beaconOf data).ref then 0 else 1, prio := (beaconOf data).prio, node := (beaconOf data).node, hops := (beaconOf data).hops }
         else none)) ∧
  (∀ (s : State) (p : Nat) (frame : List Byte) (rx : Word), Live s → (fport s p).direct = true → (fport s p).st = .up → linkBody 2 frame = none →
    Completes (.beaconReceive p frame rx) s fun t => t.tide = s.tide ∧ t.out = s.out) ∧
  (∀ (s : State) (p : Nat), Live s → (fport s p).direct = true → (fport s p).st = .up →
    Completes (.neighbourLoss p) s fun t => (fport t p).st = .acquire ∧ (tport t p).announce = none ∧ (tport t p).lost = true)

/-- The tide unit: rate adjustment, the end of holdover, references (R73, R75, R76, R77, R84, R85, R87, R88). -/
def Obligations.TideUnitCorrectsAndExpires : Prop :=
  (∀ s : State, Live s → s.tide.st = .locked → 16 ≤ s.tide.samples.length →
    -160 ≤ Int.tdiv ((s.tide.samples.take 16).foldl (fun a x => a + x) 0) 16 →
    Int.tdiv ((s.tide.samples.take 16).foldl (fun a x => a + x) 0) 16 ≤ 160 →
    Completes .rateAdjust s fun t =>
      t.tide.offset = Int.tdiv ((s.tide.samples.take 16).foldl (fun a x => a + x) 0) 16 ∧ t.tide.samples = s.tide.samples.drop 16 ∧
      t.tide.count = s.tide.count ∧ t.tide.st = .locked ∧ -13743895 ≤ t.tide.rate ∧ t.tide.rate ≤ 13743895) ∧
  (∀ s : State, Live s → s.tide.st = .acquire → 16 ≤ s.tide.samples.length → s.tide.firstDone = false → s.tide.waits = [] →
    usTicks < Int.tdiv ((s.tide.samples.take 16).foldl (fun a x => a + x) 0) 16 →
    Completes .rateAdjust s fun t =>
      t.tide.count = s.tide.count - BitVec.ofInt 64 (Int.tdiv ((s.tide.samples.take 16).foldl (fun a x => a + x) 0) 16) ∧
      t.tide.firstDone = true ∧ t.tide.rate = s.tide.rate ∧ elapsed t = elapsed s ∧ evBit t 0 0 = true) ∧
  (∀ s : State, Live s → s.tide.st = .holdover → holdLimit s < holdError s.tide →
    Completes .holdoverExpired s fun t => t.tide.st = .freerun ∧ t.tide.count = s.tide.count ∧ evBit t 0 5 = true) ∧
  (∀ (s : State) (stamp : Word) (freq : Int), Live s → s.tide.extLocked = false →
    Completes (.ppsEdge stamp (some freq)) s fun t => t.tide.extOk = true ∧ t.tide.ppsRejects = 0 ∧ t.tide.nextPps = none) ∧
  (∀ (s : State) (stamp : Word) (freq : Option Int), Live s → s.tide.extLocked = true → usTicks < sdiff stamp (ppsTarget s stamp) →
    Completes (.ppsEdge stamp freq) s fun t =>
      t.tide.ppsRejectCount = s.tide.ppsRejectCount + 1 ∧ evBit t 0 4 = true ∧ t.tide.count = s.tide.count ∧
      (if 2 ≤ s.tide.ppsRejects then t.tide.extOk = false ∧ t.tide.extLocked = false
       else t.tide.extOk = s.tide.extOk ∧ t.tide.ppsRejects = s.tide.ppsRejects + 1)) ∧
  (∀ s : State, Live s → Completes .clk10mLoss s fun t => t.tide.extOk = false ∧ t.tide.extLocked = false) ∧
  (∀ s : State, Live s → -32 ≤ ppsOutError s → ppsOutError s ≤ 32 → Completes .ppsOutEdge s fun t =>
    t.out = .ppsPulse s.tide.count :: s.out ∧ t.tide.ppsOut = true ∧
      t.tide.ppsOutUntil = s.tide.count + BitVec.ofNat 64 (obj s 0x4005 3 1000000 * 16))

/-- Reads of tide time, and the ordinary clock of the management port (R63, R65, R78). What the ordinary clock sends, and when, is the model's choice within R78 (log entry 181). -/
def Obligations.TimeIsReadAndServed : Prop :=
  (∀ (s : State) (m : PtpMsg), Live s → obj s 0x4004 2 0 ≠ 0 → m.domain = obj s 0x4004 1 0 → m.transport = obj s 0x4004 3 1 →
    m.kind = .syncTwoStep → ptpMaster s = false → fromBest s m = true → (s.tide.count - s.tide.ptpHeard).toNat ≤ 96000000000 →
    Completes (.ptpMessage m) s fun t => t.tide.ptpT2 = m.rxNs ∧ t.tide.ptpSeq = m.seq ∧ t.tide.ptpTwoStep = true) ∧
  (∀ (s : State) (m : PtpMsg) (d : Int), Live s → obj s 0x4004 2 0 ≠ 0 → m.domain = obj s 0x4004 1 0 → m.transport = obj s 0x4004 3 1 →
    m.kind = .sync → ptpMaster s = false → fromBest s m = true → (s.tide.count - s.tide.ptpHeard).toNat ≤ 96000000000 →
    s.tide.ptpPeerDelay = some d →
    Completes (.ptpMessage m) s fun t => t.tide.ptpOff = m.rxNs - m.originNs - d ∧ t.tide.ptpOk = true) ∧
  (∀ (s : State) (m : PtpMsg), Live s → obj s 0x4004 2 0 ≠ 0 → m.domain = obj s 0x4004 1 0 → m.transport = obj s 0x4004 3 1 →
    m.kind = .delayReq → ptpMaster s = true → s.tide.ptpOk = false → s.tide.ptpBest = none →
    Completes (.ptpMessage m) s fun t => t.out = .ptp { m with kind := .delayResp, originNs := m.rxNs, rxNs := 0 } :: s.out) ∧
  (∀ s : State, Live s → obj s 0x4004 2 0 ≠ 0 → ptpMaster s = false → (s.tide.count - s.tide.ptpHeard).toNat ≤ 96000000000 →
    Completes .ptpSyncDelayReqSend s fun t => t.tide.ptpT3 = ptpNow s ∧ t.tide.ptpP1 = ptpNow s ∧
      ∃ m r : PtpMsg, t.out = .ptp r :: .ptp m :: s.out ∧ m.kind = .delayReq ∧ r.kind = .pdelayReq) ∧
  (∀ s : State, Live s → obj s 0x4004 2 0 ≠ 0 → ptpMaster s = true → s.tide.ptpOk = false → s.tide.ptpBest = none →
    Completes .ptpSyncDelayReqSend s fun t =>
      ∃ a m f : PtpMsg, t.out = .ptp f :: .ptp m :: .ptp a :: s.out ∧ a.kind = .announce ∧ m.kind = .syncTwoStep ∧ f.kind = .followUp ∧
        f.originNs = ptpNow s ∧ f.seq = m.seq) ∧
  (∀ (s : State) (fn : Nat), unpowered s = false → (s.trv = [] ∨ s.errs.fatal = true) →
    Completes (.tideNowRead fn true .full) s fun t =>
      t.out = .readData fn (BitVec.ofNat 64 (s.tide.count.toNat / 16 * 16)) :: s.out) ∧
  (∀ (s : State) (fn : Nat), unpowered s = false → (s.trv = [] ∨ s.errs.fatal = true) →
    Completes (.tideNowRead fn true .low) s fun t =>
      t.out = .readData fn (BitVec.ofNat 64 (s.tide.count.toNat / 16 * 16 % 2 ^ 32)) :: s.out ∧
      (func t fn).latchGlb = some (s.tide.count.toNat / 2 ^ 32)) ∧
  (∀ (s : State) (fn h : Nat), unpowered s = false → (s.trv = [] ∨ s.errs.fatal = true) → (func s fn).latchGlb = some h →
    Completes (.tideNowRead fn true .high) s fun t =>
      t.out = .readData fn (BitVec.ofNat 64 h) :: s.out ∧ (func t fn).latchGlb = none) ∧
  (∀ (s : State) (fn h : Nat), Live s → isInn s fn = true → (func s fn).latchTd = some h →
    Completes (.tideNowRead fn false .high) s fun t =>
      t.out = .readData fn (BitVec.ofNat 64 h) :: s.out ∧ (func t fn).latchTd = none) ∧
  (∀ (s : State) (fn : Nat) (part : Part), Live s → isInn s fn = false →
    Completes (.tideNowRead fn false part) s fun t => t.out = .readData fn 0 :: s.out)

/-- Tide tables: commit, switch, entries, slack water (R92, R93, R97, R99, R103, R112). What a CHANGE_TIME in the past means, and what a rejected commit leaves pending, is the model's choice (log entry 182). -/
def Obligations.TideTablesSwitch : Prop :=
  (∀ (s : State) (fn p : Nat), Live s → isInn s fn = true → commitBad s p = false →
    Completes (.tdGclCommit fn p) s fun t =>
      (tport t p).cfgErr = false ∧ (tport t p).oper = (tport s p).oper ∧
      ∃ g c, (tport t p).pend = some (g, c) ∧
        c = (if reached (rd s (0x490018 + 0x2000 * p) 0) s.tide.count then s.tide.count else rd s (0x490018 + 0x2000 * p) 0) ∧
        g.base = rd s (0x490008 + 0x2000 * p) 0 ∧ g.cycle = wfld (rd s (0x490010 + 0x2000 * p) 0) 29 0 ∧
        g.entries = adminEntries s p (wfld (gclCtrl s p) 40 32)) ∧
  (∀ (s : State) (fn p : Nat), Live s → isInn s fn = true → commitBad s p = true →
    Completes (.tdGclCommit fn p) s fun t =>
      (tport t p).cfgErr = true ∧ (tport t p).oper = (tport s p).oper ∧ (tport t p).pend = (tport s p).pend ∧ evBit t 0 7 = true) ∧
  (∀ (s : State) (p : Nat) (g : Gcl) (c : Word), Live s → (tport s p).pend = some (g, c) →
    reached (cycleStart (tport s p).oper c) s.tide.count = true →
    Completes (.tableSwitched p) s fun t =>
      (tport t p).oper = g ∧ (tport t p).pend = none ∧ (tport t p).gates = (tport s p).gates ∧
      (tport t p).switchAt = some (cycleStart g (cycleStart (tport s p).oper c)) ∧ evBit t 0 6 = true) ∧
  (∀ (s : State) (p : Nat), Live s → gclOn s p = true → (tport s p).switchAt.all (fun w => reached w s.tide.count) = true →
    Completes (.gateEntryBoundary p) s fun t =>
      (tport t p).gates = gatesAt (tport s p).oper s.tide.count ∧ (tport t p).oper = (tport s p).oper ∧
      ∀ c, c < 8 → (tport t p).slack.getLsbD c =
        ((tport t p).gates.getLsbD c && closesWithin (tport t p) s.tide.count c (slackNs s p c * 16))) ∧
  (∀ (s : State) (p c : Nat), Live s → gclOn s p = true → c < 8 → (tport s p).gates.getLsbD c = true →
    closesWithin (tport s p) s.tide.count c (slackNs s p c * 16) = true →
    Completes (.slackWaterStart p c) s fun t =>
      (tport t p).slack.getLsbD c = true ∧ ∀ d, d ≠ c → (tport t p).slack.getLsbD d = (tport s p).slack.getLsbD d) ∧
  (∀ (s : State) (off p : Nat) (b : Boundary), Live s → mfind s.bufs off = some b →
    Completes (.bufTakeEffect off p b) s fun t =>
      ∀ rst, rdEff t off rst = rd s off rst ∧ rd t off rst = rd s off rst)

/-- Host links: training, HOLD, resumption, loss and resets (R121, R133, R156, R170, R1097). Rates are the codes of R170 (log entry 118), and a retrained port that leaves CXL mode is the model's reading (log entry 186). -/
def Obligations.HostLinksComeAndGo : Prop :=
  (∀ (s : State) (p rate width : Nat) (flit cxl : Bool) (cfg : HostCfg), Live s → p < 8 → (hport s p).st = .down → (hport s p).detect = true →
    (mget s.doms (104 + p) {}).st = 2 → lcLases s = true → rate ≠ 0 → rate ≤ obj s 0x2002 (p + 1) 7 → widthOk width = true →
    Completes (.hostLinkUp p rate width flit cxl cfg) s fun t =>
      (hport t p).st = .up ∧ (hport t p).rate = rate ∧ (hport t p).width = width ∧ (hport t p).flit = (decide (6 ≤ rate) || (rate == 5 && flit)) ∧
      (hport t p).cxl = (decide (objF s 0x2000 (p + 1) 0 = 1) && cxl && decide (5 ≤ rate)) ∧
      ((objF s 0x2000 (p + 1) 0 = 1 ∧ (hport t p).cxl = false) → evBit t (16 + p) 5 = true) ∧
      (hport t p).degraded = (decide (rate < 5) || decide (width < 16)) ∧ (hport t p).mps = cfg.mps ∧ (hport t p).mrrs = cfg.mrrs ∧
      (func t (fnOf p 0)).enabled = s.power.started ∧ (func t (fnOf p 0)).cfg = cfg ∧ ∀ q, q ≠ p → (hport t q).st = (hport s q).st) ∧
  (∀ (s : State) (p : Nat), Live s → (hport s p).st = .up →
    Completes (.retrainHeld p) s fun t =>
      (hport t p).st = .hold ∧ counter t (0x280020 + 0x1000 * p) = counter s (0x280020 + 0x1000 * p) + 1 ∧ evBit t (16 + p) 0 = true) ∧
  (∀ (s : State) (p rate width : Nat) (flit : Bool), Live s → (hport s p).st = .hold → rate ≠ 0 → rate ≤ obj s 0x2002 (p + 1) 7 →
    widthOk width = true → (∀ q ∈ s.qps, q.2.deferred = []) →
    Completes (.retrainResumed p rate width flit) s fun t =>
      (hport t p).st = .up ∧ (hport t p).rate = rate ∧ (hport t p).width = width ∧ (hport t p).held = [] ∧
      (hport t p).cxl = ((hport s p).cxl && decide (5 ≤ rate)) ∧ evBit t (16 + p) 1 = true) ∧
  (∀ (s : State) (p : Nat), Live s → (hport s p).st = .hold →
    Completes (.linkLost p) s fun t => (hport t p).st = .down) ∧
  (∀ (s : State) (p : Nat), Live s → p < 8 → (hport s p).perst = false →
    Completes (.perst p) s fun t => (hport t p).st = .down ∧ (hport t p).perst = true) ∧
  (∀ (s : State) (p : Nat), Live s → (hport s p).st ≠ .down →
    Completes (.hotReset p) s fun t => (hport t p).st = .down) ∧
  (∀ (s : State) (p : Nat), Live s → p < 8 → (mget s.doms (104 + p) {}).st = 2 →
    Completes (.perstRelease p) s fun t => (hport t p).perst = false ∧ (hport t p).detect = true)

/-- Function-level reset, and virtual functions (R160, R881, R885). -/
def Obligations.FunctionsResetAndVfsEnable : Prop :=
  (∀ (s : State) (fn : Nat), Live s → (func s fn).enabled = true → (hport s (fnPort fn)).st = .up →
    Completes (.flr fn) s fun t =>
      (func t fn).enabled = true ∧ (func t fn).cfg = {} ∧ (func t fn).masked = [] ∧ (func t fn).msgs = [] ∧
      ∀ rm, roomOf s fn = some rm → (room s rm).st = .opened → (room s rm).removing = false →
        (room t rm).st = .quarantined ∧ (room t rm).qcause = 2) ∧
  (∀ (s : State) (p n : Nat) (cfg : HostCfg), Live s → p < 8 → (hport s p).st = .up → (func s (fnOf p 0)).enabled = true → n ≠ 0 →
    (hport s p).numVfs < n → n ≤ objF s 0x2001 (p + 1) 31 → n ≤ 64 →
    (∀ k rm, roomOf s (fnOf p k) = some rm → (room s rm).removing = false) →
    (((List.range n).map (fun i => fnOf p (i + 1))).filter (fun f => (roomOf s f).isNone)).length ≤ freeRooms s →
    Completes (.vfEnable p n cfg) s fun t =>
      (hport t p).vfEnable = true ∧ (hport t p).numVfs = n ∧ cfgValue t (fnOf p 0) .vfEnable = 1 ∧ cfgValue t (fnOf p 0) .numVfs = n ∧
        ∀ k, 1 ≤ k → k ≤ n → (func t (fnOf p k)).enabled = true) ∧
  (∀ (s : State) (p n : Nat), Live s → (hport s p).vfEnable = true → n < (hport s p).numVfs →
    Completes (.vfDisable p n) s fun t => (hport t p).numVfs = n ∧ (hport t p).vfEnable = decide (n ≠ 0) ∧
      cfgValue t (fnOf p 0) .numVfs = n ∧ cfgValue t (fnOf p 0) .vfEnable = b2n (decide (n ≠ 0)))

/-- The CXL.mem window of a host port and the bias of its pages (R132, R135, R136, R138, R140, R141, R143, R144). What the window does with an access of several lines, and which bases it takes, is the model's choice (log entries 31 and 187). -/
def Obligations.WindowAndBiasCommands : Prop :=
  (∀ (s : State) (p base a : Nat) (data : List Byte), Live s → (hport s p).st = .up → (hport s p).cxl = true → (hport s p).hdm = some base →
    (hport s p).winEnable = false → data ≠ [] → base ≤ a → a < base + 2 ^ 36 → a % 64 + data.length ≤ 64 →
    Completes (.hostCxlmemAccess p a false data) s fun t =>
      t.out = .hostData p false (List.replicate data.length 0) :: s.out ∧ t.mem = s.mem) ∧
  (∀ (s : State) (p base a x rm : Nat) (data : List Byte), Live s → (hport s p).st = .up → (hport s p).cxl = true → (hport s p).hdm = some base →
    (hport s p).winEnable = true → data ≠ [] → base ≤ a → a < base + 2 ^ 36 → a % 64 + data.length ≤ 64 →
    x = (hport s p).winBase * 2 ^ 30 + (a - base) → windowRoom s p x = some rm → anyFrozen s x data.length = false →
    firstBad s x data.length = none →
    Completes (.hostCxlmemAccess p a false data) s fun t =>
      t.out.head? = some (.hostData p false (devRead s x data.length)) ∧ (hport t p).shared = sadd (hport s p).shared ((a - base) / 2 ^ 21)) ∧
  (∀ (s : State) (p base a x rm : Nat) (data : List Byte), Live s → (hport s p).st = .up → (hport s p).cxl = true → (hport s p).hdm = some base →
    (hport s p).winEnable = true → data ≠ [] → base ≤ a → a < base + 2 ^ 36 → a % 64 + data.length ≤ 64 →
    x = (hport s p).winBase * 2 ^ 30 + (a - base) → windowRoom s p x = some rm → anyFrozen s x data.length = false →
    firstBadW s x data.length = none →
    Completes (.hostCxlmemAccess p a true data) s fun t =>
      t.mem = memStore s.mem x data ∧ (hport t p).shared = sadd (hport s p).shared ((a - base) / 2 ^ 21)) ∧
  (∀ (s : State) (p a : Nat) (wr : Bool) (d e : List Byte), Live s → d ≠ [] → e ≠ [] → (a + d.length) % 64 = 0 →
    Completes (.hostCxlmemAccess p a wr d) s fun m => Live m →
      Completes (.hostCxlmemAccess p (a + d.length) wr e) m fun t => Completes (.hostCxlmemAccess p a wr (d ++ e)) s fun u => u = t) ∧
  (∀ (s : State) (p a : Nat), Live s → (hport s p).st = .up → (hport s p).cxl = true →
    Completes (.hostSnoop p a) s fun t => t = { s with out := .snoopResp p :: s.out }) ∧
  (∀ (s : State) (h : FdHdr) (page : Nat), Takes s h 0x30 → fnSlot h.fn = 0 → (hport s (fnPort h.fn)).cxl = true → page < 32768 →
    Completes (.biasDevice h page) s fun t =>
      if page ∈ (hport s (fnPort h.fn)).shared
      then t.out = .rdOwn (fnPort h.fn) page :: s.out ∧ (func t h.fn).fd.running = some (h, 0x30, .bias page)
      else (hport t (fnPort h.fn)).shared = (hport s (fnPort h.fn)).shared ∧ (func t h.fn).fd.running = none) ∧
  (∀ (s : State) (fn page : Nat) (h : FdHdr), Live s → h.fn = fn → (func s fn).fd.running = some (h, 0x30, .bias page) →
    Completes (.biasDeviceDone fn) s fun t =>
      (hport t (fnPort fn)).shared = sdel (hport s (fnPort fn)).shared page ∧ (func t fn).fd.running = none) ∧
  (∀ (s : State) (fn p : Nat), Live s → isInn s fn = true →
    Completes (.memwinEnable fn p) s fun t =>
      (hport t p).winEnable = true ∧ (hport t p).winBase = (hport s p).winBase ∧ ((hport s p).winEnable = false → (hport t p).shared = [])) ∧
  (∀ (s : State) (fn p : Nat), Live s → isInn s fn = true → (hport s p).winEnable = true →
    Completes (.memwinDisable fn p) s fun t =>
      (hport t p).winEnable = false ∧ (hport t p).winBusy = ((hport s p).winBusy || !(hport s p).shared.isEmpty) ∧
      ∀ pg ∈ (hport s p).shared, Out.rdOwn p pg ∈ t.out) ∧
  (∀ (s : State) (p : Nat), Live s → (hport s p).winBusy = true →
    Completes (.memwinSweepDone p) s fun t =>
      (hport t p).winBusy = false ∧ (hport t p).shared = (if (hport s p).winEnable then (hport s p).shared else [])) ∧
  (∀ (s : State) (fn p base : Nat), Live s → isInn s fn = true → armed s (16 + p) = true → (hport s p).winEnable = false →
    (hport s p).winBusy = false →
    Completes (.memwinBaseWrite fn p base) s fun t =>
      (hport t p).winBase = base % 2 ^ 18 ∧ t.arms = mdel s.arms (16 + p))

/-- ATS invalidations, completions and page requests (R220, R227, R229, R231, R232, R234). -/
def Obligations.TranslationServicesAnswer : Prop :=
  (∀ (s : State) (fn pasid addr size tag : Nat), Live s → (s.invals.filter (fun x => x.1 == fn)).length < 32 →
    Completes (.invalidateRequest fn pasid addr size tag) s fun t =>
      (∀ e ∈ t.tcache, e ∈ s.tcache) ∧ (fn, tag) ∈ t.invals ∧
      (∀ d b n x r w, b < addr + size → addr < b + n → TEntry.host d fn pasid b n x r w ∉ t.tcache) ∧
      counter t 0x220120 = counter s 0x220120 + 1) ∧
  (∀ (s : State) (fn tag : Nat), Live s → (fn, tag) ∈ s.invals → (hport s (fnPort fn)).st = .up →
    Completes (.invalidateCompletion fn tag) s fun t => t.out = .invalidated fn tag :: s.out ∧ t.invals = s.invals.erase (fn, tag)) ∧
  (∀ (s : State) (fn pasid addr size xaddr : Nat) (r w : Bool) (q : AtsReq), Live s → (∀ x ∈ s.qps, x.2.deferred = []) →
    s.ats.find? (fun x => x.fn == fn && x.pasid == pasid && x.addr == addr / 4096 * 4096 && (x.stage == 0 || x.stage == 2)) = some q →
    (r || w) = true → 2 ^ 21 ≤ size →
    Completes (.translationCompletion fn pasid addr 0 size xaddr r w) s fun t =>
      grantEntry q size xaddr r w ∈ t.tcache ∧ atsFind t fn pasid q.remote addr = none) ∧
  (∀ (s : State) (fn pasid addr size xaddr : Nat) (r w : Bool) (q : AtsReq), Live s → (∀ x ∈ s.qps, x.2.deferred = []) →
    s.ats.find? (fun x => x.fn == fn && x.pasid == pasid && x.addr == addr / 4096 * 4096 && (x.stage == 0 || x.stage == 2)) = some q →
    Completes (.translationCompletion fn pasid addr 1 size xaddr r w) s fun t =>
      (∃ x, atsFind t fn pasid q.remote addr = some x ∧ x.fault = 3) ∧ evBit t 2 1 = true ∧ t.tcache = s.tcache) ∧
  (∀ (s : State) (fn pasid addr : Nat) (q : AtsReq), Live s → (∀ x ∈ s.qps, x.2.deferred = []) → atsFind s fn pasid false addr = some q →
    q.stage = 1 → (∀ x ∈ s.ats, x.fn = fn → x.stage ≠ 3) →
    Completes (.pageRequestResponse fn pasid addr 0) s fun t =>
      Out.atsRequest fn pasid q.addr ∈ t.out ∧ ∃ x, atsFind t fn pasid false addr = some x ∧ x.stage = 2) ∧
  (∀ (s : State) (fn pasid addr : Nat) (q : AtsReq), Live s → (∀ x ∈ s.qps, x.2.deferred = []) → atsFind s fn pasid false addr = some q →
    q.stage = 1 → reached q.due (elapsed s) = true →
    Completes (.priTimeout fn pasid addr) s fun t =>
      (∃ x, atsFind t fn pasid false addr = some x ∧ x.fault = 5) ∧ evBit t 2 3 = true)

/-- Extents: grant, reclaim, the end of reclaiming, query (R188, R190, R192). -/
def Obligations.ExtentsMoveBetweenRooms : Prop :=
  (∀ (s : State) (h : FdHdr) (e n : Nat), InnTakes s h 0x10 → n ≠ 0 → n ≤ 4096 → (room s h.room).st ≠ .free →
    (∀ k, k < n → (extOf s (e + k)).st = .free) →
    Completes (.memGrant h e n) s fun t =>
      (∀ k, k < n → mfind t.mem.extents (e + k) = some { st := .granted, owner := some h.room }) ∧ (func t h.fn).fd.running = none ∧
      ∀ d, (d < e ∨ e + n ≤ d) → mfind t.mem.extents d = mfind s.mem.extents d) ∧
  (∀ (s : State) (h : FdHdr) (e n rm : Nat), InnTakes s h 0x11 → n ≠ 0 → n ≤ 4096 →
    (∀ k, k < n → (extOf s (e + k)).st = .granted ∧ (extOf s (e + k)).owner = some rm ∧ extMapped s rm (e + k) = false) →
    Completes (.memReclaim h e n) s fun t =>
      (∀ k, k < n → mfind t.mem.extents (e + k) = some { st := .reclaiming }) ∧
      ∀ d, (d < e ∨ e + n ≤ d) → mfind t.mem.extents d = mfind s.mem.extents d) ∧
  (∀ (s : State) (e : Nat) (x : Extent), Live s → mfind s.mem.extents e = some x → x.st = .reclaiming →
    (∀ f ∈ s.funcs, ∀ h op rm es, f.2.fd.running ≠ some (h, op, .remove rm es)) →
    Completes (.reclaimDone e) s fun t =>
      mfind t.mem.extents e = none ∧ evBit t 1 4 = true ∧
      (∀ a, e * 2 ^ 30 ≤ a → a < (e + 1) * 2 ^ 30 → cellGet t.mem.cells a = 0) ∧
      (∀ a, a < e * 2 ^ 30 ∨ (e + 1) * 2 ^ 30 ≤ a → cellGet t.mem.cells a = cellGet s.mem.cells a)) ∧
  (∀ (s : State) (h : FdHdr) (first count p a : Nat), InnTakes s h 0x12 → badResultAddr s h = false → count ≠ 0 → count ≤ 4096 → h.resultAddr ≠ 0 →
    resolve s (fdCtx s h 6) h.resultAddr (2 * count) .write = ([{ off := 0, loc := .host p a, len := 2 * count }], none) → (hport s p).st = .up →
    Completes (.memQuery h first count) s fun t =>
      ∀ o ∈ writesOf s p a ((List.range count).flatMap (fun i => extentBytes s (first + i))) true, o ∈ t.out)

/-- Harbour units: reservations and grants (R194, R195, R197, R1141). Which units a grant takes is the model's choice (log entry 37). -/
def Obligations.HarbourUnitsAreReservedAndGranted : Prop :=
  (∀ (s : State) (h : FdHdr) (die units : Nat), InnTakes s h 0x13 → die ≤ 1 → (units = 0 ∨ 16 ≤ units) → units ≤ 1856 → (room s h.room).st ≠ .free →
    (units ≤ (room s h.room).resv die ∨ resvSum s die + transitPool s die + units - (room s h.room).resv die ≤ dieCap s die) →
    Completes (.harbourReserve h die units) s fun t =>
      (room t h.room).resv die = units ∧ (room t h.room).resv (1 - die) = (room s h.room).resv (1 - die) ∧
      ∀ r, r ≠ h.room → (room t r).resv die = (room s r).resv die ∧ (room t r).resv (1 - die) = (room s r).resv (1 - die)) ∧
  (∀ (s : State) (die pool : Nat) (w : HarbourWait) (r : ListRec), Live s → s.coll.members = [] → s.coll.nodes = [] →
    nextGrant s die pool = some w → w.chunk = none → findList s w.fn w.queue w.list = some r →
    Completes (.harbourUnitsGranted die pool) s fun t =>
      ∃ x, findList t w.fn w.queue w.list = some x ∧ x.hunits = (takeUnits die w.units (dropWaiter die pool w s)).1 ∧
        ∀ u ∈ x.hunits, ∀ b, b < 16 → unitBlock die u + b ∉ t.mem.valid)

/-- Copy commands in DPA mode (R201, R202, R204, R205, R206). The chart pool and the window table read as their tables, whatever is written there (log entry 189). -/
def Obligations.CopiesMoveFillAndZero : Prop :=
  (∀ (s : State) (h : CmdHdr) (dst len rm : Nat) (p : Word), Plain h → Begins s h 0x21 6 (copyBad h [dst] len true) rm → len ≠ 0 → s.memWf = true →
    anyFrozen s dst len = false → firstBadW s dst len = none →
    Completes (.copyFill h dst len true p) s fun t =>
      (∀ i, i < len → cellGet t.mem.cells (dst + i) = BitVec.ofNat 8 (p.toNat / 2 ^ (8 * (i % 8)))) ∧
      (∀ a, a < dst ∨ dst + len ≤ a → cellGet t.mem.cells a = cellGet s.mem.cells a)) ∧
  (∀ (s : State) (h : CmdHdr) (dst src len rm : Nat), Plain h → Begins s h 0x20 6 (copyBad h [dst, src] len true) rm → len ≠ 0 → s.memWf = true →
    anyFrozen s dst len = false → anyFrozen s src len = false → firstBadW s dst len = none → firstBad s src len = none →
    (∀ l ∈ s.mem.latentCe, l < src / 64 ∨ (src + len - 1) / 64 < l) →
    Completes (.copyMove h dst src len true) s fun t =>
      (∀ i, i < len → cellGet t.mem.cells (dst + i) = (devRead s src len).getD i 0) ∧
      (∀ a, a < dst ∨ dst + len ≤ a → cellGet t.mem.cells a = cellGet s.mem.cells a)) ∧
  (∀ (s : State) (h : CmdHdr) (dst len rm : Nat), Plain h → Begins s h 0x22 6 (copyBad h [dst] len true) rm → len ≠ 0 → s.memWf = true →
    zeroBad s { off := 0, loc := .dev dst, len := len } = none →
    Completes (.copyZero h dst len true) s fun t =>
      (∀ i, i < len → cellGet t.mem.cells (dst + i) = 0) ∧
      (∀ a, a < dst ∨ dst + len ≤ a → cellGet t.mem.cells a = cellGet s.mem.cells a))

/-- Freezing a memory unit; downstream ports and their expanders (R165, R168, R169, R190, R211, R213, R214). -/
def Obligations.UnitsFreezeAndExpandersComeAndGo : Prop :=
  (∀ (s : State) (fn u : Nat), Live s → isInn s fn = true → u < 80 → armed s 1 = true → (∀ v ∈ s.mem.frozen, frozenForGood s v = false) →
    Completes (.freezeSet fn u) s fun t =>
      (∀ v, v ∈ t.mem.frozen ↔ v = u ∨ v ∈ s.mem.frozen) ∧ t.mem.cells = s.mem.cells ∧ t.arms = mdel s.arms 1) ∧
  (∀ (s : State) (u : Nat), Live s → u ∈ s.mem.frozen →
    Completes (.unitDrained u) s fun t => u ∈ t.mem.drained ∧ t.mem.frozen = s.mem.frozen) ∧
  (∀ (s : State) (u : Nat), Live s → u ∈ s.mem.frozen → u ∉ s.mem.frozenLong → reached (mget s.mem.frozenAt u 0 + 1600000#64) (elapsed s) = true →
    Completes (.freezeLong u) s fun t => u ∈ t.mem.frozenLong ∧ t.mem.frozen = s.mem.frozen ∧ evBit t 1 1 = true) ∧
  (∀ (s : State) (fn u : Nat), Live s → isInn s fn = true → u < 80 → armed s 1 = true → frozenForGood s u = false →
    (∀ q ∈ s.qps, q.2.deferred = []) →
    Completes (.freezeClear fn u) s fun t => u ∉ t.mem.frozen ∧ u ∉ t.mem.drained ∧ t.arms = mdel s.arms 1) ∧
  (∀ (s : State) (d cap : Nat), Live s → d < 4 → (mget s.ds d {}).st = 1 →
    Completes (.dsPortEnumerate d 2 cap) s fun t => (mget t.ds d {}).st = 2 ∧ (mget t.ds d {}).capacity = cap) ∧
  (∀ (s : State) (d : Nat) (poison : Bool), Live s → (mget s.ds d {}).st = 2 → (mget s.ds d {}).offline = false →
    Completes (.dsLinkFail d poison) s fun t =>
      (mget t.ds d {}).st = (if poison then 2 else 3) ∧ (mget t.ds d {}).offline = true ∧ evBit t 1 3 = true) ∧
  (∀ (s : State) (d : Nat), Live s → (mget s.ds d {}).st = 3 →
    Completes (.dsLinkReturn d) s fun t => (mget t.ds d {}).st = 2 ∧ (mget t.ds d {}).offline = (mget s.ds d {}).offline) ∧
  (∀ (s : State) (d : Nat), Live s → d < 4 → (mget s.doms (112 + d) {}).st = 2 →
    Completes (.dsEnableCycle d true) s fun t =>
      if (mget s.ds d {}).st = 0 ∨ (mget s.ds d {}).st = 1 ∨ (mget s.ds d {}).st = 4 then (mget t.ds d {}).st = 1
      else (mget t.ds d {}).st = 2 ∧ (mget t.ds d {}).offline = false)

/-- Charts: setting, clearing, querying, epochs, purging (R241, R243, R245, R256, R273). -/
def Obligations.ChartsMapAndUnmap : Prop :=
  (∀ (s : State) (h : FdHdr) (dva dpa rights rm : Nat) (big : Bool), Takes s h 0x20 → fdRoom s h = some rm → dva < 2 ^ 47 → dpa < 2 ^ 47 → rights < 8 →
    dva % leafSize big = 0 → dpa % leafSize big = 0 → leafOwned s rm dpa big = true → mfind (room s rm).leaves2 (dva / 2 ^ 39) = none →
    mfind (room s rm).leaves1 (dva / 2 ^ 30) = none →
    (if big then mfind (room s rm).tables (dva / 2 ^ 39) = none
     else tablesUsed s < 7936 ∧ (room s rm).tables.length < (room s rm).quotas.chartTable) →
    Completes (.chartSet h dva dpa big 1 rights) s fun t =>
      chartLeaf (room t rm) dva = some ({ dpa := dpa, write := nbit rights 2 == 1, read := nbit rights 1 == 1, atomic := nbit rights 0 == 1 }, dva) ∧
      ∀ r, r ≠ rm → room t r = room s r) ∧
  (∀ (s : State) (h : FdHdr) (dva rm : Nat) (l : Leaf) (big : Bool), Takes s h 0x21 → fdRoom s h = some rm → dva < 2 ^ 47 →
    dva % leafSize big = 0 → (if big then mfind (room s rm).leaves2 (dva / 2 ^ 39) else mfind (room s rm).leaves1 (dva / 2 ^ 30)) = some l →
    Completes (.chartClear h dva big 1) s fun t =>
      (if big then (room t rm).leaves2 = mdel (room s rm).leaves2 (dva / 2 ^ 39) ∧ (room t rm).leaves1 = (room s rm).leaves1
       else (room t rm).leaves1 = mdel (room s rm).leaves1 (dva / 2 ^ 30) ∧ (room t rm).leaves2 = (room s rm).leaves2) ∧
      (func t h.fn).fd.running = some (h, 0x21, .chartClear 0 0) ∧
      ∀ d, TEntry.chart d rm big (dva / leafSize big) ∉ t.tcache) ∧
  (∀ (s : State) (fn op c a : Nat) (h : FdHdr), Live s → h.fn = fn → (func s fn).fd.running = some (h, op, .chartClear c a) →
    Completes (.chartClearDone fn) s fun t => (func t fn).fd.running = none) ∧
  (∀ (s : State) (h : FdHdr) (dva rm : Nat), Takes s h 0x22 → fdRoom s h = some rm → dva < 2 ^ 48 →
    Completes (.chartQuery h dva) s fun t =>
      t = fdAnswer h 0x22 { epoch := (room s rm).epoch, ret := entry2 (room s rm) dva, stopAt := entry1 (room s rm) dva } s) ∧
  (∀ (s : State) (h : FdHdr) (rm : Nat), Takes s h 0x23 → fdRoom s h = some rm →
    Completes (.chartEpoch h) s fun t =>
      (room t rm).epoch = (if (room s rm).epoch = 65535 then 1 else (room s rm).epoch + 1) ∧ ∀ r, r ≠ rm → room t r = room s r) ∧
  (∀ (s : State) (fn : Nat), Live s → isInn s fn = true →
    Completes (.purgeAll fn) s fun t => t.tcache = [] ∧ t.arms = mdel s.arms 2)

/-- Memory windows: open, modify, revoke (R261, R263, R264, R268, R270). -/
def Obligations.WindowsOpenModifyAndRevoke : Prop :=
  (∀ (s : State) (h : FdHdr) (rm i base len rights pasid qpn : Nat) (space zb sl pv qb : Bool), Takes s h 0x28 → fdRoom s h = some rm → rights < 8 →
    pasid < 2 ^ 20 → qpn < 2 ^ 24 → len ≠ 0 → len < 2 ^ 40 → base + len ≤ (if space then 2 ^ 48 else 2 ^ 64) → nextWindow s = some i →
    windowsOf s rm < (room s rm).quotas.window →
    Completes (.windowOpen h space base len rights zb sl pasid pv qb qpn) s fun t =>
      (window t i).st = 1 ∧ (window t i).base = base ∧ (window t i).len = len ∧ (window t i).room = rm ∧ (window t i).space = space ∧
      (window t i).zeroBased = zb ∧ (window t i).sealed = sl ∧ (window t i).rwrite = (nbit rights 2 == 1) ∧
      (window t i).rread = (nbit rights 1 == 1) ∧ (window t i).atomic = (nbit rights 0 == 1) ∧ (window t i).gen = (window s i).gen ∧
      (window t i).qpBound = qb ∧ (window t i).qpn = qpn ∧ (window t i).admitted = 0 ∧ ∀ j, j ≠ i → window t j = window s j) ∧
  (∀ (s : State) (h : FdHdr) (rm key len rights i : Nat) (w : Window), Takes s h 0x29 → fdRoom s h = some rm → rights < 8 →
    keyWindow s rm key = some (i, w) → len ≠ 0 → len < 2 ^ 40 → widens w len rights = false →
    Completes (.windowModify h key len rights) s fun t =>
      window t i = { w with len := len, rwrite := nbit rights 2 == 1, rread := nbit rights 1 == 1, atomic := nbit rights 0 == 1 } ∧
      (func t h.fn).fd.running = some (h, 0x29, .windowModify i) ∧ ∀ j, j ≠ i → window t j = window s j) ∧
  (∀ (s : State) (fn op i : Nat) (h : FdHdr), Live s → h.fn = fn → (func s fn).fd.running = some (h, op, .windowModify i) → oldAdmitted s i = false →
    Completes (.windowModifyDone fn) s fun t => (func t fn).fd.running = none) ∧
  (∀ (s : State) (h : FdHdr) (rm key i : Nat) (w : Window), Takes s h 0x2A → fdRoom s h = some rm → keyWindow s rm key = some (i, w) →
    Completes (.windowRevoke h key) s fun t =>
      (window t i).st = 2 ∧ (window t i).gen = w.gen + 1 ∧ (window t i).base = w.base ∧ (window t i).len = w.len ∧
      (func t h.fn).fd.running = some (h, 0x2A, .windowRevoke i) ∧ ∀ j, j ≠ i → window t j = window s j) ∧
  (∀ (s : State) (i : Nat), Live s → (window s i).st = 2 → (window s i).admitted = 0 →
    Completes (.windowRevokeDone i) s fun t =>
      (window t i).st = 0 ∧ t.winFreed = s.winFreed ++ [i] ∧ ∀ j, j ≠ i → window t j = window s j)

/-- Doorbells, ring fetches and the moderation timer (R289, R293, R297, R299, R316, R326, R334, R358, R370). An index that makes a queue's outcome unpredictable is recorded all the same (log entry 68). -/
def Obligations.QueuesAreFedAndDrained : Prop :=
  (∀ (s : State) (fn q i : Nat), Live s → q ≠ 4095 → (queue s fn q).st ≠ .free → (queue s fn q).kind.software = true →
    Completes (.producerDoorbell fn q i) s fun t =>
      queue t fn q = { queue s fn q with prod := BitVec.ofNat 32 i, wild := (queue t fn q).wild } ∧
      ∀ k, k ≠ qkey fn q → mget t.queues k {} = mget s.queues k {}) ∧
  (∀ (s : State) (fn i : Nat), Live s →
    Completes (.producerDoorbell fn 4095 i) s fun t =>
      (func t fn).fd.req = { (func s fn).fd.req with prod := BitVec.ofNat 32 i, wild := (func t fn).fd.req.wild } ∧ t.queues = s.queues) ∧
  (∀ (s : State) (fn q i : Nat) (arm : Bool), Live s → q ≠ 4094 → (queue s fn q).st ≠ .free → (queue s fn q).kind.software = false →
    (queue s fn q).held = [] → ((BitVec.ofNat 32 i - (queue s fn q).cons).toNat ≤ (queue s fn q).occupied) →
    Completes (.consumerDoorbell fn q i arm) s fun t =>
      (queue t fn q).cons = BitVec.ofNat 32 i ∧ (queue t fn q).prod = (queue s fn q).prod ∧ (queue t fn q).st = (queue s fn q).st ∧
      (queue t fn q).armed = (if arm then decide (BitVec.ofNat 32 i = (queue s fn q).prod) || decide ((queue s fn q).modTime ≠ 0) else (queue s fn q).armed) ∧
      ∀ k, k ≠ qkey fn q → mget t.queues k {} = mget s.queues k {}) ∧
  (∀ (s : State) (fn i : Nat), Live s → ((BitVec.ofNat 32 i - (func s fn).fd.resp.cons).toNat ≤ (func s fn).fd.resp.occupied) →
    Completes (.consumerDoorbell fn 4094 i false) s fun t =>
      (func t fn).fd.resp = { (func s fn).fd.resp with cons := BitVec.ofNat 32 i } ∧ t.queues = s.queues) ∧
  (∀ (s : State) (fn q i : Nat) (arm : Bool), Live s → q ≠ 4094 → (queue s fn q).st = .active → (queue s fn q).kind.software = false →
    (queue s fn q).occupied < (BitVec.ofNat 32 i - (queue s fn q).cons).toNat →
    Completes (.consumerDoorbell fn q i arm) s fun t =>
      (queue t fn q).cons = (queue s fn q).cons ∧
      if (queue s fn q).kind = .ledger then (queue t fn q).st = .error ∧ (queue t fn q).errDetail = 0x12
      else (queue t fn q).badDoorbell = true ∧ (queue t fn q).seq = (queue s fn q).seq + 1) ∧
  (∀ (s : State) (fn q rm : Nat) (b data : List Byte), Live s → q ≠ 4095 → roomOf s fn = some rm → (queue s fn q).st = .active →
    ((queue s fn q).kind = .send ∨ (queue s fn q).kind = .recv) → cqReady s fn (queue s fn q).cq = true → s.mem.latentCe = [] →
    wildRing s fn q (queue s fn q) = false → (queue s fn q).again = 0 →
    fetchUnits s fn (queue s fn q) (queue s fn q).cons 1 = .ok b → fld (wordAt b 0) 7 0 + 1 ≤ (queue s fn q).occupied →
    fetchUnits s fn (queue s fn q) (queue s fn q).cons (fld (wordAt b 0) 7 0 + 1) = .ok data →
    formOf s (queue s fn q) data = none → sendPaused s fn q (queue s fn q) (fld (wordAt b 0) 15 8) data = false → reachedBad s fn q = none →
    Completes (.ringFetch fn q) s fun t =>
      (queue t fn q).cons = (queue s fn q).cons + BitVec.ofNat 32 (fld (wordAt b 0) 7 0 + 1) ∧
      (queue t fn q).fetched = (queue s fn q).fetched ++ [{
        index := (queue s fn q).cons.toNat, units := fld (wordAt b 0) 7 0 + 1, opcode := fld (wordAt b 0) 15 8,
        tag := fld (wordAt b 0) 63 32, fin := true }] ∧
      (queue t fn q).st = .active ∧ t.qps = s.qps) ∧
  (∀ (s : State) (fn q rm : Nat) (b data : List Byte), Live s → q ≠ 4095 → roomOf s fn = some rm → (queue s fn q).st = .active →
    (queue s fn q).kind = .engine → cqReady s fn (queue s fn q).cq = true → s.mem.latentCe = [] →
    wildRing s fn q (queue s fn q) = false → (queue s fn q).again = 0 →
    openList s fn q = none → inFlight s rm (queue s fn q).cls < listQuota (room s rm) (queue s fn q).cls →
    fetchUnits s fn (queue s fn q) (queue s fn q).cons 1 = .ok b → fld (wordAt b 0) 7 0 + 1 ≤ (queue s fn q).occupied →
    fetchUnits s fn (queue s fn q) (queue s fn q).cons (fld (wordAt b 0) 7 0 + 1) = .ok data →
    reachedBad s fn q = none → (queue s fn q).passing = false →
    Completes (.ringFetch fn q) s fun t =>
      (queue t fn q).cons = (queue s fn q).cons + BitVec.ofNat 32 (fld (wordAt b 0) 7 0 + 1) ∧
      ∃ r : ListRec, t.lists = s.lists ++ [r] ∧ r.fn = fn ∧ r.queue = q ∧ r.list = (queue s fn q).cons.toNat ∧ r.room = rm ∧
        r.cls = (queue s fn q).cls ∧ r.st = .ready ∧ r.inFlight = false ∧ r.whole = (nbit (wordAt data 1) 0 == 1) ∧
        r.order = (nbit (wordAt data 1) 3 == 1) ∧ r.signals = [fld (wordAt data 1) 47 32]) ∧
  (∀ (s : State) (fn d : Nat) (b data : List Byte), Live s → fdFree s fn = true → s.mem.latentCe = [] →
    wildRing s fn 4095 (func s fn).fd.req = false → (hport s (fnPort fn)).st = .up →
    fetchUnits s fn (func s fn).fd.req (func s fn).fd.req.cons 1 = .ok b → fld (wordAt b 0) 7 0 + 1 ≤ (func s fn).fd.req.occupied →
    fetchUnits s fn (func s fn).fd.req (func s fn).fd.req.cons (fld (wordAt b 0) 7 0 + 1) = .ok data →
    fdFormBad (fdBarred s fn (fld (wordAt b 0) 15 8) data) (fld (wordAt b 0) 15 8) data = some d →
    Completes (.ringFetch fn 4095) s fun t =>
      (func t fn).fd.req.st = .error ∧ (func t fn).fd.req.errIndex = (func s fn).fd.req.cons.toNat ∧ (func t fn).fd.req.cons = (func s fn).fd.req.cons) ∧
  (∀ (s : State) (fn q rm op d : Nat) (r : ListRec) (h : CmdHdr), Live s → q ≠ 4095 → roomOf s fn = some rm → reachedBad s fn q = some (r, h, op, d) →
    stopClass s fn q = false → h.fn = fn → h.queue = q → h.list = r.list → r.signals ≠ [] →
    Completes (.ringFetch fn q) s fun t =>
      findList t fn q r.list = none ∧ ∀ k ∈ r.signals, k ≠ 0xFFFF → k < (room s r.room).quotas.lantern → (lantern t r.room k).fault = true) ∧
  (∀ (s : State) (fn q : Nat), Live s → (queue s fn q).st ≠ .free → (queue s fn q).kind.software = false →
    modDue (elapsed s) (queue s fn q) = true → (func s fn).masked.contains (queue s fn q).vector = false → (hport s (fnPort fn)).st = .up →
    Completes (.msixModerationTimer fn q) s fun t =>
      t.out = msixMsg s fn (queue s fn q).vector :: s.out ∧ queue t fn q = { queue s fn q with armed := false, sinceArm := 0, firstAt := none })

/-- Queue states (R311, R312, R313, R317, R329). -/
def Obligations.QueuesChangeState : Prop :=
  (∀ (s : State) (fn q : Nat), Live s → qQuiet s fn = false → ((queue s fn q).st = .disabled ∨ (queue s fn q).st = .draining) → (queue s fn q).held = [] →
    Completes (.queueEnable fn q) s fun t =>
      queue t fn q = { queue s fn q with st := .active, enable := true } ∧ ∀ k, k ≠ qkey fn q → mget t.queues k {} = mget s.queues k {}) ∧
  (∀ (s : State) (fn q : Nat), Live s → (queue s fn q).st = .active → (queue s fn q).kind.software = true → outstanding s fn q = false →
    Completes (.queueDisable fn q) s fun t =>
      (queue t fn q).st = .disabled ∧ (queue t fn q).enable = false ∧ (queue t fn q).prod = (queue s fn q).prod ∧
      ((queue s fn q).kind ≠ .recv → (queue t fn q).cons = (queue s fn q).cons) ∧ qIdle t fn q = true) ∧
  (∀ (s : State) (fn q : Nat), Live s → (queue s fn q).st = .active → (queue s fn q).kind = .send → outstanding s fn q = true →
    Completes (.queueDisable fn q) s fun t =>
      (queue t fn q).st = .draining ∧ (queue t fn q).enable = false ∧ (queue t fn q).fetched = (queue s fn q).fetched) ∧
  (∀ (s : State) (fn q : Nat), Live s → (queue s fn q).st = .draining → (queue s fn q).kind.software = true → outstanding s fn q = false →
    (queue s fn q).eq ≠ q →
    Completes (.queueIdle fn q) s fun t =>
      queue t fn q = { queue s fn q with st := .disabled, disablePending := false } ∧ ((queue s fn q).eq = 0xFFF → t.out = s.out)) ∧
  (∀ (s : State) (fn q : Nat) (b : List Byte) (skip : Bool), Live s → (queue s fn q).st = .error → (queue s fn q).kind.software = true → qQuiet s fn = false →
    (∀ r ∈ s.lists, r.fn = fn → r.queue = q → r.st ≠ .held) →
    fetchUnits s fn (queue s fn q) (BitVec.ofNat 32 (queue s fn q).errIndex) 1 = .ok b →
    Completes (.queueResume fn q skip) s fun t =>
      (queue t fn q).st = .active ∧ (queue t fn q).enable = true ∧
      (queue t fn q).cons = BitVec.ofNat 32 ((queue s fn q).errIndex + if skip then fld (wordAt b 0) 7 0 + 1 else 0)) ∧
  (∀ (s : State) (fn q : Nat) (skip : Bool), Live s → (queue s fn q).st = .error → (queue s fn q).kind.software = false → qQuiet s fn = false →
    (queue s fn q).held = [] →
    Completes (.queueResume fn q skip) s fun t => queue t fn q = { queue s fn q with st := .active, enable := true, disablePending := false })

/-- Queue commands of the front desk, and the front desk itself (R299, R305, R306, R307, R311, R317). -/
def Obligations.QueuesAreMadeAndDestroyed : Prop :=
  (∀ (s : State) (h : FdHdr) (kind cls log2 vector cq eq modCount pasid modTime base rm n : Nat) (pv : Bool), Takes s h 0x01 → roomOf s h.fn = some rm →
    createBad s h kind cls pv vector cq eq modCount pasid modTime base = none → createResult s h.fn rm kind cls log2 vector cq eq base = 0 →
    n < 3840 → (queue s h.fn n).st = .free → (∀ m, m < n → (queue s h.fn m).st ≠ .free) →
    Completes (.queueCreate h kind cls log2 pv vector cq eq modCount pasid modTime base) s fun t =>
      (queue t h.fn n).st = .disabled ∧ (queue t h.fn n).enable = false ∧ (queue t h.fn n).kind = kindOf kind ∧ (queue t h.fn n).cls = cls ∧
      (queue t h.fn n).log2 = log2 ∧ (queue t h.fn n).base = base ∧ (queue t h.fn n).vector = vector ∧ (queue t h.fn n).pasid = pasid ∧
      (queue t h.fn n).modCount = modCount ∧ (queue t h.fn n).modTime = modTime ∧ (queue t h.fn n).prod = 0 ∧
      (queue t h.fn n).cons = 0 ∧ (∀ k, k ≠ qkey h.fn n → mget t.queues k {} = mget s.queues k {}) ∧ (func t h.fn).fd.running = none) ∧
  (∀ (s : State) (h : FdHdr) (q : Nat), Takes s h 0x02 → q < 4096 → (queue s h.fn q).st = .disabled → qIdle s h.fn q = true → queueNamed s h.fn q = false →
    Completes (.queueDestroy h q) s fun t =>
      t.queues = mdel s.queues (qkey h.fn q) ∧ t.lists = s.lists ∧ t.qps = s.qps ∧ (func t h.fn).fd.running = none) ∧
  (∀ (s : State) (h : FdHdr) (q mc mt : Nat), Takes s h 0x03 → q < 4096 → 1 ≤ mc → mc ≤ 256 → mt < 65536 → (queue s h.fn q).st ≠ .free →
    (queue s h.fn q).kind.software = false →
    Completes (.queueModerate h q mc mt) s fun t =>
      (if modDue (elapsed s) { queue s h.fn q with modCount := mc, modTime := mt } = true
       then queue t h.fn q = { queue s h.fn q with modCount := mc, modTime := mt, armed := false, sinceArm := 0, firstAt := none }
       else queue t h.fn q = { queue s h.fn q with modCount := mc, modTime := mt }) ∧
      ∀ k, k ≠ qkey h.fn q → mget t.queues k {} = mget s.queues k {}) ∧
  (∀ (s : State) (fn : Nat), Live s → (func s fn).enabled = true → (qQuiet s fn = false ∨ isInn s fn = true) → (func s fn).fd.req.st = .disabled →
    (func s fn).fd.resp.st = .disabled → (func s fn).fd.resp.held = [] →
    Completes (.frontDeskEnable fn true) s fun t =>
      (func t fn).fd.enable = true ∧ (func t fn).fd.req.st = .active ∧ (func t fn).fd.resp.st = .active ∧ ∀ f, f ≠ fn → func t f = func s f) ∧
  (∀ (s : State) (fn : Nat), Live s → (func s fn).enabled = true → (func s fn).fd.req.st = .active → (func s fn).fd.resp.st = .active →
    (func s fn).fd.resp.held = [] →
    Completes (.frontDeskEnable fn false) s fun t =>
      (func t fn).fd.enable = false ∧ (func t fn).fd.req.st = (if (func s fn).fd.running.isSome then .draining else .disabled) ∧
      (func t fn).fd.running = (func s fn).fd.running ∧ ∀ f, f ≠ fn → func t f = func s f) ∧
  (∀ (s : State) (fn : Nat) (b : List Byte) (skip : Bool), Live s → (func s fn).enabled = true → (qQuiet s fn = false ∨ isInn s fn = true) →
    (func s fn).fd.req.st = .error → (func s fn).fd.resp.st = .active → (func s fn).fd.resp.held = [] →
    fetchUnits s fn (func s fn).fd.req (BitVec.ofNat 32 (func s fn).fd.req.errIndex) 1 = .ok b →
    Completes (.frontDeskResume fn skip) s fun t =>
      (func t fn).fd.req.st = .active ∧ (func t fn).fd.enable = true ∧
      (func t fn).fd.req.cons = BitVec.ofNat 32 ((func s fn).fd.req.errIndex + if skip then fld (wordAt b 0) 7 0 + 1 else 0) ∧
      ∀ f, f ≠ fn → func t f = func s f)

/-- NOP, LANTERN_SIGNAL, WAIT_TIDE, SEAWALL, LIST_EXEC (R105, R150, R153, R337, R347, R350, R353). -/
def Obligations.ListsRunTheirCommonCommands : Prop :=
  (∀ (s : State) (h : CmdHdr) (rm : Nat), Plain h → Begins s h 0 0 (fun _ _ => none) rm →
    Completes (.nop h) s fun t => t = { s with lists := t.lists } ∧ ∃ r, findList t h.fn h.queue h.list = some r ∧ r.st = .onTile ∧ r.cur = none) ∧
  (∀ (s : State) (h : CmdHdr) (rm l mode v : Nat), Plain h →
    Begins s h 1 0 (lanternSignalBad l mode) rm → l ≠ 0xFFFF → (listOf s h rm).room = rm →
    Completes (.lanternSignal h l mode v) s fun t =>
      lantern t rm l = (match mode with
        | 0 => { lantern s rm l with count := (lantern s rm l).count + BitVec.ofNat 32 v }
        | 1 => { lantern s rm l with count := BitVec.ofNat 32 v }
        | 2 => { lantern s rm l with fault := true }
        | _ => { lantern s rm l with fault := false }) ∧
      (∀ r m, (r ≠ rm ∨ m ≠ l) → lantern t r m = lantern s r m)) ∧
  (∀ (s : State) (h : CmdHdr) (rm : Nat) (target : Word), Plain h → Begins s h 2 0 (fun _ _ => none) rm → reached target s.tide.count = false →
    timedUsed s < 16384 →
    Completes (.waitTide h target) s fun t =>
      t = { s with lists := t.lists, tide := { s.tide with waits := t.tide.waits, nextWait := s.tide.nextWait + 1 } } ∧
      t.tide.waits = s.tide.waits ++ [{ id := s.tide.nextWait, target := target, armed := true, fn := h.fn, queue := h.queue, list := h.list }] ∧
      ∃ r, findList t h.fn h.queue h.list = some r ∧ r.st = .timed ∧ r.tile = none) ∧
  (∀ (s : State) (h : CmdHdr) (rm : Nat), Plain h → Begins s h 3 0 (fun _ _ => none) rm → wallPorts s ≠ [] →
    Completes (.seawall h) s fun t =>
      (∃ w, t.seawalls = s.seawalls ++ [w] ∧ w.ports = wallPorts s ∧ w.unread = (wallPorts s).filter (fun p => (hport s p).st != .up) ∧ w.hdr = some h ∧ w.partialSeen = decide ((wallPorts s).length < 8)) ∧
      (∀ p, p ∈ wallPorts s → (hport s p).st = .up → ∃ r, Out.zeroRead p r false ∈ t.out) ∧
      ∃ r, findList t h.fn h.queue h.list = some r ∧ r.st = .held) ∧
  (∀ (s : State) (h : CmdHdr) (rm units addr : Nat) (b : Body), h.fin = true → h.wait = 0xFFFF → h.epoch = 0 → h.index = h.list →
    Begins s h 4 0 (listExecBad h units addr) rm →
    bodyGo s h.fn units 0 addr 0 false [] = .ok b → s.mem.latentCe = [] →
    Completes (.listExec h units addr) s fun t =>
      t = { s with lists := t.lists, cnt := t.cnt, mapLines := t.mapLines, out := t.out } ∧
      ∃ r, findList t h.fn h.queue h.list = some r ∧ r.exec = true ∧ r.signals = b.cmds.map (fun d => fld (wordAt d 1) 47 32) ∧ r.count = b.cmds.length ∧ r.bodySignal = h.signal ∧ r.bodyWall = h.seawall)

/-- Dispatch, parking, waits, lanterns and Seawalls as they end (R105, R153, R357, R361, R363, R365, R373, R377, R378). -/
def Obligations.ListsWaitAndAreDispatched : Prop :=
  (∀ (s : State) (cls rm t0 : Nat) (r : ListRec), Live s → turnRoom s cls = some rm → turnList s cls rm = some r → pickTile s cls (pickDie s r) = some t0 →
    findList s r.fn r.queue r.list = some r →
    Completes (.listDispatch cls rm) s fun t =>
      ∃ x, findList t r.fn r.queue r.list = some x ∧ x.tile = some t0 ∧ x.inFlight = true ∧ x.st = (if tileLoad s t0 = 0 then .onTile else .behind) ∧
        x.signals = r.signals ∧ mget t.rrRoom cls 256 = rm ∧ mget t.rrQueue (cls * 256 + rm) 2000000 = qkey r.fn r.queue) ∧
  (∀ (s : State) (fn q l : Nat) (r : ListRec), Live s → findList s fn q l = some r → r.st = .parked → r.waitLantern ≠ 0xFFFF →
    waitMet (lantern s r.room r.waitLantern) r.waitTarget r.waitIgnore = true →
    Completes (.parkedListWake fn q l) s fun t =>
      (∃ x, findList t fn q l = some x ∧ x.st = .woken ∧ x.waitMet = true) ∧
      counter t (0x250110 + 0x40 * r.cls) = counter s (0x250110 + 0x40 * r.cls) + 1 ∧ t.rooms = s.rooms) ∧
  (∀ (s : State) (fn q l op : Nat) (r : ListRec) (h : CmdHdr), Live s → findList s fn q l = some r → r.st = .parked → r.waitMax ≠ 0 →
    waitMet (lantern s r.room r.waitLantern) r.waitTarget r.waitIgnore = false →
    reached (r.waitSince + BitVec.ofNat 64 (r.waitMax * 16000)) (elapsed s) = true → r.cur = some (h, op) → h.fn = fn → h.queue = q → h.list = l →
    r.signals ≠ [] →
    Completes (.waitTimeout fn q l) s fun t =>
      findList t fn q l = none ∧
      (∀ k ∈ r.signals, k ≠ 0xFFFF → k < (room s r.room).quotas.lantern → (lantern t r.room k).fault = true) ∧
      counter t (0x250100 + 0x40 * r.cls) = counter s (0x250100 + 0x40 * r.cls) + 1) ∧
  (∀ (s : State) (fn l v rm : Nat), Live s → roomOf s fn = some rm → l < (room s rm).quotas.lantern →
    Completes (.lanternHostAdd fn l v) s fun t =>
      lantern t rm l = { lantern s rm l with count := (lantern s rm l).count + BitVec.ofNat 32 v } ∧
      ∀ r m, (r ≠ rm ∨ m ≠ l) → lantern t r m = lantern s r m) ∧
  (∀ (s : State) (fn l v rm : Nat) (part : Part) (f : Bool), Live s → roomOf s fn = some rm → l < (room s rm).quotas.lantern →
    Completes (.lanternHostSet fn l part v f) s fun t =>
      lantern t rm l = (match wholePart part with
        | some .full => { count := BitVec.ofNat 32 v, fault := f }
        | some .low => { lantern s rm l with count := BitVec.ofNat 32 v }
        | some .high => { lantern s rm l with fault := f }
        | _ => lantern s rm l) ∧ ∀ r m, (r ≠ rm ∨ m ≠ l) → lantern t r m = lantern s r m) ∧
  (∀ (s : State) (w : TimedWait) (r : ListRec) (h : CmdHdr), Live s → s.coll.members = [] → s.coll.nodes = [] → s.tide.waits = [w] → w.armed = true → w.start = false → reached w.target s.tide.count = true →
    findList s w.fn w.queue w.list = some r → r.st = .timed → r.cur = some (h, 2) → Plain h → h.fn = w.fn → h.queue = w.queue → h.list = w.list →
    Completes (.timedWaitFire w.id) s fun t =>
      t.tide.waits = [] ∧ ∃ x, findList t w.fn w.queue w.list = some x ∧ x.st = .woken ∧ x.cur = none) ∧
  (∀ (s : State) (w : SeawallRec) (r : ListRec) (h : CmdHdr) (op : Nat), Live s → s.seawalls = [w] → w.kind = 0 → w.hdr = some h → w.opcode = op →
    (∀ p ∈ w.ports, (hport s p).st ≠ .hold) → h.signal = 0xFFFF → h.notify = false → h.fin = false →
    findList s h.fn h.queue h.list = some r → r.st = .held → r.cur = some (h, op) →
    Completes (.seawallComplete w.id) s fun t =>
      t.seawalls = [] ∧ ∃ x, findList t h.fn h.queue h.list = some x ∧ x.st = .onTile ∧ x.cur = none ∧
        x.flags = (w.flags ||| (if w.partialSeen then 16 else 0)) ||| r.flags) ∧
  (∀ (s : State) (fn : Nat) (v : Word), Live s → isInn s fn = true → armed s 5 = true →
    Completes (.tileEnableWrite fn v) s fun t =>
      rd t 0x250000 0xFFFFFFFFFFFFFFFF = v ∧ t.arms = mdel s.arms 5 ∧ ∀ tl r, tl < 64 → v.getLsbD tl = false → r ∈ t.lists → r.tile = some tl → r.st ≠ .behind) ∧
  (∀ (s : State) (tl off : Nat), Live s → tl < 64 → tl ∉ s.tilesHalted →
    Completes (.tileTrap tl off) s fun t => tl ∈ t.tilesHalted ∧ tileAvail t tl = false ∧ evBit t 5 0 = true)

/-- Queue pairs: creation, connection, and the settings of a QP in INIT (R389, R391, R392, R393, R428, R448, R480, R492, R932). -/
def Obligations.QueuePairsAreMadeAndConnected : Prop :=
  (∀ (s : State) (h : FdHdr) (sq rq maxOps l tc spray pc rm : Nat) (sl pin : Bool), Takes s h 0x40 → roomOf s h.fn = some rm →
    qpCreateBad s h sq rq maxOps l tc spray pc = none → qpCreateResult s h rm sq rq pin = 0 →
    Completes (.qpCreate h sq rq maxOps l tc spray pc sl pin) s fun t =>
      (qp t (pickQpn s)).st = .init ∧ (qp t (pickQpn s)).fn = h.fn ∧ (qp t (pickQpn s)).room = rm ∧ (qp t (pickQpn s)).sq = sq ∧
      (qp t (pickQpn s)).rq = rq ∧ (qp t (pickQpn s)).lantern = l ∧ (qp t (pickQpn s)).tc = tc ∧ (qp t (pickQpn s)).spray = spray ∧
      (qp t (pickQpn s)).pathCount = pc ∧ (qp t (pickQpn s)).sealed = sl ∧ (qp t (pickQpn s)).pinned = pin ∧
      (qp t (pickQpn s)).maxOps = (if maxOps = 0 then obj s 0xC100 6 1024 else maxOps) ∧ (qp t (pickQpn s)).level ≠ 2 ∧
      t.free = s.free + 1 ∧ (func t h.fn).fd.running = none) ∧
  (∀ (s : State) (h : FdHdr) (n pq pn tmo ep rl rn w : Nat) (sp rp : BitVec 32), OwnsQp s h 0x41 n → (qp s n).st = .init → ((qp s n).roce.isSome = true → pn = 0 ∧ ep = 0) →
    ((qp s n).sealed = true → (qp s n).keySlot ≠ none) → pq < 2 ^ 24 → rl < 8 → rn < 8 → 1 ≤ w → w ≤ 512 → (tmo = 0 ∨ 4 ≤ tmo) →
    Completes (.qpConnect h n pq pn tmo ep rl rn sp rp w) s fun t =>
      (qp t n).st = .ready ∧ (qp t n).peerQpn = pq ∧ (qp t n).peerNode = pn ∧ (qp t n).epoch = ep ∧ (qp t n).nextPsn = (qp s n).psn sp ∧ (qp t n).cumPsn = (qp s n).psn rp ∧
      (qp t n).window = w ∧ (qp t n).retryLimit = rl ∧ (qp t n).rnrLimit = rn ∧ (qp t n).timeout = (if tmo = 0 then obj s 0xC100 1 32 else tmo) ∧
      (qp t n).nextMsn = 0 ∧ (qp t n).doneMsn = 0 ∧ ∀ m, m ≠ n → qp t m = qp s m) ∧
  (∀ (s : State) (h : FdHdr) (n tmo rl rn w spray pc : Nat), OwnsQp s h 0x42 n → ((qp s n).st = .init ∨ (qp s n).st = .drained) →
    ((qp s n).roce.isSome = true → spray = 0 ∧ pc = 1) → rl < 8 → rn < 8 → 1 ≤ w → w ≤ 512 → (tmo = 0 ∨ 4 ≤ tmo) → spray < 3 → 1 ≤ pc → pc ≤ 16 →
    Completes (.qpModify h n tmo rl rn w spray pc) s fun t =>
      qp t n = { qp s n with timeout := if tmo = 0 then obj s 0xC100 1 32 else tmo, retryLimit := rl, rnrLimit := rn, window := w, spray := spray, pathCount := pc } ∧ ∀ m, m ≠ n → qp t m = qp s m) ∧
  (∀ (s : State) (h : FdHdr) (n base slots : Nat), OwnsQp s h 0x49 n → ((qp s n).st = .init ∨ (qp s n).st = .drained) → slots ≤ 16 → base % 64 = 0 →
    operand (room s (qp s n).room) base ≠ .bad →
    Completes (.qpProxy h n slots base) s fun t =>
      qp t n = { qp s n with proxyBase := base, proxySlots := slots, proxy := [] } ∧ ∀ m, m ≠ n → qp t m = qp s m) ∧
  (∀ (s : State) (h : FdHdr) (n port dscp hl pmtu pkey sport lip mac hi lo : Nat) (v6 : Bool), OwnsQp s h 0x4A n → (qp s n).st = .init → (qp s n).sealed = false →
    (qp s n).spray = 0 → (qp s n).pathCount = 1 → port < 16 → (fport s port).direct = false → dscp < 256 → hl < 256 → 3 ≤ pmtu → pmtu ≤ 5 →
    pkey < 65536 → sport < 65536 → lip < 8 → mac < 2 ^ 48 →
    Completes (.qpRoce h n port v6 dscp hl pmtu pkey sport lip mac hi lo) s fun t =>
      qp t n = { qp s n with roce := some {
          port := port, ipv6 := v6, dscp := dscp, hopLimit := hl, pmtu := pmtu, pkey := pkey, sport := sport, localIp := lip, mac := mac,
          ipHi := hi, ipLo := lo } } ∧ ∀ m, m ≠ n → qp t m = qp s m) ∧
  (∀ (s : State) (h : FdHdr) (n slot : Nat), OwnsQp s h 0x80 n → (qp s n).st = .init → (qp s n).sealed = true → slot < 4 →
    ((mget (room s (qp s n).room).keys slot {}).bank (mget (room s (qp s n).room).keys slot {}).active).loaded = true →
    Completes (.qpSeal h n slot) s fun t => qp t n = { qp s n with keySlot := some slot } ∧ ∀ m, m ≠ n → qp t m = qp s m) ∧
  (∀ (s : State) (h : FdHdr) (rm base k : Nat), Takes s h 0x48 → roomOf s h.fn = some rm → k % 8 = 0 → (k = 0 → base = 0) → k ≤ 16777216 → base % 4096 = 0 →
    spillUsed s rm = 0 →
    Completes (.qpSpill h base k) s fun t =>
      room t rm = { room s rm with spillBase := if k = 0 then none else some base, spillCount := k } ∧ ∀ r, r ≠ rm → room t r = room s r) ∧
  (∀ (s : State) (h : FdHdr) (n p a : Nat), OwnsQp s h 0x47 n → badResultAddr s h = false → h.resultAddr ≠ 0 →
    resolve s (fdCtx s h 6) h.resultAddr 64 .write = ([{ off := 0, loc := .host p a, len := 64 }], none) → (hport s p).st = .up →
    Completes (.qpQuery h n) s fun t => (∀ o ∈ writesOf s p a (qp s n).query true, o ∈ t.out) ∧ t.qps = s.qps)

/-- Queue pairs: draining, resuming, resetting, ending (R392, R447). -/
def Obligations.QueuePairsChangeState : Prop :=
  (∀ (s : State) (h : FdHdr) (n : Nat), OwnsQp s h 0x43 n → (qp s n).st = .ready →
    Completes (.qpDrain h n) s fun t => qp t n = { qp s n with st := .draining } ∧ ∀ m, m ≠ n → qp t m = qp s m) ∧
  (∀ (s : State) (n : Nat), Live s → (qp s n).st = .draining → (qp s n).ops = [] →
    Completes (.qpDrained n) s fun t => qp t n = { qp s n with st := .drained } ∧ ∀ m, m ≠ n → qp t m = qp s m) ∧
  (∀ (s : State) (h : FdHdr) (n : Nat), OwnsQp s h 0x44 n → (qp s n).st = .drained →
    Completes (.qpResume h n) s fun t => qp t n = { qp s n with st := .ready } ∧ ∀ m, m ≠ n → qp t m = qp s m) ∧
  (∀ (s : State) (h : FdHdr) (n : Nat), OwnsQp s h 0x45 n → ((qp s n).st = .init ∨ (qp s n).st = .drained ∨ (qp s n).st = .error) →
    Completes (.qpReset h n) s fun t =>
      (qp t n).st = .init ∧ (qp t n).ops = [] ∧ (qp t n).unacked = [] ∧ (qp t n).bitmap = [] ∧ (qp t n).msgs = [] ∧ (qp t n).deferred = [] ∧
      (qp t n).peerQpn = (qp s n).peerQpn ∧ (qp t n).peerNode = (qp s n).peerNode ∧ ∀ m, m ≠ n → qp t m = qp s m) ∧
  (∀ (s : State) (h : FdHdr) (n : Nat), OwnsQp s h 0x46 n → ((qp s n).st = .init ∨ (qp s n).st = .drained ∨ (qp s n).st = .error) → (qp s n).ops = [] →
    Completes (.qpDestroy h n) s fun t =>
      t.qps = mdel s.qps n ∧ n ∉ mget t.hot (qp s n).die [] ∧ n ∉ mget t.warm (qp s n).room [] ∧
      ∀ k ∈ mget t.porch (qp s n).die [], k.dstQpn ≠ n)

/-- Work requests, receive entries, and a QP's turn to send (R405, R406, R407, R439, R452, R458, R459, R483, R744). -/
def Obligations.WorkIsPostedAndSent : Prop :=
  (∀ (s : State) (w : WorkReq) (rm op : Nat) (c : Instr), (c, op) ∈ [(Instr.write w, 1), (.writeImm w, 2), (.writeSignal w, 3), (.send w, 4), (.sendImm w, 5),
      (.read w, 6), (.fetchAdd w, 7), (.cmpSwap w, 8)] → Live s → roomOf s w.fn = some rm → (queue s w.fn w.queue).kind = .send →
    (queue s w.fn w.queue).st = .active → wrBehind s w = false → cacheFrozen s (qp s w.qpn).die = false → wrBad s w op false = none →
    wrCourse s w op = .go →
    Completes c s fun t =>
      (qp t w.qpn).ops = (qp s w.qpn).ops ++
        [{ id := (qp s w.qpn).opSeq, wr := w, opcode := op, total := opTotal (qp s w.qpn) w op, pins := pinsOf s (qp s w.qpn).room [w.localAddr] }] ∧
      (qp t w.qpn).nextPsn = (qp s w.qpn).nextPsn ∧ (qp t w.qpn).unacked = (qp s w.qpn).unacked ∧ t.mem = s.mem ∧ t.hmem = s.hmem ∧
      t.queues = s.queues) ∧
  (∀ (s : State) (w : WorkReq) (rm : Nat) (x : ProxySlot), Live s → roomOf s w.fn = some rm → (queue s w.fn w.queue).kind = .send →
    (queue s w.fn w.queue).st = .active → wrBehind s w = false → cacheFrozen s (qp s w.qpn).die = false → wrBad s w 9 false = none →
    wrCourse s w 9 = .go → (qp s w.qpn).ops = [] → (qp s w.qpn).unacked = [] →
    w.seawall = false → (qp s w.qpn).proxy.find? (fun y => y.slot == w.lantern) = some x →
    Completes (.proxyReply w) s fun t =>
      (qp t w.qpn).proxy = (qp s w.qpn).proxy.filter (fun y => y.slot != w.lantern) ∧ (qp t w.qpn).ops = [] ∧
      (qp t w.qpn).atomics = ((x.psn, if x.size = 4 then BitVec.ofNat 64 (w.compareAdd.toNat % 2 ^ 32) else w.compareAdd) :: (qp s w.qpn).atomics).take 16) ∧
  (∀ (s : State) (h : CmdHdr) (w : WorkReq) (rm op : Nat), h.wait = 0xFFFF → h.epoch = 0 → 1 ≤ op → op ≤ 8 →
    Begins s h 0x22 0 (xferPostBad h op w) rm →
    wrCourse s { w with fn := h.fn, queue := h.queue, index := h.index, tag := h.tag } op = .go →
    Completes (.xferPost h op w) s fun t =>
      (∃ o, (qp t w.qpn).ops = (qp s w.qpn).ops ++ [o] ∧ o.post = some h ∧ o.opcode = op ∧ o.sent = 0 ∧
        o.wr = { w with fn := h.fn, queue := h.queue, index := h.index, tag := h.tag }) ∧
      ∃ r, findList t h.fn h.queue h.list = some r ∧ (r.st = .parked ∨ r.st = .stuck)) ∧
  (∀ (s : State) (fn q i tag ep rm : Nat) (segs : List (Nat × Nat)), Live s → roomOf s fn = some rm → (queue s fn q).kind = .recv →
    (queue s fn q).st = .active → segs.length ≤ 15 → ep < 65536 → (∀ g ∈ segs, g.2 ≤ 2 ^ 31 ∧ operand (room s rm) g.1 ≠ .bad) →
    Completes (.recv fn q i tag ep segs) s fun t =>
      (queue t fn q).entries = (queue s fn q).entries ++ [{ index := i, tag := tag, epoch := ep, segs := segs, pins := pinsOf s rm (segs.map (fun g => g.1)) }] ∧
      ∀ k, k ≠ qkey fn q → mget t.queues k {} = mget s.queues k {}) ∧
  (∀ (s : State) (n nd ep : Nat) (o : Op) (data : List Byte), Live s → cacheFrozen s (qp s n).die = false → n < 2 ^ 24 → 0 ≤ bucketTok s (rshape (qp s n).room) 0 →
    s.heldPkts.find? (fun k => !k.stream && k.srcQpn == n) = none → (qp s n).sends = true → (qp s n).holdFrom = none →
    reached (qp s n).pace.sendAt (elapsed s) = true → (qp s n).level = 0 → (qp s n).unacked.find? (fun u => u.lost) = none →
    nextOp (qp s n).ops false = some o → o.opcode ≠ 6 → ((qp s n).diff (qp s n).nextPsn (qp s n).oldest).toNat < (qp s n).window →
    opData s n (qp s n) { o with msn := if o.sent = 0 then (qp s n).nextMsn else o.msn } o.sent = .ok data → (qp s n).roce = none →
    s.router.st = .run → (∀ p c, throttled s p c = false) →
    Completes (.undertowPace false n nd ep) s fun t =>
      (qp t n).nextPsn = (qp s n).after (qp s n).nextPsn 1 ∧ (qp t n).lastPath = newPath s (qp s n) ∧
      (qp t n).nextMsn = (if o.sent = 0 then (qp s n).nextMsn + 1 else (qp s n).nextMsn) ∧
      ∃ u, (qp t n).unacked = (qp s n).unacked ++ [u] ∧ u.psn = (qp s n).after (qp s n).nextPsn 0 ∧ u.path = newPath s (qp s n) ∧ u.count = 0)

/-- Packets of requests at the responder (R265, R266, R409, R463, R465, R469, R471, R475, R478, R494, R727, R732). -/
def Obligations.RequestsArriveInTurn : Prop :=
  (∀ (s : State) (p : Pkt) (i x : Nat), InTurn s p → p.opcode = 1 → p.rseawall = false → p.msgLen ≤ 2 ^ 31 → s.memWf = true →
    winCheck s p.dstQpn p.key p.addr p.payload.length .write = some i → lineBad s (winEntryAt i) = false →
    MapsTo s (winCtx s p.dstQpn i 8) ((window s i).at p.addr) p.payload.length .write x →
    Completes (.writePacketReceive p) s fun t =>
      Lands s t x p.payload ∧ (qp t p.dstQpn).cumPsn = p.psn + 1 ∧ counter t 0x230020 = counter s 0x230020 + 1) ∧
  (∀ (s : State) (p : Pkt) (e : RecvEntry), InTurn s p → p.opcode = 4 → p.first = true → p.last = true → p.rseawall = false →
    p.msn = (qp s p.dstQpn).doneMsn → headEntry s p.dstQpn = some e → e.epoch = 0 → p.msgLen ≤ e.size →
    placeStop s (recvCtx s p.dstQpn e.pins) p.addr (segPieces e.segs p.addr p.payload.length) = none →
    (qp s p.dstQpn).lantern < (room s (qp s p.dstQpn).room).quotas.lantern → (qp s p.dstQpn).lantern ≠ 0xFFFF →
    Completes (.sendPacketReceive p) s fun t =>
      (queue t (qp s p.dstQpn).fn (qp s p.dstQpn).rq).entries = (queue s (qp s p.dstQpn).fn (qp s p.dstQpn).rq).entries.tail ∧
      (qp t p.dstQpn).cumPsn = p.psn + 1 ∧ (qp t p.dstQpn).doneMsn = (qp s p.dstQpn).doneMsn + 1 ∧ (qp t p.dstQpn).msgs = [] ∧
      (lantern t (qp s p.dstQpn).room (qp s p.dstQpn).lantern).count = (lantern s (qp s p.dstQpn).room (qp s p.dstQpn).lantern).count + 1) ∧
  (∀ (s : State) (p : Pkt) (i x : Nat), InTurn s p → p.opcode = 6 → p.first = true → p.last = true → p.msgLen ≤ 65536 →
    winCheck s p.dstQpn p.key p.addr p.msgLen .read = some i → lineBad s (winEntryAt i) = false →
    MapsTo s (winCtx s p.dstQpn i 9) ((window s i).at p.addr) p.msgLen .read x →
    Completes (.readReqReceive p) s fun t =>
      counter t 0x240150 = counter s 0x240150 + 1 ∧ (qp t p.dstQpn).cumPsn = p.psn + BitVec.ofNat 32 ((p.msgLen + 4095) / 4096) ∧
      t.mem.cells = s.mem.cells) ∧
  (∀ (s : State) (p : Pkt) (i x : Nat), InTurn s p → p.opcode = 7 → p.msgLen = 8 → s.memWf = true →
    winCheck s p.dstQpn p.key p.addr 8 .atomic = some i → lineBad s (winEntryAt i) = false → (window s i).at p.addr % 8 = 0 →
    MapsTo s (winCtx s p.dstQpn i 10) ((window s i).at p.addr) 8 .atomic x →
    Completes (.atomicReqReceive p) s fun t =>
      Lands s t x (leBytes 8 (BitVec.ofNat 64 (ofLe (devRead s x 8)) + p.compareAdd).toNat) ∧ (qp t p.dstQpn).cumPsn = p.psn + 1 ∧
      (qp t p.dstQpn).atomics.head? = some (p.psn, BitVec.ofNat 64 (ofLe (devRead s x 8)))) ∧
  (∀ (s : State) (port pkey : Nat) (h : EthHdr) (p : Pkt) (i x : Nat), Live s → qpFrozen s p.dstQpn = false → roceOk s port pkey h p = true → overBreakwater s p h.bytes = false → (qp s p.dstQpn).st = .ready →
    (qp s p.dstQpn).level = 0 → rxBusy s (qp s p.dstQpn) 1 = false → p.opcode = 1 → p.first = true → p.last = true → p.ce = false →
    p.rseawall = false → p.psn = (qp s p.dstQpn).cumPsn → p.psn &&& 0xFFFFFF = p.psn → (qp s p.dstQpn).bitmap = [] → (qp s p.dstQpn).msgs = [] →
    (qp s p.dstQpn).deferred = [] → p.msgLen ≤ 2 ^ 31 → s.memWf = true → winCheck s p.dstQpn p.key p.addr p.payload.length .write = some i → lineBad s (winEntryAt i) = false →
    MapsTo s (winCtx s p.dstQpn i 8) ((window s i).at p.addr) p.payload.length .write x →
    Completes (.rocePacketReceive port pkey h p) s fun t => Lands s t x p.payload ∧ (qp t p.dstQpn).cumPsn = (p.psn + 1) &&& 0xFFFFFF) ∧
  (∀ (s : State) (p : Pkt), Live s → qpFrozen s p.dstQpn = false → trailerOk p = true → p.opcode = 1 → p.stream = false → mfind s.qps p.dstQpn ≠ none → (qp s p.dstQpn).st ≠ .free →
    bucketOn s (rpolice (qp s p.dstQpn).room) = true → bucketTok s (rpolice (qp s p.dstQpn).room) 0 < (pktBytes p + 32 : Nat) →
    Completes (.writePacketReceive p) s fun t =>
      counter t (0x420020 + 0x40 * (qp s p.dstQpn).room) = counter s (0x420020 + 0x40 * (qp s p.dstQpn).room) + 1 ∧ evBit t 6 1 = true ∧
      t.mem = s.mem ∧ t.qps = s.qps ∧ t.windows = s.windows ∧ t.porch = s.porch ∧ t.fports = s.fports)

/-- Responses, acknowledgements and timers at the requester (R402, R414, R416, R418, R420, R421, R472, R474). -/
def Obligations.AnswersRetireWhatWasSent : Prop :=
  (∀ (s : State) (p : Pkt) (u : Unacked) (o : Op) (x : Nat), Live s → qpFrozen s p.dstQpn = false → rxOk s p = true → overBreakwater s p (pktBytes p) = false → p.opcode = 0x10 → (qp s p.dstQpn).st = .ready →
    (qp s p.dstQpn).level = 0 → (qp s p.dstQpn).sealed = false → p.sealed = false → (qp s p.dstQpn).deferred = [] → s.memWf = true →
    (qp s p.dstQpn).unacked.find? (fun u => u.psn == p.psn && u.byResponse && (u.pkt.opcode == 6) == (p.opcode == 0x10)) = some u →
    (qp s p.dstQpn).ops = [o] → o.holds (qp s p.dstQpn) p.psn = true → o.sent ≠ o.total →
    MapsTo s (opCtx s p.dstQpn (qp s p.dstQpn) o) (o.wr.localAddr + (((qp s p.dstQpn).diff p.reqPsn o.first).toNat * 4096 + p.offset))
      p.payload.length .write x →
    Completes (.readRespReceive p) s fun t =>
      Lands s t x p.payload ∧ (qp t p.dstQpn).unacked = (qp s p.dstQpn).unacked.filter (fun u => u.psn != p.psn)) ∧
  (∀ (s : State) (p : Pkt) (u : Unacked) (o : Op) (x : Nat), Live s → qpFrozen s p.dstQpn = false → rxOk s p = true → overBreakwater s p (pktBytes p) = false → p.opcode = 0x11 → (qp s p.dstQpn).st = .ready →
    (qp s p.dstQpn).level = 0 → (qp s p.dstQpn).sealed = false → p.sealed = false → (qp s p.dstQpn).deferred = [] → s.memWf = true →
    (qp s p.dstQpn).unacked = [u] → u.psn = p.psn → u.pkt.opcode = 7 → (qp s p.dstQpn).ops = [o] → o.holds (qp s p.dstQpn) p.psn = true →
    o.sent = o.total → o.status = 0 → o.post = none → o.wr.notify = false → o.wr.seawall = false → o.wr.size32 = false →
    MapsTo s (opCtx s p.dstQpn (qp s p.dstQpn) o) o.wr.localAddr 8 .write x →
    Completes (.atomicRespReceive p) s fun t =>
      Lands s t x (leBytes 8 p.original.toNat) ∧ (qp t p.dstQpn).unacked = [] ∧ (qp t p.dstQpn).ops = []) ∧
  (∀ (s : State) (p : Pkt), Live s → s.coll.members = [] → s.coll.nodes = [] → qpFrozen s p.dstQpn = false → rxOk s p = true → p.opcode = 0xC0 → p.stream = false →
    (qp s p.dstQpn).st = .ready → (qp s p.dstQpn).level = 0 → (qp s p.dstQpn).sealed = false → p.sealed = false → (qp s p.dstQpn).deferred = [] →
    Completes (.ackReceive p) s fun t =>
      ∀ u ∈ (qp t p.dstQpn).unacked, u.byResponse = true ∨ ackMarks (qp s p.dstQpn) p u.psn = false) ∧
  (∀ (s : State) (p : Pkt), Live s → s.coll.members = [] → s.coll.nodes = [] → qpFrozen s p.dstQpn = false → rxOk s p = true → p.opcode = 0xC1 → p.stream = false → p.nakCode = 1 →
    (qp s p.dstQpn).st = .ready → (qp s p.dstQpn).level = 0 → (qp s p.dstQpn).sealed = false → p.sealed = false → (qp s p.dstQpn).deferred = [] →
    (qp s p.dstQpn).holdFrom = none →
    Completes (.nakReceive p) s fun t =>
      (qp t p.dstQpn).holdFrom = some p.nakPsn ∧ (qp t p.dstQpn).holdUntil = elapsed s + BitVec.ofNat 64 (p.hint * 16000) ∧ (qp t p.dstQpn).unacked = (qp s p.dstQpn).unacked ∧
      counter t 0x240130 = counter s 0x240130 + 1) ∧
  (∀ (s : State) (n nd ep : Nat) (x : BitVec 32), Live s → (qp s n).holdFrom = some x → reached (qp s n).holdUntil (elapsed s) = true →
    Completes (.busyHoldEnd false n nd ep) s fun t =>
      (qp t n).holdFrom = none ∧ (qp t n).unacked = (qp s n).unacked.map (fun u =>
        if 0 ≤ (qp s n).diff u.psn x then { u with lost := true, free := true } else { u with sentAt := u.sentAt + (elapsed s - (qp s n).holdSince) })) ∧
  (∀ (s : State) (n nd ep : Nat) (u : Unacked), Live s → s.coll.members = [] → s.coll.nodes = [] →
    (qp s n).unacked.find? (fun v => v.psn == u.psn) = some u → (qp s n).sends = true → (qp s n).holdFrom = none → u.lost = false → goneTimeout s (qp s n) u = true →
    u.count < (qp s n).retryLimit →
    Completes (.retxTimeout false n nd ep u.psn) s fun t =>
      (qp t n).unacked = (qp s n).unacked.map (fun v => if v.psn = u.psn then { v with lost := true, free := false } else v) ∧
      (qp t n).pace.rate = cutTo s ((qp s n).pace.rate / 2) ∧ counter t 0x240110 = counter s 0x240110 + 1) ∧
  (∀ (s : State) (n nd ep : Nat), Live s → (qp s n).receives = true → (qp s n).sinceAck ≠ 0 → reached (qp s n).ackDue (elapsed s) = true →
    Completes (.ackDelayTimer false n nd ep) s fun t =>
      (qp t n).sinceAck = 0 ∧ (qp t n).detourSeen = false ∧ (qp t n).ecnSeen = false ∧ (qp t n).cumPsn = (qp s n).cumPsn ∧ t.mem = s.mem)

/-- Context fetches, proxy timeouts, and the timers of Undertow (R417, R430, R433, R485, R747, R759, R760). -/
def Obligations.ContextsAndPacesFollowTheirTimers : Prop :=
  (∀ (s : State) (n : Nat), Live s → n < 2 ^ 24 → (qp s n).fetching = true → (qp s n).st ≠ .free → (qp s n).level = 1 → qpFrozen s n = false → ctxFrozen s n = false → n ∉ mget s.hot (qp s n).die [] →
    (mget s.hot (qp s n).die []).length < 8192 → (∀ k ∈ mget s.porch (qp s n).die [], k.dstQpn ≠ n) →
    Completes (.contextFetchComplete n true) s fun t =>
      qp t n = { qp s n with level := 0, fetching := false } ∧ mget t.hot (qp s n).die [] = mget s.hot (qp s n).die [] ++ [n] ∧
      ∀ m, m ≠ n → qp t m = qp s m) ∧
  (∀ (s : State) (n k : Nat) (x : ProxySlot), Live s → (qp s n).proxy.find? (fun y => y.slot == k) = some x → reached x.due (elapsed s) = true →
    Completes (.proxyTimeout n k) s fun t =>
      (qp t n).proxy = (qp s n).proxy.filter (fun y => y.slot != k) ∧ counter t 0x240168 = counter s 0x240168 + 1) ∧
  (∀ (s : State) (n nd ep : Nat), Live s → (qp s n).noInfer = true → reached (qp s n).noInferEnd (elapsed s) = true →
    Completes (.detourSuspendEnd false n nd ep) s fun t => qp t n = { qp s n with noInfer := false } ∧ ∀ m, m ≠ n → qp t m = qp s m) ∧
  (∀ (s : State) (n nd ep path : Nat), Live s → (qp s n).st ≠ .free → reached (mget (qp s n).pace.paths path {}).ends (elapsed s) = true →
    Completes (.utBaseWindowEnd false n nd ep path) s fun t =>
      mget (qp t n).pace.paths path {} = { mget (qp s n).pace.paths path {} with prev := (mget (qp s n).pace.paths path {}).cur, cur := none, ends := baseEnd s } ∧
      (qp t n).pace.rate = (qp s n).pace.rate ∧ ∀ m, m ≠ n → qp t m = qp s m) ∧
  (∀ (s : State) (n : Nat), Live s → (qp s n).roce ≠ none → (qp s n).sends = true → reached (qp s n).cnpGot (elapsed s) = true →
    Completes (.cnpReceive n) s fun t =>
      (qp t n).pace.rate = Nat.max ((qp s n).pace.rate - (qp s n).pace.rate * obj s 0x2A01 5 64 / 256) (obj s 0x2A00 5 100) ∧
      (qp t n).pace.paths = (qp s n).pace.paths ∧ (qp t n).rpDue = recoveryEnd s ∧ ∀ m, m ≠ n → qp t m = qp s m) ∧
  (∀ (s : State) (n : Nat), Live s → (qp s n).roce ≠ none → (qp s n).sends = true → reached (qp s n).rpDue (elapsed s) = true →
    Completes (.rpRecovery n) s fun t =>
      (qp t n).pace.rate = Nat.min ((qp s n).pace.rate + obj s 0x2A01 7 5000) (lineRate s (qp s n)) ∧ (qp t n).rpDue = recoveryEnd s ∧ ∀ m, m ≠ n → qp t m = qp s m)

/-- Collective commands start, read their sources, wait for their time (R109, R110, R538, R545, R691, R695, R704, R709). -/
def Obligations.CollectivesStart : Prop :=
  (∀ (s : State) (h : CmdHdr) (b : BulkArgs) (rm op cls : Nat) (p : Party) (c : Instr),
    (c, op, cls) ∈ [(Instr.rdcAllReduce h b, 0x21, 1), (.rdcReduceScatter h b, 0x20, 1), (.rdcReduce h b, 0x22, 1), (.xferAllGather h b, 0x20, 0),
      (.xferBroadcast h b, 0x21, 0)] → h.wait = 0xFFFF → h.epoch = 0 → Begins s h op cls (bulkBad op cls h b) rm →
    mfind s.coll.parties b.party = some p → unrouted s p = false →
    Completes c s fun t =>
      mfind t.coll.parties b.party = some { p with nextSeq := p.nextSeq + 1 } ∧ t.coll.nextMember = s.coll.nextMember + 1) ∧
  (∀ (s : State) (h : CmdHdr) (a : ScalarArgs) (rm op : Nat) (p : Party) (c : Instr),
    (c, op) ∈ [(Instr.collBarrier h a, 0x20), (.collScalarReduce h a, 0x21)] → h.wait = 0xFFFF → h.epoch = 0 →
    Begins s h op 5 (scalarBad op h a) rm → mfind s.coll.parties a.party = some p → unrouted s p = false →
    Completes c s fun t =>
      mfind t.coll.parties a.party = some { p with nextSeq := p.nextSeq + 1 } ∧ t.coll.nextMember = s.coll.nextMember + 1) ∧
  (∀ (s : State) (id : Nat) (m : Member) (n : CNode) (it : Itin) (tk : Nat × Nat), Live s → s.coll.members = [m] → m.id = id →
    s.coll.nodes = [n] → n.itin = m.bulk.itin → n.epoch = m.epoch → n.exps = false → itin? s m.bulk.itin = some it → m.phase = 3 →
    chunkPlace it.chunkBlocks it.trees 0 m.scanned = some tk → chunkReady s m.room m.bulk.inputLantern m.bulk.inputBase m.scanned = true →
    Completes (.sourceChunkReady id) s fun t => ∀ x ∈ t.coll.members, x.id = id ∧ x.scanned = m.scanned + 1) ∧
  (∀ (s : State) (id : Nat) (m : Member) (w : TimedWait), Live s → s.coll.members = [m] → m.id = id → s.coll.nodes = [] → m.cls = 5 → m.phase = 6 →
    m.sc.count = 0 → m.result = [] → s.coll.rounds = [] → s.tide.waits = [w] → w.start = true → w.coll = id → w.armed = true → reached w.target s.tide.count = true →
    Completes (.collStartTime id) s fun t => t.coll.members = [] ∧ t.tide.waits = [])

/-- Packets of bulk collectives (R564, R569, R570, R572, R573, R595, R597). -/
def Obligations.ChunkPacketsJoinTheirMessages : Prop :=
  (∀ (s : State) (p : Pkt) (c : Instr) (op : Nat) (down : Bool) (it : Itin) (n : CNode),
    (c, op, down) ∈ [(Instr.expUpReceive p, 0x40, false), (.expDownReceive p, 0x41, true), (.sumUpReceive p, 0x42, false),
      (.resultDownReceive p, 0x43, true)] →
    StreamTurn s p it (bulkNum p.coll.itin p.coll.tree down) → Sound s → itin? s p.coll.itin = some it → p.opcode = op → p.coll.tree < it.trees.length →
    (if down then p.srcNode = (it.tree p.coll.tree).parent ∧ p.srcNode ≠ 0xFFFF else p.srcNode ∈ (it.tree p.coll.tree).children) →
    s.coll.members = [] → s.coll.nodes = [n] → n.itin = p.coll.itin → n.epoch = p.epoch → n.gather = false → n.known = false → p.last = false →
    (inMsg n p).crc = none →
    Completes c s fun t =>
      (qp t (streamKey p.srcNode p.epoch (bulkNum p.coll.itin p.coll.tree down))).cumPsn = p.psn + 1 ∧
      ∃ n' m, node? t p.coll.itin p.epoch = some n' ∧ m ∈ n'.msgs ∧ m.src = p.srcNode ∧ m.op = op ∧ mfind m.parts p.coll.offset = some p.payload) ∧
  (∀ (s : State) (p : Pkt) (it : Itin) (n : CNode), StreamTurn s p it (bulkNum p.coll.itin p.coll.tree (decide (2 ^ 22 ≤ p.dstQpn % 2 ^ 23))) →
    itin? s p.coll.itin = some it → p.opcode = 0x44 → p.coll.tree < it.trees.length →
    (if 2 ^ 22 ≤ p.dstQpn % 2 ^ 23 then p.srcNode = (it.tree p.coll.tree).parent else p.srcNode ∈ (it.tree p.coll.tree).children) →
    s.coll.members = [] → s.coll.nodes = [n] → n.itin = p.coll.itin → n.epoch = p.epoch →
    Completes (.abortReceive p) s fun t => t.coll.nodes = [] ∧ counter t 0x240108 = counter s 0x240108 + 1)

/-- Packets of rounds (R696, R700, R701, R702, R713, R714). -/
def Obligations.RoundPacketsMergeAndDecide : Prop :=
  (∀ (s : State) (p : Pkt) (it : Itin) (tr : Tree), RoundTurn s p false it tr → p.opcode = 0x48 → p.coll.kind = 3 → tr.parent ≠ 0xFFFF →
    round? s (p.coll.party, p.epoch, p.coll.seq) 3 = none → s.coll.rounds.length < 16384 →
    Completes (.roundUpReceive p) s fun t =>
      (qp t (streamKey p.srcNode p.epoch (roundNum (p.dstQpn % 2 ^ 16) false))).cumPsn = p.psn + 1 ∧
      ∃ r, round? t (p.coll.party, p.epoch, p.coll.seq) 3 = some r ∧ r.members = p.coll.members ∧ r.got = [p.srcNode] ∧
        r.sigMin = p.coll.sigMin ∧ r.sigMax = p.coll.sigMax) ∧
  (∀ (s : State) (p : Pkt) (it : Itin) (tr : Tree) (r : Round), RoundTurn s p true it tr → p.opcode = 0x49 → p.coll.kind = 3 →
    round? s (p.coll.party, p.epoch, p.coll.seq) 3 = some r →
    Completes (.roundDownReceive p) s fun t =>
      (p.coll.party, p.epoch, p.coll.seq) ∈ t.coll.decided ∧ round? t (p.coll.party, p.epoch, p.coll.seq) 3 = none ∧
      (qp t (streamKey p.srcNode p.epoch (roundNum (p.dstQpn % 2 ^ 16) true))).cumPsn = p.psn + 1) ∧
  (∀ (s : State) (p : Pkt) (it : Itin) (tr : Tree), RoundTurn s p false it tr → p.opcode = 0x4A → tr.parent ≠ 0xFFFF →
    (p.coll.party, p.epoch, p.coll.seq) ∉ s.coll.alerted →
    Completes (.abortUpReceive p) s fun t =>
      (p.coll.party, p.epoch, p.coll.seq) ∈ t.coll.alerted ∧
      (qp t (streamKey p.srcNode p.epoch (roundNum (p.dstQpn % 2 ^ 16) false))).cumPsn = p.psn + 1) ∧
  (∀ (s : State) (p : Pkt) (it : Itin) (tr : Tree), RoundTurn s p true it tr → p.opcode = 0x4B → (p.coll.party, p.epoch, p.coll.seq) ∉ s.coll.called →
    Completes (.abortCallReceive p) s fun t =>
      (p.coll.party, p.epoch, p.coll.seq) ∈ t.coll.called ∧
      (qp t (streamKey p.srcNode p.epoch (roundNum (p.dstQpn % 2 ^ 16) true))).cumPsn = p.psn + 1) ∧
  (∀ (s : State) (p : Pkt) (it : Itin) (tr : Tree), RoundTurn s p true it tr → p.opcode = 0x4C →
    Completes (.abortDownReceive p) s fun t =>
      (p.coll.party, p.epoch, p.coll.seq) ∈ t.coll.decided ∧
      (qp t (streamKey p.srcNode p.epoch (roundNum (p.dstQpn % 2 ^ 16) true))).cumPsn = p.psn + 1)

/-- Timers of collectives (R592, R594, R597, R713, R715, R717). -/
def Obligations.CollectivesTimeOut : Prop :=
  (∀ (s : State) (id : Nat) (m : Member) (it : Itin) (tr : Tree), Live s → s.coll.members = [m] → m.id = id → s.coll.nodes = [] → m.cls = 1 → m.phase = 1 → reached m.due (elapsed s) = true →
    ctrlTree s m.party.ctrl = some (it, tr) → tr.parent ≠ 0xFFFF → m.bulk.chunkLantern < (room s m.room).quotas.lantern →
    m.bulk.chunkLantern ≠ 0xFFFF →
    Completes (.collTimeout id) s fun t =>
      (∃ x, t.coll.members = [x] ∧ x.id = id ∧ x.phase = 5 ∧ x.cause = lowCause m.cause 6 ∧ x.alerted = true) ∧
      (lantern t m.room m.bulk.chunkLantern).fault = true) ∧
  (∀ (s : State) (id : Nat) (m : Member), Live s → s.coll.members = [m] → m.id = id → s.coll.nodes = [] → m.cls = 5 → m.phase = 4 → m.alerted = true →
    m.joined = false → reached m.due (elapsed s) = true →
    Completes (.roundLost id) s fun t => t.coll.members = [] ∧ counter t 0x250270 = counter s 0x250270 + 1) ∧
  (∀ (s : State) (n : CNode), Live s → s.coll.members = [] → s.coll.nodes = [n] → n.fin = false → reached n.due (elapsed s) = true → (itin? s n.itin).isSome = true →
    Completes (.nodeTimeout n.itin n.epoch) s fun t => t.coll.nodes = [] ∧ counter t 0x250130 = counter s 0x250130 + 1) ∧
  (∀ (s : State) (tag gen seq : Nat) (r : Round) (it : Itin) (tr : Tree), Live s → s.coll.members = [] → s.coll.nodes = [] →
    round? s (tag, gen, seq) 5 = some r → ctrlTree s r.ctrl = some (it, tr) → tr.parent = 0xFFFF → (tag, gen, seq) ∈ s.coll.called → reached r.due (elapsed s) = true →
    Completes (.abortJoinTimeout tag gen seq) s fun t =>
      (tag, gen, seq) ∈ t.coll.decided ∧ round? t (tag, gen, seq) 5 = none ∧ counter t 0x250258 = counter s 0x250258 + 1)

/-- Itineraries and party contexts (R552, R553, R554, R555, R683, R685, R686, R687). -/
def Obligations.ItinerariesAndPartiesComeAndGo : Prop :=
  (∀ (s : State) (h : FdHdr) (a : Nat) (d : List Byte) (it : Itin) (rm : Nat), InnTakes s h 0x68 → roomOf s h.fn = some rm → operand (room s rm) a ≠ .bad →
    itinStop s (fdCtx s h 5) a = none → peekData s (fdCtx s h 5) a (recLen (peekData s (fdCtx s h 5) a 32 .read)) .read = d → parseItin s d = some it → itin? s (recId d) = none →
    s.coll.itins.length < 4096 → it.sealed = false →
    Completes (.itineraryInstall h a) s fun t =>
      itin? t (recId d) = some it ∧ (∀ i, i ≠ recId d → itin? t i = itin? s i) ∧ (func t h.fn).fd.running = none) ∧
  (∀ (s : State) (h : FdHdr) (i : Nat), InnTakes s h 0x69 → (itin? s i).isSome = true → itinBusy s i = false →
    Completes (.itineraryRemove h i) s fun t => t.coll.itins = mdel s.coll.itins i ∧ ∀ n ∈ t.coll.nodes, n.itin ≠ i) ∧
  (∀ (s : State) (h : FdHdr) (i p a : Nat) (it : Itin), InnTakes s h 0x6A → badResultAddr s h = false → h.resultAddr ≠ 0 → itin? s i = some it →
    resolve s (fdCtx s h 6) h.resultAddr 32 .write = ([{ off := 0, loc := .host p a, len := 32 }], none) → (hport s p).st = .up →
    Completes (.itineraryQuery h i) s fun t => (∀ o ∈ writesOf s p a (itinWords s i it) true, o ∈ t.out) ∧ t.coll = s.coll) ∧
  (∀ (s : State) (d : List Byte) (it : Itin), Live s → d.length = 2080 → (d.drop (recLen d)).all (fun b => b == 0) = true → parseItin s d = some it →
    itin? s (recId d) = none → s.coll.itins.length < 4096 → it.sealed = false →
    Completes (.itinLoad d) s fun t => itin? t (recId d) = some it ∧ t.coll.itinResult = 0) ∧
  (∀ (s : State) (i : Nat), Live s → (itin? s i).isSome = true → itinBusy s i = false →
    Completes (.itinUnload i) s fun t => t.coll.itins = mdel s.coll.itins i ∧ t.coll.itinResult = 0) ∧
  (∀ (s : State) (h : FdHdr) (tag rank size ctrl gen rm : Nat), Takes s h 0x60 → roomOf s h.fn = some rm → partyBad s tag rank size gen = none →
    partyRoom s rm = true →
    Completes (.partyCreate h tag rank size ctrl gen) s fun t =>
      mfind t.coll.parties (pickParty s) = some { room := rm, tag := tag, rank := rank, size := size, ctrl := ctrl, gen := gen } ∧
      t.free = s.free + 1 ∧ (func t h.fn).fd.running = none) ∧
  (∀ (s : State) (fn : Nat) (h : FdHdr) (op tag rank size ctrl gen : Nat) (due : Word), Live s → h.fn = fn →
    (func s fn).fd.running = some (h, op, .party tag rank size ctrl gen due) → reached due (elapsed s) = true →
    Completes (.partyWaitExpired fn) s fun t => (func t fn).fd.running = none ∧ t.coll = s.coll) ∧
  (∀ (s : State) (h : FdHdr) (n : Nat) (p : Party), Takes s h 0x61 → party? s h.fn n = some p → partyFlight s n = 0 →
    (∀ f ∈ s.funcs, ∀ g op tag rank size ctrl gen due, f.2.fd.running ≠ some (g, op, .party tag rank size ctrl gen due)) →
    Completes (.partyDestroy h n) s fun t => t.coll = { s.coll with parties := mdel s.coll.parties n }) ∧
  (∀ (s : State) (h : FdHdr) (n p a : Nat) (x : Party), Takes s h 0x62 → badResultAddr s h = false → h.resultAddr ≠ 0 → party? s h.fn n = some x →
    resolve s (fdCtx s h 6) h.resultAddr 32 .write = ([{ off := 0, loc := .host p a, len := 32 }], none) → (hport s p).st = .up →
    Completes (.partyQuery h n) s fun t => (∀ o ∈ writesOf s p a (partyWords s n x) true, o ∈ t.out) ∧ t.coll = s.coll)

/-- The router: commits, draining, addresses, fences, ports and tables (R785, R786, R801, R803, R804, R807, R1054, R1055). -/
def Obligations.RouterCommitsAndDrains : Prop :=
  (∀ (s : State) (fn : Nat), Live s → isInn s fn = true → s.router.st = .unset → s.router.valid = true →
    Completes (.routerCommit fn) s fun t =>
      t.router.active = s.router.shadow ∧ t.router.st = (if s.router.drain then .draining else .run) ∧ t.router.cfgErr = false ∧
      evBit t 7 3 = true) ∧
  (∀ (s : State) (fn : Nat), Live s → isInn s fn = true → s.router.st = .drained →
    Completes (.routerCommit fn) s fun t => t.router.active = s.router.shadow ∧ t.router.st = .drained ∧ evBit t 7 3 = true) ∧
  (∀ (s : State) (fn : Nat), Live s → isInn s fn = true → (s.router.st = .run ∨ s.router.st = .draining ∨ (s.router.st = .unset ∧ s.router.valid = false)) →
    Completes (.routerCommit fn) s fun t =>
      t.router.active = s.router.active ∧ t.router.st = s.router.st ∧ t.router.cfgErr = true ∧ evBit t 7 4 = true) ∧
  (∀ (s : State) (fn : Nat), Live s → isInn s fn = true → s.router.st = .run →
    Completes (.routerDrain fn) s fun t => t.router.drain = true ∧ t.router.st = .draining) ∧
  (∀ (s : State) (fn : Nat), Live s → isInn s fn = true → s.router.st ≠ .unset →
    Completes (.routerUndrain fn) s fun t => t.router.drain = false ∧ t.router.st = .run) ∧
  (∀ s : State, Live s → s.router.st = .draining → routerEmpty s = true →
    Completes .routerDrained s fun t => t.router.st = .drained ∧ t.router.active = s.router.active) ∧
  (∀ s : State, Live s → s.router.st = .draining → s.router.longDone = false → reached (s.router.drainSince + 1600000) (elapsed s) = true →
    Completes .drainLong s fun t => t.router.longDone = true ∧ t.router.st = .draining ∧ evBit t 7 5 = true) ∧
  (∀ (s : State) (fn node : Nat), Live s → isInn s fn = true → armed s 7 = true → (s.router.st = .unset ∨ s.router.st = .drained) →
    Completes (.nodeAddrWrite fn node) s fun t =>
      t.router.node = node % 65536 ∧ t.router.valid = true ∧ t.router.st = s.router.st ∧
      ∀ p, (fport s p).direct = true → (fport s p).st = .up → (fport t p).helloDue = true) ∧
  (∀ (s : State) (fn node : Nat), Live s → isInn s fn = true → armed s 7 = false → s.router.node ≠ node % 65536 →
    Completes (.nodeAddrWrite fn node) s fun t => t.router = s.router ∧ counter t 0x380128 = counter s 0x380128 + 1) ∧
  (∀ (s : State) (fn mask : Nat), Live s → isInn s fn = true →
    Completes (.fenceWrite fn mask) s fun t => ∀ p < 32, (fport t p).fence = (nbit mask p == 1) ∧ (fport t p).lost = (fport s p).lost) ∧
  (∀ (s : State) (p : Nat), Live s → (fport s p).lost = true → (fport s p).isUp = true →
    Completes (.portUp p) s fun t => (fport t p).lost = false ∧ (fport t p).fence = (fport s p).fence ∧ evBit t 7 2 = true) ∧
  (∀ (s : State) (first : Nat) (entries : List Nat), Live s → first ≤ 65408 → entries.length = 128 →
    Completes (.routeWrite first entries) s fun t =>
      t.router.result = 0 ∧ t.router.active = s.router.active ∧
      (∀ i < 128, entries.getD i 0 % 2 ^ 60 ≠ 0 → mget t.router.shadow (first + i) 0 = entries.getD i 0 % 2 ^ 60) ∧
      ∀ n, (n < first ∨ first + 128 ≤ n) → mget t.router.shadow n 0 = mget s.router.shadow n 0) ∧
  (∀ (s : State) (first : Nat) (entries : List Nat), Live s → 65408 < first →
    Completes (.routeWrite first entries) s fun t => t.router.result = 2 ∧ t.router.shadow = s.router.shadow)

/-- Data frames, credits, frame boundaries, token buckets, management frames (R724, R725, R734, R776, R791, R792, R798, R827, R828). -/
def Obligations.FramesMoveByCreditAndBoundary : Prop :=
  (∀ (s : State) (p : Nat) (f : DFrame), Live s → (fport s p).direct = true → (fport s p).st = .up → ingressFrozen s p = false → f.headerBad = false → f.stomped = false →
    (f.hdr.getD 0 0).toNat / 16 = 0 → frameLen f = true →
    f.pkt.version = 1 → f.pkt.lenOk = true → pktBytes f.pkt ≤ 9216 →
    mget (fport s p).rxHeld (frameIdx f) 0 + creditCost f.pkt ≤ (fport s p).own.cap (frameIdx f) →
    s.router.st ≠ .unset → f.pkt.dstNode = s.router.node →
    Completes (.dataFrameReceive p f) s fun t =>
      t.out = .deliver p f.pkt :: s.out ∧ counter t (0x601048 + 0x80 * p) = counter s (0x601048 + 0x80 * p) + 1 ∧
      mget (fport t p).rxCharged (frameIdx f) 0 = mget (fport s p).rxCharged (frameIdx f) 0 + BitVec.ofNat 32 (creditCost f.pkt) ∧
      mget (fport t p).rxReturned (frameIdx f) 0 = mget (fport s p).rxReturned (frameIdx f) 0 + BitVec.ofNat 32 (creditCost f.pkt) ∧
      (fport t p).rxHeld = (fport s p).rxHeld ∧ (fport t p).creditDue = true) ∧
  (∀ (s : State) (p : Nat) (f : DFrame), Live s → (fport s p).direct = true → (fport s p).st = .up → ingressFrozen s p = false → f.headerBad = true →
    Completes (.dataFrameReceive p f) s fun t =>
      (fport t p).rxCharged = (fport s p).rxCharged ∧ counter t (0x601000 + 0x80 * p) = counter s (0x601000 + 0x80 * p) + 1 ∧ evBit t 7 0 = true) ∧
  (∀ (s : State) (p : Nat) (frame b : List Byte), Live s → (fport s p).direct = true → (fport s p).st = .up → controlBody 1 88 frame = some b →
    (creditOf b).countValid = false →
    Completes (.creditFrameReceive p frame) s fun t => ∀ i < 10,
      mget (fport t p).retSeen i 0 = (creditOf b).returned.getD i 0 ∧
      mget (fport t p).txAvail i 0 = mget (fport s p).txAvail i 0 + ((creditOf b).returned.getD i 0 - mget (fport s p).retSeen i 0).toNat ∧
      mget (fport t p).rxReturned i 0 = mget (fport s p).rxReturned i 0) ∧
  (∀ (s : State) (p : Nat) (frame b : List Byte), Live s → (fport s p).direct = true → (fport s p).st = .up → controlBody 1 88 frame = some b →
    (creditOf b).countValid = true →
    Completes (.creditFrameReceive p frame) s fun t => ∀ i < 10,
      mget (fport t p).rxCharged i 0 = (creditOf b).charged.getD i 0 ∧
      mget (fport t p).rxReturned i 0 = mget (fport s p).rxReturned i 0 + ((creditOf b).charged.getD i 0 - mget (fport s p).rxCharged i 0)) ∧
  (∀ (s : State) (p : Nat), Live s → (fport s p).direct = true → (fport s p).st = .up →
    Completes (.creditCountTimer p) s fun t =>
      t.out = .credit p (linkFrame 1 (creditBytes { countValid := true, returned := tenOf (fport s p).rxReturned, charged := tenOf (fport s p).txCharged })) :: s.out ∧ (fport t p).creditDue = false) ∧
  (∀ (s : State) (p half : Nat) (e : EgFrame), Live s → half < 2 → (if half = 0 then (fport s p).st else (fport s p).stB) = .up → lanesReady s p half = true →
    (fport s p).busy half = some e → e.inPort = 32 → (fport s p).egress = [] → (fport s p).creditDue = false → (fport s p).helloDue = false →
    (fport s p).beaconDue = false → (fport s p).pfcDue = [] →
    Completes (.frameBoundary p half) s fun t => (fport t p).busy half = none ∧ t.out = s.out) ∧
  (∀ (s : State) (off half ns : Nat), Live s → bucketOn s off = true →
    Completes (.bucketRefill off half ns) s fun t =>
      mget t.tokens (off + half) 0 = min (wfld (bucketCfg s off) 55 32 : Int)
        (bucketTok s off half + ((mget s.tokenFrac (off + half) 0 + wfld (bucketCfg s off) 25 0 * ns) / 8000 : Nat))) ∧
  (∀ (s : State) (p : Nat) (frame b : List Byte), Live s → (fport s p).direct = true → (fport s p).st = .up → (fport s p).mgmtHeld < 16 →
    linkBody 3 frame = some b → 16 ≤ b.length → b.length ≤ 1084 →
    Completes (.mgmtFrameReceive p frame) s fun t => (fport t p).mgmtHeld = (fport s p).mgmtHeld + 1 ∧ t.out = .toManagement p b :: s.out) ∧
  (∀ (s : State) (p : Nat) (frame b : List Byte), Live s → (fport s p).direct = true → (fport s p).st = .up → 16 ≤ (fport s p).mgmtHeld →
    linkBody 3 frame = some b → 16 ≤ b.length → b.length ≤ 1084 →
    Completes (.mgmtFrameReceive p frame) s fun t =>
      (fport t p).mgmtHeld = (fport s p).mgmtHeld ∧ counter t (0x300208 + 0x1000 * p) = counter s (0x300208 + 0x1000 * p) + 1 ∧
      evBit t (24 + p) 5 = true)

/-- Fabric links: enabling, lock, handshake, loss, FEC (R783, R810, R815, R816, R817, R823, R824, R825). -/
def Obligations.LinksComeUpAndGoDown : Prop :=
  (∀ (s : State) (fn p : Nat), Live s → isInn s fn = true → (mget s.doms (64 + p) {}).st = 2 → lcLases s = true → (fport s p).enable = false →
    Completes (.portEnable fn p) s fun t =>
      (fport t p).enable = true ∧ (fport t p).mode = obj s 0x2800 (p + 1) 0 ∧ (fport t p).st = .acquire) ∧
  (∀ (s : State) (fn p : Nat), Live s → isInn s fn = true →
    Completes (.portDisable fn p) s fun t => (fport t p).enable = false ∧ (fport t p).st = .disabled ∧ (fport t p).stB = .disabled) ∧
  (∀ (s : State) (p : Nat), Live s → lanesReady s p 0 = true → (fport s p).st = .acquire → (fport s p).direct = true →
    Completes (.linkAcquired p 0) s fun t =>
      (fport t p).st = .handshake ∧ (fport t p).own = trainDivision s p ∧ (fport t p).helloHeld = false ∧ (fport t p).ackSent = false) ∧
  (∀ (s : State) (p : Nat), Live s → lanesReady s p 0 = true → (fport s p).st = .acquire → (fport s p).direct = false →
    Completes (.linkAcquired p 0) s fun t => (fport t p).st = .up ∧ evBit t (24 + p) 0 = true) ∧
  (∀ (s : State) (p : Nat), Live s → (fport s p).direct = true → (fport s p).st = .up →
    Completes (.linkDown p 0) s fun t => (fport t p).st = .acquire ∧ (fport t p).lost = true ∧ (fport t p).fence = true ∧ evBit t 7 1 = true) ∧
  (∀ (s : State) (p : Nat), Live s → (fport s p).direct = true → (fport s p).st = .handshake → lanesReady s p 0 = true → (fport s p).helloHeld = false →
    (fport s p).ackSent = false → Completes (.helloSend p) s fun t =>
      t.out = .hello p (linkFrame 1 (helloBytes (helloOf s p))) :: s.out ∧ (helloOf s p).ack = false ∧ (helloOf s p).reserve = (fport s p).own.reserve ∧
      (fport t p).st = .handshake ∧ (fport t p).helloDue = false) ∧
  (∀ (s : State) (p : Nat) (frame b : List Byte), Live s → (fport s p).direct = true → controlBody 2 32 frame = some b →
    helloValid (helloOfBytes b) = true → (fport s p).st = .handshake →
    (fport s p).ackSent = true → (helloOfBytes b).ack = true →
    Completes (.helloReceive p frame) s fun t =>
      (fport t p).st = .up ∧ (fport t p).peerNode = (helloOfBytes b).node ∧ (fport t p).upId = some (helloOfBytes b).deviceId ∧ evBit t (24 + p) 0 = true ∧
      ∀ i < 10, mget (fport t p).txAvail i 0 = Division.cap { reserve := (helloOfBytes b).reserve, req := (helloOfBytes b).req, reply := (helloOfBytes b).reply } i) ∧
  (∀ (s : State) (p : Nat), Live s → (fport s p).direct = true → (fport s p).st = .handshake → (fport s p).helloHeld = false →
    reached ((fport s p).hsSince + 16000000) (elapsed s) = true →
    Completes (.modeMismatch p) s fun t => (fport t p).mismatch = true ∧ evBit t (24 + p) 3 = true) ∧
  (∀ (s : State) (p rx cw co un : Nat) (sy hi : List Nat), Live s → reached ((fport s p).fecAt + 16000000) (elapsed s) = true → (fport s p).fecSd = false →
    obj s 0x2850 0 240000 * rx < (sy.take 8).foldl (fun a x => a + x) 0 * 1000000000 →
    Completes (.fecSdWindow p rx cw co un sy hi) s fun t => (fport t p).fecSd = true ∧ evBit t (24 + p) 4 = true) ∧
  (∀ (s : State) (p rx cw co un : Nat) (sy hi : List Nat), Live s → reached ((fport s p).fecAt + 16000000) (elapsed s) = true →
    (sy.take 8).foldl (fun a x => a + x) 0 * 1000000000 ≤ obj s 0x2850 0 240000 * rx →
    Completes (.fecSdWindow p rx cw co un sy hi) s fun t => (fport t p).fecSd = false)

/-- Ethernet-mode ports (R831, R834, R837, R839). -/
def Obligations.EthernetPortsReceiveAndPause : Prop :=
  (∀ (s : State) (p half : Nat) (h : EthHdr) (k : Pkt), Live s → (fport s p).direct = false →
    (if half = 0 then (fport s p).st else (fport s p).stB) = .up → ingressFrozen s p = false → ethAccept s p half h = true → h.ethertype ≠ 0x8808 → h.resolution = false →
    h.isUdp = false →
    Completes (.ethFrameReceive p half h k) s fun t =>
      counter t (0x3001E0 + 0x1000 * p) = counter s (0x3001E0 + 0x1000 * p) + 1 ∧
      counter t (0x3001E8 + 0x1000 * p) = counter s (0x3001E8 + 0x1000 * p) + 1 ∧ t.out = s.out) ∧
  (∀ (s : State) (p half : Nat) (h : EthHdr) (k : Pkt), Live s → (fport s p).direct = false →
    (if half = 0 then (fport s p).st else (fport s p).stB) = .up → ingressFrozen s p = false → ethAccept s p half h = true → h.ethertype ≠ 0x8808 → h.resolution = false →
    h.fcsOk = true → h.ipOk = true → h.udpOk = true → h.isUdp = true → isLocalIp s p h.ipv6 h.dstIp = true → h.dport = obj s 0x2830 0 53100 →
    ingressHalf (fport s p) half + h.bytes ≤ ingressCap (fport s p) → k.version = 1 → k.lenOk = true → h.bytes ≤ 9216 →
    s.router.st ≠ .unset → k.dstNode = s.router.node →
    Completes (.ethFrameReceive p half h k) s fun t => t.out = .deliver p { k with ce := h.ecn == 3 } :: s.out ∧ t.fports = s.fports) ∧
  (∀ (s : State) (p : Nat) (c time : Nat), Live s → (fport s p).direct = false → (fport s p).st = .up → wfld (pfcCfg s p) 1 0 = 1 → c < 8 → 0 < time →
    Completes (.pauseReceive p 0 false [(0, time)]) s fun t => mfind (fport t p).pauseA c = some (elapsed s + BitVec.ofNat 64 (quantaTicks (fport s p) time))) ∧
  (∀ (s : State) (p c : Nat) (x : Word), Live s → mfind (fport s p).pauseA c = some x → reached x (elapsed s) = true →
    Completes (.pauseExpire p 0 c) s fun t =>
      mfind (fport t p).pauseA c = none ∧ (∀ d, d ≠ c → mfind (fport t p).pauseA d = mfind (fport s p).pauseA d) ∧
      (fport t p).pauseB = (fport s p).pauseB) ∧
  (∀ (s : State) (p prio : Nat), Live s → (fport s p).mode = 1 → (fport s p).st = .up → wfld (pfcCfg s p) 1 0 = 2 →
    (fport s p).pfcSent.contains prio = true →
    reached (mget (fport s p).pfcAt prio 0 + BitVec.ofNat 64 (quantaTicks (fport s p) 32768)) (elapsed s) = true → wfld (pfcCfg s p) 47 32 * 1024 < pfcLevel s p prio →
    Completes (.pfcRefresh p prio) s fun t =>
      t.out = .pauseFrame p 0 prio 65535 :: s.out ∧ counter t (0x3001F8 + 0x1000 * p) = counter s (0x3001F8 + 0x1000 * p) + 1) ∧
  (∀ (s : State) (first : Nat) (data : List Byte), Live s → s.memWf = true → first ≤ 65504 →
    Completes (.ethPeerWrite first data) s fun t =>
      t.ethResult = 0 ∧ (∀ k < 1024, cellGet t.mem.cells (0x3A000000 + 32 * first + k) = (peerEntries data 32).getD k 0) ∧
      ∀ a, (a < 0x3A000000 + 32 * first ∨ 0x3A000000 + 32 * first + 1024 ≤ a) → cellGet t.mem.cells a = cellGet s.mem.cells a) ∧
  (∀ (s : State) (first : Nat) (data : List Byte), Live s → 65504 < first →
    Completes (.ethPeerWrite first data) s fun t => t.ethResult = 2 ∧ t.mem = s.mem)

/-- Lanes: samples, sweeps, manual setting, loops of the optical engines (R853, R855, R856, R858, R861, R862, R864, R875, R876). -/
def Obligations.LanesLockDriftAndSweep : Prop :=
  (∀ (s : State) (p l heater : Nat) (offset : Int), Live s → l < 8 → core1Runs s = true → (lane s p l).st = 1 → offset.natAbs ≤ 50 → 63 ≤ (lane s p l).lockRun →
    Completes (.ringSample p l offset heater) s fun t =>
      (lane t p l).st = 2 ∧ (lane t p l).tries = 0 ∧ (lane t p l).offset = offset ∧ (lane t p l).heater = Nat.min 12000 heater) ∧
  (∀ (s : State) (p l heater : Nat) (offset : Int), Live s → l < 8 → core1Runs s = true → (lane s p l).st = 2 → 600 < offset.natAbs → 9 ≤ (lane s p l).outRun →
    Completes (.ringSample p l offset heater) s fun t =>
      (lane t p l).st = 1 ∧ counter t (0x350018 + 0x100 * p + 0x20 * l) = counter s (0x350018 + 0x100 * p + 0x20 * l) + 1) ∧
  (∀ (s : State) (p l heater : Nat) (offset : Int), Live s → l < 8 → core1Runs s = true → (lane s p l).st = 2 → offset.natAbs ≤ 600 →
    obj s 0x8012 0 300 < offset.natAbs → 9 ≤ (lane s p l).driftRun → (lane s p l).drift = false →
    Completes (.ringSample p l offset heater) s fun t => (lane t p l).st = 2 ∧ (lane t p l).drift = true ∧ evBit t 8 4 = true) ∧
  (∀ (s : State) (p l heater : Nat), Live s → l < 8 → core1Runs s = true → (lane s p l).st = 1 → reached (lane s p l).due (elapsed s) = true →
    (lane s p l).chosen = false →
    Completes (.heaterSweepEnd p l true heater) s fun t =>
      (lane t p l).st = 1 ∧ (lane t p l).heater = Nat.min 12000 heater ∧ (lane t p l).chosen = true ∧ (lane t p l).due = elapsed s + 160000000) ∧
  (∀ (s : State) (p l heater : Nat) (found : Bool), Live s → l < 8 → core1Runs s = true → (lane s p l).st = 1 → reached (lane s p l).due (elapsed s) = true →
    (found = false ∨ (lane s p l).chosen = true) → (lane s p l).tries < 2 →
    Completes (.heaterSweepEnd p l found heater) s fun t => (lane t p l).st = 1 ∧ (lane t p l).tries = (lane s p l).tries + 1) ∧
  (∀ (s : State) (p l heater : Nat) (found : Bool), Live s → l < 8 → core1Runs s = true → (lane s p l).st = 1 → reached (lane s p l).due (elapsed s) = true →
    (found = false ∨ (lane s p l).chosen = true) → 2 ≤ (lane s p l).tries →
    Completes (.heaterSweepEnd p l found heater) s fun t => (lane t p l).st = 5 ∧ evBit t 8 5 = true) ∧
  (∀ (s : State) (fn p l v : Nat), Live s → isInn s fn = true → p < 32 → l < 8 → armed s 8 = true → v / 65536 % 2 = 1 → (lane s p l).st ≤ 4 →
    (lane s p l).st ≠ 1 →
    Completes (.laneManualWrite fn p l v) s fun t =>
      (lane t p l).st = 4 ∧ (lane t p l).heater = Nat.min 12000 (v % 65536) ∧ rd t (0x350010 + 0x100 * p + 0x20 * l) 0 = laneCtrl v) ∧
  (∀ (s : State) (u : Nat) (temps : List Int), Live s → core1Runs s = true →
    Completes (.tecLoop u temps) s fun t => (laser t u).temp = byLaser temps ∧ (laser t u).st = (laser s u).st) ∧
  (∀ (s : State) (u : Nat) (taps : List Int), Live s → core1Runs s = true → (laser s u).st = 3 →
    Completes (.biasStep u taps) s fun t =>
      (laser t u).tap = byLaser taps ∧
      ∀ k c, mfind (laser s u).current k = some c → c ≤ 5000 →
        ∃ d, mfind (laser t u).current k = some d ∧ d ≤ 5000 ∧ d ≤ c + 10 ∧ c ≤ d + 10) ∧
  (∀ (s : State) (p l co cw : Nat) (rx hi tx temp : Int), Live s → l < 8 → core1Runs s = true →
    Completes (.opticsSecond p l co cw rx hi tx temp) s fun t =>
      (lane t p l).rx = rx ∧ (lane t p l).tx = tx ∧ mget t.peTemp p 0 = temp ∧
      (lane t p l).rxWarn = decide (hi < intOf 16 (obj s 0x8014 0 64936)) ∧
      (lane t p l).rxAlarm = decide (hi < intOf 16 (obj s 0x8015 0 64786)))

/-- Laser units (R864, R867, R868, R869, R870, R872, R873, R1055). -/
def Obligations.LasersFollowPermitAndFault : Prop :=
  (∀ (s : State) (u : Nat), Live s → (laser s u).st = 1 → laserPermit s u = true →
    Completes (.laserSettled u) s fun t => (laser t u).st = 2 ∧ evBit t 8 0 = true) ∧
  (∀ (s : State) (u : Nat), Live s → (laser s u).st = 1 → reached ((laser s u).since + 16000000000) (elapsed s) = true →
    Completes (.tecFail u) s fun t =>
      (laser t u).st = 4 ∧ (laser t u).cause = 3 ∧ (laser t u).current = [] ∧ evBit t 8 1 = true ∧
      counter t (0x340110 + 0x40 * u) = counter s (0x340110 + 0x40 * u) + 1) ∧
  (∀ (s : State) (u : Nat) (currents : List Nat) (taps : List Int), Live s → (laser s u).st = 2 → laserPermit s u = true →
    Completes (.laserRampDone u currents taps) s fun t =>
      (laser t u).st = 3 ∧ (laser t u).current = byLaser (currents.map (Nat.min 5000)) ∧ (laser t u).tap = byLaser taps) ∧
  (∀ (s : State) (u : Nat), Live s → (laser s u).st = 3 → laserDemand s u = false →
    (∀ k < 4, reached ((fport s (4 * u + k)).offSince + 16000000000) (elapsed s) = true) →
    Completes (.laserIdleOff u) s fun t => (laser t u).st = 0 ∧ (laser t u).current = []) ∧
  (∀ (s : State) (u : Nat), Live s → 1 ≤ (laser s u).st → (laser s u).st ≤ 3 → laserPermit s u = false →
    Completes (.permitDrop u) s fun t => (laser t u).st = 0 ∧ (laser t u).current = [] ∧ evBit t 8 7 = true) ∧
  (∀ (s : State) (u l : Nat), Live s → ((laser s u).st = 2 ∨ (laser s u).st = 3) → mget (laser s u).sol l 0 ≤ mget (laser s u).current l 0 →
    Completes (.laserPathFault u l) s fun t => (laser t u).st = 4 ∧ (laser t u).cause = 1 ∧ (laser t u).current = [] ∧ evBit t 8 1 = true) ∧
  (∀ (s : State) (u : Nat), Live s → (laser s u).st ≠ 0 →
    Completes (.laserOvertemp u) s fun t => (laser t u).st = 4 ∧ (laser t u).cause = 2 ∧ (laser t u).current = [] ∧ evBit t 8 1 = true) ∧
  (∀ (s : State) (fn u : Nat), Live s → isInn s fn = true → u < 8 → (laser s u).st = 4 → laserDemand s u = false →
    Completes (.clearFault fn u true) s fun t => (laser t u).st = 0 ∧ (laser t u).cause = 0) ∧
  (∀ (s : State) (fn u : Nat) (allow : Bool), Live s → isInn s fn = true → u < 8 → armed s 8 = true →
    Completes (.laserAllowWrite fn u allow) s fun t => laserAllow t u = allow) ∧
  (∀ (s : State) (fn u : Nat) (allow : Bool), Live s → isInn s fn = true → u < 8 → armed s 8 = false → laserAllow s u ≠ allow →
    Completes (.laserAllowWrite fn u allow) s fun t => laserAllow t u = laserAllow s u ∧ counter t 0x380128 = counter s 0x380128 + 1) ∧
  (∀ s : State, Live s → Completes (.laserEnChange true) s fun t => t.laserEn = true ∧
    ∀ u < 8, (laser s u).st = 0 → laserAllow s u = true → lcLases s = true → (mget s.doms (96 + u) {}).st = 2 → laserDemand s u = true →
      (laser t u).st = 1)

/-- Room commands and the drain (R888, R889, R890, R891, R892, R893, R895, R897, R898, R899). -/
def Obligations.RoomsChangeState : Prop :=
  (∀ (s : State) (h : FdHdr) (id v : Nat), InnTakes s h 0x70 → (room s h.room).st ≠ .free → quotaBad id v = false →
    ((id = 0 ∨ id = 2) → (room s h.room).st = .quiesced) →
    (∀ m f, quotaLimit id = some (m, f) → quotaSum s h.room f + v ≤ m) →
    Completes (.roomQuota h id v) s fun t => (room t h.room).quotas = (room s h.room).quotas.put id v ∧ (room t h.room).st = (room s h.room).st) ∧
  (∀ (s : State) (h : FdHdr) (fw : Nat), InnTakes s h 0x71 → (room s h.room).st = .opened → (room s h.room).fn ≠ innFn s → fw ≤ 1 →
    Completes (.roomQuiesce h fw) s fun t => (room t h.room).st = .quiescing ∧ (func t h.fn).fd.running = some (h, 0x71, .quiesce h.room)) ∧
  (∀ (s : State) (rm : Nat), Live s → (room s rm).st = .quiescing → drained s rm = true →
    Completes (.quiesced rm) s fun t => (room t rm).st = .quiesced ∧ evBit t 10 1 = true) ∧
  (∀ (s : State) (rm : Nat), Live s → (room s rm).st = .quiescing → (room s rm).removing = false → reached (room s rm).quiesceEnd (elapsed s) = true →
    Completes (.quiesceTimeout rm) s fun t => (room t rm).st = .quarantined ∧ (room t rm).qcause = 5 ∧ evBit t 10 2 = true) ∧
  (∀ (s : State) (h : FdHdr), InnTakes s h 0x72 → (room s h.room).st = .quiesced →
    Completes (.roomResume h) s fun t => (room t h.room).st = .opened ∧ (func t h.fn).fd.running = none ∧ ∀ r, r ≠ h.room → room t r = room s r) ∧
  (∀ (s : State) (h : FdHdr), InnTakes s h 0x74 → (room s h.room).st ≠ .free → (room s h.room).st ≠ .quarantined → (room s h.room).fn ≠ innFn s →
    (room s h.room).removing = false →
    Completes (.roomQuarantine h) s fun t =>
      (room t h.room).st = .quarantined ∧ (room t h.room).qcause = 4 ∧ (room t h.room).gone = false ∧ (func t h.fn).fd.running = none) ∧
  (∀ (s : State) (h : FdHdr), InnTakes s h 0x75 → (room s h.room).st = .quarantined → (room s h.room).gone = false →
    Completes (.roomRelease h) s fun t => (room t h.room).st = .opened ∧ (room t h.room).qcause = 0 ∧ (func t h.fn).fd.running = none) ∧
  (∀ (s : State) (h : FdHdr) (keep : Nat), InnTakes s h 0x73 →
    ((room s h.room).st = .quiesced ∨ ((room s h.room).st = .quarantined ∧ (room s h.room).gone = false)) → (room s h.room).fn ≠ innFn s → keep ≤ 1 →
    Completes (.roomReset h keep) s fun t =>
      (room t h.room).st = .opened ∧ (room t h.room).lanterns = [] ∧ (room t h.room).epoch = nextEpoch (room s h.room).epoch ∧
      (keep = 0 → (room t h.room).leaves1 = [] ∧ (room t h.room).leaves2 = [] ∧ (room t h.room).keys = []) ∧
      (keep = 1 → (room t h.room).leaves1 = (room s h.room).leaves1 ∧ (room t h.room).keys = (room s h.room).keys)) ∧
  (∀ (s : State) (h : FdHdr), InnTakes s h 0x76 → Keyed 0 s.rooms → 8 ≤ h.room → (room s h.room).st = .quarantined → (room s h.room).gone = true →
    (room s h.room).fn ≠ innFn s → extentsOf s h.room = [] → (hport s (fnPort (room s h.room).fn)).vfEnable = false →
    (∀ f ∈ s.funcs, ∀ g op rm es, f.2.fd.running ≠ some (g, op, .remove rm es)) →
    Completes (.roomRemove h) s fun t => (room t h.room).st = .free ∧ (func t h.fn).fd.running = none) ∧
  (∀ (s : State) (h : FdHdr), InnTakes s h 0x77 → badResultAddr s h = false → (room s h.room).st ≠ .free →
    Completes (.roomQuery h) s fun t => t.rooms = s.rooms ∧ t.qps = s.qps ∧ (func t h.fn).fd.running = none) ∧
  (∀ (s : State) (h : FdHdr), InnTakes s h 0x72 → (room s h.room).st = .free →
    Completes (.roomResume h) s fun t => t.rooms = s.rooms ∧ (func t h.fn).fd.running = none)

/-- The mailbox of a room (R906, R908, R909, R886, R951). -/
def Obligations.MailboxesPostAndAcknowledge : Prop :=
  (∀ (s : State) (fn rm len : Nat) (keeper : Bool), Live s → mailRight s fn rm keeper = true → (mailDir (room s rm) (!keeper)).posted = false →
    1 ≤ len → len ≤ 16 →
    Completes (.mailboxPost fn rm keeper len) s fun t =>
      mailDir (room t rm) (!keeper) =
        { mailDir (room s rm) (!keeper) with posted := true, len := len, posts := (mailDir (room s rm) (!keeper)).posts + 1 } ∧
      mailDir (room t rm) keeper = mailDir (room s rm) keeper) ∧
  (∀ (s : State) (fn rm : Nat) (keeper : Bool), Live s → mailRight s fn rm keeper = true → (mailDir (room s rm) keeper).posted = true →
    Completes (.mailboxAck fn rm keeper) s fun t =>
      mailDir (room t rm) keeper = { mailDir (room s rm) keeper with posted := false } ∧
      mailDir (room t rm) (!keeper) = mailDir (room s rm) (!keeper)) ∧
  (∀ (s : State) (fn rm len : Nat) (keeper : Bool), Live s → mailRight s fn rm keeper = false →
    Completes (.mailboxPost fn rm keeper len) s fun t => t.rooms = s.rooms ∧ counter t 0x380128 = counter s 0x380128 + 1)

/-- Key slots: loading, rotation, erasure (R925, R926, R927, R929, R931, R943, R947). -/
def Obligations.KeysAreLoadedRotatedAndErased : Prop :=
  (∀ (s : State) (fn i w : Nat) (fabric : Bool) (owner : Option Nat) (v : Word), Live s → slotOwner s fn fabric = some owner → i < 16 → w < 8 →
    ((slotOf s owner i).bank (w / 4)).loaded = false → (slotOf s owner i).rotating = false → keysAllowed s = true →
    Completes (.keyBankLoad fn fabric i w [(.full, v)]) s fun t =>
      mget ((slotOf t owner i).bank (w / 4)).words (w % 4) 0 = v ∧
      (((slotOf t owner i).bank (w / 4)).loaded = true ↔ w % 4 = 3)) ∧
  (∀ (s : State) (fn i b : Nat) (fabric : Bool) (owner : Option Nat) (v0 v1 v2 v3 : Word), Live s → slotOwner s fn fabric = some owner → i < 16 → b < 2 →
    ((slotOf s owner i).bank b).loaded = false → (slotOf s owner i).rotating = false → keysAllowed s = true →
    Completes (.keyBankLoad fn fabric i (4 * b) [(.full, v0), (.full, v1), (.full, v2), (.full, v3)]) s fun t =>
      ((slotOf t owner i).bank b).loaded = true ∧ ∀ w < 4, mget ((slotOf t owner i).bank b).words w 0 = [v0, v1, v2, v3].getD w 0) ∧
  (∀ (s : State) (fn i w : Nat) (fabric : Bool) (owner : Option Nat) (part : Part) (v : Word), Live s → slotOwner s fn fabric = some owner → i < 16 →
    w < 8 → ((slotOf s owner i).bank (w / 4)).loaded = true → (part = .full ∨ part = .low ∨ part = .high) →
    Completes (.keyBankLoad fn fabric i w [(part, v)]) s fun t =>
      slotOf t owner i = slotOf s owner i ∧ counter t 0x380128 = counter s 0x380128 + 1) ∧
  (∀ (s : State) (fn i : Nat) (fabric : Bool) (owner : Option Nat) (time : Word), Live s → slotOwner s fn fabric = some owner → i < 16 →
    ((slotOf s owner i).bank (1 - (slotOf s owner i).active)).loaded = true → (slotOf s owner i).rotating = false →
    Completes (.rotateAtWrite fn fabric i .full time) s fun t =>
      slotOf t owner i = { slotOf s owner i with rotateAt := time, rotating := true }) ∧
  (∀ (s : State) (owner : Option Nat) (i : Nat), Live s → (slotOf s owner i).rotating = true → (slotOf s owner i).active < 2 →
    reached ((slotOf s owner i).rotateAt + 16000000#64) s.tide.count = true →
    Completes (.keyRotateComplete owner i) s fun t =>
      (slotOf t owner i).active = 1 - (slotOf s owner i).active ∧ (slotOf t owner i).rotating = false ∧
      (slotOf t owner i).bank (slotOf s owner i).active = {} ∧
      (slotOf t owner i).bank (1 - (slotOf s owner i).active) = (slotOf s owner i).bank (1 - (slotOf s owner i).active)) ∧
  (∀ (s : State) (h : FdHdr) (i rm : Nat), Takes s h 0x81 → i < 16 → roomOf s h.fn = some rm → slotInUse s (some rm) i = false →
    Completes (.keyErase h i false) s fun t =>
      (slotOf t (some rm) i).b0 = {} ∧ (slotOf t (some rm) i).b1 = {} ∧ (func t h.fn).fd.running = none) ∧
  (∀ (s : State) (h : FdHdr) (i : Nat), InnTakes s h 0x81 → i < 16 → slotInUse s none i = true →
    Completes (.keyErase h i true) s fun t => slotOf t none i = slotOf s none i ∧ (func t h.fn).fd.running = none) ∧
  (∀ (s : State) (i b : Nat) (key : List Byte), Live s → i < 16 → b < 2 → ((slotOf s none i).bank b).loaded = false → (slotOf s none i).rotating = false →
    keysAllowed s = true →
    Completes (.fabricKeyWrite i b key) s fun t =>
      ((slotOf t none i).bank b).loaded = true ∧ ∀ w < 4, mget ((slotOf t none i).bank b).words w 0 = BitVec.ofNat 64 (wordAt key w)) ∧
  (∀ (s : State) (i : Nat) (time : Word), Live s → i < 16 → keysAllowed s = true → ((slotOf s none i).bank (1 - (slotOf s none i).active)).loaded = true →
    (slotOf s none i).rotating = false →
    Completes (.fabricRotate i time) s fun t => slotOf t none i = { slotOf s none i with rotateAt := time, rotating := true }) ∧
  (∀ (s : State) (k : Nat) (key : List Byte) (remote : Bool), Live s → 1 ≤ k → k ≤ 4 → keysAllowed s = true →
    Completes (.mgmtKey k key remote true) s fun t =>
      mfind t.sealing.mgmt k = some (leBytes 32 (ofLe key)) ∧ mfind t.dict.fresh k = some {}) ∧
  (∀ (s : State) (k : Nat) (key : List Byte), Live s → 1 ≤ k → k ≤ 4 →
    Completes (.mgmtKey k key true false) s fun t => t.sealing = s.sealing ∧ counter t 0x380120 = counter s 0x380120 + 1)

/-- Requests of the life cycle (R944, R945, R946, R950). -/
def Obligations.LifeCycleRequests : Prop :=
  (∀ (s : State) (t0 : List Byte) (path : Nat), Live s → core2Runs s = true → s.sealing.fuse = none → s.sealing.lc = 2 → ofBe ((t0.drop 28).take 1) = 4 → path ≠ 0 →
    ofBe (t0.take 4) ≠ 1 → resetReady s = true →
    Completes (.lcRequest t0 path true) s fun t =>
      t.sealing.lc = 4 ∧ t.sealing.mgmt = [] ∧ t.sealing.fab = [] ∧ t.sealing.erased = true ∧ t.dict.fresh = [] ∧ ∀ rm, (room t rm).keys = []) ∧
  (∀ (s : State) (t0 : List Byte) (path : Nat), Live s → core2Runs s = true → s.sealing.fuse = none → s.sealing.lc = 1 → ofBe ((t0.drop 28).take 1) = 2 → path ≠ 0 →
    ofBe (t0.take 4) ≠ 1 → resetReady s = true →
    Completes (.lcRequest t0 path false) s fun t => t.sealing.lc = 2 ∧ t.sealing.mgmt = s.sealing.mgmt) ∧
  (∀ (s : State) (t0 : List Byte) (path : Nat) (auth : Bool), Live s → core2Runs s = true → s.sealing.fuse = none →
    lcRow s.sealing.lc (ofBe ((t0.drop 28).take 1)) path auth = .none → ofBe (t0.take 4) ≠ 1 →
    Completes (.lcRequest t0 path auth) s fun t =>
      t.sealing.lc = s.sealing.lc ∧ t.sealing.lcResult = 1 ∧ t.sealing.refused = s.sealing.refused ∧ t.sealing.mgmt = s.sealing.mgmt ∧
      t.free = s.free + 2 ∧ evBit t 9 3 = true) ∧
  (∀ (s : State) (t0 : List Byte) (path : Nat) (auth : Bool), Live s → core2Runs s = true → s.sealing.fuse = none →
    lcRow s.sealing.lc (ofBe ((t0.drop 28).take 1)) path auth = .token → 8 ≤ s.sealing.refused →
    Completes (.lcRequest t0 path auth) s fun t => t.sealing.lc = s.sealing.lc ∧ t.sealing.lcResult = 3 ∧ t.sealing.refused = s.sealing.refused)

/-- Scrub, rates of correctable errors, latches (R957, R960, R963, R969, R972, R973, R974, R978). -/
def Obligations.MemoryErrorsAreScrubbedAndLatched : Prop :=
  (∀ (s : State) (m pos sym a : Nat) (code : Option (Nat × Bool)), Live s → m < 18 → scrubNext s m = some a → mapAt s a 256 = none →
    (∀ i < 4, a / 64 + i ∉ s.mem.poison ∧ a / 64 + i ∉ s.mem.latentUe ∧ a / 64 + i ∉ s.mem.latentCe) →
    Completes (.scrubAccess m pos sym code) s fun t => (scrubOf t m).next = a + 256 ∧ t.mem = s.mem) ∧
  (∀ (s : State) (m pos sym a : Nat) (code : Option (Nat × Bool)), Live s → m < 18 → scrubNext s m = some a → mapAt s a 256 = none →
    (∀ i < 4, a / 64 + i ∉ s.mem.poison ∧ a / 64 + i ∉ s.mem.latentUe ∧ (1 ≤ i → a / 64 + i ∉ s.mem.latentCe)) → a / 64 ∈ s.mem.latentCe →
    Completes (.scrubAccess m pos sym code) s fun t =>
      a / 64 ∉ t.mem.latentCe ∧ counter t (0x440100 + 8 * m) = counter s (0x440100 + 8 * m) + 1) ∧
  (∀ (s : State) (m : Nat), Live s → m < 18 → scrubNext s m = none →
    Completes (.scrubPassEnd m) s fun t =>
      scrubOf t m = { next := 0, passStart := elapsed s, period := scrubPeriod s m } ∧
      ((if (scrubOf s m).period = 0 then scrubPeriod s m else (scrubOf s m).period) * 16000000000 <
        (sdiff (elapsed s) (scrubOf s m).passStart).toNat → evBit t 12 2 = true)) ∧
  (∀ s : State, Live s → reached (s.errs.secondAt + 16000000000) (elapsed s) = true → Completes .ceRateSecond s fun t =>
    t.errs.ceSecond = [] ∧ t.errs.ceLim = obj s 0x9001 2 1000 ∧
    ∀ m < 21, s.errs.ceLim < mget s.errs.ceSecond m 0 → m ∉ s.errs.ceSpell → m ∈ t.errs.ceSpell ∧ evBit t 12 4 = true) ∧
  (∀ (s : State) (d n : Nat), Live s → d < 4 → 2 ≤ (mget s.ds d {}).st →
    Completes (.expanderEventPoll d n) s fun t =>
      counter t (0x440160 + 8 * d) = counter s (0x440160 + 8 * d) + BitVec.ofNat 64 n ∧
      mget t.errs.ceSecond (12 + d) 0 = mget s.errs.ceSecond (12 + d) 0 + n) ∧
  (∀ (s : State) (m w : Nat), Live s → Completes (.codeWordReload m w) s fun t =>
    (62 + m, w) ∉ t.errs.codeBad ∧ ∀ x, x ≠ (62 + m, w) → (x ∈ t.errs.codeBad ↔ x ∈ s.errs.codeBad)) ∧
  (∀ (s : State) (fn u : Nat), Live s → isInn s fn = true → (mget s.errs.latches u {}).st = 1 →
    Completes (.latchAck fn u (mget s.errs.latches u {}).seq.toNat) s fun t =>
      (mget t.errs.latches u {}).st = 0 ∧ (mget t.errs.latches u {}).seq = (mget s.errs.latches u {}).seq) ∧
  (∀ (s : State) (u : Nat), Live s → (mget s.errs.latches u {}).st = 1 → (mget s.errs.latches u {}).recorded = true →
    (mget s.errs.latches u {}).ack ≠ 0 →
    reached ((mget s.errs.latches u {}).since + BitVec.ofNat 64 ((mget s.errs.latches u {}).ack * 16000000000)) (elapsed s) = true →
    Completes (.ueAutoAck u) s fun t => (mget t.errs.latches u {}).st = 0)

/-- The device in FATAL, and halted management cores (R26, R49, R51, R53, R976, R1065, R1085). -/
def Obligations.TheDeviceFailsAndCoresHalt : Prop :=
  (∀ (s : State) (b : Nat), Live s → Completes (.deviceFatal b) s fun t =>
    t.errs.fatal = true ∧ t.errs.fatalUnit = 0x2FF ∧ t.errs.alert = true ∧ evBit t 12 7 = true) ∧
  (∀ s : State, Live s → Completes .d2dUnrecoverable s fun t =>
    t.errs.fatal = true ∧ t.errs.fatalUnit = 0x249 ∧ t.errs.alert = true ∧ evBit t 12 7 = true) ∧
  (∀ s : State, Live s → Completes .clockFail s fun t =>
    t.errs.fatal = true ∧ t.errs.fatalUnit = 0x2FF ∧ t.errs.alert = true ∧ evBit t 12 7 = true) ∧
  (∀ (s : State) (k w : Nat), Live s → k < 4 → k ∉ s.errs.coresHalted →
    Completes (.mgmtCoreHalt k w) s fun t =>
      k ∈ t.errs.coresHalted ∧ (k = 1 → ∀ p l, (lane s p l).st = 2 → (lane t p l).st = 3)) ∧
  (∀ s : State, Live s → core3Runs s = false → Completes .watchdogExpire s fun t => t.errs.alert = true)

/-- Requests of the object dictionary (R998, R1000, R1001, R1006, R1010, R1012, R1032, R951). -/
def Obligations.RequestsAreServed : Prop :=
  (∀ (s : State) (src : RSrc) (f : RFrame) (r : DRow), Asks s src f → f.data = [] → entryOf f.index f.sub = some r → f.offset = 0 → 1 ≤ r.size →
    r.size ≤ 1024 → mayRead s (plainClass s src) f.index f.sub = true →
    Completes (.relivicelRead src f) s fun t =>
      t.out = replyTo src f 1 0 (leBytes r.size (readValue (received s src) r f.index f.sub)) false :: s.out ∧ t.objs = s.objs) ∧
  (∀ (s : State) (src : RSrc) (f : RFrame) (r : DRow), Asks s src f → f.data = [] → entryOf f.index f.sub = some r → f.offset = 0 → 1 ≤ r.size →
    r.size ≤ 1024 → mayRead s (plainClass s src) f.index f.sub = false →
    Completes (.relivicelRead src f) s fun t =>
      t.out = replyTo src f 1 0 (List.replicate r.size 0) false :: s.out ∧ counter t 0x380128 = counter s 0x380128 + 1) ∧
  (∀ (s : State) (src : RSrc) (f : RFrame) (r : DRow), Asks s src f → entryOf f.index f.sub = some r → r.access = 1 → f.offset = 0 → f.more = false →
    f.data.length = r.size → mayWrite s (plainClass s src) f.index f.sub = true → r.inRange (ofLe f.data) = true →
    (writeEffect f.index f.sub (ofLe f.data) f.data false false (received s src)).1 = 0 →
    reachable (writeEffect f.index f.sub (ofLe f.data) f.data false false (received s src)).2 src = true →
    Completes (.relivicelWrite src f) s fun t =>
      obj t f.index f.sub r.dflt = ofLe f.data ∧
      t.out = replyTo src f 2 0 [] false :: (writeEffect f.index f.sub (ofLe f.data) f.data false false (received s src)).2.out ∧
      (∀ k, k ≠ okey f.index f.sub → mfind t.objs k = mfind (writeEffect f.index f.sub (ofLe f.data) f.data false false (received s src)).2.objs k) ∧
      t.router = (writeEffect f.index f.sub (ofLe f.data) f.data false false (received s src)).2.router ∧
      t.fports = (writeEffect f.index f.sub (ofLe f.data) f.data false false (received s src)).2.fports) ∧
  (∀ (s : State) (src : RSrc) (f : RFrame) (r : DRow), Asks s src f → entryOf f.index f.sub = some r → r.access = 3 → f.offset = 0 → f.more = false →
    f.data.length = r.size → mayWrite s (plainClass s src) f.index f.sub = true → r.inRange (ofLe f.data) = true →
    writeEffect f.index f.sub (ofLe f.data) f.data false false (received s src) = (0, received s src) →
    Completes (.relivicelWrite src f) s fun t =>
      obj t f.index f.sub r.dflt = ofLe f.data ∧ t.out = s.out ∧
      t.dict.stores = s.dict.stores ++ [{ index := f.index, sub := f.sub, value := ofLe f.data, src := src, frame := f }]) ∧
  (∀ (s : State) (src : RSrc) (f : RFrame) (r : DRow), Asks s src f → entryOf f.index f.sub = some r → r.access ≠ 0 → r.access ≠ 4 → f.offset = 0 →
    f.more = false → f.data.length = r.size → mayWrite s (plainClass s src) f.index f.sub = true → r.inRange (ofLe f.data) = false →
    Completes (.relivicelWrite src f) s fun t => t.objs = s.objs ∧ t.out = replyTo src f 2 4 [] false :: s.out) ∧
  (∀ (s : State) (src : RSrc) (f : RFrame) (r : DRow), Asks s src f → f.data = [] → entryOf f.index f.sub = some r → stateReads s f.index = true →
    Completes (.relivicelDescribe src f) s fun t =>
      t.out = replyTo src f 3 0 (descriptor (received s src) r f.index f.sub) false :: s.out ∧ t.objs = s.objs) ∧
  (∀ (s : State) (src : RSrc) (f : RFrame), Asks s src f → f.data = [] →
    Completes (.relivicelNext src f) s fun t =>
      t.out = (match nextEntry (stateReads s) f.index f.sub with
        | none => replyTo src f 4 0x0A [] false
        | some k => replyTo src f 4 0 (leBytes 2 (k / 256) ++ [BitVec.ofNat 8 k]) false) :: s.out ∧ t.objs = s.objs) ∧
  (∀ (s : State) (src : RSrc) (f : RFrame) (resp : RFrame), Live s → core0Runs s = true → reachable s src = true → isRemote src = false →
    f.formOk = true → f.type = 0 → f.route = none → f.auth = none → f.data.length ≤ 1024 → waitingOn s (transport src) < 32 →
    keptOf s src f = some resp → resp.route = none →
    Completes (.relivicelWrite src f) s fun t => t.out = .relivicel src resp :: s.out ∧ t.objs = s.objs ∧ t.dict = s.dict)

/-- Stores, segments and the relay; MCTP control commands and the management port (R1001, R1003, R1018, R1020, R1021, R1022, R1024, R1026). -/
def Obligations.StoresRelaysAndEndpointsAnswer : Prop :=
  (∀ (s : State) (x : Store), Live s → core0Runs s = true → s.dict.stores.find? (fun y => y.index == x.index && y.sub == x.sub) = some x →
    s.power.resetDue = none → reachable s x.src = true → x.frame.route = none → x.frame.opcode = none → x.key = none →
    Completes (.rwsStoreDone x.index x.sub true) s fun t =>
      mfind t.dict.flash (okey x.index x.sub) = some x.value ∧ t.dict.stores = s.dict.stores.erase x ∧
      t.out = replyTo x.src x.frame 2 0 [] false :: s.out ∧ counter t 0x260158 = counter s 0x260158 + 1) ∧
  (∀ (s : State) (src : RSrc) (tag idx sub : Nat), Live s →
    Completes (.segmentGapExpire src tag idx sub) s fun t =>
      ∀ w, w ∈ t.dict.writes ↔ (w ∈ s.dict.writes ∧ ¬(w.src = src ∧ w.tag = tag ∧ w.index = idx ∧ w.sub = sub ∧ reached w.due (elapsed s) = true))) ∧
  (∀ (s : State) (p : Nat) (f : RFrame) (r : RRoute), Relays s (.inband p) f r → r.hopIndex < r.hops → r.hops ≤ 16 →
    mgmtPort s ((routePorts r).getD r.hopIndex 0) = true →
    Completes (.relayForward (.inband p) f) s fun t =>
      t.out = .relivicel (.inband ((routePorts r).getD r.hopIndex 0))
        { f with route := some { r with hopIndex := r.hopIndex + 1, ports := (routePorts r).set r.hopIndex p } } :: s.out ∧
      t.dict = s.dict) ∧
  (∀ (s : State) (p : Nat) (f : RFrame) (r : RRoute) (e : Relay), Relays s (.inband p) f r → f.type = 1 → r.hopIndex = r.hops → r.hops ≤ 16 →
    s.dict.relay.find? (fun e => e.key == relayKey f) = some e → reachable s e.src = true →
    Completes (.relayResponse p f) s fun t => t.out = .relivicel e.src f :: s.out ∧ t.dict.relay = s.dict.relay.erase e) ∧
  (∀ (s : State) (tag keyId fresh : Nat), Live s →
    Completes (.relayEntryExpire tag keyId fresh) s fun t =>
      ∀ e, e ∈ t.dict.relay ↔ (e ∈ s.dict.relay ∧ ¬(e.key = (tag, keyId, fresh) ∧ reached e.due (elapsed s) = true))) ∧
  (∀ s : State, Live s → Completes (.restoreDefaults 0x6C6F6164) s fun t => t.dict.restore = true) ∧
  (∀ (s : State) (v : Nat), Live s → v ≠ 0x6C6F6164 → Completes (.restoreDefaults v) s fun t => t = s) ∧
  (∀ (s : State) (e eid : Nat), Live s → endpointOk s e = true → 1 ≤ eid → eid < 255 →
    Completes (.setEndpointId e eid) s fun t => mget t.dict.eids e 0 = eid ∧ t.out = .mctp e 1 [0, 0, eid, 0] :: s.out) ∧
  (∀ (s : State) (e : Nat), Live s → endpointOk s e = true →
    Completes (.getEndpointId e) s fun t => t.out = .mctp e 2 [0, mget s.dict.eids e 0, 0, 0] :: s.out ∧ t.dict = s.dict) ∧
  (∀ (s : State) (e : Nat), Live s → endpointOk s e = true →
    Completes (.getEndpointUuid e) s fun t =>
      t.out = .mctp e 3 (0 :: (leBytes 16 Config.moduleUuid.toNat).map (fun b => b.toNat)) :: s.out ∧ t.dict = s.dict) ∧
  (∀ (s : State) (e : Nat), Live s → endpointOk s e = true →
    Completes (.getMctpVersionSupport e) s fun t => (∃ n, t.out = .mctp e 4 [0, 1, n] :: s.out) ∧ t.dict = s.dict) ∧
  (∀ (s : State) (e : Nat), Live s → endpointOk s e = true →
    Completes (.getMessageTypeSupport e) s fun t => t.out = .mctp e 5 [0, 1, 0x7E] :: s.out ∧ t.dict = s.dict) ∧
  (∀ (s : State) (e : Nat), Live s → endpointOk s e = true →
    Completes (.getVdmSupport e) s fun t => (∃ n, t.out = .mctp e 6 [0, 0xFF, 0, 0x1E, 0x5B, n] :: s.out) ∧ t.dict = s.dict) ∧
  (∀ s : State, Live s → Completes .mgmtLinkUp s fun t =>
    t.power.mgmtUp = true ∧ ∀ k, k / 256 = 0x1020 → mfind t.objNow k = none) ∧
  (∀ (s : State) (ipv6 : Bool) (a : Nat), Live s → s.power.mgmtUp = true → a ∈ mgmtAddrs s ipv6 →
    Completes (.mgmtAddressResolution ipv6 a) s fun t => t.out = .resolution a ((Config.macBase.toNat + 64) % 2 ^ 48) :: s.out)

/-- Unlocks, write-backs, snapshots (R1053, R1054, R1058, R1059, R1062, R1063). -/
def Obligations.UnlocksEventsAndSnapshots : Prop :=
  (∀ (s : State) (fn b : Nat) (key : Word), Live s → isInn s fn = true → hasUnlock b = true → key.toNat = obj s 0xA010 0 0 →
    Completes (.unlockWrite fn b .full key) s fun t => mfind t.arms b = some (elapsed s) ∧ t.cnt = s.cnt) ∧
  (∀ (s : State) (fn b : Nat) (key : Word), Live s → isInn s fn = true → hasUnlock b = true → key.toNat ≠ obj s 0xA010 0 0 →
    Completes (.unlockWrite fn b .full key) s fun t => armed t b = false ∧ counter t 0x380128 = counter s 0x380128 + 1) ∧
  (∀ (s : State) (b : Nat) (at_ : Word), Live s → mfind s.arms b = some at_ → reached (at_ + 16000000#64) (elapsed s) = true →
    Completes (.unlockLapse b) s fun t => armed t b = false ∧ ∀ c, c ≠ b → armed t c = armed s c) ∧
  (∀ (s : State) (fn off b : Nat) (v : Word), Live s → isInn s fn = true → eventBlock off = some b → wfld v 63 56 = wfld (evReg s b) 63 56 →
    Completes (.eventWriteBack fn off v .full) s fun t =>
      evAny (evReg t b) = false ∧ wfld (evReg t b) 63 56 = wfld (evReg s b) 63 56 ∧ ∀ c, c ≠ b → evReg t c = evReg s c) ∧
  (∀ (s : State) (fn off b : Nat) (v : Word), Live s → isInn s fn = true → eventBlock off = some b → wfld v 63 56 ≠ wfld (evReg s b) 63 56 →
    Completes (.eventWriteBack fn off v .full) s fun t => ∀ c, evReg t c = evReg s c) ∧
  (∀ (s : State) (fn b : Nat), Live s → isInn s fn = true → b < 56 → b ≠ 14 → Keyed 0 s.cnt →
    Completes (.blockSnapshot fn b) s fun t =>
      (∀ off, inBlock b off = true → mget t.snap off 0 = counter s off) ∧
      (∀ off, inBlock b off = false → mget t.snap off 0 = mget s.snap off 0) ∧ t.cnt = s.cnt) ∧
  (∀ (s : State) (fn : Nat), Live s → isInn s fn = true → Completes (.glbSnapshot fn) s fun t => t.snap = s.cnt ∧ t.cnt = s.cnt)

/-- Register writes (R14, R299, R723, R1048, R1049, R1050, R1051, R1067). -/
def Obligations.RegisterWritesLand : Prop :=
  (∀ (s : State) (fn off : Nat) (accesses : List (Part × Word)), Live s → off % 8 ≠ 0 →
    Completes (.registerWrite fn off accesses) s fun t => t = s) ∧
  (∀ (s : State) (fn off : Nat) (accesses : List (Part × Word)), Live s → (∀ x ∈ accesses, wholePart x.1 = none) →
    Completes (.registerWrite fn off accesses) s fun t => t = s) ∧
  (∀ (s : State) (fn n : Nat) (v w : Word), Live s → isInn s fn = true → n < 65535 → v.toNat % 2 ^ 60 ≠ 0 → w.toNat % 2 ^ 60 ≠ 0 →
    Completes (.registerWrite fn (0x780000 + 8 * n) [(.full, v), (.full, w)]) s fun t =>
      mget t.router.shadow n 0 = v.toNat % 2 ^ 60 ∧ mget t.router.shadow (n + 1) 0 = w.toNat % 2 ^ 60 ∧ t.router.active = s.router.active) ∧
  (∀ (s : State) (fn : Nat) (v : Word), Live s → isInn s fn = true →
    Completes (.registerWrite fn 0x200018 [(.full, v)]) s fun t => rd t 0x200018 0 = v &&& 0x87FF#64 ∧ t.events = s.events) ∧
  (∀ (s : State) (fn n : Nat) (v : Word), Live s → isInn s fn = true → n < 65536 → v.toNat % 2 ^ 60 ≠ 0 →
    Completes (.registerWrite fn (0x780000 + 8 * n) [(.full, v)]) s fun t =>
      mget t.router.shadow n 0 = v.toNat % 2 ^ 60 ∧ t.router.active = s.router.active ∧
      ∀ m, m ≠ n → mget t.router.shadow m 0 = mget s.router.shadow m 0) ∧
  (∀ (s : State) (fn : Nat) (v : Word), Live s → isInn s fn = true → (wfld v 15 0 < 500 ∨ 2000 < wfld v 15 0) →
    Completes (.registerWrite fn 0x270018 [(.full, v)]) s fun t => powerLimit t = powerLimit s ∧ evBit t 11 3 = true) ∧
  (∀ (s : State) (fn : Nat) (v : Word), Live s → isInn s fn = true → 500 ≤ wfld v 15 0 → wfld v 15 0 ≤ 2000 →
    Completes (.registerWrite fn 0x270018 [(.full, v)]) s fun t => powerLimit t = wfld v 15 0) ∧
  (∀ (s : State) (fn p c : Nat) (v : Word), Live s → isInn s fn = true → p < 32 → c < 8 → wfld v 25 0 = 0 →
    Completes (.registerWrite fn (pshape p c) [(.full, v)]) s fun t => t.regs = s.regs ∧ t.eff = s.eff ∧ evBit t 6 0 = true) ∧
  (∀ (s : State) (fn p c : Nat) (v : Word), Live s → isInn s fn = true → p < 32 → c < 8 → 1 ≤ wfld v 25 0 → wfld v 25 0 ≤ 800000 →
    64 ≤ wfld v 55 32 →
    Completes (.registerWrite fn (pshape p c) [(.full, v)]) s fun t =>
      rd t (pshape p c) 0 = v &&& 0xC0FFFFFF03FFFFFF#64 ∧ bucketCfg t (pshape p c) = bucketCfg s (pshape p c)) ∧
  (∀ (s : State) (fn : Nat) (v : Word), Live s → (func s fn).enabled = true → (func s fn).fd.enable = false → deskIdle (func s fn).fd = true →
    Completes (.registerWrite fn 0x1000 [(.full, v)]) s fun t =>
      (func t fn).fd.req.base = v.toNat ∧ (func t fn).fd.resp = (func s fn).fd.resp) ∧
  (∀ (s : State) (fn : Nat) (v : Word), Live s → (func s fn).fd.enable = true →
    Completes (.registerWrite fn 0x1000 [(.full, v)]) s fun t => (func t fn).fd = (func s fn).fd)

/-- Power domains (R1046, R1054, R1055, R1072, R1074, R1076). -/
def Obligations.DomainsWakeAndSleep : Prop :=
  (∀ (s : State) (fn d : Nat), Live s → isInn s fn = true → core2Runs s = true → armed s 11 = true → d < 148 → (dom s d).st = 0 → (dom s d).wanting = false →
    Completes (.domainRequest fn d 2) s fun t =>
      (dom t d).req = 2 ∧ (dom t d).wanting = true ∧ d ∈ t.power.queue ∧ (dom t d).st = 0) ∧
  (∀ (s : State) (fn d : Nat), Live s → isInn s fn = true → core2Runs s = true → armed s 11 = true → d < 148 → (dom s d).st = 2 → domPinned s d = false →
    Completes (.domainRequest fn d 0) s fun t => (dom t d).st = 4 ∧ (dom t d).req = 0 ∧ evBit t 11 0 = true) ∧
  (∀ (s : State) (fn d : Nat), Live s → isInn s fn = true → core2Runs s = true → armed s 11 = true → d < 148 → (dom s d).st = 2 → domPinned s d = true →
    Completes (.domainRequest fn d 0) s fun t => t.doms = s.doms ∧ evBit t 11 3 = true) ∧
  (∀ (s : State) (fn d v : Nat), Live s → isInn s fn = true → armed s 11 = false → d < 151 → v ≠ (dom s d).req →
    Completes (.domainRequest fn d v) s fun t => t.doms = s.doms ∧ counter t 0x380128 = counter s 0x380128 + 1) ∧
  (∀ (s : State) (average d : Nat), Live s → core2Runs s = true → s.power.queue.find? (fun d => admits s average d) = some d →
    Completes (.domainWakeAdmit average) s fun t => (dom t d).st = 3 ∧ (dom t d).wanting = false ∧ d ∉ t.power.queue ∧ evBit t 11 0 = true) ∧
  (∀ (s : State) (d : Nat), Live s → core2Runs s = true → (dom s d).st = 3 → (dom s d).next = none →
    Completes (.domainOn d) s fun t =>
      (dom t d).st = 2 ∧ (dom t d).cold = false ∧ counter t (0x272000 + 8 * d) = counter s (0x272000 + 8 * d) + 1) ∧
  (∀ (s : State) (d : Nat), Live s → core2Runs s = true → (dom s d).st = 3 → (dom s d).next = none →
    Completes (.wakeFail d) s fun t => (dom t d).st = 0 ∧ (dom t d).cold = true ∧ evBit t 11 2 = true) ∧
  (∀ (s : State) (d : Nat), Live s → core2Runs s = true → (dom s d).st = 4 → (dom s d).next = none → (∀ r ∈ s.lists, r.tile ≠ some d) →
    Completes (.domainSleepDone d) s fun t => (dom t d).st = (dom s d).req ∧ ((dom s d).req = 0 → (dom t d).cold = true))

/-- The limiter and the thermal monitor (R1077, R1078, R1128, R1129, R1130). -/
def Obligations.PowerIsLimitedAndTheModuleTrips : Prop :=
  (∀ (s : State) (average : Nat), Live s → reached (s.power.stepAt + 1600000) (elapsed s) = true → (powerLimit s < average ∨ s.power.hot = true) →
    Completes (.limiterStep average) s fun t =>
      t.power.duty = Nat.max 4 (s.power.duty - 1) ∧ t.power.stepAt = elapsed s ∧ t.power.limiting = true ∧ (s.power.limiting = false → evBit t 11 1 = true)) ∧
  (∀ (s : State) (average : Nat), Live s → reached (s.power.stepAt + 1600000) (elapsed s) = true → average * 100 < powerLimit s * 95 → s.power.hot = false → tempsCool s = true →
    Completes (.limiterStep average) s fun t => t.power.duty = Nat.min 16 (s.power.duty + 1) ∧ t.power.limiting = false) ∧
  (∀ (s : State) (a b c d e f ci co : Int) (lp : List Int) (hotC : Bool) (vo am wa : Nat), Live s → s.power.resetDue = none →
    a < 11500 → b < 11500 → c < 10500 → d < 10500 → e < 10500 → f < 10500 →
    Completes (.thermalSample [a, b] [c, d, e, f] lp ci co hotC vo am wa) s fun t =>
      teleOf t 0x7000 1 = a ∧ teleOf t 0x7000 2 = b ∧ teleOf t 0x7001 1 = c ∧ t.power.teleTime = s.tide.count ∧ t.power.tripped = s.power.tripped ∧
      (t.power.hot = true ↔ (10000 ≤ a ∨ 10000 ≤ b ∨ 9200 ≤ c ∨ 9200 ≤ d ∨ 9200 ≤ e ∨ 9200 ≤ f)) ∧ t.doms = s.doms) ∧
  (∀ (s : State) (a b ci co : Int) (hb lp : List Int) (hotC : Bool) (vo am wa : Nat), Live s → s.power.tripped = false → 11500 ≤ a →
    Completes (.thermalSample [a, b] hb lp ci co hotC vo am wa) s fun t =>
      t.power.tripped = true ∧ (∀ d < 148, (dom t d).st = 0) ∧ (∀ p < 8, (hport t p).st = .down) ∧ ∀ p < 32, (fport t p).enable = false)

/-- Power, resets and start-up (R47, R1086, R1087, R1088, R1091, R1094, R1095, R1116). -/
def Obligations.ResetsStartTheModuleAgain : Prop :=
  (∀ s : State, s.power.inputOk = false → s.power.pin = false →
    Completes .powerUp s fun t =>
      t.power.inputOk = true ∧ t.tide = {} ∧ t.mem.cells = [] ∧ t.hmem = s.hmem ∧ t.out = s.out ∧ t.errs.history = [] ∧ t.power.lastReset = 0) ∧
  (∀ s : State, s.power.inputOk = true →
    Completes .inputRemoval s fun t => t.power.inputOk = false ∧ t.mem.cells = [] ∧ ∀ d < 151, d ≠ 148 → d ≠ 150 → (dom t d).st = 0) ∧
  (∀ s : State, Live s → resetReady s = true →
    Completes (.moduleResetPin true) s fun t =>
      t.power.pin = true ∧ t.tide.count = s.tide.count ∧ ∀ d < 151, d ≠ 148 → d ≠ 150 → (dom t d).st = 0) ∧
  (∀ s : State, s.power.inputOk = true → s.power.pin = true → resetReady s = true →
    Completes (.moduleResetPin false) s fun t => t.power.pin = false ∧ t.power.lastReset = 1 ∧ t.tide.count = s.tide.count) ∧
  (∀ s : State, Live s → s.dict.stores = [] → resetReady s = true →
    Completes (.moduleReset 0x72737430) s fun t =>
      t.power.lastReset = 2 ∧ t.tide.count = s.tide.count ∧ t.router.st = .unset ∧ t.rooms = State.reset.rooms ∧ t.qps = [] ∧ t.mem.cells = []) ∧
  (∀ (s : State) (v : Nat), Live s → v ≠ 0x72737430 → Completes (.moduleReset v) s fun t => t = s) ∧
  (∀ s : State, Live s → tideResetBad s = false → Completes (.tideReset 0x74696465) s fun t => t.tide = { base := s.tide.base - s.tide.count } ∧ t.sealing.lastKeys = []) ∧
  (∀ s : State, Live s → tideResetBad s = true → Completes (.tideReset 0x74696465) s fun t => t = s) ∧
  (∀ (s : State) (late : Bool), Live s → s.power.started = false → s.power.tripped = false →
    (∀ x ∈ s.doms, startupWaits x.1 = true → x.2.boot = false) →
    Completes (.startupDone late) s fun t =>
      t.power.started = true ∧ ∀ p < 8, (hport s p).st ≠ .down → (func t (fnOf p 0)).enabled = true)

/-- Local reductions and codec commands on sound, charted memory (R525, R541, R544, R547, R646, R648, R657, R658, R660, R668, R669, R676). -/
def Obligations.LocalReductionsAndConversions : Prop :=
  (∀ (s : State) (h : CmdHdr) (b : BulkArgs) (rm z : Nat), Plain h → Begins s h 0x23 1 (localBad h b) rm → (listOf s h rm).hunits = [] → Sound s →
    (listOf s h rm).room = rm → Apart s h rm { next := 0, uses := [(b.dst, fmtBytes (fwsOf b.ctrl b.seed).outFmt b.count)] } →
    s.memWf = true → b.count ≤ 32 → b.norm = 0 → isMx (fwsOf b.ctrl b.seed).inFmt = false →
    localMeets s (cmdCtx s h (listOf s h rm)) (fwsOf b.ctrl b.seed) b = false →
    (∀ a ∈ b.srcs, ∃ y, Charted s (cmdCtx s h (listOf s h rm)) a (fmtBytes (fwsOf b.ctrl b.seed).inFmt b.count) y ∧
      runsMeet (z, b.count * fmtBits (fwsOf b.ctrl b.seed).outFmt / 8) (y, fmtBytes (fwsOf b.ctrl b.seed).inFmt b.count) = false) →
    Charted s (cmdCtx s h (listOf s h rm)) b.dst (b.count * fmtBits (fwsOf b.ctrl b.seed).outFmt / 8) z →
    Completes (.rdcLocalReduce h b) s fun t =>
      let c := fwsOf b.ctrl b.seed
      let x := cmdCtx s h (listOf s h rm)
      let g := if c.float then 0 else (srcExps s x c.inFmt b.count b.srcs 0 1).getD 0 0
      Lands s t z (pack (fmtBits c.outFmt) ((srcElems s x c b.count b.srcs g 0).zipIdx.map fun v => (finalElem c g v.2 v.1).1)) ∧ MovedOn t h) ∧
  (∀ (s : State) (h : CmdHdr) (c : CdcArgs) (rm op y z : Nat) (cmd : Instr), (cmd, op) ∈ [(Instr.cdcConvert h c, 0x20), (.cdcDequantise h c, 0x22)] →
    Plain h → Begins s h op 3 (cdcBad op h c) rm → Granted s h op rm 2 → Sound s → (listOf s h rm).room = rm → Apart s h rm (cdcProg op c) → s.memWf = true → c.count ≤ 32 → isMx c.inFmt = false →
    isMx c.outFmt = false → c.acc = false → c.chunkLantern = 0xFFFF → c.inputLantern = 0xFFFF →
    Charted s (cmdCtx s h (listOf s h rm)) c.src (fmtBytes c.inFmt c.count) y →
    Charted s (cmdCtx s h (listOf s h rm)) c.dst (fmtBytes c.outFmt c.count) z → cdcMeets s (cmdCtx s h (listOf s h rm)) op c = false →
    ((z = y ∧ fmtBits c.outFmt = fmtBits c.inFmt) ∨ runsMeet (z, fmtBytes c.outFmt c.count) (y, fmtBytes c.inFmt c.count) = false) →
    Completes cmd s fun t =>
      LandsTaking s t h op rm 2 z (pack (fmtBits c.outFmt) (((unpack (fmtBits c.inFmt) c.count (devRead s y (fmtBytes c.inFmt c.count))).zipIdx.map fun v =>
        (plainCode c.outFmt c.ovf (if c.round then .sr (cdcDraw c v.2 % 65536) else .even) ((elemValue c.inFmt v.1).mul (f32 c.mul))).1))) ∧
      MovedOn t h) ∧
  (∀ (s : State) (h : CmdHdr) (c : CdcArgs) (rm y z v : Nat), Plain h → Begins s h 0x21 3 (cdcBad 0x21 h c) rm → Granted s h 0x21 rm 2 → Sound s → (listOf s h rm).room = rm → Apart s h rm (cdcProg 0x21 c) →
    s.memWf = true → c.count ≤ 32 → isMx c.outFmt = false → c.chunkLantern = 0xFFFF → c.inputLantern = 0xFFFF →
    Charted s (cmdCtx s h (listOf s h rm)) c.src (fmtBytes c.inFmt c.count) y →
    Charted s (cmdCtx s h (listOf s h rm)) c.dst (fmtBytes c.outFmt c.count) z →
    Charted s (cmdCtx s h (listOf s h rm)) c.res (resSz c * c.count) v →
    (z + fmtBytes c.outFmt c.count ≤ v ∨ v + resSz c * c.count ≤ z) → cdcMeets s (cmdCtx s h (listOf s h rm)) 0x21 c = false →
    ((z = y ∧ fmtBits c.outFmt = fmtBits c.inFmt) ∨ runsMeet (z, fmtBytes c.outFmt c.count) (y, fmtBytes c.inFmt c.count) = false) →
    runsMeet (v, resSz c * c.count) (y, fmtBytes c.inFmt c.count) = false →
    Completes (.cdcQuantiseEf h c) s fun t =>
      let acc := ((unpack (fmtBits c.inFmt) c.count (devRead s y (fmtBytes c.inFmt c.count))).zip
        (unpack (8 * resSz c) c.count (devRead s v (resSz c * c.count)))).map fun p =>
          FV.fma fp32 (elemValue c.inFmt p.1) (f32 c.mul) ((if c.auxFmt = 1 then bf16 else fp32).value p.2)
      let codes := acc.zipIdx.map fun p => (plainCode c.outFmt c.ovf (if c.round then .sr (cdcDraw c p.2 % 65536) else .even) p.1).1
      let res := (acc.zip codes).zipIdx.map fun p =>
        (residual c (if c.round then .sr (cdcDraw c p.2 / 65536 % 65536) else .even) p.1.1 (elemValue c.outFmt p.1.2) p.2).1
      (∀ k < fmtBytes c.outFmt c.count, cellGet t.mem.cells (z + k) = (pack (fmtBits c.outFmt) codes).getD k 0) ∧
      (∀ k < resSz c * c.count, cellGet t.mem.cells (v + k) = (pack (8 * resSz c) res).getD k 0) ∧
      (∀ a, Untaken s h 0x21 rm 2 a → (a < z ∨ z + fmtBytes c.outFmt c.count ≤ a) → (a < v ∨ v + resSz c * c.count ≤ a) → cellGet t.mem.cells a = cellGet s.mem.cells a) ∧
      MovedOn t h)

/-- Update commands on sound, charted memory (R606, R608, R610, R619, R620, R621, R622, R625, R631, R637). -/
def Obligations.UpdatesOfOneElement : Prop :=
  (∀ (s : State) (h : CmdHdr) (u : UpdArgs) (rm op a y : Nat) (cmd : Instr),
    (cmd, op) ∈ [(Instr.updSgd h u, 0x20), (.updAdamw h u, 0x21), (.updLion h u, 0x22), (.updAccumulate h u, 0x24)] →
    Plain h → Begins s h op 2 (updBad op h u) rm → Granted s h op rm 4 → Sound s → (listOf s h rm).room = rm → Apart s h rm (updProg op u) → s.memWf = true → u.count = 1 → u.step = 0 → u.norm = 0 →
    u.outFmt = 15 → u.chunkLantern = 0xFFFF → u.inputLantern = 0xFFFF →
    Charted s (cmdCtx s h (listOf s h rm)) u.base 16384 a → (∀ k < 4096, cellGet s.mem.cells (a + k) = 0) →
    Charted s (cmdCtx s h (listOf s h rm)) u.grad (if u.gradFmt = 0 then 4 else 2) y → updMeets s (cmdCtx s h (listOf s h rm)) op u = false →
    runsMeet (a, 16384) (y, if u.gradFmt = 0 then 4 else 2) = false →
    (soleElem s op u a y (f32 (fp32.ieee (updK u FV.zero))) FV.zero).raw.all FV.isFin = true →
    Completes cmd s fun t =>
      let e := soleElem s op u a y (f32 (fp32.ieee (updK u FV.zero))) FV.zero
      (∀ v, e.w = some v → Holds t (a + 4096) 4 v) ∧ (∀ v, e.s1 = some v → Holds t (a + 8192) (updSz u) v) ∧
      (∀ v, e.s2 = some v → Holds t (a + 12288) (updSz u) v) ∧ Holds t a 8 (2 ^ 32 + u.stateFmt * 256 + op) ∧ Holds t (a + 8) 8 1 ∧
      (∀ i, Untaken s h op rm 4 i → (i < a ∨ a + 16384 ≤ i) → cellGet t.mem.cells i = cellGet s.mem.cells i) ∧ MovedOn t h) ∧
  (∀ (s : State) (h : CmdHdr) (u : UpdArgs) (rm a g p q : Nat), Plain h → Begins s h 0x23 2 (updBad 0x23 h u) rm → Granted s h 0x23 rm 4 → Sound s → (listOf s h rm).room = rm → Apart s h rm (updProg 0x23 u) →
    s.memWf = true → u.count = 1 → u.step = 0 → u.phase = 1 → u.segCount = 1 → u.outFmt = 15 → u.chunkLantern = 0xFFFF →
    Charted s (cmdCtx s h (listOf s h rm)) u.base 16384 a → (∀ k < 4096, cellGet s.mem.cells (a + k) = 0) →
    Charted s (cmdCtx s h (listOf s h rm)) u.segments 32 g → updMeets s (cmdCtx s h (listOf s h rm)) 0x23 u = false → runsMeet (a, 16384) (g, 32) = false →
    devRead s g 32 = leBytes 8 (2 ^ 32) ++ leBytes 8 p ++ leBytes 8 q ++ leBytes 8 0 → p < 2 ^ 64 → q < 2 ^ 64 →
    (fp64.value p).isFin = true → (fp64.value q).isFin = true →
    (soleElem s 0x23 u a 0 (f32 (fp32.ieee FV.zero)) (phiOf u p q)).raw.all FV.isFin = true →
    Completes (.updLamb h u) s fun t =>
      (∀ v, (soleElem s 0x23 u a 0 (f32 (fp32.ieee FV.zero)) (phiOf u p q)).w = some v → Holds t (a + 4096) 4 v) ∧
      Holds t a 8 (2 ^ 32 + u.stateFmt * 256 + 0x23) ∧ Holds t (a + 8) 8 1 ∧
      (∀ i, Untaken s h 0x23 rm 4 i → (i < a ∨ a + 16384 ≤ i) → cellGet t.mem.cells i = cellGet s.mem.cells i) ∧ MovedOn t h)

/-- A step runs the command at the front of the queue (R62, R70). What a step does without a command is the model's choice (log entry 1). -/
def Obligations.StepRunsTheFrontCommand : Prop :=
  (∀ (c : Instr) (l : List Instr) (s : State), step (s.withPending (c :: l)) = exec c (s.withPending l)) ∧
  (∀ s : State, s.pending = [] → s.power.inputOk = true → step s = .next (tideTick s)) ∧
  (∀ s : State, s.pending = [] → s.power.inputOk = false → step s = .next s)

/-- Every command completes, and changes only its parts of the state (R16, R17, R316, R345, R1064). -/
def Obligations.CommandsCompleteWithinTheirScope : Prop :=
  ∀ (c : Instr) (s : State), ∃ t, exec c s = .next t ∧ t.pending = s.pending ∧
    (keep (scopeOf c) s t = t ∨ (s.trv ≠ [] ∧ keep (scopeOf c) (vote s) t = t))

/-- A device in FATAL, and one without power or held in reset (R976, R1087, R1116). -/
def Obligations.FatalAndUnpoweredDevicesStandStill : Prop :=
  (∀ (c : Instr) (s : State), s.errs.fatal = true → fatalServes c = false → exec c s = .next s) ∧
  (∀ (c : Instr) (s : State), unpowered s = true → darkServes c = false → exec c s = .next s)

/-- No step drives a laser outside ON, or above 500 mA (R862, R863, R867, R868). -/
def Obligations.LasersStaySafe : Prop :=
  ∀ s t : State, LasersSafe s → step s = .next t → LasersSafe t

/-- The limiter's duty and the life-cycle state stay legal (R944, R1078, R1079). -/
def Obligations.DutyAndLifeCycleStayLegal : Prop :=
  ∀ s t : State, Legal s → step s = .next t → Legal t ∧ s.sealing.lc ≤ t.sealing.lc

/-- The state after reset (R184, R1068, R1086). -/
def Obligations.ResetIsSound : Prop :=
  State.reset.pending = [] ∧ Live State.reset ∧ State.reset.memWf = true ∧ Sound State.reset ∧ LasersSafe State.reset ∧ Legal State.reset ∧
  (∀ a, cellGet State.reset.mem.cells a = 0) ∧ (∀ n, (qp State.reset n).st = .free) ∧ State.reset.lists = [] ∧ State.reset.windows = [] ∧
  State.reset.coll.itins = [] ∧ (∀ b, evReg State.reset b = 0) ∧ (∀ o, counter State.reset o = 0)

/-- Rotations, mailbox words, and the return to defaults (R907, R927, R1003). -/
def Obligations.WritesStandOnlyWhenTaken : Prop :=
  (∀ (s : State) (fn i : Nat) (fabric : Bool) (owner : Option Nat) (time : Word), Live s → slotOwner s fn fabric = some owner → i < 16 →
    Completes (.rotateAtWrite fn fabric i .full time) s fun t =>
      if ((slotOf s owner i).bank (1 - (slotOf s owner i).active)).loaded = true ∧ (slotOf s owner i).rotating = false
      then slotOf t owner i = { slotOf s owner i with rotateAt := time, rotating := true } ∧ t.out = s.out ∧ t.cnt = s.cnt
      else t = s) ∧
  (∀ (s : State) (fn rm k : Nat) (v : Word), Live s → (func s fn).enabled = true → roomOf s fn = some rm → (room s rm).st ≠ .free →
    (room s rm).fn = fn → k < 16 →
    Completes (.registerWrite fn (0x100000 + 8 * k) [(.full, v)]) s fun t =>
      if (room s rm).outBox.posted = false
      then mget (room t rm).outBox.words k 0 = v ∧ ∀ j, j ≠ k → mget (room t rm).outBox.words j 0 = mget (room s rm).outBox.words j 0
      else t = s) ∧
  (∀ (s : State) (p j rm k : Nat) (v : Word), Live s → (func s (fnOf p 0)).enabled = true → j < 64 → roomOf s (fnOf p 0 + 1 + j) = some rm →
    mailRight s (fnOf p 0) rm true = true → k < 16 →
    Completes (.registerWrite (fnOf p 0) (0x110000 + 0x400 * j + 8 * k) [(.full, v)]) s fun t =>
      if (room s rm).inBox.posted = false
      then mget (room t rm).inBox.words k 0 = v ∧ ∀ j, j ≠ k → mget (room t rm).inBox.words j 0 = mget (room s rm).inBox.words j 0
      else t = s) ∧
  (∀ (s : State) (fn rm k : Nat) (v : Word), Live s → isInn s fn = true → rm < 8 → mailRight s fn rm true = true → k < 16 →
    Completes (.registerWrite fn (0x510000 + 0x400 * rm + 8 * k) [(.full, v)]) s fun t =>
      if (room s rm).inBox.posted = false
      then mget (room t rm).inBox.words k 0 = v ∧ ∀ j, j ≠ k → mget (room t rm).inBox.words j 0 = mget (room s rm).inBox.words j 0
      else t = s) ∧
  (∀ s : State, Live s → Completes (.restoreDefaults 0x6C6F6164) s fun t => t.dict.restore = true ∧ ∀ idx sub d, obj t idx sub d = obj s idx sub d) ∧
  (∀ s : State, Live s → s.dict.restore = true → s.dict.stores = [] → s.power.tripped = false →
    Completes (.moduleReset 0x72737430) s fun t => t.dict.restore = false ∧ t.dict.flash = [] ∧ ∀ idx sub d, obj t idx sub d = d) ∧
  (∀ (s : State) (v : Nat), Live s → v ≠ 0x6C6F6164 → Completes (.restoreDefaults v) s fun t => t = s)

/-- Event registers, buffered fields, gates and pending tables (R94, R100, R114, R1058, R1066). -/
def Obligations.EventsFieldsAndGatesFollowTheirRules : Prop :=
  (∀ (s : State) (b i : Nat), i < 56 →
    wfld (evReg (raise b i s) b) 63 56 = (wfld (evReg s b) 63 56 + 1) % 256 ∧ evBit (raise b i s) b i = true ∧
    ∀ j, j < 56 → j ≠ i → evBit (raise b i s) b j = evBit s b j) ∧
  (∀ (s : State) (fn b : Nat), isInn s fn = true → s.trv = [] → s.errs.fatal = false → b < 56 → b ≠ 14 → b ≠ 15 →
    (barRead s fn 0x200010).getLsbD b = decide (wfld (evReg s b) 55 0 ≠ 0)) ∧
  (∀ (s : State) (fn p : Nat), isInn s fn = true → s.trv = [] → s.errs.fatal = false → p < 8 → barRead s fn (0x280008 + 0x1000 * p) = evReg s (16 + p)) ∧
  (∀ (s : State) (fn p : Nat), isInn s fn = true → s.trv = [] → s.errs.fatal = false → p < 32 → barRead s fn (0x300010 + 0x1000 * p) = evReg s (24 + p)) ∧
  (∀ (s : State) (off rst p : Nat) (v w : Word) (b : Boundary), Live s →
    rdEff (wrBuf off rst w b (wrBuf off rst v b s)) off rst = rdEff s off rst ∧
    Completes (.bufTakeEffect off p b) (wrBuf off rst w b (wrBuf off rst v b s)) fun t => rdEff t off rst = w ∧ rd t off rst = w) ∧
  (∀ (s : State) (p : Nat), gclOn s p = false → gatesOpen s p = 0xFF) ∧
  (∀ (s : State) (fn p : Nat) (old : Gcl × Word), Live s → isInn s fn = true → commitBad s p = false → (tport s p).pend = some old →
    Completes (.tdGclCommit fn p) s fun t =>
      (tport t p).pend = some ({ base := rd s (0x490008 + 0x2000 * p) 0, cycle := wfld (rd s (0x490010 + 0x2000 * p) 0) 29 0,
                                 entries := adminEntries s p (wfld (gclCtrl s p) 40 32) }, 
                      if reached (rd s (0x490018 + 0x2000 * p) 0) s.tide.count then s.tide.count else rd s (0x490018 + 0x2000 * p) 0))

/-- The memory controllers that hold a DPA of tiers 0 and 1 (R178, R179). -/
def Obligations.TierControllersFollowTheInterleave : Prop :=
  (∀ (s : State) (a : Nat), a < 2 ^ 38 →
    tierCtl s a = some (if s.mem.dieLocal0 then 2 * (a / 2 ^ 37 % 2) + a / 2 ^ 12 % 2 else a / 2 ^ 12 % 4)) ∧
  (∀ (s : State) (a : Nat), 2 ^ 40 ≤ a → a < 2 ^ 41 →
    tierCtl s a = some (4 + (if s.mem.dieLocal1 then 4 * (a / 2 ^ 39 % 2) + a / 2 ^ 12 % 4 else a / 2 ^ 12 % 8))) ∧
  (∀ s : State, (loadRws s).mem.dieLocal0 = (obj s 0x3000 1 1 == 1) ∧ (loadRws s).mem.dieLocal1 = (obj s 0x3000 2 1 == 1)) ∧
  State.reset.mem.dieLocal0 = true ∧ State.reset.mem.dieLocal1 = true
end

