-- ==== Sys2Proof/Laws/Map.lean ====
section
/-! SUPPORT. Tables, sets and sparse memory: what a write leaves under every key, and the canonical forms that every operation keeps. -/

namespace Sys2Proof.Machine

open Sys2Proof

/-! ## Tables -/

theorem mget_eq_mfind {α : Type} (m : NMap α) (k : Nat) (d : α) : mget m k d = (mfind m k).getD d := by
  induction m with
  | nil => rfl
  | cons a r ih => obtain ⟨j, w⟩ := a; simp only [mget, mfind]; split <;> simp [ih]

theorem mfind_mset {α : Type} (m : NMap α) (k j : Nat) (v : α) : mfind (mset m k v) j = if j = k then some v else mfind m j := by
  induction m with
  | nil => simp only [mset, mfind]; grind
  | cons a r ih => obtain ⟨i, w⟩ := a; simp only [mset]; grind [mfind]

@[simp] theorem mfind_mset_self {α : Type} (m : NMap α) (k : Nat) (v : α) : mfind (mset m k v) k = some v := by simp [mfind_mset]

@[simp] theorem mfind_mset_ne {α : Type} (m : NMap α) (k j : Nat) (v : α) (h : j ≠ k) : mfind (mset m k v) j = mfind m j := by
  simp [mfind_mset, h]

theorem mget_mset {α : Type} (m : NMap α) (k j : Nat) (v d : α) : mget (mset m k v) j d = if j = k then v else mget m j d := by
  simp only [mget_eq_mfind, mfind_mset]; split <;> rfl

@[simp] theorem mget_mset_self {α : Type} (m : NMap α) (k : Nat) (v d : α) : mget (mset m k v) k d = v := by simp [mget_mset]

@[simp] theorem mget_mset_ne {α : Type} (m : NMap α) (k j : Nat) (v d : α) (h : j ≠ k) : mget (mset m k v) j d = mget m j d := by
  simp [mget_mset, h]

theorem mget_mmod {α : Type} (m : NMap α) (k j : Nat) (d : α) (f : α → α) :
    mget (mmod m k d f) j d = if j = k then f (mget m k d) else mget m j d := mget_mset m k j _ d

@[simp] theorem mget_mmod_self {α : Type} (m : NMap α) (k : Nat) (d : α) (f : α → α) : mget (mmod m k d f) k d = f (mget m k d) := by
  simp [mget_mmod]

@[simp] theorem mget_mmod_ne {α : Type} (m : NMap α) (k j : Nat) (d : α) (f : α → α) (h : j ≠ k) :
    mget (mmod m k d f) j d = mget m j d := by simp [mget_mmod, h]

@[simp] theorem mfind_mdel_ne {α : Type} (m : NMap α) (k j : Nat) (h : j ≠ k) : mfind (mdel m k) j = mfind m j := by
  induction m with
  | nil => rfl
  | cons a r ih =>
    obtain ⟨i, w⟩ := a
    simp only [mdel]
    split
    · rename_i hk
      have hi : i ≠ j := fun e => h (e ▸ hk.symm)
      simp only [mfind, hi, if_false, ih]
    · simp only [mfind, ih]

@[simp] theorem mfind_mdel_self {α : Type} (m : NMap α) (k : Nat) : mfind (mdel m k) k = none := by
  induction m with
  | nil => rfl
  | cons a r ih =>
    obtain ⟨i, w⟩ := a
    simp only [mdel]
    split
    · exact ih
    · have hi : i ≠ k := fun e => ‹¬k = i› e.symm
      simp only [mfind, hi, if_false, ih]

theorem Keyed.weaken {α : Type} {b c : Nat} (h : c ≤ b) : ∀ {m : NMap α}, Keyed b m → Keyed c m
  | [], _ => trivial
  | (_, _) :: _, ⟨h1, h2⟩ => ⟨Nat.le_trans h h1, h2⟩

theorem Keyed.mset {α : Type} {b k : Nat} {v : α} (hk : b ≤ k) : ∀ {m : NMap α}, Keyed b m → Keyed b (mset m k v)
  | [], _ => ⟨hk, trivial⟩
  | (j, w) :: r, ⟨h1, h2⟩ => by
    simp only [Machine.mset]
    split
    · exact ⟨hk, by omega, h2⟩
    · split
      · subst_vars; exact ⟨h1, h2⟩
      · exact ⟨h1, Keyed.mset (by omega) h2⟩

theorem Keyed.mfind_lt {α : Type} {b k : Nat} (hk : k < b) : ∀ {m : NMap α}, Keyed b m → mfind m k = none
  | [], _ => rfl
  | (j, _) :: r, ⟨h1, h2⟩ => by
    have hne : j ≠ k := by omega
    simp only [mfind, hne, if_false]
    exact Keyed.mfind_lt (by omega) h2

theorem Keyed.mdel {α : Type} {b k : Nat} : ∀ {m : NMap α}, Keyed b m → Keyed b (mdel m k)
  | [], _ => trivial
  | (j, _) :: r, ⟨h1, h2⟩ => by
    simp only [Machine.mdel]
    split
    · exact Keyed.mdel (Keyed.weaken (by omega) h2)
    · exact ⟨h1, Keyed.mdel h2⟩

/-! ## Sets of numbers -/

@[simp] theorem mem_sadd (l : List Nat) (x y : Nat) : y ∈ sadd l x ↔ y = x ∨ y ∈ l := by
  induction l with
  | nil => simp [sadd]
  | cons a r ih =>
    simp only [sadd]
    split
    · simp
    · split
      · subst_vars; simp
      · simp only [List.mem_cons, ih]; grind

@[simp] theorem mem_sdel (l : List Nat) (x y : Nat) : y ∈ sdel l x ↔ y ∈ l ∧ y ≠ x := by simp [sdel]

theorem mem_foldl_sadd (ks l : List Nat) (y : Nat) : y ∈ ks.foldl sadd l ↔ y ∈ ks ∨ y ∈ l := by
  induction ks generalizing l with
  | nil => simp
  | cons a r ih => simp only [List.foldl_cons, ih, mem_sadd, List.mem_cons]; grind

/-! ## Sparse memory -/

@[simp] theorem cellGet_nil (a : Nat) : cellGet [] a = 0 := rfl

theorem cellGet_low {b a : Nat} (h : a < b) : ∀ {m : List Host.Cell}, risesFrom b m = true → cellGet m a = 0
  | [], _ => rfl
  | (c, w) :: r, hm => by
    simp only [risesFrom, Bool.and_eq_true, decide_eq_true_eq] at hm
    have hne : c ≠ a := by omega
    simp only [cellGet, mget, hne, if_false]
    exact cellGet_low (by omega : a < c + 1) hm.2

/-- A byte read after a byte written (R184). -/
theorem cellGet_cellSet {b : Nat} : ∀ {m : List Host.Cell}, risesFrom b m = true → ∀ (a : Nat) (v : Byte) (x : Nat),
    cellGet (cellSet m a v) x = if x = a then v else cellGet m x
  | [], _, a, v, x => by simp only [cellSet, cellGet]; grind [mget]
  | (c, w) :: r, hm, a, v, x => by
    simp only [risesFrom, Bool.and_eq_true, decide_eq_true_eq] at hm
    obtain ⟨⟨h1, h2⟩, h3⟩ := hm
    have ih := cellGet_cellSet h3 a v x
    have low : ∀ y, y < c + 1 → cellGet r y = 0 := fun y hy => cellGet_low hy h3
    simp only [cellGet] at ih low ⊢
    simp only [cellSet]
    grind [mget]

theorem risesFrom_weaken {b c : Nat} (h : c ≤ b) : ∀ {m : List Host.Cell}, risesFrom b m = true → risesFrom c m = true
  | [], _ => rfl
  | (_, _) :: _, hm => by
    simp only [risesFrom, Bool.and_eq_true, decide_eq_true_eq] at hm ⊢
    exact ⟨⟨by omega, hm.1.2⟩, hm.2⟩

/-- Writing a byte keeps the canonical form. -/
theorem risesFrom_cellSet {b a : Nat} {v : Byte} (ha : b ≤ a) : ∀ {m : List Host.Cell}, risesFrom b m = true → risesFrom b (cellSet m a v) = true
  | [], _ => by
    simp only [cellSet]; split
    · rfl
    · simp_all [risesFrom]
  | (c, w) :: r, hm => by
    have hm0 := hm
    simp only [risesFrom, Bool.and_eq_true, decide_eq_true_eq] at hm
    obtain ⟨⟨h1, h2⟩, h3⟩ := hm
    simp only [cellSet]
    split
    · split
      · exact hm0
      · simp only [risesFrom, Bool.and_eq_true, decide_eq_true_eq]
        exact ⟨⟨ha, by simp_all⟩, ⟨by omega, h2⟩, h3⟩
    · split
      · subst_vars
        split
        · exact risesFrom_weaken (by omega) h3
        · simp only [risesFrom, Bool.and_eq_true, decide_eq_true_eq]
          exact ⟨⟨h1, by simp_all⟩, h3⟩
      · simp only [risesFrom, Bool.and_eq_true, decide_eq_true_eq]
        exact ⟨⟨h1, h2⟩, risesFrom_cellSet (by omega) h3⟩

/-- Writing a run of bytes keeps the canonical form. -/
theorem risesFrom_cellSets {b : Nat} : ∀ (data : List Byte) {m : List Host.Cell} {a : Nat}, b ≤ a → risesFrom b m = true →
    risesFrom b (cellSets m a data) = true
  | [], _, _, _, h => h
  | _ :: r, _, _, ha, h => risesFrom_cellSets r (by omega) (risesFrom_cellSet ha h)

/-- A byte read after a run of bytes written. -/
theorem cellGet_cellSets {b : Nat} : ∀ (data : List Byte) {m : List Host.Cell} {a : Nat}, b ≤ a → risesFrom b m = true → ∀ x,
    cellGet (cellSets m a data) x = if a ≤ x ∧ x < a + data.length then data.getD (x - a) 0 else cellGet m x
  | [], _, _, _, _, x => by simp only [cellSets, List.length_nil]; split <;> first | omega | rfl
  | v :: r, m, a, ha, h, x => by
    simp only [cellSets, List.length_cons]
    rw [cellGet_cellSets r (by omega) (risesFrom_cellSet ha h) x, cellGet_cellSet h]
    by_cases h1 : x = a
    · subst h1; simp
    · by_cases h2 : a + 1 ≤ x ∧ x < a + 1 + r.length
      · rw [if_pos h2, if_pos (by omega)]
        obtain ⟨k, hk⟩ : ∃ k, x - a = k + 1 := ⟨x - a - 1, by omega⟩
        rw [hk, show x - (a + 1) = k by omega]; simp
      · rw [if_neg h2, if_neg h1, if_neg (by omega)]

theorem risesFrom_filter (p : Host.Cell → Bool) : ∀ {m : List Host.Cell} {b : Nat}, risesFrom b m = true → risesFrom b (m.filter p) = true
  | [], _, _ => rfl
  | (c, w) :: r, b, hm => by
    simp only [risesFrom, Bool.and_eq_true, decide_eq_true_eq] at hm
    obtain ⟨⟨h1, h2⟩, h3⟩ := hm
    have ih := risesFrom_filter p h3
    simp only [List.filter_cons]
    split
    · simp only [risesFrom, Bool.and_eq_true, decide_eq_true_eq]; exact ⟨⟨h1, h2⟩, ih⟩
    · exact risesFrom_weaken (by omega) ih

theorem cellGet_filter (p : Nat → Bool) : ∀ {m : List Host.Cell} {b : Nat}, risesFrom b m = true → ∀ x,
    cellGet (m.filter (fun c => p c.1)) x = if p x then cellGet m x else 0
  | [], _, _, x => by simp
  | (c, w) :: r, b, hm, x => by
    simp only [risesFrom, Bool.and_eq_true, decide_eq_true_eq] at hm
    obtain ⟨⟨h1, h2⟩, h3⟩ := hm
    have ih := cellGet_filter p h3 x
    have low := cellGet_low (Nat.lt_succ_self c) h3
    simp only [cellGet] at ih low ⊢
    simp only [List.filter_cons]
    grind [mget]

/-- Clearing whole blocks keeps the canonical form. -/
theorem clearBlocks_wf (m : DevMem) (b n : Nat) (h : Memory.wf m.cells = true) : Memory.wf (clearBlocks m b n).cells = true :=
  risesFrom_filter _ h

/-- What reads after whole blocks are cleared (R184). -/
theorem cellGet_clearBlocks (m : DevMem) (b n x : Nat) (h : Memory.wf m.cells = true) :
    cellGet (clearBlocks m b n).cells x = if b * 4096 ≤ x ∧ x < (b + n) * 4096 then 0 else cellGet m.cells x := by
  have := cellGet_filter (fun a => !(decide (b * 4096 ≤ a) && decide (a < (b + n) * 4096))) h x
  simp only [clearBlocks]
  rw [this]
  by_cases h1 : b * 4096 ≤ x ∧ x < (b + n) * 4096
  · simp [h1]
  · simp only [h1, if_false]; simp only [not_and, Nat.not_lt] at h1; simp; intro h2 h3; exact absurd (h1 h2) (by omega)

/-- A store to device memory keeps the canonical form. -/
theorem memStore_wf (m : DevMem) (a : Nat) (data : List Byte) (h : Memory.wf m.cells = true) : Memory.wf (memStore m a data).cells = true :=
  risesFrom_cellSets data (Nat.zero_le _) h

/-- What reads after a store to device memory: the bytes stored, and every other byte as before. -/
theorem cellGet_memStore (m : DevMem) (a : Nat) (data : List Byte) (x : Nat) (h : Memory.wf m.cells = true) :
    cellGet (memStore m a data).cells x = if a ≤ x ∧ x < a + data.length then data.getD (x - a) 0 else cellGet m.cells x :=
  cellGet_cellSets data (Nat.zero_le _) h x

end Sys2Proof.Machine
end

