-- ==== Sys2Proof/Laws/State.lean ====
section
/-! SUPPORT. What each named update of the state leaves: one lemma for each field, and one for each record read through it. -/

namespace Sys2Proof.Machine

open Sys2Proof

variable (s r₀ : State)

/-! ## emit -/

@[simp] theorem emit_pending (o : Out) : (emit o s).pending = s.pending := rfl
@[simp] theorem emit_free (o : Out) : (emit o s).free = s.free := rfl
@[simp] theorem emit_regs (o : Out) : (emit o s).regs = s.regs := rfl
@[simp] theorem emit_eff (o : Out) : (emit o s).eff = s.eff := rfl
@[simp] theorem emit_bufs (o : Out) : (emit o s).bufs = s.bufs := rfl
@[simp] theorem emit_events (o : Out) : (emit o s).events = s.events := rfl
@[simp] theorem emit_cnt (o : Out) : (emit o s).cnt = s.cnt := rfl
@[simp] theorem emit_snap (o : Out) : (emit o s).snap = s.snap := rfl
@[simp] theorem emit_arms (o : Out) : (emit o s).arms = s.arms := rfl
@[simp] theorem emit_objs (o : Out) : (emit o s).objs = s.objs := rfl
@[simp] theorem emit_objNow (o : Out) : (emit o s).objNow = s.objNow := rfl
@[simp] theorem emit_tide (o : Out) : (emit o s).tide = s.tide := rfl
@[simp] theorem emit_hports (o : Out) : (emit o s).hports = s.hports := rfl
@[simp] theorem emit_funcs (o : Out) : (emit o s).funcs = s.funcs := rfl
@[simp] theorem emit_hmem (o : Out) : (emit o s).hmem = s.hmem := rfl
@[simp] theorem emit_hpoison (o : Out) : (emit o s).hpoison = s.hpoison := rfl
@[simp] theorem emit_mem (o : Out) : (emit o s).mem = s.mem := rfl
@[simp] theorem emit_mapLines (o : Out) : (emit o s).mapLines = s.mapLines := rfl
@[simp] theorem emit_ds (o : Out) : (emit o s).ds = s.ds := rfl
@[simp] theorem emit_tcache (o : Out) : (emit o s).tcache = s.tcache := rfl
@[simp] theorem emit_ats (o : Out) : (emit o s).ats = s.ats := rfl
@[simp] theorem emit_invals (o : Out) : (emit o s).invals = s.invals := rfl
@[simp] theorem emit_windows (o : Out) : (emit o s).windows = s.windows := rfl
@[simp] theorem emit_winNext (o : Out) : (emit o s).winNext = s.winNext := rfl
@[simp] theorem emit_winFreed (o : Out) : (emit o s).winFreed = s.winFreed := rfl
@[simp] theorem emit_queues (o : Out) : (emit o s).queues = s.queues := rfl
@[simp] theorem emit_lists (o : Out) : (emit o s).lists = s.lists := rfl
@[simp] theorem emit_rrRoom (o : Out) : (emit o s).rrRoom = s.rrRoom := rfl
@[simp] theorem emit_rrQueue (o : Out) : (emit o s).rrQueue = s.rrQueue := rfl
@[simp] theorem emit_tilesHalted (o : Out) : (emit o s).tilesHalted = s.tilesHalted := rfl
@[simp] theorem emit_seawalls (o : Out) : (emit o s).seawalls = s.seawalls := rfl
@[simp] theorem emit_nextSeawall (o : Out) : (emit o s).nextSeawall = s.nextSeawall := rfl
@[simp] theorem emit_qps (o : Out) : (emit o s).qps = s.qps := rfl
@[simp] theorem emit_porch (o : Out) : (emit o s).porch = s.porch := rfl
@[simp] theorem emit_hot (o : Out) : (emit o s).hot = s.hot := rfl
@[simp] theorem emit_warm (o : Out) : (emit o s).warm = s.warm := rfl
@[simp] theorem emit_rooms (o : Out) : (emit o s).rooms = s.rooms := rfl
@[simp] theorem emit_coll (o : Out) : (emit o s).coll = s.coll := rfl
@[simp] theorem emit_errs (o : Out) : (emit o s).errs = s.errs := rfl
@[simp] theorem emit_fports (o : Out) : (emit o s).fports = s.fports := rfl
@[simp] theorem emit_router (o : Out) : (emit o s).router = s.router := rfl
@[simp] theorem emit_heldPkts (o : Out) : (emit o s).heldPkts = s.heldPkts := rfl
@[simp] theorem emit_ethResult (o : Out) : (emit o s).ethResult = s.ethResult := rfl
@[simp] theorem emit_tokens (o : Out) : (emit o s).tokens = s.tokens := rfl
@[simp] theorem emit_tokenFrac (o : Out) : (emit o s).tokenFrac = s.tokenFrac := rfl
@[simp] theorem emit_sealing (o : Out) : (emit o s).sealing = s.sealing := rfl
@[simp] theorem emit_doms (o : Out) : (emit o s).doms = s.doms := rfl
@[simp] theorem emit_lanes (o : Out) : (emit o s).lanes = s.lanes := rfl
@[simp] theorem emit_lasers (o : Out) : (emit o s).lasers = s.lasers := rfl
@[simp] theorem emit_laserEn (o : Out) : (emit o s).laserEn = s.laserEn := rfl
@[simp] theorem emit_peTemp (o : Out) : (emit o s).peTemp = s.peTemp := rfl
@[simp] theorem emit_power (o : Out) : (emit o s).power = s.power := rfl
@[simp] theorem emit_dict (o : Out) : (emit o s).dict = s.dict := rfl
@[simp] theorem emit_trv (o : Out) : (emit o s).trv = s.trv := rfl
@[simp] theorem emit_func (o : Out) (fn₀ : Nat) : func (emit o s) fn₀ = func s fn₀ := rfl
@[simp] theorem emit_hport (o : Out) (p₀ : Nat) : hport (emit o s) p₀ = hport s p₀ := rfl
@[simp] theorem emit_room (o : Out) (r₀ : Nat) : room (emit o s) r₀ = room s r₀ := rfl
@[simp] theorem emit_roomOf (o : Out) (fn₀ : Nat) : roomOf (emit o s) fn₀ = roomOf s fn₀ := rfl
@[simp] theorem emit_queue (o : Out) (fn₀ q₀ : Nat) : queue (emit o s) fn₀ q₀ = queue s fn₀ q₀ := rfl
@[simp] theorem emit_qp (o : Out) (n₀ : Nat) : qp (emit o s) n₀ = qp s n₀ := rfl
@[simp] theorem emit_fport (o : Out) (p₀ : Nat) : fport (emit o s) p₀ = fport s p₀ := rfl

/-! ## useFresh -/

@[simp] theorem useFresh_pending : (useFresh s).pending = s.pending := rfl
@[simp] theorem useFresh_out : (useFresh s).out = s.out := rfl
@[simp] theorem useFresh_regs : (useFresh s).regs = s.regs := rfl
@[simp] theorem useFresh_eff : (useFresh s).eff = s.eff := rfl
@[simp] theorem useFresh_bufs : (useFresh s).bufs = s.bufs := rfl
@[simp] theorem useFresh_events : (useFresh s).events = s.events := rfl
@[simp] theorem useFresh_cnt : (useFresh s).cnt = s.cnt := rfl
@[simp] theorem useFresh_snap : (useFresh s).snap = s.snap := rfl
@[simp] theorem useFresh_arms : (useFresh s).arms = s.arms := rfl
@[simp] theorem useFresh_objs : (useFresh s).objs = s.objs := rfl
@[simp] theorem useFresh_objNow : (useFresh s).objNow = s.objNow := rfl
@[simp] theorem useFresh_tide : (useFresh s).tide = s.tide := rfl
@[simp] theorem useFresh_hports : (useFresh s).hports = s.hports := rfl
@[simp] theorem useFresh_funcs : (useFresh s).funcs = s.funcs := rfl
@[simp] theorem useFresh_hmem : (useFresh s).hmem = s.hmem := rfl
@[simp] theorem useFresh_hpoison : (useFresh s).hpoison = s.hpoison := rfl
@[simp] theorem useFresh_mem : (useFresh s).mem = s.mem := rfl
@[simp] theorem useFresh_mapLines : (useFresh s).mapLines = s.mapLines := rfl
@[simp] theorem useFresh_ds : (useFresh s).ds = s.ds := rfl
@[simp] theorem useFresh_tcache : (useFresh s).tcache = s.tcache := rfl
@[simp] theorem useFresh_ats : (useFresh s).ats = s.ats := rfl
@[simp] theorem useFresh_invals : (useFresh s).invals = s.invals := rfl
@[simp] theorem useFresh_windows : (useFresh s).windows = s.windows := rfl
@[simp] theorem useFresh_winNext : (useFresh s).winNext = s.winNext := rfl
@[simp] theorem useFresh_winFreed : (useFresh s).winFreed = s.winFreed := rfl
@[simp] theorem useFresh_queues : (useFresh s).queues = s.queues := rfl
@[simp] theorem useFresh_lists : (useFresh s).lists = s.lists := rfl
@[simp] theorem useFresh_rrRoom : (useFresh s).rrRoom = s.rrRoom := rfl
@[simp] theorem useFresh_rrQueue : (useFresh s).rrQueue = s.rrQueue := rfl
@[simp] theorem useFresh_tilesHalted : (useFresh s).tilesHalted = s.tilesHalted := rfl
@[simp] theorem useFresh_seawalls : (useFresh s).seawalls = s.seawalls := rfl
@[simp] theorem useFresh_nextSeawall : (useFresh s).nextSeawall = s.nextSeawall := rfl
@[simp] theorem useFresh_qps : (useFresh s).qps = s.qps := rfl
@[simp] theorem useFresh_porch : (useFresh s).porch = s.porch := rfl
@[simp] theorem useFresh_hot : (useFresh s).hot = s.hot := rfl
@[simp] theorem useFresh_warm : (useFresh s).warm = s.warm := rfl
@[simp] theorem useFresh_rooms : (useFresh s).rooms = s.rooms := rfl
@[simp] theorem useFresh_coll : (useFresh s).coll = s.coll := rfl
@[simp] theorem useFresh_errs : (useFresh s).errs = s.errs := rfl
@[simp] theorem useFresh_fports : (useFresh s).fports = s.fports := rfl
@[simp] theorem useFresh_router : (useFresh s).router = s.router := rfl
@[simp] theorem useFresh_heldPkts : (useFresh s).heldPkts = s.heldPkts := rfl
@[simp] theorem useFresh_ethResult : (useFresh s).ethResult = s.ethResult := rfl
@[simp] theorem useFresh_tokens : (useFresh s).tokens = s.tokens := rfl
@[simp] theorem useFresh_tokenFrac : (useFresh s).tokenFrac = s.tokenFrac := rfl
@[simp] theorem useFresh_sealing : (useFresh s).sealing = s.sealing := rfl
@[simp] theorem useFresh_doms : (useFresh s).doms = s.doms := rfl
@[simp] theorem useFresh_lanes : (useFresh s).lanes = s.lanes := rfl
@[simp] theorem useFresh_lasers : (useFresh s).lasers = s.lasers := rfl
@[simp] theorem useFresh_laserEn : (useFresh s).laserEn = s.laserEn := rfl
@[simp] theorem useFresh_peTemp : (useFresh s).peTemp = s.peTemp := rfl
@[simp] theorem useFresh_power : (useFresh s).power = s.power := rfl
@[simp] theorem useFresh_dict : (useFresh s).dict = s.dict := rfl
@[simp] theorem useFresh_trv : (useFresh s).trv = s.trv := rfl
@[simp] theorem useFresh_func (fn₀ : Nat) : func (useFresh s) fn₀ = func s fn₀ := rfl
@[simp] theorem useFresh_hport (p₀ : Nat) : hport (useFresh s) p₀ = hport s p₀ := rfl
@[simp] theorem useFresh_room (r₀ : Nat) : room (useFresh s) r₀ = room s r₀ := rfl
@[simp] theorem useFresh_roomOf (fn₀ : Nat) : roomOf (useFresh s) fn₀ = roomOf s fn₀ := rfl
@[simp] theorem useFresh_queue (fn₀ q₀ : Nat) : queue (useFresh s) fn₀ q₀ = queue s fn₀ q₀ := rfl
@[simp] theorem useFresh_qp (n₀ : Nat) : qp (useFresh s) n₀ = qp s n₀ := rfl
@[simp] theorem useFresh_fport (p₀ : Nat) : fport (useFresh s) p₀ = fport s p₀ := rfl

/-! ## wr -/

@[simp] theorem wr_pending (off : Nat) (v : Word) : (wr off v s).pending = s.pending := rfl
@[simp] theorem wr_out (off : Nat) (v : Word) : (wr off v s).out = s.out := rfl
@[simp] theorem wr_free (off : Nat) (v : Word) : (wr off v s).free = s.free := rfl
@[simp] theorem wr_eff (off : Nat) (v : Word) : (wr off v s).eff = s.eff := rfl
@[simp] theorem wr_bufs (off : Nat) (v : Word) : (wr off v s).bufs = s.bufs := rfl
@[simp] theorem wr_events (off : Nat) (v : Word) : (wr off v s).events = s.events := rfl
@[simp] theorem wr_cnt (off : Nat) (v : Word) : (wr off v s).cnt = s.cnt := rfl
@[simp] theorem wr_snap (off : Nat) (v : Word) : (wr off v s).snap = s.snap := rfl
@[simp] theorem wr_arms (off : Nat) (v : Word) : (wr off v s).arms = s.arms := rfl
@[simp] theorem wr_objs (off : Nat) (v : Word) : (wr off v s).objs = s.objs := rfl
@[simp] theorem wr_objNow (off : Nat) (v : Word) : (wr off v s).objNow = s.objNow := rfl
@[simp] theorem wr_tide (off : Nat) (v : Word) : (wr off v s).tide = s.tide := rfl
@[simp] theorem wr_hports (off : Nat) (v : Word) : (wr off v s).hports = s.hports := rfl
@[simp] theorem wr_funcs (off : Nat) (v : Word) : (wr off v s).funcs = s.funcs := rfl
@[simp] theorem wr_hmem (off : Nat) (v : Word) : (wr off v s).hmem = s.hmem := rfl
@[simp] theorem wr_hpoison (off : Nat) (v : Word) : (wr off v s).hpoison = s.hpoison := rfl
@[simp] theorem wr_mem (off : Nat) (v : Word) : (wr off v s).mem = s.mem := rfl
@[simp] theorem wr_mapLines (off : Nat) (v : Word) : (wr off v s).mapLines = s.mapLines := rfl
@[simp] theorem wr_ds (off : Nat) (v : Word) : (wr off v s).ds = s.ds := rfl
@[simp] theorem wr_tcache (off : Nat) (v : Word) : (wr off v s).tcache = s.tcache := rfl
@[simp] theorem wr_ats (off : Nat) (v : Word) : (wr off v s).ats = s.ats := rfl
@[simp] theorem wr_invals (off : Nat) (v : Word) : (wr off v s).invals = s.invals := rfl
@[simp] theorem wr_windows (off : Nat) (v : Word) : (wr off v s).windows = s.windows := rfl
@[simp] theorem wr_winNext (off : Nat) (v : Word) : (wr off v s).winNext = s.winNext := rfl
@[simp] theorem wr_winFreed (off : Nat) (v : Word) : (wr off v s).winFreed = s.winFreed := rfl
@[simp] theorem wr_queues (off : Nat) (v : Word) : (wr off v s).queues = s.queues := rfl
@[simp] theorem wr_lists (off : Nat) (v : Word) : (wr off v s).lists = s.lists := rfl
@[simp] theorem wr_rrRoom (off : Nat) (v : Word) : (wr off v s).rrRoom = s.rrRoom := rfl
@[simp] theorem wr_rrQueue (off : Nat) (v : Word) : (wr off v s).rrQueue = s.rrQueue := rfl
@[simp] theorem wr_tilesHalted (off : Nat) (v : Word) : (wr off v s).tilesHalted = s.tilesHalted := rfl
@[simp] theorem wr_seawalls (off : Nat) (v : Word) : (wr off v s).seawalls = s.seawalls := rfl
@[simp] theorem wr_nextSeawall (off : Nat) (v : Word) : (wr off v s).nextSeawall = s.nextSeawall := rfl
@[simp] theorem wr_qps (off : Nat) (v : Word) : (wr off v s).qps = s.qps := rfl
@[simp] theorem wr_porch (off : Nat) (v : Word) : (wr off v s).porch = s.porch := rfl
@[simp] theorem wr_hot (off : Nat) (v : Word) : (wr off v s).hot = s.hot := rfl
@[simp] theorem wr_warm (off : Nat) (v : Word) : (wr off v s).warm = s.warm := rfl
@[simp] theorem wr_rooms (off : Nat) (v : Word) : (wr off v s).rooms = s.rooms := rfl
@[simp] theorem wr_coll (off : Nat) (v : Word) : (wr off v s).coll = s.coll := rfl
@[simp] theorem wr_errs (off : Nat) (v : Word) : (wr off v s).errs = s.errs := rfl
@[simp] theorem wr_fports (off : Nat) (v : Word) : (wr off v s).fports = s.fports := rfl
@[simp] theorem wr_router (off : Nat) (v : Word) : (wr off v s).router = s.router := rfl
@[simp] theorem wr_heldPkts (off : Nat) (v : Word) : (wr off v s).heldPkts = s.heldPkts := rfl
@[simp] theorem wr_ethResult (off : Nat) (v : Word) : (wr off v s).ethResult = s.ethResult := rfl
@[simp] theorem wr_tokens (off : Nat) (v : Word) : (wr off v s).tokens = s.tokens := rfl
@[simp] theorem wr_tokenFrac (off : Nat) (v : Word) : (wr off v s).tokenFrac = s.tokenFrac := rfl
@[simp] theorem wr_sealing (off : Nat) (v : Word) : (wr off v s).sealing = s.sealing := rfl
@[simp] theorem wr_doms (off : Nat) (v : Word) : (wr off v s).doms = s.doms := rfl
@[simp] theorem wr_lanes (off : Nat) (v : Word) : (wr off v s).lanes = s.lanes := rfl
@[simp] theorem wr_lasers (off : Nat) (v : Word) : (wr off v s).lasers = s.lasers := rfl
@[simp] theorem wr_laserEn (off : Nat) (v : Word) : (wr off v s).laserEn = s.laserEn := rfl
@[simp] theorem wr_peTemp (off : Nat) (v : Word) : (wr off v s).peTemp = s.peTemp := rfl
@[simp] theorem wr_power (off : Nat) (v : Word) : (wr off v s).power = s.power := rfl
@[simp] theorem wr_dict (off : Nat) (v : Word) : (wr off v s).dict = s.dict := rfl
@[simp] theorem wr_trv (off : Nat) (v : Word) : (wr off v s).trv = s.trv := rfl
@[simp] theorem wr_func (off : Nat) (v : Word) (fn₀ : Nat) : func (wr off v s) fn₀ = func s fn₀ := rfl
@[simp] theorem wr_hport (off : Nat) (v : Word) (p₀ : Nat) : hport (wr off v s) p₀ = hport s p₀ := rfl
@[simp] theorem wr_room (off : Nat) (v : Word) (r₀ : Nat) : room (wr off v s) r₀ = room s r₀ := rfl
@[simp] theorem wr_roomOf (off : Nat) (v : Word) (fn₀ : Nat) : roomOf (wr off v s) fn₀ = roomOf s fn₀ := rfl
@[simp] theorem wr_queue (off : Nat) (v : Word) (fn₀ q₀ : Nat) : queue (wr off v s) fn₀ q₀ = queue s fn₀ q₀ := rfl
@[simp] theorem wr_qp (off : Nat) (v : Word) (n₀ : Nat) : qp (wr off v s) n₀ = qp s n₀ := rfl
@[simp] theorem wr_fport (off : Nat) (v : Word) (p₀ : Nat) : fport (wr off v s) p₀ = fport s p₀ := rfl

/-! ## wrBuf -/

@[simp] theorem wrBuf_pending (off rst : Nat) (v : Word) (bd : Boundary) : (wrBuf off rst v bd s).pending = s.pending := rfl
@[simp] theorem wrBuf_out (off rst : Nat) (v : Word) (bd : Boundary) : (wrBuf off rst v bd s).out = s.out := rfl
@[simp] theorem wrBuf_free (off rst : Nat) (v : Word) (bd : Boundary) : (wrBuf off rst v bd s).free = s.free := rfl
@[simp] theorem wrBuf_events (off rst : Nat) (v : Word) (bd : Boundary) : (wrBuf off rst v bd s).events = s.events := rfl
@[simp] theorem wrBuf_cnt (off rst : Nat) (v : Word) (bd : Boundary) : (wrBuf off rst v bd s).cnt = s.cnt := rfl
@[simp] theorem wrBuf_snap (off rst : Nat) (v : Word) (bd : Boundary) : (wrBuf off rst v bd s).snap = s.snap := rfl
@[simp] theorem wrBuf_arms (off rst : Nat) (v : Word) (bd : Boundary) : (wrBuf off rst v bd s).arms = s.arms := rfl
@[simp] theorem wrBuf_objs (off rst : Nat) (v : Word) (bd : Boundary) : (wrBuf off rst v bd s).objs = s.objs := rfl
@[simp] theorem wrBuf_objNow (off rst : Nat) (v : Word) (bd : Boundary) : (wrBuf off rst v bd s).objNow = s.objNow := rfl
@[simp] theorem wrBuf_tide (off rst : Nat) (v : Word) (bd : Boundary) : (wrBuf off rst v bd s).tide = s.tide := rfl
@[simp] theorem wrBuf_hports (off rst : Nat) (v : Word) (bd : Boundary) : (wrBuf off rst v bd s).hports = s.hports := rfl
@[simp] theorem wrBuf_funcs (off rst : Nat) (v : Word) (bd : Boundary) : (wrBuf off rst v bd s).funcs = s.funcs := rfl
@[simp] theorem wrBuf_hmem (off rst : Nat) (v : Word) (bd : Boundary) : (wrBuf off rst v bd s).hmem = s.hmem := rfl
@[simp] theorem wrBuf_hpoison (off rst : Nat) (v : Word) (bd : Boundary) : (wrBuf off rst v bd s).hpoison = s.hpoison := rfl
@[simp] theorem wrBuf_mem (off rst : Nat) (v : Word) (bd : Boundary) : (wrBuf off rst v bd s).mem = s.mem := rfl
@[simp] theorem wrBuf_mapLines (off rst : Nat) (v : Word) (bd : Boundary) : (wrBuf off rst v bd s).mapLines = s.mapLines := rfl
@[simp] theorem wrBuf_ds (off rst : Nat) (v : Word) (bd : Boundary) : (wrBuf off rst v bd s).ds = s.ds := rfl
@[simp] theorem wrBuf_tcache (off rst : Nat) (v : Word) (bd : Boundary) : (wrBuf off rst v bd s).tcache = s.tcache := rfl
@[simp] theorem wrBuf_ats (off rst : Nat) (v : Word) (bd : Boundary) : (wrBuf off rst v bd s).ats = s.ats := rfl
@[simp] theorem wrBuf_invals (off rst : Nat) (v : Word) (bd : Boundary) : (wrBuf off rst v bd s).invals = s.invals := rfl
@[simp] theorem wrBuf_windows (off rst : Nat) (v : Word) (bd : Boundary) : (wrBuf off rst v bd s).windows = s.windows := rfl
@[simp] theorem wrBuf_winNext (off rst : Nat) (v : Word) (bd : Boundary) : (wrBuf off rst v bd s).winNext = s.winNext := rfl
@[simp] theorem wrBuf_winFreed (off rst : Nat) (v : Word) (bd : Boundary) : (wrBuf off rst v bd s).winFreed = s.winFreed := rfl
@[simp] theorem wrBuf_queues (off rst : Nat) (v : Word) (bd : Boundary) : (wrBuf off rst v bd s).queues = s.queues := rfl
@[simp] theorem wrBuf_lists (off rst : Nat) (v : Word) (bd : Boundary) : (wrBuf off rst v bd s).lists = s.lists := rfl
@[simp] theorem wrBuf_rrRoom (off rst : Nat) (v : Word) (bd : Boundary) : (wrBuf off rst v bd s).rrRoom = s.rrRoom := rfl
@[simp] theorem wrBuf_rrQueue (off rst : Nat) (v : Word) (bd : Boundary) : (wrBuf off rst v bd s).rrQueue = s.rrQueue := rfl
@[simp] theorem wrBuf_tilesHalted (off rst : Nat) (v : Word) (bd : Boundary) : (wrBuf off rst v bd s).tilesHalted = s.tilesHalted := rfl
@[simp] theorem wrBuf_seawalls (off rst : Nat) (v : Word) (bd : Boundary) : (wrBuf off rst v bd s).seawalls = s.seawalls := rfl
@[simp] theorem wrBuf_nextSeawall (off rst : Nat) (v : Word) (bd : Boundary) : (wrBuf off rst v bd s).nextSeawall = s.nextSeawall := rfl
@[simp] theorem wrBuf_qps (off rst : Nat) (v : Word) (bd : Boundary) : (wrBuf off rst v bd s).qps = s.qps := rfl
@[simp] theorem wrBuf_porch (off rst : Nat) (v : Word) (bd : Boundary) : (wrBuf off rst v bd s).porch = s.porch := rfl
@[simp] theorem wrBuf_hot (off rst : Nat) (v : Word) (bd : Boundary) : (wrBuf off rst v bd s).hot = s.hot := rfl
@[simp] theorem wrBuf_warm (off rst : Nat) (v : Word) (bd : Boundary) : (wrBuf off rst v bd s).warm = s.warm := rfl
@[simp] theorem wrBuf_rooms (off rst : Nat) (v : Word) (bd : Boundary) : (wrBuf off rst v bd s).rooms = s.rooms := rfl
@[simp] theorem wrBuf_coll (off rst : Nat) (v : Word) (bd : Boundary) : (wrBuf off rst v bd s).coll = s.coll := rfl
@[simp] theorem wrBuf_errs (off rst : Nat) (v : Word) (bd : Boundary) : (wrBuf off rst v bd s).errs = s.errs := rfl
@[simp] theorem wrBuf_fports (off rst : Nat) (v : Word) (bd : Boundary) : (wrBuf off rst v bd s).fports = s.fports := rfl
@[simp] theorem wrBuf_router (off rst : Nat) (v : Word) (bd : Boundary) : (wrBuf off rst v bd s).router = s.router := rfl
@[simp] theorem wrBuf_heldPkts (off rst : Nat) (v : Word) (bd : Boundary) : (wrBuf off rst v bd s).heldPkts = s.heldPkts := rfl
@[simp] theorem wrBuf_ethResult (off rst : Nat) (v : Word) (bd : Boundary) : (wrBuf off rst v bd s).ethResult = s.ethResult := rfl
@[simp] theorem wrBuf_tokens (off rst : Nat) (v : Word) (bd : Boundary) : (wrBuf off rst v bd s).tokens = s.tokens := rfl
@[simp] theorem wrBuf_tokenFrac (off rst : Nat) (v : Word) (bd : Boundary) : (wrBuf off rst v bd s).tokenFrac = s.tokenFrac := rfl
@[simp] theorem wrBuf_sealing (off rst : Nat) (v : Word) (bd : Boundary) : (wrBuf off rst v bd s).sealing = s.sealing := rfl
@[simp] theorem wrBuf_doms (off rst : Nat) (v : Word) (bd : Boundary) : (wrBuf off rst v bd s).doms = s.doms := rfl
@[simp] theorem wrBuf_lanes (off rst : Nat) (v : Word) (bd : Boundary) : (wrBuf off rst v bd s).lanes = s.lanes := rfl
@[simp] theorem wrBuf_lasers (off rst : Nat) (v : Word) (bd : Boundary) : (wrBuf off rst v bd s).lasers = s.lasers := rfl
@[simp] theorem wrBuf_laserEn (off rst : Nat) (v : Word) (bd : Boundary) : (wrBuf off rst v bd s).laserEn = s.laserEn := rfl
@[simp] theorem wrBuf_peTemp (off rst : Nat) (v : Word) (bd : Boundary) : (wrBuf off rst v bd s).peTemp = s.peTemp := rfl
@[simp] theorem wrBuf_power (off rst : Nat) (v : Word) (bd : Boundary) : (wrBuf off rst v bd s).power = s.power := rfl
@[simp] theorem wrBuf_dict (off rst : Nat) (v : Word) (bd : Boundary) : (wrBuf off rst v bd s).dict = s.dict := rfl
@[simp] theorem wrBuf_trv (off rst : Nat) (v : Word) (bd : Boundary) : (wrBuf off rst v bd s).trv = s.trv := rfl
@[simp] theorem wrBuf_func (off rst : Nat) (v : Word) (bd : Boundary) (fn₀ : Nat) : func (wrBuf off rst v bd s) fn₀ = func s fn₀ := rfl
@[simp] theorem wrBuf_hport (off rst : Nat) (v : Word) (bd : Boundary) (p₀ : Nat) : hport (wrBuf off rst v bd s) p₀ = hport s p₀ := rfl
@[simp] theorem wrBuf_room (off rst : Nat) (v : Word) (bd : Boundary) (r₀ : Nat) : room (wrBuf off rst v bd s) r₀ = room s r₀ := rfl
@[simp] theorem wrBuf_roomOf (off rst : Nat) (v : Word) (bd : Boundary) (fn₀ : Nat) : roomOf (wrBuf off rst v bd s) fn₀ = roomOf s fn₀ := rfl
@[simp] theorem wrBuf_queue (off rst : Nat) (v : Word) (bd : Boundary) (fn₀ q₀ : Nat) : queue (wrBuf off rst v bd s) fn₀ q₀ = queue s fn₀ q₀ := rfl
@[simp] theorem wrBuf_qp (off rst : Nat) (v : Word) (bd : Boundary) (n₀ : Nat) : qp (wrBuf off rst v bd s) n₀ = qp s n₀ := rfl
@[simp] theorem wrBuf_fport (off rst : Nat) (v : Word) (bd : Boundary) (p₀ : Nat) : fport (wrBuf off rst v bd s) p₀ = fport s p₀ := rfl

/-! ## modFunc -/

@[simp] theorem modFunc_pending (fn : Nat) (f : Func → Func) : (modFunc fn f s).pending = s.pending := rfl
@[simp] theorem modFunc_out (fn : Nat) (f : Func → Func) : (modFunc fn f s).out = s.out := rfl
@[simp] theorem modFunc_free (fn : Nat) (f : Func → Func) : (modFunc fn f s).free = s.free := rfl
@[simp] theorem modFunc_regs (fn : Nat) (f : Func → Func) : (modFunc fn f s).regs = s.regs := rfl
@[simp] theorem modFunc_eff (fn : Nat) (f : Func → Func) : (modFunc fn f s).eff = s.eff := rfl
@[simp] theorem modFunc_bufs (fn : Nat) (f : Func → Func) : (modFunc fn f s).bufs = s.bufs := rfl
@[simp] theorem modFunc_events (fn : Nat) (f : Func → Func) : (modFunc fn f s).events = s.events := rfl
@[simp] theorem modFunc_cnt (fn : Nat) (f : Func → Func) : (modFunc fn f s).cnt = s.cnt := rfl
@[simp] theorem modFunc_snap (fn : Nat) (f : Func → Func) : (modFunc fn f s).snap = s.snap := rfl
@[simp] theorem modFunc_arms (fn : Nat) (f : Func → Func) : (modFunc fn f s).arms = s.arms := rfl
@[simp] theorem modFunc_objs (fn : Nat) (f : Func → Func) : (modFunc fn f s).objs = s.objs := rfl
@[simp] theorem modFunc_objNow (fn : Nat) (f : Func → Func) : (modFunc fn f s).objNow = s.objNow := rfl
@[simp] theorem modFunc_tide (fn : Nat) (f : Func → Func) : (modFunc fn f s).tide = s.tide := rfl
@[simp] theorem modFunc_hports (fn : Nat) (f : Func → Func) : (modFunc fn f s).hports = s.hports := rfl
@[simp] theorem modFunc_hmem (fn : Nat) (f : Func → Func) : (modFunc fn f s).hmem = s.hmem := rfl
@[simp] theorem modFunc_hpoison (fn : Nat) (f : Func → Func) : (modFunc fn f s).hpoison = s.hpoison := rfl
@[simp] theorem modFunc_mem (fn : Nat) (f : Func → Func) : (modFunc fn f s).mem = s.mem := rfl
@[simp] theorem modFunc_mapLines (fn : Nat) (f : Func → Func) : (modFunc fn f s).mapLines = s.mapLines := rfl
@[simp] theorem modFunc_ds (fn : Nat) (f : Func → Func) : (modFunc fn f s).ds = s.ds := rfl
@[simp] theorem modFunc_tcache (fn : Nat) (f : Func → Func) : (modFunc fn f s).tcache = s.tcache := rfl
@[simp] theorem modFunc_ats (fn : Nat) (f : Func → Func) : (modFunc fn f s).ats = s.ats := rfl
@[simp] theorem modFunc_invals (fn : Nat) (f : Func → Func) : (modFunc fn f s).invals = s.invals := rfl
@[simp] theorem modFunc_windows (fn : Nat) (f : Func → Func) : (modFunc fn f s).windows = s.windows := rfl
@[simp] theorem modFunc_winNext (fn : Nat) (f : Func → Func) : (modFunc fn f s).winNext = s.winNext := rfl
@[simp] theorem modFunc_winFreed (fn : Nat) (f : Func → Func) : (modFunc fn f s).winFreed = s.winFreed := rfl
@[simp] theorem modFunc_queues (fn : Nat) (f : Func → Func) : (modFunc fn f s).queues = s.queues := rfl
@[simp] theorem modFunc_lists (fn : Nat) (f : Func → Func) : (modFunc fn f s).lists = s.lists := rfl
@[simp] theorem modFunc_rrRoom (fn : Nat) (f : Func → Func) : (modFunc fn f s).rrRoom = s.rrRoom := rfl
@[simp] theorem modFunc_rrQueue (fn : Nat) (f : Func → Func) : (modFunc fn f s).rrQueue = s.rrQueue := rfl
@[simp] theorem modFunc_tilesHalted (fn : Nat) (f : Func → Func) : (modFunc fn f s).tilesHalted = s.tilesHalted := rfl
@[simp] theorem modFunc_seawalls (fn : Nat) (f : Func → Func) : (modFunc fn f s).seawalls = s.seawalls := rfl
@[simp] theorem modFunc_nextSeawall (fn : Nat) (f : Func → Func) : (modFunc fn f s).nextSeawall = s.nextSeawall := rfl
@[simp] theorem modFunc_qps (fn : Nat) (f : Func → Func) : (modFunc fn f s).qps = s.qps := rfl
@[simp] theorem modFunc_porch (fn : Nat) (f : Func → Func) : (modFunc fn f s).porch = s.porch := rfl
@[simp] theorem modFunc_hot (fn : Nat) (f : Func → Func) : (modFunc fn f s).hot = s.hot := rfl
@[simp] theorem modFunc_warm (fn : Nat) (f : Func → Func) : (modFunc fn f s).warm = s.warm := rfl
@[simp] theorem modFunc_rooms (fn : Nat) (f : Func → Func) : (modFunc fn f s).rooms = s.rooms := rfl
@[simp] theorem modFunc_coll (fn : Nat) (f : Func → Func) : (modFunc fn f s).coll = s.coll := rfl
@[simp] theorem modFunc_errs (fn : Nat) (f : Func → Func) : (modFunc fn f s).errs = s.errs := rfl
@[simp] theorem modFunc_fports (fn : Nat) (f : Func → Func) : (modFunc fn f s).fports = s.fports := rfl
@[simp] theorem modFunc_router (fn : Nat) (f : Func → Func) : (modFunc fn f s).router = s.router := rfl
@[simp] theorem modFunc_heldPkts (fn : Nat) (f : Func → Func) : (modFunc fn f s).heldPkts = s.heldPkts := rfl
@[simp] theorem modFunc_ethResult (fn : Nat) (f : Func → Func) : (modFunc fn f s).ethResult = s.ethResult := rfl
@[simp] theorem modFunc_tokens (fn : Nat) (f : Func → Func) : (modFunc fn f s).tokens = s.tokens := rfl
@[simp] theorem modFunc_tokenFrac (fn : Nat) (f : Func → Func) : (modFunc fn f s).tokenFrac = s.tokenFrac := rfl
@[simp] theorem modFunc_sealing (fn : Nat) (f : Func → Func) : (modFunc fn f s).sealing = s.sealing := rfl
@[simp] theorem modFunc_doms (fn : Nat) (f : Func → Func) : (modFunc fn f s).doms = s.doms := rfl
@[simp] theorem modFunc_lanes (fn : Nat) (f : Func → Func) : (modFunc fn f s).lanes = s.lanes := rfl
@[simp] theorem modFunc_lasers (fn : Nat) (f : Func → Func) : (modFunc fn f s).lasers = s.lasers := rfl
@[simp] theorem modFunc_laserEn (fn : Nat) (f : Func → Func) : (modFunc fn f s).laserEn = s.laserEn := rfl
@[simp] theorem modFunc_peTemp (fn : Nat) (f : Func → Func) : (modFunc fn f s).peTemp = s.peTemp := rfl
@[simp] theorem modFunc_power (fn : Nat) (f : Func → Func) : (modFunc fn f s).power = s.power := rfl
@[simp] theorem modFunc_dict (fn : Nat) (f : Func → Func) : (modFunc fn f s).dict = s.dict := rfl
@[simp] theorem modFunc_trv (fn : Nat) (f : Func → Func) : (modFunc fn f s).trv = s.trv := rfl
@[simp] theorem modFunc_hport (fn : Nat) (f : Func → Func) (p₀ : Nat) : hport (modFunc fn f s) p₀ = hport s p₀ := rfl
@[simp] theorem modFunc_room (fn : Nat) (f : Func → Func) (r₀ : Nat) : room (modFunc fn f s) r₀ = room s r₀ := rfl
@[simp] theorem modFunc_roomOf (fn : Nat) (f : Func → Func) (fn₀ : Nat) : roomOf (modFunc fn f s) fn₀ = roomOf s fn₀ := rfl
@[simp] theorem modFunc_queue (fn : Nat) (f : Func → Func) (fn₀ q₀ : Nat) : queue (modFunc fn f s) fn₀ q₀ = queue s fn₀ q₀ := rfl
@[simp] theorem modFunc_qp (fn : Nat) (f : Func → Func) (n₀ : Nat) : qp (modFunc fn f s) n₀ = qp s n₀ := rfl
@[simp] theorem modFunc_fport (fn : Nat) (f : Func → Func) (p₀ : Nat) : fport (modFunc fn f s) p₀ = fport s p₀ := rfl

/-! ## modHport -/

@[simp] theorem modHport_pending (p : Nat) (f : HostPort → HostPort) : (modHport p f s).pending = s.pending := rfl
@[simp] theorem modHport_out (p : Nat) (f : HostPort → HostPort) : (modHport p f s).out = s.out := rfl
@[simp] theorem modHport_free (p : Nat) (f : HostPort → HostPort) : (modHport p f s).free = s.free := rfl
@[simp] theorem modHport_regs (p : Nat) (f : HostPort → HostPort) : (modHport p f s).regs = s.regs := rfl
@[simp] theorem modHport_eff (p : Nat) (f : HostPort → HostPort) : (modHport p f s).eff = s.eff := rfl
@[simp] theorem modHport_bufs (p : Nat) (f : HostPort → HostPort) : (modHport p f s).bufs = s.bufs := rfl
@[simp] theorem modHport_events (p : Nat) (f : HostPort → HostPort) : (modHport p f s).events = s.events := rfl
@[simp] theorem modHport_cnt (p : Nat) (f : HostPort → HostPort) : (modHport p f s).cnt = s.cnt := rfl
@[simp] theorem modHport_snap (p : Nat) (f : HostPort → HostPort) : (modHport p f s).snap = s.snap := rfl
@[simp] theorem modHport_arms (p : Nat) (f : HostPort → HostPort) : (modHport p f s).arms = s.arms := rfl
@[simp] theorem modHport_objs (p : Nat) (f : HostPort → HostPort) : (modHport p f s).objs = s.objs := rfl
@[simp] theorem modHport_objNow (p : Nat) (f : HostPort → HostPort) : (modHport p f s).objNow = s.objNow := rfl
@[simp] theorem modHport_tide (p : Nat) (f : HostPort → HostPort) : (modHport p f s).tide = s.tide := rfl
@[simp] theorem modHport_funcs (p : Nat) (f : HostPort → HostPort) : (modHport p f s).funcs = s.funcs := rfl
@[simp] theorem modHport_hmem (p : Nat) (f : HostPort → HostPort) : (modHport p f s).hmem = s.hmem := rfl
@[simp] theorem modHport_hpoison (p : Nat) (f : HostPort → HostPort) : (modHport p f s).hpoison = s.hpoison := rfl
@[simp] theorem modHport_mem (p : Nat) (f : HostPort → HostPort) : (modHport p f s).mem = s.mem := rfl
@[simp] theorem modHport_mapLines (p : Nat) (f : HostPort → HostPort) : (modHport p f s).mapLines = s.mapLines := rfl
@[simp] theorem modHport_ds (p : Nat) (f : HostPort → HostPort) : (modHport p f s).ds = s.ds := rfl
@[simp] theorem modHport_tcache (p : Nat) (f : HostPort → HostPort) : (modHport p f s).tcache = s.tcache := rfl
@[simp] theorem modHport_ats (p : Nat) (f : HostPort → HostPort) : (modHport p f s).ats = s.ats := rfl
@[simp] theorem modHport_invals (p : Nat) (f : HostPort → HostPort) : (modHport p f s).invals = s.invals := rfl
@[simp] theorem modHport_windows (p : Nat) (f : HostPort → HostPort) : (modHport p f s).windows = s.windows := rfl
@[simp] theorem modHport_winNext (p : Nat) (f : HostPort → HostPort) : (modHport p f s).winNext = s.winNext := rfl
@[simp] theorem modHport_winFreed (p : Nat) (f : HostPort → HostPort) : (modHport p f s).winFreed = s.winFreed := rfl
@[simp] theorem modHport_queues (p : Nat) (f : HostPort → HostPort) : (modHport p f s).queues = s.queues := rfl
@[simp] theorem modHport_lists (p : Nat) (f : HostPort → HostPort) : (modHport p f s).lists = s.lists := rfl
@[simp] theorem modHport_rrRoom (p : Nat) (f : HostPort → HostPort) : (modHport p f s).rrRoom = s.rrRoom := rfl
@[simp] theorem modHport_rrQueue (p : Nat) (f : HostPort → HostPort) : (modHport p f s).rrQueue = s.rrQueue := rfl
@[simp] theorem modHport_tilesHalted (p : Nat) (f : HostPort → HostPort) : (modHport p f s).tilesHalted = s.tilesHalted := rfl
@[simp] theorem modHport_seawalls (p : Nat) (f : HostPort → HostPort) : (modHport p f s).seawalls = s.seawalls := rfl
@[simp] theorem modHport_nextSeawall (p : Nat) (f : HostPort → HostPort) : (modHport p f s).nextSeawall = s.nextSeawall := rfl
@[simp] theorem modHport_qps (p : Nat) (f : HostPort → HostPort) : (modHport p f s).qps = s.qps := rfl
@[simp] theorem modHport_porch (p : Nat) (f : HostPort → HostPort) : (modHport p f s).porch = s.porch := rfl
@[simp] theorem modHport_hot (p : Nat) (f : HostPort → HostPort) : (modHport p f s).hot = s.hot := rfl
@[simp] theorem modHport_warm (p : Nat) (f : HostPort → HostPort) : (modHport p f s).warm = s.warm := rfl
@[simp] theorem modHport_rooms (p : Nat) (f : HostPort → HostPort) : (modHport p f s).rooms = s.rooms := rfl
@[simp] theorem modHport_coll (p : Nat) (f : HostPort → HostPort) : (modHport p f s).coll = s.coll := rfl
@[simp] theorem modHport_errs (p : Nat) (f : HostPort → HostPort) : (modHport p f s).errs = s.errs := rfl
@[simp] theorem modHport_fports (p : Nat) (f : HostPort → HostPort) : (modHport p f s).fports = s.fports := rfl
@[simp] theorem modHport_router (p : Nat) (f : HostPort → HostPort) : (modHport p f s).router = s.router := rfl
@[simp] theorem modHport_heldPkts (p : Nat) (f : HostPort → HostPort) : (modHport p f s).heldPkts = s.heldPkts := rfl
@[simp] theorem modHport_ethResult (p : Nat) (f : HostPort → HostPort) : (modHport p f s).ethResult = s.ethResult := rfl
@[simp] theorem modHport_tokens (p : Nat) (f : HostPort → HostPort) : (modHport p f s).tokens = s.tokens := rfl
@[simp] theorem modHport_tokenFrac (p : Nat) (f : HostPort → HostPort) : (modHport p f s).tokenFrac = s.tokenFrac := rfl
@[simp] theorem modHport_sealing (p : Nat) (f : HostPort → HostPort) : (modHport p f s).sealing = s.sealing := rfl
@[simp] theorem modHport_doms (p : Nat) (f : HostPort → HostPort) : (modHport p f s).doms = s.doms := rfl
@[simp] theorem modHport_lanes (p : Nat) (f : HostPort → HostPort) : (modHport p f s).lanes = s.lanes := rfl
@[simp] theorem modHport_lasers (p : Nat) (f : HostPort → HostPort) : (modHport p f s).lasers = s.lasers := rfl
@[simp] theorem modHport_laserEn (p : Nat) (f : HostPort → HostPort) : (modHport p f s).laserEn = s.laserEn := rfl
@[simp] theorem modHport_peTemp (p : Nat) (f : HostPort → HostPort) : (modHport p f s).peTemp = s.peTemp := rfl
@[simp] theorem modHport_power (p : Nat) (f : HostPort → HostPort) : (modHport p f s).power = s.power := rfl
@[simp] theorem modHport_dict (p : Nat) (f : HostPort → HostPort) : (modHport p f s).dict = s.dict := rfl
@[simp] theorem modHport_trv (p : Nat) (f : HostPort → HostPort) : (modHport p f s).trv = s.trv := rfl
@[simp] theorem modHport_func (p : Nat) (f : HostPort → HostPort) (fn₀ : Nat) : func (modHport p f s) fn₀ = func s fn₀ := rfl
@[simp] theorem modHport_room (p : Nat) (f : HostPort → HostPort) (r₀ : Nat) : room (modHport p f s) r₀ = room s r₀ := rfl
@[simp] theorem modHport_roomOf (p : Nat) (f : HostPort → HostPort) (fn₀ : Nat) : roomOf (modHport p f s) fn₀ = roomOf s fn₀ := rfl
@[simp] theorem modHport_queue (p : Nat) (f : HostPort → HostPort) (fn₀ q₀ : Nat) : queue (modHport p f s) fn₀ q₀ = queue s fn₀ q₀ := rfl
@[simp] theorem modHport_qp (p : Nat) (f : HostPort → HostPort) (n₀ : Nat) : qp (modHport p f s) n₀ = qp s n₀ := rfl
@[simp] theorem modHport_fport (p : Nat) (f : HostPort → HostPort) (p₀ : Nat) : fport (modHport p f s) p₀ = fport s p₀ := rfl

/-! ## modRoom -/

@[simp] theorem modRoom_pending (r : Nat) (f : Room → Room) : (modRoom r f s).pending = s.pending := rfl
@[simp] theorem modRoom_out (r : Nat) (f : Room → Room) : (modRoom r f s).out = s.out := rfl
@[simp] theorem modRoom_free (r : Nat) (f : Room → Room) : (modRoom r f s).free = s.free := rfl
@[simp] theorem modRoom_regs (r : Nat) (f : Room → Room) : (modRoom r f s).regs = s.regs := rfl
@[simp] theorem modRoom_eff (r : Nat) (f : Room → Room) : (modRoom r f s).eff = s.eff := rfl
@[simp] theorem modRoom_bufs (r : Nat) (f : Room → Room) : (modRoom r f s).bufs = s.bufs := rfl
@[simp] theorem modRoom_events (r : Nat) (f : Room → Room) : (modRoom r f s).events = s.events := rfl
@[simp] theorem modRoom_cnt (r : Nat) (f : Room → Room) : (modRoom r f s).cnt = s.cnt := rfl
@[simp] theorem modRoom_snap (r : Nat) (f : Room → Room) : (modRoom r f s).snap = s.snap := rfl
@[simp] theorem modRoom_arms (r : Nat) (f : Room → Room) : (modRoom r f s).arms = s.arms := rfl
@[simp] theorem modRoom_objs (r : Nat) (f : Room → Room) : (modRoom r f s).objs = s.objs := rfl
@[simp] theorem modRoom_objNow (r : Nat) (f : Room → Room) : (modRoom r f s).objNow = s.objNow := rfl
@[simp] theorem modRoom_tide (r : Nat) (f : Room → Room) : (modRoom r f s).tide = s.tide := rfl
@[simp] theorem modRoom_hports (r : Nat) (f : Room → Room) : (modRoom r f s).hports = s.hports := rfl
@[simp] theorem modRoom_funcs (r : Nat) (f : Room → Room) : (modRoom r f s).funcs = s.funcs := rfl
@[simp] theorem modRoom_hmem (r : Nat) (f : Room → Room) : (modRoom r f s).hmem = s.hmem := rfl
@[simp] theorem modRoom_hpoison (r : Nat) (f : Room → Room) : (modRoom r f s).hpoison = s.hpoison := rfl
@[simp] theorem modRoom_mem (r : Nat) (f : Room → Room) : (modRoom r f s).mem = s.mem := rfl
@[simp] theorem modRoom_mapLines (r : Nat) (f : Room → Room) : (modRoom r f s).mapLines = s.mapLines := rfl
@[simp] theorem modRoom_ds (r : Nat) (f : Room → Room) : (modRoom r f s).ds = s.ds := rfl
@[simp] theorem modRoom_tcache (r : Nat) (f : Room → Room) : (modRoom r f s).tcache = s.tcache := rfl
@[simp] theorem modRoom_ats (r : Nat) (f : Room → Room) : (modRoom r f s).ats = s.ats := rfl
@[simp] theorem modRoom_invals (r : Nat) (f : Room → Room) : (modRoom r f s).invals = s.invals := rfl
@[simp] theorem modRoom_windows (r : Nat) (f : Room → Room) : (modRoom r f s).windows = s.windows := rfl
@[simp] theorem modRoom_winNext (r : Nat) (f : Room → Room) : (modRoom r f s).winNext = s.winNext := rfl
@[simp] theorem modRoom_winFreed (r : Nat) (f : Room → Room) : (modRoom r f s).winFreed = s.winFreed := rfl
@[simp] theorem modRoom_queues (r : Nat) (f : Room → Room) : (modRoom r f s).queues = s.queues := rfl
@[simp] theorem modRoom_lists (r : Nat) (f : Room → Room) : (modRoom r f s).lists = s.lists := rfl
@[simp] theorem modRoom_rrRoom (r : Nat) (f : Room → Room) : (modRoom r f s).rrRoom = s.rrRoom := rfl
@[simp] theorem modRoom_rrQueue (r : Nat) (f : Room → Room) : (modRoom r f s).rrQueue = s.rrQueue := rfl
@[simp] theorem modRoom_tilesHalted (r : Nat) (f : Room → Room) : (modRoom r f s).tilesHalted = s.tilesHalted := rfl
@[simp] theorem modRoom_seawalls (r : Nat) (f : Room → Room) : (modRoom r f s).seawalls = s.seawalls := rfl
@[simp] theorem modRoom_nextSeawall (r : Nat) (f : Room → Room) : (modRoom r f s).nextSeawall = s.nextSeawall := rfl
@[simp] theorem modRoom_qps (r : Nat) (f : Room → Room) : (modRoom r f s).qps = s.qps := rfl
@[simp] theorem modRoom_porch (r : Nat) (f : Room → Room) : (modRoom r f s).porch = s.porch := rfl
@[simp] theorem modRoom_hot (r : Nat) (f : Room → Room) : (modRoom r f s).hot = s.hot := rfl
@[simp] theorem modRoom_warm (r : Nat) (f : Room → Room) : (modRoom r f s).warm = s.warm := rfl
@[simp] theorem modRoom_coll (r : Nat) (f : Room → Room) : (modRoom r f s).coll = s.coll := rfl
@[simp] theorem modRoom_errs (r : Nat) (f : Room → Room) : (modRoom r f s).errs = s.errs := rfl
@[simp] theorem modRoom_fports (r : Nat) (f : Room → Room) : (modRoom r f s).fports = s.fports := rfl
@[simp] theorem modRoom_router (r : Nat) (f : Room → Room) : (modRoom r f s).router = s.router := rfl
@[simp] theorem modRoom_heldPkts (r : Nat) (f : Room → Room) : (modRoom r f s).heldPkts = s.heldPkts := rfl
@[simp] theorem modRoom_ethResult (r : Nat) (f : Room → Room) : (modRoom r f s).ethResult = s.ethResult := rfl
@[simp] theorem modRoom_tokens (r : Nat) (f : Room → Room) : (modRoom r f s).tokens = s.tokens := rfl
@[simp] theorem modRoom_tokenFrac (r : Nat) (f : Room → Room) : (modRoom r f s).tokenFrac = s.tokenFrac := rfl
@[simp] theorem modRoom_sealing (r : Nat) (f : Room → Room) : (modRoom r f s).sealing = s.sealing := rfl
@[simp] theorem modRoom_doms (r : Nat) (f : Room → Room) : (modRoom r f s).doms = s.doms := rfl
@[simp] theorem modRoom_lanes (r : Nat) (f : Room → Room) : (modRoom r f s).lanes = s.lanes := rfl
@[simp] theorem modRoom_lasers (r : Nat) (f : Room → Room) : (modRoom r f s).lasers = s.lasers := rfl
@[simp] theorem modRoom_laserEn (r : Nat) (f : Room → Room) : (modRoom r f s).laserEn = s.laserEn := rfl
@[simp] theorem modRoom_peTemp (r : Nat) (f : Room → Room) : (modRoom r f s).peTemp = s.peTemp := rfl
@[simp] theorem modRoom_power (r : Nat) (f : Room → Room) : (modRoom r f s).power = s.power := rfl
@[simp] theorem modRoom_dict (r : Nat) (f : Room → Room) : (modRoom r f s).dict = s.dict := rfl
@[simp] theorem modRoom_trv (r : Nat) (f : Room → Room) : (modRoom r f s).trv = s.trv := rfl
@[simp] theorem modRoom_func (r : Nat) (f : Room → Room) (fn₀ : Nat) : func (modRoom r f s) fn₀ = func s fn₀ := rfl
@[simp] theorem modRoom_hport (r : Nat) (f : Room → Room) (p₀ : Nat) : hport (modRoom r f s) p₀ = hport s p₀ := rfl
@[simp] theorem modRoom_queue (r : Nat) (f : Room → Room) (fn₀ q₀ : Nat) : queue (modRoom r f s) fn₀ q₀ = queue s fn₀ q₀ := rfl
@[simp] theorem modRoom_qp (r : Nat) (f : Room → Room) (n₀ : Nat) : qp (modRoom r f s) n₀ = qp s n₀ := rfl
@[simp] theorem modRoom_fport (r : Nat) (f : Room → Room) (p₀ : Nat) : fport (modRoom r f s) p₀ = fport s p₀ := rfl

/-! ## msix -/

@[simp] theorem msix_pending (fn v : Nat) : (msix fn v s).pending = s.pending := rfl
@[simp] theorem msix_free (fn v : Nat) : (msix fn v s).free = s.free := rfl
@[simp] theorem msix_regs (fn v : Nat) : (msix fn v s).regs = s.regs := rfl
@[simp] theorem msix_eff (fn v : Nat) : (msix fn v s).eff = s.eff := rfl
@[simp] theorem msix_bufs (fn v : Nat) : (msix fn v s).bufs = s.bufs := rfl
@[simp] theorem msix_events (fn v : Nat) : (msix fn v s).events = s.events := rfl
@[simp] theorem msix_cnt (fn v : Nat) : (msix fn v s).cnt = s.cnt := rfl
@[simp] theorem msix_snap (fn v : Nat) : (msix fn v s).snap = s.snap := rfl
@[simp] theorem msix_arms (fn v : Nat) : (msix fn v s).arms = s.arms := rfl
@[simp] theorem msix_objs (fn v : Nat) : (msix fn v s).objs = s.objs := rfl
@[simp] theorem msix_objNow (fn v : Nat) : (msix fn v s).objNow = s.objNow := rfl
@[simp] theorem msix_tide (fn v : Nat) : (msix fn v s).tide = s.tide := rfl
@[simp] theorem msix_hmem (fn v : Nat) : (msix fn v s).hmem = s.hmem := rfl
@[simp] theorem msix_hpoison (fn v : Nat) : (msix fn v s).hpoison = s.hpoison := rfl
@[simp] theorem msix_mem (fn v : Nat) : (msix fn v s).mem = s.mem := rfl
@[simp] theorem msix_mapLines (fn v : Nat) : (msix fn v s).mapLines = s.mapLines := rfl
@[simp] theorem msix_ds (fn v : Nat) : (msix fn v s).ds = s.ds := rfl
@[simp] theorem msix_tcache (fn v : Nat) : (msix fn v s).tcache = s.tcache := rfl
@[simp] theorem msix_ats (fn v : Nat) : (msix fn v s).ats = s.ats := rfl
@[simp] theorem msix_invals (fn v : Nat) : (msix fn v s).invals = s.invals := rfl
@[simp] theorem msix_windows (fn v : Nat) : (msix fn v s).windows = s.windows := rfl
@[simp] theorem msix_winNext (fn v : Nat) : (msix fn v s).winNext = s.winNext := rfl
@[simp] theorem msix_winFreed (fn v : Nat) : (msix fn v s).winFreed = s.winFreed := rfl
@[simp] theorem msix_queues (fn v : Nat) : (msix fn v s).queues = s.queues := rfl
@[simp] theorem msix_lists (fn v : Nat) : (msix fn v s).lists = s.lists := rfl
@[simp] theorem msix_rrRoom (fn v : Nat) : (msix fn v s).rrRoom = s.rrRoom := rfl
@[simp] theorem msix_rrQueue (fn v : Nat) : (msix fn v s).rrQueue = s.rrQueue := rfl
@[simp] theorem msix_tilesHalted (fn v : Nat) : (msix fn v s).tilesHalted = s.tilesHalted := rfl
@[simp] theorem msix_seawalls (fn v : Nat) : (msix fn v s).seawalls = s.seawalls := rfl
@[simp] theorem msix_nextSeawall (fn v : Nat) : (msix fn v s).nextSeawall = s.nextSeawall := rfl
@[simp] theorem msix_qps (fn v : Nat) : (msix fn v s).qps = s.qps := rfl
@[simp] theorem msix_porch (fn v : Nat) : (msix fn v s).porch = s.porch := rfl
@[simp] theorem msix_hot (fn v : Nat) : (msix fn v s).hot = s.hot := rfl
@[simp] theorem msix_warm (fn v : Nat) : (msix fn v s).warm = s.warm := rfl
@[simp] theorem msix_rooms (fn v : Nat) : (msix fn v s).rooms = s.rooms := rfl
@[simp] theorem msix_coll (fn v : Nat) : (msix fn v s).coll = s.coll := rfl
@[simp] theorem msix_errs (fn v : Nat) : (msix fn v s).errs = s.errs := rfl
@[simp] theorem msix_fports (fn v : Nat) : (msix fn v s).fports = s.fports := rfl
@[simp] theorem msix_router (fn v : Nat) : (msix fn v s).router = s.router := rfl
@[simp] theorem msix_heldPkts (fn v : Nat) : (msix fn v s).heldPkts = s.heldPkts := rfl
@[simp] theorem msix_ethResult (fn v : Nat) : (msix fn v s).ethResult = s.ethResult := rfl
@[simp] theorem msix_tokens (fn v : Nat) : (msix fn v s).tokens = s.tokens := rfl
@[simp] theorem msix_tokenFrac (fn v : Nat) : (msix fn v s).tokenFrac = s.tokenFrac := rfl
@[simp] theorem msix_sealing (fn v : Nat) : (msix fn v s).sealing = s.sealing := rfl
@[simp] theorem msix_doms (fn v : Nat) : (msix fn v s).doms = s.doms := rfl
@[simp] theorem msix_lanes (fn v : Nat) : (msix fn v s).lanes = s.lanes := rfl
@[simp] theorem msix_lasers (fn v : Nat) : (msix fn v s).lasers = s.lasers := rfl
@[simp] theorem msix_laserEn (fn v : Nat) : (msix fn v s).laserEn = s.laserEn := rfl
@[simp] theorem msix_peTemp (fn v : Nat) : (msix fn v s).peTemp = s.peTemp := rfl
@[simp] theorem msix_power (fn v : Nat) : (msix fn v s).power = s.power := rfl
@[simp] theorem msix_dict (fn v : Nat) : (msix fn v s).dict = s.dict := rfl
@[simp] theorem msix_trv (fn v : Nat) : (msix fn v s).trv = s.trv := rfl
@[simp] theorem msix_room (fn v : Nat) (r₀ : Nat) : room (msix fn v s) r₀ = room s r₀ := rfl
@[simp] theorem msix_roomOf (fn v : Nat) (fn₀ : Nat) : roomOf (msix fn v s) fn₀ = roomOf s fn₀ := rfl
@[simp] theorem msix_queue (fn v : Nat) (fn₀ q₀ : Nat) : queue (msix fn v s) fn₀ q₀ = queue s fn₀ q₀ := rfl
@[simp] theorem msix_qp (fn v : Nat) (n₀ : Nat) : qp (msix fn v s) n₀ = qp s n₀ := rfl
@[simp] theorem msix_fport (fn v : Nat) (p₀ : Nat) : fport (msix fn v s) p₀ = fport s p₀ := rfl

/-! ## hostWrite -/

@[simp] theorem hostWrite_pending (p a : Nat) (d : List Byte) (ro : Bool) : (hostWrite p a d ro s).pending = s.pending := rfl
@[simp] theorem hostWrite_free (p a : Nat) (d : List Byte) (ro : Bool) : (hostWrite p a d ro s).free = s.free := rfl
@[simp] theorem hostWrite_regs (p a : Nat) (d : List Byte) (ro : Bool) : (hostWrite p a d ro s).regs = s.regs := rfl
@[simp] theorem hostWrite_eff (p a : Nat) (d : List Byte) (ro : Bool) : (hostWrite p a d ro s).eff = s.eff := rfl
@[simp] theorem hostWrite_bufs (p a : Nat) (d : List Byte) (ro : Bool) : (hostWrite p a d ro s).bufs = s.bufs := rfl
@[simp] theorem hostWrite_events (p a : Nat) (d : List Byte) (ro : Bool) : (hostWrite p a d ro s).events = s.events := rfl
@[simp] theorem hostWrite_cnt (p a : Nat) (d : List Byte) (ro : Bool) : (hostWrite p a d ro s).cnt = s.cnt := rfl
@[simp] theorem hostWrite_snap (p a : Nat) (d : List Byte) (ro : Bool) : (hostWrite p a d ro s).snap = s.snap := rfl
@[simp] theorem hostWrite_arms (p a : Nat) (d : List Byte) (ro : Bool) : (hostWrite p a d ro s).arms = s.arms := rfl
@[simp] theorem hostWrite_objs (p a : Nat) (d : List Byte) (ro : Bool) : (hostWrite p a d ro s).objs = s.objs := rfl
@[simp] theorem hostWrite_objNow (p a : Nat) (d : List Byte) (ro : Bool) : (hostWrite p a d ro s).objNow = s.objNow := rfl
@[simp] theorem hostWrite_tide (p a : Nat) (d : List Byte) (ro : Bool) : (hostWrite p a d ro s).tide = s.tide := rfl
@[simp] theorem hostWrite_funcs (p a : Nat) (d : List Byte) (ro : Bool) : (hostWrite p a d ro s).funcs = s.funcs := rfl
@[simp] theorem hostWrite_hpoison (p a : Nat) (d : List Byte) (ro : Bool) : (hostWrite p a d ro s).hpoison = s.hpoison := rfl
@[simp] theorem hostWrite_mem (p a : Nat) (d : List Byte) (ro : Bool) : (hostWrite p a d ro s).mem = s.mem := rfl
@[simp] theorem hostWrite_mapLines (p a : Nat) (d : List Byte) (ro : Bool) : (hostWrite p a d ro s).mapLines = s.mapLines := rfl
@[simp] theorem hostWrite_ds (p a : Nat) (d : List Byte) (ro : Bool) : (hostWrite p a d ro s).ds = s.ds := rfl
@[simp] theorem hostWrite_tcache (p a : Nat) (d : List Byte) (ro : Bool) : (hostWrite p a d ro s).tcache = s.tcache := rfl
@[simp] theorem hostWrite_ats (p a : Nat) (d : List Byte) (ro : Bool) : (hostWrite p a d ro s).ats = s.ats := rfl
@[simp] theorem hostWrite_invals (p a : Nat) (d : List Byte) (ro : Bool) : (hostWrite p a d ro s).invals = s.invals := rfl
@[simp] theorem hostWrite_windows (p a : Nat) (d : List Byte) (ro : Bool) : (hostWrite p a d ro s).windows = s.windows := rfl
@[simp] theorem hostWrite_winNext (p a : Nat) (d : List Byte) (ro : Bool) : (hostWrite p a d ro s).winNext = s.winNext := rfl
@[simp] theorem hostWrite_winFreed (p a : Nat) (d : List Byte) (ro : Bool) : (hostWrite p a d ro s).winFreed = s.winFreed := rfl
@[simp] theorem hostWrite_queues (p a : Nat) (d : List Byte) (ro : Bool) : (hostWrite p a d ro s).queues = s.queues := rfl
@[simp] theorem hostWrite_lists (p a : Nat) (d : List Byte) (ro : Bool) : (hostWrite p a d ro s).lists = s.lists := rfl
@[simp] theorem hostWrite_rrRoom (p a : Nat) (d : List Byte) (ro : Bool) : (hostWrite p a d ro s).rrRoom = s.rrRoom := rfl
@[simp] theorem hostWrite_rrQueue (p a : Nat) (d : List Byte) (ro : Bool) : (hostWrite p a d ro s).rrQueue = s.rrQueue := rfl
@[simp] theorem hostWrite_tilesHalted (p a : Nat) (d : List Byte) (ro : Bool) : (hostWrite p a d ro s).tilesHalted = s.tilesHalted := rfl
@[simp] theorem hostWrite_seawalls (p a : Nat) (d : List Byte) (ro : Bool) : (hostWrite p a d ro s).seawalls = s.seawalls := rfl
@[simp] theorem hostWrite_nextSeawall (p a : Nat) (d : List Byte) (ro : Bool) : (hostWrite p a d ro s).nextSeawall = s.nextSeawall := rfl
@[simp] theorem hostWrite_qps (p a : Nat) (d : List Byte) (ro : Bool) : (hostWrite p a d ro s).qps = s.qps := rfl
@[simp] theorem hostWrite_porch (p a : Nat) (d : List Byte) (ro : Bool) : (hostWrite p a d ro s).porch = s.porch := rfl
@[simp] theorem hostWrite_hot (p a : Nat) (d : List Byte) (ro : Bool) : (hostWrite p a d ro s).hot = s.hot := rfl
@[simp] theorem hostWrite_warm (p a : Nat) (d : List Byte) (ro : Bool) : (hostWrite p a d ro s).warm = s.warm := rfl
@[simp] theorem hostWrite_rooms (p a : Nat) (d : List Byte) (ro : Bool) : (hostWrite p a d ro s).rooms = s.rooms := rfl
@[simp] theorem hostWrite_coll (p a : Nat) (d : List Byte) (ro : Bool) : (hostWrite p a d ro s).coll = s.coll := rfl
@[simp] theorem hostWrite_errs (p a : Nat) (d : List Byte) (ro : Bool) : (hostWrite p a d ro s).errs = s.errs := rfl
@[simp] theorem hostWrite_fports (p a : Nat) (d : List Byte) (ro : Bool) : (hostWrite p a d ro s).fports = s.fports := rfl
@[simp] theorem hostWrite_router (p a : Nat) (d : List Byte) (ro : Bool) : (hostWrite p a d ro s).router = s.router := rfl
@[simp] theorem hostWrite_heldPkts (p a : Nat) (d : List Byte) (ro : Bool) : (hostWrite p a d ro s).heldPkts = s.heldPkts := rfl
@[simp] theorem hostWrite_ethResult (p a : Nat) (d : List Byte) (ro : Bool) : (hostWrite p a d ro s).ethResult = s.ethResult := rfl
@[simp] theorem hostWrite_tokens (p a : Nat) (d : List Byte) (ro : Bool) : (hostWrite p a d ro s).tokens = s.tokens := rfl
@[simp] theorem hostWrite_tokenFrac (p a : Nat) (d : List Byte) (ro : Bool) : (hostWrite p a d ro s).tokenFrac = s.tokenFrac := rfl
@[simp] theorem hostWrite_sealing (p a : Nat) (d : List Byte) (ro : Bool) : (hostWrite p a d ro s).sealing = s.sealing := rfl
@[simp] theorem hostWrite_doms (p a : Nat) (d : List Byte) (ro : Bool) : (hostWrite p a d ro s).doms = s.doms := rfl
@[simp] theorem hostWrite_lanes (p a : Nat) (d : List Byte) (ro : Bool) : (hostWrite p a d ro s).lanes = s.lanes := rfl
@[simp] theorem hostWrite_lasers (p a : Nat) (d : List Byte) (ro : Bool) : (hostWrite p a d ro s).lasers = s.lasers := rfl
@[simp] theorem hostWrite_laserEn (p a : Nat) (d : List Byte) (ro : Bool) : (hostWrite p a d ro s).laserEn = s.laserEn := rfl
@[simp] theorem hostWrite_peTemp (p a : Nat) (d : List Byte) (ro : Bool) : (hostWrite p a d ro s).peTemp = s.peTemp := rfl
@[simp] theorem hostWrite_power (p a : Nat) (d : List Byte) (ro : Bool) : (hostWrite p a d ro s).power = s.power := rfl
@[simp] theorem hostWrite_dict (p a : Nat) (d : List Byte) (ro : Bool) : (hostWrite p a d ro s).dict = s.dict := rfl
@[simp] theorem hostWrite_trv (p a : Nat) (d : List Byte) (ro : Bool) : (hostWrite p a d ro s).trv = s.trv := rfl
@[simp] theorem hostWrite_func (p a : Nat) (d : List Byte) (ro : Bool) (fn₀ : Nat) : func (hostWrite p a d ro s) fn₀ = func s fn₀ := rfl
@[simp] theorem hostWrite_room (p a : Nat) (d : List Byte) (ro : Bool) (r₀ : Nat) : room (hostWrite p a d ro s) r₀ = room s r₀ := rfl
@[simp] theorem hostWrite_roomOf (p a : Nat) (d : List Byte) (ro : Bool) (fn₀ : Nat) : roomOf (hostWrite p a d ro s) fn₀ = roomOf s fn₀ := rfl
@[simp] theorem hostWrite_queue (p a : Nat) (d : List Byte) (ro : Bool) (fn₀ q₀ : Nat) : queue (hostWrite p a d ro s) fn₀ q₀ = queue s fn₀ q₀ := rfl
@[simp] theorem hostWrite_qp (p a : Nat) (d : List Byte) (ro : Bool) (n₀ : Nat) : qp (hostWrite p a d ro s) n₀ = qp s n₀ := rfl
@[simp] theorem hostWrite_fport (p a : Nat) (d : List Byte) (ro : Bool) (p₀ : Nat) : fport (hostWrite p a d ro s) p₀ = fport s p₀ := rfl

/-! ## raise -/

@[simp] theorem raise_pending (b i : Nat) : (raise b i s).pending = s.pending := rfl
@[simp] theorem raise_free (b i : Nat) : (raise b i s).free = s.free := rfl
@[simp] theorem raise_regs (b i : Nat) : (raise b i s).regs = s.regs := rfl
@[simp] theorem raise_eff (b i : Nat) : (raise b i s).eff = s.eff := rfl
@[simp] theorem raise_bufs (b i : Nat) : (raise b i s).bufs = s.bufs := rfl
@[simp] theorem raise_cnt (b i : Nat) : (raise b i s).cnt = s.cnt := rfl
@[simp] theorem raise_snap (b i : Nat) : (raise b i s).snap = s.snap := rfl
@[simp] theorem raise_arms (b i : Nat) : (raise b i s).arms = s.arms := rfl
@[simp] theorem raise_objs (b i : Nat) : (raise b i s).objs = s.objs := rfl
@[simp] theorem raise_objNow (b i : Nat) : (raise b i s).objNow = s.objNow := rfl
@[simp] theorem raise_tide (b i : Nat) : (raise b i s).tide = s.tide := rfl
@[simp] theorem raise_hmem (b i : Nat) : (raise b i s).hmem = s.hmem := rfl
@[simp] theorem raise_hpoison (b i : Nat) : (raise b i s).hpoison = s.hpoison := rfl
@[simp] theorem raise_mem (b i : Nat) : (raise b i s).mem = s.mem := rfl
@[simp] theorem raise_mapLines (b i : Nat) : (raise b i s).mapLines = s.mapLines := rfl
@[simp] theorem raise_ds (b i : Nat) : (raise b i s).ds = s.ds := rfl
@[simp] theorem raise_tcache (b i : Nat) : (raise b i s).tcache = s.tcache := rfl
@[simp] theorem raise_ats (b i : Nat) : (raise b i s).ats = s.ats := rfl
@[simp] theorem raise_invals (b i : Nat) : (raise b i s).invals = s.invals := rfl
@[simp] theorem raise_windows (b i : Nat) : (raise b i s).windows = s.windows := rfl
@[simp] theorem raise_winNext (b i : Nat) : (raise b i s).winNext = s.winNext := rfl
@[simp] theorem raise_winFreed (b i : Nat) : (raise b i s).winFreed = s.winFreed := rfl
@[simp] theorem raise_queues (b i : Nat) : (raise b i s).queues = s.queues := rfl
@[simp] theorem raise_lists (b i : Nat) : (raise b i s).lists = s.lists := rfl
@[simp] theorem raise_rrRoom (b i : Nat) : (raise b i s).rrRoom = s.rrRoom := rfl
@[simp] theorem raise_rrQueue (b i : Nat) : (raise b i s).rrQueue = s.rrQueue := rfl
@[simp] theorem raise_tilesHalted (b i : Nat) : (raise b i s).tilesHalted = s.tilesHalted := rfl
@[simp] theorem raise_seawalls (b i : Nat) : (raise b i s).seawalls = s.seawalls := rfl
@[simp] theorem raise_nextSeawall (b i : Nat) : (raise b i s).nextSeawall = s.nextSeawall := rfl
@[simp] theorem raise_qps (b i : Nat) : (raise b i s).qps = s.qps := rfl
@[simp] theorem raise_porch (b i : Nat) : (raise b i s).porch = s.porch := rfl
@[simp] theorem raise_hot (b i : Nat) : (raise b i s).hot = s.hot := rfl
@[simp] theorem raise_warm (b i : Nat) : (raise b i s).warm = s.warm := rfl
@[simp] theorem raise_rooms (b i : Nat) : (raise b i s).rooms = s.rooms := rfl
@[simp] theorem raise_coll (b i : Nat) : (raise b i s).coll = s.coll := rfl
@[simp] theorem raise_errs (b i : Nat) : (raise b i s).errs = s.errs := rfl
@[simp] theorem raise_fports (b i : Nat) : (raise b i s).fports = s.fports := rfl
@[simp] theorem raise_router (b i : Nat) : (raise b i s).router = s.router := rfl
@[simp] theorem raise_heldPkts (b i : Nat) : (raise b i s).heldPkts = s.heldPkts := rfl
@[simp] theorem raise_ethResult (b i : Nat) : (raise b i s).ethResult = s.ethResult := rfl
@[simp] theorem raise_tokens (b i : Nat) : (raise b i s).tokens = s.tokens := rfl
@[simp] theorem raise_tokenFrac (b i : Nat) : (raise b i s).tokenFrac = s.tokenFrac := rfl
@[simp] theorem raise_sealing (b i : Nat) : (raise b i s).sealing = s.sealing := rfl
@[simp] theorem raise_doms (b i : Nat) : (raise b i s).doms = s.doms := rfl
@[simp] theorem raise_lanes (b i : Nat) : (raise b i s).lanes = s.lanes := rfl
@[simp] theorem raise_lasers (b i : Nat) : (raise b i s).lasers = s.lasers := rfl
@[simp] theorem raise_laserEn (b i : Nat) : (raise b i s).laserEn = s.laserEn := rfl
@[simp] theorem raise_peTemp (b i : Nat) : (raise b i s).peTemp = s.peTemp := rfl
@[simp] theorem raise_power (b i : Nat) : (raise b i s).power = s.power := rfl
@[simp] theorem raise_dict (b i : Nat) : (raise b i s).dict = s.dict := rfl
@[simp] theorem raise_trv (b i : Nat) : (raise b i s).trv = s.trv := rfl
@[simp] theorem raise_room (b i : Nat) (r₀ : Nat) : room (raise b i s) r₀ = room s r₀ := rfl
@[simp] theorem raise_roomOf (b i : Nat) (fn₀ : Nat) : roomOf (raise b i s) fn₀ = roomOf s fn₀ := rfl
@[simp] theorem raise_queue (b i : Nat) (fn₀ q₀ : Nat) : queue (raise b i s) fn₀ q₀ = queue s fn₀ q₀ := rfl
@[simp] theorem raise_qp (b i : Nat) (n₀ : Nat) : qp (raise b i s) n₀ = qp s n₀ := rfl
@[simp] theorem raise_fport (b i : Nat) (p₀ : Nat) : fport (raise b i s) p₀ = fport s p₀ := rfl

/-! ## bumpBy -/

@[simp] theorem bumpBy_pending (off n : Nat) : (bumpBy off n s).pending = s.pending := rfl
@[simp] theorem bumpBy_out (off n : Nat) : (bumpBy off n s).out = s.out := rfl
@[simp] theorem bumpBy_free (off n : Nat) : (bumpBy off n s).free = s.free := rfl
@[simp] theorem bumpBy_regs (off n : Nat) : (bumpBy off n s).regs = s.regs := rfl
@[simp] theorem bumpBy_eff (off n : Nat) : (bumpBy off n s).eff = s.eff := rfl
@[simp] theorem bumpBy_bufs (off n : Nat) : (bumpBy off n s).bufs = s.bufs := rfl
@[simp] theorem bumpBy_events (off n : Nat) : (bumpBy off n s).events = s.events := rfl
@[simp] theorem bumpBy_snap (off n : Nat) : (bumpBy off n s).snap = s.snap := rfl
@[simp] theorem bumpBy_arms (off n : Nat) : (bumpBy off n s).arms = s.arms := rfl
@[simp] theorem bumpBy_objs (off n : Nat) : (bumpBy off n s).objs = s.objs := rfl
@[simp] theorem bumpBy_objNow (off n : Nat) : (bumpBy off n s).objNow = s.objNow := rfl
@[simp] theorem bumpBy_tide (off n : Nat) : (bumpBy off n s).tide = s.tide := rfl
@[simp] theorem bumpBy_hports (off n : Nat) : (bumpBy off n s).hports = s.hports := rfl
@[simp] theorem bumpBy_funcs (off n : Nat) : (bumpBy off n s).funcs = s.funcs := rfl
@[simp] theorem bumpBy_hmem (off n : Nat) : (bumpBy off n s).hmem = s.hmem := rfl
@[simp] theorem bumpBy_hpoison (off n : Nat) : (bumpBy off n s).hpoison = s.hpoison := rfl
@[simp] theorem bumpBy_mem (off n : Nat) : (bumpBy off n s).mem = s.mem := rfl
@[simp] theorem bumpBy_mapLines (off n : Nat) : (bumpBy off n s).mapLines = s.mapLines := rfl
@[simp] theorem bumpBy_ds (off n : Nat) : (bumpBy off n s).ds = s.ds := rfl
@[simp] theorem bumpBy_tcache (off n : Nat) : (bumpBy off n s).tcache = s.tcache := rfl
@[simp] theorem bumpBy_ats (off n : Nat) : (bumpBy off n s).ats = s.ats := rfl
@[simp] theorem bumpBy_invals (off n : Nat) : (bumpBy off n s).invals = s.invals := rfl
@[simp] theorem bumpBy_windows (off n : Nat) : (bumpBy off n s).windows = s.windows := rfl
@[simp] theorem bumpBy_winNext (off n : Nat) : (bumpBy off n s).winNext = s.winNext := rfl
@[simp] theorem bumpBy_winFreed (off n : Nat) : (bumpBy off n s).winFreed = s.winFreed := rfl
@[simp] theorem bumpBy_queues (off n : Nat) : (bumpBy off n s).queues = s.queues := rfl
@[simp] theorem bumpBy_lists (off n : Nat) : (bumpBy off n s).lists = s.lists := rfl
@[simp] theorem bumpBy_rrRoom (off n : Nat) : (bumpBy off n s).rrRoom = s.rrRoom := rfl
@[simp] theorem bumpBy_rrQueue (off n : Nat) : (bumpBy off n s).rrQueue = s.rrQueue := rfl
@[simp] theorem bumpBy_tilesHalted (off n : Nat) : (bumpBy off n s).tilesHalted = s.tilesHalted := rfl
@[simp] theorem bumpBy_seawalls (off n : Nat) : (bumpBy off n s).seawalls = s.seawalls := rfl
@[simp] theorem bumpBy_nextSeawall (off n : Nat) : (bumpBy off n s).nextSeawall = s.nextSeawall := rfl
@[simp] theorem bumpBy_qps (off n : Nat) : (bumpBy off n s).qps = s.qps := rfl
@[simp] theorem bumpBy_porch (off n : Nat) : (bumpBy off n s).porch = s.porch := rfl
@[simp] theorem bumpBy_hot (off n : Nat) : (bumpBy off n s).hot = s.hot := rfl
@[simp] theorem bumpBy_warm (off n : Nat) : (bumpBy off n s).warm = s.warm := rfl
@[simp] theorem bumpBy_rooms (off n : Nat) : (bumpBy off n s).rooms = s.rooms := rfl
@[simp] theorem bumpBy_coll (off n : Nat) : (bumpBy off n s).coll = s.coll := rfl
@[simp] theorem bumpBy_errs (off n : Nat) : (bumpBy off n s).errs = s.errs := rfl
@[simp] theorem bumpBy_fports (off n : Nat) : (bumpBy off n s).fports = s.fports := rfl
@[simp] theorem bumpBy_router (off n : Nat) : (bumpBy off n s).router = s.router := rfl
@[simp] theorem bumpBy_heldPkts (off n : Nat) : (bumpBy off n s).heldPkts = s.heldPkts := rfl
@[simp] theorem bumpBy_ethResult (off n : Nat) : (bumpBy off n s).ethResult = s.ethResult := rfl
@[simp] theorem bumpBy_tokens (off n : Nat) : (bumpBy off n s).tokens = s.tokens := rfl
@[simp] theorem bumpBy_tokenFrac (off n : Nat) : (bumpBy off n s).tokenFrac = s.tokenFrac := rfl
@[simp] theorem bumpBy_sealing (off n : Nat) : (bumpBy off n s).sealing = s.sealing := rfl
@[simp] theorem bumpBy_doms (off n : Nat) : (bumpBy off n s).doms = s.doms := rfl
@[simp] theorem bumpBy_lanes (off n : Nat) : (bumpBy off n s).lanes = s.lanes := rfl
@[simp] theorem bumpBy_lasers (off n : Nat) : (bumpBy off n s).lasers = s.lasers := rfl
@[simp] theorem bumpBy_laserEn (off n : Nat) : (bumpBy off n s).laserEn = s.laserEn := rfl
@[simp] theorem bumpBy_peTemp (off n : Nat) : (bumpBy off n s).peTemp = s.peTemp := rfl
@[simp] theorem bumpBy_power (off n : Nat) : (bumpBy off n s).power = s.power := rfl
@[simp] theorem bumpBy_dict (off n : Nat) : (bumpBy off n s).dict = s.dict := rfl
@[simp] theorem bumpBy_trv (off n : Nat) : (bumpBy off n s).trv = s.trv := rfl
@[simp] theorem bumpBy_func (off n : Nat) (fn₀ : Nat) : func (bumpBy off n s) fn₀ = func s fn₀ := rfl
@[simp] theorem bumpBy_hport (off n : Nat) (p₀ : Nat) : hport (bumpBy off n s) p₀ = hport s p₀ := rfl
@[simp] theorem bumpBy_room (off n : Nat) (r₀ : Nat) : room (bumpBy off n s) r₀ = room s r₀ := rfl
@[simp] theorem bumpBy_roomOf (off n : Nat) (fn₀ : Nat) : roomOf (bumpBy off n s) fn₀ = roomOf s fn₀ := rfl
@[simp] theorem bumpBy_queue (off n : Nat) (fn₀ q₀ : Nat) : queue (bumpBy off n s) fn₀ q₀ = queue s fn₀ q₀ := rfl
@[simp] theorem bumpBy_qp (off n : Nat) (n₀ : Nat) : qp (bumpBy off n s) n₀ = qp s n₀ := rfl
@[simp] theorem bumpBy_fport (off n : Nat) (p₀ : Nat) : fport (bumpBy off n s) p₀ = fport s p₀ := rfl

/-! ## bump -/

@[simp] theorem bump_pending (off : Nat) : (bump off s).pending = s.pending := rfl
@[simp] theorem bump_out (off : Nat) : (bump off s).out = s.out := rfl
@[simp] theorem bump_free (off : Nat) : (bump off s).free = s.free := rfl
@[simp] theorem bump_regs (off : Nat) : (bump off s).regs = s.regs := rfl
@[simp] theorem bump_eff (off : Nat) : (bump off s).eff = s.eff := rfl
@[simp] theorem bump_bufs (off : Nat) : (bump off s).bufs = s.bufs := rfl
@[simp] theorem bump_events (off : Nat) : (bump off s).events = s.events := rfl
@[simp] theorem bump_snap (off : Nat) : (bump off s).snap = s.snap := rfl
@[simp] theorem bump_arms (off : Nat) : (bump off s).arms = s.arms := rfl
@[simp] theorem bump_objs (off : Nat) : (bump off s).objs = s.objs := rfl
@[simp] theorem bump_objNow (off : Nat) : (bump off s).objNow = s.objNow := rfl
@[simp] theorem bump_tide (off : Nat) : (bump off s).tide = s.tide := rfl
@[simp] theorem bump_hports (off : Nat) : (bump off s).hports = s.hports := rfl
@[simp] theorem bump_funcs (off : Nat) : (bump off s).funcs = s.funcs := rfl
@[simp] theorem bump_hmem (off : Nat) : (bump off s).hmem = s.hmem := rfl
@[simp] theorem bump_hpoison (off : Nat) : (bump off s).hpoison = s.hpoison := rfl
@[simp] theorem bump_mem (off : Nat) : (bump off s).mem = s.mem := rfl
@[simp] theorem bump_mapLines (off : Nat) : (bump off s).mapLines = s.mapLines := rfl
@[simp] theorem bump_ds (off : Nat) : (bump off s).ds = s.ds := rfl
@[simp] theorem bump_tcache (off : Nat) : (bump off s).tcache = s.tcache := rfl
@[simp] theorem bump_ats (off : Nat) : (bump off s).ats = s.ats := rfl
@[simp] theorem bump_invals (off : Nat) : (bump off s).invals = s.invals := rfl
@[simp] theorem bump_windows (off : Nat) : (bump off s).windows = s.windows := rfl
@[simp] theorem bump_winNext (off : Nat) : (bump off s).winNext = s.winNext := rfl
@[simp] theorem bump_winFreed (off : Nat) : (bump off s).winFreed = s.winFreed := rfl
@[simp] theorem bump_queues (off : Nat) : (bump off s).queues = s.queues := rfl
@[simp] theorem bump_lists (off : Nat) : (bump off s).lists = s.lists := rfl
@[simp] theorem bump_rrRoom (off : Nat) : (bump off s).rrRoom = s.rrRoom := rfl
@[simp] theorem bump_rrQueue (off : Nat) : (bump off s).rrQueue = s.rrQueue := rfl
@[simp] theorem bump_tilesHalted (off : Nat) : (bump off s).tilesHalted = s.tilesHalted := rfl
@[simp] theorem bump_seawalls (off : Nat) : (bump off s).seawalls = s.seawalls := rfl
@[simp] theorem bump_nextSeawall (off : Nat) : (bump off s).nextSeawall = s.nextSeawall := rfl
@[simp] theorem bump_qps (off : Nat) : (bump off s).qps = s.qps := rfl
@[simp] theorem bump_porch (off : Nat) : (bump off s).porch = s.porch := rfl
@[simp] theorem bump_hot (off : Nat) : (bump off s).hot = s.hot := rfl
@[simp] theorem bump_warm (off : Nat) : (bump off s).warm = s.warm := rfl
@[simp] theorem bump_rooms (off : Nat) : (bump off s).rooms = s.rooms := rfl
@[simp] theorem bump_coll (off : Nat) : (bump off s).coll = s.coll := rfl
@[simp] theorem bump_errs (off : Nat) : (bump off s).errs = s.errs := rfl
@[simp] theorem bump_fports (off : Nat) : (bump off s).fports = s.fports := rfl
@[simp] theorem bump_router (off : Nat) : (bump off s).router = s.router := rfl
@[simp] theorem bump_heldPkts (off : Nat) : (bump off s).heldPkts = s.heldPkts := rfl
@[simp] theorem bump_ethResult (off : Nat) : (bump off s).ethResult = s.ethResult := rfl
@[simp] theorem bump_tokens (off : Nat) : (bump off s).tokens = s.tokens := rfl
@[simp] theorem bump_tokenFrac (off : Nat) : (bump off s).tokenFrac = s.tokenFrac := rfl
@[simp] theorem bump_sealing (off : Nat) : (bump off s).sealing = s.sealing := rfl
@[simp] theorem bump_doms (off : Nat) : (bump off s).doms = s.doms := rfl
@[simp] theorem bump_lanes (off : Nat) : (bump off s).lanes = s.lanes := rfl
@[simp] theorem bump_lasers (off : Nat) : (bump off s).lasers = s.lasers := rfl
@[simp] theorem bump_laserEn (off : Nat) : (bump off s).laserEn = s.laserEn := rfl
@[simp] theorem bump_peTemp (off : Nat) : (bump off s).peTemp = s.peTemp := rfl
@[simp] theorem bump_power (off : Nat) : (bump off s).power = s.power := rfl
@[simp] theorem bump_dict (off : Nat) : (bump off s).dict = s.dict := rfl
@[simp] theorem bump_trv (off : Nat) : (bump off s).trv = s.trv := rfl
@[simp] theorem bump_func (off : Nat) (fn₀ : Nat) : func (bump off s) fn₀ = func s fn₀ := rfl
@[simp] theorem bump_hport (off : Nat) (p₀ : Nat) : hport (bump off s) p₀ = hport s p₀ := rfl
@[simp] theorem bump_room (off : Nat) (r₀ : Nat) : room (bump off s) r₀ = room s r₀ := rfl
@[simp] theorem bump_roomOf (off : Nat) (fn₀ : Nat) : roomOf (bump off s) fn₀ = roomOf s fn₀ := rfl
@[simp] theorem bump_queue (off : Nat) (fn₀ q₀ : Nat) : queue (bump off s) fn₀ q₀ = queue s fn₀ q₀ := rfl
@[simp] theorem bump_qp (off : Nat) (n₀ : Nat) : qp (bump off s) n₀ = qp s n₀ := rfl
@[simp] theorem bump_fport (off : Nat) (p₀ : Nat) : fport (bump off s) p₀ = fport s p₀ := rfl

/-! ## disarm -/

@[simp] theorem disarm_pending (b : Nat) : (disarm b s).pending = s.pending := rfl
@[simp] theorem disarm_out (b : Nat) : (disarm b s).out = s.out := rfl
@[simp] theorem disarm_free (b : Nat) : (disarm b s).free = s.free := rfl
@[simp] theorem disarm_regs (b : Nat) : (disarm b s).regs = s.regs := rfl
@[simp] theorem disarm_eff (b : Nat) : (disarm b s).eff = s.eff := rfl
@[simp] theorem disarm_bufs (b : Nat) : (disarm b s).bufs = s.bufs := rfl
@[simp] theorem disarm_events (b : Nat) : (disarm b s).events = s.events := rfl
@[simp] theorem disarm_cnt (b : Nat) : (disarm b s).cnt = s.cnt := rfl
@[simp] theorem disarm_snap (b : Nat) : (disarm b s).snap = s.snap := rfl
@[simp] theorem disarm_objs (b : Nat) : (disarm b s).objs = s.objs := rfl
@[simp] theorem disarm_objNow (b : Nat) : (disarm b s).objNow = s.objNow := rfl
@[simp] theorem disarm_tide (b : Nat) : (disarm b s).tide = s.tide := rfl
@[simp] theorem disarm_hports (b : Nat) : (disarm b s).hports = s.hports := rfl
@[simp] theorem disarm_funcs (b : Nat) : (disarm b s).funcs = s.funcs := rfl
@[simp] theorem disarm_hmem (b : Nat) : (disarm b s).hmem = s.hmem := rfl
@[simp] theorem disarm_hpoison (b : Nat) : (disarm b s).hpoison = s.hpoison := rfl
@[simp] theorem disarm_mem (b : Nat) : (disarm b s).mem = s.mem := rfl
@[simp] theorem disarm_mapLines (b : Nat) : (disarm b s).mapLines = s.mapLines := rfl
@[simp] theorem disarm_ds (b : Nat) : (disarm b s).ds = s.ds := rfl
@[simp] theorem disarm_tcache (b : Nat) : (disarm b s).tcache = s.tcache := rfl
@[simp] theorem disarm_ats (b : Nat) : (disarm b s).ats = s.ats := rfl
@[simp] theorem disarm_invals (b : Nat) : (disarm b s).invals = s.invals := rfl
@[simp] theorem disarm_windows (b : Nat) : (disarm b s).windows = s.windows := rfl
@[simp] theorem disarm_winNext (b : Nat) : (disarm b s).winNext = s.winNext := rfl
@[simp] theorem disarm_winFreed (b : Nat) : (disarm b s).winFreed = s.winFreed := rfl
@[simp] theorem disarm_queues (b : Nat) : (disarm b s).queues = s.queues := rfl
@[simp] theorem disarm_lists (b : Nat) : (disarm b s).lists = s.lists := rfl
@[simp] theorem disarm_rrRoom (b : Nat) : (disarm b s).rrRoom = s.rrRoom := rfl
@[simp] theorem disarm_rrQueue (b : Nat) : (disarm b s).rrQueue = s.rrQueue := rfl
@[simp] theorem disarm_tilesHalted (b : Nat) : (disarm b s).tilesHalted = s.tilesHalted := rfl
@[simp] theorem disarm_seawalls (b : Nat) : (disarm b s).seawalls = s.seawalls := rfl
@[simp] theorem disarm_nextSeawall (b : Nat) : (disarm b s).nextSeawall = s.nextSeawall := rfl
@[simp] theorem disarm_qps (b : Nat) : (disarm b s).qps = s.qps := rfl
@[simp] theorem disarm_porch (b : Nat) : (disarm b s).porch = s.porch := rfl
@[simp] theorem disarm_hot (b : Nat) : (disarm b s).hot = s.hot := rfl
@[simp] theorem disarm_warm (b : Nat) : (disarm b s).warm = s.warm := rfl
@[simp] theorem disarm_rooms (b : Nat) : (disarm b s).rooms = s.rooms := rfl
@[simp] theorem disarm_coll (b : Nat) : (disarm b s).coll = s.coll := rfl
@[simp] theorem disarm_errs (b : Nat) : (disarm b s).errs = s.errs := rfl
@[simp] theorem disarm_fports (b : Nat) : (disarm b s).fports = s.fports := rfl
@[simp] theorem disarm_router (b : Nat) : (disarm b s).router = s.router := rfl
@[simp] theorem disarm_heldPkts (b : Nat) : (disarm b s).heldPkts = s.heldPkts := rfl
@[simp] theorem disarm_ethResult (b : Nat) : (disarm b s).ethResult = s.ethResult := rfl
@[simp] theorem disarm_tokens (b : Nat) : (disarm b s).tokens = s.tokens := rfl
@[simp] theorem disarm_tokenFrac (b : Nat) : (disarm b s).tokenFrac = s.tokenFrac := rfl
@[simp] theorem disarm_sealing (b : Nat) : (disarm b s).sealing = s.sealing := rfl
@[simp] theorem disarm_doms (b : Nat) : (disarm b s).doms = s.doms := rfl
@[simp] theorem disarm_lanes (b : Nat) : (disarm b s).lanes = s.lanes := rfl
@[simp] theorem disarm_lasers (b : Nat) : (disarm b s).lasers = s.lasers := rfl
@[simp] theorem disarm_laserEn (b : Nat) : (disarm b s).laserEn = s.laserEn := rfl
@[simp] theorem disarm_peTemp (b : Nat) : (disarm b s).peTemp = s.peTemp := rfl
@[simp] theorem disarm_power (b : Nat) : (disarm b s).power = s.power := rfl
@[simp] theorem disarm_dict (b : Nat) : (disarm b s).dict = s.dict := rfl
@[simp] theorem disarm_trv (b : Nat) : (disarm b s).trv = s.trv := rfl
@[simp] theorem disarm_func (b : Nat) (fn₀ : Nat) : func (disarm b s) fn₀ = func s fn₀ := rfl
@[simp] theorem disarm_hport (b : Nat) (p₀ : Nat) : hport (disarm b s) p₀ = hport s p₀ := rfl
@[simp] theorem disarm_room (b : Nat) (r₀ : Nat) : room (disarm b s) r₀ = room s r₀ := rfl
@[simp] theorem disarm_roomOf (b : Nat) (fn₀ : Nat) : roomOf (disarm b s) fn₀ = roomOf s fn₀ := rfl
@[simp] theorem disarm_queue (b : Nat) (fn₀ q₀ : Nat) : queue (disarm b s) fn₀ q₀ = queue s fn₀ q₀ := rfl
@[simp] theorem disarm_qp (b : Nat) (n₀ : Nat) : qp (disarm b s) n₀ = qp s n₀ := rfl
@[simp] theorem disarm_fport (b : Nat) (p₀ : Nat) : fport (disarm b s) p₀ = fport s p₀ := rfl

/-! ## silent -/

@[simp] theorem silent_pending : (silent s).pending = s.pending := rfl
@[simp] theorem silent_out : (silent s).out = s.out := rfl
@[simp] theorem silent_free : (silent s).free = s.free := rfl
@[simp] theorem silent_regs : (silent s).regs = s.regs := rfl
@[simp] theorem silent_eff : (silent s).eff = s.eff := rfl
@[simp] theorem silent_bufs : (silent s).bufs = s.bufs := rfl
@[simp] theorem silent_events : (silent s).events = s.events := rfl
@[simp] theorem silent_snap : (silent s).snap = s.snap := rfl
@[simp] theorem silent_arms : (silent s).arms = s.arms := rfl
@[simp] theorem silent_objs : (silent s).objs = s.objs := rfl
@[simp] theorem silent_objNow : (silent s).objNow = s.objNow := rfl
@[simp] theorem silent_tide : (silent s).tide = s.tide := rfl
@[simp] theorem silent_hports : (silent s).hports = s.hports := rfl
@[simp] theorem silent_funcs : (silent s).funcs = s.funcs := rfl
@[simp] theorem silent_hmem : (silent s).hmem = s.hmem := rfl
@[simp] theorem silent_hpoison : (silent s).hpoison = s.hpoison := rfl
@[simp] theorem silent_mem : (silent s).mem = s.mem := rfl
@[simp] theorem silent_mapLines : (silent s).mapLines = s.mapLines := rfl
@[simp] theorem silent_ds : (silent s).ds = s.ds := rfl
@[simp] theorem silent_tcache : (silent s).tcache = s.tcache := rfl
@[simp] theorem silent_ats : (silent s).ats = s.ats := rfl
@[simp] theorem silent_invals : (silent s).invals = s.invals := rfl
@[simp] theorem silent_windows : (silent s).windows = s.windows := rfl
@[simp] theorem silent_winNext : (silent s).winNext = s.winNext := rfl
@[simp] theorem silent_winFreed : (silent s).winFreed = s.winFreed := rfl
@[simp] theorem silent_queues : (silent s).queues = s.queues := rfl
@[simp] theorem silent_lists : (silent s).lists = s.lists := rfl
@[simp] theorem silent_rrRoom : (silent s).rrRoom = s.rrRoom := rfl
@[simp] theorem silent_rrQueue : (silent s).rrQueue = s.rrQueue := rfl
@[simp] theorem silent_tilesHalted : (silent s).tilesHalted = s.tilesHalted := rfl
@[simp] theorem silent_seawalls : (silent s).seawalls = s.seawalls := rfl
@[simp] theorem silent_nextSeawall : (silent s).nextSeawall = s.nextSeawall := rfl
@[simp] theorem silent_qps : (silent s).qps = s.qps := rfl
@[simp] theorem silent_porch : (silent s).porch = s.porch := rfl
@[simp] theorem silent_hot : (silent s).hot = s.hot := rfl
@[simp] theorem silent_warm : (silent s).warm = s.warm := rfl
@[simp] theorem silent_rooms : (silent s).rooms = s.rooms := rfl
@[simp] theorem silent_coll : (silent s).coll = s.coll := rfl
@[simp] theorem silent_errs : (silent s).errs = s.errs := rfl
@[simp] theorem silent_fports : (silent s).fports = s.fports := rfl
@[simp] theorem silent_router : (silent s).router = s.router := rfl
@[simp] theorem silent_heldPkts : (silent s).heldPkts = s.heldPkts := rfl
@[simp] theorem silent_ethResult : (silent s).ethResult = s.ethResult := rfl
@[simp] theorem silent_tokens : (silent s).tokens = s.tokens := rfl
@[simp] theorem silent_tokenFrac : (silent s).tokenFrac = s.tokenFrac := rfl
@[simp] theorem silent_sealing : (silent s).sealing = s.sealing := rfl
@[simp] theorem silent_doms : (silent s).doms = s.doms := rfl
@[simp] theorem silent_lanes : (silent s).lanes = s.lanes := rfl
@[simp] theorem silent_lasers : (silent s).lasers = s.lasers := rfl
@[simp] theorem silent_laserEn : (silent s).laserEn = s.laserEn := rfl
@[simp] theorem silent_peTemp : (silent s).peTemp = s.peTemp := rfl
@[simp] theorem silent_power : (silent s).power = s.power := rfl
@[simp] theorem silent_dict : (silent s).dict = s.dict := rfl
@[simp] theorem silent_trv : (silent s).trv = s.trv := rfl
@[simp] theorem silent_func (fn₀ : Nat) : func (silent s) fn₀ = func s fn₀ := rfl
@[simp] theorem silent_hport (p₀ : Nat) : hport (silent s) p₀ = hport s p₀ := rfl
@[simp] theorem silent_room (r₀ : Nat) : room (silent s) r₀ = room s r₀ := rfl
@[simp] theorem silent_roomOf (fn₀ : Nat) : roomOf (silent s) fn₀ = roomOf s fn₀ := rfl
@[simp] theorem silent_queue (fn₀ q₀ : Nat) : queue (silent s) fn₀ q₀ = queue s fn₀ q₀ := rfl
@[simp] theorem silent_qp (n₀ : Nat) : qp (silent s) n₀ = qp s n₀ := rfl
@[simp] theorem silent_fport (p₀ : Nat) : fport (silent s) p₀ = fport s p₀ := rfl

/-! ## devWrite -/

@[simp] theorem devWrite_pending (a : Nat) (d : List Byte) : (devWrite a d s).pending = s.pending := rfl
@[simp] theorem devWrite_out (a : Nat) (d : List Byte) : (devWrite a d s).out = s.out := rfl
@[simp] theorem devWrite_free (a : Nat) (d : List Byte) : (devWrite a d s).free = s.free := rfl
@[simp] theorem devWrite_regs (a : Nat) (d : List Byte) : (devWrite a d s).regs = s.regs := rfl
@[simp] theorem devWrite_eff (a : Nat) (d : List Byte) : (devWrite a d s).eff = s.eff := rfl
@[simp] theorem devWrite_bufs (a : Nat) (d : List Byte) : (devWrite a d s).bufs = s.bufs := rfl
@[simp] theorem devWrite_events (a : Nat) (d : List Byte) : (devWrite a d s).events = s.events := rfl
@[simp] theorem devWrite_snap (a : Nat) (d : List Byte) : (devWrite a d s).snap = s.snap := rfl
@[simp] theorem devWrite_arms (a : Nat) (d : List Byte) : (devWrite a d s).arms = s.arms := rfl
@[simp] theorem devWrite_objs (a : Nat) (d : List Byte) : (devWrite a d s).objs = s.objs := rfl
@[simp] theorem devWrite_objNow (a : Nat) (d : List Byte) : (devWrite a d s).objNow = s.objNow := rfl
@[simp] theorem devWrite_tide (a : Nat) (d : List Byte) : (devWrite a d s).tide = s.tide := rfl
@[simp] theorem devWrite_hports (a : Nat) (d : List Byte) : (devWrite a d s).hports = s.hports := rfl
@[simp] theorem devWrite_funcs (a : Nat) (d : List Byte) : (devWrite a d s).funcs = s.funcs := rfl
@[simp] theorem devWrite_hmem (a : Nat) (d : List Byte) : (devWrite a d s).hmem = s.hmem := rfl
@[simp] theorem devWrite_hpoison (a : Nat) (d : List Byte) : (devWrite a d s).hpoison = s.hpoison := rfl
@[simp] theorem devWrite_ds (a : Nat) (d : List Byte) : (devWrite a d s).ds = s.ds := rfl
@[simp] theorem devWrite_tcache (a : Nat) (d : List Byte) : (devWrite a d s).tcache = s.tcache := rfl
@[simp] theorem devWrite_ats (a : Nat) (d : List Byte) : (devWrite a d s).ats = s.ats := rfl
@[simp] theorem devWrite_invals (a : Nat) (d : List Byte) : (devWrite a d s).invals = s.invals := rfl
@[simp] theorem devWrite_windows (a : Nat) (d : List Byte) : (devWrite a d s).windows = s.windows := rfl
@[simp] theorem devWrite_winNext (a : Nat) (d : List Byte) : (devWrite a d s).winNext = s.winNext := rfl
@[simp] theorem devWrite_winFreed (a : Nat) (d : List Byte) : (devWrite a d s).winFreed = s.winFreed := rfl
@[simp] theorem devWrite_queues (a : Nat) (d : List Byte) : (devWrite a d s).queues = s.queues := rfl
@[simp] theorem devWrite_lists (a : Nat) (d : List Byte) : (devWrite a d s).lists = s.lists := rfl
@[simp] theorem devWrite_rrRoom (a : Nat) (d : List Byte) : (devWrite a d s).rrRoom = s.rrRoom := rfl
@[simp] theorem devWrite_rrQueue (a : Nat) (d : List Byte) : (devWrite a d s).rrQueue = s.rrQueue := rfl
@[simp] theorem devWrite_tilesHalted (a : Nat) (d : List Byte) : (devWrite a d s).tilesHalted = s.tilesHalted := rfl
@[simp] theorem devWrite_seawalls (a : Nat) (d : List Byte) : (devWrite a d s).seawalls = s.seawalls := rfl
@[simp] theorem devWrite_nextSeawall (a : Nat) (d : List Byte) : (devWrite a d s).nextSeawall = s.nextSeawall := rfl
@[simp] theorem devWrite_qps (a : Nat) (d : List Byte) : (devWrite a d s).qps = s.qps := rfl
@[simp] theorem devWrite_porch (a : Nat) (d : List Byte) : (devWrite a d s).porch = s.porch := rfl
@[simp] theorem devWrite_hot (a : Nat) (d : List Byte) : (devWrite a d s).hot = s.hot := rfl
@[simp] theorem devWrite_warm (a : Nat) (d : List Byte) : (devWrite a d s).warm = s.warm := rfl
@[simp] theorem devWrite_rooms (a : Nat) (d : List Byte) : (devWrite a d s).rooms = s.rooms := rfl
@[simp] theorem devWrite_coll (a : Nat) (d : List Byte) : (devWrite a d s).coll = s.coll := rfl
@[simp] theorem devWrite_errs (a : Nat) (d : List Byte) : (devWrite a d s).errs = s.errs := rfl
@[simp] theorem devWrite_fports (a : Nat) (d : List Byte) : (devWrite a d s).fports = s.fports := rfl
@[simp] theorem devWrite_router (a : Nat) (d : List Byte) : (devWrite a d s).router = s.router := rfl
@[simp] theorem devWrite_heldPkts (a : Nat) (d : List Byte) : (devWrite a d s).heldPkts = s.heldPkts := rfl
@[simp] theorem devWrite_ethResult (a : Nat) (d : List Byte) : (devWrite a d s).ethResult = s.ethResult := rfl
@[simp] theorem devWrite_tokens (a : Nat) (d : List Byte) : (devWrite a d s).tokens = s.tokens := rfl
@[simp] theorem devWrite_tokenFrac (a : Nat) (d : List Byte) : (devWrite a d s).tokenFrac = s.tokenFrac := rfl
@[simp] theorem devWrite_sealing (a : Nat) (d : List Byte) : (devWrite a d s).sealing = s.sealing := rfl
@[simp] theorem devWrite_doms (a : Nat) (d : List Byte) : (devWrite a d s).doms = s.doms := rfl
@[simp] theorem devWrite_lanes (a : Nat) (d : List Byte) : (devWrite a d s).lanes = s.lanes := rfl
@[simp] theorem devWrite_lasers (a : Nat) (d : List Byte) : (devWrite a d s).lasers = s.lasers := rfl
@[simp] theorem devWrite_laserEn (a : Nat) (d : List Byte) : (devWrite a d s).laserEn = s.laserEn := rfl
@[simp] theorem devWrite_peTemp (a : Nat) (d : List Byte) : (devWrite a d s).peTemp = s.peTemp := rfl
@[simp] theorem devWrite_power (a : Nat) (d : List Byte) : (devWrite a d s).power = s.power := rfl
@[simp] theorem devWrite_dict (a : Nat) (d : List Byte) : (devWrite a d s).dict = s.dict := rfl
@[simp] theorem devWrite_trv (a : Nat) (d : List Byte) : (devWrite a d s).trv = s.trv := rfl
@[simp] theorem devWrite_func (a : Nat) (d : List Byte) (fn₀ : Nat) : func (devWrite a d s) fn₀ = func s fn₀ := rfl
@[simp] theorem devWrite_hport (a : Nat) (d : List Byte) (p₀ : Nat) : hport (devWrite a d s) p₀ = hport s p₀ := rfl
@[simp] theorem devWrite_room (a : Nat) (d : List Byte) (r₀ : Nat) : room (devWrite a d s) r₀ = room s r₀ := rfl
@[simp] theorem devWrite_roomOf (a : Nat) (d : List Byte) (fn₀ : Nat) : roomOf (devWrite a d s) fn₀ = roomOf s fn₀ := rfl
@[simp] theorem devWrite_queue (a : Nat) (d : List Byte) (fn₀ q₀ : Nat) : queue (devWrite a d s) fn₀ q₀ = queue s fn₀ q₀ := rfl
@[simp] theorem devWrite_qp (a : Nat) (d : List Byte) (n₀ : Nat) : qp (devWrite a d s) n₀ = qp s n₀ := rfl
@[simp] theorem devWrite_fport (a : Nat) (d : List Byte) (p₀ : Nat) : fport (devWrite a d s) p₀ = fport s p₀ := rfl

/-! ## modQueue -/

@[simp] theorem modQueue_pending (fn q : Nat) (f : Queue → Queue) : (modQueue fn q f s).pending = s.pending := rfl
@[simp] theorem modQueue_out (fn q : Nat) (f : Queue → Queue) : (modQueue fn q f s).out = s.out := rfl
@[simp] theorem modQueue_free (fn q : Nat) (f : Queue → Queue) : (modQueue fn q f s).free = s.free := rfl
@[simp] theorem modQueue_regs (fn q : Nat) (f : Queue → Queue) : (modQueue fn q f s).regs = s.regs := rfl
@[simp] theorem modQueue_eff (fn q : Nat) (f : Queue → Queue) : (modQueue fn q f s).eff = s.eff := rfl
@[simp] theorem modQueue_bufs (fn q : Nat) (f : Queue → Queue) : (modQueue fn q f s).bufs = s.bufs := rfl
@[simp] theorem modQueue_events (fn q : Nat) (f : Queue → Queue) : (modQueue fn q f s).events = s.events := rfl
@[simp] theorem modQueue_cnt (fn q : Nat) (f : Queue → Queue) : (modQueue fn q f s).cnt = s.cnt := rfl
@[simp] theorem modQueue_snap (fn q : Nat) (f : Queue → Queue) : (modQueue fn q f s).snap = s.snap := rfl
@[simp] theorem modQueue_arms (fn q : Nat) (f : Queue → Queue) : (modQueue fn q f s).arms = s.arms := rfl
@[simp] theorem modQueue_objs (fn q : Nat) (f : Queue → Queue) : (modQueue fn q f s).objs = s.objs := rfl
@[simp] theorem modQueue_objNow (fn q : Nat) (f : Queue → Queue) : (modQueue fn q f s).objNow = s.objNow := rfl
@[simp] theorem modQueue_tide (fn q : Nat) (f : Queue → Queue) : (modQueue fn q f s).tide = s.tide := rfl
@[simp] theorem modQueue_hports (fn q : Nat) (f : Queue → Queue) : (modQueue fn q f s).hports = s.hports := rfl
@[simp] theorem modQueue_funcs (fn q : Nat) (f : Queue → Queue) : (modQueue fn q f s).funcs = s.funcs := rfl
@[simp] theorem modQueue_hmem (fn q : Nat) (f : Queue → Queue) : (modQueue fn q f s).hmem = s.hmem := rfl
@[simp] theorem modQueue_hpoison (fn q : Nat) (f : Queue → Queue) : (modQueue fn q f s).hpoison = s.hpoison := rfl
@[simp] theorem modQueue_mem (fn q : Nat) (f : Queue → Queue) : (modQueue fn q f s).mem = s.mem := rfl
@[simp] theorem modQueue_mapLines (fn q : Nat) (f : Queue → Queue) : (modQueue fn q f s).mapLines = s.mapLines := rfl
@[simp] theorem modQueue_ds (fn q : Nat) (f : Queue → Queue) : (modQueue fn q f s).ds = s.ds := rfl
@[simp] theorem modQueue_tcache (fn q : Nat) (f : Queue → Queue) : (modQueue fn q f s).tcache = s.tcache := rfl
@[simp] theorem modQueue_ats (fn q : Nat) (f : Queue → Queue) : (modQueue fn q f s).ats = s.ats := rfl
@[simp] theorem modQueue_invals (fn q : Nat) (f : Queue → Queue) : (modQueue fn q f s).invals = s.invals := rfl
@[simp] theorem modQueue_windows (fn q : Nat) (f : Queue → Queue) : (modQueue fn q f s).windows = s.windows := rfl
@[simp] theorem modQueue_winNext (fn q : Nat) (f : Queue → Queue) : (modQueue fn q f s).winNext = s.winNext := rfl
@[simp] theorem modQueue_winFreed (fn q : Nat) (f : Queue → Queue) : (modQueue fn q f s).winFreed = s.winFreed := rfl
@[simp] theorem modQueue_lists (fn q : Nat) (f : Queue → Queue) : (modQueue fn q f s).lists = s.lists := rfl
@[simp] theorem modQueue_rrRoom (fn q : Nat) (f : Queue → Queue) : (modQueue fn q f s).rrRoom = s.rrRoom := rfl
@[simp] theorem modQueue_rrQueue (fn q : Nat) (f : Queue → Queue) : (modQueue fn q f s).rrQueue = s.rrQueue := rfl
@[simp] theorem modQueue_tilesHalted (fn q : Nat) (f : Queue → Queue) : (modQueue fn q f s).tilesHalted = s.tilesHalted := rfl
@[simp] theorem modQueue_seawalls (fn q : Nat) (f : Queue → Queue) : (modQueue fn q f s).seawalls = s.seawalls := rfl
@[simp] theorem modQueue_nextSeawall (fn q : Nat) (f : Queue → Queue) : (modQueue fn q f s).nextSeawall = s.nextSeawall := rfl
@[simp] theorem modQueue_qps (fn q : Nat) (f : Queue → Queue) : (modQueue fn q f s).qps = s.qps := rfl
@[simp] theorem modQueue_porch (fn q : Nat) (f : Queue → Queue) : (modQueue fn q f s).porch = s.porch := rfl
@[simp] theorem modQueue_hot (fn q : Nat) (f : Queue → Queue) : (modQueue fn q f s).hot = s.hot := rfl
@[simp] theorem modQueue_warm (fn q : Nat) (f : Queue → Queue) : (modQueue fn q f s).warm = s.warm := rfl
@[simp] theorem modQueue_rooms (fn q : Nat) (f : Queue → Queue) : (modQueue fn q f s).rooms = s.rooms := rfl
@[simp] theorem modQueue_coll (fn q : Nat) (f : Queue → Queue) : (modQueue fn q f s).coll = s.coll := rfl
@[simp] theorem modQueue_errs (fn q : Nat) (f : Queue → Queue) : (modQueue fn q f s).errs = s.errs := rfl
@[simp] theorem modQueue_fports (fn q : Nat) (f : Queue → Queue) : (modQueue fn q f s).fports = s.fports := rfl
@[simp] theorem modQueue_router (fn q : Nat) (f : Queue → Queue) : (modQueue fn q f s).router = s.router := rfl
@[simp] theorem modQueue_heldPkts (fn q : Nat) (f : Queue → Queue) : (modQueue fn q f s).heldPkts = s.heldPkts := rfl
@[simp] theorem modQueue_ethResult (fn q : Nat) (f : Queue → Queue) : (modQueue fn q f s).ethResult = s.ethResult := rfl
@[simp] theorem modQueue_tokens (fn q : Nat) (f : Queue → Queue) : (modQueue fn q f s).tokens = s.tokens := rfl
@[simp] theorem modQueue_tokenFrac (fn q : Nat) (f : Queue → Queue) : (modQueue fn q f s).tokenFrac = s.tokenFrac := rfl
@[simp] theorem modQueue_sealing (fn q : Nat) (f : Queue → Queue) : (modQueue fn q f s).sealing = s.sealing := rfl
@[simp] theorem modQueue_doms (fn q : Nat) (f : Queue → Queue) : (modQueue fn q f s).doms = s.doms := rfl
@[simp] theorem modQueue_lanes (fn q : Nat) (f : Queue → Queue) : (modQueue fn q f s).lanes = s.lanes := rfl
@[simp] theorem modQueue_lasers (fn q : Nat) (f : Queue → Queue) : (modQueue fn q f s).lasers = s.lasers := rfl
@[simp] theorem modQueue_laserEn (fn q : Nat) (f : Queue → Queue) : (modQueue fn q f s).laserEn = s.laserEn := rfl
@[simp] theorem modQueue_peTemp (fn q : Nat) (f : Queue → Queue) : (modQueue fn q f s).peTemp = s.peTemp := rfl
@[simp] theorem modQueue_power (fn q : Nat) (f : Queue → Queue) : (modQueue fn q f s).power = s.power := rfl
@[simp] theorem modQueue_dict (fn q : Nat) (f : Queue → Queue) : (modQueue fn q f s).dict = s.dict := rfl
@[simp] theorem modQueue_trv (fn q : Nat) (f : Queue → Queue) : (modQueue fn q f s).trv = s.trv := rfl
@[simp] theorem modQueue_func (fn q : Nat) (f : Queue → Queue) (fn₀ : Nat) : func (modQueue fn q f s) fn₀ = func s fn₀ := rfl
@[simp] theorem modQueue_hport (fn q : Nat) (f : Queue → Queue) (p₀ : Nat) : hport (modQueue fn q f s) p₀ = hport s p₀ := rfl
@[simp] theorem modQueue_room (fn q : Nat) (f : Queue → Queue) (r₀ : Nat) : room (modQueue fn q f s) r₀ = room s r₀ := rfl
@[simp] theorem modQueue_roomOf (fn q : Nat) (f : Queue → Queue) (fn₀ : Nat) : roomOf (modQueue fn q f s) fn₀ = roomOf s fn₀ := rfl
@[simp] theorem modQueue_qp (fn q : Nat) (f : Queue → Queue) (n₀ : Nat) : qp (modQueue fn q f s) n₀ = qp s n₀ := rfl
@[simp] theorem modQueue_fport (fn q : Nat) (f : Queue → Queue) (p₀ : Nat) : fport (modQueue fn q f s) p₀ = fport s p₀ := rfl

/-! ## modReq -/

@[simp] theorem modReq_pending (fn : Nat) (f : Queue → Queue) : (modReq fn f s).pending = s.pending := rfl
@[simp] theorem modReq_out (fn : Nat) (f : Queue → Queue) : (modReq fn f s).out = s.out := rfl
@[simp] theorem modReq_free (fn : Nat) (f : Queue → Queue) : (modReq fn f s).free = s.free := rfl
@[simp] theorem modReq_regs (fn : Nat) (f : Queue → Queue) : (modReq fn f s).regs = s.regs := rfl
@[simp] theorem modReq_eff (fn : Nat) (f : Queue → Queue) : (modReq fn f s).eff = s.eff := rfl
@[simp] theorem modReq_bufs (fn : Nat) (f : Queue → Queue) : (modReq fn f s).bufs = s.bufs := rfl
@[simp] theorem modReq_events (fn : Nat) (f : Queue → Queue) : (modReq fn f s).events = s.events := rfl
@[simp] theorem modReq_cnt (fn : Nat) (f : Queue → Queue) : (modReq fn f s).cnt = s.cnt := rfl
@[simp] theorem modReq_snap (fn : Nat) (f : Queue → Queue) : (modReq fn f s).snap = s.snap := rfl
@[simp] theorem modReq_arms (fn : Nat) (f : Queue → Queue) : (modReq fn f s).arms = s.arms := rfl
@[simp] theorem modReq_objs (fn : Nat) (f : Queue → Queue) : (modReq fn f s).objs = s.objs := rfl
@[simp] theorem modReq_objNow (fn : Nat) (f : Queue → Queue) : (modReq fn f s).objNow = s.objNow := rfl
@[simp] theorem modReq_tide (fn : Nat) (f : Queue → Queue) : (modReq fn f s).tide = s.tide := rfl
@[simp] theorem modReq_hports (fn : Nat) (f : Queue → Queue) : (modReq fn f s).hports = s.hports := rfl
@[simp] theorem modReq_hmem (fn : Nat) (f : Queue → Queue) : (modReq fn f s).hmem = s.hmem := rfl
@[simp] theorem modReq_hpoison (fn : Nat) (f : Queue → Queue) : (modReq fn f s).hpoison = s.hpoison := rfl
@[simp] theorem modReq_mem (fn : Nat) (f : Queue → Queue) : (modReq fn f s).mem = s.mem := rfl
@[simp] theorem modReq_mapLines (fn : Nat) (f : Queue → Queue) : (modReq fn f s).mapLines = s.mapLines := rfl
@[simp] theorem modReq_ds (fn : Nat) (f : Queue → Queue) : (modReq fn f s).ds = s.ds := rfl
@[simp] theorem modReq_tcache (fn : Nat) (f : Queue → Queue) : (modReq fn f s).tcache = s.tcache := rfl
@[simp] theorem modReq_ats (fn : Nat) (f : Queue → Queue) : (modReq fn f s).ats = s.ats := rfl
@[simp] theorem modReq_invals (fn : Nat) (f : Queue → Queue) : (modReq fn f s).invals = s.invals := rfl
@[simp] theorem modReq_windows (fn : Nat) (f : Queue → Queue) : (modReq fn f s).windows = s.windows := rfl
@[simp] theorem modReq_winNext (fn : Nat) (f : Queue → Queue) : (modReq fn f s).winNext = s.winNext := rfl
@[simp] theorem modReq_winFreed (fn : Nat) (f : Queue → Queue) : (modReq fn f s).winFreed = s.winFreed := rfl
@[simp] theorem modReq_queues (fn : Nat) (f : Queue → Queue) : (modReq fn f s).queues = s.queues := rfl
@[simp] theorem modReq_lists (fn : Nat) (f : Queue → Queue) : (modReq fn f s).lists = s.lists := rfl
@[simp] theorem modReq_rrRoom (fn : Nat) (f : Queue → Queue) : (modReq fn f s).rrRoom = s.rrRoom := rfl
@[simp] theorem modReq_rrQueue (fn : Nat) (f : Queue → Queue) : (modReq fn f s).rrQueue = s.rrQueue := rfl
@[simp] theorem modReq_tilesHalted (fn : Nat) (f : Queue → Queue) : (modReq fn f s).tilesHalted = s.tilesHalted := rfl
@[simp] theorem modReq_seawalls (fn : Nat) (f : Queue → Queue) : (modReq fn f s).seawalls = s.seawalls := rfl
@[simp] theorem modReq_nextSeawall (fn : Nat) (f : Queue → Queue) : (modReq fn f s).nextSeawall = s.nextSeawall := rfl
@[simp] theorem modReq_qps (fn : Nat) (f : Queue → Queue) : (modReq fn f s).qps = s.qps := rfl
@[simp] theorem modReq_porch (fn : Nat) (f : Queue → Queue) : (modReq fn f s).porch = s.porch := rfl
@[simp] theorem modReq_hot (fn : Nat) (f : Queue → Queue) : (modReq fn f s).hot = s.hot := rfl
@[simp] theorem modReq_warm (fn : Nat) (f : Queue → Queue) : (modReq fn f s).warm = s.warm := rfl
@[simp] theorem modReq_rooms (fn : Nat) (f : Queue → Queue) : (modReq fn f s).rooms = s.rooms := rfl
@[simp] theorem modReq_coll (fn : Nat) (f : Queue → Queue) : (modReq fn f s).coll = s.coll := rfl
@[simp] theorem modReq_errs (fn : Nat) (f : Queue → Queue) : (modReq fn f s).errs = s.errs := rfl
@[simp] theorem modReq_fports (fn : Nat) (f : Queue → Queue) : (modReq fn f s).fports = s.fports := rfl
@[simp] theorem modReq_router (fn : Nat) (f : Queue → Queue) : (modReq fn f s).router = s.router := rfl
@[simp] theorem modReq_heldPkts (fn : Nat) (f : Queue → Queue) : (modReq fn f s).heldPkts = s.heldPkts := rfl
@[simp] theorem modReq_ethResult (fn : Nat) (f : Queue → Queue) : (modReq fn f s).ethResult = s.ethResult := rfl
@[simp] theorem modReq_tokens (fn : Nat) (f : Queue → Queue) : (modReq fn f s).tokens = s.tokens := rfl
@[simp] theorem modReq_tokenFrac (fn : Nat) (f : Queue → Queue) : (modReq fn f s).tokenFrac = s.tokenFrac := rfl
@[simp] theorem modReq_sealing (fn : Nat) (f : Queue → Queue) : (modReq fn f s).sealing = s.sealing := rfl
@[simp] theorem modReq_doms (fn : Nat) (f : Queue → Queue) : (modReq fn f s).doms = s.doms := rfl
@[simp] theorem modReq_lanes (fn : Nat) (f : Queue → Queue) : (modReq fn f s).lanes = s.lanes := rfl
@[simp] theorem modReq_lasers (fn : Nat) (f : Queue → Queue) : (modReq fn f s).lasers = s.lasers := rfl
@[simp] theorem modReq_laserEn (fn : Nat) (f : Queue → Queue) : (modReq fn f s).laserEn = s.laserEn := rfl
@[simp] theorem modReq_peTemp (fn : Nat) (f : Queue → Queue) : (modReq fn f s).peTemp = s.peTemp := rfl
@[simp] theorem modReq_power (fn : Nat) (f : Queue → Queue) : (modReq fn f s).power = s.power := rfl
@[simp] theorem modReq_dict (fn : Nat) (f : Queue → Queue) : (modReq fn f s).dict = s.dict := rfl
@[simp] theorem modReq_trv (fn : Nat) (f : Queue → Queue) : (modReq fn f s).trv = s.trv := rfl
@[simp] theorem modReq_hport (fn : Nat) (f : Queue → Queue) (p₀ : Nat) : hport (modReq fn f s) p₀ = hport s p₀ := rfl
@[simp] theorem modReq_room (fn : Nat) (f : Queue → Queue) (r₀ : Nat) : room (modReq fn f s) r₀ = room s r₀ := rfl
@[simp] theorem modReq_roomOf (fn : Nat) (f : Queue → Queue) (fn₀ : Nat) : roomOf (modReq fn f s) fn₀ = roomOf s fn₀ := rfl
@[simp] theorem modReq_queue (fn : Nat) (f : Queue → Queue) (fn₀ q₀ : Nat) : queue (modReq fn f s) fn₀ q₀ = queue s fn₀ q₀ := rfl
@[simp] theorem modReq_qp (fn : Nat) (f : Queue → Queue) (n₀ : Nat) : qp (modReq fn f s) n₀ = qp s n₀ := rfl
@[simp] theorem modReq_fport (fn : Nat) (f : Queue → Queue) (p₀ : Nat) : fport (modReq fn f s) p₀ = fport s p₀ := rfl

/-! ## modRsp -/

@[simp] theorem modRsp_pending (fn : Nat) (f : Queue → Queue) : (modRsp fn f s).pending = s.pending := rfl
@[simp] theorem modRsp_out (fn : Nat) (f : Queue → Queue) : (modRsp fn f s).out = s.out := rfl
@[simp] theorem modRsp_free (fn : Nat) (f : Queue → Queue) : (modRsp fn f s).free = s.free := rfl
@[simp] theorem modRsp_regs (fn : Nat) (f : Queue → Queue) : (modRsp fn f s).regs = s.regs := rfl
@[simp] theorem modRsp_eff (fn : Nat) (f : Queue → Queue) : (modRsp fn f s).eff = s.eff := rfl
@[simp] theorem modRsp_bufs (fn : Nat) (f : Queue → Queue) : (modRsp fn f s).bufs = s.bufs := rfl
@[simp] theorem modRsp_events (fn : Nat) (f : Queue → Queue) : (modRsp fn f s).events = s.events := rfl
@[simp] theorem modRsp_cnt (fn : Nat) (f : Queue → Queue) : (modRsp fn f s).cnt = s.cnt := rfl
@[simp] theorem modRsp_snap (fn : Nat) (f : Queue → Queue) : (modRsp fn f s).snap = s.snap := rfl
@[simp] theorem modRsp_arms (fn : Nat) (f : Queue → Queue) : (modRsp fn f s).arms = s.arms := rfl
@[simp] theorem modRsp_objs (fn : Nat) (f : Queue → Queue) : (modRsp fn f s).objs = s.objs := rfl
@[simp] theorem modRsp_objNow (fn : Nat) (f : Queue → Queue) : (modRsp fn f s).objNow = s.objNow := rfl
@[simp] theorem modRsp_tide (fn : Nat) (f : Queue → Queue) : (modRsp fn f s).tide = s.tide := rfl
@[simp] theorem modRsp_hports (fn : Nat) (f : Queue → Queue) : (modRsp fn f s).hports = s.hports := rfl
@[simp] theorem modRsp_hmem (fn : Nat) (f : Queue → Queue) : (modRsp fn f s).hmem = s.hmem := rfl
@[simp] theorem modRsp_hpoison (fn : Nat) (f : Queue → Queue) : (modRsp fn f s).hpoison = s.hpoison := rfl
@[simp] theorem modRsp_mem (fn : Nat) (f : Queue → Queue) : (modRsp fn f s).mem = s.mem := rfl
@[simp] theorem modRsp_mapLines (fn : Nat) (f : Queue → Queue) : (modRsp fn f s).mapLines = s.mapLines := rfl
@[simp] theorem modRsp_ds (fn : Nat) (f : Queue → Queue) : (modRsp fn f s).ds = s.ds := rfl
@[simp] theorem modRsp_tcache (fn : Nat) (f : Queue → Queue) : (modRsp fn f s).tcache = s.tcache := rfl
@[simp] theorem modRsp_ats (fn : Nat) (f : Queue → Queue) : (modRsp fn f s).ats = s.ats := rfl
@[simp] theorem modRsp_invals (fn : Nat) (f : Queue → Queue) : (modRsp fn f s).invals = s.invals := rfl
@[simp] theorem modRsp_windows (fn : Nat) (f : Queue → Queue) : (modRsp fn f s).windows = s.windows := rfl
@[simp] theorem modRsp_winNext (fn : Nat) (f : Queue → Queue) : (modRsp fn f s).winNext = s.winNext := rfl
@[simp] theorem modRsp_winFreed (fn : Nat) (f : Queue → Queue) : (modRsp fn f s).winFreed = s.winFreed := rfl
@[simp] theorem modRsp_queues (fn : Nat) (f : Queue → Queue) : (modRsp fn f s).queues = s.queues := rfl
@[simp] theorem modRsp_lists (fn : Nat) (f : Queue → Queue) : (modRsp fn f s).lists = s.lists := rfl
@[simp] theorem modRsp_rrRoom (fn : Nat) (f : Queue → Queue) : (modRsp fn f s).rrRoom = s.rrRoom := rfl
@[simp] theorem modRsp_rrQueue (fn : Nat) (f : Queue → Queue) : (modRsp fn f s).rrQueue = s.rrQueue := rfl
@[simp] theorem modRsp_tilesHalted (fn : Nat) (f : Queue → Queue) : (modRsp fn f s).tilesHalted = s.tilesHalted := rfl
@[simp] theorem modRsp_seawalls (fn : Nat) (f : Queue → Queue) : (modRsp fn f s).seawalls = s.seawalls := rfl
@[simp] theorem modRsp_nextSeawall (fn : Nat) (f : Queue → Queue) : (modRsp fn f s).nextSeawall = s.nextSeawall := rfl
@[simp] theorem modRsp_qps (fn : Nat) (f : Queue → Queue) : (modRsp fn f s).qps = s.qps := rfl
@[simp] theorem modRsp_porch (fn : Nat) (f : Queue → Queue) : (modRsp fn f s).porch = s.porch := rfl
@[simp] theorem modRsp_hot (fn : Nat) (f : Queue → Queue) : (modRsp fn f s).hot = s.hot := rfl
@[simp] theorem modRsp_warm (fn : Nat) (f : Queue → Queue) : (modRsp fn f s).warm = s.warm := rfl
@[simp] theorem modRsp_rooms (fn : Nat) (f : Queue → Queue) : (modRsp fn f s).rooms = s.rooms := rfl
@[simp] theorem modRsp_coll (fn : Nat) (f : Queue → Queue) : (modRsp fn f s).coll = s.coll := rfl
@[simp] theorem modRsp_errs (fn : Nat) (f : Queue → Queue) : (modRsp fn f s).errs = s.errs := rfl
@[simp] theorem modRsp_fports (fn : Nat) (f : Queue → Queue) : (modRsp fn f s).fports = s.fports := rfl
@[simp] theorem modRsp_router (fn : Nat) (f : Queue → Queue) : (modRsp fn f s).router = s.router := rfl
@[simp] theorem modRsp_heldPkts (fn : Nat) (f : Queue → Queue) : (modRsp fn f s).heldPkts = s.heldPkts := rfl
@[simp] theorem modRsp_ethResult (fn : Nat) (f : Queue → Queue) : (modRsp fn f s).ethResult = s.ethResult := rfl
@[simp] theorem modRsp_tokens (fn : Nat) (f : Queue → Queue) : (modRsp fn f s).tokens = s.tokens := rfl
@[simp] theorem modRsp_tokenFrac (fn : Nat) (f : Queue → Queue) : (modRsp fn f s).tokenFrac = s.tokenFrac := rfl
@[simp] theorem modRsp_sealing (fn : Nat) (f : Queue → Queue) : (modRsp fn f s).sealing = s.sealing := rfl
@[simp] theorem modRsp_doms (fn : Nat) (f : Queue → Queue) : (modRsp fn f s).doms = s.doms := rfl
@[simp] theorem modRsp_lanes (fn : Nat) (f : Queue → Queue) : (modRsp fn f s).lanes = s.lanes := rfl
@[simp] theorem modRsp_lasers (fn : Nat) (f : Queue → Queue) : (modRsp fn f s).lasers = s.lasers := rfl
@[simp] theorem modRsp_laserEn (fn : Nat) (f : Queue → Queue) : (modRsp fn f s).laserEn = s.laserEn := rfl
@[simp] theorem modRsp_peTemp (fn : Nat) (f : Queue → Queue) : (modRsp fn f s).peTemp = s.peTemp := rfl
@[simp] theorem modRsp_power (fn : Nat) (f : Queue → Queue) : (modRsp fn f s).power = s.power := rfl
@[simp] theorem modRsp_dict (fn : Nat) (f : Queue → Queue) : (modRsp fn f s).dict = s.dict := rfl
@[simp] theorem modRsp_trv (fn : Nat) (f : Queue → Queue) : (modRsp fn f s).trv = s.trv := rfl
@[simp] theorem modRsp_hport (fn : Nat) (f : Queue → Queue) (p₀ : Nat) : hport (modRsp fn f s) p₀ = hport s p₀ := rfl
@[simp] theorem modRsp_room (fn : Nat) (f : Queue → Queue) (r₀ : Nat) : room (modRsp fn f s) r₀ = room s r₀ := rfl
@[simp] theorem modRsp_roomOf (fn : Nat) (f : Queue → Queue) (fn₀ : Nat) : roomOf (modRsp fn f s) fn₀ = roomOf s fn₀ := rfl
@[simp] theorem modRsp_queue (fn : Nat) (f : Queue → Queue) (fn₀ q₀ : Nat) : queue (modRsp fn f s) fn₀ q₀ = queue s fn₀ q₀ := rfl
@[simp] theorem modRsp_qp (fn : Nat) (f : Queue → Queue) (n₀ : Nat) : qp (modRsp fn f s) n₀ = qp s n₀ := rfl
@[simp] theorem modRsp_fport (fn : Nat) (f : Queue → Queue) (p₀ : Nat) : fport (modRsp fn f s) p₀ = fport s p₀ := rfl

/-! ## setList -/

@[simp] theorem setList_pending (r : ListRec) : (setList r s).pending = s.pending := rfl
@[simp] theorem setList_out (r : ListRec) : (setList r s).out = s.out := rfl
@[simp] theorem setList_free (r : ListRec) : (setList r s).free = s.free := rfl
@[simp] theorem setList_regs (r : ListRec) : (setList r s).regs = s.regs := rfl
@[simp] theorem setList_eff (r : ListRec) : (setList r s).eff = s.eff := rfl
@[simp] theorem setList_bufs (r : ListRec) : (setList r s).bufs = s.bufs := rfl
@[simp] theorem setList_events (r : ListRec) : (setList r s).events = s.events := rfl
@[simp] theorem setList_cnt (r : ListRec) : (setList r s).cnt = s.cnt := rfl
@[simp] theorem setList_snap (r : ListRec) : (setList r s).snap = s.snap := rfl
@[simp] theorem setList_arms (r : ListRec) : (setList r s).arms = s.arms := rfl
@[simp] theorem setList_objs (r : ListRec) : (setList r s).objs = s.objs := rfl
@[simp] theorem setList_objNow (r : ListRec) : (setList r s).objNow = s.objNow := rfl
@[simp] theorem setList_tide (r : ListRec) : (setList r s).tide = s.tide := rfl
@[simp] theorem setList_hports (r : ListRec) : (setList r s).hports = s.hports := rfl
@[simp] theorem setList_funcs (r : ListRec) : (setList r s).funcs = s.funcs := rfl
@[simp] theorem setList_hmem (r : ListRec) : (setList r s).hmem = s.hmem := rfl
@[simp] theorem setList_hpoison (r : ListRec) : (setList r s).hpoison = s.hpoison := rfl
@[simp] theorem setList_mem (r : ListRec) : (setList r s).mem = s.mem := rfl
@[simp] theorem setList_mapLines (r : ListRec) : (setList r s).mapLines = s.mapLines := rfl
@[simp] theorem setList_ds (r : ListRec) : (setList r s).ds = s.ds := rfl
@[simp] theorem setList_tcache (r : ListRec) : (setList r s).tcache = s.tcache := rfl
@[simp] theorem setList_ats (r : ListRec) : (setList r s).ats = s.ats := rfl
@[simp] theorem setList_invals (r : ListRec) : (setList r s).invals = s.invals := rfl
@[simp] theorem setList_windows (r : ListRec) : (setList r s).windows = s.windows := rfl
@[simp] theorem setList_winNext (r : ListRec) : (setList r s).winNext = s.winNext := rfl
@[simp] theorem setList_winFreed (r : ListRec) : (setList r s).winFreed = s.winFreed := rfl
@[simp] theorem setList_queues (r : ListRec) : (setList r s).queues = s.queues := rfl
@[simp] theorem setList_rrRoom (r : ListRec) : (setList r s).rrRoom = s.rrRoom := rfl
@[simp] theorem setList_rrQueue (r : ListRec) : (setList r s).rrQueue = s.rrQueue := rfl
@[simp] theorem setList_tilesHalted (r : ListRec) : (setList r s).tilesHalted = s.tilesHalted := rfl
@[simp] theorem setList_seawalls (r : ListRec) : (setList r s).seawalls = s.seawalls := rfl
@[simp] theorem setList_nextSeawall (r : ListRec) : (setList r s).nextSeawall = s.nextSeawall := rfl
@[simp] theorem setList_qps (r : ListRec) : (setList r s).qps = s.qps := rfl
@[simp] theorem setList_porch (r : ListRec) : (setList r s).porch = s.porch := rfl
@[simp] theorem setList_hot (r : ListRec) : (setList r s).hot = s.hot := rfl
@[simp] theorem setList_warm (r : ListRec) : (setList r s).warm = s.warm := rfl
@[simp] theorem setList_rooms (r : ListRec) : (setList r s).rooms = s.rooms := rfl
@[simp] theorem setList_coll (r : ListRec) : (setList r s).coll = s.coll := rfl
@[simp] theorem setList_errs (r : ListRec) : (setList r s).errs = s.errs := rfl
@[simp] theorem setList_fports (r : ListRec) : (setList r s).fports = s.fports := rfl
@[simp] theorem setList_router (r : ListRec) : (setList r s).router = s.router := rfl
@[simp] theorem setList_heldPkts (r : ListRec) : (setList r s).heldPkts = s.heldPkts := rfl
@[simp] theorem setList_ethResult (r : ListRec) : (setList r s).ethResult = s.ethResult := rfl
@[simp] theorem setList_tokens (r : ListRec) : (setList r s).tokens = s.tokens := rfl
@[simp] theorem setList_tokenFrac (r : ListRec) : (setList r s).tokenFrac = s.tokenFrac := rfl
@[simp] theorem setList_sealing (r : ListRec) : (setList r s).sealing = s.sealing := rfl
@[simp] theorem setList_doms (r : ListRec) : (setList r s).doms = s.doms := rfl
@[simp] theorem setList_lanes (r : ListRec) : (setList r s).lanes = s.lanes := rfl
@[simp] theorem setList_lasers (r : ListRec) : (setList r s).lasers = s.lasers := rfl
@[simp] theorem setList_laserEn (r : ListRec) : (setList r s).laserEn = s.laserEn := rfl
@[simp] theorem setList_peTemp (r : ListRec) : (setList r s).peTemp = s.peTemp := rfl
@[simp] theorem setList_power (r : ListRec) : (setList r s).power = s.power := rfl
@[simp] theorem setList_dict (r : ListRec) : (setList r s).dict = s.dict := rfl
@[simp] theorem setList_trv (r : ListRec) : (setList r s).trv = s.trv := rfl
@[simp] theorem setList_func (r : ListRec) (fn₀ : Nat) : func (setList r s) fn₀ = func s fn₀ := rfl
@[simp] theorem setList_hport (r : ListRec) (p₀ : Nat) : hport (setList r s) p₀ = hport s p₀ := rfl
@[simp] theorem setList_room (r : ListRec) (r₀ : Nat) : room (setList r s) r₀ = room s r₀ := rfl
@[simp] theorem setList_roomOf (r : ListRec) (fn₀ : Nat) : roomOf (setList r s) fn₀ = roomOf s fn₀ := rfl
@[simp] theorem setList_queue (r : ListRec) (fn₀ q₀ : Nat) : queue (setList r s) fn₀ q₀ = queue s fn₀ q₀ := rfl
@[simp] theorem setList_qp (r : ListRec) (n₀ : Nat) : qp (setList r s) n₀ = qp s n₀ := rfl
@[simp] theorem setList_fport (r : ListRec) (p₀ : Nat) : fport (setList r s) p₀ = fport s p₀ := rfl

/-! ## dropList -/

@[simp] theorem dropList_pending (fn q l : Nat) : (dropList fn q l s).pending = s.pending := rfl
@[simp] theorem dropList_out (fn q l : Nat) : (dropList fn q l s).out = s.out := rfl
@[simp] theorem dropList_free (fn q l : Nat) : (dropList fn q l s).free = s.free := rfl
@[simp] theorem dropList_regs (fn q l : Nat) : (dropList fn q l s).regs = s.regs := rfl
@[simp] theorem dropList_eff (fn q l : Nat) : (dropList fn q l s).eff = s.eff := rfl
@[simp] theorem dropList_bufs (fn q l : Nat) : (dropList fn q l s).bufs = s.bufs := rfl
@[simp] theorem dropList_events (fn q l : Nat) : (dropList fn q l s).events = s.events := rfl
@[simp] theorem dropList_cnt (fn q l : Nat) : (dropList fn q l s).cnt = s.cnt := rfl
@[simp] theorem dropList_snap (fn q l : Nat) : (dropList fn q l s).snap = s.snap := rfl
@[simp] theorem dropList_arms (fn q l : Nat) : (dropList fn q l s).arms = s.arms := rfl
@[simp] theorem dropList_objs (fn q l : Nat) : (dropList fn q l s).objs = s.objs := rfl
@[simp] theorem dropList_objNow (fn q l : Nat) : (dropList fn q l s).objNow = s.objNow := rfl
@[simp] theorem dropList_tide (fn q l : Nat) : (dropList fn q l s).tide = s.tide := rfl
@[simp] theorem dropList_hports (fn q l : Nat) : (dropList fn q l s).hports = s.hports := rfl
@[simp] theorem dropList_funcs (fn q l : Nat) : (dropList fn q l s).funcs = s.funcs := rfl
@[simp] theorem dropList_hmem (fn q l : Nat) : (dropList fn q l s).hmem = s.hmem := rfl
@[simp] theorem dropList_hpoison (fn q l : Nat) : (dropList fn q l s).hpoison = s.hpoison := rfl
@[simp] theorem dropList_mem (fn q l : Nat) : (dropList fn q l s).mem = s.mem := rfl
@[simp] theorem dropList_mapLines (fn q l : Nat) : (dropList fn q l s).mapLines = s.mapLines := rfl
@[simp] theorem dropList_ds (fn q l : Nat) : (dropList fn q l s).ds = s.ds := rfl
@[simp] theorem dropList_tcache (fn q l : Nat) : (dropList fn q l s).tcache = s.tcache := rfl
@[simp] theorem dropList_ats (fn q l : Nat) : (dropList fn q l s).ats = s.ats := rfl
@[simp] theorem dropList_invals (fn q l : Nat) : (dropList fn q l s).invals = s.invals := rfl
@[simp] theorem dropList_windows (fn q l : Nat) : (dropList fn q l s).windows = s.windows := rfl
@[simp] theorem dropList_winNext (fn q l : Nat) : (dropList fn q l s).winNext = s.winNext := rfl
@[simp] theorem dropList_winFreed (fn q l : Nat) : (dropList fn q l s).winFreed = s.winFreed := rfl
@[simp] theorem dropList_queues (fn q l : Nat) : (dropList fn q l s).queues = s.queues := rfl
@[simp] theorem dropList_rrRoom (fn q l : Nat) : (dropList fn q l s).rrRoom = s.rrRoom := rfl
@[simp] theorem dropList_rrQueue (fn q l : Nat) : (dropList fn q l s).rrQueue = s.rrQueue := rfl
@[simp] theorem dropList_tilesHalted (fn q l : Nat) : (dropList fn q l s).tilesHalted = s.tilesHalted := rfl
@[simp] theorem dropList_seawalls (fn q l : Nat) : (dropList fn q l s).seawalls = s.seawalls := rfl
@[simp] theorem dropList_nextSeawall (fn q l : Nat) : (dropList fn q l s).nextSeawall = s.nextSeawall := rfl
@[simp] theorem dropList_qps (fn q l : Nat) : (dropList fn q l s).qps = s.qps := rfl
@[simp] theorem dropList_porch (fn q l : Nat) : (dropList fn q l s).porch = s.porch := rfl
@[simp] theorem dropList_hot (fn q l : Nat) : (dropList fn q l s).hot = s.hot := rfl
@[simp] theorem dropList_warm (fn q l : Nat) : (dropList fn q l s).warm = s.warm := rfl
@[simp] theorem dropList_rooms (fn q l : Nat) : (dropList fn q l s).rooms = s.rooms := rfl
@[simp] theorem dropList_coll (fn q l : Nat) : (dropList fn q l s).coll = s.coll := rfl
@[simp] theorem dropList_errs (fn q l : Nat) : (dropList fn q l s).errs = s.errs := rfl
@[simp] theorem dropList_fports (fn q l : Nat) : (dropList fn q l s).fports = s.fports := rfl
@[simp] theorem dropList_router (fn q l : Nat) : (dropList fn q l s).router = s.router := rfl
@[simp] theorem dropList_heldPkts (fn q l : Nat) : (dropList fn q l s).heldPkts = s.heldPkts := rfl
@[simp] theorem dropList_ethResult (fn q l : Nat) : (dropList fn q l s).ethResult = s.ethResult := rfl
@[simp] theorem dropList_tokens (fn q l : Nat) : (dropList fn q l s).tokens = s.tokens := rfl
@[simp] theorem dropList_tokenFrac (fn q l : Nat) : (dropList fn q l s).tokenFrac = s.tokenFrac := rfl
@[simp] theorem dropList_sealing (fn q l : Nat) : (dropList fn q l s).sealing = s.sealing := rfl
@[simp] theorem dropList_doms (fn q l : Nat) : (dropList fn q l s).doms = s.doms := rfl
@[simp] theorem dropList_lanes (fn q l : Nat) : (dropList fn q l s).lanes = s.lanes := rfl
@[simp] theorem dropList_lasers (fn q l : Nat) : (dropList fn q l s).lasers = s.lasers := rfl
@[simp] theorem dropList_laserEn (fn q l : Nat) : (dropList fn q l s).laserEn = s.laserEn := rfl
@[simp] theorem dropList_peTemp (fn q l : Nat) : (dropList fn q l s).peTemp = s.peTemp := rfl
@[simp] theorem dropList_power (fn q l : Nat) : (dropList fn q l s).power = s.power := rfl
@[simp] theorem dropList_dict (fn q l : Nat) : (dropList fn q l s).dict = s.dict := rfl
@[simp] theorem dropList_trv (fn q l : Nat) : (dropList fn q l s).trv = s.trv := rfl
@[simp] theorem dropList_func (fn q l : Nat) (fn₀ : Nat) : func (dropList fn q l s) fn₀ = func s fn₀ := rfl
@[simp] theorem dropList_hport (fn q l : Nat) (p₀ : Nat) : hport (dropList fn q l s) p₀ = hport s p₀ := rfl
@[simp] theorem dropList_room (fn q l : Nat) (r₀ : Nat) : room (dropList fn q l s) r₀ = room s r₀ := rfl
@[simp] theorem dropList_roomOf (fn q l : Nat) (fn₀ : Nat) : roomOf (dropList fn q l s) fn₀ = roomOf s fn₀ := rfl
@[simp] theorem dropList_queue (fn q l : Nat) (fn₀ q₀ : Nat) : queue (dropList fn q l s) fn₀ q₀ = queue s fn₀ q₀ := rfl
@[simp] theorem dropList_qp (fn q l : Nat) (n₀ : Nat) : qp (dropList fn q l s) n₀ = qp s n₀ := rfl
@[simp] theorem dropList_fport (fn q l : Nat) (p₀ : Nat) : fport (dropList fn q l s) p₀ = fport s p₀ := rfl

/-! ## modLanternReg -/

@[simp] theorem modLanternReg_pending (rm l : Nat) (f : Lantern → Lantern) : (modLanternReg rm l f s).pending = s.pending := rfl
@[simp] theorem modLanternReg_out (rm l : Nat) (f : Lantern → Lantern) : (modLanternReg rm l f s).out = s.out := rfl
@[simp] theorem modLanternReg_free (rm l : Nat) (f : Lantern → Lantern) : (modLanternReg rm l f s).free = s.free := rfl
@[simp] theorem modLanternReg_regs (rm l : Nat) (f : Lantern → Lantern) : (modLanternReg rm l f s).regs = s.regs := rfl
@[simp] theorem modLanternReg_eff (rm l : Nat) (f : Lantern → Lantern) : (modLanternReg rm l f s).eff = s.eff := rfl
@[simp] theorem modLanternReg_bufs (rm l : Nat) (f : Lantern → Lantern) : (modLanternReg rm l f s).bufs = s.bufs := rfl
@[simp] theorem modLanternReg_events (rm l : Nat) (f : Lantern → Lantern) : (modLanternReg rm l f s).events = s.events := rfl
@[simp] theorem modLanternReg_cnt (rm l : Nat) (f : Lantern → Lantern) : (modLanternReg rm l f s).cnt = s.cnt := rfl
@[simp] theorem modLanternReg_snap (rm l : Nat) (f : Lantern → Lantern) : (modLanternReg rm l f s).snap = s.snap := rfl
@[simp] theorem modLanternReg_arms (rm l : Nat) (f : Lantern → Lantern) : (modLanternReg rm l f s).arms = s.arms := rfl
@[simp] theorem modLanternReg_objs (rm l : Nat) (f : Lantern → Lantern) : (modLanternReg rm l f s).objs = s.objs := rfl
@[simp] theorem modLanternReg_objNow (rm l : Nat) (f : Lantern → Lantern) : (modLanternReg rm l f s).objNow = s.objNow := rfl
@[simp] theorem modLanternReg_tide (rm l : Nat) (f : Lantern → Lantern) : (modLanternReg rm l f s).tide = s.tide := rfl
@[simp] theorem modLanternReg_hports (rm l : Nat) (f : Lantern → Lantern) : (modLanternReg rm l f s).hports = s.hports := rfl
@[simp] theorem modLanternReg_funcs (rm l : Nat) (f : Lantern → Lantern) : (modLanternReg rm l f s).funcs = s.funcs := rfl
@[simp] theorem modLanternReg_hmem (rm l : Nat) (f : Lantern → Lantern) : (modLanternReg rm l f s).hmem = s.hmem := rfl
@[simp] theorem modLanternReg_hpoison (rm l : Nat) (f : Lantern → Lantern) : (modLanternReg rm l f s).hpoison = s.hpoison := rfl
@[simp] theorem modLanternReg_mem (rm l : Nat) (f : Lantern → Lantern) : (modLanternReg rm l f s).mem = s.mem := rfl
@[simp] theorem modLanternReg_mapLines (rm l : Nat) (f : Lantern → Lantern) : (modLanternReg rm l f s).mapLines = s.mapLines := rfl
@[simp] theorem modLanternReg_ds (rm l : Nat) (f : Lantern → Lantern) : (modLanternReg rm l f s).ds = s.ds := rfl
@[simp] theorem modLanternReg_tcache (rm l : Nat) (f : Lantern → Lantern) : (modLanternReg rm l f s).tcache = s.tcache := rfl
@[simp] theorem modLanternReg_ats (rm l : Nat) (f : Lantern → Lantern) : (modLanternReg rm l f s).ats = s.ats := rfl
@[simp] theorem modLanternReg_invals (rm l : Nat) (f : Lantern → Lantern) : (modLanternReg rm l f s).invals = s.invals := rfl
@[simp] theorem modLanternReg_windows (rm l : Nat) (f : Lantern → Lantern) : (modLanternReg rm l f s).windows = s.windows := rfl
@[simp] theorem modLanternReg_winNext (rm l : Nat) (f : Lantern → Lantern) : (modLanternReg rm l f s).winNext = s.winNext := rfl
@[simp] theorem modLanternReg_winFreed (rm l : Nat) (f : Lantern → Lantern) : (modLanternReg rm l f s).winFreed = s.winFreed := rfl
@[simp] theorem modLanternReg_queues (rm l : Nat) (f : Lantern → Lantern) : (modLanternReg rm l f s).queues = s.queues := rfl
@[simp] theorem modLanternReg_lists (rm l : Nat) (f : Lantern → Lantern) : (modLanternReg rm l f s).lists = s.lists := rfl
@[simp] theorem modLanternReg_rrRoom (rm l : Nat) (f : Lantern → Lantern) : (modLanternReg rm l f s).rrRoom = s.rrRoom := rfl
@[simp] theorem modLanternReg_rrQueue (rm l : Nat) (f : Lantern → Lantern) : (modLanternReg rm l f s).rrQueue = s.rrQueue := rfl
@[simp] theorem modLanternReg_tilesHalted (rm l : Nat) (f : Lantern → Lantern) : (modLanternReg rm l f s).tilesHalted = s.tilesHalted := rfl
@[simp] theorem modLanternReg_seawalls (rm l : Nat) (f : Lantern → Lantern) : (modLanternReg rm l f s).seawalls = s.seawalls := rfl
@[simp] theorem modLanternReg_nextSeawall (rm l : Nat) (f : Lantern → Lantern) : (modLanternReg rm l f s).nextSeawall = s.nextSeawall := rfl
@[simp] theorem modLanternReg_qps (rm l : Nat) (f : Lantern → Lantern) : (modLanternReg rm l f s).qps = s.qps := rfl
@[simp] theorem modLanternReg_porch (rm l : Nat) (f : Lantern → Lantern) : (modLanternReg rm l f s).porch = s.porch := rfl
@[simp] theorem modLanternReg_hot (rm l : Nat) (f : Lantern → Lantern) : (modLanternReg rm l f s).hot = s.hot := rfl
@[simp] theorem modLanternReg_warm (rm l : Nat) (f : Lantern → Lantern) : (modLanternReg rm l f s).warm = s.warm := rfl
@[simp] theorem modLanternReg_coll (rm l : Nat) (f : Lantern → Lantern) : (modLanternReg rm l f s).coll = s.coll := rfl
@[simp] theorem modLanternReg_errs (rm l : Nat) (f : Lantern → Lantern) : (modLanternReg rm l f s).errs = s.errs := rfl
@[simp] theorem modLanternReg_fports (rm l : Nat) (f : Lantern → Lantern) : (modLanternReg rm l f s).fports = s.fports := rfl
@[simp] theorem modLanternReg_router (rm l : Nat) (f : Lantern → Lantern) : (modLanternReg rm l f s).router = s.router := rfl
@[simp] theorem modLanternReg_heldPkts (rm l : Nat) (f : Lantern → Lantern) : (modLanternReg rm l f s).heldPkts = s.heldPkts := rfl
@[simp] theorem modLanternReg_ethResult (rm l : Nat) (f : Lantern → Lantern) : (modLanternReg rm l f s).ethResult = s.ethResult := rfl
@[simp] theorem modLanternReg_tokens (rm l : Nat) (f : Lantern → Lantern) : (modLanternReg rm l f s).tokens = s.tokens := rfl
@[simp] theorem modLanternReg_tokenFrac (rm l : Nat) (f : Lantern → Lantern) : (modLanternReg rm l f s).tokenFrac = s.tokenFrac := rfl
@[simp] theorem modLanternReg_sealing (rm l : Nat) (f : Lantern → Lantern) : (modLanternReg rm l f s).sealing = s.sealing := rfl
@[simp] theorem modLanternReg_doms (rm l : Nat) (f : Lantern → Lantern) : (modLanternReg rm l f s).doms = s.doms := rfl
@[simp] theorem modLanternReg_lanes (rm l : Nat) (f : Lantern → Lantern) : (modLanternReg rm l f s).lanes = s.lanes := rfl
@[simp] theorem modLanternReg_lasers (rm l : Nat) (f : Lantern → Lantern) : (modLanternReg rm l f s).lasers = s.lasers := rfl
@[simp] theorem modLanternReg_laserEn (rm l : Nat) (f : Lantern → Lantern) : (modLanternReg rm l f s).laserEn = s.laserEn := rfl
@[simp] theorem modLanternReg_peTemp (rm l : Nat) (f : Lantern → Lantern) : (modLanternReg rm l f s).peTemp = s.peTemp := rfl
@[simp] theorem modLanternReg_power (rm l : Nat) (f : Lantern → Lantern) : (modLanternReg rm l f s).power = s.power := rfl
@[simp] theorem modLanternReg_dict (rm l : Nat) (f : Lantern → Lantern) : (modLanternReg rm l f s).dict = s.dict := rfl
@[simp] theorem modLanternReg_trv (rm l : Nat) (f : Lantern → Lantern) : (modLanternReg rm l f s).trv = s.trv := rfl
@[simp] theorem modLanternReg_func (rm l : Nat) (f : Lantern → Lantern) (fn₀ : Nat) : func (modLanternReg rm l f s) fn₀ = func s fn₀ := rfl
@[simp] theorem modLanternReg_hport (rm l : Nat) (f : Lantern → Lantern) (p₀ : Nat) : hport (modLanternReg rm l f s) p₀ = hport s p₀ := rfl
@[simp] theorem modLanternReg_queue (rm l : Nat) (f : Lantern → Lantern) (fn₀ q₀ : Nat) : queue (modLanternReg rm l f s) fn₀ q₀ = queue s fn₀ q₀ := rfl
@[simp] theorem modLanternReg_qp (rm l : Nat) (f : Lantern → Lantern) (n₀ : Nat) : qp (modLanternReg rm l f s) n₀ = qp s n₀ := rfl
@[simp] theorem modLanternReg_fport (rm l : Nat) (f : Lantern → Lantern) (p₀ : Nat) : fport (modLanternReg rm l f s) p₀ = fport s p₀ := rfl

/-! ## modQp -/

@[simp] theorem modQp_pending (n : Nat) (f : Qp → Qp) : (modQp n f s).pending = s.pending := rfl
@[simp] theorem modQp_out (n : Nat) (f : Qp → Qp) : (modQp n f s).out = s.out := rfl
@[simp] theorem modQp_free (n : Nat) (f : Qp → Qp) : (modQp n f s).free = s.free := rfl
@[simp] theorem modQp_regs (n : Nat) (f : Qp → Qp) : (modQp n f s).regs = s.regs := rfl
@[simp] theorem modQp_eff (n : Nat) (f : Qp → Qp) : (modQp n f s).eff = s.eff := rfl
@[simp] theorem modQp_bufs (n : Nat) (f : Qp → Qp) : (modQp n f s).bufs = s.bufs := rfl
@[simp] theorem modQp_events (n : Nat) (f : Qp → Qp) : (modQp n f s).events = s.events := rfl
@[simp] theorem modQp_cnt (n : Nat) (f : Qp → Qp) : (modQp n f s).cnt = s.cnt := rfl
@[simp] theorem modQp_snap (n : Nat) (f : Qp → Qp) : (modQp n f s).snap = s.snap := rfl
@[simp] theorem modQp_arms (n : Nat) (f : Qp → Qp) : (modQp n f s).arms = s.arms := rfl
@[simp] theorem modQp_objs (n : Nat) (f : Qp → Qp) : (modQp n f s).objs = s.objs := rfl
@[simp] theorem modQp_objNow (n : Nat) (f : Qp → Qp) : (modQp n f s).objNow = s.objNow := rfl
@[simp] theorem modQp_tide (n : Nat) (f : Qp → Qp) : (modQp n f s).tide = s.tide := rfl
@[simp] theorem modQp_hports (n : Nat) (f : Qp → Qp) : (modQp n f s).hports = s.hports := rfl
@[simp] theorem modQp_funcs (n : Nat) (f : Qp → Qp) : (modQp n f s).funcs = s.funcs := rfl
@[simp] theorem modQp_hmem (n : Nat) (f : Qp → Qp) : (modQp n f s).hmem = s.hmem := rfl
@[simp] theorem modQp_hpoison (n : Nat) (f : Qp → Qp) : (modQp n f s).hpoison = s.hpoison := rfl
@[simp] theorem modQp_mem (n : Nat) (f : Qp → Qp) : (modQp n f s).mem = s.mem := rfl
@[simp] theorem modQp_mapLines (n : Nat) (f : Qp → Qp) : (modQp n f s).mapLines = s.mapLines := rfl
@[simp] theorem modQp_ds (n : Nat) (f : Qp → Qp) : (modQp n f s).ds = s.ds := rfl
@[simp] theorem modQp_tcache (n : Nat) (f : Qp → Qp) : (modQp n f s).tcache = s.tcache := rfl
@[simp] theorem modQp_ats (n : Nat) (f : Qp → Qp) : (modQp n f s).ats = s.ats := rfl
@[simp] theorem modQp_invals (n : Nat) (f : Qp → Qp) : (modQp n f s).invals = s.invals := rfl
@[simp] theorem modQp_windows (n : Nat) (f : Qp → Qp) : (modQp n f s).windows = s.windows := rfl
@[simp] theorem modQp_winNext (n : Nat) (f : Qp → Qp) : (modQp n f s).winNext = s.winNext := rfl
@[simp] theorem modQp_winFreed (n : Nat) (f : Qp → Qp) : (modQp n f s).winFreed = s.winFreed := rfl
@[simp] theorem modQp_queues (n : Nat) (f : Qp → Qp) : (modQp n f s).queues = s.queues := rfl
@[simp] theorem modQp_lists (n : Nat) (f : Qp → Qp) : (modQp n f s).lists = s.lists := rfl
@[simp] theorem modQp_rrRoom (n : Nat) (f : Qp → Qp) : (modQp n f s).rrRoom = s.rrRoom := rfl
@[simp] theorem modQp_rrQueue (n : Nat) (f : Qp → Qp) : (modQp n f s).rrQueue = s.rrQueue := rfl
@[simp] theorem modQp_tilesHalted (n : Nat) (f : Qp → Qp) : (modQp n f s).tilesHalted = s.tilesHalted := rfl
@[simp] theorem modQp_seawalls (n : Nat) (f : Qp → Qp) : (modQp n f s).seawalls = s.seawalls := rfl
@[simp] theorem modQp_nextSeawall (n : Nat) (f : Qp → Qp) : (modQp n f s).nextSeawall = s.nextSeawall := rfl
@[simp] theorem modQp_porch (n : Nat) (f : Qp → Qp) : (modQp n f s).porch = s.porch := rfl
@[simp] theorem modQp_hot (n : Nat) (f : Qp → Qp) : (modQp n f s).hot = s.hot := rfl
@[simp] theorem modQp_warm (n : Nat) (f : Qp → Qp) : (modQp n f s).warm = s.warm := rfl
@[simp] theorem modQp_rooms (n : Nat) (f : Qp → Qp) : (modQp n f s).rooms = s.rooms := rfl
@[simp] theorem modQp_coll (n : Nat) (f : Qp → Qp) : (modQp n f s).coll = s.coll := rfl
@[simp] theorem modQp_errs (n : Nat) (f : Qp → Qp) : (modQp n f s).errs = s.errs := rfl
@[simp] theorem modQp_fports (n : Nat) (f : Qp → Qp) : (modQp n f s).fports = s.fports := rfl
@[simp] theorem modQp_router (n : Nat) (f : Qp → Qp) : (modQp n f s).router = s.router := rfl
@[simp] theorem modQp_heldPkts (n : Nat) (f : Qp → Qp) : (modQp n f s).heldPkts = s.heldPkts := rfl
@[simp] theorem modQp_ethResult (n : Nat) (f : Qp → Qp) : (modQp n f s).ethResult = s.ethResult := rfl
@[simp] theorem modQp_tokens (n : Nat) (f : Qp → Qp) : (modQp n f s).tokens = s.tokens := rfl
@[simp] theorem modQp_tokenFrac (n : Nat) (f : Qp → Qp) : (modQp n f s).tokenFrac = s.tokenFrac := rfl
@[simp] theorem modQp_sealing (n : Nat) (f : Qp → Qp) : (modQp n f s).sealing = s.sealing := rfl
@[simp] theorem modQp_doms (n : Nat) (f : Qp → Qp) : (modQp n f s).doms = s.doms := rfl
@[simp] theorem modQp_lanes (n : Nat) (f : Qp → Qp) : (modQp n f s).lanes = s.lanes := rfl
@[simp] theorem modQp_lasers (n : Nat) (f : Qp → Qp) : (modQp n f s).lasers = s.lasers := rfl
@[simp] theorem modQp_laserEn (n : Nat) (f : Qp → Qp) : (modQp n f s).laserEn = s.laserEn := rfl
@[simp] theorem modQp_peTemp (n : Nat) (f : Qp → Qp) : (modQp n f s).peTemp = s.peTemp := rfl
@[simp] theorem modQp_power (n : Nat) (f : Qp → Qp) : (modQp n f s).power = s.power := rfl
@[simp] theorem modQp_dict (n : Nat) (f : Qp → Qp) : (modQp n f s).dict = s.dict := rfl
@[simp] theorem modQp_trv (n : Nat) (f : Qp → Qp) : (modQp n f s).trv = s.trv := rfl
@[simp] theorem modQp_func (n : Nat) (f : Qp → Qp) (fn₀ : Nat) : func (modQp n f s) fn₀ = func s fn₀ := rfl
@[simp] theorem modQp_hport (n : Nat) (f : Qp → Qp) (p₀ : Nat) : hport (modQp n f s) p₀ = hport s p₀ := rfl
@[simp] theorem modQp_room (n : Nat) (f : Qp → Qp) (r₀ : Nat) : room (modQp n f s) r₀ = room s r₀ := rfl
@[simp] theorem modQp_roomOf (n : Nat) (f : Qp → Qp) (fn₀ : Nat) : roomOf (modQp n f s) fn₀ = roomOf s fn₀ := rfl
@[simp] theorem modQp_queue (n : Nat) (f : Qp → Qp) (fn₀ q₀ : Nat) : queue (modQp n f s) fn₀ q₀ = queue s fn₀ q₀ := rfl
@[simp] theorem modQp_fport (n : Nat) (f : Qp → Qp) (p₀ : Nat) : fport (modQp n f s) p₀ = fport s p₀ := rfl

/-! ## modTide -/

@[simp] theorem modTide_pending (f : Tide → Tide) : (modTide f s).pending = s.pending := rfl
@[simp] theorem modTide_out (f : Tide → Tide) : (modTide f s).out = s.out := rfl
@[simp] theorem modTide_free (f : Tide → Tide) : (modTide f s).free = s.free := rfl
@[simp] theorem modTide_regs (f : Tide → Tide) : (modTide f s).regs = s.regs := rfl
@[simp] theorem modTide_eff (f : Tide → Tide) : (modTide f s).eff = s.eff := rfl
@[simp] theorem modTide_bufs (f : Tide → Tide) : (modTide f s).bufs = s.bufs := rfl
@[simp] theorem modTide_events (f : Tide → Tide) : (modTide f s).events = s.events := rfl
@[simp] theorem modTide_cnt (f : Tide → Tide) : (modTide f s).cnt = s.cnt := rfl
@[simp] theorem modTide_snap (f : Tide → Tide) : (modTide f s).snap = s.snap := rfl
@[simp] theorem modTide_arms (f : Tide → Tide) : (modTide f s).arms = s.arms := rfl
@[simp] theorem modTide_objs (f : Tide → Tide) : (modTide f s).objs = s.objs := rfl
@[simp] theorem modTide_objNow (f : Tide → Tide) : (modTide f s).objNow = s.objNow := rfl
@[simp] theorem modTide_hports (f : Tide → Tide) : (modTide f s).hports = s.hports := rfl
@[simp] theorem modTide_funcs (f : Tide → Tide) : (modTide f s).funcs = s.funcs := rfl
@[simp] theorem modTide_hmem (f : Tide → Tide) : (modTide f s).hmem = s.hmem := rfl
@[simp] theorem modTide_hpoison (f : Tide → Tide) : (modTide f s).hpoison = s.hpoison := rfl
@[simp] theorem modTide_mem (f : Tide → Tide) : (modTide f s).mem = s.mem := rfl
@[simp] theorem modTide_mapLines (f : Tide → Tide) : (modTide f s).mapLines = s.mapLines := rfl
@[simp] theorem modTide_ds (f : Tide → Tide) : (modTide f s).ds = s.ds := rfl
@[simp] theorem modTide_tcache (f : Tide → Tide) : (modTide f s).tcache = s.tcache := rfl
@[simp] theorem modTide_ats (f : Tide → Tide) : (modTide f s).ats = s.ats := rfl
@[simp] theorem modTide_invals (f : Tide → Tide) : (modTide f s).invals = s.invals := rfl
@[simp] theorem modTide_windows (f : Tide → Tide) : (modTide f s).windows = s.windows := rfl
@[simp] theorem modTide_winNext (f : Tide → Tide) : (modTide f s).winNext = s.winNext := rfl
@[simp] theorem modTide_winFreed (f : Tide → Tide) : (modTide f s).winFreed = s.winFreed := rfl
@[simp] theorem modTide_queues (f : Tide → Tide) : (modTide f s).queues = s.queues := rfl
@[simp] theorem modTide_lists (f : Tide → Tide) : (modTide f s).lists = s.lists := rfl
@[simp] theorem modTide_rrRoom (f : Tide → Tide) : (modTide f s).rrRoom = s.rrRoom := rfl
@[simp] theorem modTide_rrQueue (f : Tide → Tide) : (modTide f s).rrQueue = s.rrQueue := rfl
@[simp] theorem modTide_tilesHalted (f : Tide → Tide) : (modTide f s).tilesHalted = s.tilesHalted := rfl
@[simp] theorem modTide_seawalls (f : Tide → Tide) : (modTide f s).seawalls = s.seawalls := rfl
@[simp] theorem modTide_nextSeawall (f : Tide → Tide) : (modTide f s).nextSeawall = s.nextSeawall := rfl
@[simp] theorem modTide_qps (f : Tide → Tide) : (modTide f s).qps = s.qps := rfl
@[simp] theorem modTide_porch (f : Tide → Tide) : (modTide f s).porch = s.porch := rfl
@[simp] theorem modTide_hot (f : Tide → Tide) : (modTide f s).hot = s.hot := rfl
@[simp] theorem modTide_warm (f : Tide → Tide) : (modTide f s).warm = s.warm := rfl
@[simp] theorem modTide_rooms (f : Tide → Tide) : (modTide f s).rooms = s.rooms := rfl
@[simp] theorem modTide_coll (f : Tide → Tide) : (modTide f s).coll = s.coll := rfl
@[simp] theorem modTide_errs (f : Tide → Tide) : (modTide f s).errs = s.errs := rfl
@[simp] theorem modTide_fports (f : Tide → Tide) : (modTide f s).fports = s.fports := rfl
@[simp] theorem modTide_router (f : Tide → Tide) : (modTide f s).router = s.router := rfl
@[simp] theorem modTide_heldPkts (f : Tide → Tide) : (modTide f s).heldPkts = s.heldPkts := rfl
@[simp] theorem modTide_ethResult (f : Tide → Tide) : (modTide f s).ethResult = s.ethResult := rfl
@[simp] theorem modTide_tokens (f : Tide → Tide) : (modTide f s).tokens = s.tokens := rfl
@[simp] theorem modTide_tokenFrac (f : Tide → Tide) : (modTide f s).tokenFrac = s.tokenFrac := rfl
@[simp] theorem modTide_sealing (f : Tide → Tide) : (modTide f s).sealing = s.sealing := rfl
@[simp] theorem modTide_doms (f : Tide → Tide) : (modTide f s).doms = s.doms := rfl
@[simp] theorem modTide_lanes (f : Tide → Tide) : (modTide f s).lanes = s.lanes := rfl
@[simp] theorem modTide_lasers (f : Tide → Tide) : (modTide f s).lasers = s.lasers := rfl
@[simp] theorem modTide_laserEn (f : Tide → Tide) : (modTide f s).laserEn = s.laserEn := rfl
@[simp] theorem modTide_peTemp (f : Tide → Tide) : (modTide f s).peTemp = s.peTemp := rfl
@[simp] theorem modTide_power (f : Tide → Tide) : (modTide f s).power = s.power := rfl
@[simp] theorem modTide_dict (f : Tide → Tide) : (modTide f s).dict = s.dict := rfl
@[simp] theorem modTide_trv (f : Tide → Tide) : (modTide f s).trv = s.trv := rfl
@[simp] theorem modTide_func (f : Tide → Tide) (fn₀ : Nat) : func (modTide f s) fn₀ = func s fn₀ := rfl
@[simp] theorem modTide_hport (f : Tide → Tide) (p₀ : Nat) : hport (modTide f s) p₀ = hport s p₀ := rfl
@[simp] theorem modTide_room (f : Tide → Tide) (r₀ : Nat) : room (modTide f s) r₀ = room s r₀ := rfl
@[simp] theorem modTide_roomOf (f : Tide → Tide) (fn₀ : Nat) : roomOf (modTide f s) fn₀ = roomOf s fn₀ := rfl
@[simp] theorem modTide_queue (f : Tide → Tide) (fn₀ q₀ : Nat) : queue (modTide f s) fn₀ q₀ = queue s fn₀ q₀ := rfl
@[simp] theorem modTide_qp (f : Tide → Tide) (n₀ : Nat) : qp (modTide f s) n₀ = qp s n₀ := rfl
@[simp] theorem modTide_fport (f : Tide → Tide) (p₀ : Nat) : fport (modTide f s) p₀ = fport s p₀ := rfl

/-! ## modTport -/

@[simp] theorem modTport_pending (p : Nat) (f : TidePort → TidePort) : (modTport p f s).pending = s.pending := rfl
@[simp] theorem modTport_out (p : Nat) (f : TidePort → TidePort) : (modTport p f s).out = s.out := rfl
@[simp] theorem modTport_free (p : Nat) (f : TidePort → TidePort) : (modTport p f s).free = s.free := rfl
@[simp] theorem modTport_regs (p : Nat) (f : TidePort → TidePort) : (modTport p f s).regs = s.regs := rfl
@[simp] theorem modTport_eff (p : Nat) (f : TidePort → TidePort) : (modTport p f s).eff = s.eff := rfl
@[simp] theorem modTport_bufs (p : Nat) (f : TidePort → TidePort) : (modTport p f s).bufs = s.bufs := rfl
@[simp] theorem modTport_events (p : Nat) (f : TidePort → TidePort) : (modTport p f s).events = s.events := rfl
@[simp] theorem modTport_cnt (p : Nat) (f : TidePort → TidePort) : (modTport p f s).cnt = s.cnt := rfl
@[simp] theorem modTport_snap (p : Nat) (f : TidePort → TidePort) : (modTport p f s).snap = s.snap := rfl
@[simp] theorem modTport_arms (p : Nat) (f : TidePort → TidePort) : (modTport p f s).arms = s.arms := rfl
@[simp] theorem modTport_objs (p : Nat) (f : TidePort → TidePort) : (modTport p f s).objs = s.objs := rfl
@[simp] theorem modTport_objNow (p : Nat) (f : TidePort → TidePort) : (modTport p f s).objNow = s.objNow := rfl
@[simp] theorem modTport_hports (p : Nat) (f : TidePort → TidePort) : (modTport p f s).hports = s.hports := rfl
@[simp] theorem modTport_funcs (p : Nat) (f : TidePort → TidePort) : (modTport p f s).funcs = s.funcs := rfl
@[simp] theorem modTport_hmem (p : Nat) (f : TidePort → TidePort) : (modTport p f s).hmem = s.hmem := rfl
@[simp] theorem modTport_hpoison (p : Nat) (f : TidePort → TidePort) : (modTport p f s).hpoison = s.hpoison := rfl
@[simp] theorem modTport_mem (p : Nat) (f : TidePort → TidePort) : (modTport p f s).mem = s.mem := rfl
@[simp] theorem modTport_mapLines (p : Nat) (f : TidePort → TidePort) : (modTport p f s).mapLines = s.mapLines := rfl
@[simp] theorem modTport_ds (p : Nat) (f : TidePort → TidePort) : (modTport p f s).ds = s.ds := rfl
@[simp] theorem modTport_tcache (p : Nat) (f : TidePort → TidePort) : (modTport p f s).tcache = s.tcache := rfl
@[simp] theorem modTport_ats (p : Nat) (f : TidePort → TidePort) : (modTport p f s).ats = s.ats := rfl
@[simp] theorem modTport_invals (p : Nat) (f : TidePort → TidePort) : (modTport p f s).invals = s.invals := rfl
@[simp] theorem modTport_windows (p : Nat) (f : TidePort → TidePort) : (modTport p f s).windows = s.windows := rfl
@[simp] theorem modTport_winNext (p : Nat) (f : TidePort → TidePort) : (modTport p f s).winNext = s.winNext := rfl
@[simp] theorem modTport_winFreed (p : Nat) (f : TidePort → TidePort) : (modTport p f s).winFreed = s.winFreed := rfl
@[simp] theorem modTport_queues (p : Nat) (f : TidePort → TidePort) : (modTport p f s).queues = s.queues := rfl
@[simp] theorem modTport_lists (p : Nat) (f : TidePort → TidePort) : (modTport p f s).lists = s.lists := rfl
@[simp] theorem modTport_rrRoom (p : Nat) (f : TidePort → TidePort) : (modTport p f s).rrRoom = s.rrRoom := rfl
@[simp] theorem modTport_rrQueue (p : Nat) (f : TidePort → TidePort) : (modTport p f s).rrQueue = s.rrQueue := rfl
@[simp] theorem modTport_tilesHalted (p : Nat) (f : TidePort → TidePort) : (modTport p f s).tilesHalted = s.tilesHalted := rfl
@[simp] theorem modTport_seawalls (p : Nat) (f : TidePort → TidePort) : (modTport p f s).seawalls = s.seawalls := rfl
@[simp] theorem modTport_nextSeawall (p : Nat) (f : TidePort → TidePort) : (modTport p f s).nextSeawall = s.nextSeawall := rfl
@[simp] theorem modTport_qps (p : Nat) (f : TidePort → TidePort) : (modTport p f s).qps = s.qps := rfl
@[simp] theorem modTport_porch (p : Nat) (f : TidePort → TidePort) : (modTport p f s).porch = s.porch := rfl
@[simp] theorem modTport_hot (p : Nat) (f : TidePort → TidePort) : (modTport p f s).hot = s.hot := rfl
@[simp] theorem modTport_warm (p : Nat) (f : TidePort → TidePort) : (modTport p f s).warm = s.warm := rfl
@[simp] theorem modTport_rooms (p : Nat) (f : TidePort → TidePort) : (modTport p f s).rooms = s.rooms := rfl
@[simp] theorem modTport_coll (p : Nat) (f : TidePort → TidePort) : (modTport p f s).coll = s.coll := rfl
@[simp] theorem modTport_errs (p : Nat) (f : TidePort → TidePort) : (modTport p f s).errs = s.errs := rfl
@[simp] theorem modTport_fports (p : Nat) (f : TidePort → TidePort) : (modTport p f s).fports = s.fports := rfl
@[simp] theorem modTport_router (p : Nat) (f : TidePort → TidePort) : (modTport p f s).router = s.router := rfl
@[simp] theorem modTport_heldPkts (p : Nat) (f : TidePort → TidePort) : (modTport p f s).heldPkts = s.heldPkts := rfl
@[simp] theorem modTport_ethResult (p : Nat) (f : TidePort → TidePort) : (modTport p f s).ethResult = s.ethResult := rfl
@[simp] theorem modTport_tokens (p : Nat) (f : TidePort → TidePort) : (modTport p f s).tokens = s.tokens := rfl
@[simp] theorem modTport_tokenFrac (p : Nat) (f : TidePort → TidePort) : (modTport p f s).tokenFrac = s.tokenFrac := rfl
@[simp] theorem modTport_sealing (p : Nat) (f : TidePort → TidePort) : (modTport p f s).sealing = s.sealing := rfl
@[simp] theorem modTport_doms (p : Nat) (f : TidePort → TidePort) : (modTport p f s).doms = s.doms := rfl
@[simp] theorem modTport_lanes (p : Nat) (f : TidePort → TidePort) : (modTport p f s).lanes = s.lanes := rfl
@[simp] theorem modTport_lasers (p : Nat) (f : TidePort → TidePort) : (modTport p f s).lasers = s.lasers := rfl
@[simp] theorem modTport_laserEn (p : Nat) (f : TidePort → TidePort) : (modTport p f s).laserEn = s.laserEn := rfl
@[simp] theorem modTport_peTemp (p : Nat) (f : TidePort → TidePort) : (modTport p f s).peTemp = s.peTemp := rfl
@[simp] theorem modTport_power (p : Nat) (f : TidePort → TidePort) : (modTport p f s).power = s.power := rfl
@[simp] theorem modTport_dict (p : Nat) (f : TidePort → TidePort) : (modTport p f s).dict = s.dict := rfl
@[simp] theorem modTport_trv (p : Nat) (f : TidePort → TidePort) : (modTport p f s).trv = s.trv := rfl
@[simp] theorem modTport_func (p : Nat) (f : TidePort → TidePort) (fn₀ : Nat) : func (modTport p f s) fn₀ = func s fn₀ := rfl
@[simp] theorem modTport_hport (p : Nat) (f : TidePort → TidePort) (p₀ : Nat) : hport (modTport p f s) p₀ = hport s p₀ := rfl
@[simp] theorem modTport_room (p : Nat) (f : TidePort → TidePort) (r₀ : Nat) : room (modTport p f s) r₀ = room s r₀ := rfl
@[simp] theorem modTport_roomOf (p : Nat) (f : TidePort → TidePort) (fn₀ : Nat) : roomOf (modTport p f s) fn₀ = roomOf s fn₀ := rfl
@[simp] theorem modTport_queue (p : Nat) (f : TidePort → TidePort) (fn₀ q₀ : Nat) : queue (modTport p f s) fn₀ q₀ = queue s fn₀ q₀ := rfl
@[simp] theorem modTport_qp (p : Nat) (f : TidePort → TidePort) (n₀ : Nat) : qp (modTport p f s) n₀ = qp s n₀ := rfl
@[simp] theorem modTport_fport (p : Nat) (f : TidePort → TidePort) (p₀ : Nat) : fport (modTport p f s) p₀ = fport s p₀ := rfl

/-! ## modRouter -/

@[simp] theorem modRouter_pending (f : Router → Router) : (modRouter f s).pending = s.pending := rfl
@[simp] theorem modRouter_out (f : Router → Router) : (modRouter f s).out = s.out := rfl
@[simp] theorem modRouter_free (f : Router → Router) : (modRouter f s).free = s.free := rfl
@[simp] theorem modRouter_regs (f : Router → Router) : (modRouter f s).regs = s.regs := rfl
@[simp] theorem modRouter_eff (f : Router → Router) : (modRouter f s).eff = s.eff := rfl
@[simp] theorem modRouter_bufs (f : Router → Router) : (modRouter f s).bufs = s.bufs := rfl
@[simp] theorem modRouter_events (f : Router → Router) : (modRouter f s).events = s.events := rfl
@[simp] theorem modRouter_cnt (f : Router → Router) : (modRouter f s).cnt = s.cnt := rfl
@[simp] theorem modRouter_snap (f : Router → Router) : (modRouter f s).snap = s.snap := rfl
@[simp] theorem modRouter_arms (f : Router → Router) : (modRouter f s).arms = s.arms := rfl
@[simp] theorem modRouter_objs (f : Router → Router) : (modRouter f s).objs = s.objs := rfl
@[simp] theorem modRouter_objNow (f : Router → Router) : (modRouter f s).objNow = s.objNow := rfl
@[simp] theorem modRouter_tide (f : Router → Router) : (modRouter f s).tide = s.tide := rfl
@[simp] theorem modRouter_hports (f : Router → Router) : (modRouter f s).hports = s.hports := rfl
@[simp] theorem modRouter_funcs (f : Router → Router) : (modRouter f s).funcs = s.funcs := rfl
@[simp] theorem modRouter_hmem (f : Router → Router) : (modRouter f s).hmem = s.hmem := rfl
@[simp] theorem modRouter_hpoison (f : Router → Router) : (modRouter f s).hpoison = s.hpoison := rfl
@[simp] theorem modRouter_mem (f : Router → Router) : (modRouter f s).mem = s.mem := rfl
@[simp] theorem modRouter_mapLines (f : Router → Router) : (modRouter f s).mapLines = s.mapLines := rfl
@[simp] theorem modRouter_ds (f : Router → Router) : (modRouter f s).ds = s.ds := rfl
@[simp] theorem modRouter_tcache (f : Router → Router) : (modRouter f s).tcache = s.tcache := rfl
@[simp] theorem modRouter_ats (f : Router → Router) : (modRouter f s).ats = s.ats := rfl
@[simp] theorem modRouter_invals (f : Router → Router) : (modRouter f s).invals = s.invals := rfl
@[simp] theorem modRouter_windows (f : Router → Router) : (modRouter f s).windows = s.windows := rfl
@[simp] theorem modRouter_winNext (f : Router → Router) : (modRouter f s).winNext = s.winNext := rfl
@[simp] theorem modRouter_winFreed (f : Router → Router) : (modRouter f s).winFreed = s.winFreed := rfl
@[simp] theorem modRouter_queues (f : Router → Router) : (modRouter f s).queues = s.queues := rfl
@[simp] theorem modRouter_lists (f : Router → Router) : (modRouter f s).lists = s.lists := rfl
@[simp] theorem modRouter_rrRoom (f : Router → Router) : (modRouter f s).rrRoom = s.rrRoom := rfl
@[simp] theorem modRouter_rrQueue (f : Router → Router) : (modRouter f s).rrQueue = s.rrQueue := rfl
@[simp] theorem modRouter_tilesHalted (f : Router → Router) : (modRouter f s).tilesHalted = s.tilesHalted := rfl
@[simp] theorem modRouter_seawalls (f : Router → Router) : (modRouter f s).seawalls = s.seawalls := rfl
@[simp] theorem modRouter_nextSeawall (f : Router → Router) : (modRouter f s).nextSeawall = s.nextSeawall := rfl
@[simp] theorem modRouter_qps (f : Router → Router) : (modRouter f s).qps = s.qps := rfl
@[simp] theorem modRouter_porch (f : Router → Router) : (modRouter f s).porch = s.porch := rfl
@[simp] theorem modRouter_hot (f : Router → Router) : (modRouter f s).hot = s.hot := rfl
@[simp] theorem modRouter_warm (f : Router → Router) : (modRouter f s).warm = s.warm := rfl
@[simp] theorem modRouter_rooms (f : Router → Router) : (modRouter f s).rooms = s.rooms := rfl
@[simp] theorem modRouter_coll (f : Router → Router) : (modRouter f s).coll = s.coll := rfl
@[simp] theorem modRouter_errs (f : Router → Router) : (modRouter f s).errs = s.errs := rfl
@[simp] theorem modRouter_fports (f : Router → Router) : (modRouter f s).fports = s.fports := rfl
@[simp] theorem modRouter_heldPkts (f : Router → Router) : (modRouter f s).heldPkts = s.heldPkts := rfl
@[simp] theorem modRouter_ethResult (f : Router → Router) : (modRouter f s).ethResult = s.ethResult := rfl
@[simp] theorem modRouter_tokens (f : Router → Router) : (modRouter f s).tokens = s.tokens := rfl
@[simp] theorem modRouter_tokenFrac (f : Router → Router) : (modRouter f s).tokenFrac = s.tokenFrac := rfl
@[simp] theorem modRouter_sealing (f : Router → Router) : (modRouter f s).sealing = s.sealing := rfl
@[simp] theorem modRouter_doms (f : Router → Router) : (modRouter f s).doms = s.doms := rfl
@[simp] theorem modRouter_lanes (f : Router → Router) : (modRouter f s).lanes = s.lanes := rfl
@[simp] theorem modRouter_lasers (f : Router → Router) : (modRouter f s).lasers = s.lasers := rfl
@[simp] theorem modRouter_laserEn (f : Router → Router) : (modRouter f s).laserEn = s.laserEn := rfl
@[simp] theorem modRouter_peTemp (f : Router → Router) : (modRouter f s).peTemp = s.peTemp := rfl
@[simp] theorem modRouter_power (f : Router → Router) : (modRouter f s).power = s.power := rfl
@[simp] theorem modRouter_dict (f : Router → Router) : (modRouter f s).dict = s.dict := rfl
@[simp] theorem modRouter_trv (f : Router → Router) : (modRouter f s).trv = s.trv := rfl
@[simp] theorem modRouter_func (f : Router → Router) (fn₀ : Nat) : func (modRouter f s) fn₀ = func s fn₀ := rfl
@[simp] theorem modRouter_hport (f : Router → Router) (p₀ : Nat) : hport (modRouter f s) p₀ = hport s p₀ := rfl
@[simp] theorem modRouter_room (f : Router → Router) (r₀ : Nat) : room (modRouter f s) r₀ = room s r₀ := rfl
@[simp] theorem modRouter_roomOf (f : Router → Router) (fn₀ : Nat) : roomOf (modRouter f s) fn₀ = roomOf s fn₀ := rfl
@[simp] theorem modRouter_queue (f : Router → Router) (fn₀ q₀ : Nat) : queue (modRouter f s) fn₀ q₀ = queue s fn₀ q₀ := rfl
@[simp] theorem modRouter_qp (f : Router → Router) (n₀ : Nat) : qp (modRouter f s) n₀ = qp s n₀ := rfl
@[simp] theorem modRouter_fport (f : Router → Router) (p₀ : Nat) : fport (modRouter f s) p₀ = fport s p₀ := rfl

/-! ## modFport -/

@[simp] theorem modFport_pending (p : Nat) (f : FPort → FPort) : (modFport p f s).pending = s.pending := rfl
@[simp] theorem modFport_out (p : Nat) (f : FPort → FPort) : (modFport p f s).out = s.out := rfl
@[simp] theorem modFport_free (p : Nat) (f : FPort → FPort) : (modFport p f s).free = s.free := rfl
@[simp] theorem modFport_regs (p : Nat) (f : FPort → FPort) : (modFport p f s).regs = s.regs := rfl
@[simp] theorem modFport_eff (p : Nat) (f : FPort → FPort) : (modFport p f s).eff = s.eff := rfl
@[simp] theorem modFport_bufs (p : Nat) (f : FPort → FPort) : (modFport p f s).bufs = s.bufs := rfl
@[simp] theorem modFport_events (p : Nat) (f : FPort → FPort) : (modFport p f s).events = s.events := rfl
@[simp] theorem modFport_cnt (p : Nat) (f : FPort → FPort) : (modFport p f s).cnt = s.cnt := rfl
@[simp] theorem modFport_snap (p : Nat) (f : FPort → FPort) : (modFport p f s).snap = s.snap := rfl
@[simp] theorem modFport_arms (p : Nat) (f : FPort → FPort) : (modFport p f s).arms = s.arms := rfl
@[simp] theorem modFport_objs (p : Nat) (f : FPort → FPort) : (modFport p f s).objs = s.objs := rfl
@[simp] theorem modFport_objNow (p : Nat) (f : FPort → FPort) : (modFport p f s).objNow = s.objNow := rfl
@[simp] theorem modFport_tide (p : Nat) (f : FPort → FPort) : (modFport p f s).tide = s.tide := rfl
@[simp] theorem modFport_hports (p : Nat) (f : FPort → FPort) : (modFport p f s).hports = s.hports := rfl
@[simp] theorem modFport_funcs (p : Nat) (f : FPort → FPort) : (modFport p f s).funcs = s.funcs := rfl
@[simp] theorem modFport_hmem (p : Nat) (f : FPort → FPort) : (modFport p f s).hmem = s.hmem := rfl
@[simp] theorem modFport_hpoison (p : Nat) (f : FPort → FPort) : (modFport p f s).hpoison = s.hpoison := rfl
@[simp] theorem modFport_mem (p : Nat) (f : FPort → FPort) : (modFport p f s).mem = s.mem := rfl
@[simp] theorem modFport_mapLines (p : Nat) (f : FPort → FPort) : (modFport p f s).mapLines = s.mapLines := rfl
@[simp] theorem modFport_ds (p : Nat) (f : FPort → FPort) : (modFport p f s).ds = s.ds := rfl
@[simp] theorem modFport_tcache (p : Nat) (f : FPort → FPort) : (modFport p f s).tcache = s.tcache := rfl
@[simp] theorem modFport_ats (p : Nat) (f : FPort → FPort) : (modFport p f s).ats = s.ats := rfl
@[simp] theorem modFport_invals (p : Nat) (f : FPort → FPort) : (modFport p f s).invals = s.invals := rfl
@[simp] theorem modFport_windows (p : Nat) (f : FPort → FPort) : (modFport p f s).windows = s.windows := rfl
@[simp] theorem modFport_winNext (p : Nat) (f : FPort → FPort) : (modFport p f s).winNext = s.winNext := rfl
@[simp] theorem modFport_winFreed (p : Nat) (f : FPort → FPort) : (modFport p f s).winFreed = s.winFreed := rfl
@[simp] theorem modFport_queues (p : Nat) (f : FPort → FPort) : (modFport p f s).queues = s.queues := rfl
@[simp] theorem modFport_lists (p : Nat) (f : FPort → FPort) : (modFport p f s).lists = s.lists := rfl
@[simp] theorem modFport_rrRoom (p : Nat) (f : FPort → FPort) : (modFport p f s).rrRoom = s.rrRoom := rfl
@[simp] theorem modFport_rrQueue (p : Nat) (f : FPort → FPort) : (modFport p f s).rrQueue = s.rrQueue := rfl
@[simp] theorem modFport_tilesHalted (p : Nat) (f : FPort → FPort) : (modFport p f s).tilesHalted = s.tilesHalted := rfl
@[simp] theorem modFport_seawalls (p : Nat) (f : FPort → FPort) : (modFport p f s).seawalls = s.seawalls := rfl
@[simp] theorem modFport_nextSeawall (p : Nat) (f : FPort → FPort) : (modFport p f s).nextSeawall = s.nextSeawall := rfl
@[simp] theorem modFport_qps (p : Nat) (f : FPort → FPort) : (modFport p f s).qps = s.qps := rfl
@[simp] theorem modFport_porch (p : Nat) (f : FPort → FPort) : (modFport p f s).porch = s.porch := rfl
@[simp] theorem modFport_hot (p : Nat) (f : FPort → FPort) : (modFport p f s).hot = s.hot := rfl
@[simp] theorem modFport_warm (p : Nat) (f : FPort → FPort) : (modFport p f s).warm = s.warm := rfl
@[simp] theorem modFport_rooms (p : Nat) (f : FPort → FPort) : (modFport p f s).rooms = s.rooms := rfl
@[simp] theorem modFport_coll (p : Nat) (f : FPort → FPort) : (modFport p f s).coll = s.coll := rfl
@[simp] theorem modFport_errs (p : Nat) (f : FPort → FPort) : (modFport p f s).errs = s.errs := rfl
@[simp] theorem modFport_router (p : Nat) (f : FPort → FPort) : (modFport p f s).router = s.router := rfl
@[simp] theorem modFport_heldPkts (p : Nat) (f : FPort → FPort) : (modFport p f s).heldPkts = s.heldPkts := rfl
@[simp] theorem modFport_ethResult (p : Nat) (f : FPort → FPort) : (modFport p f s).ethResult = s.ethResult := rfl
@[simp] theorem modFport_tokens (p : Nat) (f : FPort → FPort) : (modFport p f s).tokens = s.tokens := rfl
@[simp] theorem modFport_tokenFrac (p : Nat) (f : FPort → FPort) : (modFport p f s).tokenFrac = s.tokenFrac := rfl
@[simp] theorem modFport_sealing (p : Nat) (f : FPort → FPort) : (modFport p f s).sealing = s.sealing := rfl
@[simp] theorem modFport_doms (p : Nat) (f : FPort → FPort) : (modFport p f s).doms = s.doms := rfl
@[simp] theorem modFport_lanes (p : Nat) (f : FPort → FPort) : (modFport p f s).lanes = s.lanes := rfl
@[simp] theorem modFport_lasers (p : Nat) (f : FPort → FPort) : (modFport p f s).lasers = s.lasers := rfl
@[simp] theorem modFport_laserEn (p : Nat) (f : FPort → FPort) : (modFport p f s).laserEn = s.laserEn := rfl
@[simp] theorem modFport_peTemp (p : Nat) (f : FPort → FPort) : (modFport p f s).peTemp = s.peTemp := rfl
@[simp] theorem modFport_power (p : Nat) (f : FPort → FPort) : (modFport p f s).power = s.power := rfl
@[simp] theorem modFport_dict (p : Nat) (f : FPort → FPort) : (modFport p f s).dict = s.dict := rfl
@[simp] theorem modFport_trv (p : Nat) (f : FPort → FPort) : (modFport p f s).trv = s.trv := rfl
@[simp] theorem modFport_func (p : Nat) (f : FPort → FPort) (fn₀ : Nat) : func (modFport p f s) fn₀ = func s fn₀ := rfl
@[simp] theorem modFport_hport (p : Nat) (f : FPort → FPort) (p₀ : Nat) : hport (modFport p f s) p₀ = hport s p₀ := rfl
@[simp] theorem modFport_room (p : Nat) (f : FPort → FPort) (r₀ : Nat) : room (modFport p f s) r₀ = room s r₀ := rfl
@[simp] theorem modFport_roomOf (p : Nat) (f : FPort → FPort) (fn₀ : Nat) : roomOf (modFport p f s) fn₀ = roomOf s fn₀ := rfl
@[simp] theorem modFport_queue (p : Nat) (f : FPort → FPort) (fn₀ q₀ : Nat) : queue (modFport p f s) fn₀ q₀ = queue s fn₀ q₀ := rfl
@[simp] theorem modFport_qp (p : Nat) (f : FPort → FPort) (n₀ : Nat) : qp (modFport p f s) n₀ = qp s n₀ := rfl

/-! ## modErrs -/

@[simp] theorem modErrs_pending (f : Errs → Errs) : (modErrs f s).pending = s.pending := rfl
@[simp] theorem modErrs_out (f : Errs → Errs) : (modErrs f s).out = s.out := rfl
@[simp] theorem modErrs_free (f : Errs → Errs) : (modErrs f s).free = s.free := rfl
@[simp] theorem modErrs_regs (f : Errs → Errs) : (modErrs f s).regs = s.regs := rfl
@[simp] theorem modErrs_eff (f : Errs → Errs) : (modErrs f s).eff = s.eff := rfl
@[simp] theorem modErrs_bufs (f : Errs → Errs) : (modErrs f s).bufs = s.bufs := rfl
@[simp] theorem modErrs_events (f : Errs → Errs) : (modErrs f s).events = s.events := rfl
@[simp] theorem modErrs_cnt (f : Errs → Errs) : (modErrs f s).cnt = s.cnt := rfl
@[simp] theorem modErrs_snap (f : Errs → Errs) : (modErrs f s).snap = s.snap := rfl
@[simp] theorem modErrs_arms (f : Errs → Errs) : (modErrs f s).arms = s.arms := rfl
@[simp] theorem modErrs_objs (f : Errs → Errs) : (modErrs f s).objs = s.objs := rfl
@[simp] theorem modErrs_objNow (f : Errs → Errs) : (modErrs f s).objNow = s.objNow := rfl
@[simp] theorem modErrs_tide (f : Errs → Errs) : (modErrs f s).tide = s.tide := rfl
@[simp] theorem modErrs_hports (f : Errs → Errs) : (modErrs f s).hports = s.hports := rfl
@[simp] theorem modErrs_funcs (f : Errs → Errs) : (modErrs f s).funcs = s.funcs := rfl
@[simp] theorem modErrs_hmem (f : Errs → Errs) : (modErrs f s).hmem = s.hmem := rfl
@[simp] theorem modErrs_hpoison (f : Errs → Errs) : (modErrs f s).hpoison = s.hpoison := rfl
@[simp] theorem modErrs_mem (f : Errs → Errs) : (modErrs f s).mem = s.mem := rfl
@[simp] theorem modErrs_mapLines (f : Errs → Errs) : (modErrs f s).mapLines = s.mapLines := rfl
@[simp] theorem modErrs_ds (f : Errs → Errs) : (modErrs f s).ds = s.ds := rfl
@[simp] theorem modErrs_tcache (f : Errs → Errs) : (modErrs f s).tcache = s.tcache := rfl
@[simp] theorem modErrs_ats (f : Errs → Errs) : (modErrs f s).ats = s.ats := rfl
@[simp] theorem modErrs_invals (f : Errs → Errs) : (modErrs f s).invals = s.invals := rfl
@[simp] theorem modErrs_windows (f : Errs → Errs) : (modErrs f s).windows = s.windows := rfl
@[simp] theorem modErrs_winNext (f : Errs → Errs) : (modErrs f s).winNext = s.winNext := rfl
@[simp] theorem modErrs_winFreed (f : Errs → Errs) : (modErrs f s).winFreed = s.winFreed := rfl
@[simp] theorem modErrs_queues (f : Errs → Errs) : (modErrs f s).queues = s.queues := rfl
@[simp] theorem modErrs_lists (f : Errs → Errs) : (modErrs f s).lists = s.lists := rfl
@[simp] theorem modErrs_rrRoom (f : Errs → Errs) : (modErrs f s).rrRoom = s.rrRoom := rfl
@[simp] theorem modErrs_rrQueue (f : Errs → Errs) : (modErrs f s).rrQueue = s.rrQueue := rfl
@[simp] theorem modErrs_tilesHalted (f : Errs → Errs) : (modErrs f s).tilesHalted = s.tilesHalted := rfl
@[simp] theorem modErrs_seawalls (f : Errs → Errs) : (modErrs f s).seawalls = s.seawalls := rfl
@[simp] theorem modErrs_nextSeawall (f : Errs → Errs) : (modErrs f s).nextSeawall = s.nextSeawall := rfl
@[simp] theorem modErrs_qps (f : Errs → Errs) : (modErrs f s).qps = s.qps := rfl
@[simp] theorem modErrs_porch (f : Errs → Errs) : (modErrs f s).porch = s.porch := rfl
@[simp] theorem modErrs_hot (f : Errs → Errs) : (modErrs f s).hot = s.hot := rfl
@[simp] theorem modErrs_warm (f : Errs → Errs) : (modErrs f s).warm = s.warm := rfl
@[simp] theorem modErrs_rooms (f : Errs → Errs) : (modErrs f s).rooms = s.rooms := rfl
@[simp] theorem modErrs_coll (f : Errs → Errs) : (modErrs f s).coll = s.coll := rfl
@[simp] theorem modErrs_fports (f : Errs → Errs) : (modErrs f s).fports = s.fports := rfl
@[simp] theorem modErrs_router (f : Errs → Errs) : (modErrs f s).router = s.router := rfl
@[simp] theorem modErrs_heldPkts (f : Errs → Errs) : (modErrs f s).heldPkts = s.heldPkts := rfl
@[simp] theorem modErrs_ethResult (f : Errs → Errs) : (modErrs f s).ethResult = s.ethResult := rfl
@[simp] theorem modErrs_tokens (f : Errs → Errs) : (modErrs f s).tokens = s.tokens := rfl
@[simp] theorem modErrs_tokenFrac (f : Errs → Errs) : (modErrs f s).tokenFrac = s.tokenFrac := rfl
@[simp] theorem modErrs_sealing (f : Errs → Errs) : (modErrs f s).sealing = s.sealing := rfl
@[simp] theorem modErrs_doms (f : Errs → Errs) : (modErrs f s).doms = s.doms := rfl
@[simp] theorem modErrs_lanes (f : Errs → Errs) : (modErrs f s).lanes = s.lanes := rfl
@[simp] theorem modErrs_lasers (f : Errs → Errs) : (modErrs f s).lasers = s.lasers := rfl
@[simp] theorem modErrs_laserEn (f : Errs → Errs) : (modErrs f s).laserEn = s.laserEn := rfl
@[simp] theorem modErrs_peTemp (f : Errs → Errs) : (modErrs f s).peTemp = s.peTemp := rfl
@[simp] theorem modErrs_power (f : Errs → Errs) : (modErrs f s).power = s.power := rfl
@[simp] theorem modErrs_dict (f : Errs → Errs) : (modErrs f s).dict = s.dict := rfl
@[simp] theorem modErrs_trv (f : Errs → Errs) : (modErrs f s).trv = s.trv := rfl
@[simp] theorem modErrs_func (f : Errs → Errs) (fn₀ : Nat) : func (modErrs f s) fn₀ = func s fn₀ := rfl
@[simp] theorem modErrs_hport (f : Errs → Errs) (p₀ : Nat) : hport (modErrs f s) p₀ = hport s p₀ := rfl
@[simp] theorem modErrs_room (f : Errs → Errs) (r₀ : Nat) : room (modErrs f s) r₀ = room s r₀ := rfl
@[simp] theorem modErrs_roomOf (f : Errs → Errs) (fn₀ : Nat) : roomOf (modErrs f s) fn₀ = roomOf s fn₀ := rfl
@[simp] theorem modErrs_queue (f : Errs → Errs) (fn₀ q₀ : Nat) : queue (modErrs f s) fn₀ q₀ = queue s fn₀ q₀ := rfl
@[simp] theorem modErrs_qp (f : Errs → Errs) (n₀ : Nat) : qp (modErrs f s) n₀ = qp s n₀ := rfl
@[simp] theorem modErrs_fport (f : Errs → Errs) (p₀ : Nat) : fport (modErrs f s) p₀ = fport s p₀ := rfl

/-! ## modMem -/

@[simp] theorem modMem_pending (f : DevMem → DevMem) : (modMem f s).pending = s.pending := rfl
@[simp] theorem modMem_out (f : DevMem → DevMem) : (modMem f s).out = s.out := rfl
@[simp] theorem modMem_free (f : DevMem → DevMem) : (modMem f s).free = s.free := rfl
@[simp] theorem modMem_regs (f : DevMem → DevMem) : (modMem f s).regs = s.regs := rfl
@[simp] theorem modMem_eff (f : DevMem → DevMem) : (modMem f s).eff = s.eff := rfl
@[simp] theorem modMem_bufs (f : DevMem → DevMem) : (modMem f s).bufs = s.bufs := rfl
@[simp] theorem modMem_events (f : DevMem → DevMem) : (modMem f s).events = s.events := rfl
@[simp] theorem modMem_cnt (f : DevMem → DevMem) : (modMem f s).cnt = s.cnt := rfl
@[simp] theorem modMem_snap (f : DevMem → DevMem) : (modMem f s).snap = s.snap := rfl
@[simp] theorem modMem_arms (f : DevMem → DevMem) : (modMem f s).arms = s.arms := rfl
@[simp] theorem modMem_objs (f : DevMem → DevMem) : (modMem f s).objs = s.objs := rfl
@[simp] theorem modMem_objNow (f : DevMem → DevMem) : (modMem f s).objNow = s.objNow := rfl
@[simp] theorem modMem_tide (f : DevMem → DevMem) : (modMem f s).tide = s.tide := rfl
@[simp] theorem modMem_hports (f : DevMem → DevMem) : (modMem f s).hports = s.hports := rfl
@[simp] theorem modMem_funcs (f : DevMem → DevMem) : (modMem f s).funcs = s.funcs := rfl
@[simp] theorem modMem_hmem (f : DevMem → DevMem) : (modMem f s).hmem = s.hmem := rfl
@[simp] theorem modMem_hpoison (f : DevMem → DevMem) : (modMem f s).hpoison = s.hpoison := rfl
@[simp] theorem modMem_mapLines (f : DevMem → DevMem) : (modMem f s).mapLines = s.mapLines := rfl
@[simp] theorem modMem_ds (f : DevMem → DevMem) : (modMem f s).ds = s.ds := rfl
@[simp] theorem modMem_tcache (f : DevMem → DevMem) : (modMem f s).tcache = s.tcache := rfl
@[simp] theorem modMem_ats (f : DevMem → DevMem) : (modMem f s).ats = s.ats := rfl
@[simp] theorem modMem_invals (f : DevMem → DevMem) : (modMem f s).invals = s.invals := rfl
@[simp] theorem modMem_windows (f : DevMem → DevMem) : (modMem f s).windows = s.windows := rfl
@[simp] theorem modMem_winNext (f : DevMem → DevMem) : (modMem f s).winNext = s.winNext := rfl
@[simp] theorem modMem_winFreed (f : DevMem → DevMem) : (modMem f s).winFreed = s.winFreed := rfl
@[simp] theorem modMem_queues (f : DevMem → DevMem) : (modMem f s).queues = s.queues := rfl
@[simp] theorem modMem_lists (f : DevMem → DevMem) : (modMem f s).lists = s.lists := rfl
@[simp] theorem modMem_rrRoom (f : DevMem → DevMem) : (modMem f s).rrRoom = s.rrRoom := rfl
@[simp] theorem modMem_rrQueue (f : DevMem → DevMem) : (modMem f s).rrQueue = s.rrQueue := rfl
@[simp] theorem modMem_tilesHalted (f : DevMem → DevMem) : (modMem f s).tilesHalted = s.tilesHalted := rfl
@[simp] theorem modMem_seawalls (f : DevMem → DevMem) : (modMem f s).seawalls = s.seawalls := rfl
@[simp] theorem modMem_nextSeawall (f : DevMem → DevMem) : (modMem f s).nextSeawall = s.nextSeawall := rfl
@[simp] theorem modMem_qps (f : DevMem → DevMem) : (modMem f s).qps = s.qps := rfl
@[simp] theorem modMem_porch (f : DevMem → DevMem) : (modMem f s).porch = s.porch := rfl
@[simp] theorem modMem_hot (f : DevMem → DevMem) : (modMem f s).hot = s.hot := rfl
@[simp] theorem modMem_warm (f : DevMem → DevMem) : (modMem f s).warm = s.warm := rfl
@[simp] theorem modMem_rooms (f : DevMem → DevMem) : (modMem f s).rooms = s.rooms := rfl
@[simp] theorem modMem_coll (f : DevMem → DevMem) : (modMem f s).coll = s.coll := rfl
@[simp] theorem modMem_errs (f : DevMem → DevMem) : (modMem f s).errs = s.errs := rfl
@[simp] theorem modMem_fports (f : DevMem → DevMem) : (modMem f s).fports = s.fports := rfl
@[simp] theorem modMem_router (f : DevMem → DevMem) : (modMem f s).router = s.router := rfl
@[simp] theorem modMem_heldPkts (f : DevMem → DevMem) : (modMem f s).heldPkts = s.heldPkts := rfl
@[simp] theorem modMem_ethResult (f : DevMem → DevMem) : (modMem f s).ethResult = s.ethResult := rfl
@[simp] theorem modMem_tokens (f : DevMem → DevMem) : (modMem f s).tokens = s.tokens := rfl
@[simp] theorem modMem_tokenFrac (f : DevMem → DevMem) : (modMem f s).tokenFrac = s.tokenFrac := rfl
@[simp] theorem modMem_sealing (f : DevMem → DevMem) : (modMem f s).sealing = s.sealing := rfl
@[simp] theorem modMem_doms (f : DevMem → DevMem) : (modMem f s).doms = s.doms := rfl
@[simp] theorem modMem_lanes (f : DevMem → DevMem) : (modMem f s).lanes = s.lanes := rfl
@[simp] theorem modMem_lasers (f : DevMem → DevMem) : (modMem f s).lasers = s.lasers := rfl
@[simp] theorem modMem_laserEn (f : DevMem → DevMem) : (modMem f s).laserEn = s.laserEn := rfl
@[simp] theorem modMem_peTemp (f : DevMem → DevMem) : (modMem f s).peTemp = s.peTemp := rfl
@[simp] theorem modMem_power (f : DevMem → DevMem) : (modMem f s).power = s.power := rfl
@[simp] theorem modMem_dict (f : DevMem → DevMem) : (modMem f s).dict = s.dict := rfl
@[simp] theorem modMem_trv (f : DevMem → DevMem) : (modMem f s).trv = s.trv := rfl
@[simp] theorem modMem_func (f : DevMem → DevMem) (fn₀ : Nat) : func (modMem f s) fn₀ = func s fn₀ := rfl
@[simp] theorem modMem_hport (f : DevMem → DevMem) (p₀ : Nat) : hport (modMem f s) p₀ = hport s p₀ := rfl
@[simp] theorem modMem_room (f : DevMem → DevMem) (r₀ : Nat) : room (modMem f s) r₀ = room s r₀ := rfl
@[simp] theorem modMem_roomOf (f : DevMem → DevMem) (fn₀ : Nat) : roomOf (modMem f s) fn₀ = roomOf s fn₀ := rfl
@[simp] theorem modMem_queue (f : DevMem → DevMem) (fn₀ q₀ : Nat) : queue (modMem f s) fn₀ q₀ = queue s fn₀ q₀ := rfl
@[simp] theorem modMem_qp (f : DevMem → DevMem) (n₀ : Nat) : qp (modMem f s) n₀ = qp s n₀ := rfl
@[simp] theorem modMem_fport (f : DevMem → DevMem) (p₀ : Nat) : fport (modMem f s) p₀ = fport s p₀ := rfl

/-! ## modDs -/

@[simp] theorem modDs_pending (d : Nat) (f : DsPort → DsPort) : (modDs d f s).pending = s.pending := rfl
@[simp] theorem modDs_out (d : Nat) (f : DsPort → DsPort) : (modDs d f s).out = s.out := rfl
@[simp] theorem modDs_free (d : Nat) (f : DsPort → DsPort) : (modDs d f s).free = s.free := rfl
@[simp] theorem modDs_regs (d : Nat) (f : DsPort → DsPort) : (modDs d f s).regs = s.regs := rfl
@[simp] theorem modDs_eff (d : Nat) (f : DsPort → DsPort) : (modDs d f s).eff = s.eff := rfl
@[simp] theorem modDs_bufs (d : Nat) (f : DsPort → DsPort) : (modDs d f s).bufs = s.bufs := rfl
@[simp] theorem modDs_events (d : Nat) (f : DsPort → DsPort) : (modDs d f s).events = s.events := rfl
@[simp] theorem modDs_cnt (d : Nat) (f : DsPort → DsPort) : (modDs d f s).cnt = s.cnt := rfl
@[simp] theorem modDs_snap (d : Nat) (f : DsPort → DsPort) : (modDs d f s).snap = s.snap := rfl
@[simp] theorem modDs_arms (d : Nat) (f : DsPort → DsPort) : (modDs d f s).arms = s.arms := rfl
@[simp] theorem modDs_objs (d : Nat) (f : DsPort → DsPort) : (modDs d f s).objs = s.objs := rfl
@[simp] theorem modDs_objNow (d : Nat) (f : DsPort → DsPort) : (modDs d f s).objNow = s.objNow := rfl
@[simp] theorem modDs_tide (d : Nat) (f : DsPort → DsPort) : (modDs d f s).tide = s.tide := rfl
@[simp] theorem modDs_hports (d : Nat) (f : DsPort → DsPort) : (modDs d f s).hports = s.hports := rfl
@[simp] theorem modDs_funcs (d : Nat) (f : DsPort → DsPort) : (modDs d f s).funcs = s.funcs := rfl
@[simp] theorem modDs_hmem (d : Nat) (f : DsPort → DsPort) : (modDs d f s).hmem = s.hmem := rfl
@[simp] theorem modDs_hpoison (d : Nat) (f : DsPort → DsPort) : (modDs d f s).hpoison = s.hpoison := rfl
@[simp] theorem modDs_mem (d : Nat) (f : DsPort → DsPort) : (modDs d f s).mem = s.mem := rfl
@[simp] theorem modDs_mapLines (d : Nat) (f : DsPort → DsPort) : (modDs d f s).mapLines = s.mapLines := rfl
@[simp] theorem modDs_tcache (d : Nat) (f : DsPort → DsPort) : (modDs d f s).tcache = s.tcache := rfl
@[simp] theorem modDs_ats (d : Nat) (f : DsPort → DsPort) : (modDs d f s).ats = s.ats := rfl
@[simp] theorem modDs_invals (d : Nat) (f : DsPort → DsPort) : (modDs d f s).invals = s.invals := rfl
@[simp] theorem modDs_windows (d : Nat) (f : DsPort → DsPort) : (modDs d f s).windows = s.windows := rfl
@[simp] theorem modDs_winNext (d : Nat) (f : DsPort → DsPort) : (modDs d f s).winNext = s.winNext := rfl
@[simp] theorem modDs_winFreed (d : Nat) (f : DsPort → DsPort) : (modDs d f s).winFreed = s.winFreed := rfl
@[simp] theorem modDs_queues (d : Nat) (f : DsPort → DsPort) : (modDs d f s).queues = s.queues := rfl
@[simp] theorem modDs_lists (d : Nat) (f : DsPort → DsPort) : (modDs d f s).lists = s.lists := rfl
@[simp] theorem modDs_rrRoom (d : Nat) (f : DsPort → DsPort) : (modDs d f s).rrRoom = s.rrRoom := rfl
@[simp] theorem modDs_rrQueue (d : Nat) (f : DsPort → DsPort) : (modDs d f s).rrQueue = s.rrQueue := rfl
@[simp] theorem modDs_tilesHalted (d : Nat) (f : DsPort → DsPort) : (modDs d f s).tilesHalted = s.tilesHalted := rfl
@[simp] theorem modDs_seawalls (d : Nat) (f : DsPort → DsPort) : (modDs d f s).seawalls = s.seawalls := rfl
@[simp] theorem modDs_nextSeawall (d : Nat) (f : DsPort → DsPort) : (modDs d f s).nextSeawall = s.nextSeawall := rfl
@[simp] theorem modDs_qps (d : Nat) (f : DsPort → DsPort) : (modDs d f s).qps = s.qps := rfl
@[simp] theorem modDs_porch (d : Nat) (f : DsPort → DsPort) : (modDs d f s).porch = s.porch := rfl
@[simp] theorem modDs_hot (d : Nat) (f : DsPort → DsPort) : (modDs d f s).hot = s.hot := rfl
@[simp] theorem modDs_warm (d : Nat) (f : DsPort → DsPort) : (modDs d f s).warm = s.warm := rfl
@[simp] theorem modDs_rooms (d : Nat) (f : DsPort → DsPort) : (modDs d f s).rooms = s.rooms := rfl
@[simp] theorem modDs_coll (d : Nat) (f : DsPort → DsPort) : (modDs d f s).coll = s.coll := rfl
@[simp] theorem modDs_errs (d : Nat) (f : DsPort → DsPort) : (modDs d f s).errs = s.errs := rfl
@[simp] theorem modDs_fports (d : Nat) (f : DsPort → DsPort) : (modDs d f s).fports = s.fports := rfl
@[simp] theorem modDs_router (d : Nat) (f : DsPort → DsPort) : (modDs d f s).router = s.router := rfl
@[simp] theorem modDs_heldPkts (d : Nat) (f : DsPort → DsPort) : (modDs d f s).heldPkts = s.heldPkts := rfl
@[simp] theorem modDs_ethResult (d : Nat) (f : DsPort → DsPort) : (modDs d f s).ethResult = s.ethResult := rfl
@[simp] theorem modDs_tokens (d : Nat) (f : DsPort → DsPort) : (modDs d f s).tokens = s.tokens := rfl
@[simp] theorem modDs_tokenFrac (d : Nat) (f : DsPort → DsPort) : (modDs d f s).tokenFrac = s.tokenFrac := rfl
@[simp] theorem modDs_sealing (d : Nat) (f : DsPort → DsPort) : (modDs d f s).sealing = s.sealing := rfl
@[simp] theorem modDs_doms (d : Nat) (f : DsPort → DsPort) : (modDs d f s).doms = s.doms := rfl
@[simp] theorem modDs_lanes (d : Nat) (f : DsPort → DsPort) : (modDs d f s).lanes = s.lanes := rfl
@[simp] theorem modDs_lasers (d : Nat) (f : DsPort → DsPort) : (modDs d f s).lasers = s.lasers := rfl
@[simp] theorem modDs_laserEn (d : Nat) (f : DsPort → DsPort) : (modDs d f s).laserEn = s.laserEn := rfl
@[simp] theorem modDs_peTemp (d : Nat) (f : DsPort → DsPort) : (modDs d f s).peTemp = s.peTemp := rfl
@[simp] theorem modDs_power (d : Nat) (f : DsPort → DsPort) : (modDs d f s).power = s.power := rfl
@[simp] theorem modDs_dict (d : Nat) (f : DsPort → DsPort) : (modDs d f s).dict = s.dict := rfl
@[simp] theorem modDs_trv (d : Nat) (f : DsPort → DsPort) : (modDs d f s).trv = s.trv := rfl
@[simp] theorem modDs_func (d : Nat) (f : DsPort → DsPort) (fn₀ : Nat) : func (modDs d f s) fn₀ = func s fn₀ := rfl
@[simp] theorem modDs_hport (d : Nat) (f : DsPort → DsPort) (p₀ : Nat) : hport (modDs d f s) p₀ = hport s p₀ := rfl
@[simp] theorem modDs_room (d : Nat) (f : DsPort → DsPort) (r₀ : Nat) : room (modDs d f s) r₀ = room s r₀ := rfl
@[simp] theorem modDs_roomOf (d : Nat) (f : DsPort → DsPort) (fn₀ : Nat) : roomOf (modDs d f s) fn₀ = roomOf s fn₀ := rfl
@[simp] theorem modDs_queue (d : Nat) (f : DsPort → DsPort) (fn₀ q₀ : Nat) : queue (modDs d f s) fn₀ q₀ = queue s fn₀ q₀ := rfl
@[simp] theorem modDs_qp (d : Nat) (f : DsPort → DsPort) (n₀ : Nat) : qp (modDs d f s) n₀ = qp s n₀ := rfl
@[simp] theorem modDs_fport (d : Nat) (f : DsPort → DsPort) (p₀ : Nat) : fport (modDs d f s) p₀ = fport s p₀ := rfl

/-! ## modAts -/

@[simp] theorem modAts_pending (q : AtsReq) (f : AtsReq → Option AtsReq) : (modAts q f s).pending = s.pending := rfl
@[simp] theorem modAts_out (q : AtsReq) (f : AtsReq → Option AtsReq) : (modAts q f s).out = s.out := rfl
@[simp] theorem modAts_free (q : AtsReq) (f : AtsReq → Option AtsReq) : (modAts q f s).free = s.free := rfl
@[simp] theorem modAts_regs (q : AtsReq) (f : AtsReq → Option AtsReq) : (modAts q f s).regs = s.regs := rfl
@[simp] theorem modAts_eff (q : AtsReq) (f : AtsReq → Option AtsReq) : (modAts q f s).eff = s.eff := rfl
@[simp] theorem modAts_bufs (q : AtsReq) (f : AtsReq → Option AtsReq) : (modAts q f s).bufs = s.bufs := rfl
@[simp] theorem modAts_events (q : AtsReq) (f : AtsReq → Option AtsReq) : (modAts q f s).events = s.events := rfl
@[simp] theorem modAts_cnt (q : AtsReq) (f : AtsReq → Option AtsReq) : (modAts q f s).cnt = s.cnt := rfl
@[simp] theorem modAts_snap (q : AtsReq) (f : AtsReq → Option AtsReq) : (modAts q f s).snap = s.snap := rfl
@[simp] theorem modAts_arms (q : AtsReq) (f : AtsReq → Option AtsReq) : (modAts q f s).arms = s.arms := rfl
@[simp] theorem modAts_objs (q : AtsReq) (f : AtsReq → Option AtsReq) : (modAts q f s).objs = s.objs := rfl
@[simp] theorem modAts_objNow (q : AtsReq) (f : AtsReq → Option AtsReq) : (modAts q f s).objNow = s.objNow := rfl
@[simp] theorem modAts_tide (q : AtsReq) (f : AtsReq → Option AtsReq) : (modAts q f s).tide = s.tide := rfl
@[simp] theorem modAts_hports (q : AtsReq) (f : AtsReq → Option AtsReq) : (modAts q f s).hports = s.hports := rfl
@[simp] theorem modAts_funcs (q : AtsReq) (f : AtsReq → Option AtsReq) : (modAts q f s).funcs = s.funcs := rfl
@[simp] theorem modAts_hmem (q : AtsReq) (f : AtsReq → Option AtsReq) : (modAts q f s).hmem = s.hmem := rfl
@[simp] theorem modAts_hpoison (q : AtsReq) (f : AtsReq → Option AtsReq) : (modAts q f s).hpoison = s.hpoison := rfl
@[simp] theorem modAts_mem (q : AtsReq) (f : AtsReq → Option AtsReq) : (modAts q f s).mem = s.mem := rfl
@[simp] theorem modAts_mapLines (q : AtsReq) (f : AtsReq → Option AtsReq) : (modAts q f s).mapLines = s.mapLines := rfl
@[simp] theorem modAts_ds (q : AtsReq) (f : AtsReq → Option AtsReq) : (modAts q f s).ds = s.ds := rfl
@[simp] theorem modAts_tcache (q : AtsReq) (f : AtsReq → Option AtsReq) : (modAts q f s).tcache = s.tcache := rfl
@[simp] theorem modAts_invals (q : AtsReq) (f : AtsReq → Option AtsReq) : (modAts q f s).invals = s.invals := rfl
@[simp] theorem modAts_windows (q : AtsReq) (f : AtsReq → Option AtsReq) : (modAts q f s).windows = s.windows := rfl
@[simp] theorem modAts_winNext (q : AtsReq) (f : AtsReq → Option AtsReq) : (modAts q f s).winNext = s.winNext := rfl
@[simp] theorem modAts_winFreed (q : AtsReq) (f : AtsReq → Option AtsReq) : (modAts q f s).winFreed = s.winFreed := rfl
@[simp] theorem modAts_queues (q : AtsReq) (f : AtsReq → Option AtsReq) : (modAts q f s).queues = s.queues := rfl
@[simp] theorem modAts_lists (q : AtsReq) (f : AtsReq → Option AtsReq) : (modAts q f s).lists = s.lists := rfl
@[simp] theorem modAts_rrRoom (q : AtsReq) (f : AtsReq → Option AtsReq) : (modAts q f s).rrRoom = s.rrRoom := rfl
@[simp] theorem modAts_rrQueue (q : AtsReq) (f : AtsReq → Option AtsReq) : (modAts q f s).rrQueue = s.rrQueue := rfl
@[simp] theorem modAts_tilesHalted (q : AtsReq) (f : AtsReq → Option AtsReq) : (modAts q f s).tilesHalted = s.tilesHalted := rfl
@[simp] theorem modAts_seawalls (q : AtsReq) (f : AtsReq → Option AtsReq) : (modAts q f s).seawalls = s.seawalls := rfl
@[simp] theorem modAts_nextSeawall (q : AtsReq) (f : AtsReq → Option AtsReq) : (modAts q f s).nextSeawall = s.nextSeawall := rfl
@[simp] theorem modAts_qps (q : AtsReq) (f : AtsReq → Option AtsReq) : (modAts q f s).qps = s.qps := rfl
@[simp] theorem modAts_porch (q : AtsReq) (f : AtsReq → Option AtsReq) : (modAts q f s).porch = s.porch := rfl
@[simp] theorem modAts_hot (q : AtsReq) (f : AtsReq → Option AtsReq) : (modAts q f s).hot = s.hot := rfl
@[simp] theorem modAts_warm (q : AtsReq) (f : AtsReq → Option AtsReq) : (modAts q f s).warm = s.warm := rfl
@[simp] theorem modAts_rooms (q : AtsReq) (f : AtsReq → Option AtsReq) : (modAts q f s).rooms = s.rooms := rfl
@[simp] theorem modAts_coll (q : AtsReq) (f : AtsReq → Option AtsReq) : (modAts q f s).coll = s.coll := rfl
@[simp] theorem modAts_errs (q : AtsReq) (f : AtsReq → Option AtsReq) : (modAts q f s).errs = s.errs := rfl
@[simp] theorem modAts_fports (q : AtsReq) (f : AtsReq → Option AtsReq) : (modAts q f s).fports = s.fports := rfl
@[simp] theorem modAts_router (q : AtsReq) (f : AtsReq → Option AtsReq) : (modAts q f s).router = s.router := rfl
@[simp] theorem modAts_heldPkts (q : AtsReq) (f : AtsReq → Option AtsReq) : (modAts q f s).heldPkts = s.heldPkts := rfl
@[simp] theorem modAts_ethResult (q : AtsReq) (f : AtsReq → Option AtsReq) : (modAts q f s).ethResult = s.ethResult := rfl
@[simp] theorem modAts_tokens (q : AtsReq) (f : AtsReq → Option AtsReq) : (modAts q f s).tokens = s.tokens := rfl
@[simp] theorem modAts_tokenFrac (q : AtsReq) (f : AtsReq → Option AtsReq) : (modAts q f s).tokenFrac = s.tokenFrac := rfl
@[simp] theorem modAts_sealing (q : AtsReq) (f : AtsReq → Option AtsReq) : (modAts q f s).sealing = s.sealing := rfl
@[simp] theorem modAts_doms (q : AtsReq) (f : AtsReq → Option AtsReq) : (modAts q f s).doms = s.doms := rfl
@[simp] theorem modAts_lanes (q : AtsReq) (f : AtsReq → Option AtsReq) : (modAts q f s).lanes = s.lanes := rfl
@[simp] theorem modAts_lasers (q : AtsReq) (f : AtsReq → Option AtsReq) : (modAts q f s).lasers = s.lasers := rfl
@[simp] theorem modAts_laserEn (q : AtsReq) (f : AtsReq → Option AtsReq) : (modAts q f s).laserEn = s.laserEn := rfl
@[simp] theorem modAts_peTemp (q : AtsReq) (f : AtsReq → Option AtsReq) : (modAts q f s).peTemp = s.peTemp := rfl
@[simp] theorem modAts_power (q : AtsReq) (f : AtsReq → Option AtsReq) : (modAts q f s).power = s.power := rfl
@[simp] theorem modAts_dict (q : AtsReq) (f : AtsReq → Option AtsReq) : (modAts q f s).dict = s.dict := rfl
@[simp] theorem modAts_trv (q : AtsReq) (f : AtsReq → Option AtsReq) : (modAts q f s).trv = s.trv := rfl
@[simp] theorem modAts_func (q : AtsReq) (f : AtsReq → Option AtsReq) (fn₀ : Nat) : func (modAts q f s) fn₀ = func s fn₀ := rfl
@[simp] theorem modAts_hport (q : AtsReq) (f : AtsReq → Option AtsReq) (p₀ : Nat) : hport (modAts q f s) p₀ = hport s p₀ := rfl
@[simp] theorem modAts_room (q : AtsReq) (f : AtsReq → Option AtsReq) (r₀ : Nat) : room (modAts q f s) r₀ = room s r₀ := rfl
@[simp] theorem modAts_roomOf (q : AtsReq) (f : AtsReq → Option AtsReq) (fn₀ : Nat) : roomOf (modAts q f s) fn₀ = roomOf s fn₀ := rfl
@[simp] theorem modAts_queue (q : AtsReq) (f : AtsReq → Option AtsReq) (fn₀ q₀ : Nat) : queue (modAts q f s) fn₀ q₀ = queue s fn₀ q₀ := rfl
@[simp] theorem modAts_qp (q : AtsReq) (f : AtsReq → Option AtsReq) (n₀ : Nat) : qp (modAts q f s) n₀ = qp s n₀ := rfl
@[simp] theorem modAts_fport (q : AtsReq) (f : AtsReq → Option AtsReq) (p₀ : Nat) : fport (modAts q f s) p₀ = fport s p₀ := rfl

/-! ## modColl -/

@[simp] theorem modColl_pending (f : Colls → Colls) : (modColl f s).pending = s.pending := rfl
@[simp] theorem modColl_out (f : Colls → Colls) : (modColl f s).out = s.out := rfl
@[simp] theorem modColl_free (f : Colls → Colls) : (modColl f s).free = s.free := rfl
@[simp] theorem modColl_regs (f : Colls → Colls) : (modColl f s).regs = s.regs := rfl
@[simp] theorem modColl_eff (f : Colls → Colls) : (modColl f s).eff = s.eff := rfl
@[simp] theorem modColl_bufs (f : Colls → Colls) : (modColl f s).bufs = s.bufs := rfl
@[simp] theorem modColl_events (f : Colls → Colls) : (modColl f s).events = s.events := rfl
@[simp] theorem modColl_cnt (f : Colls → Colls) : (modColl f s).cnt = s.cnt := rfl
@[simp] theorem modColl_snap (f : Colls → Colls) : (modColl f s).snap = s.snap := rfl
@[simp] theorem modColl_arms (f : Colls → Colls) : (modColl f s).arms = s.arms := rfl
@[simp] theorem modColl_objs (f : Colls → Colls) : (modColl f s).objs = s.objs := rfl
@[simp] theorem modColl_objNow (f : Colls → Colls) : (modColl f s).objNow = s.objNow := rfl
@[simp] theorem modColl_tide (f : Colls → Colls) : (modColl f s).tide = s.tide := rfl
@[simp] theorem modColl_hports (f : Colls → Colls) : (modColl f s).hports = s.hports := rfl
@[simp] theorem modColl_funcs (f : Colls → Colls) : (modColl f s).funcs = s.funcs := rfl
@[simp] theorem modColl_hmem (f : Colls → Colls) : (modColl f s).hmem = s.hmem := rfl
@[simp] theorem modColl_hpoison (f : Colls → Colls) : (modColl f s).hpoison = s.hpoison := rfl
@[simp] theorem modColl_mem (f : Colls → Colls) : (modColl f s).mem = s.mem := rfl
@[simp] theorem modColl_mapLines (f : Colls → Colls) : (modColl f s).mapLines = s.mapLines := rfl
@[simp] theorem modColl_ds (f : Colls → Colls) : (modColl f s).ds = s.ds := rfl
@[simp] theorem modColl_tcache (f : Colls → Colls) : (modColl f s).tcache = s.tcache := rfl
@[simp] theorem modColl_ats (f : Colls → Colls) : (modColl f s).ats = s.ats := rfl
@[simp] theorem modColl_invals (f : Colls → Colls) : (modColl f s).invals = s.invals := rfl
@[simp] theorem modColl_windows (f : Colls → Colls) : (modColl f s).windows = s.windows := rfl
@[simp] theorem modColl_winNext (f : Colls → Colls) : (modColl f s).winNext = s.winNext := rfl
@[simp] theorem modColl_winFreed (f : Colls → Colls) : (modColl f s).winFreed = s.winFreed := rfl
@[simp] theorem modColl_queues (f : Colls → Colls) : (modColl f s).queues = s.queues := rfl
@[simp] theorem modColl_lists (f : Colls → Colls) : (modColl f s).lists = s.lists := rfl
@[simp] theorem modColl_rrRoom (f : Colls → Colls) : (modColl f s).rrRoom = s.rrRoom := rfl
@[simp] theorem modColl_rrQueue (f : Colls → Colls) : (modColl f s).rrQueue = s.rrQueue := rfl
@[simp] theorem modColl_tilesHalted (f : Colls → Colls) : (modColl f s).tilesHalted = s.tilesHalted := rfl
@[simp] theorem modColl_seawalls (f : Colls → Colls) : (modColl f s).seawalls = s.seawalls := rfl
@[simp] theorem modColl_nextSeawall (f : Colls → Colls) : (modColl f s).nextSeawall = s.nextSeawall := rfl
@[simp] theorem modColl_qps (f : Colls → Colls) : (modColl f s).qps = s.qps := rfl
@[simp] theorem modColl_porch (f : Colls → Colls) : (modColl f s).porch = s.porch := rfl
@[simp] theorem modColl_hot (f : Colls → Colls) : (modColl f s).hot = s.hot := rfl
@[simp] theorem modColl_warm (f : Colls → Colls) : (modColl f s).warm = s.warm := rfl
@[simp] theorem modColl_rooms (f : Colls → Colls) : (modColl f s).rooms = s.rooms := rfl
@[simp] theorem modColl_errs (f : Colls → Colls) : (modColl f s).errs = s.errs := rfl
@[simp] theorem modColl_fports (f : Colls → Colls) : (modColl f s).fports = s.fports := rfl
@[simp] theorem modColl_router (f : Colls → Colls) : (modColl f s).router = s.router := rfl
@[simp] theorem modColl_heldPkts (f : Colls → Colls) : (modColl f s).heldPkts = s.heldPkts := rfl
@[simp] theorem modColl_ethResult (f : Colls → Colls) : (modColl f s).ethResult = s.ethResult := rfl
@[simp] theorem modColl_tokens (f : Colls → Colls) : (modColl f s).tokens = s.tokens := rfl
@[simp] theorem modColl_tokenFrac (f : Colls → Colls) : (modColl f s).tokenFrac = s.tokenFrac := rfl
@[simp] theorem modColl_sealing (f : Colls → Colls) : (modColl f s).sealing = s.sealing := rfl
@[simp] theorem modColl_doms (f : Colls → Colls) : (modColl f s).doms = s.doms := rfl
@[simp] theorem modColl_lanes (f : Colls → Colls) : (modColl f s).lanes = s.lanes := rfl
@[simp] theorem modColl_lasers (f : Colls → Colls) : (modColl f s).lasers = s.lasers := rfl
@[simp] theorem modColl_laserEn (f : Colls → Colls) : (modColl f s).laserEn = s.laserEn := rfl
@[simp] theorem modColl_peTemp (f : Colls → Colls) : (modColl f s).peTemp = s.peTemp := rfl
@[simp] theorem modColl_power (f : Colls → Colls) : (modColl f s).power = s.power := rfl
@[simp] theorem modColl_dict (f : Colls → Colls) : (modColl f s).dict = s.dict := rfl
@[simp] theorem modColl_trv (f : Colls → Colls) : (modColl f s).trv = s.trv := rfl
@[simp] theorem modColl_func (f : Colls → Colls) (fn₀ : Nat) : func (modColl f s) fn₀ = func s fn₀ := rfl
@[simp] theorem modColl_hport (f : Colls → Colls) (p₀ : Nat) : hport (modColl f s) p₀ = hport s p₀ := rfl
@[simp] theorem modColl_room (f : Colls → Colls) (r₀ : Nat) : room (modColl f s) r₀ = room s r₀ := rfl
@[simp] theorem modColl_roomOf (f : Colls → Colls) (fn₀ : Nat) : roomOf (modColl f s) fn₀ = roomOf s fn₀ := rfl
@[simp] theorem modColl_queue (f : Colls → Colls) (fn₀ q₀ : Nat) : queue (modColl f s) fn₀ q₀ = queue s fn₀ q₀ := rfl
@[simp] theorem modColl_qp (f : Colls → Colls) (n₀ : Nat) : qp (modColl f s) n₀ = qp s n₀ := rfl
@[simp] theorem modColl_fport (f : Colls → Colls) (p₀ : Nat) : fport (modColl f s) p₀ = fport s p₀ := rfl

/-! ## modMember -/

@[simp] theorem modMember_pending (id : Nat) (f : Member → Member) : (modMember id f s).pending = s.pending := rfl
@[simp] theorem modMember_out (id : Nat) (f : Member → Member) : (modMember id f s).out = s.out := rfl
@[simp] theorem modMember_free (id : Nat) (f : Member → Member) : (modMember id f s).free = s.free := rfl
@[simp] theorem modMember_regs (id : Nat) (f : Member → Member) : (modMember id f s).regs = s.regs := rfl
@[simp] theorem modMember_eff (id : Nat) (f : Member → Member) : (modMember id f s).eff = s.eff := rfl
@[simp] theorem modMember_bufs (id : Nat) (f : Member → Member) : (modMember id f s).bufs = s.bufs := rfl
@[simp] theorem modMember_events (id : Nat) (f : Member → Member) : (modMember id f s).events = s.events := rfl
@[simp] theorem modMember_cnt (id : Nat) (f : Member → Member) : (modMember id f s).cnt = s.cnt := rfl
@[simp] theorem modMember_snap (id : Nat) (f : Member → Member) : (modMember id f s).snap = s.snap := rfl
@[simp] theorem modMember_arms (id : Nat) (f : Member → Member) : (modMember id f s).arms = s.arms := rfl
@[simp] theorem modMember_objs (id : Nat) (f : Member → Member) : (modMember id f s).objs = s.objs := rfl
@[simp] theorem modMember_objNow (id : Nat) (f : Member → Member) : (modMember id f s).objNow = s.objNow := rfl
@[simp] theorem modMember_tide (id : Nat) (f : Member → Member) : (modMember id f s).tide = s.tide := rfl
@[simp] theorem modMember_hports (id : Nat) (f : Member → Member) : (modMember id f s).hports = s.hports := rfl
@[simp] theorem modMember_funcs (id : Nat) (f : Member → Member) : (modMember id f s).funcs = s.funcs := rfl
@[simp] theorem modMember_hmem (id : Nat) (f : Member → Member) : (modMember id f s).hmem = s.hmem := rfl
@[simp] theorem modMember_hpoison (id : Nat) (f : Member → Member) : (modMember id f s).hpoison = s.hpoison := rfl
@[simp] theorem modMember_mem (id : Nat) (f : Member → Member) : (modMember id f s).mem = s.mem := rfl
@[simp] theorem modMember_mapLines (id : Nat) (f : Member → Member) : (modMember id f s).mapLines = s.mapLines := rfl
@[simp] theorem modMember_ds (id : Nat) (f : Member → Member) : (modMember id f s).ds = s.ds := rfl
@[simp] theorem modMember_tcache (id : Nat) (f : Member → Member) : (modMember id f s).tcache = s.tcache := rfl
@[simp] theorem modMember_ats (id : Nat) (f : Member → Member) : (modMember id f s).ats = s.ats := rfl
@[simp] theorem modMember_invals (id : Nat) (f : Member → Member) : (modMember id f s).invals = s.invals := rfl
@[simp] theorem modMember_windows (id : Nat) (f : Member → Member) : (modMember id f s).windows = s.windows := rfl
@[simp] theorem modMember_winNext (id : Nat) (f : Member → Member) : (modMember id f s).winNext = s.winNext := rfl
@[simp] theorem modMember_winFreed (id : Nat) (f : Member → Member) : (modMember id f s).winFreed = s.winFreed := rfl
@[simp] theorem modMember_queues (id : Nat) (f : Member → Member) : (modMember id f s).queues = s.queues := rfl
@[simp] theorem modMember_lists (id : Nat) (f : Member → Member) : (modMember id f s).lists = s.lists := rfl
@[simp] theorem modMember_rrRoom (id : Nat) (f : Member → Member) : (modMember id f s).rrRoom = s.rrRoom := rfl
@[simp] theorem modMember_rrQueue (id : Nat) (f : Member → Member) : (modMember id f s).rrQueue = s.rrQueue := rfl
@[simp] theorem modMember_tilesHalted (id : Nat) (f : Member → Member) : (modMember id f s).tilesHalted = s.tilesHalted := rfl
@[simp] theorem modMember_seawalls (id : Nat) (f : Member → Member) : (modMember id f s).seawalls = s.seawalls := rfl
@[simp] theorem modMember_nextSeawall (id : Nat) (f : Member → Member) : (modMember id f s).nextSeawall = s.nextSeawall := rfl
@[simp] theorem modMember_qps (id : Nat) (f : Member → Member) : (modMember id f s).qps = s.qps := rfl
@[simp] theorem modMember_porch (id : Nat) (f : Member → Member) : (modMember id f s).porch = s.porch := rfl
@[simp] theorem modMember_hot (id : Nat) (f : Member → Member) : (modMember id f s).hot = s.hot := rfl
@[simp] theorem modMember_warm (id : Nat) (f : Member → Member) : (modMember id f s).warm = s.warm := rfl
@[simp] theorem modMember_rooms (id : Nat) (f : Member → Member) : (modMember id f s).rooms = s.rooms := rfl
@[simp] theorem modMember_errs (id : Nat) (f : Member → Member) : (modMember id f s).errs = s.errs := rfl
@[simp] theorem modMember_fports (id : Nat) (f : Member → Member) : (modMember id f s).fports = s.fports := rfl
@[simp] theorem modMember_router (id : Nat) (f : Member → Member) : (modMember id f s).router = s.router := rfl
@[simp] theorem modMember_heldPkts (id : Nat) (f : Member → Member) : (modMember id f s).heldPkts = s.heldPkts := rfl
@[simp] theorem modMember_ethResult (id : Nat) (f : Member → Member) : (modMember id f s).ethResult = s.ethResult := rfl
@[simp] theorem modMember_tokens (id : Nat) (f : Member → Member) : (modMember id f s).tokens = s.tokens := rfl
@[simp] theorem modMember_tokenFrac (id : Nat) (f : Member → Member) : (modMember id f s).tokenFrac = s.tokenFrac := rfl
@[simp] theorem modMember_sealing (id : Nat) (f : Member → Member) : (modMember id f s).sealing = s.sealing := rfl
@[simp] theorem modMember_doms (id : Nat) (f : Member → Member) : (modMember id f s).doms = s.doms := rfl
@[simp] theorem modMember_lanes (id : Nat) (f : Member → Member) : (modMember id f s).lanes = s.lanes := rfl
@[simp] theorem modMember_lasers (id : Nat) (f : Member → Member) : (modMember id f s).lasers = s.lasers := rfl
@[simp] theorem modMember_laserEn (id : Nat) (f : Member → Member) : (modMember id f s).laserEn = s.laserEn := rfl
@[simp] theorem modMember_peTemp (id : Nat) (f : Member → Member) : (modMember id f s).peTemp = s.peTemp := rfl
@[simp] theorem modMember_power (id : Nat) (f : Member → Member) : (modMember id f s).power = s.power := rfl
@[simp] theorem modMember_dict (id : Nat) (f : Member → Member) : (modMember id f s).dict = s.dict := rfl
@[simp] theorem modMember_trv (id : Nat) (f : Member → Member) : (modMember id f s).trv = s.trv := rfl
@[simp] theorem modMember_func (id : Nat) (f : Member → Member) (fn₀ : Nat) : func (modMember id f s) fn₀ = func s fn₀ := rfl
@[simp] theorem modMember_hport (id : Nat) (f : Member → Member) (p₀ : Nat) : hport (modMember id f s) p₀ = hport s p₀ := rfl
@[simp] theorem modMember_room (id : Nat) (f : Member → Member) (r₀ : Nat) : room (modMember id f s) r₀ = room s r₀ := rfl
@[simp] theorem modMember_roomOf (id : Nat) (f : Member → Member) (fn₀ : Nat) : roomOf (modMember id f s) fn₀ = roomOf s fn₀ := rfl
@[simp] theorem modMember_queue (id : Nat) (f : Member → Member) (fn₀ q₀ : Nat) : queue (modMember id f s) fn₀ q₀ = queue s fn₀ q₀ := rfl
@[simp] theorem modMember_qp (id : Nat) (f : Member → Member) (n₀ : Nat) : qp (modMember id f s) n₀ = qp s n₀ := rfl
@[simp] theorem modMember_fport (id : Nat) (f : Member → Member) (p₀ : Nat) : fport (modMember id f s) p₀ = fport s p₀ := rfl

/-! ## setNode -/

@[simp] theorem setNode_pending (n : CNode) : (setNode n s).pending = s.pending := rfl
@[simp] theorem setNode_out (n : CNode) : (setNode n s).out = s.out := rfl
@[simp] theorem setNode_free (n : CNode) : (setNode n s).free = s.free := rfl
@[simp] theorem setNode_regs (n : CNode) : (setNode n s).regs = s.regs := rfl
@[simp] theorem setNode_eff (n : CNode) : (setNode n s).eff = s.eff := rfl
@[simp] theorem setNode_bufs (n : CNode) : (setNode n s).bufs = s.bufs := rfl
@[simp] theorem setNode_events (n : CNode) : (setNode n s).events = s.events := rfl
@[simp] theorem setNode_cnt (n : CNode) : (setNode n s).cnt = s.cnt := rfl
@[simp] theorem setNode_snap (n : CNode) : (setNode n s).snap = s.snap := rfl
@[simp] theorem setNode_arms (n : CNode) : (setNode n s).arms = s.arms := rfl
@[simp] theorem setNode_objs (n : CNode) : (setNode n s).objs = s.objs := rfl
@[simp] theorem setNode_objNow (n : CNode) : (setNode n s).objNow = s.objNow := rfl
@[simp] theorem setNode_tide (n : CNode) : (setNode n s).tide = s.tide := rfl
@[simp] theorem setNode_hports (n : CNode) : (setNode n s).hports = s.hports := rfl
@[simp] theorem setNode_funcs (n : CNode) : (setNode n s).funcs = s.funcs := rfl
@[simp] theorem setNode_hmem (n : CNode) : (setNode n s).hmem = s.hmem := rfl
@[simp] theorem setNode_hpoison (n : CNode) : (setNode n s).hpoison = s.hpoison := rfl
@[simp] theorem setNode_mem (n : CNode) : (setNode n s).mem = s.mem := rfl
@[simp] theorem setNode_mapLines (n : CNode) : (setNode n s).mapLines = s.mapLines := rfl
@[simp] theorem setNode_ds (n : CNode) : (setNode n s).ds = s.ds := rfl
@[simp] theorem setNode_tcache (n : CNode) : (setNode n s).tcache = s.tcache := rfl
@[simp] theorem setNode_ats (n : CNode) : (setNode n s).ats = s.ats := rfl
@[simp] theorem setNode_invals (n : CNode) : (setNode n s).invals = s.invals := rfl
@[simp] theorem setNode_windows (n : CNode) : (setNode n s).windows = s.windows := rfl
@[simp] theorem setNode_winNext (n : CNode) : (setNode n s).winNext = s.winNext := rfl
@[simp] theorem setNode_winFreed (n : CNode) : (setNode n s).winFreed = s.winFreed := rfl
@[simp] theorem setNode_queues (n : CNode) : (setNode n s).queues = s.queues := rfl
@[simp] theorem setNode_lists (n : CNode) : (setNode n s).lists = s.lists := rfl
@[simp] theorem setNode_rrRoom (n : CNode) : (setNode n s).rrRoom = s.rrRoom := rfl
@[simp] theorem setNode_rrQueue (n : CNode) : (setNode n s).rrQueue = s.rrQueue := rfl
@[simp] theorem setNode_tilesHalted (n : CNode) : (setNode n s).tilesHalted = s.tilesHalted := rfl
@[simp] theorem setNode_seawalls (n : CNode) : (setNode n s).seawalls = s.seawalls := rfl
@[simp] theorem setNode_nextSeawall (n : CNode) : (setNode n s).nextSeawall = s.nextSeawall := rfl
@[simp] theorem setNode_qps (n : CNode) : (setNode n s).qps = s.qps := rfl
@[simp] theorem setNode_porch (n : CNode) : (setNode n s).porch = s.porch := rfl
@[simp] theorem setNode_hot (n : CNode) : (setNode n s).hot = s.hot := rfl
@[simp] theorem setNode_warm (n : CNode) : (setNode n s).warm = s.warm := rfl
@[simp] theorem setNode_rooms (n : CNode) : (setNode n s).rooms = s.rooms := rfl
@[simp] theorem setNode_errs (n : CNode) : (setNode n s).errs = s.errs := rfl
@[simp] theorem setNode_fports (n : CNode) : (setNode n s).fports = s.fports := rfl
@[simp] theorem setNode_router (n : CNode) : (setNode n s).router = s.router := rfl
@[simp] theorem setNode_heldPkts (n : CNode) : (setNode n s).heldPkts = s.heldPkts := rfl
@[simp] theorem setNode_ethResult (n : CNode) : (setNode n s).ethResult = s.ethResult := rfl
@[simp] theorem setNode_tokens (n : CNode) : (setNode n s).tokens = s.tokens := rfl
@[simp] theorem setNode_tokenFrac (n : CNode) : (setNode n s).tokenFrac = s.tokenFrac := rfl
@[simp] theorem setNode_sealing (n : CNode) : (setNode n s).sealing = s.sealing := rfl
@[simp] theorem setNode_doms (n : CNode) : (setNode n s).doms = s.doms := rfl
@[simp] theorem setNode_lanes (n : CNode) : (setNode n s).lanes = s.lanes := rfl
@[simp] theorem setNode_lasers (n : CNode) : (setNode n s).lasers = s.lasers := rfl
@[simp] theorem setNode_laserEn (n : CNode) : (setNode n s).laserEn = s.laserEn := rfl
@[simp] theorem setNode_peTemp (n : CNode) : (setNode n s).peTemp = s.peTemp := rfl
@[simp] theorem setNode_power (n : CNode) : (setNode n s).power = s.power := rfl
@[simp] theorem setNode_dict (n : CNode) : (setNode n s).dict = s.dict := rfl
@[simp] theorem setNode_trv (n : CNode) : (setNode n s).trv = s.trv := rfl
@[simp] theorem setNode_func (n : CNode) (fn₀ : Nat) : func (setNode n s) fn₀ = func s fn₀ := rfl
@[simp] theorem setNode_hport (n : CNode) (p₀ : Nat) : hport (setNode n s) p₀ = hport s p₀ := rfl
@[simp] theorem setNode_room (n : CNode) (r₀ : Nat) : room (setNode n s) r₀ = room s r₀ := rfl
@[simp] theorem setNode_roomOf (n : CNode) (fn₀ : Nat) : roomOf (setNode n s) fn₀ = roomOf s fn₀ := rfl
@[simp] theorem setNode_queue (n : CNode) (fn₀ q₀ : Nat) : queue (setNode n s) fn₀ q₀ = queue s fn₀ q₀ := rfl
@[simp] theorem setNode_qp (n : CNode) (n₀ : Nat) : qp (setNode n s) n₀ = qp s n₀ := rfl
@[simp] theorem setNode_fport (n : CNode) (p₀ : Nat) : fport (setNode n s) p₀ = fport s p₀ := rfl

/-! ## setRound -/

@[simp] theorem setRound_pending (r : Round) : (setRound r s).pending = s.pending := rfl
@[simp] theorem setRound_out (r : Round) : (setRound r s).out = s.out := rfl
@[simp] theorem setRound_free (r : Round) : (setRound r s).free = s.free := rfl
@[simp] theorem setRound_regs (r : Round) : (setRound r s).regs = s.regs := rfl
@[simp] theorem setRound_eff (r : Round) : (setRound r s).eff = s.eff := rfl
@[simp] theorem setRound_bufs (r : Round) : (setRound r s).bufs = s.bufs := rfl
@[simp] theorem setRound_events (r : Round) : (setRound r s).events = s.events := rfl
@[simp] theorem setRound_cnt (r : Round) : (setRound r s).cnt = s.cnt := rfl
@[simp] theorem setRound_snap (r : Round) : (setRound r s).snap = s.snap := rfl
@[simp] theorem setRound_arms (r : Round) : (setRound r s).arms = s.arms := rfl
@[simp] theorem setRound_objs (r : Round) : (setRound r s).objs = s.objs := rfl
@[simp] theorem setRound_objNow (r : Round) : (setRound r s).objNow = s.objNow := rfl
@[simp] theorem setRound_tide (r : Round) : (setRound r s).tide = s.tide := rfl
@[simp] theorem setRound_hports (r : Round) : (setRound r s).hports = s.hports := rfl
@[simp] theorem setRound_funcs (r : Round) : (setRound r s).funcs = s.funcs := rfl
@[simp] theorem setRound_hmem (r : Round) : (setRound r s).hmem = s.hmem := rfl
@[simp] theorem setRound_hpoison (r : Round) : (setRound r s).hpoison = s.hpoison := rfl
@[simp] theorem setRound_mem (r : Round) : (setRound r s).mem = s.mem := rfl
@[simp] theorem setRound_mapLines (r : Round) : (setRound r s).mapLines = s.mapLines := rfl
@[simp] theorem setRound_ds (r : Round) : (setRound r s).ds = s.ds := rfl
@[simp] theorem setRound_tcache (r : Round) : (setRound r s).tcache = s.tcache := rfl
@[simp] theorem setRound_ats (r : Round) : (setRound r s).ats = s.ats := rfl
@[simp] theorem setRound_invals (r : Round) : (setRound r s).invals = s.invals := rfl
@[simp] theorem setRound_windows (r : Round) : (setRound r s).windows = s.windows := rfl
@[simp] theorem setRound_winNext (r : Round) : (setRound r s).winNext = s.winNext := rfl
@[simp] theorem setRound_winFreed (r : Round) : (setRound r s).winFreed = s.winFreed := rfl
@[simp] theorem setRound_queues (r : Round) : (setRound r s).queues = s.queues := rfl
@[simp] theorem setRound_lists (r : Round) : (setRound r s).lists = s.lists := rfl
@[simp] theorem setRound_rrRoom (r : Round) : (setRound r s).rrRoom = s.rrRoom := rfl
@[simp] theorem setRound_rrQueue (r : Round) : (setRound r s).rrQueue = s.rrQueue := rfl
@[simp] theorem setRound_tilesHalted (r : Round) : (setRound r s).tilesHalted = s.tilesHalted := rfl
@[simp] theorem setRound_seawalls (r : Round) : (setRound r s).seawalls = s.seawalls := rfl
@[simp] theorem setRound_nextSeawall (r : Round) : (setRound r s).nextSeawall = s.nextSeawall := rfl
@[simp] theorem setRound_qps (r : Round) : (setRound r s).qps = s.qps := rfl
@[simp] theorem setRound_porch (r : Round) : (setRound r s).porch = s.porch := rfl
@[simp] theorem setRound_hot (r : Round) : (setRound r s).hot = s.hot := rfl
@[simp] theorem setRound_warm (r : Round) : (setRound r s).warm = s.warm := rfl
@[simp] theorem setRound_rooms (r : Round) : (setRound r s).rooms = s.rooms := rfl
@[simp] theorem setRound_errs (r : Round) : (setRound r s).errs = s.errs := rfl
@[simp] theorem setRound_fports (r : Round) : (setRound r s).fports = s.fports := rfl
@[simp] theorem setRound_router (r : Round) : (setRound r s).router = s.router := rfl
@[simp] theorem setRound_heldPkts (r : Round) : (setRound r s).heldPkts = s.heldPkts := rfl
@[simp] theorem setRound_ethResult (r : Round) : (setRound r s).ethResult = s.ethResult := rfl
@[simp] theorem setRound_tokens (r : Round) : (setRound r s).tokens = s.tokens := rfl
@[simp] theorem setRound_tokenFrac (r : Round) : (setRound r s).tokenFrac = s.tokenFrac := rfl
@[simp] theorem setRound_sealing (r : Round) : (setRound r s).sealing = s.sealing := rfl
@[simp] theorem setRound_doms (r : Round) : (setRound r s).doms = s.doms := rfl
@[simp] theorem setRound_lanes (r : Round) : (setRound r s).lanes = s.lanes := rfl
@[simp] theorem setRound_lasers (r : Round) : (setRound r s).lasers = s.lasers := rfl
@[simp] theorem setRound_laserEn (r : Round) : (setRound r s).laserEn = s.laserEn := rfl
@[simp] theorem setRound_peTemp (r : Round) : (setRound r s).peTemp = s.peTemp := rfl
@[simp] theorem setRound_power (r : Round) : (setRound r s).power = s.power := rfl
@[simp] theorem setRound_dict (r : Round) : (setRound r s).dict = s.dict := rfl
@[simp] theorem setRound_trv (r : Round) : (setRound r s).trv = s.trv := rfl
@[simp] theorem setRound_func (r : Round) (fn₀ : Nat) : func (setRound r s) fn₀ = func s fn₀ := rfl
@[simp] theorem setRound_hport (r : Round) (p₀ : Nat) : hport (setRound r s) p₀ = hport s p₀ := rfl
@[simp] theorem setRound_room (r : Round) (r₀ : Nat) : room (setRound r s) r₀ = room s r₀ := rfl
@[simp] theorem setRound_roomOf (r : Round) (fn₀ : Nat) : roomOf (setRound r s) fn₀ = roomOf s fn₀ := rfl
@[simp] theorem setRound_queue (r : Round) (fn₀ q₀ : Nat) : queue (setRound r s) fn₀ q₀ = queue s fn₀ q₀ := rfl
@[simp] theorem setRound_qp (r : Round) (n₀ : Nat) : qp (setRound r s) n₀ = qp s n₀ := rfl
@[simp] theorem setRound_fport (r : Round) (p₀ : Nat) : fport (setRound r s) p₀ = fport s p₀ := rfl

/-! ## modDict -/

@[simp] theorem modDict_pending (f : Dict → Dict) : (modDict f s).pending = s.pending := rfl
@[simp] theorem modDict_out (f : Dict → Dict) : (modDict f s).out = s.out := rfl
@[simp] theorem modDict_free (f : Dict → Dict) : (modDict f s).free = s.free := rfl
@[simp] theorem modDict_regs (f : Dict → Dict) : (modDict f s).regs = s.regs := rfl
@[simp] theorem modDict_eff (f : Dict → Dict) : (modDict f s).eff = s.eff := rfl
@[simp] theorem modDict_bufs (f : Dict → Dict) : (modDict f s).bufs = s.bufs := rfl
@[simp] theorem modDict_events (f : Dict → Dict) : (modDict f s).events = s.events := rfl
@[simp] theorem modDict_cnt (f : Dict → Dict) : (modDict f s).cnt = s.cnt := rfl
@[simp] theorem modDict_snap (f : Dict → Dict) : (modDict f s).snap = s.snap := rfl
@[simp] theorem modDict_arms (f : Dict → Dict) : (modDict f s).arms = s.arms := rfl
@[simp] theorem modDict_objs (f : Dict → Dict) : (modDict f s).objs = s.objs := rfl
@[simp] theorem modDict_objNow (f : Dict → Dict) : (modDict f s).objNow = s.objNow := rfl
@[simp] theorem modDict_tide (f : Dict → Dict) : (modDict f s).tide = s.tide := rfl
@[simp] theorem modDict_hports (f : Dict → Dict) : (modDict f s).hports = s.hports := rfl
@[simp] theorem modDict_funcs (f : Dict → Dict) : (modDict f s).funcs = s.funcs := rfl
@[simp] theorem modDict_hmem (f : Dict → Dict) : (modDict f s).hmem = s.hmem := rfl
@[simp] theorem modDict_hpoison (f : Dict → Dict) : (modDict f s).hpoison = s.hpoison := rfl
@[simp] theorem modDict_mem (f : Dict → Dict) : (modDict f s).mem = s.mem := rfl
@[simp] theorem modDict_mapLines (f : Dict → Dict) : (modDict f s).mapLines = s.mapLines := rfl
@[simp] theorem modDict_ds (f : Dict → Dict) : (modDict f s).ds = s.ds := rfl
@[simp] theorem modDict_tcache (f : Dict → Dict) : (modDict f s).tcache = s.tcache := rfl
@[simp] theorem modDict_ats (f : Dict → Dict) : (modDict f s).ats = s.ats := rfl
@[simp] theorem modDict_invals (f : Dict → Dict) : (modDict f s).invals = s.invals := rfl
@[simp] theorem modDict_windows (f : Dict → Dict) : (modDict f s).windows = s.windows := rfl
@[simp] theorem modDict_winNext (f : Dict → Dict) : (modDict f s).winNext = s.winNext := rfl
@[simp] theorem modDict_winFreed (f : Dict → Dict) : (modDict f s).winFreed = s.winFreed := rfl
@[simp] theorem modDict_queues (f : Dict → Dict) : (modDict f s).queues = s.queues := rfl
@[simp] theorem modDict_lists (f : Dict → Dict) : (modDict f s).lists = s.lists := rfl
@[simp] theorem modDict_rrRoom (f : Dict → Dict) : (modDict f s).rrRoom = s.rrRoom := rfl
@[simp] theorem modDict_rrQueue (f : Dict → Dict) : (modDict f s).rrQueue = s.rrQueue := rfl
@[simp] theorem modDict_tilesHalted (f : Dict → Dict) : (modDict f s).tilesHalted = s.tilesHalted := rfl
@[simp] theorem modDict_seawalls (f : Dict → Dict) : (modDict f s).seawalls = s.seawalls := rfl
@[simp] theorem modDict_nextSeawall (f : Dict → Dict) : (modDict f s).nextSeawall = s.nextSeawall := rfl
@[simp] theorem modDict_qps (f : Dict → Dict) : (modDict f s).qps = s.qps := rfl
@[simp] theorem modDict_porch (f : Dict → Dict) : (modDict f s).porch = s.porch := rfl
@[simp] theorem modDict_hot (f : Dict → Dict) : (modDict f s).hot = s.hot := rfl
@[simp] theorem modDict_warm (f : Dict → Dict) : (modDict f s).warm = s.warm := rfl
@[simp] theorem modDict_rooms (f : Dict → Dict) : (modDict f s).rooms = s.rooms := rfl
@[simp] theorem modDict_coll (f : Dict → Dict) : (modDict f s).coll = s.coll := rfl
@[simp] theorem modDict_errs (f : Dict → Dict) : (modDict f s).errs = s.errs := rfl
@[simp] theorem modDict_fports (f : Dict → Dict) : (modDict f s).fports = s.fports := rfl
@[simp] theorem modDict_router (f : Dict → Dict) : (modDict f s).router = s.router := rfl
@[simp] theorem modDict_heldPkts (f : Dict → Dict) : (modDict f s).heldPkts = s.heldPkts := rfl
@[simp] theorem modDict_ethResult (f : Dict → Dict) : (modDict f s).ethResult = s.ethResult := rfl
@[simp] theorem modDict_tokens (f : Dict → Dict) : (modDict f s).tokens = s.tokens := rfl
@[simp] theorem modDict_tokenFrac (f : Dict → Dict) : (modDict f s).tokenFrac = s.tokenFrac := rfl
@[simp] theorem modDict_sealing (f : Dict → Dict) : (modDict f s).sealing = s.sealing := rfl
@[simp] theorem modDict_doms (f : Dict → Dict) : (modDict f s).doms = s.doms := rfl
@[simp] theorem modDict_lanes (f : Dict → Dict) : (modDict f s).lanes = s.lanes := rfl
@[simp] theorem modDict_lasers (f : Dict → Dict) : (modDict f s).lasers = s.lasers := rfl
@[simp] theorem modDict_laserEn (f : Dict → Dict) : (modDict f s).laserEn = s.laserEn := rfl
@[simp] theorem modDict_peTemp (f : Dict → Dict) : (modDict f s).peTemp = s.peTemp := rfl
@[simp] theorem modDict_power (f : Dict → Dict) : (modDict f s).power = s.power := rfl
@[simp] theorem modDict_trv (f : Dict → Dict) : (modDict f s).trv = s.trv := rfl
@[simp] theorem modDict_func (f : Dict → Dict) (fn₀ : Nat) : func (modDict f s) fn₀ = func s fn₀ := rfl
@[simp] theorem modDict_hport (f : Dict → Dict) (p₀ : Nat) : hport (modDict f s) p₀ = hport s p₀ := rfl
@[simp] theorem modDict_room (f : Dict → Dict) (r₀ : Nat) : room (modDict f s) r₀ = room s r₀ := rfl
@[simp] theorem modDict_roomOf (f : Dict → Dict) (fn₀ : Nat) : roomOf (modDict f s) fn₀ = roomOf s fn₀ := rfl
@[simp] theorem modDict_queue (f : Dict → Dict) (fn₀ q₀ : Nat) : queue (modDict f s) fn₀ q₀ = queue s fn₀ q₀ := rfl
@[simp] theorem modDict_qp (f : Dict → Dict) (n₀ : Nat) : qp (modDict f s) n₀ = qp s n₀ := rfl
@[simp] theorem modDict_fport (f : Dict → Dict) (p₀ : Nat) : fport (modDict f s) p₀ = fport s p₀ := rfl

/-! ## modLane -/

@[simp] theorem modLane_pending (p l : Nat) (f : Lane → Lane) : (modLane p l f s).pending = s.pending := rfl
@[simp] theorem modLane_out (p l : Nat) (f : Lane → Lane) : (modLane p l f s).out = s.out := rfl
@[simp] theorem modLane_free (p l : Nat) (f : Lane → Lane) : (modLane p l f s).free = s.free := rfl
@[simp] theorem modLane_regs (p l : Nat) (f : Lane → Lane) : (modLane p l f s).regs = s.regs := rfl
@[simp] theorem modLane_eff (p l : Nat) (f : Lane → Lane) : (modLane p l f s).eff = s.eff := rfl
@[simp] theorem modLane_bufs (p l : Nat) (f : Lane → Lane) : (modLane p l f s).bufs = s.bufs := rfl
@[simp] theorem modLane_events (p l : Nat) (f : Lane → Lane) : (modLane p l f s).events = s.events := rfl
@[simp] theorem modLane_cnt (p l : Nat) (f : Lane → Lane) : (modLane p l f s).cnt = s.cnt := rfl
@[simp] theorem modLane_snap (p l : Nat) (f : Lane → Lane) : (modLane p l f s).snap = s.snap := rfl
@[simp] theorem modLane_arms (p l : Nat) (f : Lane → Lane) : (modLane p l f s).arms = s.arms := rfl
@[simp] theorem modLane_objs (p l : Nat) (f : Lane → Lane) : (modLane p l f s).objs = s.objs := rfl
@[simp] theorem modLane_objNow (p l : Nat) (f : Lane → Lane) : (modLane p l f s).objNow = s.objNow := rfl
@[simp] theorem modLane_tide (p l : Nat) (f : Lane → Lane) : (modLane p l f s).tide = s.tide := rfl
@[simp] theorem modLane_hports (p l : Nat) (f : Lane → Lane) : (modLane p l f s).hports = s.hports := rfl
@[simp] theorem modLane_funcs (p l : Nat) (f : Lane → Lane) : (modLane p l f s).funcs = s.funcs := rfl
@[simp] theorem modLane_hmem (p l : Nat) (f : Lane → Lane) : (modLane p l f s).hmem = s.hmem := rfl
@[simp] theorem modLane_hpoison (p l : Nat) (f : Lane → Lane) : (modLane p l f s).hpoison = s.hpoison := rfl
@[simp] theorem modLane_mem (p l : Nat) (f : Lane → Lane) : (modLane p l f s).mem = s.mem := rfl
@[simp] theorem modLane_mapLines (p l : Nat) (f : Lane → Lane) : (modLane p l f s).mapLines = s.mapLines := rfl
@[simp] theorem modLane_ds (p l : Nat) (f : Lane → Lane) : (modLane p l f s).ds = s.ds := rfl
@[simp] theorem modLane_tcache (p l : Nat) (f : Lane → Lane) : (modLane p l f s).tcache = s.tcache := rfl
@[simp] theorem modLane_ats (p l : Nat) (f : Lane → Lane) : (modLane p l f s).ats = s.ats := rfl
@[simp] theorem modLane_invals (p l : Nat) (f : Lane → Lane) : (modLane p l f s).invals = s.invals := rfl
@[simp] theorem modLane_windows (p l : Nat) (f : Lane → Lane) : (modLane p l f s).windows = s.windows := rfl
@[simp] theorem modLane_winNext (p l : Nat) (f : Lane → Lane) : (modLane p l f s).winNext = s.winNext := rfl
@[simp] theorem modLane_winFreed (p l : Nat) (f : Lane → Lane) : (modLane p l f s).winFreed = s.winFreed := rfl
@[simp] theorem modLane_queues (p l : Nat) (f : Lane → Lane) : (modLane p l f s).queues = s.queues := rfl
@[simp] theorem modLane_lists (p l : Nat) (f : Lane → Lane) : (modLane p l f s).lists = s.lists := rfl
@[simp] theorem modLane_rrRoom (p l : Nat) (f : Lane → Lane) : (modLane p l f s).rrRoom = s.rrRoom := rfl
@[simp] theorem modLane_rrQueue (p l : Nat) (f : Lane → Lane) : (modLane p l f s).rrQueue = s.rrQueue := rfl
@[simp] theorem modLane_tilesHalted (p l : Nat) (f : Lane → Lane) : (modLane p l f s).tilesHalted = s.tilesHalted := rfl
@[simp] theorem modLane_seawalls (p l : Nat) (f : Lane → Lane) : (modLane p l f s).seawalls = s.seawalls := rfl
@[simp] theorem modLane_nextSeawall (p l : Nat) (f : Lane → Lane) : (modLane p l f s).nextSeawall = s.nextSeawall := rfl
@[simp] theorem modLane_qps (p l : Nat) (f : Lane → Lane) : (modLane p l f s).qps = s.qps := rfl
@[simp] theorem modLane_porch (p l : Nat) (f : Lane → Lane) : (modLane p l f s).porch = s.porch := rfl
@[simp] theorem modLane_hot (p l : Nat) (f : Lane → Lane) : (modLane p l f s).hot = s.hot := rfl
@[simp] theorem modLane_warm (p l : Nat) (f : Lane → Lane) : (modLane p l f s).warm = s.warm := rfl
@[simp] theorem modLane_rooms (p l : Nat) (f : Lane → Lane) : (modLane p l f s).rooms = s.rooms := rfl
@[simp] theorem modLane_coll (p l : Nat) (f : Lane → Lane) : (modLane p l f s).coll = s.coll := rfl
@[simp] theorem modLane_errs (p l : Nat) (f : Lane → Lane) : (modLane p l f s).errs = s.errs := rfl
@[simp] theorem modLane_fports (p l : Nat) (f : Lane → Lane) : (modLane p l f s).fports = s.fports := rfl
@[simp] theorem modLane_router (p l : Nat) (f : Lane → Lane) : (modLane p l f s).router = s.router := rfl
@[simp] theorem modLane_heldPkts (p l : Nat) (f : Lane → Lane) : (modLane p l f s).heldPkts = s.heldPkts := rfl
@[simp] theorem modLane_ethResult (p l : Nat) (f : Lane → Lane) : (modLane p l f s).ethResult = s.ethResult := rfl
@[simp] theorem modLane_tokens (p l : Nat) (f : Lane → Lane) : (modLane p l f s).tokens = s.tokens := rfl
@[simp] theorem modLane_tokenFrac (p l : Nat) (f : Lane → Lane) : (modLane p l f s).tokenFrac = s.tokenFrac := rfl
@[simp] theorem modLane_sealing (p l : Nat) (f : Lane → Lane) : (modLane p l f s).sealing = s.sealing := rfl
@[simp] theorem modLane_doms (p l : Nat) (f : Lane → Lane) : (modLane p l f s).doms = s.doms := rfl
@[simp] theorem modLane_lasers (p l : Nat) (f : Lane → Lane) : (modLane p l f s).lasers = s.lasers := rfl
@[simp] theorem modLane_laserEn (p l : Nat) (f : Lane → Lane) : (modLane p l f s).laserEn = s.laserEn := rfl
@[simp] theorem modLane_peTemp (p l : Nat) (f : Lane → Lane) : (modLane p l f s).peTemp = s.peTemp := rfl
@[simp] theorem modLane_power (p l : Nat) (f : Lane → Lane) : (modLane p l f s).power = s.power := rfl
@[simp] theorem modLane_dict (p l : Nat) (f : Lane → Lane) : (modLane p l f s).dict = s.dict := rfl
@[simp] theorem modLane_trv (p l : Nat) (f : Lane → Lane) : (modLane p l f s).trv = s.trv := rfl
@[simp] theorem modLane_func (p l : Nat) (f : Lane → Lane) (fn₀ : Nat) : func (modLane p l f s) fn₀ = func s fn₀ := rfl
@[simp] theorem modLane_hport (p l : Nat) (f : Lane → Lane) (p₀ : Nat) : hport (modLane p l f s) p₀ = hport s p₀ := rfl
@[simp] theorem modLane_room (p l : Nat) (f : Lane → Lane) (r₀ : Nat) : room (modLane p l f s) r₀ = room s r₀ := rfl
@[simp] theorem modLane_roomOf (p l : Nat) (f : Lane → Lane) (fn₀ : Nat) : roomOf (modLane p l f s) fn₀ = roomOf s fn₀ := rfl
@[simp] theorem modLane_queue (p l : Nat) (f : Lane → Lane) (fn₀ q₀ : Nat) : queue (modLane p l f s) fn₀ q₀ = queue s fn₀ q₀ := rfl
@[simp] theorem modLane_qp (p l : Nat) (f : Lane → Lane) (n₀ : Nat) : qp (modLane p l f s) n₀ = qp s n₀ := rfl
@[simp] theorem modLane_fport (p l : Nat) (f : Lane → Lane) (p₀ : Nat) : fport (modLane p l f s) p₀ = fport s p₀ := rfl

/-! ## modLaser -/

@[simp] theorem modLaser_pending (u : Nat) (f : Laser → Laser) : (modLaser u f s).pending = s.pending := rfl
@[simp] theorem modLaser_out (u : Nat) (f : Laser → Laser) : (modLaser u f s).out = s.out := rfl
@[simp] theorem modLaser_free (u : Nat) (f : Laser → Laser) : (modLaser u f s).free = s.free := rfl
@[simp] theorem modLaser_regs (u : Nat) (f : Laser → Laser) : (modLaser u f s).regs = s.regs := rfl
@[simp] theorem modLaser_eff (u : Nat) (f : Laser → Laser) : (modLaser u f s).eff = s.eff := rfl
@[simp] theorem modLaser_bufs (u : Nat) (f : Laser → Laser) : (modLaser u f s).bufs = s.bufs := rfl
@[simp] theorem modLaser_events (u : Nat) (f : Laser → Laser) : (modLaser u f s).events = s.events := rfl
@[simp] theorem modLaser_cnt (u : Nat) (f : Laser → Laser) : (modLaser u f s).cnt = s.cnt := rfl
@[simp] theorem modLaser_snap (u : Nat) (f : Laser → Laser) : (modLaser u f s).snap = s.snap := rfl
@[simp] theorem modLaser_arms (u : Nat) (f : Laser → Laser) : (modLaser u f s).arms = s.arms := rfl
@[simp] theorem modLaser_objs (u : Nat) (f : Laser → Laser) : (modLaser u f s).objs = s.objs := rfl
@[simp] theorem modLaser_objNow (u : Nat) (f : Laser → Laser) : (modLaser u f s).objNow = s.objNow := rfl
@[simp] theorem modLaser_tide (u : Nat) (f : Laser → Laser) : (modLaser u f s).tide = s.tide := rfl
@[simp] theorem modLaser_hports (u : Nat) (f : Laser → Laser) : (modLaser u f s).hports = s.hports := rfl
@[simp] theorem modLaser_funcs (u : Nat) (f : Laser → Laser) : (modLaser u f s).funcs = s.funcs := rfl
@[simp] theorem modLaser_hmem (u : Nat) (f : Laser → Laser) : (modLaser u f s).hmem = s.hmem := rfl
@[simp] theorem modLaser_hpoison (u : Nat) (f : Laser → Laser) : (modLaser u f s).hpoison = s.hpoison := rfl
@[simp] theorem modLaser_mem (u : Nat) (f : Laser → Laser) : (modLaser u f s).mem = s.mem := rfl
@[simp] theorem modLaser_mapLines (u : Nat) (f : Laser → Laser) : (modLaser u f s).mapLines = s.mapLines := rfl
@[simp] theorem modLaser_ds (u : Nat) (f : Laser → Laser) : (modLaser u f s).ds = s.ds := rfl
@[simp] theorem modLaser_tcache (u : Nat) (f : Laser → Laser) : (modLaser u f s).tcache = s.tcache := rfl
@[simp] theorem modLaser_ats (u : Nat) (f : Laser → Laser) : (modLaser u f s).ats = s.ats := rfl
@[simp] theorem modLaser_invals (u : Nat) (f : Laser → Laser) : (modLaser u f s).invals = s.invals := rfl
@[simp] theorem modLaser_windows (u : Nat) (f : Laser → Laser) : (modLaser u f s).windows = s.windows := rfl
@[simp] theorem modLaser_winNext (u : Nat) (f : Laser → Laser) : (modLaser u f s).winNext = s.winNext := rfl
@[simp] theorem modLaser_winFreed (u : Nat) (f : Laser → Laser) : (modLaser u f s).winFreed = s.winFreed := rfl
@[simp] theorem modLaser_queues (u : Nat) (f : Laser → Laser) : (modLaser u f s).queues = s.queues := rfl
@[simp] theorem modLaser_lists (u : Nat) (f : Laser → Laser) : (modLaser u f s).lists = s.lists := rfl
@[simp] theorem modLaser_rrRoom (u : Nat) (f : Laser → Laser) : (modLaser u f s).rrRoom = s.rrRoom := rfl
@[simp] theorem modLaser_rrQueue (u : Nat) (f : Laser → Laser) : (modLaser u f s).rrQueue = s.rrQueue := rfl
@[simp] theorem modLaser_tilesHalted (u : Nat) (f : Laser → Laser) : (modLaser u f s).tilesHalted = s.tilesHalted := rfl
@[simp] theorem modLaser_seawalls (u : Nat) (f : Laser → Laser) : (modLaser u f s).seawalls = s.seawalls := rfl
@[simp] theorem modLaser_nextSeawall (u : Nat) (f : Laser → Laser) : (modLaser u f s).nextSeawall = s.nextSeawall := rfl
@[simp] theorem modLaser_qps (u : Nat) (f : Laser → Laser) : (modLaser u f s).qps = s.qps := rfl
@[simp] theorem modLaser_porch (u : Nat) (f : Laser → Laser) : (modLaser u f s).porch = s.porch := rfl
@[simp] theorem modLaser_hot (u : Nat) (f : Laser → Laser) : (modLaser u f s).hot = s.hot := rfl
@[simp] theorem modLaser_warm (u : Nat) (f : Laser → Laser) : (modLaser u f s).warm = s.warm := rfl
@[simp] theorem modLaser_rooms (u : Nat) (f : Laser → Laser) : (modLaser u f s).rooms = s.rooms := rfl
@[simp] theorem modLaser_coll (u : Nat) (f : Laser → Laser) : (modLaser u f s).coll = s.coll := rfl
@[simp] theorem modLaser_errs (u : Nat) (f : Laser → Laser) : (modLaser u f s).errs = s.errs := rfl
@[simp] theorem modLaser_fports (u : Nat) (f : Laser → Laser) : (modLaser u f s).fports = s.fports := rfl
@[simp] theorem modLaser_router (u : Nat) (f : Laser → Laser) : (modLaser u f s).router = s.router := rfl
@[simp] theorem modLaser_heldPkts (u : Nat) (f : Laser → Laser) : (modLaser u f s).heldPkts = s.heldPkts := rfl
@[simp] theorem modLaser_ethResult (u : Nat) (f : Laser → Laser) : (modLaser u f s).ethResult = s.ethResult := rfl
@[simp] theorem modLaser_tokens (u : Nat) (f : Laser → Laser) : (modLaser u f s).tokens = s.tokens := rfl
@[simp] theorem modLaser_tokenFrac (u : Nat) (f : Laser → Laser) : (modLaser u f s).tokenFrac = s.tokenFrac := rfl
@[simp] theorem modLaser_sealing (u : Nat) (f : Laser → Laser) : (modLaser u f s).sealing = s.sealing := rfl
@[simp] theorem modLaser_doms (u : Nat) (f : Laser → Laser) : (modLaser u f s).doms = s.doms := rfl
@[simp] theorem modLaser_lanes (u : Nat) (f : Laser → Laser) : (modLaser u f s).lanes = s.lanes := rfl
@[simp] theorem modLaser_laserEn (u : Nat) (f : Laser → Laser) : (modLaser u f s).laserEn = s.laserEn := rfl
@[simp] theorem modLaser_peTemp (u : Nat) (f : Laser → Laser) : (modLaser u f s).peTemp = s.peTemp := rfl
@[simp] theorem modLaser_power (u : Nat) (f : Laser → Laser) : (modLaser u f s).power = s.power := rfl
@[simp] theorem modLaser_dict (u : Nat) (f : Laser → Laser) : (modLaser u f s).dict = s.dict := rfl
@[simp] theorem modLaser_trv (u : Nat) (f : Laser → Laser) : (modLaser u f s).trv = s.trv := rfl
@[simp] theorem modLaser_func (u : Nat) (f : Laser → Laser) (fn₀ : Nat) : func (modLaser u f s) fn₀ = func s fn₀ := rfl
@[simp] theorem modLaser_hport (u : Nat) (f : Laser → Laser) (p₀ : Nat) : hport (modLaser u f s) p₀ = hport s p₀ := rfl
@[simp] theorem modLaser_room (u : Nat) (f : Laser → Laser) (r₀ : Nat) : room (modLaser u f s) r₀ = room s r₀ := rfl
@[simp] theorem modLaser_roomOf (u : Nat) (f : Laser → Laser) (fn₀ : Nat) : roomOf (modLaser u f s) fn₀ = roomOf s fn₀ := rfl
@[simp] theorem modLaser_queue (u : Nat) (f : Laser → Laser) (fn₀ q₀ : Nat) : queue (modLaser u f s) fn₀ q₀ = queue s fn₀ q₀ := rfl
@[simp] theorem modLaser_qp (u : Nat) (f : Laser → Laser) (n₀ : Nat) : qp (modLaser u f s) n₀ = qp s n₀ := rfl
@[simp] theorem modLaser_fport (u : Nat) (f : Laser → Laser) (p₀ : Nat) : fport (modLaser u f s) p₀ = fport s p₀ := rfl

/-! ## modPower -/

@[simp] theorem modPower_pending (f : Power → Power) : (modPower f s).pending = s.pending := rfl
@[simp] theorem modPower_out (f : Power → Power) : (modPower f s).out = s.out := rfl
@[simp] theorem modPower_free (f : Power → Power) : (modPower f s).free = s.free := rfl
@[simp] theorem modPower_regs (f : Power → Power) : (modPower f s).regs = s.regs := rfl
@[simp] theorem modPower_eff (f : Power → Power) : (modPower f s).eff = s.eff := rfl
@[simp] theorem modPower_bufs (f : Power → Power) : (modPower f s).bufs = s.bufs := rfl
@[simp] theorem modPower_events (f : Power → Power) : (modPower f s).events = s.events := rfl
@[simp] theorem modPower_cnt (f : Power → Power) : (modPower f s).cnt = s.cnt := rfl
@[simp] theorem modPower_snap (f : Power → Power) : (modPower f s).snap = s.snap := rfl
@[simp] theorem modPower_arms (f : Power → Power) : (modPower f s).arms = s.arms := rfl
@[simp] theorem modPower_objs (f : Power → Power) : (modPower f s).objs = s.objs := rfl
@[simp] theorem modPower_objNow (f : Power → Power) : (modPower f s).objNow = s.objNow := rfl
@[simp] theorem modPower_tide (f : Power → Power) : (modPower f s).tide = s.tide := rfl
@[simp] theorem modPower_hports (f : Power → Power) : (modPower f s).hports = s.hports := rfl
@[simp] theorem modPower_funcs (f : Power → Power) : (modPower f s).funcs = s.funcs := rfl
@[simp] theorem modPower_hmem (f : Power → Power) : (modPower f s).hmem = s.hmem := rfl
@[simp] theorem modPower_hpoison (f : Power → Power) : (modPower f s).hpoison = s.hpoison := rfl
@[simp] theorem modPower_mem (f : Power → Power) : (modPower f s).mem = s.mem := rfl
@[simp] theorem modPower_mapLines (f : Power → Power) : (modPower f s).mapLines = s.mapLines := rfl
@[simp] theorem modPower_ds (f : Power → Power) : (modPower f s).ds = s.ds := rfl
@[simp] theorem modPower_tcache (f : Power → Power) : (modPower f s).tcache = s.tcache := rfl
@[simp] theorem modPower_ats (f : Power → Power) : (modPower f s).ats = s.ats := rfl
@[simp] theorem modPower_invals (f : Power → Power) : (modPower f s).invals = s.invals := rfl
@[simp] theorem modPower_windows (f : Power → Power) : (modPower f s).windows = s.windows := rfl
@[simp] theorem modPower_winNext (f : Power → Power) : (modPower f s).winNext = s.winNext := rfl
@[simp] theorem modPower_winFreed (f : Power → Power) : (modPower f s).winFreed = s.winFreed := rfl
@[simp] theorem modPower_queues (f : Power → Power) : (modPower f s).queues = s.queues := rfl
@[simp] theorem modPower_lists (f : Power → Power) : (modPower f s).lists = s.lists := rfl
@[simp] theorem modPower_rrRoom (f : Power → Power) : (modPower f s).rrRoom = s.rrRoom := rfl
@[simp] theorem modPower_rrQueue (f : Power → Power) : (modPower f s).rrQueue = s.rrQueue := rfl
@[simp] theorem modPower_tilesHalted (f : Power → Power) : (modPower f s).tilesHalted = s.tilesHalted := rfl
@[simp] theorem modPower_seawalls (f : Power → Power) : (modPower f s).seawalls = s.seawalls := rfl
@[simp] theorem modPower_nextSeawall (f : Power → Power) : (modPower f s).nextSeawall = s.nextSeawall := rfl
@[simp] theorem modPower_qps (f : Power → Power) : (modPower f s).qps = s.qps := rfl
@[simp] theorem modPower_porch (f : Power → Power) : (modPower f s).porch = s.porch := rfl
@[simp] theorem modPower_hot (f : Power → Power) : (modPower f s).hot = s.hot := rfl
@[simp] theorem modPower_warm (f : Power → Power) : (modPower f s).warm = s.warm := rfl
@[simp] theorem modPower_rooms (f : Power → Power) : (modPower f s).rooms = s.rooms := rfl
@[simp] theorem modPower_coll (f : Power → Power) : (modPower f s).coll = s.coll := rfl
@[simp] theorem modPower_errs (f : Power → Power) : (modPower f s).errs = s.errs := rfl
@[simp] theorem modPower_fports (f : Power → Power) : (modPower f s).fports = s.fports := rfl
@[simp] theorem modPower_router (f : Power → Power) : (modPower f s).router = s.router := rfl
@[simp] theorem modPower_heldPkts (f : Power → Power) : (modPower f s).heldPkts = s.heldPkts := rfl
@[simp] theorem modPower_ethResult (f : Power → Power) : (modPower f s).ethResult = s.ethResult := rfl
@[simp] theorem modPower_tokens (f : Power → Power) : (modPower f s).tokens = s.tokens := rfl
@[simp] theorem modPower_tokenFrac (f : Power → Power) : (modPower f s).tokenFrac = s.tokenFrac := rfl
@[simp] theorem modPower_sealing (f : Power → Power) : (modPower f s).sealing = s.sealing := rfl
@[simp] theorem modPower_doms (f : Power → Power) : (modPower f s).doms = s.doms := rfl
@[simp] theorem modPower_lanes (f : Power → Power) : (modPower f s).lanes = s.lanes := rfl
@[simp] theorem modPower_lasers (f : Power → Power) : (modPower f s).lasers = s.lasers := rfl
@[simp] theorem modPower_laserEn (f : Power → Power) : (modPower f s).laserEn = s.laserEn := rfl
@[simp] theorem modPower_peTemp (f : Power → Power) : (modPower f s).peTemp = s.peTemp := rfl
@[simp] theorem modPower_dict (f : Power → Power) : (modPower f s).dict = s.dict := rfl
@[simp] theorem modPower_trv (f : Power → Power) : (modPower f s).trv = s.trv := rfl
@[simp] theorem modPower_func (f : Power → Power) (fn₀ : Nat) : func (modPower f s) fn₀ = func s fn₀ := rfl
@[simp] theorem modPower_hport (f : Power → Power) (p₀ : Nat) : hport (modPower f s) p₀ = hport s p₀ := rfl
@[simp] theorem modPower_room (f : Power → Power) (r₀ : Nat) : room (modPower f s) r₀ = room s r₀ := rfl
@[simp] theorem modPower_roomOf (f : Power → Power) (fn₀ : Nat) : roomOf (modPower f s) fn₀ = roomOf s fn₀ := rfl
@[simp] theorem modPower_queue (f : Power → Power) (fn₀ q₀ : Nat) : queue (modPower f s) fn₀ q₀ = queue s fn₀ q₀ := rfl
@[simp] theorem modPower_qp (f : Power → Power) (n₀ : Nat) : qp (modPower f s) n₀ = qp s n₀ := rfl
@[simp] theorem modPower_fport (f : Power → Power) (p₀ : Nat) : fport (modPower f s) p₀ = fport s p₀ := rfl

/-! ## modDom -/

@[simp] theorem modDom_pending (d : Nat) (f : Dom → Dom) : (modDom d f s).pending = s.pending := rfl
@[simp] theorem modDom_out (d : Nat) (f : Dom → Dom) : (modDom d f s).out = s.out := rfl
@[simp] theorem modDom_free (d : Nat) (f : Dom → Dom) : (modDom d f s).free = s.free := rfl
@[simp] theorem modDom_regs (d : Nat) (f : Dom → Dom) : (modDom d f s).regs = s.regs := rfl
@[simp] theorem modDom_eff (d : Nat) (f : Dom → Dom) : (modDom d f s).eff = s.eff := rfl
@[simp] theorem modDom_bufs (d : Nat) (f : Dom → Dom) : (modDom d f s).bufs = s.bufs := rfl
@[simp] theorem modDom_events (d : Nat) (f : Dom → Dom) : (modDom d f s).events = s.events := rfl
@[simp] theorem modDom_cnt (d : Nat) (f : Dom → Dom) : (modDom d f s).cnt = s.cnt := rfl
@[simp] theorem modDom_snap (d : Nat) (f : Dom → Dom) : (modDom d f s).snap = s.snap := rfl
@[simp] theorem modDom_arms (d : Nat) (f : Dom → Dom) : (modDom d f s).arms = s.arms := rfl
@[simp] theorem modDom_objs (d : Nat) (f : Dom → Dom) : (modDom d f s).objs = s.objs := rfl
@[simp] theorem modDom_objNow (d : Nat) (f : Dom → Dom) : (modDom d f s).objNow = s.objNow := rfl
@[simp] theorem modDom_tide (d : Nat) (f : Dom → Dom) : (modDom d f s).tide = s.tide := rfl
@[simp] theorem modDom_hports (d : Nat) (f : Dom → Dom) : (modDom d f s).hports = s.hports := rfl
@[simp] theorem modDom_funcs (d : Nat) (f : Dom → Dom) : (modDom d f s).funcs = s.funcs := rfl
@[simp] theorem modDom_hmem (d : Nat) (f : Dom → Dom) : (modDom d f s).hmem = s.hmem := rfl
@[simp] theorem modDom_hpoison (d : Nat) (f : Dom → Dom) : (modDom d f s).hpoison = s.hpoison := rfl
@[simp] theorem modDom_mem (d : Nat) (f : Dom → Dom) : (modDom d f s).mem = s.mem := rfl
@[simp] theorem modDom_mapLines (d : Nat) (f : Dom → Dom) : (modDom d f s).mapLines = s.mapLines := rfl
@[simp] theorem modDom_ds (d : Nat) (f : Dom → Dom) : (modDom d f s).ds = s.ds := rfl
@[simp] theorem modDom_tcache (d : Nat) (f : Dom → Dom) : (modDom d f s).tcache = s.tcache := rfl
@[simp] theorem modDom_ats (d : Nat) (f : Dom → Dom) : (modDom d f s).ats = s.ats := rfl
@[simp] theorem modDom_invals (d : Nat) (f : Dom → Dom) : (modDom d f s).invals = s.invals := rfl
@[simp] theorem modDom_windows (d : Nat) (f : Dom → Dom) : (modDom d f s).windows = s.windows := rfl
@[simp] theorem modDom_winNext (d : Nat) (f : Dom → Dom) : (modDom d f s).winNext = s.winNext := rfl
@[simp] theorem modDom_winFreed (d : Nat) (f : Dom → Dom) : (modDom d f s).winFreed = s.winFreed := rfl
@[simp] theorem modDom_queues (d : Nat) (f : Dom → Dom) : (modDom d f s).queues = s.queues := rfl
@[simp] theorem modDom_lists (d : Nat) (f : Dom → Dom) : (modDom d f s).lists = s.lists := rfl
@[simp] theorem modDom_rrRoom (d : Nat) (f : Dom → Dom) : (modDom d f s).rrRoom = s.rrRoom := rfl
@[simp] theorem modDom_rrQueue (d : Nat) (f : Dom → Dom) : (modDom d f s).rrQueue = s.rrQueue := rfl
@[simp] theorem modDom_tilesHalted (d : Nat) (f : Dom → Dom) : (modDom d f s).tilesHalted = s.tilesHalted := rfl
@[simp] theorem modDom_seawalls (d : Nat) (f : Dom → Dom) : (modDom d f s).seawalls = s.seawalls := rfl
@[simp] theorem modDom_nextSeawall (d : Nat) (f : Dom → Dom) : (modDom d f s).nextSeawall = s.nextSeawall := rfl
@[simp] theorem modDom_qps (d : Nat) (f : Dom → Dom) : (modDom d f s).qps = s.qps := rfl
@[simp] theorem modDom_porch (d : Nat) (f : Dom → Dom) : (modDom d f s).porch = s.porch := rfl
@[simp] theorem modDom_hot (d : Nat) (f : Dom → Dom) : (modDom d f s).hot = s.hot := rfl
@[simp] theorem modDom_warm (d : Nat) (f : Dom → Dom) : (modDom d f s).warm = s.warm := rfl
@[simp] theorem modDom_rooms (d : Nat) (f : Dom → Dom) : (modDom d f s).rooms = s.rooms := rfl
@[simp] theorem modDom_coll (d : Nat) (f : Dom → Dom) : (modDom d f s).coll = s.coll := rfl
@[simp] theorem modDom_errs (d : Nat) (f : Dom → Dom) : (modDom d f s).errs = s.errs := rfl
@[simp] theorem modDom_fports (d : Nat) (f : Dom → Dom) : (modDom d f s).fports = s.fports := rfl
@[simp] theorem modDom_router (d : Nat) (f : Dom → Dom) : (modDom d f s).router = s.router := rfl
@[simp] theorem modDom_heldPkts (d : Nat) (f : Dom → Dom) : (modDom d f s).heldPkts = s.heldPkts := rfl
@[simp] theorem modDom_ethResult (d : Nat) (f : Dom → Dom) : (modDom d f s).ethResult = s.ethResult := rfl
@[simp] theorem modDom_tokens (d : Nat) (f : Dom → Dom) : (modDom d f s).tokens = s.tokens := rfl
@[simp] theorem modDom_tokenFrac (d : Nat) (f : Dom → Dom) : (modDom d f s).tokenFrac = s.tokenFrac := rfl
@[simp] theorem modDom_sealing (d : Nat) (f : Dom → Dom) : (modDom d f s).sealing = s.sealing := rfl
@[simp] theorem modDom_lanes (d : Nat) (f : Dom → Dom) : (modDom d f s).lanes = s.lanes := rfl
@[simp] theorem modDom_lasers (d : Nat) (f : Dom → Dom) : (modDom d f s).lasers = s.lasers := rfl
@[simp] theorem modDom_laserEn (d : Nat) (f : Dom → Dom) : (modDom d f s).laserEn = s.laserEn := rfl
@[simp] theorem modDom_peTemp (d : Nat) (f : Dom → Dom) : (modDom d f s).peTemp = s.peTemp := rfl
@[simp] theorem modDom_power (d : Nat) (f : Dom → Dom) : (modDom d f s).power = s.power := rfl
@[simp] theorem modDom_dict (d : Nat) (f : Dom → Dom) : (modDom d f s).dict = s.dict := rfl
@[simp] theorem modDom_trv (d : Nat) (f : Dom → Dom) : (modDom d f s).trv = s.trv := rfl
@[simp] theorem modDom_func (d : Nat) (f : Dom → Dom) (fn₀ : Nat) : func (modDom d f s) fn₀ = func s fn₀ := rfl
@[simp] theorem modDom_hport (d : Nat) (f : Dom → Dom) (p₀ : Nat) : hport (modDom d f s) p₀ = hport s p₀ := rfl
@[simp] theorem modDom_room (d : Nat) (f : Dom → Dom) (r₀ : Nat) : room (modDom d f s) r₀ = room s r₀ := rfl
@[simp] theorem modDom_roomOf (d : Nat) (f : Dom → Dom) (fn₀ : Nat) : roomOf (modDom d f s) fn₀ = roomOf s fn₀ := rfl
@[simp] theorem modDom_queue (d : Nat) (f : Dom → Dom) (fn₀ q₀ : Nat) : queue (modDom d f s) fn₀ q₀ = queue s fn₀ q₀ := rfl
@[simp] theorem modDom_qp (d : Nat) (f : Dom → Dom) (n₀ : Nat) : qp (modDom d f s) n₀ = qp s n₀ := rfl
@[simp] theorem modDom_fport (d : Nat) (f : Dom → Dom) (p₀ : Nat) : fport (modDom d f s) p₀ = fport s p₀ := rfl

/-! ## fdAnswer -/

@[simp] theorem fdAnswer_pending (h : FdHdr) (op : Nat) (r : FdResp) : (fdAnswer h op r s).pending = s.pending := rfl
@[simp] theorem fdAnswer_free (h : FdHdr) (op : Nat) (r : FdResp) : (fdAnswer h op r s).free = s.free := rfl
@[simp] theorem fdAnswer_regs (h : FdHdr) (op : Nat) (r : FdResp) : (fdAnswer h op r s).regs = s.regs := rfl
@[simp] theorem fdAnswer_eff (h : FdHdr) (op : Nat) (r : FdResp) : (fdAnswer h op r s).eff = s.eff := rfl
@[simp] theorem fdAnswer_bufs (h : FdHdr) (op : Nat) (r : FdResp) : (fdAnswer h op r s).bufs = s.bufs := rfl
@[simp] theorem fdAnswer_snap (h : FdHdr) (op : Nat) (r : FdResp) : (fdAnswer h op r s).snap = s.snap := rfl
@[simp] theorem fdAnswer_arms (h : FdHdr) (op : Nat) (r : FdResp) : (fdAnswer h op r s).arms = s.arms := rfl
@[simp] theorem fdAnswer_objs (h : FdHdr) (op : Nat) (r : FdResp) : (fdAnswer h op r s).objs = s.objs := rfl
@[simp] theorem fdAnswer_objNow (h : FdHdr) (op : Nat) (r : FdResp) : (fdAnswer h op r s).objNow = s.objNow := rfl
@[simp] theorem fdAnswer_tide (h : FdHdr) (op : Nat) (r : FdResp) : (fdAnswer h op r s).tide = s.tide := rfl
@[simp] theorem fdAnswer_hpoison (h : FdHdr) (op : Nat) (r : FdResp) : (fdAnswer h op r s).hpoison = s.hpoison := rfl
@[simp] theorem fdAnswer_tcache (h : FdHdr) (op : Nat) (r : FdResp) : (fdAnswer h op r s).tcache = s.tcache := rfl
@[simp] theorem fdAnswer_ats (h : FdHdr) (op : Nat) (r : FdResp) : (fdAnswer h op r s).ats = s.ats := rfl
@[simp] theorem fdAnswer_invals (h : FdHdr) (op : Nat) (r : FdResp) : (fdAnswer h op r s).invals = s.invals := rfl
@[simp] theorem fdAnswer_windows (h : FdHdr) (op : Nat) (r : FdResp) : (fdAnswer h op r s).windows = s.windows := rfl
@[simp] theorem fdAnswer_winNext (h : FdHdr) (op : Nat) (r : FdResp) : (fdAnswer h op r s).winNext = s.winNext := rfl
@[simp] theorem fdAnswer_winFreed (h : FdHdr) (op : Nat) (r : FdResp) : (fdAnswer h op r s).winFreed = s.winFreed := rfl
@[simp] theorem fdAnswer_lists (h : FdHdr) (op : Nat) (r : FdResp) : (fdAnswer h op r s).lists = s.lists := rfl
@[simp] theorem fdAnswer_rrRoom (h : FdHdr) (op : Nat) (r : FdResp) : (fdAnswer h op r s).rrRoom = s.rrRoom := rfl
@[simp] theorem fdAnswer_rrQueue (h : FdHdr) (op : Nat) (r : FdResp) : (fdAnswer h op r s).rrQueue = s.rrQueue := rfl
@[simp] theorem fdAnswer_tilesHalted (h : FdHdr) (op : Nat) (r : FdResp) : (fdAnswer h op r s).tilesHalted = s.tilesHalted := rfl
@[simp] theorem fdAnswer_seawalls (h : FdHdr) (op : Nat) (r : FdResp) : (fdAnswer h op r s).seawalls = s.seawalls := rfl
@[simp] theorem fdAnswer_nextSeawall (h : FdHdr) (op : Nat) (r : FdResp) : (fdAnswer h op r s).nextSeawall = s.nextSeawall := rfl
@[simp] theorem fdAnswer_qps (h : FdHdr) (op : Nat) (r : FdResp) : (fdAnswer h op r s).qps = s.qps := rfl
@[simp] theorem fdAnswer_porch (h : FdHdr) (op : Nat) (r : FdResp) : (fdAnswer h op r s).porch = s.porch := rfl
@[simp] theorem fdAnswer_hot (h : FdHdr) (op : Nat) (r : FdResp) : (fdAnswer h op r s).hot = s.hot := rfl
@[simp] theorem fdAnswer_warm (h : FdHdr) (op : Nat) (r : FdResp) : (fdAnswer h op r s).warm = s.warm := rfl
@[simp] theorem fdAnswer_rooms (h : FdHdr) (op : Nat) (r : FdResp) : (fdAnswer h op r s).rooms = s.rooms := rfl
@[simp] theorem fdAnswer_coll (h : FdHdr) (op : Nat) (r : FdResp) : (fdAnswer h op r s).coll = s.coll := rfl
@[simp] theorem fdAnswer_fports (h : FdHdr) (op : Nat) (r : FdResp) : (fdAnswer h op r s).fports = s.fports := rfl
@[simp] theorem fdAnswer_router (h : FdHdr) (op : Nat) (r : FdResp) : (fdAnswer h op r s).router = s.router := rfl
@[simp] theorem fdAnswer_heldPkts (h : FdHdr) (op : Nat) (r : FdResp) : (fdAnswer h op r s).heldPkts = s.heldPkts := rfl
@[simp] theorem fdAnswer_ethResult (h : FdHdr) (op : Nat) (r : FdResp) : (fdAnswer h op r s).ethResult = s.ethResult := rfl
@[simp] theorem fdAnswer_tokens (h : FdHdr) (op : Nat) (r : FdResp) : (fdAnswer h op r s).tokens = s.tokens := rfl
@[simp] theorem fdAnswer_tokenFrac (h : FdHdr) (op : Nat) (r : FdResp) : (fdAnswer h op r s).tokenFrac = s.tokenFrac := rfl
@[simp] theorem fdAnswer_sealing (h : FdHdr) (op : Nat) (r : FdResp) : (fdAnswer h op r s).sealing = s.sealing := rfl
@[simp] theorem fdAnswer_doms (h : FdHdr) (op : Nat) (r : FdResp) : (fdAnswer h op r s).doms = s.doms := rfl
@[simp] theorem fdAnswer_lanes (h : FdHdr) (op : Nat) (r : FdResp) : (fdAnswer h op r s).lanes = s.lanes := rfl
@[simp] theorem fdAnswer_lasers (h : FdHdr) (op : Nat) (r : FdResp) : (fdAnswer h op r s).lasers = s.lasers := rfl
@[simp] theorem fdAnswer_laserEn (h : FdHdr) (op : Nat) (r : FdResp) : (fdAnswer h op r s).laserEn = s.laserEn := rfl
@[simp] theorem fdAnswer_peTemp (h : FdHdr) (op : Nat) (r : FdResp) : (fdAnswer h op r s).peTemp = s.peTemp := rfl
@[simp] theorem fdAnswer_power (h : FdHdr) (op : Nat) (r : FdResp) : (fdAnswer h op r s).power = s.power := rfl
@[simp] theorem fdAnswer_dict (h : FdHdr) (op : Nat) (r : FdResp) : (fdAnswer h op r s).dict = s.dict := rfl
@[simp] theorem fdAnswer_trv (h : FdHdr) (op : Nat) (r : FdResp) : (fdAnswer h op r s).trv = s.trv := rfl
@[simp] theorem fdAnswer_room (h : FdHdr) (op : Nat) (r : FdResp) (r₀ : Nat) : room (fdAnswer h op r s) r₀ = room s r₀ := rfl
@[simp] theorem fdAnswer_roomOf (h : FdHdr) (op : Nat) (r : FdResp) (fn₀ : Nat) : roomOf (fdAnswer h op r s) fn₀ = roomOf s fn₀ := rfl
@[simp] theorem fdAnswer_qp (h : FdHdr) (op : Nat) (r : FdResp) (n₀ : Nat) : qp (fdAnswer h op r s) n₀ = qp s n₀ := rfl
@[simp] theorem fdAnswer_fport (h : FdHdr) (op : Nat) (r : FdResp) (p₀ : Nat) : fport (fdAnswer h op r s) p₀ = fport s p₀ := rfl

/-! ## complete -/

@[simp] theorem complete_pending (fn : Nat) (c : Compl) : (complete fn c s).pending = s.pending := rfl
@[simp] theorem complete_free (fn : Nat) (c : Compl) : (complete fn c s).free = s.free := rfl
@[simp] theorem complete_regs (fn : Nat) (c : Compl) : (complete fn c s).regs = s.regs := rfl
@[simp] theorem complete_eff (fn : Nat) (c : Compl) : (complete fn c s).eff = s.eff := rfl
@[simp] theorem complete_bufs (fn : Nat) (c : Compl) : (complete fn c s).bufs = s.bufs := rfl
@[simp] theorem complete_snap (fn : Nat) (c : Compl) : (complete fn c s).snap = s.snap := rfl
@[simp] theorem complete_arms (fn : Nat) (c : Compl) : (complete fn c s).arms = s.arms := rfl
@[simp] theorem complete_objs (fn : Nat) (c : Compl) : (complete fn c s).objs = s.objs := rfl
@[simp] theorem complete_objNow (fn : Nat) (c : Compl) : (complete fn c s).objNow = s.objNow := rfl
@[simp] theorem complete_tide (fn : Nat) (c : Compl) : (complete fn c s).tide = s.tide := rfl
@[simp] theorem complete_hpoison (fn : Nat) (c : Compl) : (complete fn c s).hpoison = s.hpoison := rfl
@[simp] theorem complete_tcache (fn : Nat) (c : Compl) : (complete fn c s).tcache = s.tcache := rfl
@[simp] theorem complete_ats (fn : Nat) (c : Compl) : (complete fn c s).ats = s.ats := rfl
@[simp] theorem complete_invals (fn : Nat) (c : Compl) : (complete fn c s).invals = s.invals := rfl
@[simp] theorem complete_windows (fn : Nat) (c : Compl) : (complete fn c s).windows = s.windows := rfl
@[simp] theorem complete_winNext (fn : Nat) (c : Compl) : (complete fn c s).winNext = s.winNext := rfl
@[simp] theorem complete_winFreed (fn : Nat) (c : Compl) : (complete fn c s).winFreed = s.winFreed := rfl
@[simp] theorem complete_lists (fn : Nat) (c : Compl) : (complete fn c s).lists = s.lists := rfl
@[simp] theorem complete_rrRoom (fn : Nat) (c : Compl) : (complete fn c s).rrRoom = s.rrRoom := rfl
@[simp] theorem complete_rrQueue (fn : Nat) (c : Compl) : (complete fn c s).rrQueue = s.rrQueue := rfl
@[simp] theorem complete_tilesHalted (fn : Nat) (c : Compl) : (complete fn c s).tilesHalted = s.tilesHalted := rfl
@[simp] theorem complete_seawalls (fn : Nat) (c : Compl) : (complete fn c s).seawalls = s.seawalls := rfl
@[simp] theorem complete_nextSeawall (fn : Nat) (c : Compl) : (complete fn c s).nextSeawall = s.nextSeawall := rfl
@[simp] theorem complete_qps (fn : Nat) (c : Compl) : (complete fn c s).qps = s.qps := rfl
@[simp] theorem complete_porch (fn : Nat) (c : Compl) : (complete fn c s).porch = s.porch := rfl
@[simp] theorem complete_hot (fn : Nat) (c : Compl) : (complete fn c s).hot = s.hot := rfl
@[simp] theorem complete_warm (fn : Nat) (c : Compl) : (complete fn c s).warm = s.warm := rfl
@[simp] theorem complete_rooms (fn : Nat) (c : Compl) : (complete fn c s).rooms = s.rooms := rfl
@[simp] theorem complete_coll (fn : Nat) (c : Compl) : (complete fn c s).coll = s.coll := rfl
@[simp] theorem complete_fports (fn : Nat) (c : Compl) : (complete fn c s).fports = s.fports := rfl
@[simp] theorem complete_router (fn : Nat) (c : Compl) : (complete fn c s).router = s.router := rfl
@[simp] theorem complete_heldPkts (fn : Nat) (c : Compl) : (complete fn c s).heldPkts = s.heldPkts := rfl
@[simp] theorem complete_ethResult (fn : Nat) (c : Compl) : (complete fn c s).ethResult = s.ethResult := rfl
@[simp] theorem complete_tokens (fn : Nat) (c : Compl) : (complete fn c s).tokens = s.tokens := rfl
@[simp] theorem complete_tokenFrac (fn : Nat) (c : Compl) : (complete fn c s).tokenFrac = s.tokenFrac := rfl
@[simp] theorem complete_sealing (fn : Nat) (c : Compl) : (complete fn c s).sealing = s.sealing := rfl
@[simp] theorem complete_doms (fn : Nat) (c : Compl) : (complete fn c s).doms = s.doms := rfl
@[simp] theorem complete_lanes (fn : Nat) (c : Compl) : (complete fn c s).lanes = s.lanes := rfl
@[simp] theorem complete_lasers (fn : Nat) (c : Compl) : (complete fn c s).lasers = s.lasers := rfl
@[simp] theorem complete_laserEn (fn : Nat) (c : Compl) : (complete fn c s).laserEn = s.laserEn := rfl
@[simp] theorem complete_peTemp (fn : Nat) (c : Compl) : (complete fn c s).peTemp = s.peTemp := rfl
@[simp] theorem complete_power (fn : Nat) (c : Compl) : (complete fn c s).power = s.power := rfl
@[simp] theorem complete_dict (fn : Nat) (c : Compl) : (complete fn c s).dict = s.dict := rfl
@[simp] theorem complete_trv (fn : Nat) (c : Compl) : (complete fn c s).trv = s.trv := rfl
@[simp] theorem complete_room (fn : Nat) (c : Compl) (r₀ : Nat) : room (complete fn c s) r₀ = room s r₀ := rfl
@[simp] theorem complete_roomOf (fn : Nat) (c : Compl) (fn₀ : Nat) : roomOf (complete fn c s) fn₀ = roomOf s fn₀ := rfl
@[simp] theorem complete_qp (fn : Nat) (c : Compl) (n₀ : Nat) : qp (complete fn c s) n₀ = qp s n₀ := rfl
@[simp] theorem complete_fport (fn : Nat) (c : Compl) (p₀ : Nat) : fport (complete fn c s) p₀ = fport s p₀ := rfl

/-! ## qEvent -/

@[simp] theorem qEvent_pending (fn q ev ob d0 d1 : Nat) : (qEvent fn q ev ob d0 d1 s).pending = s.pending := rfl
@[simp] theorem qEvent_free (fn q ev ob d0 d1 : Nat) : (qEvent fn q ev ob d0 d1 s).free = s.free := rfl
@[simp] theorem qEvent_regs (fn q ev ob d0 d1 : Nat) : (qEvent fn q ev ob d0 d1 s).regs = s.regs := rfl
@[simp] theorem qEvent_eff (fn q ev ob d0 d1 : Nat) : (qEvent fn q ev ob d0 d1 s).eff = s.eff := rfl
@[simp] theorem qEvent_bufs (fn q ev ob d0 d1 : Nat) : (qEvent fn q ev ob d0 d1 s).bufs = s.bufs := rfl
@[simp] theorem qEvent_snap (fn q ev ob d0 d1 : Nat) : (qEvent fn q ev ob d0 d1 s).snap = s.snap := rfl
@[simp] theorem qEvent_arms (fn q ev ob d0 d1 : Nat) : (qEvent fn q ev ob d0 d1 s).arms = s.arms := rfl
@[simp] theorem qEvent_objs (fn q ev ob d0 d1 : Nat) : (qEvent fn q ev ob d0 d1 s).objs = s.objs := rfl
@[simp] theorem qEvent_objNow (fn q ev ob d0 d1 : Nat) : (qEvent fn q ev ob d0 d1 s).objNow = s.objNow := rfl
@[simp] theorem qEvent_tide (fn q ev ob d0 d1 : Nat) : (qEvent fn q ev ob d0 d1 s).tide = s.tide := rfl
@[simp] theorem qEvent_hpoison (fn q ev ob d0 d1 : Nat) : (qEvent fn q ev ob d0 d1 s).hpoison = s.hpoison := rfl
@[simp] theorem qEvent_tcache (fn q ev ob d0 d1 : Nat) : (qEvent fn q ev ob d0 d1 s).tcache = s.tcache := rfl
@[simp] theorem qEvent_ats (fn q ev ob d0 d1 : Nat) : (qEvent fn q ev ob d0 d1 s).ats = s.ats := rfl
@[simp] theorem qEvent_invals (fn q ev ob d0 d1 : Nat) : (qEvent fn q ev ob d0 d1 s).invals = s.invals := rfl
@[simp] theorem qEvent_windows (fn q ev ob d0 d1 : Nat) : (qEvent fn q ev ob d0 d1 s).windows = s.windows := rfl
@[simp] theorem qEvent_winNext (fn q ev ob d0 d1 : Nat) : (qEvent fn q ev ob d0 d1 s).winNext = s.winNext := rfl
@[simp] theorem qEvent_winFreed (fn q ev ob d0 d1 : Nat) : (qEvent fn q ev ob d0 d1 s).winFreed = s.winFreed := rfl
@[simp] theorem qEvent_lists (fn q ev ob d0 d1 : Nat) : (qEvent fn q ev ob d0 d1 s).lists = s.lists := rfl
@[simp] theorem qEvent_rrRoom (fn q ev ob d0 d1 : Nat) : (qEvent fn q ev ob d0 d1 s).rrRoom = s.rrRoom := rfl
@[simp] theorem qEvent_rrQueue (fn q ev ob d0 d1 : Nat) : (qEvent fn q ev ob d0 d1 s).rrQueue = s.rrQueue := rfl
@[simp] theorem qEvent_tilesHalted (fn q ev ob d0 d1 : Nat) : (qEvent fn q ev ob d0 d1 s).tilesHalted = s.tilesHalted := rfl
@[simp] theorem qEvent_seawalls (fn q ev ob d0 d1 : Nat) : (qEvent fn q ev ob d0 d1 s).seawalls = s.seawalls := rfl
@[simp] theorem qEvent_nextSeawall (fn q ev ob d0 d1 : Nat) : (qEvent fn q ev ob d0 d1 s).nextSeawall = s.nextSeawall := rfl
@[simp] theorem qEvent_qps (fn q ev ob d0 d1 : Nat) : (qEvent fn q ev ob d0 d1 s).qps = s.qps := rfl
@[simp] theorem qEvent_porch (fn q ev ob d0 d1 : Nat) : (qEvent fn q ev ob d0 d1 s).porch = s.porch := rfl
@[simp] theorem qEvent_hot (fn q ev ob d0 d1 : Nat) : (qEvent fn q ev ob d0 d1 s).hot = s.hot := rfl
@[simp] theorem qEvent_warm (fn q ev ob d0 d1 : Nat) : (qEvent fn q ev ob d0 d1 s).warm = s.warm := rfl
@[simp] theorem qEvent_rooms (fn q ev ob d0 d1 : Nat) : (qEvent fn q ev ob d0 d1 s).rooms = s.rooms := rfl
@[simp] theorem qEvent_coll (fn q ev ob d0 d1 : Nat) : (qEvent fn q ev ob d0 d1 s).coll = s.coll := rfl
@[simp] theorem qEvent_fports (fn q ev ob d0 d1 : Nat) : (qEvent fn q ev ob d0 d1 s).fports = s.fports := rfl
@[simp] theorem qEvent_router (fn q ev ob d0 d1 : Nat) : (qEvent fn q ev ob d0 d1 s).router = s.router := rfl
@[simp] theorem qEvent_heldPkts (fn q ev ob d0 d1 : Nat) : (qEvent fn q ev ob d0 d1 s).heldPkts = s.heldPkts := rfl
@[simp] theorem qEvent_ethResult (fn q ev ob d0 d1 : Nat) : (qEvent fn q ev ob d0 d1 s).ethResult = s.ethResult := rfl
@[simp] theorem qEvent_tokens (fn q ev ob d0 d1 : Nat) : (qEvent fn q ev ob d0 d1 s).tokens = s.tokens := rfl
@[simp] theorem qEvent_tokenFrac (fn q ev ob d0 d1 : Nat) : (qEvent fn q ev ob d0 d1 s).tokenFrac = s.tokenFrac := rfl
@[simp] theorem qEvent_sealing (fn q ev ob d0 d1 : Nat) : (qEvent fn q ev ob d0 d1 s).sealing = s.sealing := rfl
@[simp] theorem qEvent_doms (fn q ev ob d0 d1 : Nat) : (qEvent fn q ev ob d0 d1 s).doms = s.doms := rfl
@[simp] theorem qEvent_lanes (fn q ev ob d0 d1 : Nat) : (qEvent fn q ev ob d0 d1 s).lanes = s.lanes := rfl
@[simp] theorem qEvent_lasers (fn q ev ob d0 d1 : Nat) : (qEvent fn q ev ob d0 d1 s).lasers = s.lasers := rfl
@[simp] theorem qEvent_laserEn (fn q ev ob d0 d1 : Nat) : (qEvent fn q ev ob d0 d1 s).laserEn = s.laserEn := rfl
@[simp] theorem qEvent_peTemp (fn q ev ob d0 d1 : Nat) : (qEvent fn q ev ob d0 d1 s).peTemp = s.peTemp := rfl
@[simp] theorem qEvent_power (fn q ev ob d0 d1 : Nat) : (qEvent fn q ev ob d0 d1 s).power = s.power := rfl
@[simp] theorem qEvent_dict (fn q ev ob d0 d1 : Nat) : (qEvent fn q ev ob d0 d1 s).dict = s.dict := rfl
@[simp] theorem qEvent_trv (fn q ev ob d0 d1 : Nat) : (qEvent fn q ev ob d0 d1 s).trv = s.trv := rfl
@[simp] theorem qEvent_room (fn q ev ob d0 d1 : Nat) (r₀ : Nat) : room (qEvent fn q ev ob d0 d1 s) r₀ = room s r₀ := rfl
@[simp] theorem qEvent_roomOf (fn q ev ob d0 d1 : Nat) (fn₀ : Nat) : roomOf (qEvent fn q ev ob d0 d1 s) fn₀ = roomOf s fn₀ := rfl
@[simp] theorem qEvent_qp (fn q ev ob d0 d1 : Nat) (n₀ : Nat) : qp (qEvent fn q ev ob d0 d1 s) n₀ = qp s n₀ := rfl
@[simp] theorem qEvent_fport (fn q ev ob d0 d1 : Nat) (p₀ : Nat) : fport (qEvent fn q ev ob d0 d1 s) p₀ = fport s p₀ := rfl

/-! ## ledgerInn -/

@[simp] theorem ledgerInn_pending (r : LedgerRec) : (ledgerInn r s).pending = s.pending := rfl
@[simp] theorem ledgerInn_free (r : LedgerRec) : (ledgerInn r s).free = s.free := rfl
@[simp] theorem ledgerInn_regs (r : LedgerRec) : (ledgerInn r s).regs = s.regs := rfl
@[simp] theorem ledgerInn_eff (r : LedgerRec) : (ledgerInn r s).eff = s.eff := rfl
@[simp] theorem ledgerInn_bufs (r : LedgerRec) : (ledgerInn r s).bufs = s.bufs := rfl
@[simp] theorem ledgerInn_snap (r : LedgerRec) : (ledgerInn r s).snap = s.snap := rfl
@[simp] theorem ledgerInn_arms (r : LedgerRec) : (ledgerInn r s).arms = s.arms := rfl
@[simp] theorem ledgerInn_objs (r : LedgerRec) : (ledgerInn r s).objs = s.objs := rfl
@[simp] theorem ledgerInn_objNow (r : LedgerRec) : (ledgerInn r s).objNow = s.objNow := rfl
@[simp] theorem ledgerInn_tide (r : LedgerRec) : (ledgerInn r s).tide = s.tide := rfl
@[simp] theorem ledgerInn_hpoison (r : LedgerRec) : (ledgerInn r s).hpoison = s.hpoison := rfl
@[simp] theorem ledgerInn_tcache (r : LedgerRec) : (ledgerInn r s).tcache = s.tcache := rfl
@[simp] theorem ledgerInn_ats (r : LedgerRec) : (ledgerInn r s).ats = s.ats := rfl
@[simp] theorem ledgerInn_invals (r : LedgerRec) : (ledgerInn r s).invals = s.invals := rfl
@[simp] theorem ledgerInn_windows (r : LedgerRec) : (ledgerInn r s).windows = s.windows := rfl
@[simp] theorem ledgerInn_winNext (r : LedgerRec) : (ledgerInn r s).winNext = s.winNext := rfl
@[simp] theorem ledgerInn_winFreed (r : LedgerRec) : (ledgerInn r s).winFreed = s.winFreed := rfl
@[simp] theorem ledgerInn_lists (r : LedgerRec) : (ledgerInn r s).lists = s.lists := rfl
@[simp] theorem ledgerInn_rrRoom (r : LedgerRec) : (ledgerInn r s).rrRoom = s.rrRoom := rfl
@[simp] theorem ledgerInn_rrQueue (r : LedgerRec) : (ledgerInn r s).rrQueue = s.rrQueue := rfl
@[simp] theorem ledgerInn_tilesHalted (r : LedgerRec) : (ledgerInn r s).tilesHalted = s.tilesHalted := rfl
@[simp] theorem ledgerInn_seawalls (r : LedgerRec) : (ledgerInn r s).seawalls = s.seawalls := rfl
@[simp] theorem ledgerInn_nextSeawall (r : LedgerRec) : (ledgerInn r s).nextSeawall = s.nextSeawall := rfl
@[simp] theorem ledgerInn_qps (r : LedgerRec) : (ledgerInn r s).qps = s.qps := rfl
@[simp] theorem ledgerInn_porch (r : LedgerRec) : (ledgerInn r s).porch = s.porch := rfl
@[simp] theorem ledgerInn_hot (r : LedgerRec) : (ledgerInn r s).hot = s.hot := rfl
@[simp] theorem ledgerInn_warm (r : LedgerRec) : (ledgerInn r s).warm = s.warm := rfl
@[simp] theorem ledgerInn_rooms (r : LedgerRec) : (ledgerInn r s).rooms = s.rooms := rfl
@[simp] theorem ledgerInn_coll (r : LedgerRec) : (ledgerInn r s).coll = s.coll := rfl
@[simp] theorem ledgerInn_fports (r : LedgerRec) : (ledgerInn r s).fports = s.fports := rfl
@[simp] theorem ledgerInn_router (r : LedgerRec) : (ledgerInn r s).router = s.router := rfl
@[simp] theorem ledgerInn_heldPkts (r : LedgerRec) : (ledgerInn r s).heldPkts = s.heldPkts := rfl
@[simp] theorem ledgerInn_ethResult (r : LedgerRec) : (ledgerInn r s).ethResult = s.ethResult := rfl
@[simp] theorem ledgerInn_tokens (r : LedgerRec) : (ledgerInn r s).tokens = s.tokens := rfl
@[simp] theorem ledgerInn_tokenFrac (r : LedgerRec) : (ledgerInn r s).tokenFrac = s.tokenFrac := rfl
@[simp] theorem ledgerInn_sealing (r : LedgerRec) : (ledgerInn r s).sealing = s.sealing := rfl
@[simp] theorem ledgerInn_doms (r : LedgerRec) : (ledgerInn r s).doms = s.doms := rfl
@[simp] theorem ledgerInn_lanes (r : LedgerRec) : (ledgerInn r s).lanes = s.lanes := rfl
@[simp] theorem ledgerInn_lasers (r : LedgerRec) : (ledgerInn r s).lasers = s.lasers := rfl
@[simp] theorem ledgerInn_laserEn (r : LedgerRec) : (ledgerInn r s).laserEn = s.laserEn := rfl
@[simp] theorem ledgerInn_peTemp (r : LedgerRec) : (ledgerInn r s).peTemp = s.peTemp := rfl
@[simp] theorem ledgerInn_power (r : LedgerRec) : (ledgerInn r s).power = s.power := rfl
@[simp] theorem ledgerInn_dict (r : LedgerRec) : (ledgerInn r s).dict = s.dict := rfl
@[simp] theorem ledgerInn_trv (r : LedgerRec) : (ledgerInn r s).trv = s.trv := rfl
@[simp] theorem ledgerInn_room (r : LedgerRec) (r₀ : Nat) : room (ledgerInn r s) r₀ = room s r₀ := rfl
@[simp] theorem ledgerInn_roomOf (r : LedgerRec) (fn₀ : Nat) : roomOf (ledgerInn r s) fn₀ = roomOf s fn₀ := rfl
@[simp] theorem ledgerInn_qp (r : LedgerRec) (n₀ : Nat) : qp (ledgerInn r s) n₀ = qp s n₀ := rfl
@[simp] theorem ledgerInn_fport (r : LedgerRec) (p₀ : Nat) : fport (ledgerInn r s) p₀ = fport s p₀ := rfl

/-! ## ledgerRoom -/

@[simp] theorem ledgerRoom_pending (rm : Nat) (r : LedgerRec) : (ledgerRoom rm r s).pending = s.pending := rfl
@[simp] theorem ledgerRoom_free (rm : Nat) (r : LedgerRec) : (ledgerRoom rm r s).free = s.free := rfl
@[simp] theorem ledgerRoom_regs (rm : Nat) (r : LedgerRec) : (ledgerRoom rm r s).regs = s.regs := rfl
@[simp] theorem ledgerRoom_eff (rm : Nat) (r : LedgerRec) : (ledgerRoom rm r s).eff = s.eff := rfl
@[simp] theorem ledgerRoom_bufs (rm : Nat) (r : LedgerRec) : (ledgerRoom rm r s).bufs = s.bufs := rfl
@[simp] theorem ledgerRoom_snap (rm : Nat) (r : LedgerRec) : (ledgerRoom rm r s).snap = s.snap := rfl
@[simp] theorem ledgerRoom_arms (rm : Nat) (r : LedgerRec) : (ledgerRoom rm r s).arms = s.arms := rfl
@[simp] theorem ledgerRoom_objs (rm : Nat) (r : LedgerRec) : (ledgerRoom rm r s).objs = s.objs := rfl
@[simp] theorem ledgerRoom_objNow (rm : Nat) (r : LedgerRec) : (ledgerRoom rm r s).objNow = s.objNow := rfl
@[simp] theorem ledgerRoom_tide (rm : Nat) (r : LedgerRec) : (ledgerRoom rm r s).tide = s.tide := rfl
@[simp] theorem ledgerRoom_hpoison (rm : Nat) (r : LedgerRec) : (ledgerRoom rm r s).hpoison = s.hpoison := rfl
@[simp] theorem ledgerRoom_tcache (rm : Nat) (r : LedgerRec) : (ledgerRoom rm r s).tcache = s.tcache := rfl
@[simp] theorem ledgerRoom_ats (rm : Nat) (r : LedgerRec) : (ledgerRoom rm r s).ats = s.ats := rfl
@[simp] theorem ledgerRoom_invals (rm : Nat) (r : LedgerRec) : (ledgerRoom rm r s).invals = s.invals := rfl
@[simp] theorem ledgerRoom_windows (rm : Nat) (r : LedgerRec) : (ledgerRoom rm r s).windows = s.windows := rfl
@[simp] theorem ledgerRoom_winNext (rm : Nat) (r : LedgerRec) : (ledgerRoom rm r s).winNext = s.winNext := rfl
@[simp] theorem ledgerRoom_winFreed (rm : Nat) (r : LedgerRec) : (ledgerRoom rm r s).winFreed = s.winFreed := rfl
@[simp] theorem ledgerRoom_lists (rm : Nat) (r : LedgerRec) : (ledgerRoom rm r s).lists = s.lists := rfl
@[simp] theorem ledgerRoom_rrRoom (rm : Nat) (r : LedgerRec) : (ledgerRoom rm r s).rrRoom = s.rrRoom := rfl
@[simp] theorem ledgerRoom_rrQueue (rm : Nat) (r : LedgerRec) : (ledgerRoom rm r s).rrQueue = s.rrQueue := rfl
@[simp] theorem ledgerRoom_tilesHalted (rm : Nat) (r : LedgerRec) : (ledgerRoom rm r s).tilesHalted = s.tilesHalted := rfl
@[simp] theorem ledgerRoom_seawalls (rm : Nat) (r : LedgerRec) : (ledgerRoom rm r s).seawalls = s.seawalls := rfl
@[simp] theorem ledgerRoom_nextSeawall (rm : Nat) (r : LedgerRec) : (ledgerRoom rm r s).nextSeawall = s.nextSeawall := rfl
@[simp] theorem ledgerRoom_qps (rm : Nat) (r : LedgerRec) : (ledgerRoom rm r s).qps = s.qps := rfl
@[simp] theorem ledgerRoom_porch (rm : Nat) (r : LedgerRec) : (ledgerRoom rm r s).porch = s.porch := rfl
@[simp] theorem ledgerRoom_hot (rm : Nat) (r : LedgerRec) : (ledgerRoom rm r s).hot = s.hot := rfl
@[simp] theorem ledgerRoom_warm (rm : Nat) (r : LedgerRec) : (ledgerRoom rm r s).warm = s.warm := rfl
@[simp] theorem ledgerRoom_rooms (rm : Nat) (r : LedgerRec) : (ledgerRoom rm r s).rooms = s.rooms := rfl
@[simp] theorem ledgerRoom_coll (rm : Nat) (r : LedgerRec) : (ledgerRoom rm r s).coll = s.coll := rfl
@[simp] theorem ledgerRoom_fports (rm : Nat) (r : LedgerRec) : (ledgerRoom rm r s).fports = s.fports := rfl
@[simp] theorem ledgerRoom_router (rm : Nat) (r : LedgerRec) : (ledgerRoom rm r s).router = s.router := rfl
@[simp] theorem ledgerRoom_heldPkts (rm : Nat) (r : LedgerRec) : (ledgerRoom rm r s).heldPkts = s.heldPkts := rfl
@[simp] theorem ledgerRoom_ethResult (rm : Nat) (r : LedgerRec) : (ledgerRoom rm r s).ethResult = s.ethResult := rfl
@[simp] theorem ledgerRoom_tokens (rm : Nat) (r : LedgerRec) : (ledgerRoom rm r s).tokens = s.tokens := rfl
@[simp] theorem ledgerRoom_tokenFrac (rm : Nat) (r : LedgerRec) : (ledgerRoom rm r s).tokenFrac = s.tokenFrac := rfl
@[simp] theorem ledgerRoom_sealing (rm : Nat) (r : LedgerRec) : (ledgerRoom rm r s).sealing = s.sealing := rfl
@[simp] theorem ledgerRoom_doms (rm : Nat) (r : LedgerRec) : (ledgerRoom rm r s).doms = s.doms := rfl
@[simp] theorem ledgerRoom_lanes (rm : Nat) (r : LedgerRec) : (ledgerRoom rm r s).lanes = s.lanes := rfl
@[simp] theorem ledgerRoom_lasers (rm : Nat) (r : LedgerRec) : (ledgerRoom rm r s).lasers = s.lasers := rfl
@[simp] theorem ledgerRoom_laserEn (rm : Nat) (r : LedgerRec) : (ledgerRoom rm r s).laserEn = s.laserEn := rfl
@[simp] theorem ledgerRoom_peTemp (rm : Nat) (r : LedgerRec) : (ledgerRoom rm r s).peTemp = s.peTemp := rfl
@[simp] theorem ledgerRoom_power (rm : Nat) (r : LedgerRec) : (ledgerRoom rm r s).power = s.power := rfl
@[simp] theorem ledgerRoom_dict (rm : Nat) (r : LedgerRec) : (ledgerRoom rm r s).dict = s.dict := rfl
@[simp] theorem ledgerRoom_trv (rm : Nat) (r : LedgerRec) : (ledgerRoom rm r s).trv = s.trv := rfl
@[simp] theorem ledgerRoom_room (rm : Nat) (r : LedgerRec) (r₀ : Nat) : room (ledgerRoom rm r s) r₀ = room s r₀ := rfl
@[simp] theorem ledgerRoom_roomOf (rm : Nat) (r : LedgerRec) (fn₀ : Nat) : roomOf (ledgerRoom rm r s) fn₀ = roomOf s fn₀ := rfl
@[simp] theorem ledgerRoom_qp (rm : Nat) (r : LedgerRec) (n₀ : Nat) : qp (ledgerRoom rm r s) n₀ = qp s n₀ := rfl
@[simp] theorem ledgerRoom_fport (rm : Nat) (r : LedgerRec) (p₀ : Nat) : fport (ledgerRoom rm r s) p₀ = fport s p₀ := rfl

/-! ## modSeal -/

@[simp] theorem modSeal_pending (f : Seal → Seal) : (modSeal f s).pending = s.pending := rfl
@[simp] theorem modSeal_out (f : Seal → Seal) : (modSeal f s).out = s.out := rfl
@[simp] theorem modSeal_free (f : Seal → Seal) : (modSeal f s).free = s.free := rfl
@[simp] theorem modSeal_regs (f : Seal → Seal) : (modSeal f s).regs = s.regs := rfl
@[simp] theorem modSeal_eff (f : Seal → Seal) : (modSeal f s).eff = s.eff := rfl
@[simp] theorem modSeal_bufs (f : Seal → Seal) : (modSeal f s).bufs = s.bufs := rfl
@[simp] theorem modSeal_events (f : Seal → Seal) : (modSeal f s).events = s.events := rfl
@[simp] theorem modSeal_cnt (f : Seal → Seal) : (modSeal f s).cnt = s.cnt := rfl
@[simp] theorem modSeal_snap (f : Seal → Seal) : (modSeal f s).snap = s.snap := rfl
@[simp] theorem modSeal_arms (f : Seal → Seal) : (modSeal f s).arms = s.arms := rfl
@[simp] theorem modSeal_objs (f : Seal → Seal) : (modSeal f s).objs = s.objs := rfl
@[simp] theorem modSeal_objNow (f : Seal → Seal) : (modSeal f s).objNow = s.objNow := rfl
@[simp] theorem modSeal_tide (f : Seal → Seal) : (modSeal f s).tide = s.tide := rfl
@[simp] theorem modSeal_hports (f : Seal → Seal) : (modSeal f s).hports = s.hports := rfl
@[simp] theorem modSeal_funcs (f : Seal → Seal) : (modSeal f s).funcs = s.funcs := rfl
@[simp] theorem modSeal_hmem (f : Seal → Seal) : (modSeal f s).hmem = s.hmem := rfl
@[simp] theorem modSeal_hpoison (f : Seal → Seal) : (modSeal f s).hpoison = s.hpoison := rfl
@[simp] theorem modSeal_mem (f : Seal → Seal) : (modSeal f s).mem = s.mem := rfl
@[simp] theorem modSeal_mapLines (f : Seal → Seal) : (modSeal f s).mapLines = s.mapLines := rfl
@[simp] theorem modSeal_ds (f : Seal → Seal) : (modSeal f s).ds = s.ds := rfl
@[simp] theorem modSeal_tcache (f : Seal → Seal) : (modSeal f s).tcache = s.tcache := rfl
@[simp] theorem modSeal_ats (f : Seal → Seal) : (modSeal f s).ats = s.ats := rfl
@[simp] theorem modSeal_invals (f : Seal → Seal) : (modSeal f s).invals = s.invals := rfl
@[simp] theorem modSeal_windows (f : Seal → Seal) : (modSeal f s).windows = s.windows := rfl
@[simp] theorem modSeal_winNext (f : Seal → Seal) : (modSeal f s).winNext = s.winNext := rfl
@[simp] theorem modSeal_winFreed (f : Seal → Seal) : (modSeal f s).winFreed = s.winFreed := rfl
@[simp] theorem modSeal_queues (f : Seal → Seal) : (modSeal f s).queues = s.queues := rfl
@[simp] theorem modSeal_lists (f : Seal → Seal) : (modSeal f s).lists = s.lists := rfl
@[simp] theorem modSeal_rrRoom (f : Seal → Seal) : (modSeal f s).rrRoom = s.rrRoom := rfl
@[simp] theorem modSeal_rrQueue (f : Seal → Seal) : (modSeal f s).rrQueue = s.rrQueue := rfl
@[simp] theorem modSeal_tilesHalted (f : Seal → Seal) : (modSeal f s).tilesHalted = s.tilesHalted := rfl
@[simp] theorem modSeal_seawalls (f : Seal → Seal) : (modSeal f s).seawalls = s.seawalls := rfl
@[simp] theorem modSeal_nextSeawall (f : Seal → Seal) : (modSeal f s).nextSeawall = s.nextSeawall := rfl
@[simp] theorem modSeal_qps (f : Seal → Seal) : (modSeal f s).qps = s.qps := rfl
@[simp] theorem modSeal_porch (f : Seal → Seal) : (modSeal f s).porch = s.porch := rfl
@[simp] theorem modSeal_hot (f : Seal → Seal) : (modSeal f s).hot = s.hot := rfl
@[simp] theorem modSeal_warm (f : Seal → Seal) : (modSeal f s).warm = s.warm := rfl
@[simp] theorem modSeal_rooms (f : Seal → Seal) : (modSeal f s).rooms = s.rooms := rfl
@[simp] theorem modSeal_coll (f : Seal → Seal) : (modSeal f s).coll = s.coll := rfl
@[simp] theorem modSeal_errs (f : Seal → Seal) : (modSeal f s).errs = s.errs := rfl
@[simp] theorem modSeal_fports (f : Seal → Seal) : (modSeal f s).fports = s.fports := rfl
@[simp] theorem modSeal_router (f : Seal → Seal) : (modSeal f s).router = s.router := rfl
@[simp] theorem modSeal_heldPkts (f : Seal → Seal) : (modSeal f s).heldPkts = s.heldPkts := rfl
@[simp] theorem modSeal_ethResult (f : Seal → Seal) : (modSeal f s).ethResult = s.ethResult := rfl
@[simp] theorem modSeal_tokens (f : Seal → Seal) : (modSeal f s).tokens = s.tokens := rfl
@[simp] theorem modSeal_tokenFrac (f : Seal → Seal) : (modSeal f s).tokenFrac = s.tokenFrac := rfl
@[simp] theorem modSeal_doms (f : Seal → Seal) : (modSeal f s).doms = s.doms := rfl
@[simp] theorem modSeal_lanes (f : Seal → Seal) : (modSeal f s).lanes = s.lanes := rfl
@[simp] theorem modSeal_lasers (f : Seal → Seal) : (modSeal f s).lasers = s.lasers := rfl
@[simp] theorem modSeal_laserEn (f : Seal → Seal) : (modSeal f s).laserEn = s.laserEn := rfl
@[simp] theorem modSeal_peTemp (f : Seal → Seal) : (modSeal f s).peTemp = s.peTemp := rfl
@[simp] theorem modSeal_power (f : Seal → Seal) : (modSeal f s).power = s.power := rfl
@[simp] theorem modSeal_dict (f : Seal → Seal) : (modSeal f s).dict = s.dict := rfl
@[simp] theorem modSeal_trv (f : Seal → Seal) : (modSeal f s).trv = s.trv := rfl
@[simp] theorem modSeal_func (f : Seal → Seal) (fn₀ : Nat) : func (modSeal f s) fn₀ = func s fn₀ := rfl
@[simp] theorem modSeal_hport (f : Seal → Seal) (p₀ : Nat) : hport (modSeal f s) p₀ = hport s p₀ := rfl
@[simp] theorem modSeal_room (f : Seal → Seal) (r₀ : Nat) : room (modSeal f s) r₀ = room s r₀ := rfl
@[simp] theorem modSeal_roomOf (f : Seal → Seal) (fn₀ : Nat) : roomOf (modSeal f s) fn₀ = roomOf s fn₀ := rfl
@[simp] theorem modSeal_queue (f : Seal → Seal) (fn₀ q₀ : Nat) : queue (modSeal f s) fn₀ q₀ = queue s fn₀ q₀ := rfl
@[simp] theorem modSeal_qp (f : Seal → Seal) (n₀ : Nat) : qp (modSeal f s) n₀ = qp s n₀ := rfl
@[simp] theorem modSeal_fport (f : Seal → Seal) (p₀ : Nat) : fport (modSeal f s) p₀ = fport s p₀ := rfl

/-! ## ledgerOnly -/

@[simp] theorem ledgerOnly_pending : (ledgerOnly s r₀).pending = s.pending := rfl
@[simp] theorem ledgerOnly_out : (ledgerOnly s r₀).out = r₀.out := rfl
@[simp] theorem ledgerOnly_free : (ledgerOnly s r₀).free = s.free := rfl
@[simp] theorem ledgerOnly_regs : (ledgerOnly s r₀).regs = s.regs := rfl
@[simp] theorem ledgerOnly_eff : (ledgerOnly s r₀).eff = s.eff := rfl
@[simp] theorem ledgerOnly_bufs : (ledgerOnly s r₀).bufs = s.bufs := rfl
@[simp] theorem ledgerOnly_events : (ledgerOnly s r₀).events = r₀.events := rfl
@[simp] theorem ledgerOnly_cnt : (ledgerOnly s r₀).cnt = r₀.cnt := rfl
@[simp] theorem ledgerOnly_snap : (ledgerOnly s r₀).snap = s.snap := rfl
@[simp] theorem ledgerOnly_arms : (ledgerOnly s r₀).arms = s.arms := rfl
@[simp] theorem ledgerOnly_objs : (ledgerOnly s r₀).objs = s.objs := rfl
@[simp] theorem ledgerOnly_objNow : (ledgerOnly s r₀).objNow = s.objNow := rfl
@[simp] theorem ledgerOnly_tide : (ledgerOnly s r₀).tide = s.tide := rfl
@[simp] theorem ledgerOnly_hports : (ledgerOnly s r₀).hports = r₀.hports := rfl
@[simp] theorem ledgerOnly_funcs : (ledgerOnly s r₀).funcs = r₀.funcs := rfl
@[simp] theorem ledgerOnly_hmem : (ledgerOnly s r₀).hmem = r₀.hmem := rfl
@[simp] theorem ledgerOnly_hpoison : (ledgerOnly s r₀).hpoison = s.hpoison := rfl
@[simp] theorem ledgerOnly_mapLines : (ledgerOnly s r₀).mapLines = r₀.mapLines := rfl
@[simp] theorem ledgerOnly_ds : (ledgerOnly s r₀).ds = r₀.ds := rfl
@[simp] theorem ledgerOnly_tcache : (ledgerOnly s r₀).tcache = s.tcache := rfl
@[simp] theorem ledgerOnly_ats : (ledgerOnly s r₀).ats = s.ats := rfl
@[simp] theorem ledgerOnly_invals : (ledgerOnly s r₀).invals = s.invals := rfl
@[simp] theorem ledgerOnly_windows : (ledgerOnly s r₀).windows = s.windows := rfl
@[simp] theorem ledgerOnly_winNext : (ledgerOnly s r₀).winNext = s.winNext := rfl
@[simp] theorem ledgerOnly_winFreed : (ledgerOnly s r₀).winFreed = s.winFreed := rfl
@[simp] theorem ledgerOnly_queues : (ledgerOnly s r₀).queues = r₀.queues := rfl
@[simp] theorem ledgerOnly_lists : (ledgerOnly s r₀).lists = s.lists := rfl
@[simp] theorem ledgerOnly_rrRoom : (ledgerOnly s r₀).rrRoom = s.rrRoom := rfl
@[simp] theorem ledgerOnly_rrQueue : (ledgerOnly s r₀).rrQueue = s.rrQueue := rfl
@[simp] theorem ledgerOnly_tilesHalted : (ledgerOnly s r₀).tilesHalted = s.tilesHalted := rfl
@[simp] theorem ledgerOnly_seawalls : (ledgerOnly s r₀).seawalls = s.seawalls := rfl
@[simp] theorem ledgerOnly_nextSeawall : (ledgerOnly s r₀).nextSeawall = s.nextSeawall := rfl
@[simp] theorem ledgerOnly_qps : (ledgerOnly s r₀).qps = s.qps := rfl
@[simp] theorem ledgerOnly_porch : (ledgerOnly s r₀).porch = s.porch := rfl
@[simp] theorem ledgerOnly_hot : (ledgerOnly s r₀).hot = s.hot := rfl
@[simp] theorem ledgerOnly_warm : (ledgerOnly s r₀).warm = s.warm := rfl
@[simp] theorem ledgerOnly_rooms : (ledgerOnly s r₀).rooms = s.rooms := rfl
@[simp] theorem ledgerOnly_coll : (ledgerOnly s r₀).coll = s.coll := rfl
@[simp] theorem ledgerOnly_fports : (ledgerOnly s r₀).fports = s.fports := rfl
@[simp] theorem ledgerOnly_router : (ledgerOnly s r₀).router = s.router := rfl
@[simp] theorem ledgerOnly_heldPkts : (ledgerOnly s r₀).heldPkts = s.heldPkts := rfl
@[simp] theorem ledgerOnly_ethResult : (ledgerOnly s r₀).ethResult = s.ethResult := rfl
@[simp] theorem ledgerOnly_tokens : (ledgerOnly s r₀).tokens = s.tokens := rfl
@[simp] theorem ledgerOnly_tokenFrac : (ledgerOnly s r₀).tokenFrac = s.tokenFrac := rfl
@[simp] theorem ledgerOnly_sealing : (ledgerOnly s r₀).sealing = s.sealing := rfl
@[simp] theorem ledgerOnly_doms : (ledgerOnly s r₀).doms = s.doms := rfl
@[simp] theorem ledgerOnly_lanes : (ledgerOnly s r₀).lanes = s.lanes := rfl
@[simp] theorem ledgerOnly_lasers : (ledgerOnly s r₀).lasers = s.lasers := rfl
@[simp] theorem ledgerOnly_laserEn : (ledgerOnly s r₀).laserEn = s.laserEn := rfl
@[simp] theorem ledgerOnly_peTemp : (ledgerOnly s r₀).peTemp = s.peTemp := rfl
@[simp] theorem ledgerOnly_power : (ledgerOnly s r₀).power = s.power := rfl
@[simp] theorem ledgerOnly_dict : (ledgerOnly s r₀).dict = s.dict := rfl
@[simp] theorem ledgerOnly_trv : (ledgerOnly s r₀).trv = s.trv := rfl
@[simp] theorem ledgerOnly_func (fn : Nat) : func (ledgerOnly s r₀) fn = func r₀ fn := rfl
@[simp] theorem ledgerOnly_hport (p : Nat) : hport (ledgerOnly s r₀) p = hport r₀ p := rfl
@[simp] theorem ledgerOnly_room (r : Nat) : room (ledgerOnly s r₀) r = room s r := rfl
@[simp] theorem ledgerOnly_roomOf (fn : Nat) : roomOf (ledgerOnly s r₀) fn = roomOf s fn := rfl
@[simp] theorem ledgerOnly_queue (fn q : Nat) : queue (ledgerOnly s r₀) fn q = queue r₀ fn q := rfl
@[simp] theorem ledgerOnly_qp (n : Nat) : qp (ledgerOnly s r₀) n = qp s n := rfl
@[simp] theorem ledgerOnly_fport (p : Nat) : fport (ledgerOnly s r₀) p = fport s p := rfl

/-! ## ringReadOnly -/

@[simp] theorem ringReadOnly_pending : (ringReadOnly s r₀).pending = s.pending := rfl
@[simp] theorem ringReadOnly_out : (ringReadOnly s r₀).out = r₀.out := rfl
@[simp] theorem ringReadOnly_free : (ringReadOnly s r₀).free = s.free := rfl
@[simp] theorem ringReadOnly_regs : (ringReadOnly s r₀).regs = s.regs := rfl
@[simp] theorem ringReadOnly_eff : (ringReadOnly s r₀).eff = s.eff := rfl
@[simp] theorem ringReadOnly_bufs : (ringReadOnly s r₀).bufs = s.bufs := rfl
@[simp] theorem ringReadOnly_events : (ringReadOnly s r₀).events = r₀.events := rfl
@[simp] theorem ringReadOnly_cnt : (ringReadOnly s r₀).cnt = r₀.cnt := rfl
@[simp] theorem ringReadOnly_snap : (ringReadOnly s r₀).snap = s.snap := rfl
@[simp] theorem ringReadOnly_arms : (ringReadOnly s r₀).arms = s.arms := rfl
@[simp] theorem ringReadOnly_objs : (ringReadOnly s r₀).objs = s.objs := rfl
@[simp] theorem ringReadOnly_objNow : (ringReadOnly s r₀).objNow = s.objNow := rfl
@[simp] theorem ringReadOnly_tide : (ringReadOnly s r₀).tide = s.tide := rfl
@[simp] theorem ringReadOnly_hports : (ringReadOnly s r₀).hports = r₀.hports := rfl
@[simp] theorem ringReadOnly_funcs : (ringReadOnly s r₀).funcs = r₀.funcs := rfl
@[simp] theorem ringReadOnly_hmem : (ringReadOnly s r₀).hmem = r₀.hmem := rfl
@[simp] theorem ringReadOnly_hpoison : (ringReadOnly s r₀).hpoison = s.hpoison := rfl
@[simp] theorem ringReadOnly_mapLines : (ringReadOnly s r₀).mapLines = r₀.mapLines := rfl
@[simp] theorem ringReadOnly_ds : (ringReadOnly s r₀).ds = r₀.ds := rfl
@[simp] theorem ringReadOnly_tcache : (ringReadOnly s r₀).tcache = s.tcache := rfl
@[simp] theorem ringReadOnly_ats : (ringReadOnly s r₀).ats = s.ats := rfl
@[simp] theorem ringReadOnly_invals : (ringReadOnly s r₀).invals = s.invals := rfl
@[simp] theorem ringReadOnly_windows : (ringReadOnly s r₀).windows = s.windows := rfl
@[simp] theorem ringReadOnly_winNext : (ringReadOnly s r₀).winNext = s.winNext := rfl
@[simp] theorem ringReadOnly_winFreed : (ringReadOnly s r₀).winFreed = s.winFreed := rfl
@[simp] theorem ringReadOnly_queues : (ringReadOnly s r₀).queues = r₀.queues := rfl
@[simp] theorem ringReadOnly_lists : (ringReadOnly s r₀).lists = s.lists := rfl
@[simp] theorem ringReadOnly_rrRoom : (ringReadOnly s r₀).rrRoom = s.rrRoom := rfl
@[simp] theorem ringReadOnly_rrQueue : (ringReadOnly s r₀).rrQueue = s.rrQueue := rfl
@[simp] theorem ringReadOnly_tilesHalted : (ringReadOnly s r₀).tilesHalted = s.tilesHalted := rfl
@[simp] theorem ringReadOnly_seawalls : (ringReadOnly s r₀).seawalls = s.seawalls := rfl
@[simp] theorem ringReadOnly_nextSeawall : (ringReadOnly s r₀).nextSeawall = s.nextSeawall := rfl
@[simp] theorem ringReadOnly_qps : (ringReadOnly s r₀).qps = s.qps := rfl
@[simp] theorem ringReadOnly_porch : (ringReadOnly s r₀).porch = s.porch := rfl
@[simp] theorem ringReadOnly_hot : (ringReadOnly s r₀).hot = s.hot := rfl
@[simp] theorem ringReadOnly_warm : (ringReadOnly s r₀).warm = s.warm := rfl
@[simp] theorem ringReadOnly_rooms : (ringReadOnly s r₀).rooms = s.rooms := rfl
@[simp] theorem ringReadOnly_coll : (ringReadOnly s r₀).coll = s.coll := rfl
@[simp] theorem ringReadOnly_errs : (ringReadOnly s r₀).errs = r₀.errs := rfl
@[simp] theorem ringReadOnly_fports : (ringReadOnly s r₀).fports = s.fports := rfl
@[simp] theorem ringReadOnly_router : (ringReadOnly s r₀).router = s.router := rfl
@[simp] theorem ringReadOnly_heldPkts : (ringReadOnly s r₀).heldPkts = s.heldPkts := rfl
@[simp] theorem ringReadOnly_ethResult : (ringReadOnly s r₀).ethResult = s.ethResult := rfl
@[simp] theorem ringReadOnly_tokens : (ringReadOnly s r₀).tokens = s.tokens := rfl
@[simp] theorem ringReadOnly_tokenFrac : (ringReadOnly s r₀).tokenFrac = s.tokenFrac := rfl
@[simp] theorem ringReadOnly_sealing : (ringReadOnly s r₀).sealing = s.sealing := rfl
@[simp] theorem ringReadOnly_doms : (ringReadOnly s r₀).doms = s.doms := rfl
@[simp] theorem ringReadOnly_lanes : (ringReadOnly s r₀).lanes = s.lanes := rfl
@[simp] theorem ringReadOnly_lasers : (ringReadOnly s r₀).lasers = s.lasers := rfl
@[simp] theorem ringReadOnly_laserEn : (ringReadOnly s r₀).laserEn = s.laserEn := rfl
@[simp] theorem ringReadOnly_peTemp : (ringReadOnly s r₀).peTemp = s.peTemp := rfl
@[simp] theorem ringReadOnly_power : (ringReadOnly s r₀).power = s.power := rfl
@[simp] theorem ringReadOnly_dict : (ringReadOnly s r₀).dict = s.dict := rfl
@[simp] theorem ringReadOnly_trv : (ringReadOnly s r₀).trv = s.trv := rfl
@[simp] theorem ringReadOnly_func (fn : Nat) : func (ringReadOnly s r₀) fn = func r₀ fn := rfl
@[simp] theorem ringReadOnly_hport (p : Nat) : hport (ringReadOnly s r₀) p = hport r₀ p := rfl
@[simp] theorem ringReadOnly_room (r : Nat) : room (ringReadOnly s r₀) r = room s r := rfl
@[simp] theorem ringReadOnly_roomOf (fn : Nat) : roomOf (ringReadOnly s r₀) fn = roomOf s fn := rfl
@[simp] theorem ringReadOnly_queue (fn q : Nat) : queue (ringReadOnly s r₀) fn q = queue r₀ fn q := rfl
@[simp] theorem ringReadOnly_qp (n : Nat) : qp (ringReadOnly s r₀) n = qp s n := rfl
@[simp] theorem ringReadOnly_fport (p : Nat) : fport (ringReadOnly s r₀) p = fport s p := rfl

/-! ## unitsOnly -/

@[simp] theorem unitsOnly_pending : (unitsOnly s r₀).pending = s.pending := rfl
@[simp] theorem unitsOnly_out : (unitsOnly s r₀).out = r₀.out := rfl
@[simp] theorem unitsOnly_free : (unitsOnly s r₀).free = s.free := rfl
@[simp] theorem unitsOnly_regs : (unitsOnly s r₀).regs = s.regs := rfl
@[simp] theorem unitsOnly_eff : (unitsOnly s r₀).eff = s.eff := rfl
@[simp] theorem unitsOnly_bufs : (unitsOnly s r₀).bufs = s.bufs := rfl
@[simp] theorem unitsOnly_events : (unitsOnly s r₀).events = r₀.events := rfl
@[simp] theorem unitsOnly_cnt : (unitsOnly s r₀).cnt = r₀.cnt := rfl
@[simp] theorem unitsOnly_snap : (unitsOnly s r₀).snap = s.snap := rfl
@[simp] theorem unitsOnly_arms : (unitsOnly s r₀).arms = s.arms := rfl
@[simp] theorem unitsOnly_objs : (unitsOnly s r₀).objs = s.objs := rfl
@[simp] theorem unitsOnly_objNow : (unitsOnly s r₀).objNow = s.objNow := rfl
@[simp] theorem unitsOnly_tide : (unitsOnly s r₀).tide = s.tide := rfl
@[simp] theorem unitsOnly_hports : (unitsOnly s r₀).hports = r₀.hports := rfl
@[simp] theorem unitsOnly_funcs : (unitsOnly s r₀).funcs = r₀.funcs := rfl
@[simp] theorem unitsOnly_hmem : (unitsOnly s r₀).hmem = r₀.hmem := rfl
@[simp] theorem unitsOnly_hpoison : (unitsOnly s r₀).hpoison = s.hpoison := rfl
@[simp] theorem unitsOnly_mem : (unitsOnly s r₀).mem = r₀.mem := rfl
@[simp] theorem unitsOnly_mapLines : (unitsOnly s r₀).mapLines = r₀.mapLines := rfl
@[simp] theorem unitsOnly_ds : (unitsOnly s r₀).ds = r₀.ds := rfl
@[simp] theorem unitsOnly_tcache : (unitsOnly s r₀).tcache = s.tcache := rfl
@[simp] theorem unitsOnly_ats : (unitsOnly s r₀).ats = s.ats := rfl
@[simp] theorem unitsOnly_invals : (unitsOnly s r₀).invals = s.invals := rfl
@[simp] theorem unitsOnly_windows : (unitsOnly s r₀).windows = s.windows := rfl
@[simp] theorem unitsOnly_winNext : (unitsOnly s r₀).winNext = s.winNext := rfl
@[simp] theorem unitsOnly_winFreed : (unitsOnly s r₀).winFreed = s.winFreed := rfl
@[simp] theorem unitsOnly_queues : (unitsOnly s r₀).queues = r₀.queues := rfl
@[simp] theorem unitsOnly_lists : (unitsOnly s r₀).lists = s.lists := rfl
@[simp] theorem unitsOnly_rrRoom : (unitsOnly s r₀).rrRoom = s.rrRoom := rfl
@[simp] theorem unitsOnly_rrQueue : (unitsOnly s r₀).rrQueue = s.rrQueue := rfl
@[simp] theorem unitsOnly_tilesHalted : (unitsOnly s r₀).tilesHalted = s.tilesHalted := rfl
@[simp] theorem unitsOnly_seawalls : (unitsOnly s r₀).seawalls = s.seawalls := rfl
@[simp] theorem unitsOnly_nextSeawall : (unitsOnly s r₀).nextSeawall = s.nextSeawall := rfl
@[simp] theorem unitsOnly_qps : (unitsOnly s r₀).qps = s.qps := rfl
@[simp] theorem unitsOnly_porch : (unitsOnly s r₀).porch = s.porch := rfl
@[simp] theorem unitsOnly_hot : (unitsOnly s r₀).hot = s.hot := rfl
@[simp] theorem unitsOnly_warm : (unitsOnly s r₀).warm = s.warm := rfl
@[simp] theorem unitsOnly_rooms : (unitsOnly s r₀).rooms = s.rooms := rfl
@[simp] theorem unitsOnly_coll : (unitsOnly s r₀).coll = s.coll := rfl
@[simp] theorem unitsOnly_fports : (unitsOnly s r₀).fports = s.fports := rfl
@[simp] theorem unitsOnly_router : (unitsOnly s r₀).router = s.router := rfl
@[simp] theorem unitsOnly_heldPkts : (unitsOnly s r₀).heldPkts = s.heldPkts := rfl
@[simp] theorem unitsOnly_ethResult : (unitsOnly s r₀).ethResult = s.ethResult := rfl
@[simp] theorem unitsOnly_tokens : (unitsOnly s r₀).tokens = s.tokens := rfl
@[simp] theorem unitsOnly_tokenFrac : (unitsOnly s r₀).tokenFrac = s.tokenFrac := rfl
@[simp] theorem unitsOnly_sealing : (unitsOnly s r₀).sealing = s.sealing := rfl
@[simp] theorem unitsOnly_doms : (unitsOnly s r₀).doms = s.doms := rfl
@[simp] theorem unitsOnly_lanes : (unitsOnly s r₀).lanes = s.lanes := rfl
@[simp] theorem unitsOnly_lasers : (unitsOnly s r₀).lasers = s.lasers := rfl
@[simp] theorem unitsOnly_laserEn : (unitsOnly s r₀).laserEn = s.laserEn := rfl
@[simp] theorem unitsOnly_peTemp : (unitsOnly s r₀).peTemp = s.peTemp := rfl
@[simp] theorem unitsOnly_power : (unitsOnly s r₀).power = s.power := rfl
@[simp] theorem unitsOnly_dict : (unitsOnly s r₀).dict = s.dict := rfl
@[simp] theorem unitsOnly_trv : (unitsOnly s r₀).trv = s.trv := rfl
@[simp] theorem unitsOnly_func (fn : Nat) : func (unitsOnly s r₀) fn = func r₀ fn := rfl
@[simp] theorem unitsOnly_hport (p : Nat) : hport (unitsOnly s r₀) p = hport r₀ p := rfl
@[simp] theorem unitsOnly_room (r : Nat) : room (unitsOnly s r₀) r = room s r := rfl
@[simp] theorem unitsOnly_roomOf (fn : Nat) : roomOf (unitsOnly s r₀) fn = roomOf s fn := rfl
@[simp] theorem unitsOnly_queue (fn q : Nat) : queue (unitsOnly s r₀) fn q = queue r₀ fn q := rfl
@[simp] theorem unitsOnly_qp (n : Nat) : qp (unitsOnly s r₀) n = qp s n := rfl
@[simp] theorem unitsOnly_fport (p : Nat) : fport (unitsOnly s r₀) p = fport s p := rfl

/-! ## dataOnly -/

@[simp] theorem dataOnly_pending : (dataOnly s r₀).pending = s.pending := rfl
@[simp] theorem dataOnly_out : (dataOnly s r₀).out = r₀.out := rfl
@[simp] theorem dataOnly_free : (dataOnly s r₀).free = r₀.free := rfl
@[simp] theorem dataOnly_regs : (dataOnly s r₀).regs = s.regs := rfl
@[simp] theorem dataOnly_eff : (dataOnly s r₀).eff = s.eff := rfl
@[simp] theorem dataOnly_bufs : (dataOnly s r₀).bufs = s.bufs := rfl
@[simp] theorem dataOnly_events : (dataOnly s r₀).events = r₀.events := rfl
@[simp] theorem dataOnly_cnt : (dataOnly s r₀).cnt = r₀.cnt := rfl
@[simp] theorem dataOnly_snap : (dataOnly s r₀).snap = s.snap := rfl
@[simp] theorem dataOnly_arms : (dataOnly s r₀).arms = s.arms := rfl
@[simp] theorem dataOnly_objs : (dataOnly s r₀).objs = s.objs := rfl
@[simp] theorem dataOnly_objNow : (dataOnly s r₀).objNow = r₀.objNow := rfl
@[simp] theorem dataOnly_tide : (dataOnly s r₀).tide = r₀.tide := rfl
@[simp] theorem dataOnly_hports : (dataOnly s r₀).hports = r₀.hports := rfl
@[simp] theorem dataOnly_funcs : (dataOnly s r₀).funcs = r₀.funcs := rfl
@[simp] theorem dataOnly_hmem : (dataOnly s r₀).hmem = r₀.hmem := rfl
@[simp] theorem dataOnly_hpoison : (dataOnly s r₀).hpoison = s.hpoison := rfl
@[simp] theorem dataOnly_mapLines : (dataOnly s r₀).mapLines = r₀.mapLines := rfl
@[simp] theorem dataOnly_ds : (dataOnly s r₀).ds = r₀.ds := rfl
@[simp] theorem dataOnly_tcache : (dataOnly s r₀).tcache = r₀.tcache := rfl
@[simp] theorem dataOnly_ats : (dataOnly s r₀).ats = r₀.ats := rfl
@[simp] theorem dataOnly_invals : (dataOnly s r₀).invals = s.invals := rfl
@[simp] theorem dataOnly_windows : (dataOnly s r₀).windows = s.windows := rfl
@[simp] theorem dataOnly_winNext : (dataOnly s r₀).winNext = s.winNext := rfl
@[simp] theorem dataOnly_winFreed : (dataOnly s r₀).winFreed = s.winFreed := rfl
@[simp] theorem dataOnly_queues : (dataOnly s r₀).queues = r₀.queues := rfl
@[simp] theorem dataOnly_lists : (dataOnly s r₀).lists = s.lists := rfl
@[simp] theorem dataOnly_rrRoom : (dataOnly s r₀).rrRoom = s.rrRoom := rfl
@[simp] theorem dataOnly_rrQueue : (dataOnly s r₀).rrQueue = s.rrQueue := rfl
@[simp] theorem dataOnly_tilesHalted : (dataOnly s r₀).tilesHalted = s.tilesHalted := rfl
@[simp] theorem dataOnly_seawalls : (dataOnly s r₀).seawalls = s.seawalls := rfl
@[simp] theorem dataOnly_nextSeawall : (dataOnly s r₀).nextSeawall = s.nextSeawall := rfl
@[simp] theorem dataOnly_qps : (dataOnly s r₀).qps = s.qps := rfl
@[simp] theorem dataOnly_porch : (dataOnly s r₀).porch = s.porch := rfl
@[simp] theorem dataOnly_hot : (dataOnly s r₀).hot = s.hot := rfl
@[simp] theorem dataOnly_warm : (dataOnly s r₀).warm = s.warm := rfl
@[simp] theorem dataOnly_rooms : (dataOnly s r₀).rooms = s.rooms := rfl
@[simp] theorem dataOnly_coll : (dataOnly s r₀).coll = s.coll := rfl
@[simp] theorem dataOnly_errs : (dataOnly s r₀).errs = r₀.errs := rfl
@[simp] theorem dataOnly_fports : (dataOnly s r₀).fports = r₀.fports := rfl
@[simp] theorem dataOnly_router : (dataOnly s r₀).router = s.router := rfl
@[simp] theorem dataOnly_heldPkts : (dataOnly s r₀).heldPkts = s.heldPkts := rfl
@[simp] theorem dataOnly_ethResult : (dataOnly s r₀).ethResult = s.ethResult := rfl
@[simp] theorem dataOnly_tokens : (dataOnly s r₀).tokens = s.tokens := rfl
@[simp] theorem dataOnly_tokenFrac : (dataOnly s r₀).tokenFrac = s.tokenFrac := rfl
@[simp] theorem dataOnly_sealing : (dataOnly s r₀).sealing = s.sealing := rfl
@[simp] theorem dataOnly_doms : (dataOnly s r₀).doms = s.doms := rfl
@[simp] theorem dataOnly_lanes : (dataOnly s r₀).lanes = r₀.lanes := rfl
@[simp] theorem dataOnly_lasers : (dataOnly s r₀).lasers = s.lasers := rfl
@[simp] theorem dataOnly_laserEn : (dataOnly s r₀).laserEn = s.laserEn := rfl
@[simp] theorem dataOnly_peTemp : (dataOnly s r₀).peTemp = s.peTemp := rfl
@[simp] theorem dataOnly_power : (dataOnly s r₀).power = s.power := rfl
@[simp] theorem dataOnly_dict : (dataOnly s r₀).dict = s.dict := rfl
@[simp] theorem dataOnly_trv : (dataOnly s r₀).trv = s.trv := rfl
@[simp] theorem dataOnly_func (fn : Nat) : func (dataOnly s r₀) fn = func r₀ fn := rfl
@[simp] theorem dataOnly_hport (p : Nat) : hport (dataOnly s r₀) p = hport r₀ p := rfl
@[simp] theorem dataOnly_room (r : Nat) : room (dataOnly s r₀) r = room s r := rfl
@[simp] theorem dataOnly_roomOf (fn : Nat) : roomOf (dataOnly s r₀) fn = roomOf s fn := rfl
@[simp] theorem dataOnly_queue (fn q : Nat) : queue (dataOnly s r₀) fn q = queue r₀ fn q := rfl
@[simp] theorem dataOnly_qp (n : Nat) : qp (dataOnly s r₀) n = qp s n := rfl
@[simp] theorem dataOnly_fport (p : Nat) : fport (dataOnly s r₀) p = fport r₀ p := rfl

/-! ## fabricOnly -/

@[simp] theorem fabricOnly_pending : (fabricOnly s r₀).pending = s.pending := rfl
@[simp] theorem fabricOnly_out : (fabricOnly s r₀).out = r₀.out := rfl
@[simp] theorem fabricOnly_free : (fabricOnly s r₀).free = s.free := rfl
@[simp] theorem fabricOnly_regs : (fabricOnly s r₀).regs = s.regs := rfl
@[simp] theorem fabricOnly_eff : (fabricOnly s r₀).eff = s.eff := rfl
@[simp] theorem fabricOnly_bufs : (fabricOnly s r₀).bufs = s.bufs := rfl
@[simp] theorem fabricOnly_events : (fabricOnly s r₀).events = r₀.events := rfl
@[simp] theorem fabricOnly_cnt : (fabricOnly s r₀).cnt = r₀.cnt := rfl
@[simp] theorem fabricOnly_snap : (fabricOnly s r₀).snap = s.snap := rfl
@[simp] theorem fabricOnly_arms : (fabricOnly s r₀).arms = s.arms := rfl
@[simp] theorem fabricOnly_objs : (fabricOnly s r₀).objs = s.objs := rfl
@[simp] theorem fabricOnly_objNow : (fabricOnly s r₀).objNow = s.objNow := rfl
@[simp] theorem fabricOnly_tide : (fabricOnly s r₀).tide = s.tide := rfl
@[simp] theorem fabricOnly_hports : (fabricOnly s r₀).hports = r₀.hports := rfl
@[simp] theorem fabricOnly_funcs : (fabricOnly s r₀).funcs = r₀.funcs := rfl
@[simp] theorem fabricOnly_hmem : (fabricOnly s r₀).hmem = s.hmem := rfl
@[simp] theorem fabricOnly_hpoison : (fabricOnly s r₀).hpoison = s.hpoison := rfl
@[simp] theorem fabricOnly_mem : (fabricOnly s r₀).mem = s.mem := rfl
@[simp] theorem fabricOnly_mapLines : (fabricOnly s r₀).mapLines = s.mapLines := rfl
@[simp] theorem fabricOnly_ds : (fabricOnly s r₀).ds = s.ds := rfl
@[simp] theorem fabricOnly_tcache : (fabricOnly s r₀).tcache = s.tcache := rfl
@[simp] theorem fabricOnly_ats : (fabricOnly s r₀).ats = s.ats := rfl
@[simp] theorem fabricOnly_invals : (fabricOnly s r₀).invals = s.invals := rfl
@[simp] theorem fabricOnly_windows : (fabricOnly s r₀).windows = s.windows := rfl
@[simp] theorem fabricOnly_winNext : (fabricOnly s r₀).winNext = s.winNext := rfl
@[simp] theorem fabricOnly_winFreed : (fabricOnly s r₀).winFreed = s.winFreed := rfl
@[simp] theorem fabricOnly_queues : (fabricOnly s r₀).queues = s.queues := rfl
@[simp] theorem fabricOnly_lists : (fabricOnly s r₀).lists = s.lists := rfl
@[simp] theorem fabricOnly_rrRoom : (fabricOnly s r₀).rrRoom = s.rrRoom := rfl
@[simp] theorem fabricOnly_rrQueue : (fabricOnly s r₀).rrQueue = s.rrQueue := rfl
@[simp] theorem fabricOnly_tilesHalted : (fabricOnly s r₀).tilesHalted = s.tilesHalted := rfl
@[simp] theorem fabricOnly_seawalls : (fabricOnly s r₀).seawalls = s.seawalls := rfl
@[simp] theorem fabricOnly_nextSeawall : (fabricOnly s r₀).nextSeawall = s.nextSeawall := rfl
@[simp] theorem fabricOnly_qps : (fabricOnly s r₀).qps = s.qps := rfl
@[simp] theorem fabricOnly_porch : (fabricOnly s r₀).porch = s.porch := rfl
@[simp] theorem fabricOnly_hot : (fabricOnly s r₀).hot = s.hot := rfl
@[simp] theorem fabricOnly_warm : (fabricOnly s r₀).warm = s.warm := rfl
@[simp] theorem fabricOnly_rooms : (fabricOnly s r₀).rooms = s.rooms := rfl
@[simp] theorem fabricOnly_coll : (fabricOnly s r₀).coll = s.coll := rfl
@[simp] theorem fabricOnly_errs : (fabricOnly s r₀).errs = s.errs := rfl
@[simp] theorem fabricOnly_fports : (fabricOnly s r₀).fports = r₀.fports := rfl
@[simp] theorem fabricOnly_router : (fabricOnly s r₀).router = s.router := rfl
@[simp] theorem fabricOnly_heldPkts : (fabricOnly s r₀).heldPkts = r₀.heldPkts := rfl
@[simp] theorem fabricOnly_ethResult : (fabricOnly s r₀).ethResult = s.ethResult := rfl
@[simp] theorem fabricOnly_tokens : (fabricOnly s r₀).tokens = r₀.tokens := rfl
@[simp] theorem fabricOnly_tokenFrac : (fabricOnly s r₀).tokenFrac = s.tokenFrac := rfl
@[simp] theorem fabricOnly_sealing : (fabricOnly s r₀).sealing = s.sealing := rfl
@[simp] theorem fabricOnly_doms : (fabricOnly s r₀).doms = s.doms := rfl
@[simp] theorem fabricOnly_lanes : (fabricOnly s r₀).lanes = s.lanes := rfl
@[simp] theorem fabricOnly_lasers : (fabricOnly s r₀).lasers = s.lasers := rfl
@[simp] theorem fabricOnly_laserEn : (fabricOnly s r₀).laserEn = s.laserEn := rfl
@[simp] theorem fabricOnly_peTemp : (fabricOnly s r₀).peTemp = s.peTemp := rfl
@[simp] theorem fabricOnly_power : (fabricOnly s r₀).power = s.power := rfl
@[simp] theorem fabricOnly_dict : (fabricOnly s r₀).dict = s.dict := rfl
@[simp] theorem fabricOnly_trv : (fabricOnly s r₀).trv = s.trv := rfl
@[simp] theorem fabricOnly_func (fn : Nat) : func (fabricOnly s r₀) fn = func r₀ fn := rfl
@[simp] theorem fabricOnly_hport (p : Nat) : hport (fabricOnly s r₀) p = hport r₀ p := rfl
@[simp] theorem fabricOnly_room (r : Nat) : room (fabricOnly s r₀) r = room s r := rfl
@[simp] theorem fabricOnly_roomOf (fn : Nat) : roomOf (fabricOnly s r₀) fn = roomOf s fn := rfl
@[simp] theorem fabricOnly_queue (fn q : Nat) : queue (fabricOnly s r₀) fn q = queue s fn q := rfl
@[simp] theorem fabricOnly_qp (n : Nat) : qp (fabricOnly s r₀) n = qp s n := rfl
@[simp] theorem fabricOnly_fport (p : Nat) : fport (fabricOnly s r₀) p = fport r₀ p := rfl

/-! ## keep -/

variable (l₀ : List Piece)

@[simp] theorem keep_pending : (keep l₀ s r₀).pending = s.pending := rfl
@[simp] theorem keep_out : (keep l₀ s r₀).out = if l₀.contains .out then r₀.out else s.out := rfl
@[simp] theorem keep_free : (keep l₀ s r₀).free = if l₀.contains .free then r₀.free else s.free := rfl
@[simp] theorem keep_regs : (keep l₀ s r₀).regs = if l₀.contains .regs then r₀.regs else s.regs := rfl
@[simp] theorem keep_eff : (keep l₀ s r₀).eff = if l₀.contains .eff then r₀.eff else s.eff := rfl
@[simp] theorem keep_bufs : (keep l₀ s r₀).bufs = if l₀.contains .bufs then r₀.bufs else s.bufs := rfl
@[simp] theorem keep_events : (keep l₀ s r₀).events = if l₀.contains .events then r₀.events else s.events := rfl
@[simp] theorem keep_cnt : (keep l₀ s r₀).cnt = if l₀.contains .cnt then r₀.cnt else s.cnt := rfl
@[simp] theorem keep_snap : (keep l₀ s r₀).snap = if l₀.contains .snap then r₀.snap else s.snap := rfl
@[simp] theorem keep_arms : (keep l₀ s r₀).arms = if l₀.contains .arms then r₀.arms else s.arms := rfl
@[simp] theorem keep_objs : (keep l₀ s r₀).objs = if l₀.contains .objs then r₀.objs else s.objs := rfl
@[simp] theorem keep_objNow : (keep l₀ s r₀).objNow = if l₀.contains .objNow then r₀.objNow else s.objNow := rfl
@[simp] theorem keep_tide : (keep l₀ s r₀).tide = if l₀.contains .tide then r₀.tide else s.tide := rfl
@[simp] theorem keep_hports : (keep l₀ s r₀).hports = if l₀.contains .hports then r₀.hports else s.hports := rfl
@[simp] theorem keep_funcs : (keep l₀ s r₀).funcs = if l₀.contains .funcs then r₀.funcs else s.funcs := rfl
@[simp] theorem keep_hmem : (keep l₀ s r₀).hmem = if l₀.contains .hmem then r₀.hmem else s.hmem := rfl
@[simp] theorem keep_hpoison : (keep l₀ s r₀).hpoison = if l₀.contains .hpoison then r₀.hpoison else s.hpoison := rfl
@[simp] theorem keep_mem : (keep l₀ s r₀).mem = if l₀.contains .mem then r₀.mem else s.mem := rfl
@[simp] theorem keep_mapLines : (keep l₀ s r₀).mapLines = if l₀.contains .mapLines then r₀.mapLines else s.mapLines := rfl
@[simp] theorem keep_ds : (keep l₀ s r₀).ds = if l₀.contains .ds then r₀.ds else s.ds := rfl
@[simp] theorem keep_tcache : (keep l₀ s r₀).tcache = if l₀.contains .tcache then r₀.tcache else s.tcache := rfl
@[simp] theorem keep_ats : (keep l₀ s r₀).ats = if l₀.contains .ats then r₀.ats else s.ats := rfl
@[simp] theorem keep_invals : (keep l₀ s r₀).invals = if l₀.contains .invals then r₀.invals else s.invals := rfl
@[simp] theorem keep_windows : (keep l₀ s r₀).windows = if l₀.contains .windows then r₀.windows else s.windows := rfl
@[simp] theorem keep_winNext : (keep l₀ s r₀).winNext = if l₀.contains .winNext then r₀.winNext else s.winNext := rfl
@[simp] theorem keep_winFreed : (keep l₀ s r₀).winFreed = if l₀.contains .winFreed then r₀.winFreed else s.winFreed := rfl
@[simp] theorem keep_queues : (keep l₀ s r₀).queues = if l₀.contains .queues then r₀.queues else s.queues := rfl
@[simp] theorem keep_lists : (keep l₀ s r₀).lists = if l₀.contains .lists then r₀.lists else s.lists := rfl
@[simp] theorem keep_rrRoom : (keep l₀ s r₀).rrRoom = if l₀.contains .rrRoom then r₀.rrRoom else s.rrRoom := rfl
@[simp] theorem keep_rrQueue : (keep l₀ s r₀).rrQueue = if l₀.contains .rrQueue then r₀.rrQueue else s.rrQueue := rfl
@[simp] theorem keep_tilesHalted : (keep l₀ s r₀).tilesHalted = if l₀.contains .tilesHalted then r₀.tilesHalted else s.tilesHalted := rfl
@[simp] theorem keep_seawalls : (keep l₀ s r₀).seawalls = if l₀.contains .seawalls then r₀.seawalls else s.seawalls := rfl
@[simp] theorem keep_nextSeawall : (keep l₀ s r₀).nextSeawall = if l₀.contains .nextSeawall then r₀.nextSeawall else s.nextSeawall := rfl
@[simp] theorem keep_qps : (keep l₀ s r₀).qps = if l₀.contains .qps then r₀.qps else s.qps := rfl
@[simp] theorem keep_porch : (keep l₀ s r₀).porch = if l₀.contains .porch then r₀.porch else s.porch := rfl
@[simp] theorem keep_hot : (keep l₀ s r₀).hot = if l₀.contains .hot then r₀.hot else s.hot := rfl
@[simp] theorem keep_warm : (keep l₀ s r₀).warm = if l₀.contains .warm then r₀.warm else s.warm := rfl
@[simp] theorem keep_rooms : (keep l₀ s r₀).rooms = if l₀.contains .rooms then r₀.rooms else s.rooms := rfl
@[simp] theorem keep_coll : (keep l₀ s r₀).coll = if l₀.contains .coll then r₀.coll else s.coll := rfl
@[simp] theorem keep_errs : (keep l₀ s r₀).errs = if l₀.contains .errs then r₀.errs else s.errs := rfl
@[simp] theorem keep_fports : (keep l₀ s r₀).fports = if l₀.contains .fports then r₀.fports else s.fports := rfl
@[simp] theorem keep_router : (keep l₀ s r₀).router = if l₀.contains .router then r₀.router else s.router := rfl
@[simp] theorem keep_heldPkts : (keep l₀ s r₀).heldPkts = if l₀.contains .heldPkts then r₀.heldPkts else s.heldPkts := rfl
@[simp] theorem keep_ethResult : (keep l₀ s r₀).ethResult = if l₀.contains .ethResult then r₀.ethResult else s.ethResult := rfl
@[simp] theorem keep_tokens : (keep l₀ s r₀).tokens = if l₀.contains .tokens then r₀.tokens else s.tokens := rfl
@[simp] theorem keep_tokenFrac : (keep l₀ s r₀).tokenFrac = if l₀.contains .tokenFrac then r₀.tokenFrac else s.tokenFrac := rfl
@[simp] theorem keep_sealing : (keep l₀ s r₀).sealing = if l₀.contains .sealing then r₀.sealing else s.sealing := rfl
@[simp] theorem keep_doms : (keep l₀ s r₀).doms = if l₀.contains .doms then r₀.doms else s.doms := rfl
@[simp] theorem keep_lanes : (keep l₀ s r₀).lanes = if l₀.contains .lanes then r₀.lanes else s.lanes := rfl
@[simp] theorem keep_lasers : (keep l₀ s r₀).lasers = if l₀.contains .lasers then r₀.lasers else s.lasers := rfl
@[simp] theorem keep_laserEn : (keep l₀ s r₀).laserEn = if l₀.contains .laserEn then r₀.laserEn else s.laserEn := rfl
@[simp] theorem keep_peTemp : (keep l₀ s r₀).peTemp = if l₀.contains .peTemp then r₀.peTemp else s.peTemp := rfl
@[simp] theorem keep_power : (keep l₀ s r₀).power = if l₀.contains .power then r₀.power else s.power := rfl
@[simp] theorem keep_dict : (keep l₀ s r₀).dict = if l₀.contains .dict then r₀.dict else s.dict := rfl
@[simp] theorem keep_trv : (keep l₀ s r₀).trv = if l₀.contains .trv then r₀.trv else s.trv := rfl
@[simp] theorem keep_func (fn : Nat) : func (keep l₀ s r₀) fn = if l₀.contains .funcs then func r₀ fn else func s fn := by
  unfold func; rw [keep_funcs]; by_cases h : l₀.contains .funcs = true <;> simp only [h, reduceIte] <;> rfl
@[simp] theorem keep_hport (p : Nat) : hport (keep l₀ s r₀) p = if l₀.contains .hports then hport r₀ p else hport s p := by
  unfold hport; rw [keep_hports]; by_cases h : l₀.contains .hports = true <;> simp only [h, reduceIte] <;> rfl
@[simp] theorem keep_room (r : Nat) : room (keep l₀ s r₀) r = if l₀.contains .rooms then room r₀ r else room s r := by
  unfold room; rw [keep_rooms]; by_cases h : l₀.contains .rooms = true <;> simp only [h, reduceIte] <;> rfl
@[simp] theorem keep_roomOf (fn : Nat) : roomOf (keep l₀ s r₀) fn = if l₀.contains .rooms then roomOf r₀ fn else roomOf s fn := by
  unfold roomOf; rw [keep_rooms]; by_cases h : l₀.contains .rooms = true <;> simp only [h, reduceIte] <;> rfl
@[simp] theorem keep_queue (fn q : Nat) : queue (keep l₀ s r₀) fn q = if l₀.contains .queues then queue r₀ fn q else queue s fn q := by
  unfold queue; rw [keep_queues]; by_cases h : l₀.contains .queues = true <;> simp only [h, reduceIte] <;> rfl
@[simp] theorem keep_qp (n : Nat) : qp (keep l₀ s r₀) n = if l₀.contains .qps then qp r₀ n else qp s n := by
  unfold qp; rw [keep_qps]; by_cases h : l₀.contains .qps = true <;> simp only [h, reduceIte] <;> rfl
@[simp] theorem keep_fport (p : Nat) : fport (keep l₀ s r₀) p = if l₀.contains .fports then fport r₀ p else fport s p := by
  unfold fport; rw [keep_fports]; by_cases h : l₀.contains .fports = true <;> simp only [h, reduceIte] <;> rfl
@[simp] theorem keep_evReg (b : Nat) : evReg (keep l₀ s r₀) b = if l₀.contains .events then evReg r₀ b else evReg s b := by
  unfold evReg; rw [keep_events]; by_cases h : l₀.contains .events = true <;> simp only [h, reduceIte] <;> rfl
@[simp] theorem keep_evBit (b i : Nat) : evBit (keep l₀ s r₀) b i = if l₀.contains .events then evBit r₀ b i else evBit s b i := by
  unfold evBit evReg; rw [keep_events]; by_cases h : l₀.contains .events = true <;> simp only [h, reduceIte] <;> rfl
@[simp] theorem keep_counter (off : Nat) : counter (keep l₀ s r₀) off = if l₀.contains .cnt then counter r₀ off else counter s off := by
  unfold counter; rw [keep_cnt]; by_cases h : l₀.contains .cnt = true <;> simp only [h, reduceIte] <;> rfl
@[simp] theorem keep_rd (off rst : Nat) : rd (keep l₀ s r₀) off rst = if l₀.contains .regs then rd r₀ off rst else rd s off rst := by
  unfold rd; rw [keep_regs]; by_cases h : l₀.contains .regs = true <;> simp only [h, reduceIte] <;> rfl

end Sys2Proof.Machine
end

