-- ==== Sys2Proof/Laws/Ops.lean ====
section
/-! SUPPORT. What the shared operations do, said once. -/

namespace Sys2Proof.Machine

open Sys2Proof

/-! ## Acting -/

/-- A vote changes nothing where no copies disagree (R1064). -/
theorem vote_nil {s : State} (h : s.trv = []) : vote s = s := by simp [vote, h]

theorem Live.vote {s : State} (h : Live s) : vote s = s := vote_nil h.2.2

/-- A command acts on a block that serves commands, and changes what it may. -/
theorem act_live {s : State} (h : Live s) (l : List Piece) (f : State → State) : act l f s = .next (keep l s (f s)) := by
  simp [act, h.1, h.2.1, h.vote]

/-- A command that FATAL does not stop acts on a block that serves commands. -/
theorem actAlways_live {s : State} (h : Live s) (l : List Piece) (f : State → State) : actAlways l f s = .next (keep l s (f s)) := by
  simp [actAlways, h.1, h.2.1, h.vote]

/-- A command whose meaning acts completes in the state that its effect gives. -/
theorem Completes.of_act {c : Instr} {s : State} {P : State → Prop} {l : List Piece} {f : State → State} (hc : exec c s = act l f s) (hl : Live s)
    (hp : P (keep l s (f s))) : Completes c s P := ⟨keep l s (f s), by rw [hc, act_live hl], hp⟩

theorem Completes.of_actAlways {c : Instr} {s : State} {P : State → Prop} {l : List Piece} {f : State → State} (hc : exec c s = actAlways l f s)
    (hl : Live s) (hp : P (keep l s (f s))) : Completes c s P := ⟨keep l s (f s), by rw [hc, actAlways_live hl], hp⟩

/-- An effect answers a next state, whatever the state it meets. -/
theorem act_next (l : List Piece) (f : State → State) (s : State) : ∃ t, act l f s = .next t := ⟨_, rfl⟩

theorem actAlways_next (l : List Piece) (f : State → State) (s : State) : ∃ t, actAlways l f s = .next t := ⟨_, rfl⟩

/-! ## Records read through their own update -/

@[simp] theorem func_modFunc (fn : Nat) (f : Func → Func) (s : State) : func (modFunc fn f s) fn = f (func s fn) := by simp [func, modFunc]

theorem func_modFunc_ne {fn g : Nat} (h : g ≠ fn) (f : Func → Func) (s : State) : func (modFunc fn f s) g = func s g := by simp [func, modFunc, h]

@[simp] theorem hport_modHport (p : Nat) (f : HostPort → HostPort) (s : State) : hport (modHport p f s) p = f (hport s p) := by
  simp [hport, modHport]

theorem hport_modHport_ne {p q : Nat} (h : q ≠ p) (f : HostPort → HostPort) (s : State) : hport (modHport p f s) q = hport s q := by
  simp [hport, modHport, h]

@[simp] theorem room_modRoom (r : Nat) (f : Room → Room) (s : State) : room (modRoom r f s) r = f (room s r) := by simp [room, modRoom]

theorem room_modRoom_ne {r q : Nat} (h : q ≠ r) (f : Room → Room) (s : State) : room (modRoom r f s) q = room s q := by simp [room, modRoom, h]

@[simp] theorem queue_modQueue (fn q : Nat) (f : Queue → Queue) (s : State) : queue (modQueue fn q f s) fn q = f (queue s fn q) := by
  simp [queue, modQueue]

theorem queue_modQueue_ne {fn q g k : Nat} (h : qkey g k ≠ qkey fn q) (f : Queue → Queue) (s : State) :
    queue (modQueue fn q f s) g k = queue s g k := by simp [queue, modQueue, h]

@[simp] theorem qp_modQp (n : Nat) (f : Qp → Qp) (s : State) : qp (modQp n f s) n = f (qp s n) := by simp [qp, modQp]

theorem qp_modQp_ne {n m : Nat} (h : m ≠ n) (f : Qp → Qp) (s : State) : qp (modQp n f s) m = qp s m := by simp [qp, modQp, h]

@[simp] theorem fport_modFport (p : Nat) (f : FPort → FPort) (s : State) : fport (modFport p f s) p = f (fport s p) := by simp [fport, modFport]

theorem fport_modFport_ne {p q : Nat} (h : q ≠ p) (f : FPort → FPort) (s : State) : fport (modFport p f s) q = fport s q := by
  simp [fport, modFport, h]

@[simp] theorem counter_bump (off : Nat) (s : State) : counter (bump off s) off = counter s off + 1 := by simp [counter, bump, bumpBy]

theorem counter_bump_ne {off o : Nat} (h : o ≠ off) (s : State) : counter (bump off s) o = counter s o := by simp [counter, bump, bumpBy, h]

@[simp] theorem rd_wr (off rst : Nat) (v : Word) (s : State) : rd (wr off v s) off rst = v := by simp [rd, wr]

theorem rd_wr_ne {off o : Nat} (h : o ≠ off) (rst : Nat) (v : Word) (s : State) : rd (wr off v s) o rst = rd s o rst := by simp [rd, wr, h]

/-! ## List records -/

theorem find_putList (r : ListRec) (l : List ListRec) :
    (putList r l).find? (fun x => x.fn == r.fn && x.queue == r.queue && x.list == r.list) = some r := by
  induction l with
  | nil => simp [putList]
  | cons x xs ih =>
    simp only [putList]
    split
    · simp
    · rename_i h
      have : (x.fn == r.fn && x.queue == r.queue && x.list == r.list) = false := by
        simp only [Bool.and_eq_false_iff, beq_eq_false_iff_ne]; grind
      simp [this, ih]

/-- A list record reads as it was set. -/
theorem findList_setList (r : ListRec) (s : State) : findList (setList r s) r.fn r.queue r.list = some r := find_putList r s.lists

@[simp] theorem findList_setList_of {fn q l : Nat} (r : ListRec) (s : State) (h1 : r.fn = fn) (h2 : r.queue = q) (h3 : r.list = l) :
    findList (setList r s) fn q l = some r := by subst h1 h2 h3; exact findList_setList r s

theorem findList_some {s : State} {fn q l : Nat} {r : ListRec} (h : findList s fn q l = some r) : r.fn = fn ∧ r.queue = q ∧ r.list = l := by
  have := List.find?_some h
  simp only [Bool.and_eq_true, beq_iff_eq] at this
  exact ⟨this.1.1, this.1.2, this.2⟩

/-- The record of a command's list names that list. -/
theorem listOf_names (s : State) (h : CmdHdr) (rm : Nat) : (listOf s h rm).fn = h.fn ∧ (listOf s h rm).queue = h.queue ∧ (listOf s h rm).list = h.list := by
  unfold listOf
  split
  · exact findList_some ‹_›
  · exact ⟨rfl, rfl, rfl⟩

/-! ## The front desk -/

/-- A front desk that takes a command that is not malformed runs it (R300). -/
theorem frontDesk_takes {s : State} {h : FdHdr} {op : Nat} (ht : Takes s h op) {own : State → Option Nat} (body : State → State) (ho : own s = none) :
    frontDesk h op own body s = body s := by simp [frontDesk, ht.2.1, ho]

/-- A front desk that takes a malformed command stops (R316). -/
theorem frontDesk_malformed {s : State} {h : FdHdr} {op d : Nat} (ht : Takes s h op) {own : State → Option Nat} (body : State → State)
    (ho : own s = some d) : frontDesk h op own body s = fdMalformed h op d s := by simp [frontDesk, ht.2.1, ho]


end Sys2Proof.Machine
end

