-- ==== Sys2Proof/Laws/Rings.lean ====
section
/-! SUPPORT. Rings and the front desk: what writing an entry, a completion, an event, a record or a response leaves. -/

namespace Sys2Proof.Machine

open Sys2Proof

@[simp] theorem resolveLines_funcs (a n : Nat) (s : State) : (resolveLines a n s).funcs = s.funcs := by
  simp only [resolveLines]; repeat' split
  all_goals rfl

@[simp] theorem locWrite_funcs (l : Loc) (d : List Byte) (s : State) : (locWrite l d s).funcs = s.funcs := by
  cases l <;> simp [locWrite]

@[simp] theorem putUnits_funcs (d : List Byte) (s : State) (ls : List Loc) : (putUnits d s ls).funcs = s.funcs := by
  induction ls generalizing d s with
  | nil => rfl
  | cons l r ih => simp [putUnits, ih]

/-- Writing an entry to a ring changes no function. -/
theorem tryPut_funcs {s t : State} {fn : Nat} {q : Queue} {d : List Byte} (h : tryPut s fn q d = .ok t) : t.funcs = s.funcs := by
  simp only [tryPut] at h
  split at h
  · cases h
  · split at h <;> cases h; simp

theorem tryPut_func {s t : State} {fn : Nat} {q : Queue} {d : List Byte} (h : tryPut s fn q d = .ok t) (g : Nat) : func t g = func s g := by
  simp [func, tryPut_funcs h]

/-- A message changes only the pending bits of its function. -/
@[simp] theorem msix_fd (fn v g : Nat) (s : State) : (func (msix fn v s) g).fd = (func s g).fd := by
  simp only [func, msix]
  by_cases hm : (mget s.funcs fn {}).masked.contains v = true
  · simp only [hm, if_true, mget_mmod]; split <;> simp_all
  · simp only [hm, if_false, Bool.false_eq_true]

@[simp] theorem ite_msix_fd (b : Bool) (fn v g : Nat) (s : State) : (func (if b = true then msix fn v s else s) g).fd = (func s g).fd := by
  cases b <;> simp

/-- A response leaves the command that runs on its front desk as it was, or ends it. -/
theorem putResp_running {h : FdHdr} {s : State} (hr : (func s h.fn).fd.running = none) (op : Nat) (r : FdResp) :
    (func (putResp h op r s) h.fn).fd.running = none := by
  simp only [putResp]
  split
  · rename_i hp
    have hf := tryPut_func hp h.fn
    rw [ite_msix_fd]; simp [hf, hr]
  · simp [modRsp, hr]
  · simp

/-- After its answer no command runs on a front desk (R300). -/
@[simp] theorem fdAnswer_running (h : FdHdr) (op : Nat) (r : FdResp) (s : State) : (func (fdAnswer h op r s) h.fn).fd.running = none := by
  simp only [fdAnswer, ledgerOnly_func]
  split
  · simp
  · exact putResp_running (by simp) op r

end Sys2Proof.Machine
end

