-- ==== Sys2Proof/Laws/Lists.lean ====
section
/-! SUPPORT. Engine commands: how one that begins goes on and ends. -/

namespace Sys2Proof.Machine

open Sys2Proof

/-- A command that waits for nothing and begins runs its body, and ends as the body says (R362, R369). -/
theorem engine_begins {s : State} {h : CmdHdr} {op cls rm : Nat} {own : State → Room → Option Nat} {body : ListRec → State → CEnd × State}
    (hw : h.wait = 0xFFFF) (he : h.epoch = 0) (hb : Begins s h op cls own rm) :
    engine h op cls own body s =
      endCmd h op ((findList (body (begun s h op rm) (begunState s h op rm)).2 h.fn h.queue h.list).getD (begun s h op rm))
        (body (begun s h op rm) (begunState s h op rm)).1 (body (begun s h op rm) (begunState s h op rm)).2 := by
  obtain ⟨hl, b1, b2, b3, b4, b5, b6, -, b7⟩ := hb
  have hc : (if (listOf s h rm).prog.isSome then none else cmdBad (queue s h.fn h.queue) (room s rm) h op cls
      (own s (room s rm))) = none := by simp [b6, b7]
  simp only [engine, b1, hc]
  rw [if_neg (by simp [b2, b3, b4, hl.1]), if_neg (by simp [b5]), if_neg (by simp [hw]), if_neg (by simp [hw]), if_neg (by simp [he])]
  rfl

@[simp] theorem begun_fn (s : State) (h : CmdHdr) (op rm : Nat) : (begun s h op rm).fn = h.fn := (listOf_names s h rm).1
@[simp] theorem begun_queue (s : State) (h : CmdHdr) (op rm : Nat) : (begun s h op rm).queue = h.queue := (listOf_names s h rm).2.1
@[simp] theorem begun_list (s : State) (h : CmdHdr) (op rm : Nat) : (begun s h op rm).list = h.list := (listOf_names s h rm).2.2

@[simp] theorem findList_begunState (s : State) (h : CmdHdr) (op rm : Nat) :
    findList (begunState s h op rm) h.fn h.queue h.list = some (begun s h op rm) :=
  findList_setList_of _ s (by simp) (by simp) (by simp)

/-- The record of a list after a command that did not end it. -/
def ListRec.stepped (r : ListRec) (flags : Nat) : ListRec :=
  { r with flags := flags ||| r.flags, signals := r.signals.tail, cur := none, waitMet := false, prog := none, hunits := [], pins := [] }

/-- A command in the midst of its list that completes OK only moves its list on (R343, R353). -/
theorem endCmd_plain_of {h : CmdHdr} (hp : Plain h) {op : Nat} (ho : op ≠ 3) (r : ListRec) {e : CEnd} (h1 : e.status = 0) (h2 : e.stall = false)
    (h3 : e.pend = false) (h4 : e.lost = false) (h5 : e.stops = false) (s : State) : endCmd h op r e s = setList (r.stepped e.flags) s := by
  obtain ⟨p1, p2, p3, p4, p5, p6⟩ := hp
  simp [endCmd, okCmd, p1, p4, p5, p6, ho, h1, h2, h3, h4, h5, lanternAdd, modLantern, ListRec.stepped]

theorem endCmd_plain {h : CmdHdr} (hp : Plain h) {op : Nat} (ho : op ≠ 3) (r : ListRec) (flags bytes : Nat) (s : State) :
    endCmd h op r { flags := flags, bytes := bytes } s = setList (r.stepped flags) s :=
  endCmd_plain_of hp ho r rfl rfl rfl rfl rfl s

/-- A command that goes on, or that has no effect, leaves the state as its body left it. -/
theorem endCmd_pend {h : CmdHdr} {op : Nat} (r : ListRec) {e : CEnd} (he : e.pend = true ∨ e.stall = true) (s : State) : endCmd h op r e s = s := by
  simp only [endCmd]; split
  · rfl
  · rcases he with he | he <;> simp_all

end Sys2Proof.Machine
end

