-- ==== Sys2Proof/Laws/Data.lean ====
section
/-! SUPPORT. Access to data in sound memory through a chart: where it resolves, that nothing stops it, what it reads, and all that reading and
writing do. -/

namespace Sys2Proof.Machine

open Sys2Proof

/-! ## What soundness and a chart depend on -/

theorem Sound.of_eq {s t : State} (hs : Sound s) (hm : t.mem = s.mem) (he : t.errs.latches = s.errs.latches) : Sound t := by
  simpa [Sound, hm, he] using hs

theorem Charted.of_eq {s t : State} {c : DCtx} {a n x : Nat} (hc : Charted s c a n x) (hr : t.rooms = s.rooms) : Charted t c a n x := by
  simpa [Charted, opndOf, room, hr] using hc

/-- The access code of a context plays no part in where an address lies. -/
theorem Charted.acc {s : State} {c : DCtx} {a n x : Nat} (hc : Charted s c a n x) (k : Nat) : Charted s { c with acc := k } a n x := hc

/-- A part of a charted range. -/
theorem Charted.sub {s : State} {c : DCtx} {a n x : Nat} (hc : Charted s c a n x) {k m : Nat} (hk : k + m ≤ n) (hm : 0 < m) :
    Charted s c (a + k) m (x + k) := by
  obtain ⟨h1, h2, h3, d, l, h4, h5, h6, h7, h8, h9⟩ := hc
  have e1 : (d + k) / 2 ^ 30 = d / 2 ^ 30 := by omega
  refine ⟨h1, h2, by omega, d + k, l, ?_, by omega, by rw [e1]; exact h6, h7, h8, by omega⟩
  intro i hi
  rw [Nat.add_assoc, h4 (k + i) (by omega), Nat.add_assoc]

/-- Storing bytes leaves sound memory sound. -/
theorem Sound.memStore {s t : State} (hs : Sound s) {x : Nat} {d : List Byte} (hm : t.mem = memStore s.mem x d)
    (he : t.errs.latches = s.errs.latches) : Sound t := by
  obtain ⟨h1, h2, h3, h4, h5⟩ := hs
  simp [Sound, hm, he, Machine.memStore, h1, h2, h3, h4]
  simpa using h5

/-! ## Where an access lies -/

theorem tableOk_sound {s : State} (hs : Sound s) (a : Nat) : tableOk s a = true := by
  simp [tableOk, lineBad, hs.1, hs.2.1]

theorem tableUse_sound {s : State} (hs : Sound s) (a : Nat) : tableUse a s = s := by
  simp [tableUse, lineBad, hs.1, hs.2.1]

theorem xlateAt_charted {s : State} (hs : Sound s) {c : DCtx} {a n x : Nat} (hc : Charted s c a n x) (hn0 : 0 < n)
    {need : Need} (hn : need = .read ∨ need = .write) : xlateAt s c a n need = .ok (.dev x, n) := by
  obtain ⟨h1, h2, h3, d, l, h4, h5, h6, h7, h8, h9⟩ := hc
  have ho : opndOf s c a = .dva d := h4 0 hn0
  have hf : anyFrozen s (chartEntryAt s c.room d) 8 = false := by simp [anyFrozen, hs.2.2.2.2.1]
  have hl : chartLeaf (room s c.room) d = some (l, d / 2 ^ 30 * 2 ^ 30) := by unfold chartLeaf; rw [h6]
  have hg : leafGives l need = true := by rcases hn with rfl | rfl <;> simp [leafGives, h7, h8]
  have e2 : l.dpa + (d - d / 2 ^ 30 * 2 ^ 30) = x := by omega
  have e3 : Nat.min n (d / 2 ^ 30 * 2 ^ 30 + 2 ^ 30 - d) = n := Nat.min_eq_left (by omega)
  simp only [xlateAt, h1, ho, hf, tableOk_sound hs, hl, hg, h6, e2, Option.isSome_some, if_true, e3]
  simp

theorem resolve_charted {s : State} (hs : Sound s) {c : DCtx} {a n x : Nat} (hc : Charted s c a n x) (hn0 : 0 < n)
    {need : Need} (hn : need = .read ∨ need = .write) : resolve s c a n need = ([{ off := 0, loc := .dev x, len := n }], none) := by
  simp only [resolve, resolveGo, xlateAt_charted hs hc hn0 hn]
  simp [Nat.ne_of_gt hn0]

/-! ## Nothing stops it -/

theorem anyFrozen_sound {s : State} (hs : Sound s) (a n : Nat) : anyFrozen s a n = false := by simp [anyFrozen, hs.2.2.2.2.1]

theorem deadAt_sound {s : State} (hs : Sound s) (a n : Nat) : deadAt s a n = none := by
  have h := hs.2.2.2.2.2
  simp only [deadAt, h, if_true]

theorem mapAt_sound {s : State} (hs : Sound s) (a n : Nat) : mapAt s a n = none := by simp [mapAt, hs.2.2.2.1]

theorem firstAbsent_low {s : State} {a n : Nat} (h : a + n ≤ 0x4000000000) : firstAbsent s a n = none := by
  unfold firstAbsent
  split
  · rfl
  · have h1 : dpaPresent s a = true := by unfold dpaPresent; rw [if_pos (by omega)]
    have hno : ∀ y, 0x4000000000 ≤ y → (decide (a < y) && decide (y < a + n) && !dpaPresent s y) = false := by
      intro y hy
      have : decide (y < a + n) = false := by simp; omega
      simp [this]
    simp only [h1, Bool.not_true, Bool.false_eq_true, if_false]
    have hnil : ∀ l : List Nat, (∀ y ∈ l, 0x4000000000 ≤ y) →
        sleast l (fun x => decide (a < x) && decide (x < a + n) && !dpaPresent s x) = none := by
      intro l hl
      induction l with
      | nil => rfl
      | cons y r ih =>
        have hy := hno y (hl y List.mem_cons_self)
        simp only [sleast, ih (fun z hz => hl z (List.mem_cons_of_mem _ hz)), hy, Bool.false_eq_true, if_false]
    exact hnil _ (by simp; omega)

theorem firstBad_sound {s : State} (hs : Sound s) {a n : Nat} (h : a + n ≤ 0x4000000000) : firstBad s a n = none := by
  simp [firstBad, mapAt_sound hs, hs.1, hs.2.1, deadAt_sound hs, firstAbsent_low h, lowBad, sleast]

theorem firstBadW_sound {s : State} (hs : Sound s) {a n : Nat} (h : a + n ≤ 0x4000000000) : firstBadW s a n = none := by
  simp [firstBadW, mapAt_sound hs, hs.1, hs.2.1, deadAt_sound hs, firstAbsent_low h, lowBad, sleast]

theorem readStop_charted {s : State} (hs : Sound s) {c : DCtx} {a n x : Nat} (hc : Charted s c a n x) (hn0 : 0 < n) : readStop s c a n = none := by
  simp [readStop, resolve_charted hs hc hn0 (.inl rfl), firstStop, segReadBad, anyFrozen_sound hs, firstBad_sound hs hc.2.2.1]

theorem writeStop_charted {s : State} (hs : Sound s) {c : DCtx} {a n x : Nat} (hc : Charted s c a n x) (hn0 : 0 < n) : writeStop s c a n = none := by
  simp [writeStop, resolve_charted hs hc hn0 (.inr rfl), firstStop, segWriteBad, anyFrozen_sound hs, firstBadW_sound hs hc.2.2.1]

/-- A list of accesses, each to a charted range, meets nothing. -/
theorem firstAccess_charted {s : State} (hs : Sound s) {c : DCtx} : ∀ {l : List (Bool × Nat × Nat)},
    (∀ y ∈ l, 0 < y.2.2 ∧ ∃ x, Charted s c y.2.1 y.2.2 x) → firstAccess s c l = none
  | [], _ => rfl
  | (w, a, n) :: r, h => by
    obtain ⟨h0, x, hx⟩ := h (w, a, n) List.mem_cons_self
    have hr := firstAccess_charted hs (l := r) (fun y hy => h y (List.mem_cons_of_mem _ hy))
    simp only [firstAccess]
    cases w <;> simp [readStop_charted hs (hx.acc 5) h0, writeStop_charted hs (hx.acc 6) h0, hr]

/-! ## What it reads -/

theorem peekData_charted {s : State} (hs : Sound s) {c : DCtx} {a n x : Nat} (hc : Charted s c a n x) (hn0 : 0 < n) :
    peekData s c a n .read = devRead s x n := by
  simp [peekData, resolve_charted hs hc hn0 (.inl rfl), segBytes]

theorem loadLe_charted {s : State} (hs : Sound s) {c : DCtx} {a n x : Nat} (hc : Charted s c a n x) (hn0 : 0 < n) :
    loadLe s c a n = ofLe (devRead s x n) := by rw [loadLe, peekData_charted hs (hc.acc 5) hn0]

/-! ## What reading and writing change -/

/-- What an access to data leaves alone: rooms, lists, queues, the latches and lanterns. -/
def AsWas (s t : State) : Prop := t.rooms = s.rooms ∧ t.lists = s.lists ∧ t.errs = s.errs ∧ t.objs = s.objs ∧ t.coll = s.coll

theorem AsWas.refl (s : State) : AsWas s s := ⟨rfl, rfl, rfl, rfl, rfl⟩

theorem AsWas.trans {s t u : State} (h : AsWas s t) (g : AsWas t u) : AsWas s u :=
  ⟨g.1.trans h.1, g.2.1.trans h.2.1, g.2.2.1.trans h.2.2.1, g.2.2.2.1.trans h.2.2.2.1, g.2.2.2.2.trans h.2.2.2.2⟩

/-- Whatever an access to data does, it keeps rooms and lists. -/
theorem dataOnly_kept (s r : State) : (dataOnly s r).rooms = s.rooms ∧ (dataOnly s r).lists = s.lists ∧ (dataOnly s r).objs = s.objs ∧
    (dataOnly s r).coll = s.coll := ⟨rfl, rfl, rfl, rfl⟩

@[simp] theorem tlbReplace_mem (l : List TEntry) (e : TEntry) (s : State) : (tlbReplace l e s).mem = s.mem := by
  simp only [tlbReplace]; split <;> rfl

@[simp] theorem tlbReplace_errs (l : List TEntry) (e : TEntry) (s : State) : (tlbReplace l e s).errs = s.errs := by
  simp only [tlbReplace]; split <;> rfl

@[simp] theorem tlbFill_mem (e : TEntry) (s : State) : (tlbFill e s).mem = s.mem := by
  simp only [tlbFill]; split <;> simp

@[simp] theorem tlbFill_errs (e : TEntry) (s : State) : (tlbFill e s).errs = s.errs := by
  simp only [tlbFill]; split <;> simp

@[simp] theorem tlbUse_mem (e : TEntry) (s : State) : (tlbUse e s).mem = s.mem := by
  simp only [tlbUse]; split
  · rfl
  · rw [tlbFill_mem]; rfl

@[simp] theorem tlbUse_errs (e : TEntry) (s : State) : (tlbUse e s).errs = s.errs := by
  simp only [tlbUse]; split
  · rfl
  · rw [tlbFill_errs]; rfl

/-- Counting changes counters alone. -/
@[simp] theorem countBlocks_mem (o : Nat) (f : Nat → Nat) (l : List Nat) (s : State) : (countBlocks o f l s).mem = s.mem := by
  induction l generalizing s with
  | nil => rfl
  | cons b r ih => simp only [countBlocks, List.foldl_cons] at ih ⊢; rw [ih]; split <;> rfl

@[simp] theorem countBlocks_errs (o : Nat) (f : Nat → Nat) (l : List Nat) (s : State) : (countBlocks o f l s).errs = s.errs := by
  induction l generalizing s with
  | nil => rfl
  | cons b r ih => simp only [countBlocks, List.foldl_cons] at ih ⊢; rw [ih]; split <;> rfl

@[simp] theorem countRead_mem (a n : Nat) (s : State) : (countRead a n s).mem = s.mem := by simp [countRead, mapUse]
@[simp] theorem countRead_errs (a n : Nat) (s : State) : (countRead a n s).errs = s.errs := by simp [countRead, mapUse]

/-- Asking the host to give shared lines back changes no state but what is sent (R141, R142). -/
@[simp] theorem resolveLines_mem (a n : Nat) (s : State) : (resolveLines a n s).mem = s.mem := by simp only [resolveLines]; split <;> rfl
@[simp] theorem resolveLines_errs (a n : Nat) (s : State) : (resolveLines a n s).errs = s.errs := by simp only [resolveLines]; split <;> rfl

theorem correctRange_sound {s : State} (h : s.mem.latentCe = []) (a n : Nat) : correctRange a n s = s := by
  simp [correctRange, h]

theorem useSeg_charted {s : State} (hs : Sound s) {c : DCtx} {a n x : Nat} (hc : Charted s c a n x) (hn0 : 0 < n) (g : Seg) (hg : g.off = 0) :
    (useSeg c a g s).mem = s.mem ∧ (useSeg c a g s).errs = s.errs := by
  obtain ⟨h1, h2, h3, d, l, h4, h5, h6, h7, h8, h9⟩ := hc
  have ho : opndOf s c (a + g.off) = .dva d := by rw [hg]; exact h4 0 hn0
  simp [useSeg, h1, ho, tableUse_sound hs]

/-- Reading a charted range changes no memory. -/
theorem readEff_charted {s : State} (hs : Sound s) {c : DCtx} {a n x : Nat} (hc : Charted s c a n x) (hn0 : 0 < n) :
    (readEff c a n s).mem = s.mem ∧ AsWas s (readEff c a n s) := by
  have hu := useSeg_charted hs hc hn0 { off := 0, loc := .dev x, len := n } rfl
  have hk : (countRead x n (resolveLines x n (useSeg c a { off := 0, loc := .dev x, len := n } s))).mem.latentCe = [] := by simp [hu.1, hs.2.2.1]
  have hr : (readEff c a n s) = dataOnly s (countRead x n (resolveLines x n (useSeg c a { off := 0, loc := .dev x, len := n } s))) := by
    simp [readEff, resolve_charted hs hc hn0 (.inl rfl), readSegEff, correctRange_sound hk]
  rw [hr]
  refine ⟨?_, rfl, rfl, ?_, rfl, rfl⟩
  · simp [dataOnly, ledgerOnly, hu.1]
  · simp [dataOnly, hu.2]

theorem loadEff_charted {s : State} (hs : Sound s) {c : DCtx} {a n x : Nat} (hc : Charted s c a n x) (hn0 : 0 < n) :
    (loadEff c a n s).mem = s.mem ∧ AsWas s (loadEff c a n s) := readEff_charted hs (hc.acc 5) hn0

/-- The reads of a list of accesses to charted ranges change no memory. -/
theorem loads_charted {c : DCtx} : ∀ {l : List (Bool × Nat × Nat)} {s : State}, Sound s → (∀ y ∈ l, 0 < y.2.2 ∧ ∃ x, Charted s c y.2.1 y.2.2 x) →
    (l.foldl (fun s y => if y.1 then s else loadEff c y.2.1 y.2.2 s) s).mem = s.mem ∧
      AsWas s (l.foldl (fun s y => if y.1 then s else loadEff c y.2.1 y.2.2 s) s)
  | [], s, _, _ => ⟨rfl, AsWas.refl s⟩
  | (w, a, n) :: r, s, hs, h => by
    obtain ⟨h0, x, hx⟩ := h (w, a, n) List.mem_cons_self
    simp only [List.foldl_cons]
    cases w
    · obtain ⟨h1, h2⟩ := loadEff_charted hs hx h0
      have := loads_charted (c := c) (l := r) (s := loadEff c a n s) (hs.of_eq h1 (by rw [h2.2.2.1]))
        (fun y hy => ⟨(h y (List.mem_cons_of_mem _ hy)).1, (h y (List.mem_cons_of_mem _ hy)).2.imp fun x hx => hx.of_eq h2.1⟩)
      exact ⟨this.1.trans h1, h2.trans this.2⟩
    · exact loads_charted hs (fun y hy => h y (List.mem_cons_of_mem _ hy))

/-- Writing a charted range stores its bytes. -/
theorem writeEff_charted {s : State} (hs : Sound s) {c : DCtx} {a x : Nat} {d : List Byte} (hc : Charted s c a d.length x) (hn0 : 0 < d.length) :
    (writeEff c a d s).mem = memStore s.mem x d ∧ AsWas s (writeEff c a d s) := by
  have hu := useSeg_charted hs hc hn0 { off := 0, loc := .dev x, len := d.length } rfl
  have hr : (writeEff c a d s) = dataOnly s (devWrite x d (resolveLines x d.length (useSeg c a { off := 0, loc := .dev x, len := d.length } s))) := by
    simp [writeEff, resolve_charted hs hc hn0 (.inr rfl), writeSeg]
  rw [hr]
  refine ⟨?_, rfl, rfl, ?_, rfl, rfl⟩
  · simp [dataOnly, devWrite, memStore, hu.1]
  · simp [dataOnly, devWrite, hu.2]

/-! ## Harbour units -/

/-- Every listed byte of device memory lies in a block whose valid bit is set (R183, R184). -/
def DevMem.listed (m : DevMem) : Prop := m.cells.all (fun c => m.valid.contains (c.1 / 4096)) = true

theorem clearBlocks_listed (m : DevMem) (b n : Nat) (h : m.listed) : (clearBlocks m b n).listed := by
  simp only [DevMem.listed, clearBlocks, List.all_filter, List.all_eq_true] at h ⊢
  intro c hc
  have := h c hc
  simp only [List.contains_iff_mem] at this ⊢
  by_cases hin : b * 4096 ≤ c.1 ∧ c.1 < (b + n) * 4096
  · simp [hin]
  · have : ¬(b ≤ c.1 / 4096 ∧ c.1 / 4096 < b + n) := by omega
    simp_all
    omega

/-- Clearing units one by one clears their bytes alone, and keeps the canonical form. -/
theorem clearUnits_frame (d : Nat) : ∀ (l : List Nat) {m : DevMem}, Memory.wf m.cells = true → m.listed →
    Memory.wf (l.foldl (fun m u => clearBlocks m (unitBlock d u) 16) m).cells = true ∧
    (l.foldl (fun m u => clearBlocks m (unitBlock d u) 16) m).listed ∧ ∀ x, (∀ u ∈ l, x / 0x10000 ≠ unitBlock d u / 16) →
      cellGet (l.foldl (fun m u => clearBlocks m (unitBlock d u) 16) m).cells x = cellGet m.cells x
  | [], _, h, g => ⟨h, g, fun _ _ => rfl⟩
  | u :: r, m, h, g => by
    obtain ⟨h1, h3, h2⟩ := clearUnits_frame d r (clearBlocks_wf m (unitBlock d u) 16 h) (clearBlocks_listed m (unitBlock d u) 16 g)
    refine ⟨h1, h3, fun x hx => ?_⟩
    have hu := hx u List.mem_cons_self
    rw [List.foldl_cons, h2 x (fun v hv => hx v (List.mem_cons_of_mem _ hv)), cellGet_clearBlocks m _ 16 x h, if_neg]
    simp only [unitBlock] at hu ⊢
    omega

/-- Taking Harbour units changes only the bytes of the units taken (R197), and keeps the canonical form. -/
theorem takeUnits_frame {s : State} (hw : s.memWf = true) (d n : Nat) :
    (takeUnits d n s).2.memWf = true ∧ ∀ x, (∀ u ∈ (takeUnits d n s).1, x / 0x10000 ≠ unitBlock d u / 16) →
      cellGet (takeUnits d n s).2.mem.cells x = cellGet s.mem.cells x := by
  simp only [State.memWf, Bool.and_eq_true] at hw ⊢
  obtain ⟨h1, h3, h2⟩ := clearUnits_frame d (takeUnits d n s).1 hw.1.1 hw.2
  exact ⟨⟨⟨h1, hw.1.2⟩, h3⟩, h2⟩

/-! ## Bytes of a number -/

theorem length_leBytes : ∀ (n v : Nat), (leBytes n v).length = n
  | 0, _ => rfl
  | n + 1, v => by simp [leBytes, length_leBytes n]

theorem storeLe_charted {s : State} (hs : Sound s) {c : DCtx} {a n x v : Nat} (hc : Charted s c a n x) (hn0 : 0 < n) :
    (storeLe c a n v s).mem = memStore s.mem x (leBytes n v) ∧ AsWas s (storeLe c a n v s) := by
  have hl := length_leBytes n v
  exact writeEff_charted hs (c := { c with acc := 6 }) (by rw [hl]; exact hc) (by omega)

end Sys2Proof.Machine
end

