-- ==== Sys2Proof/WellFormed.lean ====
section
/-! DEFINITION. Well-formed commands: operands within the fields and ranges of the spec. -/

namespace Sys2Proof

/-- A number of at most w bits. -/
def bits (w n : Nat) : Bool := decide (n < 2 ^ w)

/-- A number below a bound. -/
def below (b n : Nat) : Bool := decide (n < b)

/-- The header of a front desk command (R301): function, ring index, TAG, RESULT_ADDR, ROOM. -/
def FdHdr.wf (h : FdHdr) : Bool := below 520 h.fn && bits 32 h.index && bits 32 h.tag && bits 64 h.resultAddr && below 256 h.room

/-- The common header of an engine command (R344, R345). -/
def CmdHdr.wf (h : CmdHdr) : Bool :=
  below 520 h.fn && below 4096 h.queue && bits 32 h.list && bits 32 h.index && bits 8 h.units && bits 32 h.tag && bits 8 h.epoch &&
    bits 16 h.signal && bits 16 h.wait && bits 32 h.waitTimeout && bits 32 h.waitTarget

/-- A work request (R454). -/
def WorkReq.wf (w : WorkReq) : Bool :=
  below 520 w.fn && below 4096 w.queue && bits 32 w.index && bits 8 w.units && bits 32 w.tag && bits 24 w.qpn && bits 8 w.epoch && bits 64 w.localAddr &&
    bits 64 w.remoteAddr && bits 32 w.key && bits 40 w.bytes && bits 32 w.immediate && bits 16 w.lantern

/-- A packet (R394): the base header's fields. -/
def Pkt.wf (p : Pkt) : Bool :=
  bits 4 p.version && bits 3 p.tc && bits 8 p.opcode && bits 8 p.hopsLeft && bits 16 p.dstNode && bits 16 p.srcNode && bits 24 p.dstQpn && bits 8 p.path &&
    bits 24 p.srcQpn && bits 8 p.epoch && bits 32 p.trailer && below 4097 p.payload.length

/-- What a host configures (R121, R124): sizes are powers of two in their ranges, and an HDM decoder is aligned to 256 MiB. -/
def HostCfg.wf (c : HostCfg) : Bool :=
  [128, 256, 512].contains c.mps && [128, 256, 512, 1024, 2048, 4096].contains c.mrrs && bits 32 c.priAlloc &&
    (match c.hdm with | some b => bits 64 b && b % 2 ^ 28 == 0 | none => true)

/-- The accesses of a register write: byte enables are a mask of eight bits (R1049). -/
def partsWf (l : List (Part × Word)) : Bool := l.all (fun x => match x.1 with | .bytes e => bits 8 e | _ => true)

/-- A time beacon (R81). -/
def Beacon.wf (b : Beacon) : Bool := bits 4 b.version && bits 8 b.hops && bits 8 b.seq && bits 16 b.node && bits 8 b.prio && bits 8 b.echoSeq

/-- A DATA frame (R819). -/
def DFrame.wf (f : DFrame) : Bool := f.pkt.wf && decide (f.hdr.length = 8)

/-- The headers of an Ethernet frame (R830). -/
def EthHdr.wf (h : EthHdr) : Bool :=
  bits 48 h.dst && bits 48 h.src && bits 3 h.pcp && bits 6 h.dscp && bits 2 h.ecn && bits 8 h.hops && bits 128 h.srcIp && bits 128 h.dstIp &&
    bits 16 h.sport && bits 16 h.dport && bits 16 h.ethertype

/-- The operands of an update command (R611). -/
def UpdArgs.wf (u : UpdArgs) : Bool :=
  bits 32 u.count && bits 4 u.gradFmt && bits 4 u.outFmt && bits 4 u.stateFmt && bits 2 u.phase && bits 16 u.chunkLantern && bits 16 u.inputLantern &&
    bits 32 u.step && bits 32 u.start && bits 32 u.lr && bits 32 u.hp1 && bits 32 u.hp2 && bits 32 u.eps && bits 32 u.wd && bits 32 u.gscale &&
    bits 64 u.grad && bits 64 u.base && bits 64 u.out

/-- The operands of a codec command (R651). -/
def CdcArgs.wf (c : CdcArgs) : Bool :=
  bits 32 c.count && bits 4 c.inFmt && bits 4 c.outFmt && bits 4 c.auxFmt && bits 16 c.chunkLantern && bits 16 c.inputLantern && bits 32 c.mul &&
    bits 64 c.src && bits 64 c.srcScale && bits 64 c.dst && bits 64 c.dstScale && bits 64 c.res

/-- The operands of a bulk collective (R541). -/
def BulkArgs.wf (b : BulkArgs) : Bool :=
  bits 16 b.party && bits 16 b.itin && bits 16 b.chunkLantern && bits 16 b.expLantern && bits 16 b.inputLantern && bits 16 b.timeout && bits 32 b.count &&
    bits 64 b.dst && b.srcs.all (bits 64)

/-- The operands of a barrier or scalar reduction (R704). -/
def ScalarArgs.wf (c : ScalarArgs) : Bool := bits 16 c.party && bits 4 c.op && bits 4 c.dtype && bits 16 c.count && bits 16 c.timeout && bits 64 c.src && bits 64 c.dst

/-- Where a Relivicel frame comes from (R1004). -/
def RSrc.wf : RSrc → Bool
  | .mctp p => below 8 p
  | .sideband => true
  | .udp a p => bits 128 a && bits 16 p
  | .inband p => below 32 p

/-- A Relivicel frame (R1009, R1013, R1023). -/
def RFrame.wf (f : RFrame) : Bool :=
  bits 4 f.version && bits 4 f.type && bits 16 f.tag && bits 3 f.keyId && bits 8 f.status && bits 16 f.index && bits 8 f.sub && bits 32 f.offset &&
    (match f.auth with | some a => bits 32 a.1 && a.2.length == 16 | none => true) &&
    (match f.route with | some r => bits 8 r.hops && bits 8 r.hopIndex && r.ports.length == 16 | none => true)

/-- Whether each operand of a command lies in the field or range that the spec gives it. What a command with an operand outside does is its meaning's
affair; a sender can write only well-formed ones. -/
def Instr.wf : Instr → Bool
  | .beaconSend port => below 32 port
  | .beaconReceive port frame _ => below 32 port && below 9217 frame.length
  | .neighbourLoss port => below 32 port
  | .rateAdjust => true
  | .holdoverExpired => true
  | .ppsEdge _ _ => true
  | .clk10mLoss => true
  | .ppsOutEdge => true
  | .ptpMessage _ => true
  | .tideNowRead fn _ _ => below 520 fn
  | .tdGclCommit fn port => below 520 fn && below 32 port
  | .tableSwitched port => below 32 port
  | .gateEntryBoundary port => below 32 port
  | .slackWaterStart port cls => below 32 port && below 8 cls
  | .timedWaitFire _ => true
  | .bufTakeEffect off port _ => bits 26 off && below 32 port
  | .hostLinkUp port rate width _ _ cfg => below 8 port && bits 4 rate && bits 5 width && cfg.wf
  | .retrainHeld port => below 8 port
  | .retrainResumed port rate width _ => below 8 port && bits 4 rate && bits 5 width
  | .linkLost port => below 8 port
  | .perst port => below 8 port
  | .hotReset port => below 8 port
  | .flr fn => below 520 fn
  | .vfEnable port numVfs cfg => below 8 port && below 65 numVfs && cfg.wf
  | .vfDisable port numVfs => below 8 port && below 65 numVfs
  | .hostCxlmemAccess port addr _ _ => below 8 port && bits 64 addr
  | .hostSnoop port addr => below 8 port && bits 64 addr
  | .biasDevice h _ => h.wf
  | .memwinEnable fn port => below 520 fn && below 8 port
  | .memwinDisable fn port => below 520 fn && below 8 port
  | .memwinSweepDone port => below 8 port
  | .memwinBaseWrite fn port base => below 520 fn && below 8 port && bits 18 base
  | .seawall h => h.wf
  | .seawallComplete _ => true
  | .invalidateRequest fn pasid addr size tag => below 520 fn && bits 20 pasid && bits 64 addr && bits 32 size && bits 16 tag
  | .invalidateCompletion fn tag => below 520 fn && bits 16 tag
  | .translationCompletion fn pasid addr status size xaddr _ _ => below 520 fn && bits 20 pasid && bits 64 addr && bits 8 status && bits 32 size && bits 64 xaddr
  | .pageRequestResponse fn pasid addr code => below 520 fn && bits 20 pasid && bits 64 addr && bits 8 code
  | .priTimeout fn pasid addr => below 520 fn && bits 20 pasid && bits 64 addr
  | .dsPortEnumerate ds _ _ => below 4 ds
  | .dsLinkFail ds _ => below 4 ds
  | .dsEnableCycle ds _ => below 4 ds
  | .memGrant h first count => h.wf && bits 32 first && bits 32 count
  | .memReclaim h first count => h.wf && bits 32 first && bits 32 count
  | .reclaimDone extent => below 6144 extent
  | .memQuery h first count => h.wf && bits 32 first && bits 32 count
  | .harbourReserve h die units => h.wf && below 2 die && bits 16 units
  | .harbourUnitsGranted die _ => below 2 die
  | .copyMove h dst src len _ => h.wf && bits 64 dst && bits 64 src && bits 64 len
  | .copyFill h dst len _ _ => h.wf && bits 64 dst && bits 64 len
  | .copyZero h dst len _ => h.wf && bits 64 dst && bits 64 len
  | .freezeSet fn unit => below 520 fn && below 80 unit
  | .unitDrained unit => below 80 unit
  | .freezeLong unit => below 80 unit
  | .freezeClear fn unit => below 520 fn && below 80 unit
  | .chartSet h dva dpa _ count rights => h.wf && bits 57 dva && bits 52 dpa && bits 32 count && bits 8 rights
  | .chartClear h dva _ count => h.wf && bits 57 dva && bits 32 count
  | .chartClearDone fn => below 520 fn
  | .chartQuery h dva => h.wf && bits 57 dva
  | .chartEpoch h => h.wf
  | .windowOpen h _ base len rights _ _ pasid _ _ qpn => h.wf && bits 64 base && bits 64 len && bits 8 rights && bits 20 pasid && bits 24 qpn
  | .windowModify h key len rights => h.wf && bits 32 key && bits 64 len && bits 8 rights
  | .windowModifyDone fn => below 520 fn
  | .windowRevoke h key => h.wf && bits 32 key
  | .windowRevokeDone index => bits 32 index
  | .purgeAll fn => below 520 fn
  | .producerDoorbell fn queue index => below 520 fn && below 4096 queue && bits 32 index
  | .consumerDoorbell fn queue index _ => below 520 fn && below 4096 queue && bits 32 index
  | .ringFetch fn queue => below 520 fn && below 4096 queue
  | .queueEnable fn queue => below 520 fn && below 4096 queue
  | .queueDisable fn queue => below 520 fn && below 4096 queue
  | .queueIdle fn queue => below 520 fn && below 4096 queue
  | .queueResume fn queue _ => below 520 fn && below 4096 queue
  | .queueCreate h kind cls log2 _ vector cq eq modCount pasid modTime base => h.wf && bits 3 kind && below 8 cls && bits 5 log2 && bits 11 vector && bits 12 cq && bits 12 eq && bits 9 modCount && bits 20 pasid && bits 16 modTime && bits 64 base
  | .queueDestroy h queue => h.wf && below 4096 queue
  | .queueModerate h queue modCount modTime => h.wf && below 4096 queue && bits 9 modCount && bits 16 modTime
  | .frontDeskEnable fn _ => below 520 fn
  | .frontDeskResume fn _ => below 520 fn
  | .msixModerationTimer fn queue => below 520 fn && below 4096 queue
  | .nop h => h.wf
  | .lanternSignal h lantern _ value => h.wf && below 65536 lantern && bits 32 value
  | .waitTide h _ => h.wf
  | .listExec h units addr => h.wf && bits 16 units && bits 64 addr
  | .listDispatch cls room => below 8 cls && below 256 room
  | .parkedListWake fn queue _ => below 520 fn && below 4096 queue
  | .waitTimeout fn queue _ => below 520 fn && below 4096 queue
  | .lanternHostAdd fn lantern value => below 520 fn && below 65536 lantern && bits 32 value
  | .lanternHostSet fn lantern _ value _ => below 520 fn && below 65536 lantern && bits 32 value
  | .tileEnableWrite fn _ => below 520 fn
  | .tileTrap tile offset => below 64 tile && bits 40 offset
  | .qpCreate h _ _ _ lantern tc spray _ _ _ => h.wf && below 65536 lantern && bits 3 tc && bits 2 spray
  | .qpConnect h qpn peerQpn peerNode timeout epoch retryLimit rnrLimit _ _ window => h.wf && bits 24 qpn && bits 24 peerQpn && bits 16 peerNode && bits 16 timeout && bits 8 epoch && below 16 retryLimit && below 16 rnrLimit && bits 16 window
  | .qpModify h qpn timeout retryLimit rnrLimit window spray _ => h.wf && bits 24 qpn && bits 16 timeout && below 16 retryLimit && below 16 rnrLimit && bits 16 window && bits 2 spray
  | .qpDrain h qpn => h.wf && bits 24 qpn
  | .qpDrained qpn => bits 24 qpn
  | .qpResume h qpn => h.wf && bits 24 qpn
  | .qpReset h qpn => h.wf && bits 24 qpn
  | .qpDestroy h qpn => h.wf && bits 24 qpn
  | .qpQuery h qpn => h.wf && bits 24 qpn
  | .qpSpill h base _ => h.wf && bits 64 base
  | .qpProxy h qpn _ base => h.wf && bits 24 qpn && bits 64 base
  | .qpRoce h qpn port _ dscp hopLimit _ pkey sport _ mac ipHi ipLo => h.wf && bits 24 qpn && below 32 port && bits 6 dscp && bits 8 hopLimit && bits 16 pkey && bits 16 sport && bits 48 mac && bits 64 ipHi && bits 64 ipLo
  | .qpSeal h qpn slot => h.wf && bits 24 qpn && below 16 slot
  | .write w => w.wf
  | .writeImm w => w.wf
  | .writeSignal w => w.wf
  | .send w => w.wf
  | .sendImm w => w.wf
  | .read w => w.wf
  | .fetchAdd w => w.wf
  | .cmpSwap w => w.wf
  | .proxyReply w => w.wf
  | .recv fn queue index tag epoch _ => below 520 fn && below 4096 queue && bits 32 index && bits 64 tag && bits 8 epoch
  | .xferPost h opcode w => h.wf && bits 8 opcode && w.wf
  | .undertowPace _ qpn node epoch => bits 24 qpn && bits 16 node && bits 8 epoch
  | .writePacketReceive p => p.wf
  | .sendPacketReceive p => p.wf
  | .readReqReceive p => p.wf
  | .atomicReqReceive p => p.wf
  | .readRespReceive p => p.wf
  | .atomicRespReceive p => p.wf
  | .ackReceive p => p.wf
  | .nakReceive p => p.wf
  | .ackDelayTimer _ qpn node epoch => bits 24 qpn && bits 16 node && bits 8 epoch
  | .retxTimeout _ qpn node epoch _ => bits 24 qpn && bits 16 node && bits 8 epoch
  | .detourSuspendEnd _ qpn node epoch => bits 24 qpn && bits 16 node && bits 8 epoch
  | .busyHoldEnd _ qpn node epoch => bits 24 qpn && bits 16 node && bits 8 epoch
  | .contextFetchComplete qpn _ => bits 24 qpn
  | .proxyTimeout qpn _ => bits 24 qpn
  | .utBaseWindowEnd _ qpn node epoch path => bits 24 qpn && bits 16 node && bits 8 epoch && bits 8 path
  | .rocePacketReceive port pkey h p => below 32 port && bits 16 pkey && h.wf && p.wf
  | .cnpReceive qpn => bits 24 qpn
  | .rpRecovery qpn => bits 24 qpn
  | .rdcAllReduce h b => h.wf && b.wf
  | .rdcReduceScatter h b => h.wf && b.wf
  | .rdcReduce h b => h.wf && b.wf
  | .rdcLocalReduce h b => h.wf && b.wf
  | .xferAllGather h b => h.wf && b.wf
  | .xferBroadcast h b => h.wf && b.wf
  | .sourceChunkReady _ => true
  | .collStartTime _ => true
  | .expUpReceive p => p.wf
  | .expDownReceive p => p.wf
  | .sumUpReceive p => p.wf
  | .resultDownReceive p => p.wf
  | .abortReceive p => p.wf
  | .collTimeout _ => true
  | .nodeTimeout itin epoch => below 4096 itin && bits 8 epoch
  | .itineraryInstall h addr => h.wf && bits 64 addr
  | .itineraryRemove h itin => h.wf && below 4096 itin
  | .itineraryQuery h itin => h.wf && below 4096 itin
  | .itinLoad _ => true
  | .itinUnload itin => below 4096 itin
  | .updSgd h u => h.wf && u.wf
  | .updAdamw h u => h.wf && u.wf
  | .updLion h u => h.wf && u.wf
  | .updLamb h u => h.wf && u.wf
  | .updAccumulate h u => h.wf && u.wf
  | .cdcConvert h c => h.wf && c.wf
  | .cdcQuantiseEf h c => h.wf && c.wf
  | .cdcDequantise h c => h.wf && c.wf
  | .partyCreate h tag rank size ctrl gen => h.wf && bits 32 tag && bits 16 rank && bits 32 size && bits 32 ctrl && bits 8 gen
  | .partyWaitExpired fn => below 520 fn
  | .partyDestroy h party => h.wf && below 4096 party
  | .partyQuery h party => h.wf && below 4096 party
  | .collBarrier h c => h.wf && c.wf
  | .collScalarReduce h c => h.wf && c.wf
  | .roundUpReceive p => p.wf
  | .roundDownReceive p => p.wf
  | .abortUpReceive p => p.wf
  | .abortCallReceive p => p.wf
  | .abortDownReceive p => p.wf
  | .abortJoinTimeout tag gen seq => bits 32 tag && bits 8 gen && bits 8 seq
  | .roundLost _ => true
  | .dataFrameReceive port f => below 32 port && f.wf
  | .creditFrameReceive port frame => below 32 port && below 9217 frame.length
  | .creditCountTimer port => below 32 port
  | .routerCommit fn => below 520 fn
  | .routerDrain fn => below 520 fn
  | .routerUndrain fn => below 520 fn
  | .routerDrained => true
  | .drainLong => true
  | .nodeAddrWrite fn node => below 520 fn && bits 16 node
  | .fenceWrite fn mask => below 520 fn && bits 32 mask
  | .portUp port => below 32 port
  | .routeWrite first _ => bits 32 first
  | .portEnable fn port => below 520 fn && below 32 port
  | .portDisable fn port => below 520 fn && below 32 port
  | .linkAcquired port half => below 32 port && below 2 half
  | .linkDown port half => below 32 port && below 2 half
  | .helloSend port => below 32 port
  | .helloReceive port frame => below 32 port && below 9217 frame.length
  | .modeMismatch port => below 32 port
  | .mgmtFrameReceive port frame => below 32 port && below 9217 frame.length
  | .fecSdWindow port _ _ _ _ _ _ => below 32 port
  | .ethFrameReceive port half h p => below 32 port && below 2 half && h.wf && p.wf
  | .pauseReceive port half _ _ => below 32 port && below 2 half
  | .pauseExpire port half cls => below 32 port && below 2 half && below 8 cls
  | .pfcRefresh port prio => below 32 port && below 8 prio
  | .ethPeerWrite first _ => bits 32 first
  | .ringSample port lane _ _ => below 32 port && below 8 lane
  | .heaterSweepEnd port lane _ _ => below 32 port && below 8 lane
  | .laneManualWrite fn port lane value => below 520 fn && below 32 port && below 8 lane && bits 64 value
  | .tecLoop unit _ => below 8 unit
  | .biasStep unit _ => below 8 unit
  | .laserSettled unit => below 8 unit
  | .tecFail unit => below 8 unit
  | .laserRampDone unit _ _ => below 8 unit
  | .laserIdleOff unit => below 8 unit
  | .permitDrop unit => below 8 unit
  | .laserPathFault unit laser => below 8 unit && below 4 laser
  | .laserOvertemp unit => below 8 unit
  | .clearFault fn unit _ => below 520 fn && below 8 unit
  | .laserAllowWrite fn unit _ => below 520 fn && below 8 unit
  | .laserEnChange _ => true
  | .opticsSecond port lane _ _ _ _ _ _ => below 32 port && below 8 lane
  | .roomQuota h _ value => h.wf && bits 64 value
  | .roomQuiesce h _ => h.wf
  | .quiesced room => below 256 room
  | .quiesceTimeout room => below 256 room
  | .roomResume h => h.wf
  | .roomReset h _ => h.wf
  | .roomQuarantine h => h.wf
  | .roomRelease h => h.wf
  | .roomRemove h => h.wf
  | .roomQuery h => h.wf
  | .mailboxPost fn room _ len => below 520 fn && below 256 room && bits 40 len
  | .mailboxAck fn room _ => below 520 fn && below 256 room
  | .keyBankLoad fn _ slot word accesses => below 520 fn && below 16 slot && below 10 word && partsWf accesses
  | .rotateAtWrite fn _ slot _ _ => below 520 fn && below 16 slot
  | .keyRotateComplete _ slot => below 16 slot
  | .keyErase h slot _ => h.wf && bits 8 slot
  | .fabricKeyWrite slot bank _ => bits 8 slot && bits 8 bank
  | .fabricRotate _ _ => true
  | .mgmtKey slot _ _ _ => below 8 slot
  | .lcRequest _ path _ => bits 8 path
  | .scrubAccess m position _ _ => below 21 m && below 256 position
  | .scrubPassEnd m => below 21 m
  | .ceRateSecond => true
  | .expanderEventPoll ds _ => below 4 ds
  | .codeWordReload _ _ => true
  | .latchAck fn unit seq => below 520 fn && below 83 unit && bits 8 seq
  | .ueAutoAck unit => below 83 unit
  | .deviceFatal block => below 56 block
  | .d2dUnrecoverable => true
  | .mgmtCoreHalt core _ => below 4 core
  | .watchdogExpire => true
  | .relivicelRead src f => src.wf && f.wf
  | .relivicelWrite src f => src.wf && f.wf
  | .relivicelDescribe src f => src.wf && f.wf
  | .relivicelNext src f => src.wf && f.wf
  | .rwsStoreDone index sub _ => bits 16 index && bits 8 sub
  | .segmentGapExpire src tag index sub => src.wf && bits 16 tag && bits 16 index && bits 8 sub
  | .relayForward src f => src.wf && f.wf
  | .relayResponse port f => below 32 port && f.wf
  | .relayEntryExpire tag keyId fresh => bits 16 tag && below 5 keyId && bits 32 fresh
  | .setEndpointId endpoint eid => below 9 endpoint && bits 8 eid
  | .getEndpointId endpoint => below 9 endpoint
  | .getEndpointUuid endpoint => below 9 endpoint
  | .getMctpVersionSupport endpoint => below 9 endpoint
  | .getMessageTypeSupport endpoint => below 9 endpoint
  | .getVdmSupport endpoint => below 9 endpoint
  | .restoreDefaults value => bits 32 value
  | .unlockWrite fn block _ _ => below 520 fn && below 56 block
  | .unlockLapse block => below 56 block
  | .eventWriteBack fn off _ _ => below 520 fn && bits 26 off
  | .blockSnapshot fn block => below 520 fn && below 56 block
  | .glbSnapshot fn => below 520 fn
  | .registerWrite fn off accesses => below 520 fn && bits 26 off && partsWf accesses
  | .domainRequest fn domain value => below 520 fn && below 151 domain && bits 32 value
  | .domainWakeAdmit _ => true
  | .domainOn domain => below 151 domain
  | .wakeFail domain => below 151 domain
  | .domainSleepDone domain => below 151 domain
  | .limiterStep _ => true
  | .thermalSample _ _ _ _ _ _ _ _ _ => true
  | .powerUp => true
  | .inputRemoval => true
  | .moduleResetPin _ => true
  | .moduleReset value => bits 32 value
  | .tideReset value => bits 32 value
  | .startupDone _ => true
  | .clockFail => true
  | .frameBoundary port half => below 32 port && below 2 half
  | .bucketRefill off half _ => bits 26 off && below 2 half
  | .perstRelease port => below 8 port
  | .mgmtLinkUp => true
  | .mgmtAddressResolution _ target => bits 128 target
  | .ptpSyncDelayReqSend => true
  | .dsLinkReturn ds => below 4 ds
  | .biasDeviceDone fn => below 520 fn

end Sys2Proof
end

