-- ==== Sys2Proof/Tests/Slice0.lean ====
section
/-! SUPPORT. Tests: ill-formed terms that WellFormed refuses, worked examples of the spec, and, for every obligation with hypotheses, states and
operands that meet the hypotheses of each of its parts. -/

set_option linter.unusedVariables false
set_option Elab.async false
set_option maxRecDepth 100000

namespace Sys2Proof.Tests
open Sys2Proof Sys2Proof.Machine

/-- A block that has started: every domain ON, host port 0 up, the Innkeeper's front desk enabled with entries in its ring. -/
def w0 : State :=
  { State.reset with
    doms := (List.range 151).map (fun d => (d, { st := 2 }))
    hports := [(0, { st := .up, rate := 7, width := 16, flit := true })]
    funcs := [(0, { enabled := true, cfg := { ats := true, pri := true, atomicOp := true }, fd := { enable := true, req := { st := .active, prod := 8 }, resp := { st := .active, base := 0x4000, log2 := 9 } } })]
    power := { started := true, released := some 0, mgmtUp := true } }

/-- A command's header. -/
def wh : CmdHdr := { fn := 0, queue := 0, fin := false }

/-- Fabric port 0 is up in direct mode, its lanes locked and its laser unit ON; it has credits in every pool. -/
def wUp : State :=
  { w0 with
    fports := [(0, { enable := true, st := .up, laneLock := 255, peerNode := 9, peerNodeValid := true, txAvail := (List.range 9).map (fun k => (k, 600)) })]
    lanes := (List.range 8).map (fun l => (l, { st := 2, heater := 5000 }))
    lasers := [(0, { st := 3, current := [(0, 1000)], tap := [(0, 1700)] })]
    laserEn := true }

/-- A state of the tide unit. -/
def wTide (t : Tide) : State := { w0 with tide := t }

/-- Host addresses of function 0 below 2 MiB are translated one to one by die 0. -/
def wHost (s : State) : State := { s with tcache := [.host 0 0 0 0 0x200000 0 true true] }

/-- Registers, at their BAR0 offsets. -/
def wRegs (l : NMap Word) (s : State) : State := { s with regs := l }

/-- Objects, by their keys. -/
def wObjs (l : List (Nat × Nat × Nat)) (s : State) : State := { s with objs := l.map (fun x => (okey x.1 x.2.1, x.2.2)) }

/-- Host port 0 in CXL mode, with its window over the first GiB of tier 0. -/
def wCxl (f : HostPort → HostPort) : State :=
  { w0 with hports := [(0, f { st := .up, rate := 6, width := 16, flit := true, cxl := true, hdm := some (2 ^ 40) })] }

/-- The Innkeeper's front desk runs a command. -/
def wRuns (op : Nat) (w : FdWait) (s : State) : State :=
  { s with funcs := [(0, { enabled := true, fd := { enable := true, req := { st := .active, prod := 8 }, resp := { st := .active, base := 0x4000, log2 := 9 },
                                                     running := some ({ fn := 0 }, op, w) } })] }

/-- Engine queue 0 of the Innkeeper function, of a class, with completion queue 1; ring bases lie in host memory. -/
def wEng (cls : Nat) : State :=
  { w0 with queues := [(qkey 0 0, { st := .active, kind := .engine, cls := cls, base := 0x10000, cq := 1 }),
                       (qkey 0 1, { st := .active, kind := .cq, base := 0x20000, log2 := 8 })] }

/-- Bytes in the first blocks of tier 0. -/
def wMem (l : List Host.Cell) (s : State) : State := { s with mem := { s.mem with cells := l, valid := l.map (fun c => c.1 / 4096) } }

/-- A leaf of room 0's chart: the GiB of DVA 0 over tier 0, whose extent the room holds. -/
def wLeaf (s : State) : State :=
  { s with
    rooms := mmod s.rooms 0 {} (fun r => { r with leaves1 := [(0, { dpa := 0, write := true, read := true, atomic := true })], tables := [(0, 1)] })
    mem := { s.mem with extents := [(0, { st := .granted, owner := some 0 })] } }

/-- A queue of the Innkeeper function under number 0, with completion queue 1. -/
def wQueue (q : Queue) : State :=
  { w0 with queues := [(qkey 0 0, q), (qkey 0 1, { st := .active, kind := .cq, base := 0x20000, log2 := 8 })] }

/-- List 0 of engine queue 0 of the Innkeeper function. -/
def wList (cls : Nat) : ListRec := { fn := 0, queue := 0, list := 0, cls := cls, room := 0 }

/-- QP 5 of room 0 on the Innkeeper function, with send queue 0 and receive queue 2, in a device that routes packets. -/
def wQp (q : Qp) : State :=
  { w0 with
    queues := [(qkey 0 0, { st := .active, kind := .send, base := 0x10000, cq := 1 }), (qkey 0 1, { st := .active, kind := .cq, base := 0x20000, log2 := 8 }),
               (qkey 0 2, { st := .active, kind := .recv, base := 0x30000, cq := 1 })]
    qps := [(5, q)]
    hot := [(0, [5])]
    warm := [(0, [5])]
    router := { st := .run, node := 3, valid := true } }

/-- A ready QP. -/
def wReady : Qp := { st := .ready, rq := 2, peerQpn := 6, peerNode := 9, nextPsn := 0xFFFFFFFF, cumPsn := 0xFFFFFFFF, window := 16 }

/-- An inline work request of 4 B. -/
def wWork : WorkReq := { fn := 0, queue := 0, units := 5, qpn := 5, inline := true, bytes := 4, remoteAddr := 64, data := [1, 2, 3, 4] }

/-- That QP with window 1 over the first 8,192 B of its room's charted memory. -/
def wWin (q : Qp) : State :=
  { wLeaf (wQp q) with
    windows := [(1, { st := 1, len := 8192, gen := 2, room := 0, space := true, atomic := true, rread := true, rwrite := true })] }

/-- A packet from that QP's peer, in its turn. -/
def wPkt : Pkt := { dstQpn := 5, srcQpn := 6, srcNode := 9, dstNode := 3, psn := 0xFFFFFFFF, first := true, last := true, key := 0x02000001 }

/-- Itinerary 0x123 of party tag 7: one tree of one block, with its parent and children. -/
def wItin (parent : Nat) (children : List Nat) : Itin :=
  { chunkBlocks := 32, window := 1, tag := 7, total := 1, trees := [{ first := 0, blocks := 1, parent := parent, locals := 1, children := children }] }

/-- Party context 4, the first of two ranks. -/
def wParty : Party := { room := 0, tag := 7, rank := 0, size := 2, ctrl := 0x123, gen := 0 }

/-- A device with that itinerary and party, an engine queue of a class, and the stream of a number from node 9. -/
def wColl (cls : Nat) (it : Itin) (num : Nat) : State :=
  { wEng cls with
    router := { st := .run, node := 3, valid := true }
    coll := { parties := [(4, wParty)], itins := [(0x123, it)] }
    qps := [(streamKey 9 0 num, newStream w0 it 9 0 num)] }

/-- A node open on that itinerary. -/
def wNode : CNode := { itin := 0x123, epoch := 0, count := 32, ctrl := 0 }

/-- A packet of a device stream from node 9. -/
def wStream (num op : Nat) : Pkt := { stream := true, srcNode := 9, dstNode := 3, dstQpn := num, srcQpn := num, opcode := op, coll := { itin := 0x123 } }

/-- A packet of round 2 of party tag 7 on its control tree. -/
def wRound (num op kind : Nat) : Pkt := { wStream num op with coll := { party := 7, seq := 2, kind := kind, members := 1, sigMin := 5, sigMax := 9 } }

/-- A device whose node address is 3, with fabric port p in a state. -/
def wPort (p : Nat) (f : FPort) : State := { wUp with fports := [(p, f)], router := { st := .run, node := 3, valid := true } }

/-- Lanes of port p locked. -/
def wLanes (p : Nat) (s : State) : State := { s with lanes := (List.range 8).map (fun l => (8 * p + l, { st := 2, heater := 5000 })) }

/-- The cells of little-endian numbers of n bytes each, from an address on. -/
def leCells (at_ n : Nat) (l : List Nat) : List Host.Cell :=
  ((l.flatMap (leBytes n)).zipIdx.map (fun p => (at_ + p.2, p.1))).filter (fun c => c.2 != 0)

/-! ## Reading the states above -/

/-- What holds of every entry of a table, and of the default, holds of whatever it gives. -/
theorem mget_all {α : Type} (P : α → Prop) {d : α} (hd : P d) : ∀ {m : NMap α}, (∀ x ∈ m, P x.2) → ∀ k, P (mget m k d)
  | [], _, _ => hd
  | (j, v) :: r, h, k => by
    unfold mget
    split
    · exact h (j, v) (List.mem_cons_self ..)
    · exact mget_all P hd (fun x hx => h x (List.mem_cons_of_mem _ hx)) k

theorem throttled_none (s : State) (h : ∀ x ∈ s.fports, x.2.throttled = 0) (p c : Nat) : throttled s p c = false := by
  have h0 : (fport s p).throttled = 0 := mget_all (fun f : FPort => f.throttled = 0) rfl h p
  simp [throttled, h0, nbit]

theorem running_none (s : State) (h : (s.funcs.all fun f => f.2.fd.running.isNone) = true) : ∀ f ∈ s.funcs, f.2.fd.running = none := by
  intro f hf
  simpa using List.all_eq_true.mp h f hf

/-- Whether the keys of a table rise strictly from a bound. -/
def keyedB {α : Type} (b : Nat) : NMap α → Bool
  | [] => true
  | (j, _) :: r => decide (b ≤ j) && keyedB (j + 1) r

theorem keyed_of {α : Type} : ∀ {b : Nat} {m : NMap α}, keyedB b m = true → Keyed b m
  | _, [], _ => trivial
  | b, (j, _) :: r, h => by
    simp only [keyedB, Bool.and_eq_true, decide_eq_true_eq] at h
    exact ⟨h.1, keyed_of h.2⟩

theorem cellGet_out {a n : Nat} : ∀ {m : List Host.Cell}, (∀ c ∈ m, c.1 < a ∨ a + n ≤ c.1) → ∀ k, k < n → cellGet m (a + k) = 0
  | [], _, _, _ => rfl
  | c :: r, h, k, hk => by
    have h1 := h c (List.mem_cons_self ..)
    unfold cellGet mget
    rw [if_neg (by omega)]
    exact cellGet_out (fun c hc => h c (List.mem_cons_of_mem _ hc)) k hk

/-- A device address operand names the low GiB of the chart's first leaf. -/
theorem charted_of {s : State} {c : DCtx} {a n x : Nat} (d : Nat) {l : Leaf} (h1 : c.dpa = false) (h2 : c.space = none) (hp : c.pins = [])
    (hm : (room s c.room).quotas.mirrored = false) (ha : a = 2 ^ 63 + d) (hd : d + n ≤ 2 ^ 30) (hl : mfind (room s c.room).leaves1 0 = some l)
    (hr : l.read = true) (hw : l.write = true) (hx : x = l.dpa + d) (hn : x + n ≤ 0x4000000000) (h0 : 0 < n) : Charted s c a n x := by
  refine ⟨h1, h2, hn, d, l, fun k hk => ?_, ?_, ?_, hr, hw, ?_⟩
  · have e1 : nbit (a + k) 63 = 1 := by simp only [nbit, ha]; omega
    have e2 : fld (a + k) 62 48 = 0 := by simp only [fld, ha]; omega
    have e3 : fld (a + k) 47 0 = d + k := by simp only [fld, ha]; omega
    simp [opndOf, h2, hp, pinAt, operand, hm, e1, e2, e3]
  · omega
  · rw [Nat.div_eq_of_lt (by omega)]; exact hl
  · rw [Nat.mod_eq_of_lt (by omega)]; exact hx

theorem lasersSafe_of {s : State} (ht : s.trv = []) (h : ∀ x ∈ s.lasers, x.2.st ≤ 4 ∧ (x.2.current ≠ [] → x.2.st = 3) ∧ ∀ c ∈ x.2.current, c.2 ≤ 5000) :
    LasersSafe s :=
  ⟨ht, fun u => mget_all (fun x : Laser => x.st ≤ 4 ∧ (x.current ≠ [] → x.st = 3) ∧ ∀ c ∈ x.current, c.2 ≤ 5000)
    ⟨by decide, by decide, by decide⟩ h u⟩

/-- Where no list exists no other command is under way. -/
theorem apart_nil {s : State} (hl : s.lists = []) (h : CmdHdr) (rm : Nat) (p : Prog) : Apart s h rm p := by
  intro x hx
  simp [hl] at hx


/-! ## Ill-formed terms -/

/-- A field beyond its width or range is refused, each field in turn. -/
theorem test_fields_refused :
    ([({ ({ fn := 0 } : FdHdr) with fn := 520 } : FdHdr).wf, ({ ({ fn := 0 } : FdHdr) with index := 2 ^ 32 } : FdHdr).wf,
      ({ ({ fn := 0 } : FdHdr) with tag := 2 ^ 32 } : FdHdr).wf, ({ ({ fn := 0 } : FdHdr) with resultAddr := 2 ^ 64 } : FdHdr).wf,
      ({ ({ fn := 0 } : FdHdr) with room := 256 } : FdHdr).wf, ({ (wh : CmdHdr) with fn := 520 } : CmdHdr).wf,
      ({ (wh : CmdHdr) with queue := 4096 } : CmdHdr).wf, ({ (wh : CmdHdr) with list := 2 ^ 32 } : CmdHdr).wf,
      ({ (wh : CmdHdr) with index := 2 ^ 32 } : CmdHdr).wf, ({ (wh : CmdHdr) with units := 2 ^ 8 } : CmdHdr).wf,
      ({ (wh : CmdHdr) with tag := 2 ^ 32 } : CmdHdr).wf, ({ (wh : CmdHdr) with epoch := 2 ^ 8 } : CmdHdr).wf,
      ({ (wh : CmdHdr) with signal := 2 ^ 16 } : CmdHdr).wf, ({ (wh : CmdHdr) with wait := 2 ^ 16 } : CmdHdr).wf,
      ({ (wh : CmdHdr) with waitTimeout := 2 ^ 32 } : CmdHdr).wf, ({ (wh : CmdHdr) with waitTarget := 2 ^ 32 } : CmdHdr).wf,
      ({ (wWork : WorkReq) with fn := 520 } : WorkReq).wf, ({ (wWork : WorkReq) with queue := 4096 } : WorkReq).wf,
      ({ (wWork : WorkReq) with index := 2 ^ 32 } : WorkReq).wf, ({ (wWork : WorkReq) with units := 2 ^ 8 } : WorkReq).wf,
      ({ (wWork : WorkReq) with tag := 2 ^ 32 } : WorkReq).wf, ({ (wWork : WorkReq) with qpn := 2 ^ 24 } : WorkReq).wf,
      ({ (wWork : WorkReq) with epoch := 2 ^ 8 } : WorkReq).wf, ({ (wWork : WorkReq) with localAddr := 2 ^ 64 } : WorkReq).wf,
      ({ (wWork : WorkReq) with remoteAddr := 2 ^ 64 } : WorkReq).wf, ({ (wWork : WorkReq) with key := 2 ^ 32 } : WorkReq).wf,
      ({ (wWork : WorkReq) with bytes := 2 ^ 40 } : WorkReq).wf, ({ (wWork : WorkReq) with immediate := 2 ^ 32 } : WorkReq).wf,
      ({ (wWork : WorkReq) with lantern := 2 ^ 16 } : WorkReq).wf, ({ version := 2 ^ 4 } : Pkt).wf, ({ tc := 2 ^ 3 } : Pkt).wf,
      ({ opcode := 2 ^ 8 } : Pkt).wf, ({ hopsLeft := 2 ^ 8 } : Pkt).wf, ({ dstNode := 2 ^ 16 } : Pkt).wf, ({ srcNode := 2 ^ 16 } : Pkt).wf,
      ({ dstQpn := 2 ^ 24 } : Pkt).wf, ({ path := 2 ^ 8 } : Pkt).wf, ({ srcQpn := 2 ^ 24 } : Pkt).wf, ({ epoch := 2 ^ 8 } : Pkt).wf,
      ({ trailer := 2 ^ 32 } : Pkt).wf, ({ payload := List.replicate 4097 0 } : Pkt).wf, ({ priAlloc := 2 ^ 32 } : HostCfg).wf,
      ({ version := 2 ^ 4 } : Beacon).wf, ({ hops := 2 ^ 8 } : Beacon).wf, ({ seq := 2 ^ 8 } : Beacon).wf, ({ node := 2 ^ 16 } : Beacon).wf,
      ({ prio := 2 ^ 8 } : Beacon).wf, ({ echoSeq := 2 ^ 8 } : Beacon).wf, ({ pkt := { version := 16 }, hdr := [] } : DFrame).wf,
      ({ dst := 2 ^ 48 } : EthHdr).wf, ({ src := 2 ^ 48 } : EthHdr).wf, ({ pcp := 2 ^ 3 } : EthHdr).wf, ({ dscp := 2 ^ 6 } : EthHdr).wf,
      ({ ecn := 2 ^ 2 } : EthHdr).wf, ({ hops := 2 ^ 8 } : EthHdr).wf, ({ srcIp := 2 ^ 128 } : EthHdr).wf, ({ dstIp := 2 ^ 128 } : EthHdr).wf,
      ({ sport := 2 ^ 16 } : EthHdr).wf, ({ dport := 2 ^ 16 } : EthHdr).wf, ({ ethertype := 2 ^ 16 } : EthHdr).wf,
      ({ ({ count := 1 } : UpdArgs) with count := 2 ^ 32 } : UpdArgs).wf, ({ ({ count := 1 } : UpdArgs) with gradFmt := 2 ^ 4 } : UpdArgs).wf,
      ({ ({ count := 1 } : UpdArgs) with outFmt := 2 ^ 4 } : UpdArgs).wf, ({ ({ count := 1 } : UpdArgs) with stateFmt := 2 ^ 4 } : UpdArgs).wf,
      ({ ({ count := 1 } : UpdArgs) with phase := 2 ^ 2 } : UpdArgs).wf, ({ ({ count := 1 } : UpdArgs) with chunkLantern := 2 ^ 16 } : UpdArgs).wf,
      ({ ({ count := 1 } : UpdArgs) with inputLantern := 2 ^ 16 } : UpdArgs).wf, ({ ({ count := 1 } : UpdArgs) with step := 2 ^ 32 } : UpdArgs).wf,
      ({ ({ count := 1 } : UpdArgs) with start := 2 ^ 32 } : UpdArgs).wf, ({ ({ count := 1 } : UpdArgs) with lr := 2 ^ 32 } : UpdArgs).wf,
      ({ ({ count := 1 } : UpdArgs) with hp1 := 2 ^ 32 } : UpdArgs).wf, ({ ({ count := 1 } : UpdArgs) with hp2 := 2 ^ 32 } : UpdArgs).wf,
      ({ ({ count := 1 } : UpdArgs) with eps := 2 ^ 32 } : UpdArgs).wf, ({ ({ count := 1 } : UpdArgs) with wd := 2 ^ 32 } : UpdArgs).wf,
      ({ ({ count := 1 } : UpdArgs) with gscale := 2 ^ 32 } : UpdArgs).wf, ({ ({ count := 1 } : UpdArgs) with grad := 2 ^ 64 } : UpdArgs).wf,
      ({ ({ count := 1 } : UpdArgs) with base := 2 ^ 64 } : UpdArgs).wf, ({ ({ count := 1 } : UpdArgs) with out := 2 ^ 64 } : UpdArgs).wf,
      ({ ({ count := 1 } : CdcArgs) with count := 2 ^ 32 } : CdcArgs).wf, ({ ({ count := 1 } : CdcArgs) with inFmt := 2 ^ 4 } : CdcArgs).wf,
      ({ ({ count := 1 } : CdcArgs) with outFmt := 2 ^ 4 } : CdcArgs).wf, ({ ({ count := 1 } : CdcArgs) with auxFmt := 2 ^ 4 } : CdcArgs).wf,
      ({ ({ count := 1 } : CdcArgs) with chunkLantern := 2 ^ 16 } : CdcArgs).wf,
      ({ ({ count := 1 } : CdcArgs) with inputLantern := 2 ^ 16 } : CdcArgs).wf, ({ ({ count := 1 } : CdcArgs) with mul := 2 ^ 32 } : CdcArgs).wf,
      ({ ({ count := 1 } : CdcArgs) with src := 2 ^ 64 } : CdcArgs).wf, ({ ({ count := 1 } : CdcArgs) with srcScale := 2 ^ 64 } : CdcArgs).wf,
      ({ ({ count := 1 } : CdcArgs) with dst := 2 ^ 64 } : CdcArgs).wf, ({ ({ count := 1 } : CdcArgs) with dstScale := 2 ^ 64 } : CdcArgs).wf,
      ({ ({ count := 1 } : CdcArgs) with res := 2 ^ 64 } : CdcArgs).wf, ({ party := 2 ^ 16 } : BulkArgs).wf, ({ itin := 2 ^ 16 } : BulkArgs).wf,
      ({ chunkLantern := 2 ^ 16 } : BulkArgs).wf, ({ expLantern := 2 ^ 16 } : BulkArgs).wf, ({ inputLantern := 2 ^ 16 } : BulkArgs).wf,
      ({ timeout := 2 ^ 16 } : BulkArgs).wf, ({ count := 2 ^ 32 } : BulkArgs).wf, ({ dst := 2 ^ 64 } : BulkArgs).wf,
      ({ srcs := [2 ^ 64] } : BulkArgs).wf, ({ party := 2 ^ 16 } : ScalarArgs).wf, ({ op := 2 ^ 4 } : ScalarArgs).wf,
      ({ dtype := 2 ^ 4 } : ScalarArgs).wf, ({ count := 2 ^ 16 } : ScalarArgs).wf, ({ timeout := 2 ^ 16 } : ScalarArgs).wf,
      ({ src := 2 ^ 64 } : ScalarArgs).wf, ({ dst := 2 ^ 64 } : ScalarArgs).wf, ({ version := 2 ^ 4 } : RFrame).wf, ({ type := 2 ^ 4 } : RFrame).wf,
      ({ tag := 2 ^ 16 } : RFrame).wf, ({ keyId := 2 ^ 3 } : RFrame).wf, ({ status := 2 ^ 8 } : RFrame).wf, ({ index := 2 ^ 16 } : RFrame).wf,
      ({ sub := 2 ^ 8 } : RFrame).wf, ({ offset := 2 ^ 32 } : RFrame).wf, ({ auth := some (2 ^ 32, List.replicate 16 0) } : RFrame).wf,
      ({ auth := some (0, []) } : RFrame).wf, ({ route := some { hops := 256, ports := List.replicate 16 0 } } : RFrame).wf,
      ({ route := some { hopIndex := 256, ports := List.replicate 16 0 } } : RFrame).wf, ({ route := some { ports := [3] } } : RFrame).wf,
      RSrc.wf (.mctp 8), RSrc.wf (.udp (2 ^ 128) 0), RSrc.wf (.udp 0 65536), RSrc.wf (.inband 32)] : List Bool).all not = true := by decide +kernel

/-- Commands whose first operand with a range lies beyond it are refused. -/
theorem test_commands_refused_0 :
    ([.beaconSend 32, .beaconReceive 32 [] 0, .neighbourLoss 32, .tideNowRead 520 true .full, .tdGclCommit 520 0, .tableSwitched 32,
      .gateEntryBoundary 32, .slackWaterStart 32 0, .bufTakeEffect (2 ^ 26) 0 .packet, .hostLinkUp 8 0 0 true true {}, .retrainHeld 8,
      .retrainResumed 8 0 0 true, .linkLost 8, .perst 8, .hotReset 8, .flr 520, .vfEnable 8 0 {}, .vfDisable 8 0, .hostCxlmemAccess 8 0 true [],
      .hostSnoop 8 0, .biasDevice { fn := 520 } 0, .memwinEnable 520 0, .memwinDisable 520 0, .memwinSweepDone 8, .memwinBaseWrite 520 0 0,
      .seawall { wh with fn := 520 }, .invalidateRequest 520 0 0 0 0, .invalidateCompletion 520 0, .translationCompletion 520 0 0 0 0 0 true true,
      .pageRequestResponse 520 0 0 0, .priTimeout 520 0 0, .dsPortEnumerate 4 0 0, .dsLinkFail 4 true, .dsEnableCycle 4 true,
      .memGrant { fn := 520 } 0 0, .memReclaim { fn := 520 } 0 0, .reclaimDone 6144, .memQuery { fn := 520 } 0 0, .harbourReserve { fn := 520 } 0 0,
      .harbourUnitsGranted 2 0, .copyMove { wh with fn := 520 } 0 0 0 true, .copyFill { wh with fn := 520 } 0 0 true 0,
      .copyZero { wh with fn := 520 } 0 0 true, .freezeSet 520 0, .unitDrained 80, .freezeLong 80, .freezeClear 520 0,
      .chartSet { fn := 520 } 0 0 true 0 0, .chartClear { fn := 520 } 0 true 0, .chartClearDone 520, .chartQuery { fn := 520 } 0,
      .chartEpoch { fn := 520 }, .windowOpen { fn := 520 } true 0 0 0 true true 0 true true 0, .windowModify { fn := 520 } 0 0 0,
      .windowModifyDone 520, .windowRevoke { fn := 520 } 0, .windowRevokeDone (2 ^ 32), .purgeAll 520, .producerDoorbell 520 0 0,
      .consumerDoorbell 520 0 0 true] : List Instr).all (fun c => !c.wf) = true := by decide +kernel

/-- Commands whose first operand with a range lies beyond it are refused. -/
theorem test_commands_refused_1 :
    ([.ringFetch 520 0, .queueEnable 520 0, .queueDisable 520 0, .queueIdle 520 0, .queueResume 520 0 true,
      .queueCreate { fn := 520 } 0 0 0 true 0 0 0 0 0 0 0, .queueDestroy { fn := 520 } 0, .queueModerate { fn := 520 } 0 0 0,
      .frontDeskEnable 520 true, .frontDeskResume 520 true, .msixModerationTimer 520 0, .nop { wh with fn := 520 },
      .lanternSignal { wh with fn := 520 } 0 0 0, .waitTide { wh with fn := 520 } 0, .listExec { wh with fn := 520 } 0 0, .listDispatch 8 0,
      .parkedListWake 520 0 0, .waitTimeout 520 0 0, .lanternHostAdd 520 0 0, .lanternHostSet 520 0 .full 0 true, .tileEnableWrite 520 0,
      .tileTrap 64 0, .qpCreate { fn := 520 } 0 0 0 0 0 0 0 true true, .qpConnect { fn := 520 } 0 0 0 0 0 0 0 0 0 0,
      .qpModify { fn := 520 } 0 0 0 0 0 0 0, .qpDrain { fn := 520 } 0, .qpDrained (2 ^ 24), .qpResume { fn := 520 } 0, .qpReset { fn := 520 } 0,
      .qpDestroy { fn := 520 } 0, .qpQuery { fn := 520 } 0, .qpSpill { fn := 520 } 0 0, .qpProxy { fn := 520 } 0 0 0,
      .qpRoce { fn := 520 } 0 0 true 0 0 0 0 0 0 0 0 0, .qpSeal { fn := 520 } 0 0, .write { wWork with fn := 520 },
      .writeImm { wWork with fn := 520 }, .writeSignal { wWork with fn := 520 }, .send { wWork with fn := 520 }, .sendImm { wWork with fn := 520 },
      .read { wWork with fn := 520 }, .fetchAdd { wWork with fn := 520 }, .cmpSwap { wWork with fn := 520 }, .proxyReply { wWork with fn := 520 },
      .recv 520 0 0 0 0 [], .xferPost { wh with fn := 520 } 0 wWork, .undertowPace true (2 ^ 24) 0 0, .writePacketReceive { version := 16 },
      .sendPacketReceive { version := 16 }, .readReqReceive { version := 16 }, .atomicReqReceive { version := 16 },
      .readRespReceive { version := 16 }, .atomicRespReceive { version := 16 }, .ackReceive { version := 16 }, .nakReceive { version := 16 },
      .ackDelayTimer true (2 ^ 24) 0 0, .retxTimeout true (2 ^ 24) 0 0 0, .detourSuspendEnd true (2 ^ 24) 0 0, .busyHoldEnd true (2 ^ 24) 0 0,
      .contextFetchComplete (2 ^ 24) true] : List Instr).all (fun c => !c.wf) = true := by decide +kernel

/-- Commands whose first operand with a range lies beyond it are refused. -/
theorem test_commands_refused_2 :
    ([.proxyTimeout (2 ^ 24) 0, .utBaseWindowEnd true (2 ^ 24) 0 0 0, .rocePacketReceive 32 0 {} {}, .cnpReceive (2 ^ 24), .rpRecovery (2 ^ 24),
      .rdcAllReduce { wh with fn := 520 } {}, .rdcReduceScatter { wh with fn := 520 } {}, .rdcReduce { wh with fn := 520 } {},
      .rdcLocalReduce { wh with fn := 520 } {}, .xferAllGather { wh with fn := 520 } {}, .xferBroadcast { wh with fn := 520 } {},
      .expUpReceive { version := 16 }, .expDownReceive { version := 16 }, .sumUpReceive { version := 16 }, .resultDownReceive { version := 16 },
      .abortReceive { version := 16 }, .nodeTimeout 4096 0, .itineraryInstall { fn := 520 } 0, .itineraryRemove { fn := 520 } 0,
      .itineraryQuery { fn := 520 } 0, .itinUnload 4096, .updSgd { wh with fn := 520 } { count := 1 },
      .updAdamw { wh with fn := 520 } { count := 1 }, .updLion { wh with fn := 520 } { count := 1 }, .updLamb { wh with fn := 520 } { count := 1 },
      .updAccumulate { wh with fn := 520 } { count := 1 }, .cdcConvert { wh with fn := 520 } { count := 1 },
      .cdcQuantiseEf { wh with fn := 520 } { count := 1 }, .cdcDequantise { wh with fn := 520 } { count := 1 }, .partyCreate { fn := 520 } 0 0 0 0 0,
      .partyWaitExpired 520, .partyDestroy { fn := 520 } 0, .partyQuery { fn := 520 } 0, .collBarrier { wh with fn := 520 } {},
      .collScalarReduce { wh with fn := 520 } {}, .roundUpReceive { version := 16 }, .roundDownReceive { version := 16 },
      .abortUpReceive { version := 16 }, .abortCallReceive { version := 16 }, .abortDownReceive { version := 16 }, .abortJoinTimeout (2 ^ 32) 0 0,
      .dataFrameReceive 32 { pkt := {}, hdr := [] }, .creditFrameReceive 32 [], .creditCountTimer 32, .routerCommit 520, .routerDrain 520,
      .routerUndrain 520, .nodeAddrWrite 520 0, .fenceWrite 520 0, .portUp 32, .routeWrite (2 ^ 32) [], .portEnable 520 0, .portDisable 520 0,
      .linkAcquired 32 0, .linkDown 32 0, .helloSend 32, .helloReceive 32 [], .modeMismatch 32, .mgmtFrameReceive 32 [],
      .fecSdWindow 32 0 0 0 0 [] []] : List Instr).all (fun c => !c.wf) = true := by decide +kernel

/-- Commands whose first operand with a range lies beyond it are refused. -/
theorem test_commands_refused_3 :
    ([.ethFrameReceive 32 0 {} {}, .pauseReceive 32 0 true [], .pauseExpire 32 0 0, .pfcRefresh 32 0, .ethPeerWrite (2 ^ 32) [],
      .ringSample 32 0 0 0, .heaterSweepEnd 32 0 true 0, .laneManualWrite 520 0 0 0, .tecLoop 8 [], .biasStep 8 [], .laserSettled 8, .tecFail 8,
      .laserRampDone 8 [] [], .laserIdleOff 8, .permitDrop 8, .laserPathFault 8 0, .laserOvertemp 8, .clearFault 520 0 true,
      .laserAllowWrite 520 0 true, .opticsSecond 32 0 0 0 0 0 0 0, .roomQuota { fn := 520 } 0 0, .roomQuiesce { fn := 520 } 0, .quiesced 256,
      .quiesceTimeout 256, .roomResume { fn := 520 }, .roomReset { fn := 520 } 0, .roomQuarantine { fn := 520 }, .roomRelease { fn := 520 },
      .roomRemove { fn := 520 }, .roomQuery { fn := 520 }, .mailboxPost 520 0 true 0, .mailboxAck 520 0 true, .keyBankLoad 520 true 0 0 [],
      .rotateAtWrite 520 true 0 .full 0, .keyRotateComplete none 16, .keyErase { fn := 520 } 0 true, .fabricKeyWrite (2 ^ 8) 0 [],
      .mgmtKey 8 [] true true, .lcRequest [] (2 ^ 8) true, .scrubAccess 21 0 0 none, .scrubPassEnd 21, .expanderEventPoll 4 0, .latchAck 520 0 0,
      .ueAutoAck 83, .deviceFatal 56, .mgmtCoreHalt 4 0, .relivicelRead (.mctp 8) {}, .relivicelWrite (.mctp 8) {}, .relivicelDescribe (.mctp 8) {},
      .relivicelNext (.mctp 8) {}, .rwsStoreDone (2 ^ 16) 0 true, .segmentGapExpire (.mctp 8) 0 0 0, .relayForward (.mctp 8) {},
      .relayResponse 32 {}, .relayEntryExpire (2 ^ 16) 0 0, .setEndpointId 9 0, .getEndpointId 9, .getEndpointUuid 9, .getMctpVersionSupport 9,
      .getMessageTypeSupport 9] : List Instr).all (fun c => !c.wf) = true := by decide +kernel

/-- Commands whose first operand with a range lies beyond it are refused. -/
theorem test_commands_refused_4 :
    ([.getVdmSupport 9, .restoreDefaults (2 ^ 32), .unlockWrite 520 0 .full 0, .unlockLapse 56, .eventWriteBack 520 0 0 .full, .blockSnapshot 520 0,
      .glbSnapshot 520, .registerWrite 520 0 [], .domainRequest 520 0 0, .domainOn 151, .wakeFail 151, .domainSleepDone 151, .moduleReset (2 ^ 32),
      .tideReset (2 ^ 32), .frameBoundary 32 0, .bucketRefill (2 ^ 26) 0 0, .perstRelease 8, .mgmtAddressResolution true (2 ^ 128), .dsLinkReturn 4,
      .biasDeviceDone 520] : List Instr).all (fun c => !c.wf) = true := by decide +kernel

/-- Commands within their ranges are accepted. -/
theorem test_commands_accepted :
    ([.beaconSend 31, .linkLost 7, .flr 519, .seawall wh] : List Instr).all (fun c => c.wf) = true := by decide +kernel

/-! ## The spec's worked examples -/

/-- One element of a fixed-window sum (ch. 10, "one element to the bit"): the lanes of members A to D, and the result rounded to nearest even and
with the random draw 0x2A71. -/
theorem test_fws_element :
    [0x4148, 0xC049, 0x3883, 0x8000].map (fun k => laneOf false false 0x82 (bf16.value k)) = [0x00C80000, -3293184, 0x42, 0] ∧
    (finalLane false 0x82 1 .even 9814082).1 = 0x4116 ∧ (finalLane false 0x82 1 (.sr 0x2A71) 9814082).1 = 0x4115 := by decide +kernel

/-- The rate of a sender as its delay grows and falls (ch. 15, "one QP meets a queue"), with times in 1/16 ns. -/
theorem test_undertow_rates :
    let s := fun ns => wTide { st := .locked, count := 16 * ns }
    let p0 : Pace := { rate := 1600000, paths := [(0, { cur := some 32000 })] }
    let p1 := paceSample (s 0) 1600000 0 64000 (16 * 6100) false false p0
    let p2 := paceSample (s 3000) 1600000 0 60000 (16 * 5000) false false p1
    let p3 := paceSample (s 6200) 1600000 0 56000 (16 * 5000) false false p2
    let p4 := paceSample (s 11300) 1600000 0 40000 (16 * 5000) false false p3
    [p1.rate, p2.rate, p3.rate, p4.rate] = [1200000, 1200000, 1003125, 1004125] := by decide +kernel

/-- OP_LANE_MEAS of port 13, lane 3 (ch. 18). -/
theorem test_lane_meas :
    laneMeas { w0 with lanes := [(107, { tx := 200, heater := 7000, offset := -100, rx := -350 })] } 13 3 = 0x00C81B58FF9CFEA2 := by decide +kernel

/-- A pointer in SPLIT mode and the DPA it names (ch. 5, "one pointer through both views"). -/
theorem test_split_pointer :
    operand {} 0x800000C123456780 = .dva 0xC123456780 ∧ 0xC123456780 / 2 ^ 39 = 1 ∧ 0xC123456780 / 2 ^ 30 % 512 = 260 ∧
    tierCtl w0 0xA3456780 = some 0 := by decide +kernel

/-- The record of a scrub error of room 17 (ch. 21). -/
theorem test_scrub_record :
    let d := LedgerRec.data { kind := 5, severity := 2, unit := 0x0100, room := some 17, addrKind := 1, address := 0xA3456780, access := 0x0F, d0 := 3 } 0x123 false
    [0, 2, 3, 4, 5].map (wordAt d) = [0x0000012300052003, 0x0100118000000000, 0xA3456780, 0x010F000000000000, 3] := by decide +kernel

/-- The configuration space of a PF of reset (R3, R126, R129, R130, R232): nothing before start-up, then the values the spec states. -/
theorem test_config_space :
    let s := { w0 with power := { w0.power with started := true } }
    cfgRead { w0 with power := { w0.power with started := false } } 0 .revisionId = none ∧
    [CfgField.revisionId, .bar0Size, .bar2Size, .registerLocator, .totalVfs, .atsQueueDepth, .priCapacity, .msixTable, .msixPba].map (cfgRead s 0) =
      [some 0xB0, some 0x4000000, some 0, some 0, some 31, some 32, some 256, some 0xF0000, some 0xF8000] := by decide +kernel

/-! ## Hypotheses that are met -/

/-- States and operands that meet the hypotheses of each part of BeaconsAreSentAndTaken. -/
theorem test_BeaconsAreSentAndTaken :
    (∃ (s : State) (p : Nat), Live s ∧ (fport s p).direct = true ∧ (fport s p).st = .up ∧ lanesReady s p 0 = true ∧ (fport s p).leaving = none) ∧
    (∃ (s : State) (p : Nat) (frame data : List Byte) (rx : Word), Live s ∧ (fport s p).direct = true ∧ (fport s p).st = .up ∧
      linkBody 2 frame = some data ∧ (beaconOf data).kind = 1 ∧ beaconValid (tport s p) (beaconOf data) rx = true) ∧
    (∃ (s : State) (p : Nat) (frame : List Byte) (rx : Word), Live s ∧ (fport s p).direct = true ∧ (fport s p).st = .up ∧ linkBody 2 frame = none) ∧
    (∃ (s : State) (p : Nat), Live s ∧ (fport s p).direct = true ∧ (fport s p).st = .up) :=
  ⟨⟨wUp, 0, by
      refine ⟨by unfold Live; decide +kernel, ?_, ?_, ?_, ?_⟩ <;> decide +kernel⟩,
    ⟨{ wUp with tide := { count := 5000, ports := [(0, { sent := [(3, 100)] })] } }, 0, (linkFrame 2 (beaconBytes ({ version := 1, kind := 1, echoSeq := 3, echoTx := 100, echoRx := 40, txTime := 90, locked := true, seq := 7, node := 2, hops := 3 } : Beacon))), (beaconBytes ({ version := 1, kind := 1, echoSeq := 3, echoTx := 100, echoRx := 40, txTime := 90, locked := true, seq := 7, node := 2, hops := 3 } : Beacon)), 4000, by
      refine ⟨by unfold Live; decide +kernel, ?_, ?_, ?_, ?_, ?_⟩ <;> decide +kernel⟩,
    ⟨wUp, 0, ((linkFrame 2 (beaconBytes ({ version := 1, kind := 1, echoSeq := 3, echoTx := 100, echoRx := 40, txTime := 90, locked := true, seq := 7, node := 2, hops := 3 } : Beacon))).dropLast), 4000, by
      refine ⟨by unfold Live; decide +kernel, ?_, ?_, ?_⟩ <;> decide +kernel⟩,
    ⟨wUp, 0, by
      refine ⟨by unfold Live; decide +kernel, ?_, ?_⟩ <;> decide +kernel⟩⟩

/-- States and operands that meet the hypotheses of each part of TideUnitCorrectsAndExpires. -/
theorem test_TideUnitCorrectsAndExpires :
    (∃ (s : State), Live s ∧ s.tide.st = .locked ∧ 16 ≤ s.tide.samples.length ∧
      -160 ≤ Int.tdiv ((s.tide.samples.take 16).foldl (fun a x => a + x) 0) 16 ∧
      Int.tdiv ((s.tide.samples.take 16).foldl (fun a x => a + x) 0) 16 ≤ 160) ∧
    (∃ (s : State), Live s ∧ s.tide.st = .acquire ∧ 16 ≤ s.tide.samples.length ∧ s.tide.firstDone = false ∧ s.tide.waits = [] ∧
      usTicks < Int.tdiv ((s.tide.samples.take 16).foldl (fun a x => a + x) 0) 16) ∧
    (∃ (s : State), Live s ∧ s.tide.st = .holdover ∧ holdLimit s < holdError s.tide) ∧
    (∃ (s : State) (stamp : Word) (freq : Int), Live s ∧ s.tide.extLocked = false) ∧
    (∃ (s : State) (stamp : Word) (freq : Option Int), Live s ∧ s.tide.extLocked = true ∧ usTicks < sdiff stamp (ppsTarget s stamp)) ∧
    (∃ (s : State), Live s) ∧
    (∃ (s : State), Live s ∧ -32 ≤ ppsOutError s ∧ ppsOutError s ≤ 32) :=
  ⟨⟨wTide { st := .locked, src := .beacon, samples := List.replicate 17 160 }, by
      refine ⟨by unfold Live; decide +kernel, ?_, ?_, ?_, ?_⟩ <;> decide +kernel⟩,
    ⟨wTide { st := .acquire, src := .beacon, samples := List.replicate 17 16016 }, by
      refine ⟨by unfold Live; decide +kernel, ?_, ?_, ?_, ?_, ?_⟩ <;> decide +kernel⟩,
    ⟨wTide { st := .holdover, count := 1000000000000 }, by
      refine ⟨by unfold Live; decide +kernel, ?_, ?_⟩ <;> decide +kernel⟩,
    ⟨w0, 100, 0,
      by unfold Live; decide +kernel,
      by decide +kernel⟩,
    ⟨wTide { st := .locked, src := .ext, extOk := true, extLocked := true, ppsRejects := 0 }, 16017, some 0, by
      refine ⟨by unfold Live; decide +kernel, ?_, ?_⟩ <;> decide +kernel⟩,
    ⟨w0,
      by unfold Live; decide +kernel⟩,
    ⟨wTide { count := 32 }, by
      refine ⟨by unfold Live; decide +kernel, ?_, ?_⟩ <;> decide +kernel⟩⟩

/-- States and operands that meet the hypotheses of each part of TimeIsReadAndServed. -/
theorem test_TimeIsReadAndServed :
    (∃ (s : State) (m : PtpMsg), Live s ∧ obj s 0x4004 2 0 ≠ 0 ∧ m.domain = obj s 0x4004 1 0 ∧ m.transport = obj s 0x4004 3 1 ∧
      m.kind = .syncTwoStep ∧ ptpMaster s = false ∧ fromBest s m = true ∧ (s.tide.count - s.tide.ptpHeard).toNat ≤ 96000000000) ∧
    (∃ (s : State) (m : PtpMsg) (d : Int), Live s ∧ obj s 0x4004 2 0 ≠ 0 ∧ m.domain = obj s 0x4004 1 0 ∧ m.transport = obj s 0x4004 3 1 ∧
      m.kind = .sync ∧ ptpMaster s = false ∧ fromBest s m = true ∧ (s.tide.count - s.tide.ptpHeard).toNat ≤ 96000000000 ∧
      s.tide.ptpPeerDelay = some d) ∧
    (∃ (s : State) (m : PtpMsg), Live s ∧ obj s 0x4004 2 0 ≠ 0 ∧ m.domain = obj s 0x4004 1 0 ∧ m.transport = obj s 0x4004 3 1 ∧ m.kind = .delayReq ∧
      ptpMaster s = true ∧ s.tide.ptpOk = false ∧ s.tide.ptpBest = none) ∧
    (∃ (s : State), Live s ∧ obj s 0x4004 2 0 ≠ 0 ∧ ptpMaster s = false ∧ (s.tide.count - s.tide.ptpHeard).toNat ≤ 96000000000) ∧
    (∃ (s : State), Live s ∧ obj s 0x4004 2 0 ≠ 0 ∧ ptpMaster s = true ∧ s.tide.ptpOk = false ∧ s.tide.ptpBest = none) ∧
    (∃ (s : State) (fn : Nat), unpowered s = false ∧ (s.trv = [] ∨ s.errs.fatal = true)) ∧
    (∃ (s : State) (fn : Nat), unpowered s = false ∧ (s.trv = [] ∨ s.errs.fatal = true)) ∧
    (∃ (s : State) (fn h : Nat), unpowered s = false ∧ (s.trv = [] ∨ s.errs.fatal = true) ∧ (func s fn).latchGlb = some h) ∧
    (∃ (s : State) (fn h : Nat), Live s ∧ isInn s fn = true ∧ (func s fn).latchTd = some h) ∧
    (∃ (s : State) (fn : Nat) (part : Part), Live s ∧ isInn s fn = false) :=
  ⟨⟨wObjs [(0x4004, 2, 1)] (wTide { ptpBest := some ([], 6) }), ({ kind := .syncTwoStep, seq := 4, rxNs := 70, source := 6 } : PtpMsg), by
      refine ⟨by unfold Live; decide +kernel, ?_, ?_, ?_, ?_, ?_, ?_, ?_⟩ <;> decide +kernel⟩,
    ⟨wObjs [(0x4004, 2, 1)] (wTide { ptpBest := some ([], 6), ptpPeerDelay := some 5, count := 96000000000 }), ({ kind := .sync, seq := 4, rxNs := 70, originNs := 33, source := 6 } : PtpMsg), 5, by
      refine ⟨by unfold Live; decide +kernel, ?_, ?_, ?_, ?_, ?_, ?_, ?_, ?_⟩ <;> decide +kernel⟩,
    ⟨wObjs [(0x4004, 2, 2)] (wTide { isMaster := true }), ({ kind := .delayReq, seq := 4, rxNs := 70 } : PtpMsg), by
      refine ⟨by unfold Live; decide +kernel, ?_, ?_, ?_, ?_, ?_, ?_, ?_⟩ <;> decide +kernel⟩,
    ⟨wObjs [(0x4004, 2, 1)] w0, by
      refine ⟨by unfold Live; decide +kernel, ?_, ?_, ?_⟩ <;> decide +kernel⟩,
    ⟨wObjs [(0x4004, 2, 2)] (wTide { isMaster := true }), by
      refine ⟨by unfold Live; decide +kernel, ?_, ?_, ?_, ?_⟩ <;> decide +kernel⟩,
    ⟨wTide { count := 0x123456789A }, 0, by decide +kernel⟩,
    ⟨wTide { count := 0x123456789A }, 3, by decide +kernel⟩,
    ⟨{ w0 with funcs := [(5, { latchGlb := some 77 })] }, 5, 77, by decide +kernel⟩,
    ⟨{ w0 with funcs := [(0, { latchTd := some 78 })] }, 0, 78, by
      refine ⟨by unfold Live; decide +kernel, ?_, ?_⟩ <;> decide +kernel⟩,
    ⟨w0, 3, .high,
      by unfold Live; decide +kernel,
      by decide +kernel⟩⟩

/-- States and operands that meet the hypotheses of each part of TideTablesSwitch. -/
theorem test_TideTablesSwitch :
    (∃ (s : State) (fn p : Nat), Live s ∧ isInn s fn = true ∧ commitBad s p = false) ∧
    (∃ (s : State) (fn p : Nat), Live s ∧ isInn s fn = true ∧ commitBad s p = true) ∧
    (∃ (s : State) (p : Nat) (g : Gcl) (c : Word), Live s ∧ (tport s p).pend = some (g, c) ∧
      reached (cycleStart (tport s p).oper c) s.tide.count = true) ∧
    (∃ (s : State) (p : Nat), Live s ∧ gclOn s p = true ∧ (tport s p).switchAt.all (fun w => reached w s.tide.count) = true) ∧
    (∃ (s : State) (p c : Nat), Live s ∧ gclOn s p = true ∧ c < 8 ∧ (tport s p).gates.getLsbD c = true ∧
      closesWithin (tport s p) s.tide.count c (slackNs s p c * 16) = true) ∧
    (∃ (s : State) (off p : Nat) (b : Boundary), Live s ∧ mfind s.bufs off = some b) :=
  ⟨⟨wRegs [(0x490000, 0x200000001), (0x490008, 160), (0x490010, 1000), (0x490018, 999), (0x490800, 0x0F000001F4), (0x490808, 0xF0000001F4)] w0, 0, 0, by
      refine ⟨by unfold Live; decide +kernel, ?_, ?_⟩ <;> decide +kernel⟩,
    ⟨w0, 0, 0, by
      refine ⟨by unfold Live; decide +kernel, ?_, ?_⟩ <;> decide +kernel⟩,
    ⟨wTide { count := 100000, ports := [(0, { oper := { base := 0, cycle := 1000 }, pend := some ({ base := 7, cycle := 2000, entries := [0xFF000001F4] }, 500) })] }, 0, ({ base := 7, cycle := 2000, entries := [0xFF000001F4] } : Gcl), 500, by
      refine ⟨by unfold Live; decide +kernel, ?_, ?_⟩ <;> decide +kernel⟩,
    ⟨wRegs [(0x490000, 0x200000001), (0x490008, 160), (0x490010, 1000), (0x490018, 999), (0x490800, 0x0F000001F4), (0x490808, 0xF0000001F4)] (wTide { count := 8160, ports := [(0, { oper := { base := 160, cycle := 1000, entries := [0x0F000001F4, 0xF0000001F4] }, slack := 3, switchAt := some 8160 })] }), 0, by
      refine ⟨by unfold Live; decide +kernel, ?_, ?_⟩ <;> decide +kernel⟩,
    ⟨wRegs [(0x490000, 0x200000001), (0x490008, 160), (0x490010, 1000), (0x490018, 999), (0x490800, 0x0F000001F4), (0x490808, 0xF0000001F4)] { wUp with fports := [(0, { st := .up, mode := 0 })], tide := { count := 8100, ports := [(0, { oper := { base := 160, cycle := 1000, entries := [0x0F000001F4, 0xF0000001F4] }, gates := 0x0F })] } }, 0, 3, by
      refine ⟨by unfold Live; decide +kernel, ?_, ?_, ?_, ?_⟩ <;> decide +kernel⟩,
    ⟨wRegs [(0x410000, 0x1000000000FF)] { w0 with eff := [(0x410000, 0x20)], bufs := [(0x410000, .gateCycle)] }, 0x410000, 0, .gateCycle,
      by unfold Live; decide +kernel,
      by decide +kernel⟩⟩

/-- States and operands that meet the hypotheses of each part of HostLinksComeAndGo. -/
theorem test_HostLinksComeAndGo :
    (∃ (s : State) (p rate width : Nat) (flit cxl : Bool) (cfg : HostCfg), Live s ∧ p < 8 ∧ (hport s p).st = .down ∧ (hport s p).detect = true ∧
      (mget s.doms (104 + p) {}).st = 2 ∧ lcLases s = true ∧ rate ≠ 0 ∧ rate ≤ obj s 0x2002 (p + 1) 7 ∧ widthOk width = true) ∧
    (∃ (s : State) (p : Nat), Live s ∧ (hport s p).st = .up) ∧
    (∃ (s : State) (p rate width : Nat) (flit : Bool), Live s ∧ (hport s p).st = .hold ∧ rate ≠ 0 ∧ rate ≤ obj s 0x2002 (p + 1) 7 ∧
      widthOk width = true ∧ (∀ q ∈ s.qps, q.2.deferred = [])) ∧
    (∃ (s : State) (p : Nat), Live s ∧ (hport s p).st = .hold) ∧
    (∃ (s : State) (p : Nat), Live s ∧ p < 8 ∧ (hport s p).perst = false) ∧
    (∃ (s : State) (p : Nat), Live s ∧ (hport s p).st ≠ .down) ∧
    (∃ (s : State) (p : Nat), Live s ∧ p < 8 ∧ (mget s.doms (104 + p) {}).st = 2) :=
  ⟨⟨{ w0 with hports := [(0, { st := .down, detect := true })] }, 0, 7, 8, true, true, ({ ats := true, mps := 256 } : HostCfg), by
      refine ⟨by unfold Live; decide +kernel, ?_, ?_, ?_, ?_, ?_, ?_, ?_, ?_⟩ <;> decide +kernel⟩,
    ⟨w0, 0,
      by unfold Live; decide +kernel,
      by decide +kernel⟩,
    ⟨{ w0 with hports := [(0, { st := .hold, rate := 7, width := 16, held := [.msix 0 3], cxl := true })] }, 0, 1, 4, true, by
      refine ⟨by unfold Live; decide +kernel, ?_, ?_, ?_, ?_, ?_⟩ <;> decide +kernel⟩,
    ⟨{ w0 with hports := [(0, { st := .hold, held := [.msix 0 3] })] }, 0,
      by unfold Live; decide +kernel,
      by decide +kernel⟩,
    ⟨w0, 0, by
      refine ⟨by unfold Live; decide +kernel, ?_, ?_⟩ <;> decide +kernel⟩,
    ⟨w0, 0,
      by unfold Live; decide +kernel,
      by decide +kernel⟩,
    ⟨{ w0 with hports := [(0, { perst := true })] }, 0, by
      refine ⟨by unfold Live; decide +kernel, ?_, ?_⟩ <;> decide +kernel⟩⟩

/-- States and operands that meet the hypotheses of each part of FunctionsResetAndVfsEnable. -/
theorem test_FunctionsResetAndVfsEnable :
    (∃ (s : State) (fn : Nat), Live s ∧ (func s fn).enabled = true ∧ (hport s (fnPort fn)).st = .up) ∧
    (∃ (s : State) (p n : Nat) (cfg : HostCfg), Live s ∧ p < 8 ∧ (hport s p).st = .up ∧ (func s (fnOf p 0)).enabled = true ∧ n ≠ 0 ∧
      (hport s p).numVfs < n ∧ n ≤ objF s 0x2001 (p + 1) 31 ∧ n ≤ 64 ∧ (∀ k rm, roomOf s (fnOf p k) = some rm → (room s rm).removing = false) ∧
      (((List.range n).map (fun i => fnOf p (i + 1))).filter (fun f => (roomOf s f).isNone)).length ≤ freeRooms s) ∧
    (∃ (s : State) (p n : Nat), Live s ∧ (hport s p).vfEnable = true ∧ n < (hport s p).numVfs) :=
  ⟨⟨w0, 0, by
      refine ⟨by unfold Live; decide +kernel, ?_, ?_⟩ <;> decide +kernel⟩,
    ⟨w0, 0, 31, ({ ats := true } : HostCfg), by
      refine ⟨by unfold Live; decide +kernel, ?_, ?_, ?_, ?_, ?_, ?_, ?_, fun _ rm _ => mget_all (fun r : Room => r.removing = false) rfl (by decide +kernel) rm, ?_⟩ <;> decide +kernel⟩,
    ⟨{ w0 with hports := [(0, { st := .up, vfEnable := true, numVfs := 2 })] }, 0, 1, by
      refine ⟨by unfold Live; decide +kernel, ?_, ?_⟩ <;> decide +kernel⟩⟩

/-- States and operands that meet the hypotheses of each part of WindowAndBiasCommands. -/
theorem test_WindowAndBiasCommands :
    (∃ (s : State) (p base a : Nat) (data : List Byte), Live s ∧ (hport s p).st = .up ∧ (hport s p).cxl = true ∧ (hport s p).hdm = some base ∧
      (hport s p).winEnable = false ∧ data ≠ [] ∧ base ≤ a ∧ a < base + 2 ^ 36 ∧ a % 64 + data.length ≤ 64) ∧
    (∃ (s : State) (p base a x rm : Nat) (data : List Byte), Live s ∧ (hport s p).st = .up ∧ (hport s p).cxl = true ∧ (hport s p).hdm = some base ∧
      (hport s p).winEnable = true ∧ data ≠ [] ∧ base ≤ a ∧ a < base + 2 ^ 36 ∧ a % 64 + data.length ≤ 64 ∧
      x = (hport s p).winBase * 2 ^ 30 + (a - base) ∧ windowRoom s p x = some rm ∧ anyFrozen s x data.length = false ∧
      firstBad s x data.length = none) ∧
    (∃ (s : State) (p base a x rm : Nat) (data : List Byte), Live s ∧ (hport s p).st = .up ∧ (hport s p).cxl = true ∧ (hport s p).hdm = some base ∧
      (hport s p).winEnable = true ∧ data ≠ [] ∧ base ≤ a ∧ a < base + 2 ^ 36 ∧ a % 64 + data.length ≤ 64 ∧
      x = (hport s p).winBase * 2 ^ 30 + (a - base) ∧ windowRoom s p x = some rm ∧ anyFrozen s x data.length = false ∧
      firstBadW s x data.length = none) ∧
    (∃ (s : State) (p a : Nat) (wr : Bool) (d e : List Byte), Live s ∧ d ≠ [] ∧ e ≠ [] ∧ (a + d.length) % 64 = 0) ∧
    (∃ (s : State) (p a : Nat), Live s ∧ (hport s p).st = .up ∧ (hport s p).cxl = true) ∧
    (∃ (s : State) (h : FdHdr) (page : Nat), Takes s h 0x30 ∧ fnSlot h.fn = 0 ∧ (hport s (fnPort h.fn)).cxl = true ∧ page < 32768) ∧
    (∃ (s : State) (fn page : Nat) (h : FdHdr), Live s ∧ h.fn = fn ∧ (func s fn).fd.running = some (h, 0x30, .bias page)) ∧
    (∃ (s : State) (fn p : Nat), Live s ∧ isInn s fn = true) ∧
    (∃ (s : State) (fn p : Nat), Live s ∧ isInn s fn = true ∧ (hport s p).winEnable = true) ∧
    (∃ (s : State) (p : Nat), Live s ∧ (hport s p).winBusy = true) ∧
    (∃ (s : State) (fn p base : Nat), Live s ∧ isInn s fn = true ∧ armed s (16 + p) = true ∧ (hport s p).winEnable = false ∧
      (hport s p).winBusy = false) :=
  ⟨⟨wCxl id, 0, 2 ^ 40, 2 ^ 40 + 2 ^ 36 - 2, [1, 2], by
      refine ⟨by unfold Live; decide +kernel, ?_, ?_, ?_, ?_, ?_, ?_, ?_, ?_⟩ <;> decide +kernel⟩,
    ⟨{ wCxl (fun h => { h with winEnable := true }) with mem := { w0.mem with cells := [(2097150, 7), (2097152, 9)], valid := [511, 512], extents := [(0, { st := .granted, owner := some 0 })] } }, 0, 2 ^ 40, 2 ^ 40 + 2097149, 2097149, 0, [0, 0, 0], by
      refine ⟨by unfold Live; decide +kernel, ?_, ?_, ?_, ?_, ?_, ?_, ?_, ?_, ?_, ?_, ?_, ?_⟩ <;> decide +kernel⟩,
    ⟨{ wCxl (fun h => { h with winEnable := true }) with mem := { w0.mem with cells := [(2097150, 7), (2097152, 9)], valid := [511, 512], extents := [(0, { st := .granted, owner := some 0 })] } }, 0, 2 ^ 40, 2 ^ 40 + 2097149, 2097149, 0, [1, 0, 3], by
      refine ⟨by unfold Live; decide +kernel, ?_, ?_, ?_, ?_, ?_, ?_, ?_, ?_, ?_, ?_, ?_, ?_⟩ <;> decide +kernel⟩,
    ⟨{ wCxl (fun h => { h with winEnable := true }) with mem := { w0.mem with cells := [(2097150, 7), (2097152, 9)], valid := [511, 512], extents := [(0, { st := .granted, owner := some 0 })] } }, 0, 2 ^ 40 + 2097150, true, [1, 2], [3], by
      refine ⟨by unfold Live; decide +kernel, ?_, ?_, ?_⟩ <;> decide +kernel⟩,
    ⟨wCxl id, 0, 64, by
      refine ⟨by unfold Live; decide +kernel, ?_, ?_⟩ <;> decide +kernel⟩,
    ⟨wCxl (fun h => { h with shared := [32767] }), ({ fn := 0 } : FdHdr), 32767, by
      refine ⟨by unfold Takes Live; decide +kernel, ?_, ?_, ?_⟩ <;> decide +kernel⟩,
    ⟨wRuns 0x30 (.bias 3) (wCxl (fun h => { h with shared := [2, 3] })), 0, 3, ({ fn := 0 } : FdHdr), by
      refine ⟨by unfold Live; decide +kernel, ?_, ?_⟩ <;> decide +kernel⟩,
    ⟨wCxl (fun h => { h with shared := [4] }), 0, 0,
      by unfold Live; decide +kernel,
      by decide +kernel⟩,
    ⟨wCxl (fun h => { h with winEnable := true, shared := [2, 3] }), 0, 0, by
      refine ⟨by unfold Live; decide +kernel, ?_, ?_⟩ <;> decide +kernel⟩,
    ⟨wCxl (fun h => { h with winBusy := true, shared := [2] }), 0,
      by unfold Live; decide +kernel,
      by decide +kernel⟩,
    ⟨{ wCxl id with arms := [(16, 0)] }, 0, 0, 2 ^ 18 + 5, by
      refine ⟨by unfold Live; decide +kernel, ?_, ?_, ?_, ?_⟩ <;> decide +kernel⟩⟩

/-- States and operands that meet the hypotheses of each part of TranslationServicesAnswer. -/
theorem test_TranslationServicesAnswer :
    (∃ (s : State) (fn pasid addr size tag : Nat), Live s ∧ (s.invals.filter (fun x => x.1 == fn)).length < 32) ∧
    (∃ (s : State) (fn tag : Nat), Live s ∧ (fn, tag) ∈ s.invals ∧ (hport s (fnPort fn)).st = .up) ∧
    (∃ (s : State) (fn pasid addr size xaddr : Nat) (r w : Bool) (q : AtsReq), Live s ∧ (∀ x ∈ s.qps, x.2.deferred = []) ∧
      s.ats.find? (fun x => x.fn == fn && x.pasid == pasid && x.addr == addr / 4096 * 4096 && (x.stage == 0 || x.stage == 2)) = some q ∧
      (r || w) = true ∧ 2 ^ 21 ≤ size) ∧
    (∃ (s : State) (fn pasid addr size xaddr : Nat) (r w : Bool) (q : AtsReq), Live s ∧ (∀ x ∈ s.qps, x.2.deferred = []) ∧
      s.ats.find? (fun x => x.fn == fn && x.pasid == pasid && x.addr == addr / 4096 * 4096 && (x.stage == 0 || x.stage == 2)) = some q) ∧
    (∃ (s : State) (fn pasid addr : Nat) (q : AtsReq), Live s ∧ (∀ x ∈ s.qps, x.2.deferred = []) ∧ atsFind s fn pasid false addr = some q ∧
      q.stage = 1 ∧ (∀ x ∈ s.ats, x.fn = fn → x.stage ≠ 3)) ∧
    (∃ (s : State) (fn pasid addr : Nat) (q : AtsReq), Live s ∧ (∀ x ∈ s.qps, x.2.deferred = []) ∧ atsFind s fn pasid false addr = some q ∧
      q.stage = 1 ∧ reached q.due (elapsed s) = true) :=
  ⟨⟨{ w0 with tcache := [.host 0 0 1 0x200000 0x200000 0 true true, .chart 0 0 false 3] }, 0, 1, 0x300000, 4096, 9,
      by unfold Live; decide +kernel,
      by decide +kernel⟩,
    ⟨{ w0 with invals := [(0, 9)] }, 0, 9, by
      refine ⟨by unfold Live; decide +kernel, ?_, ?_⟩ <;> decide +kernel⟩,
    ⟨{ w0 with ats := [{ fn := 0, pasid := 1, addr := 0x200000, remote := true }] }, 0, 1, 0x200000, 2 ^ 21, 0x5A200000, true, false, ({ fn := 0, pasid := 1, addr := 0x200000, remote := true } : AtsReq), by
      refine ⟨by unfold Live; decide +kernel, ?_, ?_, ?_, ?_⟩ <;> decide +kernel⟩,
    ⟨{ w0 with ats := [{ fn := 0, pasid := 1, addr := 0x200000 }] }, 0, 1, 0x200000, 0, 0, true, false, ({ fn := 0, pasid := 1, addr := 0x200000 } : AtsReq), by
      refine ⟨by unfold Live; decide +kernel, ?_, ?_⟩ <;> decide +kernel⟩,
    ⟨{ w0 with ats := [{ fn := 0, pasid := 1, addr := 0x200000, stage := 1 }] }, 0, 1, 0x200000, ({ fn := 0, pasid := 1, addr := 0x200000, stage := 1 } : AtsReq), by
      refine ⟨by unfold Live; decide +kernel, ?_, ?_, ?_, ?_⟩ <;> decide +kernel⟩,
    ⟨{ w0 with ats := [{ fn := 0, pasid := 1, addr := 0x200000, stage := 1, due := 5 }], tide := { count := 5 } }, 0, 1, 0x200000, ({ fn := 0, pasid := 1, addr := 0x200000, stage := 1, due := 5 } : AtsReq), by
      refine ⟨by unfold Live; decide +kernel, ?_, ?_, ?_, ?_⟩ <;> decide +kernel⟩⟩

/-- States and operands that meet the hypotheses of each part of ExtentsMoveBetweenRooms. -/
theorem test_ExtentsMoveBetweenRooms :
    (∃ (s : State) (h : FdHdr) (e n : Nat), InnTakes s h 0x10 ∧ n ≠ 0 ∧ n ≤ 4096 ∧ (room s h.room).st ≠ .free ∧
      (∀ k, k < n → (extOf s (e + k)).st = .free)) ∧
    (∃ (s : State) (h : FdHdr) (e n rm : Nat), InnTakes s h 0x11 ∧ n ≠ 0 ∧ n ≤ 4096 ∧ (∀ k, k < n → (extOf s (e + k)).st = .granted ∧
      (extOf s (e + k)).owner = some rm ∧ extMapped s rm (e + k) = false)) ∧
    (∃ (s : State) (e : Nat) (x : Extent), Live s ∧ mfind s.mem.extents e = some x ∧ x.st = .reclaiming ∧
      (∀ f ∈ s.funcs, ∀ h op rm es, f.2.fd.running ≠ some (h, op, .remove rm es))) ∧
    (∃ (s : State) (h : FdHdr) (first count p a : Nat), InnTakes s h 0x12 ∧ badResultAddr s h = false ∧ count ≠ 0 ∧ count ≤ 4096 ∧ h.resultAddr ≠ 0 ∧
      resolve s (fdCtx s h 6) h.resultAddr (2 * count) .write = ([{ off := 0, loc := .host p a, len := 2 * count }], none) ∧ (hport s p).st = .up) :=
  ⟨⟨w0, ({ fn := 0 } : FdHdr), 255, 1, by
      refine ⟨by unfold InnTakes Takes Live; decide +kernel, ?_, ?_, ?_, ?_⟩ <;> decide +kernel⟩,
    ⟨{ w0 with mem := { extents := [(5, { st := .granted, owner := some 3 }), (6, { st := .granted, owner := some 3 })] } }, ({ fn := 0 } : FdHdr), 5, 2, 3, by
      refine ⟨by unfold InnTakes Takes Live; decide +kernel, ?_, ?_, ?_⟩ <;> decide +kernel⟩,
    ⟨{ w0 with mem := { cells := [(1073741823, 7), (1073741824, 8)], valid := [262143, 262144], extents := [(1, { st := .reclaiming })] } }, 1, ({ st := .reclaiming } : Extent), by
      refine ⟨by unfold Live; decide +kernel, ?_, ?_, fun f hf => by simp [running_none _ (by decide +kernel) f hf]⟩ <;> decide +kernel⟩,
    ⟨wHost w0, ({ fn := 0, resultAddr := 4096 } : FdHdr), 3, 2, 0, 4096, by
      refine ⟨by unfold InnTakes Takes Live; decide +kernel, ?_, ?_, ?_, ?_, ?_, ?_⟩ <;> decide +kernel⟩⟩

/-- States and operands that meet the hypotheses of each part of HarbourUnitsAreReservedAndGranted. -/
theorem test_HarbourUnitsAreReservedAndGranted :
    (∃ (s : State) (h : FdHdr) (die units : Nat), InnTakes s h 0x13 ∧ die ≤ 1 ∧ (units = 0 ∨ 16 ≤ units) ∧ units ≤ 1856 ∧ (room s h.room).st ≠ .free ∧
      (units ≤ (room s h.room).resv die ∨ resvSum s die + transitPool s die + units - (room s h.room).resv die ≤ dieCap s die)) ∧
    (∃ (s : State) (die pool : Nat) (w : HarbourWait) (r : ListRec), Live s ∧ s.coll.members = [] ∧ s.coll.nodes = [] ∧
      nextGrant s die pool = some w ∧ w.chunk = none ∧ findList s w.fn w.queue w.list = some r) :=
  ⟨⟨w0, ({ fn := 0, room := 2 } : FdHdr), 1, 16, by
      refine ⟨by unfold InnTakes Takes Live; decide +kernel, ?_, ?_, ?_, ?_, ?_⟩ <;> decide +kernel⟩,
    ⟨{ wEng 2 with rooms := mmod w0.rooms 0 {} (fun r => { r with resv0 := 16 }), lists := [{ fn := 0, queue := 0, list := 0, cls := 2, room := 0, st := .onTile, tile := some 0 }], mem := { waits := [(poolKey 0 0, [{ units := 16 }])] } }, 0, 0, ({ units := 16 } : HarbourWait), ({ fn := 0, queue := 0, list := 0, cls := 2, room := 0, st := .onTile, tile := some 0 } : ListRec), by
      refine ⟨by unfold Live; decide +kernel, ?_, ?_, ?_, ?_, ?_⟩ <;> decide +kernel⟩⟩

/-- States and operands that meet the hypotheses of each part of CopiesMoveFillAndZero. -/
theorem test_CopiesMoveFillAndZero :
    (∃ (s : State) (h : CmdHdr) (dst len rm : Nat) (p : Word), Plain h ∧ Begins s h 0x21 6 (copyBad h [dst] len true) rm ∧ len ≠ 0 ∧ s.memWf = true ∧
      anyFrozen s dst len = false ∧ firstBadW s dst len = none) ∧
    (∃ (s : State) (h : CmdHdr) (dst src len rm : Nat), Plain h ∧ Begins s h 0x20 6 (copyBad h [dst, src] len true) rm ∧ len ≠ 0 ∧ s.memWf = true ∧
      anyFrozen s dst len = false ∧ anyFrozen s src len = false ∧ firstBadW s dst len = none ∧ firstBad s src len = none ∧
      (∀ l ∈ s.mem.latentCe, l < src / 64 ∨ (src + len - 1) / 64 < l)) ∧
    (∃ (s : State) (h : CmdHdr) (dst len rm : Nat), Plain h ∧ Begins s h 0x22 6 (copyBad h [dst] len true) rm ∧ len ≠ 0 ∧ s.memWf = true ∧
      zeroBad s { off := 0, loc := .dev dst, len := len } = none) :=
  ⟨⟨wMem [(4095, 9), (4100, 8)] (wEng 6), { wh with units := 4 }, 4090, 9, 0, 0x0102030405060708, by
      refine ⟨by unfold Plain; decide +kernel, by unfold Begins Live; decide +kernel, ?_, ?_, ?_, ?_⟩ <;> decide +kernel⟩,
    ⟨wMem [(4095, 9), (4100, 8)] (wEng 6), { wh with units := 4 }, 4097, 4094, 8, 0, by
      refine ⟨by unfold Plain; decide +kernel, by unfold Begins Live; decide +kernel, ?_, ?_, ?_, ?_, ?_, ?_, ?_⟩ <;> decide +kernel⟩,
    ⟨wMem [(4095, 9), (4100, 8), (8192, 6)] (wEng 6), { wh with units := 3 }, 4096, 4096, 0, by
      refine ⟨by unfold Plain; decide +kernel, by unfold Begins Live; decide +kernel, ?_, ?_, ?_⟩ <;> decide +kernel⟩⟩

/-- States and operands that meet the hypotheses of each part of UnitsFreezeAndExpandersComeAndGo. -/
theorem test_UnitsFreezeAndExpandersComeAndGo :
    (∃ (s : State) (fn u : Nat), Live s ∧ isInn s fn = true ∧ u < 80 ∧ armed s 1 = true ∧ (∀ v ∈ s.mem.frozen, frozenForGood s v = false)) ∧
    (∃ (s : State) (u : Nat), Live s ∧ u ∈ s.mem.frozen) ∧
    (∃ (s : State) (u : Nat), Live s ∧ u ∈ s.mem.frozen ∧ u ∉ s.mem.frozenLong ∧ reached (mget s.mem.frozenAt u 0 + 1600000#64) (elapsed s) = true) ∧
    (∃ (s : State) (fn u : Nat), Live s ∧ isInn s fn = true ∧ u < 80 ∧ armed s 1 = true ∧ frozenForGood s u = false ∧
      (∀ q ∈ s.qps, q.2.deferred = [])) ∧
    (∃ (s : State) (d cap : Nat), Live s ∧ d < 4 ∧ (mget s.ds d {}).st = 1) ∧
    (∃ (s : State) (d : Nat) (poison : Bool), Live s ∧ (mget s.ds d {}).st = 2 ∧ (mget s.ds d {}).offline = false) ∧
    (∃ (s : State) (d : Nat), Live s ∧ (mget s.ds d {}).st = 3) ∧
    (∃ (s : State) (d : Nat), Live s ∧ d < 4 ∧ (mget s.doms (112 + d) {}).st = 2) :=
  ⟨⟨{ w0 with arms := [(1, 0)], mem := { frozen := [2] } }, 0, 79, by
      refine ⟨by unfold Live; decide +kernel, ?_, ?_, ?_, ?_⟩ <;> decide +kernel⟩,
    ⟨{ w0 with mem := { frozen := [2] } }, 2,
      by unfold Live; decide +kernel,
      by decide +kernel⟩,
    ⟨{ w0 with mem := { frozen := [2], frozenLong := [1] }, tide := { count := 1600000 } }, 2, by
      refine ⟨by unfold Live; decide +kernel, ?_, ?_, ?_⟩ <;> decide +kernel⟩,
    ⟨{ w0 with arms := [(1, 0)], mem := { frozen := [2, 5], drained := [5] } }, 0, 5, by
      refine ⟨by unfold Live; decide +kernel, ?_, ?_, ?_, ?_, ?_⟩ <;> decide +kernel⟩,
    ⟨{ w0 with ds := [(3, { st := 1 })] }, 3, 2 ^ 40, by
      refine ⟨by unfold Live; decide +kernel, ?_, ?_⟩ <;> decide +kernel⟩,
    ⟨{ w0 with ds := [(3, { st := 2, capacity := 2 ^ 40 })] }, 3, true, by
      refine ⟨by unfold Live; decide +kernel, ?_, ?_⟩ <;> decide +kernel⟩,
    ⟨{ w0 with ds := [(3, { st := 3, capacity := 2 ^ 40, offline := true })] }, 3,
      by unfold Live; decide +kernel,
      by decide +kernel⟩,
    ⟨{ w0 with ds := [(3, { st := 0, capacity := 2 ^ 40, offline := true })] }, 3, by
      refine ⟨by unfold Live; decide +kernel, ?_, ?_⟩ <;> decide +kernel⟩⟩

/-- States and operands that meet the hypotheses of each part of ChartsMapAndUnmap. -/
theorem test_ChartsMapAndUnmap :
    (∃ (s : State) (h : FdHdr) (dva dpa rights rm : Nat) (big : Bool), Takes s h 0x20 ∧ fdRoom s h = some rm ∧ dva < 2 ^ 47 ∧ dpa < 2 ^ 47 ∧
      rights < 8 ∧ dva % leafSize big = 0 ∧ dpa % leafSize big = 0 ∧ leafOwned s rm dpa big = true ∧ mfind (room s rm).leaves2 (dva / 2 ^ 39) = none ∧
      mfind (room s rm).leaves1 (dva / 2 ^ 30) = none ∧ (if big then mfind (room s rm).tables (dva / 2 ^ 39) = none else tablesUsed s < 7936 ∧
      (room s rm).tables.length < (room s rm).quotas.chartTable)) ∧
    (∃ (s : State) (h : FdHdr) (dva rm : Nat) (l : Leaf) (big : Bool), Takes s h 0x21 ∧ fdRoom s h = some rm ∧ dva < 2 ^ 47 ∧ dva % leafSize big = 0 ∧
      (if big then mfind (room s rm).leaves2 (dva / 2 ^ 39) else mfind (room s rm).leaves1 (dva / 2 ^ 30)) = some l) ∧
    (∃ (s : State) (fn op c a : Nat) (h : FdHdr), Live s ∧ h.fn = fn ∧ (func s fn).fd.running = some (h, op, .chartClear c a)) ∧
    (∃ (s : State) (h : FdHdr) (dva rm : Nat), Takes s h 0x22 ∧ fdRoom s h = some rm ∧ dva < 2 ^ 48) ∧
    (∃ (s : State) (h : FdHdr) (rm : Nat), Takes s h 0x23 ∧ fdRoom s h = some rm) ∧
    (∃ (s : State) (fn : Nat), Live s ∧ isInn s fn = true) :=
  ⟨⟨{ w0 with mem := { extents := [(3, { st := .granted, owner := some 0 })] } }, ({ fn := 0 } : FdHdr), 2 ^ 47 - 2 ^ 30, 3 * 2 ^ 30, 5, 0, false, by
      refine ⟨by unfold Takes Live; decide +kernel, ?_, ?_, ?_, ?_, ?_, ?_, ?_, ?_, ?_, ?_⟩ <;> decide +kernel⟩,
    ⟨{ wLeaf w0 with tcache := [.chart 0 0 false 0, .chart 1 2 false 0] }, ({ fn := 0 } : FdHdr), 0, 0, ({ dpa := 0, write := true, read := true, atomic := true } : Leaf), false, by
      refine ⟨by unfold Takes Live; decide +kernel, ?_, ?_, ?_, ?_⟩ <;> decide +kernel⟩,
    ⟨wRuns 0x21 (.chartClear 0 0) w0, 0, 0x21, 0, 0, ({ fn := 0 } : FdHdr), by
      refine ⟨by unfold Live; decide +kernel, ?_, ?_⟩ <;> decide +kernel⟩,
    ⟨wLeaf w0, ({ fn := 0 } : FdHdr), 5, 0, by
      refine ⟨by unfold Takes Live; decide +kernel, ?_, ?_⟩ <;> decide +kernel⟩,
    ⟨{ w0 with rooms := mmod w0.rooms 0 {} (fun r => { r with epoch := 65535 }) }, ({ fn := 0 } : FdHdr), 0,
      by unfold Takes Live; decide +kernel,
      by decide +kernel⟩,
    ⟨{ w0 with tcache := [.chart 0 0 false 0], arms := [(2, 7)] }, 0,
      by unfold Live; decide +kernel,
      by decide +kernel⟩⟩

/-- States and operands that meet the hypotheses of each part of WindowsOpenModifyAndRevoke. -/
theorem test_WindowsOpenModifyAndRevoke :
    (∃ (s : State) (h : FdHdr) (rm i base len rights pasid qpn : Nat) (space zb sl pv qb : Bool), Takes s h 0x28 ∧ fdRoom s h = some rm ∧ rights < 8 ∧
      pasid < 2 ^ 20 ∧ qpn < 2 ^ 24 ∧ len ≠ 0 ∧ len < 2 ^ 40 ∧ base + len ≤ (if space then 2 ^ 48 else 2 ^ 64) ∧ nextWindow s = some i ∧
      windowsOf s rm < (room s rm).quotas.window) ∧
    (∃ (s : State) (h : FdHdr) (rm key len rights i : Nat) (w : Window), Takes s h 0x29 ∧ fdRoom s h = some rm ∧ rights < 8 ∧
      keyWindow s rm key = some (i, w) ∧ len ≠ 0 ∧ len < 2 ^ 40 ∧ widens w len rights = false) ∧
    (∃ (s : State) (fn op i : Nat) (h : FdHdr), Live s ∧ h.fn = fn ∧ (func s fn).fd.running = some (h, op, .windowModify i) ∧
      oldAdmitted s i = false) ∧
    (∃ (s : State) (h : FdHdr) (rm key i : Nat) (w : Window), Takes s h 0x2A ∧ fdRoom s h = some rm ∧ keyWindow s rm key = some (i, w)) ∧
    (∃ (s : State) (i : Nat), Live s ∧ (window s i).st = 2 ∧ (window s i).admitted = 0) :=
  ⟨⟨w0, ({ fn := 0 } : FdHdr), 0, 1, 2 ^ 48 - 4096, 4096, 6, 0, 0, true, true, false, false, false, by
      refine ⟨by unfold Takes Live; decide +kernel, ?_, ?_, ?_, ?_, ?_, ?_, ?_, ?_, ?_⟩ <;> decide +kernel⟩,
    ⟨{ w0 with windows := [(7, { st := 1, base := 64, len := 1000, gen := 255, rread := true, rwrite := true })] }, ({ fn := 0 } : FdHdr), 0, 255 * 2 ^ 24 + 7, 999, 2, 7, ({ st := 1, base := 64, len := 1000, gen := 255, rread := true, rwrite := true } : Window), by
      refine ⟨by unfold Takes Live; decide +kernel, ?_, ?_, ?_, ?_, ?_, ?_⟩ <;> decide +kernel⟩,
    ⟨wRuns 0x29 (.windowModify 7) w0, 0, 0x29, 7, ({ fn := 0 } : FdHdr), by
      refine ⟨by unfold Live; decide +kernel, ?_, ?_, ?_⟩ <;> decide +kernel⟩,
    ⟨{ w0 with windows := [(7, { st := 1, base := 64, len := 1000, gen := 255, rread := true, rwrite := true })] }, ({ fn := 0 } : FdHdr), 0, 255 * 2 ^ 24 + 7, 7, ({ st := 1, base := 64, len := 1000, gen := 255, rread := true, rwrite := true } : Window), by
      refine ⟨by unfold Takes Live; decide +kernel, ?_, ?_⟩ <;> decide +kernel⟩,
    ⟨{ w0 with windows := [(7, { st := 2 })] }, 7, by
      refine ⟨by unfold Live; decide +kernel, ?_, ?_⟩ <;> decide +kernel⟩⟩

/-- States and operands that meet the hypotheses of each part of QueuesAreFedAndDrained. -/
theorem test_QueuesAreFedAndDrained :
    (∃ (s : State) (fn q i : Nat), Live s ∧ q ≠ 4095 ∧ (queue s fn q).st ≠ .free ∧ (queue s fn q).kind.software = true) ∧
    (∃ (s : State) (fn i : Nat), Live s) ∧
    (∃ (s : State) (fn q i : Nat) (arm : Bool), Live s ∧ q ≠ 4094 ∧ (queue s fn q).st ≠ .free ∧ (queue s fn q).kind.software = false ∧
      (queue s fn q).held = [] ∧ ((BitVec.ofNat 32 i - (queue s fn q).cons).toNat ≤ (queue s fn q).occupied)) ∧
    (∃ (s : State) (fn i : Nat), Live s ∧ ((BitVec.ofNat 32 i - (func s fn).fd.resp.cons).toNat ≤ (func s fn).fd.resp.occupied)) ∧
    (∃ (s : State) (fn q i : Nat) (arm : Bool), Live s ∧ q ≠ 4094 ∧ (queue s fn q).st = .active ∧ (queue s fn q).kind.software = false ∧
      (queue s fn q).occupied < (BitVec.ofNat 32 i - (queue s fn q).cons).toNat) ∧
    (∃ (s : State) (fn q rm : Nat) (b data : List Byte), Live s ∧ q ≠ 4095 ∧ roomOf s fn = some rm ∧ (queue s fn q).st = .active ∧
      ((queue s fn q).kind = .send ∨ (queue s fn q).kind = .recv) ∧ cqReady s fn (queue s fn q).cq = true ∧ s.mem.latentCe = [] ∧
      wildRing s fn q (queue s fn q) = false ∧ (queue s fn q).again = 0 ∧ fetchUnits s fn (queue s fn q) (queue s fn q).cons 1 = .ok b ∧
      fld (wordAt b 0) 7 0 + 1 ≤ (queue s fn q).occupied ∧ fetchUnits s fn (queue s fn q) (queue s fn q).cons (fld (wordAt b 0) 7 0 + 1) = .ok data ∧
      formOf s (queue s fn q) data = none ∧ sendPaused s fn q (queue s fn q) (fld (wordAt b 0) 15 8) data = false ∧ reachedBad s fn q = none) ∧
    (∃ (s : State) (fn q rm : Nat) (b data : List Byte), Live s ∧ q ≠ 4095 ∧ roomOf s fn = some rm ∧ (queue s fn q).st = .active ∧
      (queue s fn q).kind = .engine ∧ cqReady s fn (queue s fn q).cq = true ∧ s.mem.latentCe = [] ∧ wildRing s fn q (queue s fn q) = false ∧
      (queue s fn q).again = 0 ∧ openList s fn q = none ∧ inFlight s rm (queue s fn q).cls < listQuota (room s rm) (queue s fn q).cls ∧
      fetchUnits s fn (queue s fn q) (queue s fn q).cons 1 = .ok b ∧ fld (wordAt b 0) 7 0 + 1 ≤ (queue s fn q).occupied ∧
      fetchUnits s fn (queue s fn q) (queue s fn q).cons (fld (wordAt b 0) 7 0 + 1) = .ok data ∧ reachedBad s fn q = none ∧
      (queue s fn q).passing = false) ∧
    (∃ (s : State) (fn d : Nat) (b data : List Byte), Live s ∧ fdFree s fn = true ∧ s.mem.latentCe = [] ∧
      wildRing s fn 4095 (func s fn).fd.req = false ∧ (hport s (fnPort fn)).st = .up ∧
      fetchUnits s fn (func s fn).fd.req (func s fn).fd.req.cons 1 = .ok b ∧ fld (wordAt b 0) 7 0 + 1 ≤ (func s fn).fd.req.occupied ∧
      fetchUnits s fn (func s fn).fd.req (func s fn).fd.req.cons (fld (wordAt b 0) 7 0 + 1) = .ok data ∧
      fdFormBad (fdBarred s fn (fld (wordAt b 0) 15 8) data) (fld (wordAt b 0) 15 8) data = some d) ∧
    (∃ (s : State) (fn q rm op d : Nat) (r : ListRec) (h : CmdHdr), Live s ∧ q ≠ 4095 ∧ roomOf s fn = some rm ∧
      reachedBad s fn q = some (r, h, op, d) ∧ stopClass s fn q = false ∧ h.fn = fn ∧ h.queue = q ∧ h.list = r.list ∧ r.signals ≠ []) ∧
    (∃ (s : State) (fn q : Nat), Live s ∧ (queue s fn q).st ≠ .free ∧ (queue s fn q).kind.software = false ∧
      modDue (elapsed s) (queue s fn q) = true ∧ (func s fn).masked.contains (queue s fn q).vector = false ∧ (hport s (fnPort fn)).st = .up) :=
  ⟨⟨wQueue { st := .active, kind := .recv }, 0, 0, 2 ^ 32 - 1, by
      refine ⟨by unfold Live; decide +kernel, ?_, ?_, ?_⟩ <;> decide +kernel⟩,
    ⟨w0, 0, 9,
      by unfold Live; decide +kernel⟩,
    ⟨wQueue { st := .active, kind := .cq, cons := 0xFFFFFFFF, prod := 3, modTime := 0 }, 0, 0, 3, true, by
      refine ⟨by unfold Live; decide +kernel, ?_, ?_, ?_, ?_, ?_⟩ <;> decide +kernel⟩,
    ⟨w0, 0, 0,
      by unfold Live; decide +kernel,
      by decide +kernel⟩,
    ⟨wQueue { st := .active, kind := .cq, cons := 0xFFFFFFFF, prod := 3, seq := 255 }, 0, 0, 4, true, by
      refine ⟨by unfold Live; decide +kernel, ?_, ?_, ?_, ?_⟩ <;> decide +kernel⟩,
    ⟨{ wQueue { st := .active, kind := .send, base := 0x10000, cq := 1, cons := 255, prod := 257 } with hmem := [(0, [(0x10FF1, 1), (0x10FF4, 9)])] }, 0, 0, 0, [0, 1, 0, 0, 9, 0, 0, 0, 0, 0, 0, 0, 0, 0, 0, 0], [0, 1, 0, 0, 9, 0, 0, 0, 0, 0, 0, 0, 0, 0, 0, 0], by
      refine ⟨by unfold Live; decide +kernel, ?_, ?_, ?_, ?_, ?_, ?_, ?_, ?_, ?_, ?_, ?_, ?_, ?_, ?_⟩ <;> decide +kernel⟩,
    ⟨{ wQueue { st := .active, kind := .engine, cls := 2, base := 0x10000, cq := 1, cons := 255, prod := 257 } with hmem := [(0, [(0x10FF8, 9), (0x10FFC, 5)])] }, 0, 0, 0, [0, 0, 0, 0, 0, 0, 0, 0, 9, 0, 0, 0, 5, 0, 0, 0], [0, 0, 0, 0, 0, 0, 0, 0, 9, 0, 0, 0, 5, 0, 0, 0], by
      refine ⟨by unfold Live; decide +kernel, ?_, ?_, ?_, ?_, ?_, ?_, ?_, ?_, ?_, ?_, ?_, ?_, ?_, ?_, ?_⟩ <;> decide +kernel⟩,
    ⟨{ w0 with hmem := [(0, [(1, 0x99)])] }, 0, 2, [0, 0x99, 0, 0, 0, 0, 0, 0, 0, 0, 0, 0, 0, 0, 0, 0], [0, 0x99, 0, 0, 0, 0, 0, 0, 0, 0, 0, 0, 0, 0, 0, 0], by
      refine ⟨by unfold Live; decide +kernel, ?_, ?_, ?_, ?_, ?_, ?_, ?_, ?_⟩ <;> decide +kernel⟩,
    ⟨{ w0 with funcs := w0.funcs ++ [(1, { enabled := true })], rooms := mset w0.rooms 8 { st := .opened, fn := 1 }, queues := [(qkey 1 0, { st := .active, kind := .engine, cls := 2, base := 0x10000, cq := 1, cons := 255, prod := 257 }), (qkey 1 1, { st := .active, kind := .cq, base := 0x20000, log2 := 8 })], lists := [{ wList 2 with fn := 1, room := 8, st := .onTile, tile := some 20, inFlight := true, count := 1, signals := [9], bad := [(0, { wh with fn := 1 }, 0x20, 4)] }] }, 1, 0, 8, 0x20, 4, ({ wList 2 with fn := 1, room := 8, st := .onTile, tile := some 20, inFlight := true, count := 1, signals := [9], bad := [(0, { wh with fn := 1 }, 0x20, 4)] } : ListRec), ({ wh with fn := 1 } : CmdHdr), by
      refine ⟨by unfold Live; decide +kernel, ?_, ?_, ?_, ?_, ?_, ?_, ?_, ?_⟩ <;> decide +kernel⟩,
    ⟨wQueue { st := .active, kind := .cq, cons := 3, prod := 4, armed := true, vector := 7, sinceArm := 1, firstAt := some 5 }, 0, 0, by
      refine ⟨by unfold Live; decide +kernel, ?_, ?_, ?_, ?_, ?_⟩ <;> decide +kernel⟩⟩

/-- States and operands that meet the hypotheses of each part of QueuesChangeState. -/
theorem test_QueuesChangeState :
    (∃ (s : State) (fn q : Nat), Live s ∧ qQuiet s fn = false ∧ ((queue s fn q).st = .disabled ∨ (queue s fn q).st = .draining) ∧
      (queue s fn q).held = []) ∧
    (∃ (s : State) (fn q : Nat), Live s ∧ (queue s fn q).st = .active ∧ (queue s fn q).kind.software = true ∧ outstanding s fn q = false) ∧
    (∃ (s : State) (fn q : Nat), Live s ∧ (queue s fn q).st = .active ∧ (queue s fn q).kind = .send ∧ outstanding s fn q = true) ∧
    (∃ (s : State) (fn q : Nat), Live s ∧ (queue s fn q).st = .draining ∧ (queue s fn q).kind.software = true ∧ outstanding s fn q = false ∧
      (queue s fn q).eq ≠ q) ∧
    (∃ (s : State) (fn q : Nat) (b : List Byte) (skip : Bool), Live s ∧ (queue s fn q).st = .error ∧ (queue s fn q).kind.software = true ∧
      qQuiet s fn = false ∧ (∀ r ∈ s.lists, r.fn = fn → r.queue = q → r.st ≠ .held) ∧
      fetchUnits s fn (queue s fn q) (BitVec.ofNat 32 (queue s fn q).errIndex) 1 = .ok b) ∧
    (∃ (s : State) (fn q : Nat) (skip : Bool), Live s ∧ (queue s fn q).st = .error ∧ (queue s fn q).kind.software = false ∧ qQuiet s fn = false ∧
      (queue s fn q).held = []) :=
  ⟨⟨wQueue { st := .disabled, kind := .recv }, 0, 0, by
      refine ⟨by unfold Live; decide +kernel, ?_, ?_, ?_⟩ <;> decide +kernel⟩,
    ⟨wQueue { st := .active, kind := .send, cons := 4, prod := 9 }, 0, 0, by
      refine ⟨by unfold Live; decide +kernel, ?_, ?_, ?_⟩ <;> decide +kernel⟩,
    ⟨{ wQueue { st := .active, kind := .send, cons := 4, prod := 9, fetched := [{ index := 3, units := 1, opcode := 1, tag := 0 }] } with qps := [(5, { st := .ready })] }, 0, 0, by
      refine ⟨by unfold Live; decide +kernel, ?_, ?_, ?_⟩ <;> decide +kernel⟩,
    ⟨wQueue { st := .draining, kind := .recv }, 0, 0, by
      refine ⟨by unfold Live; decide +kernel, ?_, ?_, ?_, ?_⟩ <;> decide +kernel⟩,
    ⟨{ wQueue { st := .error, kind := .recv, base := 0x10000, cons := 9, prod := 20, errIndex := 7 } with hmem := [(0, [(0x10070, 2)])] }, 0, 0, [2, 0, 0, 0, 0, 0, 0, 0, 0, 0, 0, 0, 0, 0, 0, 0], true, by
      refine ⟨by unfold Live; decide +kernel, ?_, ?_, ?_, ?_, ?_⟩ <;> decide +kernel⟩,
    ⟨wQueue { st := .error, kind := .ledger }, 0, 0, true, by
      refine ⟨by unfold Live; decide +kernel, ?_, ?_, ?_, ?_⟩ <;> decide +kernel⟩⟩

/-- States and operands that meet the hypotheses of each part of QueuesAreMadeAndDestroyed. -/
theorem test_QueuesAreMadeAndDestroyed :
    (∃ (s : State) (h : FdHdr) (kind cls log2 vector cq eq modCount pasid modTime base rm n : Nat) (pv : Bool), Takes s h 0x01 ∧
      roomOf s h.fn = some rm ∧ createBad s h kind cls pv vector cq eq modCount pasid modTime base = none ∧
      createResult s h.fn rm kind cls log2 vector cq eq base = 0 ∧ n < 3840 ∧ (queue s h.fn n).st = .free ∧
      (∀ m, m < n → (queue s h.fn m).st ≠ .free)) ∧
    (∃ (s : State) (h : FdHdr) (q : Nat), Takes s h 0x02 ∧ q < 4096 ∧ (queue s h.fn q).st = .disabled ∧ qIdle s h.fn q = true ∧
      queueNamed s h.fn q = false) ∧
    (∃ (s : State) (h : FdHdr) (q mc mt : Nat), Takes s h 0x03 ∧ q < 4096 ∧ 1 ≤ mc ∧ mc ≤ 256 ∧ mt < 65536 ∧ (queue s h.fn q).st ≠ .free ∧
      (queue s h.fn q).kind.software = false) ∧
    (∃ (s : State) (fn : Nat), Live s ∧ (func s fn).enabled = true ∧ (qQuiet s fn = false ∨ isInn s fn = true) ∧ (func s fn).fd.req.st = .disabled ∧
      (func s fn).fd.resp.st = .disabled ∧ (func s fn).fd.resp.held = []) ∧
    (∃ (s : State) (fn : Nat), Live s ∧ (func s fn).enabled = true ∧ (func s fn).fd.req.st = .active ∧ (func s fn).fd.resp.st = .active ∧
      (func s fn).fd.resp.held = []) ∧
    (∃ (s : State) (fn : Nat) (b : List Byte) (skip : Bool), Live s ∧ (func s fn).enabled = true ∧ (qQuiet s fn = false ∨ isInn s fn = true) ∧
      (func s fn).fd.req.st = .error ∧ (func s fn).fd.resp.st = .active ∧ (func s fn).fd.resp.held = [] ∧
      fetchUnits s fn (func s fn).fd.req (BitVec.ofNat 32 (func s fn).fd.req.errIndex) 1 = .ok b) :=
  ⟨⟨wQueue { st := .active, kind := .recv }, ({ fn := 0 } : FdHdr), 2, 6, 24, 0, 1, 0xFFF, 0, 5, 0, 0x1000, 0, 2, true, by
      refine ⟨by unfold Takes Live; decide +kernel, ?_, ?_, ?_, ?_, ?_, ?_⟩ <;> decide +kernel⟩,
    ⟨wQueue { st := .disabled, kind := .recv }, ({ fn := 0 } : FdHdr), 0, by
      refine ⟨by unfold Takes Live; decide +kernel, ?_, ?_, ?_, ?_⟩ <;> decide +kernel⟩,
    ⟨wQueue {}, ({ fn := 0 } : FdHdr), 1, 256, 65535, by
      refine ⟨by unfold Takes Live; decide +kernel, ?_, ?_, ?_, ?_, ?_, ?_⟩ <;> decide +kernel⟩,
    ⟨{ w0 with funcs := [(65, { enabled := true })], hports := [(1, { st := .up })] }, 65, by
      refine ⟨by unfold Live; decide +kernel, ?_, ?_, ?_, ?_, ?_⟩ <;> decide +kernel⟩,
    ⟨w0, 0, by
      refine ⟨by unfold Live; decide +kernel, ?_, ?_, ?_, ?_⟩ <;> decide +kernel⟩,
    ⟨{ w0 with funcs := [(65, { enabled := true, fd := { enable := true, req := { st := .error, errIndex := 4, cons := 5, prod := 8 }, resp := { st := .active, log2 := 9 } } })], hports := [(1, { st := .up })] }, 65, List.replicate 16 0, true, by
      refine ⟨by unfold Live; decide +kernel, ?_, ?_, ?_, ?_, ?_, ?_⟩ <;> decide +kernel⟩⟩

/-- States and operands that meet the hypotheses of each part of ListsRunTheirCommonCommands. -/
theorem test_ListsRunTheirCommonCommands :
    (∃ (s : State) (h : CmdHdr) (rm : Nat), Plain h ∧ Begins s h 0 0 (fun _ _ => none) rm) ∧
    (∃ (s : State) (h : CmdHdr) (rm l mode v : Nat), Plain h ∧ Begins s h 1 0 (lanternSignalBad l mode) rm ∧ l ≠ 0xFFFF ∧ (listOf s h rm).room = rm) ∧
    (∃ (s : State) (h : CmdHdr) (rm : Nat) (target : Word), Plain h ∧ Begins s h 2 0 (fun _ _ => none) rm ∧ reached target s.tide.count = false ∧
      timedUsed s < 16384) ∧
    (∃ (s : State) (h : CmdHdr) (rm : Nat), Plain h ∧ Begins s h 3 0 (fun _ _ => none) rm ∧ wallPorts s ≠ []) ∧
    (∃ (s : State) (h : CmdHdr) (rm units addr : Nat) (b : Body), h.fin = true ∧ h.wait = 0xFFFF ∧ h.epoch = 0 ∧ h.index = h.list ∧
      Begins s h 4 0 (listExecBad h units addr) rm ∧ bodyGo s h.fn units 0 addr 0 false [] = .ok b ∧ s.mem.latentCe = []) :=
  ⟨⟨wEng 2, wh, 0,
      by unfold Plain; decide +kernel,
      by unfold Begins Live; decide +kernel⟩,
    ⟨{ wEng 2 with rooms := mmod w0.rooms 0 {} (fun r => { r with lanterns := [(255, { count := 0xFFFFFFFF })] }) }, wh, 0, 255, 0, 2, by
      refine ⟨by unfold Plain; decide +kernel, by unfold Begins Live; decide +kernel, ?_, ?_⟩ <;> decide +kernel⟩,
    ⟨{ wEng 2 with tide := { count := 5 } }, wh, 0, 6, by
      refine ⟨by unfold Plain; decide +kernel, by unfold Begins Live; decide +kernel, ?_, ?_⟩ <;> decide +kernel⟩,
    ⟨wEng 2, wh, 0,
      by unfold Plain; decide +kernel,
      by unfold Begins Live; decide +kernel,
      by decide +kernel⟩,
    ⟨{ wEng 2 with hmem := [(0, [(4096, 0), (4108, 9)])] }, { wh with units := 3, fin := true, signal := 7 }, 0, 2, 4096, ({ read := 2, cmds := [List.replicate 12 0 ++ [9, 0, 0, 0], List.replicate 16 0], bad := true } : Body), by
      refine ⟨?_, ?_, ?_, ?_, by unfold Begins Live; decide +kernel, ?_, ?_⟩ <;> decide +kernel⟩⟩

/-- States and operands that meet the hypotheses of each part of ListsWaitAndAreDispatched. -/
theorem test_ListsWaitAndAreDispatched :
    (∃ (s : State) (cls rm t0 : Nat) (r : ListRec), Live s ∧ turnRoom s cls = some rm ∧ turnList s cls rm = some r ∧
      pickTile s cls (pickDie s r) = some t0 ∧ findList s r.fn r.queue r.list = some r) ∧
    (∃ (s : State) (fn q l : Nat) (r : ListRec), Live s ∧ findList s fn q l = some r ∧ r.st = .parked ∧ r.waitLantern ≠ 0xFFFF ∧
      waitMet (lantern s r.room r.waitLantern) r.waitTarget r.waitIgnore = true) ∧
    (∃ (s : State) (fn q l op : Nat) (r : ListRec) (h : CmdHdr), Live s ∧ findList s fn q l = some r ∧ r.st = .parked ∧ r.waitMax ≠ 0 ∧
      waitMet (lantern s r.room r.waitLantern) r.waitTarget r.waitIgnore = false ∧
      reached (r.waitSince + BitVec.ofNat 64 (r.waitMax * 16000)) (elapsed s) = true ∧ r.cur = some (h, op) ∧ h.fn = fn ∧ h.queue = q ∧ h.list = l ∧
      r.signals ≠ []) ∧
    (∃ (s : State) (fn l v rm : Nat), Live s ∧ roomOf s fn = some rm ∧ l < (room s rm).quotas.lantern) ∧
    (∃ (s : State) (fn l v rm : Nat) (part : Part) (f : Bool), Live s ∧ roomOf s fn = some rm ∧ l < (room s rm).quotas.lantern) ∧
    (∃ (s : State) (w : TimedWait) (r : ListRec) (h : CmdHdr), Live s ∧ s.coll.members = [] ∧ s.coll.nodes = [] ∧ s.tide.waits = [w] ∧
      w.armed = true ∧ w.start = false ∧ reached w.target s.tide.count = true ∧ findList s w.fn w.queue w.list = some r ∧ r.st = .timed ∧
      r.cur = some (h, 2) ∧ Plain h ∧ h.fn = w.fn ∧ h.queue = w.queue ∧ h.list = w.list) ∧
    (∃ (s : State) (w : SeawallRec) (r : ListRec) (h : CmdHdr) (op : Nat), Live s ∧ s.seawalls = [w] ∧ w.kind = 0 ∧ w.hdr = some h ∧ w.opcode = op ∧
      (∀ p ∈ w.ports, (hport s p).st ≠ .hold) ∧ h.signal = 0xFFFF ∧ h.notify = false ∧ h.fin = false ∧ findList s h.fn h.queue h.list = some r ∧
      r.st = .held ∧ r.cur = some (h, op)) ∧
    (∃ (s : State) (fn : Nat) (v : Word), Live s ∧ isInn s fn = true ∧ armed s 5 = true) ∧
    (∃ (s : State) (tl off : Nat), Live s ∧ tl < 64 ∧ tl ∉ s.tilesHalted) :=
  ⟨⟨{ wEng 2 with lists := [{ wList 2 with st := .ready, whole := true, count := 1, signals := [3] }] }, 2, 0, (match pickTile { wEng 2 with lists := [{ wList 2 with st := .ready, whole := true, count := 1, signals := [3] }] } 2 0 with | some t => t | none => 99), ({ wList 2 with st := .ready, whole := true, count := 1, signals := [3] } : ListRec), by
      refine ⟨by unfold Live; decide +kernel, ?_, ?_, ?_, ?_⟩ <;> decide +kernel⟩,
    ⟨{ wEng 2 with lists := [{ wList 2 with st := .parked, inFlight := true, signals := [3, 0xFFFF], waitLantern := 4, waitTarget := 1, waitMax := 9, cur := some ({ wh with wait := 4 }, 0x20) }], rooms := mmod w0.rooms 0 {} (fun r => { r with lanterns := [(4, { count := 1 })] }) }, 0, 0, 0, ({ wList 2 with st := .parked, inFlight := true, signals := [3, 0xFFFF], waitLantern := 4, waitTarget := 1, waitMax := 9, cur := some ({ wh with wait := 4 }, 0x20) } : ListRec), by
      refine ⟨by unfold Live; decide +kernel, ?_, ?_, ?_, ?_⟩ <;> decide +kernel⟩,
    ⟨{ wEng 2 with lists := [{ wList 2 with st := .parked, inFlight := true, signals := [3, 0xFFFF], waitLantern := 4, waitTarget := 1, waitMax := 9, cur := some ({ wh with wait := 4 }, 0x20) }], tide := { count := 144000 } }, 0, 0, 0, 0x20, ({ wList 2 with st := .parked, inFlight := true, signals := [3, 0xFFFF], waitLantern := 4, waitTarget := 1, waitMax := 9, cur := some ({ wh with wait := 4 }, 0x20) } : ListRec), ({ wh with wait := 4 } : CmdHdr), by
      refine ⟨by unfold Live; decide +kernel, ?_, ?_, ?_, ?_, ?_, ?_, ?_, ?_, ?_, ?_⟩ <;> decide +kernel⟩,
    ⟨w0, 0, 255, 2 ^ 32 - 1, 0, by
      refine ⟨by unfold Live; decide +kernel, ?_, ?_⟩ <;> decide +kernel⟩,
    ⟨w0, 0, 255, 2 ^ 32 + 1, 0, .full, true, by
      refine ⟨by unfold Live; decide +kernel, ?_, ?_⟩ <;> decide +kernel⟩,
    ⟨{ wEng 2 with lists := [{ wList 2 with st := .timed, inFlight := true, cur := some (wh, 2) }], tide := { count := 70, waits := [{ id := 5, target := 70 }] } }, ({ id := 5, target := 70 } : TimedWait), ({ wList 2 with st := .timed, inFlight := true, cur := some (wh, 2) } : ListRec), wh, by
      refine ⟨by unfold Live; decide +kernel, ?_, ?_, ?_, ?_, ?_, ?_, ?_, ?_, ?_, by unfold Plain; decide +kernel, ?_, ?_, ?_⟩ <;> decide +kernel⟩,
    ⟨{ wEng 2 with lists := [{ wList 2 with st := .held, inFlight := true, tile := some 3, flags := 1, cur := some (wh, 3) }], seawalls := [{ id := 6, room := 0, ports := [0, 1], partialSeen := true, kind := 0, hdr := some wh, opcode := 3, bytes := 0, flags := 2 }] }, ({ id := 6, room := 0, ports := [0, 1], partialSeen := true, kind := 0, hdr := some wh, opcode := 3, bytes := 0, flags := 2 } : SeawallRec), ({ wList 2 with st := .held, inFlight := true, tile := some 3, flags := 1, cur := some (wh, 3) } : ListRec), wh, 3, by
      refine ⟨by unfold Live; decide +kernel, ?_, ?_, ?_, ?_, ?_, ?_, ?_, ?_, ?_, ?_, ?_⟩ <;> decide +kernel⟩,
    ⟨{ wEng 2 with arms := [(5, 0)], lists := [{ { wList 2 with st := .ready, whole := true, count := 1, signals := [3] } with tile := some 4, st := .behind }] }, 0, 0xFFFFFFFFFFFFFFEF, by
      refine ⟨by unfold Live; decide +kernel, ?_, ?_⟩ <;> decide +kernel⟩,
    ⟨w0, 63, 5, by
      refine ⟨by unfold Live; decide +kernel, ?_, ?_⟩ <;> decide +kernel⟩⟩

/-- States and operands that meet the hypotheses of each part of QueuePairsAreMadeAndConnected. -/
theorem test_QueuePairsAreMadeAndConnected :
    (∃ (s : State) (h : FdHdr) (sq rq maxOps l tc spray pc rm : Nat) (sl pin : Bool), Takes s h 0x40 ∧ roomOf s h.fn = some rm ∧
      qpCreateBad s h sq rq maxOps l tc spray pc = none ∧ qpCreateResult s h rm sq rq pin = 0) ∧
    (∃ (s : State) (h : FdHdr) (n pq pn tmo ep rl rn w : Nat) (sp rp : BitVec 32), OwnsQp s h 0x41 n ∧ (qp s n).st = .init ∧
      ((qp s n).roce.isSome = true → pn = 0 ∧ ep = 0) ∧ ((qp s n).sealed = true → (qp s n).keySlot ≠ none) ∧ pq < 2 ^ 24 ∧ rl < 8 ∧ rn < 8 ∧ 1 ≤ w ∧
      w ≤ 512 ∧ (tmo = 0 ∨ 4 ≤ tmo)) ∧
    (∃ (s : State) (h : FdHdr) (n tmo rl rn w spray pc : Nat), OwnsQp s h 0x42 n ∧ ((qp s n).st = .init ∨ (qp s n).st = .drained) ∧
      ((qp s n).roce.isSome = true → spray = 0 ∧ pc = 1) ∧ rl < 8 ∧ rn < 8 ∧ 1 ≤ w ∧ w ≤ 512 ∧ (tmo = 0 ∨ 4 ≤ tmo) ∧ spray < 3 ∧ 1 ≤ pc ∧ pc ≤ 16) ∧
    (∃ (s : State) (h : FdHdr) (n base slots : Nat), OwnsQp s h 0x49 n ∧ ((qp s n).st = .init ∨ (qp s n).st = .drained) ∧ slots ≤ 16 ∧ base % 64 = 0 ∧
      operand (room s (qp s n).room) base ≠ .bad) ∧
    (∃ (s : State) (h : FdHdr) (n port dscp hl pmtu pkey sport lip mac hi lo : Nat) (v6 : Bool), OwnsQp s h 0x4A n ∧ (qp s n).st = .init ∧
      (qp s n).sealed = false ∧ (qp s n).spray = 0 ∧ (qp s n).pathCount = 1 ∧ port < 16 ∧ (fport s port).direct = false ∧ dscp < 256 ∧ hl < 256 ∧
      3 ≤ pmtu ∧ pmtu ≤ 5 ∧ pkey < 65536 ∧ sport < 65536 ∧ lip < 8 ∧ mac < 2 ^ 48) ∧
    (∃ (s : State) (h : FdHdr) (n slot : Nat), OwnsQp s h 0x80 n ∧ (qp s n).st = .init ∧ (qp s n).sealed = true ∧ slot < 4 ∧
      ((mget (room s (qp s n).room).keys slot {}).bank (mget (room s (qp s n).room).keys slot {}).active).loaded = true) ∧
    (∃ (s : State) (h : FdHdr) (rm base k : Nat), Takes s h 0x48 ∧ roomOf s h.fn = some rm ∧ k % 8 = 0 ∧ (k = 0 → base = 0) ∧ k ≤ 16777216 ∧
      base % 4096 = 0 ∧ spillUsed s rm = 0) ∧
    (∃ (s : State) (h : FdHdr) (n p a : Nat), OwnsQp s h 0x47 n ∧ badResultAddr s h = false ∧ h.resultAddr ≠ 0 ∧
      resolve s (fdCtx s h 6) h.resultAddr 64 .write = ([{ off := 0, loc := .host p a, len := 64 }], none) ∧ (hport s p).st = .up) :=
  ⟨⟨wQp wReady, ({ fn := 0 } : FdHdr), 0, 2, 0, 255, 7, 2, 16, 0, true, true, by
      refine ⟨by unfold Takes Live; decide +kernel, ?_, ?_, ?_⟩ <;> decide +kernel⟩,
    ⟨wQp { wReady with st := .init, sealed := true, keySlot := some 3 }, ({ fn := 0 } : FdHdr), 5, 2 ^ 24 - 1, 65535, 4, 65535, 7, 0, 512, 0xFFFFFFFF, 5, by
      refine ⟨by unfold OwnsQp Takes Live; decide +kernel, ?_, ?_, ?_, ?_, ?_, ?_, ?_, ?_, ?_⟩ <;> decide +kernel⟩,
    ⟨wQp { wReady with st := .init }, ({ fn := 0 } : FdHdr), 5, 0, 7, 7, 1, 2, 16, by
      refine ⟨by unfold OwnsQp Takes Live; decide +kernel, ?_, ?_, ?_, ?_, ?_, ?_, ?_, ?_, ?_, ?_⟩ <;> decide +kernel⟩,
    ⟨wQp { wReady with st := .drained, proxySlots := 2 }, ({ fn := 0 } : FdHdr), 5, 64, 16, by
      refine ⟨by unfold OwnsQp Takes Live; decide +kernel, ?_, ?_, ?_, ?_⟩ <;> decide +kernel⟩,
    ⟨{ wQp { wReady with st := .init } with fports := [(15, { mode := 1 })] }, ({ fn := 0 } : FdHdr), 5, 15, 255, 255, 3, 65535, 65535, 7, 2 ^ 48 - 1, 0, 9, true, by
      refine ⟨by unfold OwnsQp Takes Live; decide +kernel, ?_, ?_, ?_, ?_, ?_, ?_, ?_, ?_, ?_, ?_, ?_, ?_, ?_, ?_⟩ <;> decide +kernel⟩,
    ⟨{ wQp { wReady with st := .init, sealed := true } with rooms := mmod w0.rooms 0 {} (fun r => { r with keys := [(3, { b1 := { loaded := true }, active := 1 })] }) }, ({ fn := 0 } : FdHdr), 5, 3, by
      refine ⟨by unfold OwnsQp Takes Live; decide +kernel, ?_, ?_, ?_, ?_⟩ <;> decide +kernel⟩,
    ⟨wQp wReady, ({ fn := 0 } : FdHdr), 0, 4096, 16777216, by
      refine ⟨by unfold Takes Live; decide +kernel, ?_, ?_, ?_, ?_, ?_, ?_⟩ <;> decide +kernel⟩,
    ⟨wHost (wQp wReady), ({ fn := 0, resultAddr := 4096 } : FdHdr), 5, 0, 4096, by
      refine ⟨by unfold OwnsQp Takes Live; decide +kernel, ?_, ?_, ?_, ?_⟩ <;> decide +kernel⟩⟩

/-- States and operands that meet the hypotheses of each part of QueuePairsChangeState. -/
theorem test_QueuePairsChangeState :
    (∃ (s : State) (h : FdHdr) (n : Nat), OwnsQp s h 0x43 n ∧ (qp s n).st = .ready) ∧
    (∃ (s : State) (n : Nat), Live s ∧ (qp s n).st = .draining ∧ (qp s n).ops = []) ∧
    (∃ (s : State) (h : FdHdr) (n : Nat), OwnsQp s h 0x44 n ∧ (qp s n).st = .drained) ∧
    (∃ (s : State) (h : FdHdr) (n : Nat), OwnsQp s h 0x45 n ∧ ((qp s n).st = .init ∨ (qp s n).st = .drained ∨ (qp s n).st = .error)) ∧
    (∃ (s : State) (h : FdHdr) (n : Nat), OwnsQp s h 0x46 n ∧ ((qp s n).st = .init ∨ (qp s n).st = .drained ∨ (qp s n).st = .error) ∧
      (qp s n).ops = []) :=
  ⟨⟨wQp wReady, ({ fn := 0 } : FdHdr), 5,
      by unfold OwnsQp Takes Live; decide +kernel,
      by decide +kernel⟩,
    ⟨wQp { wReady with st := .draining }, 5, by
      refine ⟨by unfold Live; decide +kernel, ?_, ?_⟩ <;> decide +kernel⟩,
    ⟨wQp { wReady with st := .drained }, ({ fn := 0 } : FdHdr), 5,
      by unfold OwnsQp Takes Live; decide +kernel,
      by decide +kernel⟩,
    ⟨wQp { wReady with st := .error, bitmap := [3], ops := [{ id := 0, wr := wWork, opcode := 1, total := 1 }] }, ({ fn := 0 } : FdHdr), 5,
      by unfold OwnsQp Takes Live; decide +kernel,
      by decide +kernel⟩,
    ⟨{ wQp { wReady with st := .error } with porch := [(0, [{ dstQpn := 5 }, { dstQpn := 4 }])] }, ({ fn := 0 } : FdHdr), 5, by
      refine ⟨by unfold OwnsQp Takes Live; decide +kernel, ?_, ?_⟩ <;> decide +kernel⟩⟩

/-- States and operands that meet the hypotheses of each part of WorkIsPostedAndSent. -/
theorem test_WorkIsPostedAndSent :
    (∃ (s : State) (w : WorkReq) (rm op : Nat) (c : Instr), (c, op) ∈ [(Instr.write w, 1), (.writeImm w, 2), (.writeSignal w, 3), (.send w, 4), (.sendImm w, 5), (.read w, 6), (.fetchAdd w, 7), (.cmpSwap w, 8)] ∧
      Live s ∧ roomOf s w.fn = some rm ∧ (queue s w.fn w.queue).kind = .send ∧ (queue s w.fn w.queue).st = .active ∧ wrBehind s w = false ∧
      cacheFrozen s (qp s w.qpn).die = false ∧ wrBad s w op false = none ∧ wrCourse s w op = .go) ∧
    (∃ (s : State) (w : WorkReq) (rm : Nat) (x : ProxySlot), Live s ∧ roomOf s w.fn = some rm ∧ (queue s w.fn w.queue).kind = .send ∧
      (queue s w.fn w.queue).st = .active ∧ wrBehind s w = false ∧ cacheFrozen s (qp s w.qpn).die = false ∧ wrBad s w 9 false = none ∧
      wrCourse s w 9 = .go ∧ (qp s w.qpn).ops = [] ∧ (qp s w.qpn).unacked = [] ∧ w.seawall = false ∧
      (qp s w.qpn).proxy.find? (fun y => y.slot == w.lantern) = some x) ∧
    (∃ (s : State) (h : CmdHdr) (w : WorkReq) (rm op : Nat), h.wait = 0xFFFF ∧ h.epoch = 0 ∧ 1 ≤ op ∧ op ≤ 8 ∧
      Begins s h 0x22 0 (xferPostBad h op w) rm ∧ wrCourse s { w with fn := h.fn, queue := h.queue, index := h.index, tag := h.tag } op = .go) ∧
    (∃ (s : State) (fn q i tag ep rm : Nat) (segs : List (Nat × Nat)), Live s ∧ roomOf s fn = some rm ∧ (queue s fn q).kind = .recv ∧
      (queue s fn q).st = .active ∧ segs.length ≤ 15 ∧ ep < 65536 ∧ (∀ g ∈ segs, g.2 ≤ 2 ^ 31 ∧ operand (room s rm) g.1 ≠ .bad)) ∧
    (∃ (s : State) (n nd ep : Nat) (o : Op) (data : List Byte), Live s ∧ cacheFrozen s (qp s n).die = false ∧ n < 2 ^ 24 ∧
      0 ≤ bucketTok s (rshape (qp s n).room) 0 ∧ s.heldPkts.find? (fun k => !k.stream && k.srcQpn == n) = none ∧ (qp s n).sends = true ∧
      (qp s n).holdFrom = none ∧ reached (qp s n).pace.sendAt (elapsed s) = true ∧ (qp s n).level = 0 ∧
      (qp s n).unacked.find? (fun u => u.lost) = none ∧ nextOp (qp s n).ops false = some o ∧ o.opcode ≠ 6 ∧
      ((qp s n).diff (qp s n).nextPsn (qp s n).oldest).toNat < (qp s n).window ∧
      opData s n (qp s n) { o with msn := if o.sent = 0 then (qp s n).nextMsn else o.msn } o.sent = .ok data ∧ (qp s n).roce = none ∧
      s.router.st = .run ∧ (∀ p c, throttled s p c = false)) :=
  ⟨⟨wQp wReady, { wWork with rseawall := true }, 0, 1, Instr.write { wWork with rseawall := true }, by
      refine ⟨?_, by unfold Live; decide +kernel, ?_, ?_, ?_, ?_, ?_, ?_, ?_⟩ <;> decide +kernel⟩,
    ⟨wQp { wReady with proxy := [{ slot := 3, psn := 7, msn := 1, opcode := 7, size := 8, path := 2 }] }, ({ fn := 0, queue := 0, units := 4, qpn := 5, lantern := 3, compareAdd := 77 } : WorkReq), 0, ({ slot := 3, psn := 7, msn := 1, opcode := 7, size := 8, path := 2 } : ProxySlot), by
      refine ⟨by unfold Live; decide +kernel, ?_, ?_, ?_, ?_, ?_, ?_, ?_, ?_, ?_, ?_, ?_⟩ <;> decide +kernel⟩,
    ⟨{ wLeaf (wQp wReady) with queues := [(qkey 0 0, { st := .active, kind := .engine, cls := 0, base := 0x10000, cq := 1 })] }, { wh with units := 6 }, ({ fn := 0, queue := 9, qpn := 5, bytes := 4, localAddr := 2 ^ 63 + 8, remoteAddr := 64 } : WorkReq), 0, 1, by
      refine ⟨?_, ?_, ?_, ?_, by unfold Begins Live; decide +kernel, ?_⟩ <;> decide +kernel⟩,
    ⟨wQp wReady, 0, 2, 3, 4, 65535, 0, List.replicate 15 (4096, 2 ^ 31), by
      refine ⟨by unfold Live; decide +kernel, ?_, ?_, ?_, ?_, ?_, ?_⟩ <;> decide +kernel⟩,
    ⟨wQp { wReady with ops := [{ id := 0, wr := wWork, opcode := 1, total := 1 }], opSeq := 1 }, 5, 9, 0, ({ id := 0, wr := wWork, opcode := 1, total := 1 } : Op), [1, 2, 3, 4], by
      refine ⟨by unfold Live; decide +kernel, ?_, ?_, ?_, ?_, ?_, ?_, ?_, ?_, ?_, ?_, ?_, ?_, ?_, ?_, ?_, throttled_none _ (by decide +kernel)⟩ <;> decide +kernel⟩⟩

/-- States and operands that meet the hypotheses of each part of RequestsArriveInTurn. -/
theorem test_RequestsArriveInTurn :
    (∃ (s : State) (p : Pkt) (i x : Nat), InTurn s p ∧ p.opcode = 1 ∧ p.rseawall = false ∧ p.msgLen ≤ 2 ^ 31 ∧ s.memWf = true ∧
      winCheck s p.dstQpn p.key p.addr p.payload.length .write = some i ∧ lineBad s (winEntryAt i) = false ∧
      MapsTo s (winCtx s p.dstQpn i 8) ((window s i).at p.addr) p.payload.length .write x) ∧
    (∃ (s : State) (p : Pkt) (e : RecvEntry), InTurn s p ∧ p.opcode = 4 ∧ p.first = true ∧ p.last = true ∧ p.rseawall = false ∧
      p.msn = (qp s p.dstQpn).doneMsn ∧ headEntry s p.dstQpn = some e ∧ e.epoch = 0 ∧ p.msgLen ≤ e.size ∧
      placeStop s (recvCtx s p.dstQpn e.pins) p.addr (segPieces e.segs p.addr p.payload.length) = none ∧
      (qp s p.dstQpn).lantern < (room s (qp s p.dstQpn).room).quotas.lantern ∧ (qp s p.dstQpn).lantern ≠ 0xFFFF) ∧
    (∃ (s : State) (p : Pkt) (i x : Nat), InTurn s p ∧ p.opcode = 6 ∧ p.first = true ∧ p.last = true ∧ p.msgLen ≤ 65536 ∧
      winCheck s p.dstQpn p.key p.addr p.msgLen .read = some i ∧ lineBad s (winEntryAt i) = false ∧
      MapsTo s (winCtx s p.dstQpn i 9) ((window s i).at p.addr) p.msgLen .read x) ∧
    (∃ (s : State) (p : Pkt) (i x : Nat), InTurn s p ∧ p.opcode = 7 ∧ p.msgLen = 8 ∧ s.memWf = true ∧
      winCheck s p.dstQpn p.key p.addr 8 .atomic = some i ∧ lineBad s (winEntryAt i) = false ∧ (window s i).at p.addr % 8 = 0 ∧
      MapsTo s (winCtx s p.dstQpn i 10) ((window s i).at p.addr) 8 .atomic x) ∧
    (∃ (s : State) (port pkey : Nat) (h : EthHdr) (p : Pkt) (i x : Nat), Live s ∧ qpFrozen s p.dstQpn = false ∧ roceOk s port pkey h p = true ∧
      overBreakwater s p h.bytes = false ∧ (qp s p.dstQpn).st = .ready ∧ (qp s p.dstQpn).level = 0 ∧ rxBusy s (qp s p.dstQpn) 1 = false ∧
      p.opcode = 1 ∧ p.first = true ∧ p.last = true ∧ p.ce = false ∧ p.rseawall = false ∧ p.psn = (qp s p.dstQpn).cumPsn ∧
      p.psn &&& 0xFFFFFF = p.psn ∧ (qp s p.dstQpn).bitmap = [] ∧ (qp s p.dstQpn).msgs = [] ∧ (qp s p.dstQpn).deferred = [] ∧ p.msgLen ≤ 2 ^ 31 ∧
      s.memWf = true ∧ winCheck s p.dstQpn p.key p.addr p.payload.length .write = some i ∧ lineBad s (winEntryAt i) = false ∧
      MapsTo s (winCtx s p.dstQpn i 8) ((window s i).at p.addr) p.payload.length .write x) ∧
    (∃ (s : State) (p : Pkt), Live s ∧ qpFrozen s p.dstQpn = false ∧ trailerOk p = true ∧ p.opcode = 1 ∧ p.stream = false ∧
      mfind s.qps p.dstQpn ≠ none ∧ (qp s p.dstQpn).st ≠ .free ∧ bucketOn s (rpolice (qp s p.dstQpn).room) = true ∧
      bucketTok s (rpolice (qp s p.dstQpn).room) 0 < (pktBytes p + 32 : Nat)) :=
  ⟨⟨wWin wReady, withTrailer { wPkt with opcode := 1, payload := [1, 2, 3], msgLen := 3, addr := 4095 }, 1, 4095, by
      refine ⟨by unfold InTurn Live; decide +kernel, ?_, ?_, ?_, ?_, ?_, ?_, by unfold MapsTo; decide +kernel⟩ <;> decide +kernel⟩,
    ⟨{ wWin { wReady with lantern := 255, doneMsn := 0xFFFFFFFF } with queues := mmod (wQp wReady).queues (qkey 0 2) {} (fun k => { k with entries := [{ index := 3, segs := [(2 ^ 63 + 4095, 8)] }] }) }, withTrailer { wPkt with opcode := 4, payload := [1, 2, 3], msgLen := 3, addr := 0, msn := 0xFFFFFFFF }, ({ index := 3, segs := [(2 ^ 63 + 4095, 8)] } : RecvEntry), by
      refine ⟨by unfold InTurn Live; decide +kernel, ?_, ?_, ?_, ?_, ?_, ?_, ?_, ?_, ?_, ?_, ?_⟩ <;> decide +kernel⟩,
    ⟨wWin wReady, withTrailer { wPkt with opcode := 6, msgLen := 4097, addr := 4095 }, 1, 4095, by
      refine ⟨by unfold InTurn Live; decide +kernel, ?_, ?_, ?_, ?_, ?_, ?_, by unfold MapsTo; decide +kernel⟩ <;> decide +kernel⟩,
    ⟨wMem [(4096, 255)] (wWin wReady), withTrailer { wPkt with opcode := 7, msgLen := 8, addr := 4096, compareAdd := 1 }, 1, 4096, by
      refine ⟨by unfold InTurn Live; decide +kernel, ?_, ?_, ?_, ?_, ?_, ?_, by unfold MapsTo; decide +kernel⟩ <;> decide +kernel⟩,
    ⟨wWin { wReady with peerQpn := 0, cumPsn := 0xFFFFFF, roce := some { port := 3, ipHi := 0, ipLo := 7 } }, 3, 0, ({ srcIp := 7 } : EthHdr), withTrailer { wPkt with opcode := 1, psn := 0xFFFFFF, payload := [1, 2, 3], msgLen := 3, addr := 4095 }, 1, 4095, by
      refine ⟨by unfold Live; decide +kernel, ?_, ?_, ?_, ?_, ?_, ?_, ?_, ?_, ?_, ?_, ?_, ?_, ?_, ?_, ?_, ?_, ?_, ?_, ?_, ?_, by unfold MapsTo; decide +kernel⟩ <;> decide +kernel⟩,
    ⟨{ wQp wReady with eff := [(rpolice 0, 0x8000200000000001)], tokens := [(rpolice 0, 94)] }, withTrailer { wPkt with opcode := 1, payload := [1, 2, 3], msgLen := 3, addr := 4095 }, by
      refine ⟨by unfold Live; decide +kernel, ?_, ?_, ?_, ?_, ?_, ?_, ?_, ?_⟩ <;> decide +kernel⟩⟩

/-- States and operands that meet the hypotheses of each part of AnswersRetireWhatWasSent. -/
theorem test_AnswersRetireWhatWasSent :
    (∃ (s : State) (p : Pkt) (u : Unacked) (o : Op) (x : Nat), Live s ∧ qpFrozen s p.dstQpn = false ∧ rxOk s p = true ∧
      overBreakwater s p (pktBytes p) = false ∧ p.opcode = 0x10 ∧ (qp s p.dstQpn).st = .ready ∧ (qp s p.dstQpn).level = 0 ∧
      (qp s p.dstQpn).sealed = false ∧ p.sealed = false ∧ (qp s p.dstQpn).deferred = [] ∧ s.memWf = true ∧
      (qp s p.dstQpn).unacked.find? (fun u => u.psn == p.psn && u.byResponse && (u.pkt.opcode == 6) == (p.opcode == 0x10)) = some u ∧
      (qp s p.dstQpn).ops = [o] ∧ o.holds (qp s p.dstQpn) p.psn = true ∧ o.sent ≠ o.total ∧
      MapsTo s (opCtx s p.dstQpn (qp s p.dstQpn) o) (o.wr.localAddr + (((qp s p.dstQpn).diff p.reqPsn o.first).toNat * 4096 + p.offset)) p.payload.length .write x) ∧
    (∃ (s : State) (p : Pkt) (u : Unacked) (o : Op) (x : Nat), Live s ∧ qpFrozen s p.dstQpn = false ∧ rxOk s p = true ∧
      overBreakwater s p (pktBytes p) = false ∧ p.opcode = 0x11 ∧ (qp s p.dstQpn).st = .ready ∧ (qp s p.dstQpn).level = 0 ∧
      (qp s p.dstQpn).sealed = false ∧ p.sealed = false ∧ (qp s p.dstQpn).deferred = [] ∧ s.memWf = true ∧ (qp s p.dstQpn).unacked = [u] ∧
      u.psn = p.psn ∧ u.pkt.opcode = 7 ∧ (qp s p.dstQpn).ops = [o] ∧ o.holds (qp s p.dstQpn) p.psn = true ∧ o.sent = o.total ∧ o.status = 0 ∧
      o.post = none ∧ o.wr.notify = false ∧ o.wr.seawall = false ∧ o.wr.size32 = false ∧
      MapsTo s (opCtx s p.dstQpn (qp s p.dstQpn) o) o.wr.localAddr 8 .write x) ∧
    (∃ (s : State) (p : Pkt), Live s ∧ s.coll.members = [] ∧ s.coll.nodes = [] ∧ qpFrozen s p.dstQpn = false ∧ rxOk s p = true ∧ p.opcode = 0xC0 ∧
      p.stream = false ∧ (qp s p.dstQpn).st = .ready ∧ (qp s p.dstQpn).level = 0 ∧ (qp s p.dstQpn).sealed = false ∧ p.sealed = false ∧
      (qp s p.dstQpn).deferred = []) ∧
    (∃ (s : State) (p : Pkt), Live s ∧ s.coll.members = [] ∧ s.coll.nodes = [] ∧ qpFrozen s p.dstQpn = false ∧ rxOk s p = true ∧ p.opcode = 0xC1 ∧
      p.stream = false ∧ p.nakCode = 1 ∧ (qp s p.dstQpn).st = .ready ∧ (qp s p.dstQpn).level = 0 ∧ (qp s p.dstQpn).sealed = false ∧ p.sealed = false ∧
      (qp s p.dstQpn).deferred = [] ∧ (qp s p.dstQpn).holdFrom = none) ∧
    (∃ (s : State) (n nd ep : Nat) (x : BitVec 32), Live s ∧ (qp s n).holdFrom = some x ∧ reached (qp s n).holdUntil (elapsed s) = true) ∧
    (∃ (s : State) (n nd ep : Nat) (u : Unacked), Live s ∧ s.coll.members = [] ∧ s.coll.nodes = [] ∧
      (qp s n).unacked.find? (fun v => v.psn == u.psn) = some u ∧ (qp s n).sends = true ∧ (qp s n).holdFrom = none ∧ u.lost = false ∧
      goneTimeout s (qp s n) u = true ∧ u.count < (qp s n).retryLimit) ∧
    (∃ (s : State) (n nd ep : Nat), Live s ∧ (qp s n).receives = true ∧ (qp s n).sinceAck ≠ 0 ∧ reached (qp s n).ackDue (elapsed s) = true) :=
  ⟨⟨wWin { wReady with ops := [{ id := 0, wr := { wWork with inline := false, localAddr := 2 ^ 63 + 4095, bytes := 4099 }, opcode := 6, total := 2, sent := 1, first := 0xFFFFFFFF }], unacked := [{ psn := 0xFFFFFFFF, path := 0, order := 0, pkt := { opcode := 6 } }] }, withTrailer { wPkt with opcode := 0x10, reqPsn := 0xFFFFFFFF, offset := 1, payload := [1, 2, 3] }, ({ psn := 0xFFFFFFFF, path := 0, order := 0, pkt := { opcode := 6 } } : Unacked), ({ id := 0, wr := { wWork with inline := false, localAddr := 2 ^ 63 + 4095, bytes := 4099 }, opcode := 6, total := 2, sent := 1, first := 0xFFFFFFFF } : Op), 4096, by
      refine ⟨by unfold Live; decide +kernel, ?_, ?_, ?_, ?_, ?_, ?_, ?_, ?_, ?_, ?_, ?_, ?_, ?_, ?_, by unfold MapsTo; decide +kernel⟩ <;> decide +kernel⟩,
    ⟨wWin { wReady with ops := [{ id := 0, wr := { wWork with inline := false, localAddr := 2 ^ 63 + 4095, bytes := 8 }, opcode := 7, total := 1, sent := 1, first := 0xFFFFFFFF }], unacked := [{ psn := 0xFFFFFFFF, path := 0, order := 0, pkt := { opcode := 7 } }] }, withTrailer { wPkt with opcode := 0x11, original := 0x0102030405060708 }, ({ psn := 0xFFFFFFFF, path := 0, order := 0, pkt := { opcode := 7 } } : Unacked), ({ id := 0, wr := { wWork with inline := false, localAddr := 2 ^ 63 + 4095, bytes := 8 }, opcode := 7, total := 1, sent := 1, first := 0xFFFFFFFF } : Op), 4095, by
      refine ⟨by unfold Live; decide +kernel, ?_, ?_, ?_, ?_, ?_, ?_, ?_, ?_, ?_, ?_, ?_, ?_, ?_, ?_, ?_, ?_, ?_, ?_, ?_, ?_, ?_, by unfold MapsTo; decide +kernel⟩ <;> decide +kernel⟩,
    ⟨wQp { wReady with nextPsn := 3, unacked := [{ psn := 0xFFFFFFFF, path := 0, order := 0, pkt := {} }, { psn := 0, path := 0, order := 0, pkt := {} }, { psn := 1, path := 0, order := 0, pkt := {} }] }, withTrailer { wPkt with opcode := 0xC0, cumPsn := 0, sack := 1 }, by
      refine ⟨by unfold Live; decide +kernel, ?_, ?_, ?_, ?_, ?_, ?_, ?_, ?_, ?_, ?_, ?_⟩ <;> decide +kernel⟩,
    ⟨wQp { wReady with nextPsn := 3, unacked := [{ psn := 0xFFFFFFFF, path := 0, order := 0, pkt := {} }, { psn := 0, path := 0, order := 0, pkt := {} }] }, withTrailer { wPkt with opcode := 0xC1, cumPsn := 0xFFFFFFFF, nakPsn := 0, nakCode := 1, hint := 3 }, by
      refine ⟨by unfold Live; decide +kernel, ?_, ?_, ?_, ?_, ?_, ?_, ?_, ?_, ?_, ?_, ?_, ?_, ?_⟩ <;> decide +kernel⟩,
    ⟨wQp { wReady with nextPsn := 3, holdFrom := some 0, unacked := [{ psn := 0xFFFFFFFF, path := 0, order := 0, pkt := {} }, { psn := 0, path := 0, order := 0, pkt := {} }] }, 5, 9, 0, 0, by
      refine ⟨by unfold Live; decide +kernel, ?_, ?_⟩ <;> decide +kernel⟩,
    ⟨{ wQp { wReady with timeout := 4, nextPsn := 3, pace := { rate := 100000 }, unacked := [{ psn := 0xFFFFFFFF, path := 0, order := 0, pkt := {} }, { psn := 0, path := 0, order := 0, pkt := {} }] } with tide := { count := 64000 } }, 5, 9, 0, ({ psn := 0, path := 0, order := 0, pkt := {} } : Unacked), by
      refine ⟨by unfold Live; decide +kernel, ?_, ?_, ?_, ?_, ?_, ?_, ?_, ?_⟩ <;> decide +kernel⟩,
    ⟨wQp { wReady with sinceAck := 3, detourSeen := true }, 5, 9, 0, by
      refine ⟨by unfold Live; decide +kernel, ?_, ?_, ?_⟩ <;> decide +kernel⟩⟩

/-- States and operands that meet the hypotheses of each part of ContextsAndPacesFollowTheirTimers. -/
theorem test_ContextsAndPacesFollowTheirTimers :
    (∃ (s : State) (n : Nat), Live s ∧ n < 2 ^ 24 ∧ (qp s n).fetching = true ∧ (qp s n).st ≠ .free ∧ (qp s n).level = 1 ∧ qpFrozen s n = false ∧
      ctxFrozen s n = false ∧ n ∉ mget s.hot (qp s n).die [] ∧ (mget s.hot (qp s n).die []).length < 8192 ∧
      (∀ k ∈ mget s.porch (qp s n).die [], k.dstQpn ≠ n)) ∧
    (∃ (s : State) (n k : Nat) (x : ProxySlot), Live s ∧ (qp s n).proxy.find? (fun y => y.slot == k) = some x ∧ reached x.due (elapsed s) = true) ∧
    (∃ (s : State) (n nd ep : Nat), Live s ∧ (qp s n).noInfer = true ∧ reached (qp s n).noInferEnd (elapsed s) = true) ∧
    (∃ (s : State) (n nd ep path : Nat), Live s ∧ (qp s n).st ≠ .free ∧ reached (mget (qp s n).pace.paths path {}).ends (elapsed s) = true) ∧
    (∃ (s : State) (n : Nat), Live s ∧ (qp s n).roce ≠ none ∧ (qp s n).sends = true ∧ reached (qp s n).cnpGot (elapsed s) = true) ∧
    (∃ (s : State) (n : Nat), Live s ∧ (qp s n).roce ≠ none ∧ (qp s n).sends = true ∧ reached (qp s n).rpDue (elapsed s) = true) :=
  ⟨⟨{ wQp { wReady with level := 1, fetching := true } with hot := [(0, [4])], porch := [(0, [{ dstQpn := 4 }])] }, 5, by
      refine ⟨by unfold Live; decide +kernel, ?_, ?_, ?_, ?_, ?_, ?_, ?_, ?_, ?_⟩ <;> decide +kernel⟩,
    ⟨wQp { wReady with proxy := [{ slot := 3, psn := 7, msn := 1, opcode := 7, size := 8, path := 2 }] }, 5, 3, ({ slot := 3, psn := 7, msn := 1, opcode := 7, size := 8, path := 2 } : ProxySlot), by
      refine ⟨by unfold Live; decide +kernel, ?_, ?_⟩ <;> decide +kernel⟩,
    ⟨wQp { wReady with noInfer := true }, 5, 9, 0, by
      refine ⟨by unfold Live; decide +kernel, ?_, ?_⟩ <;> decide +kernel⟩,
    ⟨wQp { wReady with pace := { paths := [(3, { cur := some 7, delay := some 2 })] } }, 5, 9, 0, 3, by
      refine ⟨by unfold Live; decide +kernel, ?_, ?_⟩ <;> decide +kernel⟩,
    ⟨wQp { wReady with pace := { rate := 100000 }, roce := some { port := 3, ipHi := 0, ipLo := 7 } }, 5, by
      refine ⟨by unfold Live; decide +kernel, ?_, ?_, ?_⟩ <;> decide +kernel⟩,
    ⟨wQp { wReady with pace := { rate := 100000 }, roce := some { port := 3, ipHi := 0, ipLo := 7 } }, 5, by
      refine ⟨by unfold Live; decide +kernel, ?_, ?_, ?_⟩ <;> decide +kernel⟩⟩

/-- States and operands that meet the hypotheses of each part of CollectivesStart. -/
theorem test_CollectivesStart :
    (∃ (s : State) (h : CmdHdr) (b : BulkArgs) (rm op cls : Nat) (p : Party) (c : Instr), (c, op, cls) ∈ [(Instr.rdcAllReduce h b, 0x21, 1), (.rdcReduceScatter h b, 0x20, 1), (.rdcReduce h b, 0x22, 1), (.xferAllGather h b, 0x20, 0), (.xferBroadcast h b, 0x21, 0)] ∧
      h.wait = 0xFFFF ∧ h.epoch = 0 ∧ Begins s h op cls (bulkBad op cls h b) rm ∧ mfind s.coll.parties b.party = some p ∧ unrouted s p = false) ∧
    (∃ (s : State) (h : CmdHdr) (a : ScalarArgs) (rm op : Nat) (p : Party) (c : Instr), (c, op) ∈ [(Instr.collBarrier h a, 0x20), (.collScalarReduce h a, 0x21)] ∧
      h.wait = 0xFFFF ∧ h.epoch = 0 ∧ Begins s h op 5 (scalarBad op h a) rm ∧ mfind s.coll.parties a.party = some p ∧ unrouted s p = false) ∧
    (∃ (s : State) (id : Nat) (m : Member) (n : CNode) (it : Itin) (tk : Nat × Nat), Live s ∧ s.coll.members = [m] ∧ m.id = id ∧ s.coll.nodes = [n] ∧
      n.itin = m.bulk.itin ∧ n.epoch = m.epoch ∧ n.exps = false ∧ itin? s m.bulk.itin = some it ∧ m.phase = 3 ∧
      chunkPlace it.chunkBlocks it.trees 0 m.scanned = some tk ∧ chunkReady s m.room m.bulk.inputLantern m.bulk.inputBase m.scanned = true) ∧
    (∃ (s : State) (id : Nat) (m : Member) (w : TimedWait), Live s ∧ s.coll.members = [m] ∧ m.id = id ∧ s.coll.nodes = [] ∧ m.cls = 5 ∧ m.phase = 6 ∧
      m.sc.count = 0 ∧ m.result = [] ∧ s.coll.rounds = [] ∧ s.tide.waits = [w] ∧ w.start = true ∧ w.coll = id ∧ w.armed = true ∧
      reached w.target s.tide.count = true) :=
  ⟨⟨wLeaf (wColl 1 (wItin 0xFFFF [9]) 0), { wh with units := 6 }, ({ party := 4, itin := 0x123, count := 32, ctrl := 0x11000, srcs := [2 ^ 63], dst := 2 ^ 63 + 4096 } : BulkArgs), 0, 33, 1, wParty, Instr.rdcAllReduce { wh with units := 6 } ({ party := 4, itin := 0x123, count := 32, ctrl := 0x11000, srcs := [2 ^ 63], dst := 2 ^ 63 + 4096 } : BulkArgs), by
      refine ⟨?_, ?_, ?_, by unfold Begins Live; decide +kernel, ?_, ?_⟩ <;> decide +kernel⟩,
    ⟨wLeaf (wColl 5 (wItin 0xFFFF [9]) 0), { wh with units := 4 }, ({ party := 4 } : ScalarArgs), 0, 32, wParty, Instr.collBarrier { wh with units := 4 } ({ party := 4 } : ScalarArgs), by
      refine ⟨?_, ?_, ?_, by unfold Begins Live; decide +kernel, ?_, ?_⟩ <;> decide +kernel⟩,
    ⟨wLeaf { wColl 0 (wItin 0xFFFF [9]) 0 with coll := { (wColl 0 (wItin 0xFFFF [9]) 0).coll with members := [{ id := 6, h := wh, op := 0x20, cls := 0, room := 0, ctx := 4, party := wParty, seq := 2, phase := 3, bulk := { party := 4, itin := 0x123, count := 32, ctrl := 16, srcs := [2 ^ 63] } }], nextMember := 7, nodes := [{ wNode with ctrl := 16 * 2 ^ 20, known := true }] } }, 6, ({ id := 6, h := wh, op := 0x20, cls := 0, room := 0, ctx := 4, party := wParty, seq := 2, phase := 3, bulk := { party := 4, itin := 0x123, count := 32, ctrl := 16, srcs := [2 ^ 63] } } : Member), ({ wNode with ctrl := 16 * 2 ^ 20, known := true } : CNode), (wItin 0xFFFF [9]), (0, 0), by
      refine ⟨by unfold Live; decide +kernel, ?_, ?_, ?_, ?_, ?_, ?_, ?_, ?_, ?_, ?_⟩ <;> decide +kernel⟩,
    ⟨{ wColl 5 (wItin 0xFFFF [9]) 0 with tide := { count := 9, waits := [{ id := 3, target := 9, start := true, coll := 6 }] }, coll := { (wColl 5 (wItin 0xFFFF [9]) 0).coll with members := [{ id := 6, h := wh, op := 0x20, cls := 5, room := 0, ctx := 4, party := wParty, seq := 2, phase := 6 }] } }, 6, ({ id := 6, h := wh, op := 0x20, cls := 5, room := 0, ctx := 4, party := wParty, seq := 2, phase := 6 } : Member), ({ id := 3, target := 9, start := true, coll := 6 } : TimedWait), by
      refine ⟨by unfold Live; decide +kernel, ?_, ?_, ?_, ?_, ?_, ?_, ?_, ?_, ?_, ?_, ?_, ?_, ?_⟩ <;> decide +kernel⟩⟩

/-- States and operands that meet the hypotheses of each part of ChunkPacketsJoinTheirMessages. -/
theorem test_ChunkPacketsJoinTheirMessages :
    (∃ (s : State) (p : Pkt) (c : Instr) (op : Nat) (down : Bool) (it : Itin) (n : CNode), (c, op, down) ∈ [(Instr.expUpReceive p, 0x40, false), (.expDownReceive p, 0x41, true), (.sumUpReceive p, 0x42, false), (.resultDownReceive p, 0x43, true)] ∧
      StreamTurn s p it (bulkNum p.coll.itin p.coll.tree down) ∧ Sound s ∧ itin? s p.coll.itin = some it ∧ p.opcode = op ∧
      p.coll.tree < it.trees.length ∧ (if down then p.srcNode = (it.tree p.coll.tree).parent ∧
      p.srcNode ≠ 0xFFFF else p.srcNode ∈ (it.tree p.coll.tree).children) ∧ s.coll.members = [] ∧ s.coll.nodes = [n] ∧ n.itin = p.coll.itin ∧
      n.epoch = p.epoch ∧ n.gather = false ∧ n.known = false ∧ p.last = false ∧ (inMsg n p).crc = none) ∧
    (∃ (s : State) (p : Pkt) (it : Itin) (n : CNode), StreamTurn s p it (bulkNum p.coll.itin p.coll.tree (decide (2 ^ 22 ≤ p.dstQpn % 2 ^ 23))) ∧
      itin? s p.coll.itin = some it ∧ p.opcode = 0x44 ∧ p.coll.tree < it.trees.length ∧
      (if 2 ^ 22 ≤ p.dstQpn % 2 ^ 23 then p.srcNode = (it.tree p.coll.tree).parent else p.srcNode ∈ (it.tree p.coll.tree).children) ∧
      s.coll.members = [] ∧ s.coll.nodes = [n] ∧ n.itin = p.coll.itin ∧ n.epoch = p.epoch) :=
  ⟨⟨{ wColl 1 (wItin 0xFFFF [9]) 0x123 with coll := { (wColl 1 (wItin 0xFFFF [9]) 0x123).coll with nodes := [wNode] } }, withTrailer { wStream (0x123) 0x40 with  payload := [1, 2], coll := { itin := 0x123, offset := 4096 } }, Instr.expUpReceive (withTrailer { wStream (0x123) 0x40 with  payload := [1, 2], coll := { itin := 0x123, offset := 4096 } }), 0x40, false, (wItin 0xFFFF [9]), (wNode : CNode), by
      refine ⟨?_, by unfold StreamTurn Live; decide +kernel, by unfold Sound; decide +kernel, ?_, ?_, ?_, ?_, ?_, ?_, ?_, ?_, ?_, ?_, ?_, ?_⟩ <;> decide +kernel⟩,
    ⟨{ wColl 1 (wItin 0xFFFF [9]) 0x123 with coll := { (wColl 1 (wItin 0xFFFF [9]) 0x123).coll with nodes := [wNode] } }, withTrailer (wStream 0x123 0x44), (wItin 0xFFFF [9]), wNode, by
      refine ⟨by unfold StreamTurn Live; decide +kernel, ?_, ?_, ?_, ?_, ?_, ?_, ?_, ?_⟩ <;> decide +kernel⟩⟩

/-- States and operands that meet the hypotheses of each part of RoundPacketsMergeAndDecide. -/
theorem test_RoundPacketsMergeAndDecide :
    (∃ (s : State) (p : Pkt) (it : Itin) (tr : Tree), RoundTurn s p false it tr ∧ p.opcode = 0x48 ∧ p.coll.kind = 3 ∧ tr.parent ≠ 0xFFFF ∧
      round? s (p.coll.party, p.epoch, p.coll.seq) 3 = none ∧ s.coll.rounds.length < 16384) ∧
    (∃ (s : State) (p : Pkt) (it : Itin) (tr : Tree) (r : Round), RoundTurn s p true it tr ∧ p.opcode = 0x49 ∧ p.coll.kind = 3 ∧
      round? s (p.coll.party, p.epoch, p.coll.seq) 3 = some r) ∧
    (∃ (s : State) (p : Pkt) (it : Itin) (tr : Tree), RoundTurn s p false it tr ∧ p.opcode = 0x4A ∧ tr.parent ≠ 0xFFFF ∧
      (p.coll.party, p.epoch, p.coll.seq) ∉ s.coll.alerted) ∧
    (∃ (s : State) (p : Pkt) (it : Itin) (tr : Tree), RoundTurn s p true it tr ∧ p.opcode = 0x4B ∧
      (p.coll.party, p.epoch, p.coll.seq) ∉ s.coll.called) ∧
    (∃ (s : State) (p : Pkt) (it : Itin) (tr : Tree), RoundTurn s p true it tr ∧ p.opcode = 0x4C) :=
  ⟨⟨wColl 5 (wItin 9 [9]) 8388899, withTrailer (wRound 8388899 0x48 3), (wItin 9 [9]), ((wItin 9 [9]).trees.headD { first := 0, blocks := 0 }), by
      refine ⟨by unfold RoundTurn StreamTurn Live; decide +kernel, ?_, ?_, ?_, ?_, ?_⟩ <;> decide +kernel⟩,
    ⟨{ wColl 5 (wItin 9 [9]) 12583203 with coll := { (wColl 5 (wItin 9 [9]) 12583203).coll with rounds := [{ tag := 7, gen := 0, seq := 2, kind := 3, ctrl := 0x123 }] } }, withTrailer (wRound 12583203 0x49 3), (wItin 9 [9]), ((wItin 9 [9]).trees.headD { first := 0, blocks := 0 }), ({ tag := 7, gen := 0, seq := 2, kind := 3, ctrl := 0x123 } : Round), by
      refine ⟨by unfold RoundTurn StreamTurn Live; decide +kernel, ?_, ?_, ?_⟩ <;> decide +kernel⟩,
    ⟨wColl 5 (wItin 9 [9]) 8388899, withTrailer (wRound 8388899 0x4A 5), (wItin 9 [9]), ((wItin 9 [9]).trees.headD { first := 0, blocks := 0 }), by
      refine ⟨by unfold RoundTurn StreamTurn Live; decide +kernel, ?_, ?_, ?_⟩ <;> decide +kernel⟩,
    ⟨wColl 5 (wItin 9 [9]) 12583203, withTrailer (wRound 12583203 0x4B 5), (wItin 9 [9]), ((wItin 9 [9]).trees.headD { first := 0, blocks := 0 }), by
      refine ⟨by unfold RoundTurn StreamTurn Live; decide +kernel, ?_, ?_⟩ <;> decide +kernel⟩,
    ⟨wColl 5 (wItin 9 [9]) 12583203, withTrailer (wRound 12583203 0x4C 5), (wItin 9 [9]), ((wItin 9 [9]).trees.headD { first := 0, blocks := 0 }),
      by unfold RoundTurn StreamTurn Live; decide +kernel,
      by decide +kernel⟩⟩

/-- States and operands that meet the hypotheses of each part of CollectivesTimeOut. -/
theorem test_CollectivesTimeOut :
    (∃ (s : State) (id : Nat) (m : Member) (it : Itin) (tr : Tree), Live s ∧ s.coll.members = [m] ∧ m.id = id ∧ s.coll.nodes = [] ∧ m.cls = 1 ∧
      m.phase = 1 ∧ reached m.due (elapsed s) = true ∧ ctrlTree s m.party.ctrl = some (it, tr) ∧ tr.parent ≠ 0xFFFF ∧
      m.bulk.chunkLantern < (room s m.room).quotas.lantern ∧ m.bulk.chunkLantern ≠ 0xFFFF) ∧
    (∃ (s : State) (id : Nat) (m : Member), Live s ∧ s.coll.members = [m] ∧ m.id = id ∧ s.coll.nodes = [] ∧ m.cls = 5 ∧ m.phase = 4 ∧
      m.alerted = true ∧ m.joined = false ∧ reached m.due (elapsed s) = true) ∧
    (∃ (s : State) (n : CNode), Live s ∧ s.coll.members = [] ∧ s.coll.nodes = [n] ∧ n.fin = false ∧ reached n.due (elapsed s) = true ∧
      (itin? s n.itin).isSome = true) ∧
    (∃ (s : State) (tag gen seq : Nat) (r : Round) (it : Itin) (tr : Tree), Live s ∧ s.coll.members = [] ∧ s.coll.nodes = [] ∧
      round? s (tag, gen, seq) 5 = some r ∧ ctrlTree s r.ctrl = some (it, tr) ∧ tr.parent = 0xFFFF ∧ (tag, gen, seq) ∈ s.coll.called ∧
      reached r.due (elapsed s) = true) :=
  ⟨⟨{ wColl 1 (wItin 9 []) 0 with coll := { (wColl 1 (wItin 9 []) 0).coll with members := [{ id := 6, h := wh, op := 0x20, cls := 1, room := 0, ctx := 4, party := wParty, seq := 2, phase := 1, bulk := { party := 4, itin := 0x123, count := 32, chunkLantern := 255 } }] } }, 6, ({ id := 6, h := wh, op := 0x20, cls := 1, room := 0, ctx := 4, party := wParty, seq := 2, phase := 1, bulk := { party := 4, itin := 0x123, count := 32, chunkLantern := 255 } } : Member), (wItin 9 []), ((wItin 9 []).trees.headD { first := 0, blocks := 0 }), by
      refine ⟨by unfold Live; decide +kernel, ?_, ?_, ?_, ?_, ?_, ?_, ?_, ?_, ?_, ?_⟩ <;> decide +kernel⟩,
    ⟨{ wColl 5 (wItin 9 []) 0 with coll := { (wColl 5 (wItin 9 []) 0).coll with members := [{ id := 6, h := wh, op := 0x20, cls := 5, room := 0, ctx := 4, party := wParty, seq := 2, phase := 4, alerted := true }] } }, 6, ({ id := 6, h := wh, op := 0x20, cls := 5, room := 0, ctx := 4, party := wParty, seq := 2, phase := 4, alerted := true } : Member), by
      refine ⟨by unfold Live; decide +kernel, ?_, ?_, ?_, ?_, ?_, ?_, ?_, ?_⟩ <;> decide +kernel⟩,
    ⟨{ wColl 1 (wItin 0xFFFF [9]) 0 with coll := { (wColl 1 (wItin 0xFFFF [9]) 0).coll with nodes := [wNode] } }, wNode, by
      refine ⟨by unfold Live; decide +kernel, ?_, ?_, ?_, ?_, ?_⟩ <;> decide +kernel⟩,
    ⟨{ wColl 5 (wItin 0xFFFF [9]) 0 with coll := { (wColl 5 (wItin 0xFFFF [9]) 0).coll with rounds := [{ tag := 7, gen := 0, seq := 2, kind := 5, ctrl := 0x123 }], called := [(7, 0, 2)] } }, 7, 0, 2, ({ tag := 7, gen := 0, seq := 2, kind := 5, ctrl := 0x123 } : Round), (wItin 0xFFFF [9]), ((wItin 0xFFFF [9]).trees.headD { first := 0, blocks := 0 }), by
      refine ⟨by unfold Live; decide +kernel, ?_, ?_, ?_, ?_, ?_, ?_, ?_⟩ <;> decide +kernel⟩⟩

/-- States and operands that meet the hypotheses of each part of ItinerariesAndPartiesComeAndGo. -/
theorem test_ItinerariesAndPartiesComeAndGo :
    (∃ (s : State) (h : FdHdr) (a : Nat) (d : List Byte) (it : Itin) (rm : Nat), InnTakes s h 0x68 ∧ roomOf s h.fn = some rm ∧
      operand (room s rm) a ≠ .bad ∧ itinStop s (fdCtx s h 5) a = none ∧
      peekData s (fdCtx s h 5) a (recLen (peekData s (fdCtx s h 5) a 32 .read)) .read = d ∧ parseItin s d = some it ∧ itin? s (recId d) = none ∧
      s.coll.itins.length < 4096 ∧ it.sealed = false) ∧
    (∃ (s : State) (h : FdHdr) (i : Nat), InnTakes s h 0x69 ∧ (itin? s i).isSome = true ∧ itinBusy s i = false) ∧
    (∃ (s : State) (h : FdHdr) (i p a : Nat) (it : Itin), InnTakes s h 0x6A ∧ badResultAddr s h = false ∧ h.resultAddr ≠ 0 ∧ itin? s i = some it ∧
      resolve s (fdCtx s h 6) h.resultAddr 32 .write = ([{ off := 0, loc := .host p a, len := 32 }], none) ∧ (hport s p).st = .up) ∧
    (∃ (s : State) (d : List Byte) (it : Itin), Live s ∧ d.length = 2080 ∧ (d.drop (recLen d)).all (fun b => b == 0) = true ∧
      parseItin s d = some it ∧ itin? s (recId d) = none ∧ s.coll.itins.length < 4096 ∧ it.sealed = false) ∧
    (∃ (s : State) (i : Nat), Live s ∧ (itin? s i).isSome = true ∧ itinBusy s i = false) ∧
    (∃ (s : State) (h : FdHdr) (tag rank size ctrl gen rm : Nat), Takes s h 0x60 ∧ roomOf s h.fn = some rm ∧ partyBad s tag rank size gen = none ∧
      partyRoom s rm = true) ∧
    (∃ (s : State) (fn : Nat) (h : FdHdr) (op tag rank size ctrl gen : Nat) (due : Word), Live s ∧ h.fn = fn ∧
      (func s fn).fd.running = some (h, op, .party tag rank size ctrl gen due) ∧ reached due (elapsed s) = true) ∧
    (∃ (s : State) (h : FdHdr) (n : Nat) (p : Party), Takes s h 0x61 ∧ party? s h.fn n = some p ∧ partyFlight s n = 0 ∧
      (∀ f ∈ s.funcs, ∀ g op tag rank size ctrl gen due, f.2.fd.running ≠ some (g, op, .party tag rank size ctrl gen due))) ∧
    (∃ (s : State) (h : FdHdr) (n p a : Nat) (x : Party), Takes s h 0x62 ∧ badResultAddr s h = false ∧ h.resultAddr ≠ 0 ∧ party? s h.fn n = some x ∧
      resolve s (fdCtx s h 6) h.resultAddr 32 .write = ([{ off := 0, loc := .host p a, len := 32 }], none) ∧ (hport s p).st = .up) :=
  ⟨⟨wHost { w0 with hmem := [(0, (([0x01, 0x00, 0x02, 0x01, 0x20, 0x00, 0x23, 0x01, 0x01, 0, 0, 0, 0x07, 0, 0, 0] ++ List.replicate 16 0 ++ [0, 0, 0, 0, 1, 0, 0, 0, 0, 0, 1, 1, 0, 0, 0xFF, 0xFF, 9] ++ List.replicate 15 0 : List Byte).zipIdx.filter (fun x => x.1 != 0)).map (fun x => (8192 + x.2, x.1)))] }, ({ fn := 0 } : FdHdr), 8192, ([0x01, 0x00, 0x02, 0x01, 0x20, 0x00, 0x23, 0x01, 0x01, 0, 0, 0, 0x07, 0, 0, 0] ++ List.replicate 16 0 ++ [0, 0, 0, 0, 1, 0, 0, 0, 0, 0, 1, 1, 0, 0, 0xFF, 0xFF, 9] ++ List.replicate 15 0 : List Byte), { wItin 0xFFFF [9] with window := 2 }, 0, by
      refine ⟨by unfold InnTakes Takes Live; decide +kernel, ?_, ?_, ?_, ?_, ?_, ?_, ?_, ?_⟩ <;> decide +kernel⟩,
    ⟨wColl 5 (wItin 0xFFFF [9]) 0, ({ fn := 0 } : FdHdr), 0x123, by
      refine ⟨by unfold InnTakes Takes Live; decide +kernel, ?_, ?_⟩ <;> decide +kernel⟩,
    ⟨wHost (wColl 5 (wItin 0xFFFF [9]) 0), ({ fn := 0, resultAddr := 4096 } : FdHdr), 0x123, 0, 4096, (wItin 0xFFFF [9]), by
      refine ⟨by unfold InnTakes Takes Live; decide +kernel, ?_, ?_, ?_, ?_, ?_⟩ <;> decide +kernel⟩,
    ⟨w0, (([0x01, 0x00, 0x02, 0x01, 0x20, 0x00, 0x23, 0x01, 0x01, 0, 0, 0, 0x07, 0, 0, 0] ++ List.replicate 16 0 ++ [0, 0, 0, 0, 1, 0, 0, 0, 0, 0, 1, 1, 0, 0, 0xFF, 0xFF, 9] ++ List.replicate 15 0 : List Byte) ++ List.replicate 2016 0), { wItin 0xFFFF [9] with window := 2 }, by
      refine ⟨by unfold Live; decide +kernel, ?_, ?_, ?_, ?_, ?_, ?_⟩ <;> decide +kernel⟩,
    ⟨wColl 5 (wItin 0xFFFF [9]) 0, 0x123, by
      refine ⟨by unfold Live; decide +kernel, ?_, ?_⟩ <;> decide +kernel⟩,
    ⟨w0, ({ fn := 0 } : FdHdr), 7, 1048575, 1048576, 0, 255, 0, by
      refine ⟨by unfold Takes Live; decide +kernel, ?_, ?_, ?_⟩ <;> decide +kernel⟩,
    ⟨wRuns 0x60 (.party 7 0 2 0 0 0) w0, 0, ({ fn := 0 } : FdHdr), 0x60, 7, 0, 2, 0, 0, 0, by
      refine ⟨by unfold Live; decide +kernel, ?_, ?_, ?_⟩ <;> decide +kernel⟩,
    ⟨wColl 5 (wItin 0xFFFF [9]) 0, ({ fn := 0 } : FdHdr), 4, wParty, by
      refine ⟨by unfold Takes Live; decide +kernel, ?_, ?_, fun f hf => by simp [running_none _ (by decide +kernel) f hf]⟩ <;> decide +kernel⟩,
    ⟨wHost (wColl 5 (wItin 0xFFFF [9]) 0), ({ fn := 0, resultAddr := 4096 } : FdHdr), 4, 0, 4096, wParty, by
      refine ⟨by unfold Takes Live; decide +kernel, ?_, ?_, ?_, ?_, ?_⟩ <;> decide +kernel⟩⟩

/-- States and operands that meet the hypotheses of each part of RouterCommitsAndDrains. -/
theorem test_RouterCommitsAndDrains :
    (∃ (s : State) (fn : Nat), Live s ∧ isInn s fn = true ∧ s.router.st = .unset ∧ s.router.valid = true) ∧
    (∃ (s : State) (fn : Nat), Live s ∧ isInn s fn = true ∧ s.router.st = .drained) ∧
    (∃ (s : State) (fn : Nat), Live s ∧ isInn s fn = true ∧ (s.router.st = .run ∨ s.router.st = .draining ∨ (s.router.st = .unset ∧
      s.router.valid = false))) ∧
    (∃ (s : State) (fn : Nat), Live s ∧ isInn s fn = true ∧ s.router.st = .run) ∧
    (∃ (s : State) (fn : Nat), Live s ∧ isInn s fn = true ∧ s.router.st ≠ .unset) ∧
    (∃ (s : State), Live s ∧ s.router.st = .draining ∧ routerEmpty s = true) ∧
    (∃ (s : State), Live s ∧ s.router.st = .draining ∧ s.router.longDone = false ∧ reached (s.router.drainSince + 1600000) (elapsed s) = true) ∧
    (∃ (s : State) (fn node : Nat), Live s ∧ isInn s fn = true ∧ armed s 7 = true ∧ (s.router.st = .unset ∨ s.router.st = .drained)) ∧
    (∃ (s : State) (fn node : Nat), Live s ∧ isInn s fn = true ∧ armed s 7 = false ∧ s.router.node ≠ node % 65536) ∧
    (∃ (s : State) (fn mask : Nat), Live s ∧ isInn s fn = true) ∧
    (∃ (s : State) (p : Nat), Live s ∧ (fport s p).lost = true ∧ (fport s p).isUp = true) ∧
    (∃ (s : State) (first : Nat) (entries : List Nat), Live s ∧ first ≤ 65408 ∧ entries.length = 128) ∧
    (∃ (s : State) (first : Nat) (entries : List Nat), Live s ∧ 65408 < first) :=
  ⟨⟨{ w0 with router := { valid := true, shadow := [(3, 7)], active := [(4, 9)] } }, 0, by
      refine ⟨by unfold Live; decide +kernel, ?_, ?_, ?_⟩ <;> decide +kernel⟩,
    ⟨{ w0 with router := { st := .drained, valid := true, shadow := [(3, 7)], active := [(4, 9)] } }, 0, by
      refine ⟨by unfold Live; decide +kernel, ?_, ?_⟩ <;> decide +kernel⟩,
    ⟨{ w0 with router := { st := .run, valid := true, shadow := [(3, 7)], active := [(4, 9)] } }, 0, by
      refine ⟨by unfold Live; decide +kernel, ?_, ?_⟩ <;> decide +kernel⟩,
    ⟨{ w0 with router := { st := .run } }, 0, by
      refine ⟨by unfold Live; decide +kernel, ?_, ?_⟩ <;> decide +kernel⟩,
    ⟨{ w0 with router := { st := .drained, drain := true } }, 0, by
      refine ⟨by unfold Live; decide +kernel, ?_, ?_⟩ <;> decide +kernel⟩,
    ⟨{ w0 with router := { st := .draining, shadow := [(3, 7)], active := [(4, 9)] } }, by
      refine ⟨by unfold Live; decide +kernel, ?_, ?_⟩ <;> decide +kernel⟩,
    ⟨{ w0 with router := { st := .draining }, tide := { count := 1600000 } }, by
      refine ⟨by unfold Live; decide +kernel, ?_, ?_, ?_⟩ <;> decide +kernel⟩,
    ⟨{ wUp with arms := [(7, 0)] }, 0, 65536 + 5, by
      refine ⟨by unfold Live; decide +kernel, ?_, ?_, ?_⟩ <;> decide +kernel⟩,
    ⟨{ w0 with router := { node := 4 } }, 0, 5, by
      refine ⟨by unfold Live; decide +kernel, ?_, ?_, ?_⟩ <;> decide +kernel⟩,
    ⟨wUp, 0, 0x80000001,
      by unfold Live; decide +kernel,
      by decide +kernel⟩,
    ⟨wPort 31 { st := .up, lost := true, fence := true }, 31, by
      refine ⟨by unfold Live; decide +kernel, ?_, ?_⟩ <;> decide +kernel⟩,
    ⟨{ w0 with router := { shadow := [(3, 7)], active := [(4, 9)] } }, 65408, (List.range 128).map (fun i => i + 2 ^ 60), by
      refine ⟨by unfold Live; decide +kernel, ?_, ?_⟩ <;> decide +kernel⟩,
    ⟨{ w0 with router := { shadow := [(3, 7)], active := [(4, 9)] } }, 65409, [],
      by unfold Live; decide +kernel,
      by decide +kernel⟩⟩

/-- States and operands that meet the hypotheses of each part of FramesMoveByCreditAndBoundary. -/
theorem test_FramesMoveByCreditAndBoundary :
    (∃ (s : State) (p : Nat) (f : DFrame), Live s ∧ (fport s p).direct = true ∧ (fport s p).st = .up ∧ ingressFrozen s p = false ∧
      f.headerBad = false ∧ f.stomped = false ∧ (f.hdr.getD 0 0).toNat / 16 = 0 ∧ frameLen f = true ∧ f.pkt.version = 1 ∧ f.pkt.lenOk = true ∧
      pktBytes f.pkt ≤ 9216 ∧ mget (fport s p).rxHeld (frameIdx f) 0 + creditCost f.pkt ≤ (fport s p).own.cap (frameIdx f) ∧ s.router.st ≠ .unset ∧
      f.pkt.dstNode = s.router.node) ∧
    (∃ (s : State) (p : Nat) (f : DFrame), Live s ∧ (fport s p).direct = true ∧ (fport s p).st = .up ∧ ingressFrozen s p = false ∧
      f.headerBad = true) ∧
    (∃ (s : State) (p : Nat) (frame b : List Byte), Live s ∧ (fport s p).direct = true ∧ (fport s p).st = .up ∧ controlBody 1 88 frame = some b ∧
      (creditOf b).countValid = false) ∧
    (∃ (s : State) (p : Nat) (frame b : List Byte), Live s ∧ (fport s p).direct = true ∧ (fport s p).st = .up ∧ controlBody 1 88 frame = some b ∧
      (creditOf b).countValid = true) ∧
    (∃ (s : State) (p : Nat), Live s ∧ (fport s p).direct = true ∧ (fport s p).st = .up) ∧
    (∃ (s : State) (p half : Nat) (e : EgFrame), Live s ∧ half < 2 ∧ (if half = 0 then (fport s p).st else (fport s p).stB) = .up ∧
      lanesReady s p half = true ∧ (fport s p).busy half = some e ∧ e.inPort = 32 ∧ (fport s p).egress = [] ∧ (fport s p).creditDue = false ∧
      (fport s p).helloDue = false ∧ (fport s p).beaconDue = false ∧ (fport s p).pfcDue = []) ∧
    (∃ (s : State) (off half ns : Nat), Live s ∧ bucketOn s off = true) ∧
    (∃ (s : State) (p : Nat) (frame b : List Byte), Live s ∧ (fport s p).direct = true ∧ (fport s p).st = .up ∧ (fport s p).mgmtHeld < 16 ∧
      linkBody 3 frame = some b ∧ 16 ≤ b.length ∧ b.length ≤ 1084) ∧
    (∃ (s : State) (p : Nat) (frame b : List Byte), Live s ∧ (fport s p).direct = true ∧ (fport s p).st = .up ∧ 16 ≤ (fport s p).mgmtHeld ∧
      linkBody 3 frame = some b ∧ 16 ≤ b.length ∧ b.length ≤ 1084) :=
  ⟨⟨wPort 0 ({ enable := true, st := .up, txAvail := [(0, 3)], rxHeld := [(8, 5)], retSeen := [(0, 0xFFFFFFFF)], rxCharged := [(1, 5)], rxReturned := [(1, 4)] } : FPort), 0, ({ pkt := { dstNode := 3, opcode := 1, payload := List.replicate 200 1 }, hdr := dataHdr { dstNode := 3, opcode := 1, payload := List.replicate 200 1 } 0 1 } : DFrame), by
      refine ⟨by unfold Live; decide +kernel, ?_, ?_, ?_, ?_, ?_, ?_, ?_, ?_, ?_, ?_, ?_, ?_, ?_⟩ <;> decide +kernel⟩,
    ⟨wPort 0 ({ enable := true, st := .up, txAvail := [(0, 3)], rxHeld := [(8, 5)], retSeen := [(0, 0xFFFFFFFF)], rxCharged := [(1, 5)], rxReturned := [(1, 4)] } : FPort), 0, ({ pkt := {}, hdr := [], headerBad := true } : DFrame), by
      refine ⟨by unfold Live; decide +kernel, ?_, ?_, ?_, ?_⟩ <;> decide +kernel⟩,
    ⟨wPort 0 ({ enable := true, st := .up, txAvail := [(0, 3)], rxHeld := [(8, 5)], retSeen := [(0, 0xFFFFFFFF)], rxCharged := [(1, 5)], rxReturned := [(1, 4)] } : FPort), 0, linkFrame 1 (creditBytes ({ returned := [3, 9] ++ List.replicate 8 0, charged := List.replicate 10 0 } : Credit)), creditBytes ({ returned := [3, 9] ++ List.replicate 8 0, charged := List.replicate 10 0 } : Credit), by
      refine ⟨by unfold Live; decide +kernel, ?_, ?_, ?_, ?_⟩ <;> decide +kernel⟩,
    ⟨wPort 0 ({ enable := true, st := .up, txAvail := [(0, 3)], rxHeld := [(8, 5)], retSeen := [(0, 0xFFFFFFFF)], rxCharged := [(1, 5)], rxReturned := [(1, 4)] } : FPort), 0, linkFrame 1 (creditBytes ({ countValid := true, returned := [3, 9] ++ List.replicate 8 0, charged := [2, 9] ++ List.replicate 8 0 } : Credit)), creditBytes ({ countValid := true, returned := [3, 9] ++ List.replicate 8 0, charged := [2, 9] ++ List.replicate 8 0 } : Credit), by
      refine ⟨by unfold Live; decide +kernel, ?_, ?_, ?_, ?_⟩ <;> decide +kernel⟩,
    ⟨wPort 0 { ({ enable := true, st := .up, txAvail := [(0, 3)], rxHeld := [(8, 5)], retSeen := [(0, 0xFFFFFFFF)], rxCharged := [(1, 5)], rxReturned := [(1, 4)] } : FPort) with creditDue := true }, 0, by
      refine ⟨by unfold Live; decide +kernel, ?_, ?_⟩ <;> decide +kernel⟩,
    ⟨wPort 0 { ({ enable := true, st := .up, txAvail := [(0, 3)], rxHeld := [(8, 5)], retSeen := [(0, 0xFFFFFFFF)], rxCharged := [(1, 5)], rxReturned := [(1, 4)] } : FPort) with leaving := some { pkt := {} } }, 0, 0, ({ pkt := {} } : EgFrame), by
      refine ⟨by unfold Live; decide +kernel, ?_, ?_, ?_, ?_, ?_, ?_, ?_, ?_, ?_, ?_⟩ <;> decide +kernel⟩,
    ⟨wRegs [(0x420000, 0x80010000000000FF)] w0, 0x420000, 1, 7,
      by unfold Live; decide +kernel,
      by decide +kernel⟩,
    ⟨wPort 0 { ({ enable := true, st := .up, txAvail := [(0, 3)], rxHeld := [(8, 5)], retSeen := [(0, 0xFFFFFFFF)], rxCharged := [(1, 5)], rxReturned := [(1, 4)] } : FPort) with mgmtHeld := 15 }, 0, linkFrame 3 (List.replicate 1084 7), List.replicate 1084 7, by
      refine ⟨by unfold Live; decide +kernel, ?_, ?_, ?_, ?_, ?_, ?_⟩ <;> decide +kernel⟩,
    ⟨wPort 0 { ({ enable := true, st := .up, txAvail := [(0, 3)], rxHeld := [(8, 5)], retSeen := [(0, 0xFFFFFFFF)], rxCharged := [(1, 5)], rxReturned := [(1, 4)] } : FPort) with mgmtHeld := 16 }, 0, linkFrame 3 (List.replicate 16 7), List.replicate 16 7, by
      refine ⟨by unfold Live; decide +kernel, ?_, ?_, ?_, ?_, ?_, ?_⟩ <;> decide +kernel⟩⟩

/-- States and operands that meet the hypotheses of each part of LinksComeUpAndGoDown. -/
theorem test_LinksComeUpAndGoDown :
    (∃ (s : State) (fn p : Nat), Live s ∧ isInn s fn = true ∧ (mget s.doms (64 + p) {}).st = 2 ∧ lcLases s = true ∧ (fport s p).enable = false) ∧
    (∃ (s : State) (fn p : Nat), Live s ∧ isInn s fn = true) ∧
    (∃ (s : State) (p : Nat), Live s ∧ lanesReady s p 0 = true ∧ (fport s p).st = .acquire ∧ (fport s p).direct = true) ∧
    (∃ (s : State) (p : Nat), Live s ∧ lanesReady s p 0 = true ∧ (fport s p).st = .acquire ∧ (fport s p).direct = false) ∧
    (∃ (s : State) (p : Nat), Live s ∧ (fport s p).direct = true ∧ (fport s p).st = .up) ∧
    (∃ (s : State) (p : Nat), Live s ∧ (fport s p).direct = true ∧ (fport s p).st = .handshake ∧ lanesReady s p 0 = true ∧
      (fport s p).helloHeld = false ∧ (fport s p).ackSent = false) ∧
    (∃ (s : State) (p : Nat) (frame b : List Byte), Live s ∧ (fport s p).direct = true ∧ controlBody 2 32 frame = some b ∧
      helloValid (helloOfBytes b) = true ∧ (fport s p).st = .handshake ∧ (fport s p).ackSent = true ∧ (helloOfBytes b).ack = true) ∧
    (∃ (s : State) (p : Nat), Live s ∧ (fport s p).direct = true ∧ (fport s p).st = .handshake ∧ (fport s p).helloHeld = false ∧
      reached ((fport s p).hsSince + 16000000) (elapsed s) = true) ∧
    (∃ (s : State) (p rx cw co un : Nat) (sy hi : List Nat), Live s ∧ reached ((fport s p).fecAt + 16000000) (elapsed s) = true ∧
      (fport s p).fecSd = false ∧ obj s 0x2850 0 240000 * rx < (sy.take 8).foldl (fun a x => a + x) 0 * 1000000000) ∧
    (∃ (s : State) (p rx cw co un : Nat) (sy hi : List Nat), Live s ∧ reached ((fport s p).fecAt + 16000000) (elapsed s) = true ∧
      (sy.take 8).foldl (fun a x => a + x) 0 * 1000000000 ≤ obj s 0x2850 0 240000 * rx) :=
  ⟨⟨w0, 0, 31, by
      refine ⟨by unfold Live; decide +kernel, ?_, ?_, ?_, ?_⟩ <;> decide +kernel⟩,
    ⟨wUp, 0, 0,
      by unfold Live; decide +kernel,
      by decide +kernel⟩,
    ⟨wLanes 0 (wPort 0 { st := .acquire, helloHeld := true }), 0, by
      refine ⟨by unfold Live; decide +kernel, ?_, ?_, ?_⟩ <;> decide +kernel⟩,
    ⟨wLanes 0 (wPort 0 { st := .acquire, mode := 1 }), 0, by
      refine ⟨by unfold Live; decide +kernel, ?_, ?_, ?_⟩ <;> decide +kernel⟩,
    ⟨wUp, 0, by
      refine ⟨by unfold Live; decide +kernel, ?_, ?_⟩ <;> decide +kernel⟩,
    ⟨wPort 0 ({ enable := true, st := .handshake } : FPort), 0, by
      refine ⟨by unfold Live; decide +kernel, ?_, ?_, ?_, ?_, ?_⟩ <;> decide +kernel⟩,
    ⟨wPort 0 { ({ enable := true, st := .handshake } : FPort) with ackSent := true }, 0, linkFrame 1 (helloBytes ({ ack := true, nodeValid := true, node := 7, deviceId := 5, reserve := 17, req := 8000, reply := 56 } : Hello)), helloBytes ({ ack := true, nodeValid := true, node := 7, deviceId := 5, reserve := 17, req := 8000, reply := 56 } : Hello), by
      refine ⟨by unfold Live; decide +kernel, ?_, ?_, ?_, ?_, ?_, ?_⟩ <;> decide +kernel⟩,
    ⟨{ wPort 0 ({ enable := true, st := .handshake } : FPort) with tide := { count := 16000000 } }, 0, by
      refine ⟨by unfold Live; decide +kernel, ?_, ?_, ?_, ?_⟩ <;> decide +kernel⟩,
    ⟨wTide { count := 16000000 }, 0, 1000000, 1, 1, 0, [241], [], by
      refine ⟨by unfold Live; decide +kernel, ?_, ?_, ?_⟩ <;> decide +kernel⟩,
    ⟨{ wPort 0 { fecSd := true } with tide := { count := 16000000 } }, 0, 1000000, 1, 1, 0, [240], [], by
      refine ⟨by unfold Live; decide +kernel, ?_, ?_⟩ <;> decide +kernel⟩⟩

/-- States and operands that meet the hypotheses of each part of EthernetPortsReceiveAndPause. -/
theorem test_EthernetPortsReceiveAndPause :
    (∃ (s : State) (p half : Nat) (h : EthHdr) (k : Pkt), Live s ∧ (fport s p).direct = false ∧
      (if half = 0 then (fport s p).st else (fport s p).stB) = .up ∧ ingressFrozen s p = false ∧ ethAccept s p half h = true ∧ h.ethertype ≠ 0x8808 ∧
      h.resolution = false ∧ h.isUdp = false) ∧
    (∃ (s : State) (p half : Nat) (h : EthHdr) (k : Pkt), Live s ∧ (fport s p).direct = false ∧
      (if half = 0 then (fport s p).st else (fport s p).stB) = .up ∧ ingressFrozen s p = false ∧ ethAccept s p half h = true ∧ h.ethertype ≠ 0x8808 ∧
      h.resolution = false ∧ h.fcsOk = true ∧ h.ipOk = true ∧ h.udpOk = true ∧ h.isUdp = true ∧ isLocalIp s p h.ipv6 h.dstIp = true ∧
      h.dport = obj s 0x2830 0 53100 ∧ ingressHalf (fport s p) half + h.bytes ≤ ingressCap (fport s p) ∧ k.version = 1 ∧ k.lenOk = true ∧
      h.bytes ≤ 9216 ∧ s.router.st ≠ .unset ∧ k.dstNode = s.router.node) ∧
    (∃ (s : State) (p c time : Nat), Live s ∧ (fport s p).direct = false ∧ (fport s p).st = .up ∧ wfld (pfcCfg s p) 1 0 = 1 ∧ c < 8 ∧ 0 < time) ∧
    (∃ (s : State) (p c : Nat) (x : Word), Live s ∧ mfind (fport s p).pauseA c = some x ∧ reached x (elapsed s) = true) ∧
    (∃ (s : State) (p prio : Nat), Live s ∧ (fport s p).mode = 1 ∧ (fport s p).st = .up ∧ wfld (pfcCfg s p) 1 0 = 2 ∧
      (fport s p).pfcSent.contains prio = true ∧
      reached (mget (fport s p).pfcAt prio 0 + BitVec.ofNat 64 (quantaTicks (fport s p) 32768)) (elapsed s) = true ∧
      wfld (pfcCfg s p) 47 32 * 1024 < pfcLevel s p prio) ∧
    (∃ (s : State) (first : Nat) (data : List Byte), Live s ∧ s.memWf = true ∧ first ≤ 65504) ∧
    (∃ (s : State) (first : Nat) (data : List Byte), Live s ∧ 65504 < first) :=
  ⟨⟨wPort 1 ({ enable := true, mode := 1, st := .up } : FPort), 1, 0, ({ dst := 0xFFFFFFFFFFFF, isUdp := false } : EthHdr), ({} : Pkt), by
      refine ⟨by unfold Live; decide +kernel, ?_, ?_, ?_, by simp [ethAccept]; decide +kernel, ?_, ?_, ?_⟩ <;> decide +kernel⟩,
    ⟨wObjs [(0x2811, 1, 1 + 0x0A * 2 ^ 104 + 0x01 * 2 ^ 128)] (wPort 1 ({ enable := true, mode := 1, st := .up } : FPort)), 1, 0, ({ dst := 0xFFFFFFFFFFFF, dport := 53100, dstIp := 0x0A000001, ecn := 3 } : EthHdr), ({ dstNode := 3, opcode := 1 } : Pkt), by
      refine ⟨by unfold Live; decide +kernel, ?_, ?_, ?_, by simp [ethAccept]; decide +kernel, ?_, ?_, ?_, ?_, ?_, ?_, ?_, ?_, ?_, ?_, ?_, ?_, ?_, ?_⟩ <;> decide +kernel⟩,
    ⟨wRegs [(0x301030, 1)] (wPort 1 ({ enable := true, mode := 1, st := .up } : FPort)), 1, 7, 1, by
      refine ⟨by unfold Live; decide +kernel, ?_, ?_, ?_, ?_, ?_⟩ <;> decide +kernel⟩,
    ⟨{ wPort 1 { ({ enable := true, mode := 1, st := .up } : FPort) with pauseA := [(2, 5), (3, 6)], pauseB := [(2, 1)] } with tide := { count := 5 } }, 1, 2, 5, by
      refine ⟨by unfold Live; decide +kernel, ?_, ?_⟩ <;> decide +kernel⟩,
    ⟨{ wRegs [(0x301030, 2)] (wPort 1 { ({ enable := true, mode := 1, st := .up } : FPort) with pfcSent := [3], ingress := [(3, 1)] }) with tide := { count := 167773 } }, 1, 3, by
      refine ⟨by unfold Live; decide +kernel, ?_, ?_, ?_, ?_, ?_, ?_⟩ <;> decide +kernel⟩,
    ⟨w0, 65504, [1, 2, 3], by
      refine ⟨by unfold Live; decide +kernel, ?_, ?_⟩ <;> decide +kernel⟩,
    ⟨w0, 65505, [],
      by unfold Live; decide +kernel,
      by decide +kernel⟩⟩

/-- States and operands that meet the hypotheses of each part of LanesLockDriftAndSweep. -/
theorem test_LanesLockDriftAndSweep :
    (∃ (s : State) (p l heater : Nat) (offset : Int), Live s ∧ l < 8 ∧ core1Runs s = true ∧ (lane s p l).st = 1 ∧ offset.natAbs ≤ 50 ∧
      63 ≤ (lane s p l).lockRun) ∧
    (∃ (s : State) (p l heater : Nat) (offset : Int), Live s ∧ l < 8 ∧ core1Runs s = true ∧ (lane s p l).st = 2 ∧ 600 < offset.natAbs ∧
      9 ≤ (lane s p l).outRun) ∧
    (∃ (s : State) (p l heater : Nat) (offset : Int), Live s ∧ l < 8 ∧ core1Runs s = true ∧ (lane s p l).st = 2 ∧ offset.natAbs ≤ 600 ∧
      obj s 0x8012 0 300 < offset.natAbs ∧ 9 ≤ (lane s p l).driftRun ∧ (lane s p l).drift = false) ∧
    (∃ (s : State) (p l heater : Nat), Live s ∧ l < 8 ∧ core1Runs s = true ∧ (lane s p l).st = 1 ∧ reached (lane s p l).due (elapsed s) = true ∧
      (lane s p l).chosen = false) ∧
    (∃ (s : State) (p l heater : Nat) (found : Bool), Live s ∧ l < 8 ∧ core1Runs s = true ∧ (lane s p l).st = 1 ∧
      reached (lane s p l).due (elapsed s) = true ∧ (found = false ∨ (lane s p l).chosen = true) ∧ (lane s p l).tries < 2) ∧
    (∃ (s : State) (p l heater : Nat) (found : Bool), Live s ∧ l < 8 ∧ core1Runs s = true ∧ (lane s p l).st = 1 ∧
      reached (lane s p l).due (elapsed s) = true ∧ (found = false ∨ (lane s p l).chosen = true) ∧ 2 ≤ (lane s p l).tries) ∧
    (∃ (s : State) (fn p l v : Nat), Live s ∧ isInn s fn = true ∧ p < 32 ∧ l < 8 ∧ armed s 8 = true ∧ v / 65536 % 2 = 1 ∧ (lane s p l).st ≤ 4 ∧
      (lane s p l).st ≠ 1) ∧
    (∃ (s : State) (u : Nat) (temps : List Int), Live s ∧ core1Runs s = true) ∧
    (∃ (s : State) (u : Nat) (taps : List Int), Live s ∧ core1Runs s = true ∧ (laser s u).st = 3) ∧
    (∃ (s : State) (p l co cw : Nat) (rx hi tx temp : Int), Live s ∧ l < 8 ∧ core1Runs s = true) :=
  ⟨⟨{ wUp with lanes := [(0, { st := 1, tries := 1, lockRun := 63 }), (9, { st := 3 })] }, 0, 0, 12001, -50, by
      refine ⟨by unfold Live; decide +kernel, ?_, ?_, ?_, ?_, ?_⟩ <;> decide +kernel⟩,
    ⟨{ wUp with lanes := [(0, { st := 2, outRun := 9 }), (9, { st := 3 })] }, 0, 0, 8000, -601, by
      refine ⟨by unfold Live; decide +kernel, ?_, ?_, ?_, ?_, ?_⟩ <;> decide +kernel⟩,
    ⟨{ wUp with lanes := [(0, { st := 2, driftRun := 9 }), (9, { st := 3 })] }, 0, 0, 8000, 600, by
      refine ⟨by unfold Live; decide +kernel, ?_, ?_, ?_, ?_, ?_, ?_, ?_⟩ <;> decide +kernel⟩,
    ⟨{ wUp with lanes := [(0, { st := 1 }), (9, { st := 3 })] }, 0, 0, 12001, by
      refine ⟨by unfold Live; decide +kernel, ?_, ?_, ?_, ?_, ?_⟩ <;> decide +kernel⟩,
    ⟨{ wUp with lanes := [(0, { st := 1, tries := 1 }), (9, { st := 3 })] }, 0, 0, 5, false, by
      refine ⟨by unfold Live; decide +kernel, ?_, ?_, ?_, ?_, ?_, ?_⟩ <;> decide +kernel⟩,
    ⟨{ wUp with lanes := [(0, { st := 1, tries := 2 }), (9, { st := 3 })] }, 0, 0, 5, false, by
      refine ⟨by unfold Live; decide +kernel, ?_, ?_, ?_, ?_, ?_, ?_⟩ <;> decide +kernel⟩,
    ⟨{ { wUp with lanes := [(0, { st := 2 }), (9, { st := 3 })] } with arms := [(8, 0)] }, 0, 0, 0, 0x12FFF, by
      refine ⟨by unfold Live; decide +kernel, ?_, ?_, ?_, ?_, ?_, ?_, ?_⟩ <;> decide +kernel⟩,
    ⟨wUp, 0, [5000, 5100],
      by unfold Live; decide +kernel,
      by decide +kernel⟩,
    ⟨{ wUp with lasers := [(0, { st := 3, current := [(0, 1000), (3, 4999)] }), (9, { st := 3 })] }, 0, [1700, 3], by
      refine ⟨by unfold Live; decide +kernel, ?_, ?_⟩ <;> decide +kernel⟩,
    ⟨wUp, 0, 0, 4, 100000, -3, -5, 6, 7, by
      refine ⟨by unfold Live; decide +kernel, ?_, ?_⟩ <;> decide +kernel⟩⟩

/-- States and operands that meet the hypotheses of each part of LasersFollowPermitAndFault. -/
theorem test_LasersFollowPermitAndFault :
    (∃ (s : State) (u : Nat), Live s ∧ (laser s u).st = 1 ∧ laserPermit s u = true) ∧
    (∃ (s : State) (u : Nat), Live s ∧ (laser s u).st = 1 ∧ reached ((laser s u).since + 16000000000) (elapsed s) = true) ∧
    (∃ (s : State) (u : Nat) (currents : List Nat) (taps : List Int), Live s ∧ (laser s u).st = 2 ∧ laserPermit s u = true) ∧
    (∃ (s : State) (u : Nat), Live s ∧ (laser s u).st = 3 ∧ laserDemand s u = false ∧
      (∀ k < 4, reached ((fport s (4 * u + k)).offSince + 16000000000) (elapsed s) = true)) ∧
    (∃ (s : State) (u : Nat), Live s ∧ 1 ≤ (laser s u).st ∧ (laser s u).st ≤ 3 ∧ laserPermit s u = false) ∧
    (∃ (s : State) (u l : Nat), Live s ∧ ((laser s u).st = 2 ∨ (laser s u).st = 3) ∧ mget (laser s u).sol l 0 ≤ mget (laser s u).current l 0) ∧
    (∃ (s : State) (u : Nat), Live s ∧ (laser s u).st ≠ 0) ∧
    (∃ (s : State) (fn u : Nat), Live s ∧ isInn s fn = true ∧ u < 8 ∧ (laser s u).st = 4 ∧ laserDemand s u = false) ∧
    (∃ (s : State) (fn u : Nat) (allow : Bool), Live s ∧ isInn s fn = true ∧ u < 8 ∧ armed s 8 = true) ∧
    (∃ (s : State) (fn u : Nat) (allow : Bool), Live s ∧ isInn s fn = true ∧ u < 8 ∧ armed s 8 = false ∧ laserAllow s u ≠ allow) ∧
    (∃ (s : State), Live s) :=
  ⟨⟨wRegs [(0x340100, 1)] { { wUp with lasers := [(0, { st := 1 }), (9, { st := 3 })] } with laserEn := true }, 0, by
      refine ⟨by unfold Live; decide +kernel, ?_, ?_⟩ <;> decide +kernel⟩,
    ⟨{ wUp with lasers := [(0, { st := 1 }), (9, { st := 3 })], tide := { count := 16000000000 } }, 0, by
      refine ⟨by unfold Live; decide +kernel, ?_, ?_⟩ <;> decide +kernel⟩,
    ⟨wRegs [(0x340100, 1)] { { wUp with lasers := [(0, { st := 2 }), (9, { st := 3 })] } with laserEn := true }, 0, [1000, 6000], [3], by
      refine ⟨by unfold Live; decide +kernel, ?_, ?_⟩ <;> decide +kernel⟩,
    ⟨{ wUp with lasers := [(0, { st := 3, current := [(0, 1000)], tap := [(0, 1700)], sol := [(0, 900)] }), (9, { st := 3 })], fports := [], tide := { count := 16000000000 } }, 0, by
      refine ⟨by unfold Live; decide +kernel, ?_, ?_, ?_⟩ <;> decide +kernel⟩,
    ⟨{ wUp with lasers := [(0, { st := 3, current := [(0, 1000)], tap := [(0, 1700)], sol := [(0, 900)] }), (9, { st := 3 })], laserEn := false }, 0, by
      refine ⟨by unfold Live; decide +kernel, ?_, ?_, ?_⟩ <;> decide +kernel⟩,
    ⟨{ wUp with lasers := [(0, { st := 3, current := [(0, 1000)], tap := [(0, 1700)], sol := [(0, 900)] }), (9, { st := 3 })] }, 0, 0, by
      refine ⟨by unfold Live; decide +kernel, ?_, ?_⟩ <;> decide +kernel⟩,
    ⟨{ wUp with lasers := [(0, { st := 3, current := [(0, 1000)], tap := [(0, 1700)], sol := [(0, 900)] }), (9, { st := 3 })] }, 0,
      by unfold Live; decide +kernel,
      by decide +kernel⟩,
    ⟨{ wUp with lasers := [(0, { st := 4, cause := 1 }), (9, { st := 3 })], fports := [] }, 0, 0, by
      refine ⟨by unfold Live; decide +kernel, ?_, ?_, ?_, ?_⟩ <;> decide +kernel⟩,
    ⟨{ wUp with arms := [(8, 0)] }, 0, 0, true, by
      refine ⟨by unfold Live; decide +kernel, ?_, ?_, ?_⟩ <;> decide +kernel⟩,
    ⟨wUp, 0, 7, false, by
      refine ⟨by unfold Live; decide +kernel, ?_, ?_, ?_, ?_⟩ <;> decide +kernel⟩,
    ⟨{ wUp with laserEn := false, lasers := [] },
      by unfold Live; decide +kernel⟩⟩

/-- States and operands that meet the hypotheses of each part of RoomsChangeState. -/
theorem test_RoomsChangeState :
    (∃ (s : State) (h : FdHdr) (id v : Nat), InnTakes s h 0x70 ∧ (room s h.room).st ≠ .free ∧ quotaBad id v = false ∧
      ((id = 0 ∨ id = 2) → (room s h.room).st = .quiesced) ∧ (∀ m f, quotaLimit id = some (m, f) → quotaSum s h.room f + v ≤ m)) ∧
    (∃ (s : State) (h : FdHdr) (fw : Nat), InnTakes s h 0x71 ∧ (room s h.room).st = .opened ∧ (room s h.room).fn ≠ innFn s ∧ fw ≤ 1) ∧
    (∃ (s : State) (rm : Nat), Live s ∧ (room s rm).st = .quiescing ∧ drained s rm = true) ∧
    (∃ (s : State) (rm : Nat), Live s ∧ (room s rm).st = .quiescing ∧ (room s rm).removing = false ∧
      reached (room s rm).quiesceEnd (elapsed s) = true) ∧
    (∃ (s : State) (h : FdHdr), InnTakes s h 0x72 ∧ (room s h.room).st = .quiesced) ∧
    (∃ (s : State) (h : FdHdr), InnTakes s h 0x74 ∧ (room s h.room).st ≠ .free ∧ (room s h.room).st ≠ .quarantined ∧ (room s h.room).fn ≠ innFn s ∧
      (room s h.room).removing = false) ∧
    (∃ (s : State) (h : FdHdr), InnTakes s h 0x75 ∧ (room s h.room).st = .quarantined ∧ (room s h.room).gone = false) ∧
    (∃ (s : State) (h : FdHdr) (keep : Nat), InnTakes s h 0x73 ∧ ((room s h.room).st = .quiesced ∨ ((room s h.room).st = .quarantined ∧
      (room s h.room).gone = false)) ∧ (room s h.room).fn ≠ innFn s ∧ keep ≤ 1) ∧
    (∃ (s : State) (h : FdHdr), InnTakes s h 0x76 ∧ Keyed 0 s.rooms ∧ 8 ≤ h.room ∧ (room s h.room).st = .quarantined ∧ (room s h.room).gone = true ∧
      (room s h.room).fn ≠ innFn s ∧ extentsOf s h.room = [] ∧ (hport s (fnPort (room s h.room).fn)).vfEnable = false ∧
      (∀ f ∈ s.funcs, ∀ g op rm es, f.2.fd.running ≠ some (g, op, .remove rm es))) ∧
    (∃ (s : State) (h : FdHdr), InnTakes s h 0x77 ∧ badResultAddr s h = false ∧ (room s h.room).st ≠ .free) ∧
    (∃ (s : State) (h : FdHdr), InnTakes s h 0x72 ∧ (room s h.room).st = .free) :=
  ⟨⟨{ w0 with rooms := mset w0.rooms 1 { (room w0 1) with st := .quiesced } }, ({ fn := 0, room := 1 } : FdHdr), 2, 512, by
      refine ⟨by unfold InnTakes Takes Live; decide +kernel, ?_, ?_, ?_, fun m f hq => by
        simp only [quotaLimit, Option.some.injEq, Prod.mk.injEq] at hq
        obtain ⟨rfl, rfl⟩ := hq
        decide +kernel⟩ <;> decide +kernel⟩,
    ⟨w0, ({ fn := 0, room := 1 } : FdHdr), 1, by
      refine ⟨by unfold InnTakes Takes Live; decide +kernel, ?_, ?_, ?_⟩ <;> decide +kernel⟩,
    ⟨{ w0 with rooms := mset w0.rooms 1 { (room w0 1) with st := .quiescing } }, 1, by
      refine ⟨by unfold Live; decide +kernel, ?_, ?_⟩ <;> decide +kernel⟩,
    ⟨{ w0 with rooms := mset w0.rooms 1 { (room w0 1) with st := .quiescing } }, 1, by
      refine ⟨by unfold Live; decide +kernel, ?_, ?_, ?_⟩ <;> decide +kernel⟩,
    ⟨{ w0 with rooms := mset w0.rooms 1 { (room w0 1) with st := .quiesced } }, ({ fn := 0, room := 1 } : FdHdr),
      by unfold InnTakes Takes Live; decide +kernel,
      by decide +kernel⟩,
    ⟨w0, ({ fn := 0, room := 1 } : FdHdr), by
      refine ⟨by unfold InnTakes Takes Live; decide +kernel, ?_, ?_, ?_, ?_⟩ <;> decide +kernel⟩,
    ⟨{ w0 with rooms := mset w0.rooms 1 { (room w0 1) with st := .quarantined, qcause := 4 } }, ({ fn := 0, room := 1 } : FdHdr), by
      refine ⟨by unfold InnTakes Takes Live; decide +kernel, ?_, ?_⟩ <;> decide +kernel⟩,
    ⟨{ w0 with rooms := mset w0.rooms 1 { (room w0 1) with st := .quiesced, lanterns := [(3, {})], keys := [(1, {})], leaves1 := [(0, { dpa := 0, write := true, read := true, atomic := true })] } }, ({ fn := 0, room := 1 } : FdHdr), 1, by
      refine ⟨by unfold InnTakes Takes Live; decide +kernel, ?_, ?_, ?_⟩ <;> decide +kernel⟩,
    ⟨{ w0 with rooms := mset w0.rooms 9 { (room w0 9) with st := .quarantined, gone := true, fn := 1 } }, ({ fn := 0, room := 9 } : FdHdr), by
      refine ⟨by unfold InnTakes Takes Live; decide +kernel, keyed_of (by decide +kernel), ?_, ?_, ?_, ?_, ?_, ?_, fun f hf => by simp [running_none _ (by decide +kernel) f hf]⟩ <;> decide +kernel⟩,
    ⟨w0, ({ fn := 0, room := 1 } : FdHdr), by
      refine ⟨by unfold InnTakes Takes Live; decide +kernel, ?_, ?_⟩ <;> decide +kernel⟩,
    ⟨w0, ({ fn := 0, room := 9 } : FdHdr),
      by unfold InnTakes Takes Live; decide +kernel,
      by decide +kernel⟩⟩

/-- States and operands that meet the hypotheses of each part of MailboxesPostAndAcknowledge. -/
theorem test_MailboxesPostAndAcknowledge :
    (∃ (s : State) (fn rm len : Nat) (keeper : Bool), Live s ∧ mailRight s fn rm keeper = true ∧ (mailDir (room s rm) (!keeper)).posted = false ∧
      1 ≤ len ∧ len ≤ 16) ∧
    (∃ (s : State) (fn rm : Nat) (keeper : Bool), Live s ∧ mailRight s fn rm keeper = true ∧ (mailDir (room s rm) keeper).posted = true) ∧
    (∃ (s : State) (fn rm len : Nat) (keeper : Bool), Live s ∧ mailRight s fn rm keeper = false) :=
  ⟨⟨{ w0 with rooms := mset w0.rooms 9 { st := .opened, fn := 1, outBox := { posted := false, len := 3 }, inBox := { posted := true, len := 5 } }, funcs := w0.funcs ++ [(1, { enabled := true })] }, 1, 9, 16, false, by
      refine ⟨by unfold Live; decide +kernel, ?_, ?_, ?_, ?_⟩ <;> decide +kernel⟩,
    ⟨{ w0 with rooms := mset w0.rooms 9 { st := .opened, fn := 1, outBox := { posted := true, len := 3 }, inBox := { posted := true, len := 5 } }, funcs := w0.funcs ++ [(1, { enabled := true })] }, 1, 9, false, by
      refine ⟨by unfold Live; decide +kernel, ?_, ?_⟩ <;> decide +kernel⟩,
    ⟨{ w0 with rooms := mset w0.rooms 9 { st := .opened, fn := 1, outBox := { posted := true, len := 3 }, inBox := { posted := true, len := 5 } }, funcs := w0.funcs ++ [(1, { enabled := true })] }, 2, 9, 3, true,
      by unfold Live; decide +kernel,
      by decide +kernel⟩⟩

/-- States and operands that meet the hypotheses of each part of KeysAreLoadedRotatedAndErased. -/
theorem test_KeysAreLoadedRotatedAndErased :
    (∃ (s : State) (fn i w : Nat) (fabric : Bool) (owner : Option Nat) (v : Word), Live s ∧ slotOwner s fn fabric = some owner ∧ i < 16 ∧ w < 8 ∧
      ((slotOf s owner i).bank (w / 4)).loaded = false ∧ (slotOf s owner i).rotating = false ∧ keysAllowed s = true) ∧
    (∃ (s : State) (fn i b : Nat) (fabric : Bool) (owner : Option Nat) (v0 v1 v2 v3 : Word), Live s ∧ slotOwner s fn fabric = some owner ∧ i < 16 ∧
      b < 2 ∧ ((slotOf s owner i).bank b).loaded = false ∧ (slotOf s owner i).rotating = false ∧ keysAllowed s = true) ∧
    (∃ (s : State) (fn i w : Nat) (fabric : Bool) (owner : Option Nat) (part : Part) (v : Word), Live s ∧ slotOwner s fn fabric = some owner ∧
      i < 16 ∧ w < 8 ∧ ((slotOf s owner i).bank (w / 4)).loaded = true ∧ (part = .full ∨ part = .low ∨ part = .high)) ∧
    (∃ (s : State) (fn i : Nat) (fabric : Bool) (owner : Option Nat) (time : Word), Live s ∧ slotOwner s fn fabric = some owner ∧ i < 16 ∧
      ((slotOf s owner i).bank (1 - (slotOf s owner i).active)).loaded = true ∧ (slotOf s owner i).rotating = false) ∧
    (∃ (s : State) (owner : Option Nat) (i : Nat), Live s ∧ (slotOf s owner i).rotating = true ∧ (slotOf s owner i).active < 2 ∧
      reached ((slotOf s owner i).rotateAt + 16000000#64) s.tide.count = true) ∧
    (∃ (s : State) (h : FdHdr) (i rm : Nat), Takes s h 0x81 ∧ i < 16 ∧ roomOf s h.fn = some rm ∧ slotInUse s (some rm) i = false) ∧
    (∃ (s : State) (h : FdHdr) (i : Nat), InnTakes s h 0x81 ∧ i < 16 ∧ slotInUse s none i = true) ∧
    (∃ (s : State) (i b : Nat) (key : List Byte), Live s ∧ i < 16 ∧ b < 2 ∧ ((slotOf s none i).bank b).loaded = false ∧
      (slotOf s none i).rotating = false ∧ keysAllowed s = true) ∧
    (∃ (s : State) (i : Nat) (time : Word), Live s ∧ i < 16 ∧ keysAllowed s = true ∧
      ((slotOf s none i).bank (1 - (slotOf s none i).active)).loaded = true ∧ (slotOf s none i).rotating = false) ∧
    (∃ (s : State) (k : Nat) (key : List Byte) (remote : Bool), Live s ∧ 1 ≤ k ∧ k ≤ 4 ∧ keysAllowed s = true) ∧
    (∃ (s : State) (k : Nat) (key : List Byte), Live s ∧ 1 ≤ k ∧ k ≤ 4) :=
  ⟨⟨{ w0 with rooms := [(0, { st := .opened, fn := 0, keys := [(15, { b0 := { words := [(0, 5), (3, 6)], loaded := true } })] })] }, 0, 15, 7, false, some 0, 9, by
      refine ⟨by unfold Live; decide +kernel, ?_, ?_, ?_, ?_, ?_, ?_⟩ <;> decide +kernel⟩,
    ⟨{ w0 with rooms := [(0, { st := .opened, fn := 0, keys := [(15, { b0 := { words := [(0, 5), (3, 6)], loaded := true } })] })] }, 0, 15, 1, false, some 0, 9, 8, 7, 6, by
      refine ⟨by unfold Live; decide +kernel, ?_, ?_, ?_, ?_, ?_, ?_⟩ <;> decide +kernel⟩,
    ⟨{ w0 with rooms := [(0, { st := .opened, fn := 0, keys := [(15, { b0 := { words := [(0, 5), (3, 6)], loaded := true } })] })] }, 0, 15, 3, false, some 0, .low, 9, by
      refine ⟨by unfold Live; decide +kernel, ?_, ?_, ?_, ?_, ?_⟩ <;> decide +kernel⟩,
    ⟨{ w0 with rooms := [(0, { st := .opened, fn := 0, keys := [(15, { b1 := { words := [(0, 5), (3, 6)], loaded := true } })] })] }, 0, 15, false, some 0, 9, by
      refine ⟨by unfold Live; decide +kernel, ?_, ?_, ?_, ?_⟩ <;> decide +kernel⟩,
    ⟨{ w0 with rooms := [(0, { st := .opened, fn := 0, keys := [(15, { b1 := { words := [(0, 5), (3, 6)], loaded := true }, rotating := true, rotateAt := 5 })] })], tide := { w0.tide with count := 16000005 } }, some 0, 15, by
      refine ⟨by unfold Live; decide +kernel, ?_, ?_, ?_⟩ <;> decide +kernel⟩,
    ⟨{ w0 with rooms := [(0, { st := .opened, fn := 0, keys := [(15, { b0 := { words := [(0, 5), (3, 6)], loaded := true }, b1 := { words := [(0, 5), (3, 6)], loaded := true } })] })] }, ({ fn := 0 } : FdHdr), 15, 0, by
      refine ⟨by unfold Takes Live; decide +kernel, ?_, ?_, ?_⟩ <;> decide +kernel⟩,
    ⟨{ { w0 with sealing := { w0.sealing with fab := [(3, { b0 := { words := [(0, 5), (3, 6)], loaded := true } })] } } with coll := { itins := [(0x13, { wItin 3 [] with sealed := true })] } }, ({ fn := 0 } : FdHdr), 3, by
      refine ⟨by unfold InnTakes Takes Live; decide +kernel, ?_, ?_⟩ <;> decide +kernel⟩,
    ⟨{ w0 with sealing := { w0.sealing with fab := [(3, { b0 := { words := [(0, 5), (3, 6)], loaded := true } })] } }, 3, 1, (List.range 32).map (BitVec.ofNat 8), by
      refine ⟨by unfold Live; decide +kernel, ?_, ?_, ?_, ?_, ?_⟩ <;> decide +kernel⟩,
    ⟨{ w0 with sealing := { w0.sealing with fab := [(3, { b1 := { words := [(0, 5), (3, 6)], loaded := true } })] } }, 3, 9, by
      refine ⟨by unfold Live; decide +kernel, ?_, ?_, ?_, ?_⟩ <;> decide +kernel⟩,
    ⟨w0, 4, [1, 2], false, by
      refine ⟨by unfold Live; decide +kernel, ?_, ?_, ?_⟩ <;> decide +kernel⟩,
    ⟨w0, 4, [1], by
      refine ⟨by unfold Live; decide +kernel, ?_, ?_⟩ <;> decide +kernel⟩⟩

/-- States and operands that meet the hypotheses of each part of LifeCycleRequests. -/
theorem test_LifeCycleRequests :
    (∃ (s : State) (t0 : List Byte) (path : Nat), Live s ∧ core2Runs s = true ∧ s.sealing.fuse = none ∧ s.sealing.lc = 2 ∧
      ofBe ((t0.drop 28).take 1) = 4 ∧ path ≠ 0 ∧ ofBe (t0.take 4) ≠ 1 ∧ resetReady s = true) ∧
    (∃ (s : State) (t0 : List Byte) (path : Nat), Live s ∧ core2Runs s = true ∧ s.sealing.fuse = none ∧ s.sealing.lc = 1 ∧
      ofBe ((t0.drop 28).take 1) = 2 ∧ path ≠ 0 ∧ ofBe (t0.take 4) ≠ 1 ∧ resetReady s = true) ∧
    (∃ (s : State) (t0 : List Byte) (path : Nat) (auth : Bool), Live s ∧ core2Runs s = true ∧ s.sealing.fuse = none ∧
      lcRow s.sealing.lc (ofBe ((t0.drop 28).take 1)) path auth = .none ∧ ofBe (t0.take 4) ≠ 1) ∧
    (∃ (s : State) (t0 : List Byte) (path : Nat) (auth : Bool), Live s ∧ core2Runs s = true ∧ s.sealing.fuse = none ∧
      lcRow s.sealing.lc (ofBe ((t0.drop 28).take 1)) path auth = .token ∧ 8 ≤ s.sealing.refused) :=
  ⟨⟨{ w0 with sealing := { w0.sealing with lc := 2, mgmt := [(1, [3])], fab := [(0, { b0 := { words := [(0, 5), (3, 6)], loaded := true } })] }, rooms := [(0, { st := .opened, keys := [(3, {})] }), (1, { st := .opened, fn := 65, keys := [(3, {})] })] }, (List.replicate 28 0 ++ [4]), 1, by
      refine ⟨by unfold Live; decide +kernel, ?_, ?_, ?_, ?_, ?_, ?_, ?_⟩ <;> decide +kernel⟩,
    ⟨{ w0 with sealing := { w0.sealing with lc := 1, mgmt := [(1, [3])] } }, (List.replicate 28 0 ++ [2]), 1, by
      refine ⟨by unfold Live; decide +kernel, ?_, ?_, ?_, ?_, ?_, ?_, ?_⟩ <;> decide +kernel⟩,
    ⟨w0, (List.replicate 28 0 ++ [0]), 1, true, by
      refine ⟨by unfold Live; decide +kernel, ?_, ?_, ?_, ?_⟩ <;> decide +kernel⟩,
    ⟨{ w0 with sealing := { w0.sealing with refused := 8 } }, [0, 0, 0, 1] ++ List.replicate 24 0 ++ [3], 1, true, by
      refine ⟨by unfold Live; decide +kernel, ?_, ?_, ?_, ?_⟩ <;> decide +kernel⟩⟩

/-- States and operands that meet the hypotheses of each part of MemoryErrorsAreScrubbedAndLatched. -/
theorem test_MemoryErrorsAreScrubbedAndLatched :
    (∃ (s : State) (m pos sym a : Nat) (code : Option (Nat × Bool)), Live s ∧ m < 18 ∧ scrubNext s m = some a ∧ mapAt s a 256 = none ∧
      (∀ i < 4, a / 64 + i ∉ s.mem.poison ∧ a / 64 + i ∉ s.mem.latentUe ∧ a / 64 + i ∉ s.mem.latentCe)) ∧
    (∃ (s : State) (m pos sym a : Nat) (code : Option (Nat × Bool)), Live s ∧ m < 18 ∧ scrubNext s m = some a ∧ mapAt s a 256 = none ∧
      (∀ i < 4, a / 64 + i ∉ s.mem.poison ∧ a / 64 + i ∉ s.mem.latentUe ∧ (1 ≤ i → a / 64 + i ∉ s.mem.latentCe)) ∧ a / 64 ∈ s.mem.latentCe) ∧
    (∃ (s : State) (m : Nat), Live s ∧ m < 18 ∧ scrubNext s m = none) ∧
    (∃ (s : State), Live s ∧ reached (s.errs.secondAt + 16000000000) (elapsed s) = true) ∧
    (∃ (s : State) (d n : Nat), Live s ∧ d < 4 ∧ 2 ≤ (mget s.ds d {}).st) ∧
    (∃ (s : State) (m w : Nat), Live s) ∧
    (∃ (s : State) (fn u : Nat), Live s ∧ isInn s fn = true ∧ (mget s.errs.latches u {}).st = 1) ∧
    (∃ (s : State) (u : Nat), Live s ∧ (mget s.errs.latches u {}).st = 1 ∧ (mget s.errs.latches u {}).recorded = true ∧
      (mget s.errs.latches u {}).ack ≠ 0 ∧
      reached ((mget s.errs.latches u {}).since + BitVec.ofNat 64 ((mget s.errs.latches u {}).ack * 16000000000)) (elapsed s) = true) :=
  ⟨⟨{ w0 with mem := { w0.mem with valid := [0] } }, 0, 0, 0, 0, none, by
      refine ⟨by unfold Live; decide +kernel, ?_, ?_, ?_, ?_⟩ <;> decide +kernel⟩,
    ⟨{ w0 with mem := { w0.mem with valid := [0], latentCe := [0] } }, 0, 3, 4, 0, none, by
      refine ⟨by unfold Live; decide +kernel, ?_, ?_, ?_, ?_, ?_⟩ <;> decide +kernel⟩,
    ⟨{ w0 with mem := { w0.mem with valid := [] } }, 0, by
      refine ⟨by unfold Live; decide +kernel, ?_, ?_⟩ <;> decide +kernel⟩,
    ⟨{ w0 with errs := { w0.errs with ceLim := 5, ceSecond := [(0, 6), (20, 9)] }, tide := { w0.tide with count := 16000000005 } },
      by unfold Live; decide +kernel,
      by decide +kernel⟩,
    ⟨{ w0 with ds := [(3, { st := 2 })] }, 3, 7, by
      refine ⟨by unfold Live; decide +kernel, ?_, ?_⟩ <;> decide +kernel⟩,
    ⟨{ w0 with errs := { w0.errs with codeBad := [(62, 3), (63, 3)] } }, 1, 3,
      by unfold Live; decide +kernel⟩,
    ⟨{ w0 with errs := { w0.errs with latches := [(2, { st := 1, seq := 255, recorded := true })] } }, 0, 2, by
      refine ⟨by unfold Live; decide +kernel, ?_, ?_⟩ <;> decide +kernel⟩,
    ⟨{ w0 with errs := { w0.errs with latches := [(2, { st := 1, seq := 255, recorded := true, ack := 1, since := 5 })] }, tide := { w0.tide with count := 16000000005 } }, 2, by
      refine ⟨by unfold Live; decide +kernel, ?_, ?_, ?_, ?_⟩ <;> decide +kernel⟩⟩

/-- States and operands that meet the hypotheses of each part of TheDeviceFailsAndCoresHalt. -/
theorem test_TheDeviceFailsAndCoresHalt :
    (∃ (s : State) (b : Nat), Live s) ∧
    (∃ (s : State), Live s) ∧
    (∃ (s : State), Live s) ∧
    (∃ (s : State) (k w : Nat), Live s ∧ k < 4 ∧ k ∉ s.errs.coresHalted) ∧
    (∃ (s : State), Live s ∧ core3Runs s = false) :=
  ⟨⟨w0, 9,
      by unfold Live; decide +kernel⟩,
    ⟨w0,
      by unfold Live; decide +kernel⟩,
    ⟨w0,
      by unfold Live; decide +kernel⟩,
    ⟨wUp, 1, 5, by
      refine ⟨by unfold Live; decide +kernel, ?_, ?_⟩ <;> decide +kernel⟩,
    ⟨{ w0 with errs := { w0.errs with coresHalted := [3] } },
      by unfold Live; decide +kernel,
      by decide +kernel⟩⟩

/-- States and operands that meet the hypotheses of each part of RequestsAreServed. -/
theorem test_RequestsAreServed :
    (∃ (s : State) (src : RSrc) (f : RFrame) (r : DRow), Asks s src f ∧ f.data = [] ∧ entryOf f.index f.sub = some r ∧ f.offset = 0 ∧ 1 ≤ r.size ∧
      r.size ≤ 1024 ∧ mayRead s (plainClass s src) f.index f.sub = true) ∧
    (∃ (s : State) (src : RSrc) (f : RFrame) (r : DRow), Asks s src f ∧ f.data = [] ∧ entryOf f.index f.sub = some r ∧ f.offset = 0 ∧ 1 ≤ r.size ∧
      r.size ≤ 1024 ∧ mayRead s (plainClass s src) f.index f.sub = false) ∧
    (∃ (s : State) (src : RSrc) (f : RFrame) (r : DRow), Asks s src f ∧ entryOf f.index f.sub = some r ∧ r.access = 1 ∧ f.offset = 0 ∧
      f.more = false ∧ f.data.length = r.size ∧ mayWrite s (plainClass s src) f.index f.sub = true ∧ r.inRange (ofLe f.data) = true ∧
      (writeEffect f.index f.sub (ofLe f.data) f.data false false (received s src)).1 = 0 ∧
      reachable (writeEffect f.index f.sub (ofLe f.data) f.data false false (received s src)).2 src = true) ∧
    (∃ (s : State) (src : RSrc) (f : RFrame) (r : DRow), Asks s src f ∧ entryOf f.index f.sub = some r ∧ r.access = 3 ∧ f.offset = 0 ∧
      f.more = false ∧ f.data.length = r.size ∧ mayWrite s (plainClass s src) f.index f.sub = true ∧ r.inRange (ofLe f.data) = true ∧
      writeEffect f.index f.sub (ofLe f.data) f.data false false (received s src) = (0, received s src)) ∧
    (∃ (s : State) (src : RSrc) (f : RFrame) (r : DRow), Asks s src f ∧ entryOf f.index f.sub = some r ∧ r.access ≠ 0 ∧ r.access ≠ 4 ∧ f.offset = 0 ∧
      f.more = false ∧ f.data.length = r.size ∧ mayWrite s (plainClass s src) f.index f.sub = true ∧ r.inRange (ofLe f.data) = false) ∧
    (∃ (s : State) (src : RSrc) (f : RFrame) (r : DRow), Asks s src f ∧ f.data = [] ∧ entryOf f.index f.sub = some r ∧ stateReads s f.index = true) ∧
    (∃ (s : State) (src : RSrc) (f : RFrame), Asks s src f ∧ f.data = []) ∧
    (∃ (s : State) (src : RSrc) (f resp : RFrame), Live s ∧ core0Runs s = true ∧ reachable s src = true ∧ isRemote src = false ∧ f.formOk = true ∧
      f.type = 0 ∧ f.route = none ∧ f.auth = none ∧ f.data.length ≤ 1024 ∧ waitingOn s (transport src) < 32 ∧ keptOf s src f = some resp ∧
      resp.route = none) :=
  ⟨⟨w0, .mctp 0, ({ tag := 7, index := 0x8012, sub := 0 } : RFrame), (match entryOf 0x8012 0 with | some r => r | none => ⟨0,0,0,0,"",0,0,0,0,0,0,"",0,false⟩), by
      refine ⟨by unfold Asks Live; decide +kernel, ?_, ?_, ?_, ?_, ?_, ?_⟩ <;> decide +kernel⟩,
    ⟨w0, .sideband, ({ tag := 7, index := 0xB000, sub := 1 } : RFrame), (match entryOf 0xB000 1 with | some r => r | none => ⟨0,0,0,0,"",0,0,0,0,0,0,"",0,false⟩), by
      refine ⟨by unfold Asks Live; decide +kernel, ?_, ?_, ?_, ?_, ?_, ?_⟩ <;> decide +kernel⟩,
    ⟨w0, .mctp 0, ({ tag := 7, index := 0xB011, sub := 1, data := [0] } : RFrame), (match entryOf 0xB011 1 with | some r => r | none => ⟨0,0,0,0,"",0,0,0,0,0,0,"",0,false⟩), by
      refine ⟨by unfold Asks Live; decide +kernel, ?_, ?_, ?_, ?_, ?_, ?_, ?_, ?_, ?_⟩ <;> decide +kernel⟩,
    ⟨w0, .mctp 0, ({ tag := 7, index := 0x8012, sub := 0, data := [100, 0] } : RFrame), (match entryOf 0x8012 0 with | some r => r | none => ⟨0,0,0,0,"",0,0,0,0,0,0,"",0,false⟩), by
      refine ⟨by unfold Asks Live; decide +kernel, ?_, ?_, ?_, ?_, ?_, ?_, ?_, rfl⟩ <;> decide +kernel⟩,
    ⟨w0, .mctp 0, ({ tag := 7, index := 0x8012, sub := 0, data := [1, 0] } : RFrame), (match entryOf 0x8012 0 with | some r => r | none => ⟨0,0,0,0,"",0,0,0,0,0,0,"",0,false⟩), by
      refine ⟨by unfold Asks Live; decide +kernel, ?_, ?_, ?_, ?_, ?_, ?_, ?_, ?_⟩ <;> decide +kernel⟩,
    ⟨w0, .mctp 0, ({ tag := 7, index := 0x8012, sub := 0 } : RFrame), (match entryOf 0x8012 0 with | some r => r | none => ⟨0,0,0,0,"",0,0,0,0,0,0,"",0,false⟩), by
      refine ⟨by unfold Asks Live; decide +kernel, ?_, ?_, ?_⟩ <;> decide +kernel⟩,
    ⟨w0, .mctp 0, ({ tag := 7, index := 0x8012, sub := 0 } : RFrame),
      by unfold Asks Live; decide +kernel,
      by decide +kernel⟩,
    ⟨{ w0 with dict := { w0.dict with kept := [{ src := .sideband, tag := 7, index := 5, sub := 0, offset := 0, data := [1], time := 0, resp := { type := 1, status := 3 } }] } }, .sideband, ({ tag := 7, index := 5, sub := 0, data := [1] } : RFrame), ({ type := 1, status := 3 } : RFrame), by
      refine ⟨by unfold Live; decide +kernel, ?_, ?_, ?_, ?_, ?_, ?_, ?_, ?_, ?_, ?_, ?_⟩ <;> decide +kernel⟩⟩

/-- States and operands that meet the hypotheses of each part of StoresRelaysAndEndpointsAnswer. -/
theorem test_StoresRelaysAndEndpointsAnswer :
    (∃ (s : State) (x : Store), Live s ∧ core0Runs s = true ∧ s.dict.stores.find? (fun y => y.index == x.index && y.sub == x.sub) = some x ∧
      s.power.resetDue = none ∧ reachable s x.src = true ∧ x.frame.route = none ∧ x.frame.opcode = none ∧ x.key = none) ∧
    (∃ (s : State) (src : RSrc) (tag idx sub : Nat), Live s) ∧
    (∃ (s : State) (p : Nat) (f : RFrame) (r : RRoute), Relays s (.inband p) f r ∧ r.hopIndex < r.hops ∧ r.hops ≤ 16 ∧
      mgmtPort s ((routePorts r).getD r.hopIndex 0) = true) ∧
    (∃ (s : State) (p : Nat) (f : RFrame) (r : RRoute) (e : Relay), Relays s (.inband p) f r ∧ f.type = 1 ∧ r.hopIndex = r.hops ∧ r.hops ≤ 16 ∧
      s.dict.relay.find? (fun e => e.key == relayKey f) = some e ∧ reachable s e.src = true) ∧
    (∃ (s : State) (tag keyId fresh : Nat), Live s) ∧
    (∃ (s : State), Live s) ∧
    (∃ (s : State) (v : Nat), Live s ∧ v ≠ 0x6C6F6164) ∧
    (∃ (s : State) (e eid : Nat), Live s ∧ endpointOk s e = true ∧ 1 ≤ eid ∧ eid < 255) ∧
    (∃ (s : State) (e : Nat), Live s ∧ endpointOk s e = true) ∧
    (∃ (s : State) (e : Nat), Live s ∧ endpointOk s e = true) ∧
    (∃ (s : State) (e : Nat), Live s ∧ endpointOk s e = true) ∧
    (∃ (s : State) (e : Nat), Live s ∧ endpointOk s e = true) ∧
    (∃ (s : State) (e : Nat), Live s ∧ endpointOk s e = true) ∧
    (∃ (s : State), Live s) ∧
    (∃ (s : State) (ipv6 : Bool) (a : Nat), Live s ∧ s.power.mgmtUp = true ∧ a ∈ mgmtAddrs s ipv6) :=
  ⟨⟨{ w0 with dict := { w0.dict with stores := [({ index := 0x8012, sub := 0, value := 100, src := .sideband, frame := { tag := 7, index := 0x8012 } } : Store)] } }, ({ index := 0x8012, sub := 0, value := 100, src := .sideband, frame := { tag := 7, index := 0x8012 } } : Store), by
      refine ⟨by unfold Live; decide +kernel, ?_, ?_, ?_, ?_, ?_, ?_, ?_⟩ <;> decide +kernel⟩,
    ⟨{ w0 with dict := { w0.dict with writes := [{ src := .sideband, tag := 7, index := 5, sub := 0, data := [1] }, { src := .sideband, tag := 8, index := 5, sub := 0, data := [1] }] } }, .sideband, 7, 5, 0,
      by unfold Live; decide +kernel⟩,
    ⟨{ wUp with fports := [(0, { enable := true, st := .up }), (3, { enable := true, st := .up }), (31, { enable := true, st := .up })], dict := { w0.dict with relay := [{ tag := 7, keyId := 0, fresh := 0, src := .inband 3 }] } }, 0, ({ tag := 7, route := some ({ hops := 3, hopIndex := 2, ports := [3, 4, 31] } : RRoute) } : RFrame), ({ hops := 3, hopIndex := 2, ports := [3, 4, 31] } : RRoute), by
      refine ⟨by unfold Relays Live; decide +kernel, ?_, ?_, ?_⟩ <;> decide +kernel⟩,
    ⟨{ wUp with fports := [(0, { enable := true, st := .up }), (3, { enable := true, st := .up }), (31, { enable := true, st := .up })], dict := { w0.dict with relay := [{ tag := 7, keyId := 0, fresh := 0, src := .inband 3 }] } }, 0, ({ tag := 7, type := 1, route := some ({ hops := 2, hopIndex := 2, ports := [3, 4, 31] } : RRoute) } : RFrame), ({ hops := 2, hopIndex := 2, ports := [3, 4, 31] } : RRoute), ({ tag := 7, keyId := 0, fresh := 0, src := .inband 3 } : Relay), by
      refine ⟨by unfold Relays Live; decide +kernel, ?_, ?_, ?_, ?_, ?_⟩ <;> decide +kernel⟩,
    ⟨{ wUp with fports := [(0, { enable := true, st := .up }), (3, { enable := true, st := .up }), (31, { enable := true, st := .up })], dict := { w0.dict with relay := [{ tag := 7, keyId := 0, fresh := 0, src := .inband 3 }] } }, 7, 0, 0,
      by unfold Live; decide +kernel⟩,
    ⟨w0,
      by unfold Live; decide +kernel⟩,
    ⟨w0, 1,
      by unfold Live; decide +kernel,
      by decide +kernel⟩,
    ⟨w0, 8, 254, by
      refine ⟨by unfold Live; decide +kernel, ?_, ?_, ?_⟩ <;> decide +kernel⟩,
    ⟨w0, 8,
      by unfold Live; decide +kernel,
      by decide +kernel⟩,
    ⟨w0, 8,
      by unfold Live; decide +kernel,
      by decide +kernel⟩,
    ⟨w0, 0,
      by unfold Live; decide +kernel,
      by decide +kernel⟩,
    ⟨w0, 0,
      by unfold Live; decide +kernel,
      by decide +kernel⟩,
    ⟨w0, 0,
      by unfold Live; decide +kernel,
      by decide +kernel⟩,
    ⟨{ w0 with objNow := [(0x102001, 3)] },
      by unfold Live; decide +kernel⟩,
    ⟨wObjs [(0x1020, 1, 0), (0x1020, 2, 0x0A000001)] w0, false, 0x0100000A, by
      refine ⟨by unfold Live; decide +kernel, ?_, ?_⟩ <;> decide +kernel⟩⟩

/-- States and operands that meet the hypotheses of each part of UnlocksEventsAndSnapshots. -/
theorem test_UnlocksEventsAndSnapshots :
    (∃ (s : State) (fn b : Nat) (key : Word), Live s ∧ isInn s fn = true ∧ hasUnlock b = true ∧ key.toNat = obj s 0xA010 0 0) ∧
    (∃ (s : State) (fn b : Nat) (key : Word), Live s ∧ isInn s fn = true ∧ hasUnlock b = true ∧ key.toNat ≠ obj s 0xA010 0 0) ∧
    (∃ (s : State) (b : Nat) (at_ : Word), Live s ∧ mfind s.arms b = some at_ ∧ reached (at_ + 16000000#64) (elapsed s) = true) ∧
    (∃ (s : State) (fn off b : Nat) (v : Word), Live s ∧ isInn s fn = true ∧ eventBlock off = some b ∧ wfld v 63 56 = wfld (evReg s b) 63 56) ∧
    (∃ (s : State) (fn off b : Nat) (v : Word), Live s ∧ isInn s fn = true ∧ eventBlock off = some b ∧ wfld v 63 56 ≠ wfld (evReg s b) 63 56) ∧
    (∃ (s : State) (fn b : Nat), Live s ∧ isInn s fn = true ∧ b < 56 ∧ b ≠ 14 ∧ Keyed 0 s.cnt) ∧
    (∃ (s : State) (fn : Nat), Live s ∧ isInn s fn = true) :=
  ⟨⟨wObjs [(0xA010, 0, 77)] w0, 0, 14, 77, by
      refine ⟨by unfold Live; decide +kernel, ?_, ?_, ?_⟩ <;> decide +kernel⟩,
    ⟨{ wObjs [(0xA010, 0, 77)] w0 with arms := [(14, 3)] }, 0, 14, 78, by
      refine ⟨by unfold Live; decide +kernel, ?_, ?_, ?_⟩ <;> decide +kernel⟩,
    ⟨{ w0 with arms := [(5, 1), (8, 2)], tide := { w0.tide with count := 16000001 } }, 5, 1, by
      refine ⟨by unfold Live; decide +kernel, ?_, ?_⟩ <;> decide +kernel⟩,
    ⟨{ w0 with events := [(8, 0x0500000000000003), (16, 0xFF00000000000001)] }, 0, blkBase 16 + (match eventOff 16 with | some o => o | none => 0), 16, 0xFF00000000000000, by
      refine ⟨by unfold Live; decide +kernel, ?_, ?_, ?_⟩ <;> decide +kernel⟩,
    ⟨{ w0 with events := [(8, 0x0500000000000003), (16, 0xFF00000000000001)] }, 0, blkBase 16 + (match eventOff 16 with | some o => o | none => 0), 16, 0xFE00000000000000, by
      refine ⟨by unfold Live; decide +kernel, ?_, ?_, ?_⟩ <;> decide +kernel⟩,
    ⟨{ w0 with cnt := [(0x210100, 9), (0x220100, 4), (0x300200, 7)], snap := [(0x210100, 1), (0x220100, 2), (0x230018, 5)] }, 0, 1, by
      refine ⟨by unfold Live; decide +kernel, ?_, ?_, ?_, keyed_of (by decide +kernel)⟩ <;> decide +kernel⟩,
    ⟨{ w0 with cnt := [(0x210100, 9), (0x220100, 4), (0x300200, 7)], snap := [(0x210100, 1), (0x220100, 2), (0x230018, 5)] }, 0,
      by unfold Live; decide +kernel,
      by decide +kernel⟩⟩

/-- States and operands that meet the hypotheses of each part of RegisterWritesLand. -/
theorem test_RegisterWritesLand :
    (∃ (s : State) (fn off : Nat) (accesses : List (Part × Word)), Live s ∧ off % 8 ≠ 0) ∧
    (∃ (s : State) (fn off : Nat) (accesses : List (Part × Word)), Live s ∧ (∀ x ∈ accesses, wholePart x.1 = none)) ∧
    (∃ (s : State) (fn n : Nat) (v w : Word), Live s ∧ isInn s fn = true ∧ n < 65535 ∧ v.toNat % 2 ^ 60 ≠ 0 ∧ w.toNat % 2 ^ 60 ≠ 0) ∧
    (∃ (s : State) (fn : Nat) (v : Word), Live s ∧ isInn s fn = true) ∧
    (∃ (s : State) (fn n : Nat) (v : Word), Live s ∧ isInn s fn = true ∧ n < 65536 ∧ v.toNat % 2 ^ 60 ≠ 0) ∧
    (∃ (s : State) (fn : Nat) (v : Word), Live s ∧ isInn s fn = true ∧ (wfld v 15 0 < 500 ∨ 2000 < wfld v 15 0)) ∧
    (∃ (s : State) (fn : Nat) (v : Word), Live s ∧ isInn s fn = true ∧ 500 ≤ wfld v 15 0 ∧ wfld v 15 0 ≤ 2000) ∧
    (∃ (s : State) (fn p c : Nat) (v : Word), Live s ∧ isInn s fn = true ∧ p < 32 ∧ c < 8 ∧ wfld v 25 0 = 0) ∧
    (∃ (s : State) (fn p c : Nat) (v : Word), Live s ∧ isInn s fn = true ∧ p < 32 ∧ c < 8 ∧ 1 ≤ wfld v 25 0 ∧ wfld v 25 0 ≤ 800000 ∧
      64 ≤ wfld v 55 32) ∧
    (∃ (s : State) (fn : Nat) (v : Word), Live s ∧ (func s fn).enabled = true ∧ (func s fn).fd.enable = false ∧ deskIdle (func s fn).fd = true) ∧
    (∃ (s : State) (fn : Nat) (v : Word), Live s ∧ (func s fn).fd.enable = true) :=
  ⟨⟨w0, 0, 0x210104, [(.full, 9), (.low, 8)],
      by unfold Live; decide +kernel,
      by decide +kernel⟩,
    ⟨w0, 0, 0x200018, [(.bytes 3, 9), (.bytes 0x7F, 8)],
      by unfold Live; decide +kernel,
      by decide +kernel⟩,
    ⟨{ w0 with router := { shadow := [(4, 4)] } }, 0, 65534, 0xF000000000000009, 7, by
      refine ⟨by unfold Live; decide +kernel, ?_, ?_, ?_, ?_⟩ <;> decide +kernel⟩,
    ⟨w0, 0, 0xFFFFFFFFFFFFFFFF,
      by unfold Live; decide +kernel,
      by decide +kernel⟩,
    ⟨{ w0 with router := { shadow := [(4, 4)] } }, 0, 65535, 0xF000000000000009, by
      refine ⟨by unfold Live; decide +kernel, ?_, ?_, ?_⟩ <;> decide +kernel⟩,
    ⟨w0, 0, 499, by
      refine ⟨by unfold Live; decide +kernel, ?_, ?_⟩ <;> decide +kernel⟩,
    ⟨w0, 0, 500, by
      refine ⟨by unfold Live; decide +kernel, ?_, ?_, ?_⟩ <;> decide +kernel⟩,
    ⟨w0, 0, 31, 7, 0xC0FFFFFF00000000, by
      refine ⟨by unfold Live; decide +kernel, ?_, ?_, ?_, ?_⟩ <;> decide +kernel⟩,
    ⟨w0, 0, 31, 7, 0xFFFF0040FC000001, by
      refine ⟨by unfold Live; decide +kernel, ?_, ?_, ?_, ?_, ?_, ?_⟩ <;> decide +kernel⟩,
    ⟨{ w0 with funcs := [(0, { enabled := true, fd := { resp := { base := 5 } } })] }, 0, 0x1234567890, by
      refine ⟨by unfold Live; decide +kernel, ?_, ?_, ?_⟩ <;> decide +kernel⟩,
    ⟨w0, 0, 0x1234567890,
      by unfold Live; decide +kernel,
      by decide +kernel⟩⟩

/-- States and operands that meet the hypotheses of each part of DomainsWakeAndSleep. -/
theorem test_DomainsWakeAndSleep :
    (∃ (s : State) (fn d : Nat), Live s ∧ isInn s fn = true ∧ core2Runs s = true ∧ armed s 11 = true ∧ d < 148 ∧ (dom s d).st = 0 ∧
      (dom s d).wanting = false) ∧
    (∃ (s : State) (fn d : Nat), Live s ∧ isInn s fn = true ∧ core2Runs s = true ∧ armed s 11 = true ∧ d < 148 ∧ (dom s d).st = 2 ∧
      domPinned s d = false) ∧
    (∃ (s : State) (fn d : Nat), Live s ∧ isInn s fn = true ∧ core2Runs s = true ∧ armed s 11 = true ∧ d < 148 ∧ (dom s d).st = 2 ∧
      domPinned s d = true) ∧
    (∃ (s : State) (fn d v : Nat), Live s ∧ isInn s fn = true ∧ armed s 11 = false ∧ d < 151 ∧ v ≠ (dom s d).req) ∧
    (∃ (s : State) (average d : Nat), Live s ∧ core2Runs s = true ∧ s.power.queue.find? (fun d => admits s average d) = some d) ∧
    (∃ (s : State) (d : Nat), Live s ∧ core2Runs s = true ∧ (dom s d).st = 3 ∧ (dom s d).next = none) ∧
    (∃ (s : State) (d : Nat), Live s ∧ core2Runs s = true ∧ (dom s d).st = 3 ∧ (dom s d).next = none) ∧
    (∃ (s : State) (d : Nat), Live s ∧ core2Runs s = true ∧ (dom s d).st = 4 ∧ (dom s d).next = none ∧ (∀ r ∈ s.lists, r.tile ≠ some d)) :=
  ⟨⟨{ w0 with doms := mset (w0.doms) 5 { st := 0, req := 0 }, arms := [(11, 0)] }, 0, 5, by
      refine ⟨by unfold Live; decide +kernel, ?_, ?_, ?_, ?_, ?_, ?_⟩ <;> decide +kernel⟩,
    ⟨{ w0 with doms := mset (w0.doms) 5 { st := 2 }, arms := [(11, 0)] }, 0, 5, by
      refine ⟨by unfold Live; decide +kernel, ?_, ?_, ?_, ?_, ?_, ?_⟩ <;> decide +kernel⟩,
    ⟨{ w0 with doms := mset (w0.doms) 5 { st := 2 }, arms := [(11, 0)] }, 0, 144, by
      refine ⟨by unfold Live; decide +kernel, ?_, ?_, ?_, ?_, ?_, ?_⟩ <;> decide +kernel⟩,
    ⟨w0, 0, 150, 0, by
      refine ⟨by unfold Live; decide +kernel, ?_, ?_, ?_, ?_⟩ <;> decide +kernel⟩,
    ⟨{ w0 with doms := mset (w0.doms) 5 { st := 0, wanting := true }, arms := [(11, 0)], power := { w0.power with queue := [5, 6] } }, 100, 5, by
      refine ⟨by unfold Live; decide +kernel, ?_, ?_⟩ <;> decide +kernel⟩,
    ⟨{ w0 with doms := mset (w0.doms) 5 { st := 3, cold := true }, arms := [(11, 0)] }, 5, by
      refine ⟨by unfold Live; decide +kernel, ?_, ?_, ?_⟩ <;> decide +kernel⟩,
    ⟨{ w0 with doms := mset (w0.doms) 5 { st := 3 }, arms := [(11, 0)] }, 5, by
      refine ⟨by unfold Live; decide +kernel, ?_, ?_, ?_⟩ <;> decide +kernel⟩,
    ⟨{ w0 with doms := mset (w0.doms) 5 { st := 4, req := 0 }, arms := [(11, 0)] }, 5, by
      refine ⟨by unfold Live; decide +kernel, ?_, ?_, ?_, ?_⟩ <;> decide +kernel⟩⟩

/-- States and operands that meet the hypotheses of each part of PowerIsLimitedAndTheModuleTrips. -/
theorem test_PowerIsLimitedAndTheModuleTrips :
    (∃ (s : State) (average : Nat), Live s ∧ reached (s.power.stepAt + 1600000) (elapsed s) = true ∧ (powerLimit s < average ∨ s.power.hot = true)) ∧
    (∃ (s : State) (average : Nat), Live s ∧ reached (s.power.stepAt + 1600000) (elapsed s) = true ∧ average * 100 < powerLimit s * 95 ∧
      s.power.hot = false ∧ tempsCool s = true) ∧
    (∃ (s : State) (a b c d e f ci co : Int) (lp : List Int) (hotC : Bool) (vo am wa : Nat), Live s ∧ s.power.resetDue = none ∧ a < 11500 ∧
      b < 11500 ∧ c < 10500 ∧ d < 10500 ∧ e < 10500 ∧ f < 10500) ∧
    (∃ (s : State) (a b ci co : Int) (hb lp : List Int) (hotC : Bool) (vo am wa : Nat), Live s ∧ s.power.tripped = false ∧ 11500 ≤ a) :=
  ⟨⟨{ w0 with tide := { w0.tide with count := 1600000 }, power := { w0.power with duty := 16 } }, 2001, by
      refine ⟨by unfold Live; decide +kernel, ?_, ?_⟩ <;> decide +kernel⟩,
    ⟨{ w0 with tide := { w0.tide with count := 1600000 }, power := { w0.power with duty := 16, limiting := true } }, 1899, by
      refine ⟨by unfold Live; decide +kernel, ?_, ?_, ?_, ?_⟩ <;> decide +kernel⟩,
    ⟨w0, 11499, -3, 10499, 0, 0, 0, 5, 6, [], false, 1, 2, 3, by
      refine ⟨by unfold Live; decide +kernel, ?_, ?_, ?_, ?_, ?_, ?_, ?_⟩ <;> decide +kernel⟩,
    ⟨wUp, 11500, -3, 5, 6, [1, 2, 3, 4], [], false, 1, 2, 3, by
      refine ⟨by unfold Live; decide +kernel, ?_, ?_⟩ <;> decide +kernel⟩⟩

/-- States and operands that meet the hypotheses of each part of ResetsStartTheModuleAgain. -/
theorem test_ResetsStartTheModuleAgain :
    (∃ (s : State), s.power.inputOk = false ∧ s.power.pin = false) ∧
    (∃ (s : State), s.power.inputOk = true) ∧
    (∃ (s : State), Live s ∧ resetReady s = true) ∧
    (∃ (s : State), s.power.inputOk = true ∧ s.power.pin = true ∧ resetReady s = true) ∧
    (∃ (s : State), Live s ∧ s.dict.stores = [] ∧ resetReady s = true) ∧
    (∃ (s : State) (v : Nat), Live s ∧ v ≠ 0x72737430) ∧
    (∃ (s : State), Live s ∧ tideResetBad s = false) ∧
    (∃ (s : State), Live s ∧ tideResetBad s = true) ∧
    (∃ (s : State) (late : Bool), Live s ∧ s.power.started = false ∧ s.power.tripped = false ∧
      (∀ x ∈ s.doms, startupWaits x.1 = true → x.2.boot = false)) :=
  ⟨⟨{ wMem [(3, 4)] { wUp with errs := { w0.errs with history := [{ kind := 3 }] }, hmem := [(0, [(3, 4)])], router := { st := .run, valid := true }, rooms := mset w0.rooms 9 { st := .opened, fn := 1 }, qps := [(5, {})], tide := { w0.tide with count := 77 } } with power := { inputOk := false } }, by decide +kernel⟩,
    ⟨wMem [(3, 4)] { wUp with errs := { w0.errs with history := [{ kind := 3 }] }, hmem := [(0, [(3, 4)])], router := { st := .run, valid := true }, rooms := mset w0.rooms 9 { st := .opened, fn := 1 }, qps := [(5, {})], tide := { w0.tide with count := 77 } }, by decide +kernel⟩,
    ⟨wMem [(3, 4)] { wUp with errs := { w0.errs with history := [{ kind := 3 }] }, hmem := [(0, [(3, 4)])], router := { st := .run, valid := true }, rooms := mset w0.rooms 9 { st := .opened, fn := 1 }, qps := [(5, {})], tide := { w0.tide with count := 77 } },
      by unfold Live; decide +kernel,
      by decide +kernel⟩,
    ⟨{ wMem [(3, 4)] { wUp with errs := { w0.errs with history := [{ kind := 3 }] }, hmem := [(0, [(3, 4)])], router := { st := .run, valid := true }, rooms := mset w0.rooms 9 { st := .opened, fn := 1 }, qps := [(5, {})], tide := { w0.tide with count := 77 } } with power := { pin := true } }, by decide +kernel⟩,
    ⟨wMem [(3, 4)] { wUp with errs := { w0.errs with history := [{ kind := 3 }] }, hmem := [(0, [(3, 4)])], router := { st := .run, valid := true }, rooms := mset w0.rooms 9 { st := .opened, fn := 1 }, qps := [(5, {})], tide := { w0.tide with count := 77 } }, by
      refine ⟨by unfold Live; decide +kernel, ?_, ?_⟩ <;> decide +kernel⟩,
    ⟨wMem [(3, 4)] { wUp with errs := { w0.errs with history := [{ kind := 3 }] }, hmem := [(0, [(3, 4)])], router := { st := .run, valid := true }, rooms := mset w0.rooms 9 { st := .opened, fn := 1 }, qps := [(5, {})], tide := { w0.tide with count := 77 } }, 3,
      by unfold Live; decide +kernel,
      by decide +kernel⟩,
    ⟨{ w0 with tide := { w0.tide with count := 77 } },
      by unfold Live; decide +kernel,
      by decide +kernel⟩,
    ⟨{ w0 with rooms := [(0, { st := .opened, keys := [(1, { b0 := { loaded := true } })] })] },
      by unfold Live; decide +kernel,
      by decide +kernel⟩,
    ⟨{ w0 with tide := { w0.tide with count := 1600000 }, power := { w0.power with started := false } }, false, by
      refine ⟨by unfold Live; decide +kernel, ?_, ?_, ?_⟩ <;> decide +kernel⟩⟩

/-- States and operands that meet the hypotheses of each part of LocalReductionsAndConversions. -/
theorem test_LocalReductionsAndConversions :
    (∃ (s : State) (h : CmdHdr) (b : BulkArgs) (rm z : Nat), Plain h ∧ Begins s h 0x23 1 (localBad h b) rm ∧ (listOf s h rm).hunits = [] ∧ Sound s ∧
      (listOf s h rm).room = rm ∧ Apart s h rm { next := 0, uses := [(b.dst, fmtBytes (fwsOf b.ctrl b.seed).outFmt b.count)] } ∧ s.memWf = true ∧
      b.count ≤ 32 ∧ b.norm = 0 ∧ isMx (fwsOf b.ctrl b.seed).inFmt = false ∧
      localMeets s (cmdCtx s h (listOf s h rm)) (fwsOf b.ctrl b.seed) b = false ∧
      (∀ a ∈ b.srcs, ∃ y, Charted s (cmdCtx s h (listOf s h rm)) a (fmtBytes (fwsOf b.ctrl b.seed).inFmt b.count) y ∧
      runsMeet (z, b.count * fmtBits (fwsOf b.ctrl b.seed).outFmt / 8) (y, fmtBytes (fwsOf b.ctrl b.seed).inFmt b.count) = false) ∧
      Charted s (cmdCtx s h (listOf s h rm)) b.dst (b.count * fmtBits (fwsOf b.ctrl b.seed).outFmt / 8) z) ∧
    (∃ (s : State) (h : CmdHdr) (c : CdcArgs) (rm op y z : Nat) (cmd : Instr), (cmd, op) ∈ [(Instr.cdcConvert h c, 0x20), (.cdcDequantise h c, 0x22)] ∧
      Plain h ∧ Begins s h op 3 (cdcBad op h c) rm ∧ Granted s h op rm 2 ∧ Sound s ∧ (listOf s h rm).room = rm ∧ Apart s h rm (cdcProg op c) ∧
      s.memWf = true ∧ c.count ≤ 32 ∧ isMx c.inFmt = false ∧ isMx c.outFmt = false ∧ c.acc = false ∧ c.chunkLantern = 0xFFFF ∧
      c.inputLantern = 0xFFFF ∧ Charted s (cmdCtx s h (listOf s h rm)) c.src (fmtBytes c.inFmt c.count) y ∧
      Charted s (cmdCtx s h (listOf s h rm)) c.dst (fmtBytes c.outFmt c.count) z ∧ cdcMeets s (cmdCtx s h (listOf s h rm)) op c = false ∧ ((z = y ∧
      fmtBits c.outFmt = fmtBits c.inFmt) ∨ runsMeet (z, fmtBytes c.outFmt c.count) (y, fmtBytes c.inFmt c.count) = false)) ∧
    (∃ (s : State) (h : CmdHdr) (c : CdcArgs) (rm y z v : Nat), Plain h ∧ Begins s h 0x21 3 (cdcBad 0x21 h c) rm ∧ Granted s h 0x21 rm 2 ∧ Sound s ∧
      (listOf s h rm).room = rm ∧ Apart s h rm (cdcProg 0x21 c) ∧ s.memWf = true ∧ c.count ≤ 32 ∧ isMx c.outFmt = false ∧ c.chunkLantern = 0xFFFF ∧
      c.inputLantern = 0xFFFF ∧ Charted s (cmdCtx s h (listOf s h rm)) c.src (fmtBytes c.inFmt c.count) y ∧
      Charted s (cmdCtx s h (listOf s h rm)) c.dst (fmtBytes c.outFmt c.count) z ∧
      Charted s (cmdCtx s h (listOf s h rm)) c.res (resSz c * c.count) v ∧ (z + fmtBytes c.outFmt c.count ≤ v ∨ v + resSz c * c.count ≤ z) ∧
      cdcMeets s (cmdCtx s h (listOf s h rm)) 0x21 c = false ∧ ((z = y ∧
      fmtBits c.outFmt = fmtBits c.inFmt) ∨ runsMeet (z, fmtBytes c.outFmt c.count) (y, fmtBytes c.inFmt c.count) = false) ∧
      runsMeet (v, resSz c * c.count) (y, fmtBytes c.inFmt c.count) = false) :=
  ⟨⟨wMem ((leCells 32768 4 [0x3F800000, 0xBF000000, 0x40490FDB]) ++ (leCells 36864 4 [0x40000000, 0x3F000000, 0xC0490FDB])) (wLeaf { wEng 1 with rooms := mmod w0.rooms 0 {} (fun r => { r with resv0 := 64 }) }), ({ wh with units := 5 } : CmdHdr), ({ count := 3, ctrl := 4, seed := 0, dst := (2 ^ 63 + 131072), srcs := [(2 ^ 63 + 32768), (2 ^ 63 + 36864)] } : BulkArgs), 0, 0x20000, by
      refine ⟨by unfold Plain; decide +kernel, by unfold Begins Live; decide +kernel, ?_, by unfold Sound; decide +kernel, ?_, apart_nil rfl _ _ _, ?_, ?_, ?_, ?_, ?_, by
        intro a ha
        simp only [List.mem_cons, List.not_mem_nil, or_false] at ha
        rcases ha with rfl | rfl
        · exact ⟨0x8000, (by apply charted_of ((2 ^ 63 + 0x8000) % 2 ^ 48) <;> first | rfl | decide +kernel), by decide +kernel⟩
        · exact ⟨0x9000, (by apply charted_of ((2 ^ 63 + 0x9000) % 2 ^ 48) <;> first | rfl | decide +kernel), by decide +kernel⟩, (by apply charted_of (((({ count := 3, ctrl := 4, seed := 0, dst := (2 ^ 63 + 131072), srcs := [(2 ^ 63 + 32768), (2 ^ 63 + 36864)] } : BulkArgs)).dst) % 2 ^ 48) <;> first | rfl | decide +kernel)⟩ <;> decide +kernel⟩,
    ⟨wMem ((leCells 32768 4 [0x3F800000, 0xBF000000, 0x40490FDB]) ++ (leCells 36864 4 [0x40000000, 0x3F000000, 0xC0490FDB])) (wLeaf { wEng 3 with rooms := mmod w0.rooms 0 {} (fun r => { r with resv0 := 64 }) }), ({ wh with units := 7 } : CmdHdr), ({ count := 3, inFmt := 0, outFmt := 1, src := (2 ^ 63 + 32768), dst := (2 ^ 63 + 131072) } : CdcArgs), 0, 0x20, 0x8000, 0x20000, Instr.cdcConvert ({ wh with units := 7 } : CmdHdr) ({ count := 3, inFmt := 0, outFmt := 1, src := (2 ^ 63 + 32768), dst := (2 ^ 63 + 131072) } : CdcArgs), by
      refine ⟨?_, by unfold Plain; decide +kernel, by unfold Begins Live; decide +kernel, ⟨by decide +kernel, rfl⟩, by unfold Sound; decide +kernel, ?_, apart_nil rfl _ _ _, ?_, ?_, ?_, ?_, ?_, ?_, ?_, (by apply charted_of (((({ count := 3, inFmt := 0, outFmt := 1, src := (2 ^ 63 + 32768), dst := (2 ^ 63 + 131072) } : CdcArgs)).src) % 2 ^ 48) <;> first | rfl | decide +kernel), (by apply charted_of (((({ count := 3, inFmt := 0, outFmt := 1, src := (2 ^ 63 + 32768), dst := (2 ^ 63 + 131072) } : CdcArgs)).dst) % 2 ^ 48) <;> first | rfl | decide +kernel), ?_, ?_⟩ <;> decide +kernel⟩,
    ⟨wMem ((leCells 32768 4 [0x3F800000, 0xBF000000, 0x40490FDB]) ++ (leCells 36864 4 [0x40000000, 0x3F000000, 0xC0490FDB]) ++ (leCells 40960 4 [0x3CA80000, 0xBA400000, 0x33000000])) (wLeaf { wEng 3 with rooms := mmod w0.rooms 0 {} (fun r => { r with resv0 := 64 }) }), ({ wh with units := 7 } : CmdHdr), ({ count := 3, inFmt := 0, outFmt := 1, src := (2 ^ 63 + 32768), dst := (2 ^ 63 + 131072), res := (2 ^ 63 + 40960) } : CdcArgs), 0, 0x8000, 0x20000, 0xA000, by
      refine ⟨by unfold Plain; decide +kernel, by unfold Begins Live; decide +kernel, ⟨by decide +kernel, rfl⟩, by unfold Sound; decide +kernel, ?_, apart_nil rfl _ _ _, ?_, ?_, ?_, ?_, ?_, (by apply charted_of (((({ count := 3, inFmt := 0, outFmt := 1, src := (2 ^ 63 + 32768), dst := (2 ^ 63 + 131072), res := (2 ^ 63 + 40960) } : CdcArgs)).src) % 2 ^ 48) <;> first | rfl | decide +kernel), (by apply charted_of (((({ count := 3, inFmt := 0, outFmt := 1, src := (2 ^ 63 + 32768), dst := (2 ^ 63 + 131072), res := (2 ^ 63 + 40960) } : CdcArgs)).dst) % 2 ^ 48) <;> first | rfl | decide +kernel), (by apply charted_of (((({ count := 3, inFmt := 0, outFmt := 1, src := (2 ^ 63 + 32768), dst := (2 ^ 63 + 131072), res := (2 ^ 63 + 40960) } : CdcArgs)).res) % 2 ^ 48) <;> first | rfl | decide +kernel), ?_, ?_, ?_, ?_⟩ <;> decide +kernel⟩⟩

/-- States and operands that meet the hypotheses of each part of UpdatesOfOneElement. -/
theorem test_UpdatesOfOneElement :
    (∃ (s : State) (h : CmdHdr) (u : UpdArgs) (rm op a y : Nat) (cmd : Instr), (cmd, op) ∈ [(Instr.updSgd h u, 0x20), (.updAdamw h u, 0x21), (.updLion h u, 0x22), (.updAccumulate h u, 0x24)] ∧
      Plain h ∧ Begins s h op 2 (updBad op h u) rm ∧ Granted s h op rm 4 ∧ Sound s ∧ (listOf s h rm).room = rm ∧ Apart s h rm (updProg op u) ∧
      s.memWf = true ∧ u.count = 1 ∧ u.step = 0 ∧ u.norm = 0 ∧ u.outFmt = 15 ∧ u.chunkLantern = 0xFFFF ∧ u.inputLantern = 0xFFFF ∧
      Charted s (cmdCtx s h (listOf s h rm)) u.base 16384 a ∧ (∀ k < 4096, cellGet s.mem.cells (a + k) = 0) ∧
      Charted s (cmdCtx s h (listOf s h rm)) u.grad (if u.gradFmt = 0 then 4 else 2) y ∧ updMeets s (cmdCtx s h (listOf s h rm)) op u = false ∧
      runsMeet (a, 16384) (y, if u.gradFmt = 0 then 4 else 2) = false ∧
      (soleElem s op u a y (f32 (fp32.ieee (updK u FV.zero))) FV.zero).raw.all FV.isFin = true) ∧
    (∃ (s : State) (h : CmdHdr) (u : UpdArgs) (rm a g p q : Nat), Plain h ∧ Begins s h 0x23 2 (updBad 0x23 h u) rm ∧ Granted s h 0x23 rm 4 ∧ Sound s ∧
      (listOf s h rm).room = rm ∧ Apart s h rm (updProg 0x23 u) ∧ s.memWf = true ∧ u.count = 1 ∧ u.step = 0 ∧ u.phase = 1 ∧ u.segCount = 1 ∧
      u.outFmt = 15 ∧ u.chunkLantern = 0xFFFF ∧ Charted s (cmdCtx s h (listOf s h rm)) u.base 16384 a ∧
      (∀ k < 4096, cellGet s.mem.cells (a + k) = 0) ∧ Charted s (cmdCtx s h (listOf s h rm)) u.segments 32 g ∧
      updMeets s (cmdCtx s h (listOf s h rm)) 0x23 u = false ∧ runsMeet (a, 16384) (g, 32) = false ∧
      devRead s g 32 = leBytes 8 (2 ^ 32) ++ leBytes 8 p ++ leBytes 8 q ++ leBytes 8 0 ∧ p < 2 ^ 64 ∧ q < 2 ^ 64 ∧ (fp64.value p).isFin = true ∧
      (fp64.value q).isFin = true ∧ (soleElem s 0x23 u a 0 (f32 (fp32.ieee FV.zero)) (phiOf u p q)).raw.all FV.isFin = true) :=
  ⟨⟨wMem ((leCells 32768 4 [0x3E800000]) ++ (leCells 69632 4 [0x3FC00000])) (wLeaf { wEng 2 with rooms := mmod w0.rooms 0 {} (fun r => { r with resv0 := 64 }) }), ({ wh with units := 9 } : CmdHdr), ({ count := 1, grad := (2 ^ 63 + 32768), gradFmt := 0, base := (2 ^ 63 + 65536), lr := 0x3A800000 } : UpdArgs), 0, 0x20, 0x10000, 0x8000, Instr.updSgd ({ wh with units := 9 } : CmdHdr) ({ count := 1, grad := (2 ^ 63 + 32768), gradFmt := 0, base := (2 ^ 63 + 65536), lr := 0x3A800000 } : UpdArgs), by
      refine ⟨?_, by unfold Plain; decide +kernel, by unfold Begins Live; decide +kernel, ⟨by decide +kernel, rfl⟩, by unfold Sound; decide +kernel, ?_, apart_nil rfl _ _ _, ?_, ?_, ?_, ?_, ?_, ?_, ?_, (by apply charted_of (((({ count := 1, grad := (2 ^ 63 + 32768), gradFmt := 0, base := (2 ^ 63 + 65536), lr := 0x3A800000 } : UpdArgs)).base) % 2 ^ 48) <;> first | rfl | decide +kernel), cellGet_out (by decide +kernel), (by apply charted_of (((({ count := 1, grad := (2 ^ 63 + 32768), gradFmt := 0, base := (2 ^ 63 + 65536), lr := 0x3A800000 } : UpdArgs)).grad) % 2 ^ 48) <;> first | rfl | decide +kernel), ?_, ?_, ?_⟩ <;> decide +kernel⟩,
    ⟨wMem ((leCells 0x9000 8 [0x100000000, 0x3FF8000000000000, 0x4000000000000000, 0]) ++ (leCells 69632 4 [0x3FC00000]) ++ (leCells 73728 4 [0x3E000000]) ++ (leCells 77824 4 [0x3D000000])) (wLeaf { wEng 2 with rooms := mmod w0.rooms 0 {} (fun r => { r with resv0 := 64 }) }), ({ wh with units := 9 } : CmdHdr), ({ count := 1, inputLantern := 0, gscale := 0, base := (2 ^ 63 + 65536), segCount := 1, segments := (2 ^ 63 + 36864), phase := 1, lr := 0x3A800000, hp1 := 0x3F600000, hp2 := 0x3F7E0000, eps := 0x35800000 } : UpdArgs), 0, 0x10000, 0x9000, 0x3FF8000000000000, 0x4000000000000000, by
      refine ⟨by unfold Plain; decide +kernel, by unfold Begins Live; decide +kernel, ⟨by decide +kernel, rfl⟩, by unfold Sound; decide +kernel, ?_, apart_nil rfl _ _ _, ?_, ?_, ?_, ?_, ?_, ?_, ?_, (by apply charted_of (((({ count := 1, inputLantern := 0, gscale := 0, base := (2 ^ 63 + 65536), segCount := 1, segments := (2 ^ 63 + 36864), phase := 1, lr := 0x3A800000, hp1 := 0x3F600000, hp2 := 0x3F7E0000, eps := 0x35800000 } : UpdArgs)).base) % 2 ^ 48) <;> first | rfl | decide +kernel), cellGet_out (by decide +kernel), (by apply charted_of (((({ count := 1, inputLantern := 0, gscale := 0, base := (2 ^ 63 + 65536), segCount := 1, segments := (2 ^ 63 + 36864), phase := 1, lr := 0x3A800000, hp1 := 0x3F600000, hp2 := 0x3F7E0000, eps := 0x35800000 } : UpdArgs)).segments) % 2 ^ 48) <;> first | rfl | decide +kernel), ?_, ?_, ?_, ?_, ?_, ?_, ?_, ?_⟩ <;> decide +kernel⟩⟩

/-- States and operands that meet the hypotheses of each part of StepRunsTheFrontCommand. -/
theorem test_StepRunsTheFrontCommand :
    (∃ (s : State), s.pending = [] ∧ s.power.inputOk = true) ∧
    (∃ (s : State), s.pending = [] ∧ s.power.inputOk = false) :=
  ⟨⟨w0, by decide +kernel⟩,
    ⟨{ w0 with power := { inputOk := false } }, by decide +kernel⟩⟩

/-- States and operands that meet the hypotheses of each part of FatalAndUnpoweredDevicesStandStill. -/
theorem test_FatalAndUnpoweredDevicesStandStill :
    (∃ (c : Instr) (s : State), s.errs.fatal = true ∧ fatalServes c = false) ∧
    (∃ (c : Instr) (s : State), unpowered s = true ∧ darkServes c = false) :=
  ⟨⟨.copyFill wh 0 8 false 1, { w0 with errs := { fatal := true } }, by decide +kernel⟩,
    ⟨.clockFail, { w0 with power := { inputOk := false } }, by decide +kernel⟩⟩

/-- States and operands that meet the hypotheses of each part of LasersStaySafe. -/
theorem test_LasersStaySafe :
    (∃ (s t : State), LasersSafe s ∧ step s = .next t) :=
  ⟨{ wUp with pending := [.permitDrop 0] }, (match step { wUp with pending := [.permitDrop 0] } with | .next t => t | _ => w0),
      lasersSafe_of rfl (by decide +kernel),
      rfl⟩

/-- States and operands that meet the hypotheses of each part of DutyAndLifeCycleStayLegal. -/
theorem test_DutyAndLifeCycleStayLegal :
    (∃ (s t : State), Legal s ∧ step s = .next t) :=
  ⟨{ wUp with pending := [.permitDrop 0] }, (match step { wUp with pending := [.permitDrop 0] } with | .next t => t | _ => w0),
      ⟨by decide +kernel, by decide +kernel, by decide +kernel, fun n hn => nomatch hn⟩,
      rfl⟩

/-- States and operands that meet the hypotheses of each part of WritesStandOnlyWhenTaken. -/
theorem test_WritesStandOnlyWhenTaken :
    (∃ (s : State) (fn i : Nat) (fabric : Bool) (owner : Option Nat) (time : Word), Live s ∧ slotOwner s fn fabric = some owner ∧ i < 16) ∧
    (∃ (s : State) (fn rm k : Nat) (v : Word), Live s ∧ (func s fn).enabled = true ∧ roomOf s fn = some rm ∧ (room s rm).st ≠ .free ∧
      (room s rm).fn = fn ∧ k < 16) ∧
    (∃ (s : State) (p j rm k : Nat) (v : Word), Live s ∧ (func s (fnOf p 0)).enabled = true ∧ j < 64 ∧ roomOf s (fnOf p 0 + 1 + j) = some rm ∧
      mailRight s (fnOf p 0) rm true = true ∧ k < 16) ∧
    (∃ (s : State) (fn rm k : Nat) (v : Word), Live s ∧ isInn s fn = true ∧ rm < 8 ∧ mailRight s fn rm true = true ∧ k < 16) ∧
    (∃ (s : State), Live s) ∧
    (∃ (s : State), Live s ∧ s.dict.restore = true ∧ s.dict.stores = [] ∧ s.power.tripped = false) ∧
    (∃ (s : State) (v : Nat), Live s ∧ v ≠ 0x6C6F6164) :=
  ⟨⟨{ w0 with rooms := [(0, { st := .opened, fn := 0, keys := [(15, { b1 := { words := [(0, 5), (3, 6)], loaded := true } })] })] }, 0, 15, false, some 0, 9, by
      refine ⟨by unfold Live; decide +kernel, ?_, ?_⟩ <;> decide +kernel⟩,
    ⟨{ w0 with rooms := mset (mset w0.rooms 9 { st := .opened, fn := 1, outBox := { posted := false, len := 3, words := [(3, 3)] }, inBox := { posted := true, len := 5, words := [(2, 2)] } }) 0 { (room w0 0) with inBox := { posted := true, words := [(5, 5)] } }, funcs := w0.funcs ++ [(1, { enabled := true })] }, 1, 9, 15, 7, by
      refine ⟨by unfold Live; decide +kernel, ?_, ?_, ?_, ?_, ?_⟩ <;> decide +kernel⟩,
    ⟨{ w0 with rooms := mset (mset w0.rooms 9 { st := .opened, fn := 1, outBox := { posted := false, len := 3, words := [(3, 3)] }, inBox := { posted := false, len := 5, words := [(2, 2)] } }) 0 { (room w0 0) with inBox := { posted := true, words := [(5, 5)] } }, funcs := w0.funcs ++ [(1, { enabled := true })] }, 0, 0, 9, 15, 7, by
      refine ⟨by unfold Live; decide +kernel, ?_, ?_, ?_, ?_, ?_⟩ <;> decide +kernel⟩,
    ⟨{ w0 with rooms := mset (mset w0.rooms 9 { st := .opened, fn := 1, outBox := { posted := false, len := 3, words := [(3, 3)] }, inBox := { posted := false, len := 5, words := [(2, 2)] } }) 0 { (room w0 0) with inBox := { posted := false, words := [(5, 5)] } }, funcs := w0.funcs ++ [(1, { enabled := true })] }, 0, 0, 15, 7, by
      refine ⟨by unfold Live; decide +kernel, ?_, ?_, ?_, ?_⟩ <;> decide +kernel⟩,
    ⟨wObjs [(0x8012, 0, 7)] w0,
      by unfold Live; decide +kernel⟩,
    ⟨{ wObjs [(0x8012, 0, 7), (0xB000, 1, 4)] w0 with objNow := [(okey 0x102001 1, 4)], dict := { w0.dict with restore := true, flash := [(okey 0x8012 0, 8)] } }, by
      refine ⟨by unfold Live; decide +kernel, ?_, ?_, ?_⟩ <;> decide +kernel⟩,
    ⟨w0, 4,
      by unfold Live; decide +kernel,
      by decide +kernel⟩⟩

/-- States and operands that meet the hypotheses of each part of EventsFieldsAndGatesFollowTheirRules. -/
theorem test_EventsFieldsAndGatesFollowTheirRules :
    (∃ i j : Nat, i < 56 ∧ j < 56 ∧ j ≠ i) ∧
    (∃ (s : State) (fn b : Nat), isInn s fn = true ∧ s.trv = [] ∧ s.errs.fatal = false ∧ b < 56 ∧ b ≠ 14 ∧ b ≠ 15) ∧
    (∃ (s : State) (fn p : Nat), isInn s fn = true ∧ s.trv = [] ∧ s.errs.fatal = false ∧ p < 8) ∧
    (∃ (s : State) (fn p : Nat), isInn s fn = true ∧ s.trv = [] ∧ s.errs.fatal = false ∧ p < 32) ∧
    (∃ (s : State) (off rst p : Nat) (v w : Word) (b : Boundary), Live s) ∧
    (∃ (s : State) (p : Nat), gclOn s p = false) ∧
    (∃ (s : State) (fn p : Nat) (old : Gcl × Word), Live s ∧ isInn s fn = true ∧ commitBad s p = false ∧ (tport s p).pend = some old) :=
  ⟨⟨55, 0, by decide, by decide, by decide⟩,
    ⟨{ w0 with events := [(8, 0x0500000000000003), (16, 0xFF00000000000001), (24, 0x0100000000000000)] }, 0, 8, by decide +kernel⟩,
    ⟨{ w0 with events := [(8, 0x0500000000000003), (16, 0xFF00000000000001), (24, 0x0100000000000000)] }, 0, 0, by decide +kernel⟩,
    ⟨{ w0 with events := [(8, 0x0500000000000003), (16, 0xFF00000000000001), (24, 0x0100000000000000)] }, 0, 0, by decide +kernel⟩,
    ⟨w0, 0x410000, 5, 0, 6, 7, .frame,
      by unfold Live; decide +kernel⟩,
    ⟨w0, 3, by decide +kernel⟩,
    ⟨wRegs [(0x490000, 0x0000000100000000), (0x490008, 77), (0x490010, 1000000), (0x490018, 3), (0x490800, 1000000 + 2 ^ 32)] { w0 with tide := { w0.tide with ports := [(0, { pend := some ({ base := 0, cycle := 5, entries := [] }, 5) })] } }, 0, 0, (({ base := 0, cycle := 5, entries := [] } : Gcl), (5 : Word)), by
      refine ⟨by unfold Live; decide +kernel, ?_, ?_, ?_⟩ <;> decide +kernel⟩⟩

/-- States and operands that meet the hypotheses of each part of TierControllersFollowTheInterleave. -/
theorem test_TierControllersFollowTheInterleave :
    (∃ (s : State) (a : Nat), a < 2 ^ 38) ∧
    (∃ (s : State) (a : Nat), 2 ^ 40 ≤ a ∧ a < 2 ^ 41) :=
  ⟨⟨w0, 0, by decide +kernel⟩,
    ⟨w0, 1099511627776, by decide +kernel⟩⟩

end Sys2Proof.Tests
end

/-! ## What a command leaves: the parts of its scope, and nothing else -/

namespace Sys2Proof.Machine

open Sys2Proof

/-- A state that a command may answer from s: the queue is as it was, and every part outside the scope is as it was or, where copies of a critical
field disagreed, as their vote left it (R1064). -/
def Scoped (l : List Piece) (s t : State) : Prop :=
  t.pending = s.pending ∧ (keep l s t = t ∨ (s.trv ≠ [] ∧ keep l (vote s) t = t))

@[simp] theorem keep_self (l : List Piece) (s : State) : keep l s s = s := by simp only [keep, ite_self]

@[simp] theorem keep_keep (l : List Piece) (s r : State) : keep l s (keep l s r) = keep l s r := by simp only [keep, ← ite_and, and_self]

@[simp] theorem vote_pending (s : State) : (vote s).pending = s.pending := by
  unfold vote
  split <;> simp only [keep_pending]

theorem Scoped.refl (l : List Piece) (s : State) : Scoped l s s := ⟨rfl, .inl (keep_self l s)⟩

theorem Scoped.of_keep (l : List Piece) (s r : State) : Scoped l s (keep l s r) := ⟨rfl, .inl (keep_keep l s r)⟩

/-- What is in scope of the voted state is in scope: a vote changes nothing where no copies disagree. -/
theorem Scoped.of_vote {l : List Piece} {s t : State} (hp : t.pending = s.pending) (h : keep l (vote s) t = t) : Scoped l s t := by
  refine ⟨hp, ?_⟩
  by_cases hn : s.trv = []
  · exact .inl (vote_nil hn ▸ h)
  · exact .inr ⟨hn, h⟩

theorem Scoped.of_keep_vote (l : List Piece) (s r : State) : Scoped l s (keep l (vote s) r) := .of_vote (vote_pending s) (keep_keep l _ r)

theorem act_scoped (l : List Piece) (f : State → State) (s : State) : ∃ t, act l f s = .next t ∧ Scoped l s t := by
  refine ⟨_, rfl, ?_⟩
  split
  · exact .refl l s
  · split
    · exact .of_vote (vote_pending s) (keep_self l _)
    · exact .of_keep_vote l s _

theorem actAlways_scoped (l : List Piece) (f : State → State) (s : State) : ∃ t, actAlways l f s = .next t ∧ Scoped l s t := by
  refine ⟨_, rfl, ?_⟩
  split
  · exact .refl l s
  · split
    · exact .of_keep l s _
    · exact .of_keep_vote l s _

/-! ## How each command acts -/

/-- A command that a module without power takes note of changes its own parts in every state (R1087, R1116). -/
theorem exec_dark {c : Instr} (h : darkServes c = true) : ∃ f : State → State, ∀ s, exec c s = .next (keep (scopeOf c) s (f s)) := by
  cases c
  case perst | laserEnChange | powerUp | inputRemoval | moduleResetPin | perstRelease => exact ⟨_, fun _ => rfl⟩
  all_goals exact absurd h Bool.false_ne_true

/-- Any other command that a device in FATAL serves acts there too (R976). -/
theorem exec_fatal {c : Instr} (h : fatalServes c = true) (hd : darkServes c = false) :
    ∃ f : State → State, ∀ s, exec c s = actAlways (scopeOf c) f s := by
  cases c
  case tideNowRead | relivicelRead | relivicelWrite | relivicelDescribe | relivicelNext | rwsStoreDone | segmentGapExpire | relayForward
      | relayResponse | relayEntryExpire | setEndpointId | getEndpointId | getEndpointUuid | getMctpVersionSupport | getMessageTypeSupport
      | getVdmSupport | thermalSample | moduleReset => exact ⟨_, fun _ => rfl⟩
  case perst | laserEnChange | powerUp | inputRemoval | moduleResetPin | perstRelease => exact absurd hd.symm Bool.false_ne_true
  all_goals exact absurd h Bool.false_ne_true

/-- Every other command acts once its critical fields are voted, unless the device is FATAL or unpowered (R976, R1064). -/
theorem exec_live {c : Instr} (h : fatalServes c = false) : ∃ f : State → State, ∀ s, exec c s = act (scopeOf c) f s := by
  cases c
  case tideNowRead | relivicelRead | relivicelWrite | relivicelDescribe | relivicelNext | rwsStoreDone | segmentGapExpire | relayForward
      | relayResponse | relayEntryExpire | setEndpointId | getEndpointId | getEndpointUuid | getMctpVersionSupport | getMessageTypeSupport
      | getVdmSupport | thermalSample | moduleReset | perst | laserEnChange | powerUp | inputRemoval | moduleResetPin | perstRelease =>
    exact absurd h.symm Bool.false_ne_true
  all_goals
    unfold exec
    exact ⟨_, fun _ => rfl⟩

/-- Every command answers a state within its scope. -/
theorem exec_scoped (c : Instr) (s : State) : ∃ t, exec c s = .next t ∧ Scoped (scopeOf c) s t := by
  cases hd : darkServes c
  · cases hf : fatalServes c
    · obtain ⟨f, h⟩ := exec_live hf
      exact h s ▸ act_scoped _ f s
    · obtain ⟨f, h⟩ := exec_fatal hf hd
      exact h s ▸ actAlways_scoped _ f s
  · obtain ⟨f, h⟩ := exec_dark hd
    exact ⟨_, h s, .of_keep _ s _⟩

/-- Settles O53: each command acts in one of the three ways above, and each way keeps to the scope. -/
theorem commandsCompleteWithinTheirScope : Obligations.CommandsCompleteWithinTheirScope := by
  unfold Obligations.CommandsCompleteWithinTheirScope
  exact exec_scoped

/-! ## Register writes -/

/-! ### Fields of words -/

theorem wfld_eq_extractLsb' (w : Word) (hi lo : Nat) : wfld w hi lo = (w.extractLsb' lo (hi + 1 - lo)).toNat := by
  simp only [wfld, fld, BitVec.extractLsb'_toNat, Nat.shiftRight_eq_div_pow]

/-- A mask that holds every bit of a field leaves it. -/
theorem wfld_and {m : Word} {hi lo : Nat} (hm : m.extractLsb' lo (hi + 1 - lo) = BitVec.allOnes _) (w : Word) :
    wfld (w &&& m) hi lo = wfld w hi lo := by
  simp only [wfld_eq_extractLsb', BitVec.extractLsb'_and, hm, BitVec.and_allOnes]

theorem wfld_img {n hi : Nat} (hh : hi < 64) (h : n < 2 ^ (hi + 1)) : wfld (img n) hi 0 = n := by
  have h64 : n < 2 ^ 64 := Nat.lt_of_lt_of_le h (Nat.pow_le_pow_right (by decide) hh)
  simp only [wfld, fld, img, BitVec.toNat_ofNat, Nat.mod_eq_of_lt h64, Nat.pow_zero, Nat.div_one, Nat.sub_zero, Nat.mod_eq_of_lt h]

/-- Replacing a field leaves the bits below it. -/
theorem getLsbD_setFld_of_lt {i lo : Nat} (hi : i < lo) (h64 : i < 64) (w : Word) (top v : Nat) : (setFld w top lo v).getLsbD i = w.getLsbD i := by
  have hle : 2 ^ lo * fld w.toNat top lo ≤ w.toNat :=
    Nat.le_trans (Nat.mul_le_mul_left _ (Nat.mod_le _ _)) (Nat.mul_div_le _ _)
  have hmod : (w.toNat - fld w.toNat top lo * 2 ^ lo + v % 2 ^ (top + 1 - lo) * 2 ^ lo) % 2 ^ lo = w.toNat % 2 ^ lo := by
    rw [Nat.add_mul_mod_self_right, Nat.mul_comm, Nat.sub_mul_mod hle]
  have hbit := congrArg (fun n => n.testBit i) hmod
  simpa only [setFld, BitVec.getLsbD_ofNat, Nat.testBit_mod_two_pow, hi, h64, decide_true, Bool.true_and, BitVec.testBit_toNat] using hbit

/-- An event bit that is raised is set (R1058). -/
theorem evBit_raise {i : Nat} (h : i < 56) (b : Nat) (s : State) : evBit (raise b i s) b i = true := by
  have h64 : i < 64 := by omega
  simp only [evBit, evReg, raise, evNext, mget_mset_self, getLsbD_setFld_of_lt h h64]
  simp [h64]

/-! ### Requests and accesses -/

/-- Accesses none of which changes the state leave it. -/
theorem eachAccess_eq_self {f : Nat → Part → Word → State → State} {s : State} :
    ∀ {l : List (Part × Word)} {i : Nat}, (∀ x ∈ l, ∀ i, byPart x.1 (fun p s => f i p x.2 s) s = s) → eachAccess f i l s = s
  | [], _, _ => rfl
  | x :: r, i, h => by
    simp only [eachAccess, h x List.mem_cons_self]
    exact eachAccess_eq_self fun y hy => h y (List.mem_cons_of_mem _ hy)

theorem byPart_none {p : Part} (h : wholePart p = none) (f : Part → State → State) (s : State) : byPart p f s = s := by
  simp only [byPart, h]

theorem byPart_eq_self {f : Part → State → State} {s : State} (h : ∀ p, f p s = s) (p : Part) : byPart p f s = s := by
  unfold byPart
  split
  · exact h _
  · rfl

section
variable (fn off : Nat) (accesses : List (Part × Word)) (s r : State)

/-- A write of registers may change registers, events, functions and the router: these it leaves as its accesses do. -/
theorem keep_registerWrite_regs : (keep (scopeOf (.registerWrite fn off accesses)) s r).regs = r.regs := rfl
theorem keep_registerWrite_events : (keep (scopeOf (.registerWrite fn off accesses)) s r).events = r.events := rfl
theorem keep_registerWrite_funcs : (keep (scopeOf (.registerWrite fn off accesses)) s r).funcs = r.funcs := rfl
theorem keep_registerWrite_router : (keep (scopeOf (.registerWrite fn off accesses)) s r).router = r.router := rfl

end

/-- A request of register writes completes in the state that its accesses leave. -/
theorem completes_registerWrite {s : State} (hl : Live s) {fn off : Nat} {accesses : List (Part × Word)} {P : State → Prop}
    (hp : P (keep (scopeOf (.registerWrite fn off accesses)) s (eachAccess (fun i p v s => registerWrite fn (off + 8 * i) p v s) 0 accesses s))) :
    Completes (.registerWrite fn off accesses) s P := .of_act rfl hl hp

theorem completes_registerWrite_self {s : State} (hl : Live s) {fn off : Nat} {accesses : List (Part × Word)}
    (h : ∀ x ∈ accesses, ∀ i, byPart x.1 (fun p s => registerWrite fn (off + 8 * i) p x.2 s) s = s) :
    Completes (.registerWrite fn off accesses) s fun t => t = s :=
  completes_registerWrite hl (by rw [eachAccess_eq_self h, keep_self])

theorem completes_registerWrite_one {s : State} (hl : Live s) {fn off : Nat} {v : Word} {P : State → Prop}
    (hp : P (keep (scopeOf (.registerWrite fn off [(.full, v)])) s (registerWrite fn off .full v s))) :
    Completes (.registerWrite fn off [(.full, v)]) s P :=
  completes_registerWrite hl hp

/-! ### Where a write goes -/

theorem registerWrite_unaligned {off : Nat} (h : off % 8 ≠ 0) (fn : Nat) (part : Part) (v : Word) (s : State) :
    registerWrite fn off part v s = s := by simp only [registerWrite, if_pos h]

theorem registerWrite_desk (fn : Nat) (part : Part) (v : Word) (s : State) : registerWrite fn 0x1000 part v s = deskWrite fn 0 part v s := rfl

/-- The Innkeeper writes the global registers. -/
theorem registerWrite_global {s : State} {fn off : Nat} (hi : isInn s fn = true) (ha : off % 8 = 0) (hlo : 0x200000 ≤ off) (hhi : off < 0x1000000)
    (part : Part) (v : Word) : registerWrite fn off part v s = globalWrite fn off part v s := by
  simp only [registerWrite, Bool.and_eq_true, decide_eq_true_eq]
  iterate 6 rw [if_neg (by omega)]
  rw [if_pos ⟨hlo, hhi⟩, if_pos hi]

theorem globalWrite_irq (fn : Nat) (part : Part) (v : Word) (s : State) :
    globalWrite fn 0x200018 part v s = wr 0x200018 (masked (partWrite (rd s 0x200018 0) part v) 0x87FF) s := rfl

theorem globalWrite_limit (fn : Nat) (part : Part) (v : Word) (s : State) : globalWrite fn 0x270018 part v s = limitWrite part v s := rfl

theorem globalWrite_cc {off : Nat} (hlo : 0x400000 ≤ off) (hhi : off < 0x440000) (fn : Nat) (part : Part) (v : Word) (s : State) :
    globalWrite fn off part v s = ccWrite off part v s := by
  simp only [globalWrite, Bool.and_eq_true, decide_eq_true_eq]
  iterate 7 rw [if_neg (by omega)]
  rw [if_pos ⟨hlo, hhi⟩]

theorem globalWrite_route {off : Nat} (hlo : 0x780000 ≤ off) (hhi : off < 0x800000) (fn : Nat) (v : Word) (s : State) :
    globalWrite fn off .full v s = modRouter (fun r => { r with shadow := putEntry r.shadow ((off - 0x780000) / 8) v.toNat }) s := by
  simp only [globalWrite, partWrite, Bool.and_eq_true, decide_eq_true_eq]
  iterate 11 rw [if_neg (by omega)]
  rw [if_pos ⟨hlo, hhi⟩]

/-- The Innkeeper writes an entry of the shadow route table. -/
theorem registerWrite_route {s : State} {fn n : Nat} (hi : isInn s fn = true) (hn : n < 65536) (v : Word) :
    registerWrite fn (0x780000 + 8 * n) .full v s = modRouter (fun r => { r with shadow := putEntry r.shadow n v.toNat }) s := by
  rw [registerWrite_global hi (by omega) (by omega) (by omega), globalWrite_route (by omega) (by omega), Nat.add_sub_cancel_left,
    Nat.mul_div_cancel_left n (by decide)]

theorem mget_putEntry {v : Nat} (h : v % 2 ^ 60 ≠ 0) (m : NMap Nat) (n k : Nat) :
    mget (putEntry m n v) k 0 = if k = n then v % 2 ^ 60 else mget m k 0 := by
  rw [putEntry, if_neg h, mget_mset]

/-! ### Token buckets and the power limit -/

/-- A shaper of a port and class takes its configuration unless it is bad (R722, R723). -/
theorem ccWrite_pshape {p c : Nat} (hp : p < 32) (hc : c < 8) (v : Word) (s : State) :
    ccWrite (pshape p c) .full v s =
      bucketWrite (pshape p c) (if (fport s p).mode = 2 then 800000 else 1600000) 64 .frame .full v s := by
  have hlo : 0x410000 ≤ pshape p c := by unfold pshape; omega
  have hhi : pshape p c < 0x418000 := by unfold pshape; omega
  have hd : (pshape p c - 0x410000) / 0x400 = p := by unfold pshape; omega
  have hm : pshape p c % 0x400 = 0x10 * c := by unfold pshape; omega
  have hr : 0x10 * c < 0x80 := by omega
  have h0 : 0x10 * c % 0x10 = 0 := Nat.mul_mod_right _ _
  simp only [ccWrite, hlo, hhi, hd, hm, hr, h0, decide_true, Bool.and_self, if_true]

theorem registerWrite_pshape {s : State} {fn p c : Nat} (hi : isInn s fn = true) (hp : p < 32) (hc : c < 8) (v : Word) :
    registerWrite fn (pshape p c) .full v s =
      bucketWrite (pshape p c) (if (fport s p).mode = 2 then 800000 else 1600000) 64 .frame .full v s := by
  have hlo : 0x410000 ≤ pshape p c := by unfold pshape; omega
  have hhi : pshape p c < 0x418000 := by unfold pshape; omega
  have ha : pshape p c % 8 = 0 := by unfold pshape; omega
  rw [registerWrite_global hi ha (by omega) (by omega), globalWrite_cc (by omega) (by omega), ccWrite_pshape hp hc]

/-- The bits that a bucket's configuration defines hold its rate and its burst. -/
theorem wfld_masked_rate (v : Word) : wfld (masked v 0xC0FFFFFF03FFFFFF) 25 0 = wfld v 25 0 := wfld_and (by decide) v
theorem wfld_masked_burst (v : Word) : wfld (masked v 0xC0FFFFFF03FFFFFF) 55 32 = wfld v 55 32 := wfld_and (by decide) v

theorem bucketWrite_bad {v : Word} (h : wfld v 25 0 = 0) (off top low : Nat) (bd : Boundary) (s : State) :
    bucketWrite off top low bd .full v s = ccErr s := by
  simp only [bucketWrite, partWrite, bucketBad, wfld_masked_rate, h, beq_self_eq_true, Bool.true_or, if_true]

theorem bucketWrite_good {v : Word} {top low : Nat} (h1 : 1 ≤ wfld v 25 0) (h2 : wfld v 25 0 ≤ top) (h3 : low ≤ wfld v 55 32)
    (off : Nat) (bd : Boundary) (s : State) :
    bucketWrite off top low bd .full v s = wrBuf off (65536 * 2 ^ 32 + 1600000) (v &&& 0xC0FFFFFF03FFFFFF#64) bd s := by
  have hb : bucketBad (masked v 0xC0FFFFFF03FFFFFF) top low = false := by
    simp only [bucketBad, wfld_masked_rate, wfld_masked_burst, Bool.or_eq_false_iff, beq_eq_false_iff_ne, decide_eq_false_iff_not]
    omega
  simp only [bucketWrite, partWrite, hb, Bool.false_eq_true, if_false]
  rfl

/-- A buffered write leaves the value in force (R14, R114). -/
theorem rdEff_wrBuf (off rst : Nat) (v : Word) (bd : Boundary) (s : State) : rdEff (wrBuf off rst v bd s) off rst = rdEff s off rst := by
  cases h : mfind s.eff off <;> simp only [rdEff, wrBuf, h, mfind_mset_self]

theorem limitWrite_full (v : Word) (s : State) : limitWrite .full v s =
    if 500 ≤ wfld v 15 0 ∧ wfld v 15 0 ≤ 2000 then wr 0x270018 (img (wfld v 15 0)) s else raise 11 3 s := by simp [limitWrite, coversLow]

/-! ### The front desk -/

/-- The base of the request ring moves while the front desk is disabled and idle (R299). -/
theorem deskWrite_base {s : State} {fn : Nat} (he : (func s fn).enabled = true) (hd : (func s fn).fd.enable = false)
    (hq : deskIdle (func s fn).fd = true) (v : Word) : deskWrite fn 0 .full v s =
      modFunc fn (fun x => { x with fd := { x.fd with req := { x.fd.req with base := v.toNat } } }) s := by
  simp only [deskWrite, he, hd, hq, partWrite, Bool.not_true, Bool.not_false, Bool.and_self, Bool.false_eq_true, if_true, if_false]

theorem deskWrite_base_enabled {s : State} {fn : Nat} (hd : (func s fn).fd.enable = true) (v : Word) : deskWrite fn 0 .full v s = s := by
  simp only [deskWrite, hd, Bool.not_true, Bool.false_and, Bool.false_eq_true, if_true, if_false, ite_self]

/-! ### The parts of the statement -/

section
variable {s : State} (hl : Live s) {fn : Nat}
include hl

theorem registerWrite_unaligned_completes {off : Nat} (accesses : List (Part × Word)) (h : off % 8 ≠ 0) :
    Completes (.registerWrite fn off accesses) s fun t => t = s :=
  completes_registerWrite_self hl fun _ _ i => byPart_eq_self (fun _ => registerWrite_unaligned (by omega) ..) _

theorem registerWrite_no_part_completes {off : Nat} {accesses : List (Part × Word)} (h : ∀ x ∈ accesses, wholePart x.1 = none) :
    Completes (.registerWrite fn off accesses) s fun t => t = s :=
  completes_registerWrite_self hl fun x hx _ => byPart_none (h x hx) _ s

theorem registerWrite_desk_base_completes (v : Word) (he : (func s fn).enabled = true) (hd : (func s fn).fd.enable = false)
    (hq : deskIdle (func s fn).fd = true) : Completes (.registerWrite fn 0x1000 [(.full, v)]) s fun t =>
      (func t fn).fd.req.base = v.toNat ∧ (func t fn).fd.resp = (func s fn).fd.resp := by
  refine completes_registerWrite_one hl ?_
  rw [registerWrite_desk, deskWrite_base he hd hq, func, keep_registerWrite_funcs, ← func, func_modFunc]
  exact ⟨rfl, rfl⟩

theorem registerWrite_desk_enabled_completes (v : Word) (hd : (func s fn).fd.enable = true) :
    Completes (.registerWrite fn 0x1000 [(.full, v)]) s fun t => (func t fn).fd = (func s fn).fd := by
  refine completes_registerWrite_one hl ?_
  rw [registerWrite_desk, deskWrite_base_enabled hd, keep_self]

variable (hi : isInn s fn = true)
include hi

theorem registerWrite_irq_completes (v : Word) :
    Completes (.registerWrite fn 0x200018 [(.full, v)]) s fun t => rd t 0x200018 0 = v &&& 0x87FF#64 ∧ t.events = s.events := by
  refine completes_registerWrite_one hl ?_
  rw [registerWrite_global hi (by decide) (by decide) (by decide), globalWrite_irq, rd, keep_registerWrite_regs, ← rd, rd_wr, keep_registerWrite_events]
  exact ⟨rfl, rfl⟩

theorem registerWrite_route_completes {n : Nat} (hn : n < 65536) {v : Word} (hv : v.toNat % 2 ^ 60 ≠ 0) :
    Completes (.registerWrite fn (0x780000 + 8 * n) [(.full, v)]) s fun t =>
      mget t.router.shadow n 0 = v.toNat % 2 ^ 60 ∧ t.router.active = s.router.active ∧
      ∀ m, m ≠ n → mget t.router.shadow m 0 = mget s.router.shadow m 0 := by
  refine completes_registerWrite_one hl ?_
  rw [registerWrite_route hi hn, keep_registerWrite_router]
  simp only [modRouter, mget_putEntry hv, if_true, true_and]
  exact fun m hm => if_neg hm

theorem registerWrite_two_routes_completes {n : Nat} (hn : n < 65535) {v w : Word} (hv : v.toNat % 2 ^ 60 ≠ 0) (hw : w.toNat % 2 ^ 60 ≠ 0) :
    Completes (.registerWrite fn (0x780000 + 8 * n) [(.full, v), (.full, w)]) s fun t =>
      mget t.router.shadow n 0 = v.toNat % 2 ^ 60 ∧ mget t.router.shadow (n + 1) 0 = w.toNat % 2 ^ 60 ∧ t.router.active = s.router.active := by
  refine completes_registerWrite hl ?_
  have hnext : 0x780000 + 8 * n + 8 * (0 + 1) = 0x780000 + 8 * (n + 1) := by omega
  simp only [eachAccess, byPart, wholePart, hnext, Nat.mul_zero, Nat.add_zero]
  rw [registerWrite_route hi (by omega) v, registerWrite_route ?_ (by omega) w, keep_registerWrite_router]
  · simp only [modRouter, mget_putEntry hv, mget_putEntry hw, Nat.ne_of_lt (Nat.lt_succ_self n), if_true, if_false, and_self]
  · exact hi

theorem registerWrite_limit_refused_completes {v : Word} (h : wfld v 15 0 < 500 ∨ 2000 < wfld v 15 0) :
    Completes (.registerWrite fn 0x270018 [(.full, v)]) s fun t => powerLimit t = powerLimit s ∧ evBit t 11 3 = true := by
  refine completes_registerWrite_one hl ?_
  rw [registerWrite_global hi (by decide) (by decide) (by decide), globalWrite_limit, limitWrite_full, if_neg (by omega)]
  exact ⟨rfl, evBit_raise (by decide) 11 s⟩

theorem registerWrite_limit_taken_completes {v : Word} (h1 : 500 ≤ wfld v 15 0) (h2 : wfld v 15 0 ≤ 2000) :
    Completes (.registerWrite fn 0x270018 [(.full, v)]) s fun t => powerLimit t = wfld v 15 0 := by
  refine completes_registerWrite_one hl ?_
  rw [registerWrite_global hi (by decide) (by decide) (by decide), globalWrite_limit, limitWrite_full, if_pos ⟨h1, h2⟩,
    powerLimit, rd, keep_registerWrite_regs, ← rd, rd_wr, wfld_img (by decide) (by omega)]

variable {p c : Nat} (hp : p < 32) (hc : c < 8) {v : Word}
include hp hc

theorem registerWrite_pshape_rejected_completes (h : wfld v 25 0 = 0) : Completes (.registerWrite fn (pshape p c) [(.full, v)]) s fun t =>
      t.regs = s.regs ∧ t.eff = s.eff ∧ evBit t 6 0 = true := by
  refine completes_registerWrite_one hl ?_
  rw [registerWrite_pshape hi hp hc, bucketWrite_bad h]
  exact ⟨rfl, rfl, evBit_raise (by decide) 6 s⟩

theorem registerWrite_pshape_taken_completes (h1 : 1 ≤ wfld v 25 0) (h2 : wfld v 25 0 ≤ 800000) (h3 : 64 ≤ wfld v 55 32) :
    Completes (.registerWrite fn (pshape p c) [(.full, v)]) s fun t =>
      rd t (pshape p c) 0 = v &&& 0xC0FFFFFF03FFFFFF#64 ∧ bucketCfg t (pshape p c) = bucketCfg s (pshape p c) := by
  refine completes_registerWrite_one hl ?_
  have htop : wfld v 25 0 ≤ if (fport s p).mode = 2 then 800000 else 1600000 := by split <;> omega
  rw [registerWrite_pshape hi hp hc, bucketWrite_good h1 htop h3]
  exact ⟨mget_mset_self _ _ _ _, rdEff_wrBuf _ _ _ _ s⟩

end

/-- Settles O46: each write goes to the operation of its register, whose own lemma says what it leaves. -/
theorem registerWritesLand : Obligations.RegisterWritesLand := by
  unfold Obligations.RegisterWritesLand
  exact ⟨
    fun _ _ _ accesses hl => registerWrite_unaligned_completes hl accesses,
    fun _ _ _ _ hl => registerWrite_no_part_completes hl,
    fun _ _ _ _ _ hl hi hn => registerWrite_two_routes_completes hl hi hn,
    fun _ _ v hl hi => registerWrite_irq_completes hl hi v,
    fun _ _ _ _ hl hi hn => registerWrite_route_completes hl hi hn,
    fun _ _ _ hl hi => registerWrite_limit_refused_completes hl hi,
    fun _ _ _ hl hi => registerWrite_limit_taken_completes hl hi,
    fun _ _ _ _ _ hl hi hp hc => registerWrite_pshape_rejected_completes hl hi hp hc,
    fun _ _ _ _ _ hl hi hp hc => registerWrite_pshape_taken_completes hl hi hp hc,
    fun _ _ v hl => registerWrite_desk_base_completes hl v,
    fun _ _ v hl => registerWrite_desk_enabled_completes hl v⟩

end Sys2Proof.Machine

/-! ## The device in FATAL, and halted management cores -/

namespace Sys2Proof.Machine

open Sys2Proof

/-- What R976 shows of a device that has entered FATAL: its first cause, the module alert, and FATAL in ER_EVENT. -/
def InFatal (unit : Nat) (s : State) : Prop :=
  s.errs.fatal = true ∧ s.errs.fatalUnit = unit ∧ s.errs.alert = true ∧ evBit s 12 7 = true

theorem deviceFatal_enters {s : State} (h : s.errs.fatal = false) (unit object d0 : Nat) : InFatal unit (deviceFatal unit object d0 s) := by
  simp only [deviceFatal, h, Bool.false_eq_true, if_false]
  exact ⟨rfl, rfl, rfl, evBit_raise (by decide) 12 _⟩

/-- A command whose meaning is the entry of the device into FATAL shows it there: what it may change holds the error unit and the events. -/
theorem completes_deviceFatal {c : Instr} {s : State} {unit object d0 : Nat} (hl : Live s)
    (hc : exec c s = act reports (deviceFatal unit object d0) s) : Completes c s (InFatal unit) :=
  .of_act hc hl (deviceFatal_enters hl.1 unit object d0)

/-! ### Lanes while core 1 is halted -/

theorem mget_mmapV {α : Type} {d : α} {f : Nat → α → α} {k : Nat} (hd : f k d = d) (m : NMap α) : mget (mmapV m f) k d = f k (mget m k d) := by
  induction m with
  | nil => exact hd.symm
  | cons a r ih =>
    obtain ⟨j, v⟩ := a
    simp only [mmapV, List.map_cons, mget] at ih ⊢
    split
    · next hj => rw [hj]
    · exact ih

/-- Every locked lane of a state is HELD in another (R53, R856). -/
def LanesHeld (s t : State) : Prop := ∀ p l, (lane s p l).st = 2 → (lane t p l).st = 3

theorem lane_holdLanes (s : State) (p l : Nat) :
    lane (holdLanes s) p l = if (lane s p l).st = 2 then { lane s p l with st := 3 } else lane s p l :=
  mget_mmapV (f := fun _ (x : Lane) => if x.st = 2 then { x with st := 3 } else x) rfl s.lanes

theorem lanesHeld_of_lanes {s t : State} (h : t.lanes = (holdLanes s).lanes) : LanesHeld s t := by
  intro p l hl
  have hlane : lane t p l = lane (holdLanes s) p l := by rw [lane, h, ← lane]
  rw [hlane, lane_holdLanes, if_pos hl]

/-! ### The error that halts a core -/

/-- The management cores and the lanes of a state as another has them. -/
def CoresKept (s t : State) : Prop := t.errs.coresHalted = s.errs.coresHalted ∧ t.lanes = s.lanes

theorem CoresKept.refl (s : State) : CoresKept s s := ⟨rfl, rfl⟩

/-- Every management core is halted, and the locked lanes of a state are held (R975). -/
def CoresDown (s t : State) : Prop := t.errs.coresHalted = [0, 1, 2, 3] ∧ t.lanes = (holdLanes s).lanes

/-- Latch unit 82 is the management SRAM: its FATAL halts every core. -/
theorem unitDown_sram (s : State) : CoresDown s (unitDown 82 s) := ⟨rfl, rfl⟩

theorem CoresKept.down {s t u : State} (h : CoresKept s t) (hd : CoresDown t u) : CoresDown s u := by
  obtain ⟨-, hlanes⟩ := h
  obtain ⟨hhalted, hheld⟩ := hd
  exact ⟨hhalted, by rw [hheld, holdLanes, holdLanes, hlanes]⟩

section
variable {s t : State} (h : CoresKept s t)
include h

theorem CoresKept.raise (b i : Nat) : CoresKept s (raise b i t) := h
theorem CoresKept.bump (off : Nat) : CoresKept s (bump off t) := h
theorem CoresKept.ledgerInn (r : LedgerRec) : CoresKept s (ledgerInn r t) := h

theorem CoresKept.modErrs {f : Errs → Errs} (hf : (f t.errs).coresHalted = t.errs.coresHalted) : CoresKept s (modErrs f t) := by
  obtain ⟨hcores, hlanes⟩ := h
  exact ⟨hf.trans hcores, hlanes⟩

/-- The record of a memory error that no room met is one record of the Innkeeper's Ledger. -/
theorem CoresKept.memRecord {x : Access} (hx : x.room = none) (kind u m a : Nat) (second : Bool) :
    CoresKept s (memRecordBy sinks x kind u m a second t) := by
  simp only [memRecordBy, hx]
  exact h.ledgerInn _

theorem CoresKept.unitFatal_sram : CoresDown s (unitFatalBy sinks 82 t) := by
  unfold unitFatalBy
  refine CoresKept.down ?_ (unitDown_sram _)
  split
  · exact ((h.modErrs rfl).raise 12 7).ledgerInn _
  · exact (h.modErrs rfl).raise 12 7

/-- An error of the management SRAM leaves the cores and the lanes, unless it is the second of the unit, whose FATAL halts every core (R974). -/
theorem CoresKept.latchNew_sram {x : Access} (hx : x.room = none) (kind m a : Nat) :
    CoresKept s (latchNew x kind 82 m a t) ∨ CoresDown s (latchNew x kind 82 m a t) := by
  simp only [latchNew, latchNewBy]
  split
  · exact .inl (((h.modErrs rfl).raise 12 6).memRecord hx kind 82 m a false)
  · split
    · exact .inr ((((h.modErrs rfl).bump 0x440410).raise 12 5).memRecord hx kind 82 m a true).unitFatal_sram
    · exact .inl h

end

/-! ### The halt of a core -/

/-- Core k is halted, and core 1's halt has held every lane that was locked (R49, R53). -/
def HaltsCore (k : Nat) (s t : State) : Prop := k ∈ t.errs.coresHalted ∧ (k = 1 → LanesHeld s t)

/-- A core that runs halts, whether or not core 3 is there to record it (R50). -/
theorem coreHalt_of_running {k : Nat} {s : State} (h : k ∉ s.errs.coresHalted) :
    (coreHalt k s).errs.coresHalted = sadd s.errs.coresHalted k ∧ (coreHalt k s).lanes = if k = 1 then (holdLanes s).lanes else s.lanes := by
  have hc : s.errs.coresHalted.contains k = false := by simpa using h
  simp only [coreHalt, hc, Bool.false_eq_true, if_false]
  split <;> split <;> exact ⟨rfl, rfl⟩

theorem coreHalt_of_halted {k : Nat} {s : State} (h : k ∈ s.errs.coresHalted) : coreHalt k s = s := by
  simp [coreHalt, h]

/-- A core halts on an error of its memory: by its own halt where the error left the cores, and otherwise with every core. -/
theorem coreHalt_after_error {k : Nat} {s t : State} (hk : k < 4) (h : k ∉ s.errs.coresHalted) (he : CoresKept s t ∨ CoresDown s t) :
    HaltsCore k s (coreHalt k t) := by
  rcases he with ⟨hcores, hlanes⟩ | ⟨hcores, hlanes⟩
  · obtain ⟨hin, hheld⟩ := coreHalt_of_running (hcores ▸ h : k ∉ t.errs.coresHalted)
    refine ⟨by rw [hin]; exact (mem_sadd _ _ _).2 (.inl rfl), fun h1 => lanesHeld_of_lanes ?_⟩
    rw [hheld, if_pos h1, holdLanes, holdLanes, hlanes]
  · have hin : k ∈ t.errs.coresHalted := by rw [hcores]; simp; omega
    rw [coreHalt_of_halted hin]
    exact ⟨hin, fun _ => lanesHeld_of_lanes hlanes⟩

theorem mgmtCoreHalt_halts {k : Nat} {s : State} (hk : k < 4) (h : k ∉ s.errs.coresHalted) (word : Nat) :
    HaltsCore k s (mgmtCoreHalt k word s) := by
  have hg : (decide (4 ≤ k) || s.errs.coresHalted.contains k) = false := by simp [h]; omega
  simp only [mgmtCoreHalt, hg, Bool.false_eq_true, if_false]
  refine coreHalt_after_error hk h ?_
  split
  · exact .inl ((CoresKept.refl s).bump _ |>.memRecord rfl 4 82 20 0 false)
  · exact ((CoresKept.refl s).modErrs rfl).bump _ |>.latchNew_sram rfl 3 20 0

theorem mgmtCoreHalt_completes {s : State} {k : Nat} (hl : Live s) (hk : k < 4) (h : k ∉ s.errs.coresHalted) (word : Nat) :
    Completes (.mgmtCoreHalt k word) s (HaltsCore k s) :=
  .of_act rfl hl (mgmtCoreHalt_halts hk h word)

/-- The watchdog raises the module alert once core 3 is halted (R51). -/
theorem watchdogExpire_completes {s : State} (hl : Live s) (h : core3Runs s = false) :
    Completes .watchdogExpire s fun t => t.errs.alert = true := by
  refine .of_act (l := [.errs]) (f := fun s => if core3Runs s then s else modErrs (fun e => { e with alert := true }) s) rfl hl ?_
  simp only [h, Bool.false_eq_true, if_false]
  rfl

/-- Settles O42: the three causes of FATAL are one entry into it, and a core halts on an error of its memory or with every core. -/
theorem theDeviceFailsAndCoresHalt : Obligations.TheDeviceFailsAndCoresHalt := by
  unfold Obligations.TheDeviceFailsAndCoresHalt
  exact ⟨
    fun _ _ hl => completes_deviceFatal hl rfl,
    fun _ hl => completes_deviceFatal hl rfl,
    fun _ hl => completes_deviceFatal hl rfl,
    fun _ _ word hl hk h => mgmtCoreHalt_completes hl hk h word,
    fun _ hl h => watchdogExpire_completes hl h⟩

end Sys2Proof.Machine

/-! ## Power, resets and start-up -/

namespace Sys2Proof.Machine

open Sys2Proof

/-- A command that may change every part leaves what its effect gives, but for the queue. -/
theorem keep_everything (s r : State) : keep everything s r = { r with pending := s.pending } := rfl

@[simp] theorem keep_everything_dom (s r : State) (d : Nat) : dom (keep everything s r) d = dom r d := rfl

/-! ### What a restart leaves (R1086) -/

section
variable (cause : Nat) (cold : Bool) (s : State)

@[simp] theorem restart_inputOk : (restart cause cold s).power.inputOk = s.power.inputOk := rfl
@[simp] theorem restart_pin : (restart cause cold s).power.pin = s.power.pin := rfl
@[simp] theorem restart_lastReset : (restart cause cold s).power.lastReset = cause := rfl
@[simp] theorem restart_out : (restart cause cold s).out = s.out := rfl
@[simp] theorem restart_hmem : (restart cause cold s).hmem = s.hmem := rfl
@[simp] theorem restart_cells : (restart cause cold s).mem.cells = [] := rfl
@[simp] theorem restart_qps : (restart cause cold s).qps = [] := rfl
@[simp] theorem restart_router_st : (restart cause cold s).router.st = .unset := rfl
@[simp] theorem restart_rooms : (restart cause cold s).rooms = State.reset.rooms := rfl

/-- A power-up loses the tide count and the Ledger history, which any other reset keeps (R47, R988). -/
@[simp] theorem restart_cold_tide : (restart cause true s).tide = {} := rfl
@[simp] theorem restart_cold_history : (restart cause true s).errs.history = [] := rfl
@[simp] theorem restart_warm_tide_count : (restart cause false s).tide.count = s.tide.count := rfl

end

/-! ### The module with only the always-on domains -/

/-- A table that lists a value for each key of a list holds it under that key. -/
theorem mget_map_of_mem {α : Type} (f : Nat → α) (d : α) {k : Nat} {l : List Nat} (h : k ∈ l) : mget (l.map fun i => (i, f i)) k d = f k := by
  induction l with
  | nil => exact absurd h List.not_mem_nil
  | cons j r ih =>
    simp only [List.map_cons, mget]
    split
    · next hj => rw [hj]
    · next hj => exact ih ((List.mem_cons.1 h).resolve_left (Ne.symm hj))

/-- A domain of a module that is held in reset or without input power: its request and the rest of its record stay (R1087, R1116). -/
def darkDom (s : State) (d : Nat) : Dom := { dom s d with st := if d = 148 || d = 150 then 2 else 0, wanting := false }

theorem dom_darkModule (s : State) {d : Nat} (h : d < 151) : dom (darkModule s) d = darkDom s d :=
  mget_map_of_mem (darkDom s) {} (List.mem_range.2 h)

@[simp] theorem darkModule_inputOk (s : State) : (darkModule s).power.inputOk = s.power.inputOk := rfl
@[simp] theorem darkModule_pin (s : State) : (darkModule s).power.pin = s.power.pin := rfl
@[simp] theorem darkModule_tide (s : State) : (darkModule s).tide = s.tide := rfl
@[simp] theorem darkModule_mem (s : State) : (darkModule s).mem = s.mem := rfl

/-- A domain other than 148 and 150 has no power in a module that is held in reset or without input power (R1087, R1116). -/
theorem darkModule_dom_st (s : State) {d : Nat} (h : d < 151) (h148 : d ≠ 148) (h150 : d ≠ 150) : (dom (darkModule s) d).st = 0 := by
  simp [dom_darkModule s h, darkDom, h148, h150]

theorem Live.inputOk {s : State} (h : Live s) : s.power.inputOk = true := by
  obtain ⟨-, hpowered, -⟩ := h
  unfold unpowered at hpowered
  simpa using (Bool.or_eq_false_iff.1 hpowered).2

theorem Live.pin {s : State} (h : Live s) : s.power.pin = false := by
  obtain ⟨-, hpowered, -⟩ := h
  exact (Bool.or_eq_false_iff.1 hpowered).1

/-! ### Input power and the reset pin -/

theorem powerUp_unpinned {s : State} (hi : s.power.inputOk = false) (hp : s.power.pin = false) :
    powerUp s = restart 0 true (modPower (fun p => { p with inputOk := true }) s) := by
  simp [powerUp, hi, modPower, hp]

theorem powerUp_completes {s : State} (hi : s.power.inputOk = false) (hp : s.power.pin = false) :
    Completes .powerUp s fun t =>
      t.power.inputOk = true ∧ t.tide = {} ∧ t.mem.cells = [] ∧ t.hmem = s.hmem ∧ t.out = s.out ∧ t.errs.history = [] ∧ t.power.lastReset = 0 := by
  refine ⟨_, rfl, ?_⟩
  simp [powerUp_unpinned hi hp, keep_everything, modPower]

theorem inputRemoval_powered {s : State} (hi : s.power.inputOk = true) :
    inputRemoval s = darkModule (restart 0 true (modPower (fun p => { p with inputOk := false }) s)) := by
  rw [inputRemoval, if_pos hi]

theorem inputRemoval_completes {s : State} (hi : s.power.inputOk = true) :
    Completes .inputRemoval s fun t => t.power.inputOk = false ∧ t.mem.cells = [] ∧ ∀ d < 151, d ≠ 148 → d ≠ 150 → (dom t d).st = 0 := by
  refine ⟨_, rfl, ?_, ?_, fun d hd h148 h150 => ?_⟩
  · simp [inputRemoval_powered hi, keep_everything, modPower]
  · simp [inputRemoval_powered hi, keep_everything]
  · rw [inputRemoval_powered hi, keep_everything_dom, darkModule_dom_st _ hd h148 h150]

theorem inputAccepted_power (i : Nat) (s : State) : (inputAccepted i s).power = s.power := rfl
theorem inputAccepted_tide (i : Nat) (s : State) : (inputAccepted i s).tide = s.tide := rfl

section
variable {s : State} (hi : s.power.inputOk = true) (hr : resetReady s = true)
include hi hr

/-- The reset pin takes effect where it changes and no trip holds the reset back (R1087, R1131). -/
theorem moduleResetPin_true (hp : s.power.pin = false) :
    moduleResetPin true s = darkModule (restart 1 false (modPower (fun p => { p with pin := true }) (inputAccepted 9 s))) := by
  have hready : resetReady (inputAccepted 9 s) = true := hr
  simp [moduleResetPin, hready, inputAccepted_power, hi, hp]

theorem moduleResetPin_false (hp : s.power.pin = true) :
    moduleResetPin false s = restart 1 false (modPower (fun p => { p with pin := false }) (inputAccepted 9 s)) := by
  have hready : resetReady (inputAccepted 9 s) = true := hr
  simp [moduleResetPin, hready, inputAccepted_power, hi, hp]

theorem moduleResetPin_asserts (hp : s.power.pin = false) :
    Completes (.moduleResetPin true) s fun t =>
      t.power.pin = true ∧ t.tide.count = s.tide.count ∧ ∀ d < 151, d ≠ 148 → d ≠ 150 → (dom t d).st = 0 := by
  refine ⟨_, rfl, ?_, ?_, fun d hd h148 h150 => ?_⟩
  · simp [moduleResetPin_true hi hr hp, keep_everything, modPower]
  · simp [moduleResetPin_true hi hr hp, keep_everything, inputAccepted_tide]
  · rw [moduleResetPin_true hi hr hp, keep_everything_dom, darkModule_dom_st _ hd h148 h150]

theorem moduleResetPin_releases (hp : s.power.pin = true) :
    Completes (.moduleResetPin false) s fun t => t.power.pin = false ∧ t.power.lastReset = 1 ∧ t.tide.count = s.tide.count := by
  refine ⟨_, rfl, ?_⟩
  simp [moduleResetPin_false hi hr hp, keep_everything, modPower, inputAccepted_tide]

end

/-! ### The reset words -/

theorem moduleReset_restarts {s : State} (hd : s.dict.stores = []) (hr : resetReady s = true) :
    moduleResetWrite 0x72737430 s = restart 2 false s := by
  simp [moduleResetWrite, moduleReset, hd, hr]

theorem moduleReset_completes {s : State} (hl : Live s) (hd : s.dict.stores = []) (hr : resetReady s = true) :
    Completes (.moduleReset 0x72737430) s fun t =>
      t.power.lastReset = 2 ∧ t.tide.count = s.tide.count ∧ t.router.st = .unset ∧ t.rooms = State.reset.rooms ∧ t.qps = [] ∧ t.mem.cells = [] := by
  refine .of_actAlways rfl hl ?_
  simp [moduleReset_restarts hd hr, keep_everything]

theorem moduleReset_other_word {s : State} (hl : Live s) {v : Nat} (hv : v ≠ 0x72737430) : Completes (.moduleReset v) s fun t => t = s :=
  .of_actAlways rfl hl (by rw [moduleResetWrite, if_pos hv, keep_self])

theorem exec_tideReset (v : Nat) (s : State) : exec (.tideReset v) s = act [.tide, .sealing] (fun s => (tideReset v s).2) s := rfl

theorem tideReset_completes {s : State} (hl : Live s) (hb : tideResetBad s = false) : Completes (.tideReset 0x74696465) s fun t =>
      t.tide = { base := s.tide.base - s.tide.count } ∧ t.sealing.lastKeys = [] := by
  refine .of_act (exec_tideReset _ s) hl ?_
  simp only [tideReset, hb, ne_eq, not_true_eq_false, Bool.false_eq_true, if_false]
  exact ⟨rfl, rfl⟩

theorem tideReset_refused {s : State} (hl : Live s) (hb : tideResetBad s = true) : Completes (.tideReset 0x74696465) s fun t => t = s := by
  refine .of_act (exec_tideReset _ s) hl ?_
  simp only [tideReset, hb, ne_eq, not_true_eq_false, if_true, if_false, keep_self]

/-! ### Start-up -/

/-- Of functions, a message changes the pending bit of a masked vector (R328). -/
theorem msix_funcs (fn v : Nat) (s : State) : (msix fn v s).funcs =
    if (func s fn).masked.contains v then mmod s.funcs fn {} (fun f => { f with pend := sadd f.pend v }) else s.funcs := rfl

theorem msix_enabled (fn v g : Nat) (s : State) : (func (msix fn v s) g).enabled = (func s g).enabled := by
  rw [func, msix_funcs]
  split
  · rw [mget_mmod]
    split
    · next hg => rw [hg]; rfl
    · rfl
  · rfl

theorem ite_msix_enabled (c : Prop) [Decidable c] (fn v g : Nat) (s : State) :
    (func (if c then msix fn v s else s) g).enabled = (func s g).enabled := by
  split
  · exact msix_enabled fn v g s
  · rfl

/-- An event enables and disables no function: of functions it changes what its interrupts change. -/
theorem raise_enabled (b i fn : Nat) (s : State) : (func (raise b i s) fn).enabled = (func s fn).enabled :=
  (ite_msix_enabled _ _ _ fn _).trans (ite_msix_enabled _ _ _ fn _)

/-- The PF of a port is enabled unless the port is down (R1095). -/
def enablePf (s : State) (p : Nat) : State := if (hport s p).st = .down then s else modFunc (fnOf p 0) (fun f => { f with enabled := true }) s

theorem enablePf_hport (s : State) (p q : Nat) : hport (enablePf s p) q = hport s q := by
  unfold enablePf
  split <;> rfl

theorem enablePf_power (s : State) (p : Nat) : (enablePf s p).power = s.power := by
  unfold enablePf
  split <;> rfl

theorem enablePf_keeps_enabled {s : State} {fn : Nat} (h : (func s fn).enabled = true) (p : Nat) : (func (enablePf s p) fn).enabled = true := by
  unfold enablePf
  split
  · exact h
  · by_cases hf : fn = fnOf p 0
    · rw [hf, func_modFunc]
    · rw [func_modFunc_ne hf, h]

theorem enablePf_enables {s : State} {p : Nat} (h : (hport s p).st ≠ .down) : (func (enablePf s p) (fnOf p 0)).enabled = true := by
  rw [enablePf, if_neg h, func_modFunc]

theorem foldl_enablePf_keeps_enabled {fn : Nat} {s : State} (h : (func s fn).enabled = true) (l : List Nat) :
    (func (l.foldl enablePf s) fn).enabled = true := by
  induction l generalizing s with
  | nil => exact h
  | cons q l ih => exact ih (enablePf_keeps_enabled h q)

theorem foldl_enablePf_enables {p : Nat} {l : List Nat} {s : State} (hp : p ∈ l) (hd : (hport s p).st ≠ .down) :
    (func (l.foldl enablePf s) (fnOf p 0)).enabled = true := by
  induction l generalizing s with
  | nil => exact absurd hp List.not_mem_nil
  | cons q l ih =>
    rcases List.mem_cons.1 hp with rfl | hp
    · exact foldl_enablePf_keeps_enabled (enablePf_enables hd) l
    · exact ih hp (by rwa [enablePf_hport])

theorem foldl_enablePf_power (l : List Nat) (s : State) : (l.foldl enablePf s).power = s.power := by
  induction l generalizing s with
  | nil => rfl
  | cons q l ih => rw [List.foldl_cons, ih, enablePf_power]

/-- Start-up has ended, and the PFs of ports that are not down are enabled (R1094, R1095). -/
def startedUp (s : State) : State :=
  (List.range 8).foldl enablePf (modPower (fun p => { p with started := true, startMs := (elapsed s).toNat / 16000000 }) s)

theorem startedUp_started (s : State) : (startedUp s).power.started = true := by
  rw [startedUp, foldl_enablePf_power, modPower]

theorem startedUp_enabled {s : State} {p : Nat} (hp : p < 8) (hd : (hport s p).st ≠ .down) : (func (startedUp s) (fnOf p 0)).enabled = true :=
  foldl_enablePf_enables (List.mem_range.2 hp) (by rwa [modPower_hport])

/-- Start-up ends once no domain that it waits for is still waking, and reports an entry without a valid record (R1094, R1035). -/
theorem startupDone_ends {s : State} (hs : s.power.started = false) (ht : s.power.tripped = false)
    (hw : ∀ x ∈ s.doms, startupWaits x.1 = true → x.2.boot = false) (late : Bool) :
    startupDone late s = startedUp s ∨ startupDone late s = raise 13 3 (startedUp s) := by
  have hnone : (s.doms.any fun p => startupWaits p.1 && p.2.boot) = false := by
    simp only [List.any_eq_false, Bool.and_eq_true, not_and, Bool.not_eq_true]
    exact hw
  simp only [startupDone, hs, ht, hnone, Bool.false_and, Bool.or_false, Bool.false_eq_true, if_false]
  split
  · exact .inl rfl
  · exact .inr rfl

theorem startupDone_completes {s : State} (hl : Live s) (hs : s.power.started = false) (ht : s.power.tripped = false)
    (hw : ∀ x ∈ s.doms, startupWaits x.1 = true → x.2.boot = false) (late : Bool) :
    Completes (.startupDone late) s fun t =>
      t.power.started = true ∧ ∀ p < 8, (hport s p).st ≠ .down → (func t (fnOf p 0)).enabled = true := by
  refine .of_act rfl hl ?_
  have hpower : (startupDone late s).power.started = true := by
    rcases startupDone_ends hs ht hw late with h | h <;> rw [h]
    · exact startedUp_started s
    · rw [raise_power, startedUp_started]
  have hpf : ∀ p < 8, (hport s p).st ≠ .down → (func (startupDone late s) (fnOf p 0)).enabled = true := by
    intro p hp hd
    rcases startupDone_ends hs ht hw late with h | h <;> rw [h]
    · exact startedUp_enabled hp hd
    · rw [raise_enabled, startedUp_enabled hp hd]
  exact ⟨hpower, hpf⟩

/-- Settles O49: each reset leaves the restart of its cause, and start-up ends with the PFs of its ports enabled. -/
theorem resetsStartTheModuleAgain : Obligations.ResetsStartTheModuleAgain := by
  unfold Obligations.ResetsStartTheModuleAgain
  exact ⟨
    fun _ hi hp => powerUp_completes hi hp,
    fun _ hi => inputRemoval_completes hi,
    fun _ hl hr => moduleResetPin_asserts hl.inputOk hr hl.pin,
    fun _ hi hp hr => moduleResetPin_releases hi hr hp,
    fun _ hl hd hr => moduleReset_completes hl hd hr,
    fun _ _ hl hv => moduleReset_other_word hl hv,
    fun _ hl hb => tideReset_completes hl hb,
    fun _ hl hb => tideReset_refused hl hb,
    fun _ late hl hs ht hw => startupDone_completes hl hs ht hw late⟩

end Sys2Proof.Machine

/-! ## Events, and registers that the Innkeeper reads -/

namespace Sys2Proof.Machine

open Sys2Proof

/-- A command that leaves more than a claim asks for. -/
theorem Completes.imp {c : Instr} {s : State} {P Q : State → Prop} (h : Completes c s P) (hpq : ∀ t, P t → Q t) : Completes c s Q := by
  obtain ⟨t, ht, hp⟩ := h
  exact ⟨t, ht, hpq t hp⟩

/-! ### Raising an event (R1058) -/

/-- The top byte of a word whose top byte is replaced. -/
theorem wfld_setFld_top (w : Word) (v : Nat) : wfld (setFld w 63 56 v) 63 56 = v % 256 := by
  have hw := w.isLt
  simp only [wfld, setFld, fld, BitVec.toNat_ofNat]
  omega

theorem wfld_evNext (w : Word) (i : Nat) : wfld (evNext w i) 63 56 = (wfld w 63 56 + 1) % 256 := by
  rw [evNext, wfld_setFld_top, Nat.mod_mod]

theorem getLsbD_evNext {j : Nat} (hj : j < 56) (w : Word) (i : Nat) : (evNext w i).getLsbD j = (w.getLsbD j || decide (j = i)) := by
  have hj64 : j < 64 := by omega
  rw [evNext, getLsbD_setFld_of_lt hj hj64, BitVec.getLsbD_or, BitVec.getLsbD_shiftLeft, BitVec.getLsbD_one]
  by_cases h : j = i
  · simp [h, h ▸ hj64]
  · simp [h]
    omega

theorem evReg_raise (b i : Nat) (s : State) : evReg (raise b i s) b = evNext (evReg s b) i := mget_mset_self _ _ _ _

theorem evReg_raise_ne {b c : Nat} (h : c ≠ b) (i : Nat) (s : State) : evReg (raise b i s) c = evReg s c := mget_mset_ne _ _ _ _ _ h

theorem evBit_raise_ne {b i j : Nat} (hj : j < 56) (h : j ≠ i) (s : State) : evBit (raise b i s) b j = evBit s b j := by
  simp only [evBit, evReg_raise, getLsbD_evNext hj, h, decide_false, Bool.or_false]

theorem raise_counts {b i : Nat} (hi : i < 56) (s : State) :
    wfld (evReg (raise b i s) b) 63 56 = (wfld (evReg s b) 63 56 + 1) % 256 ∧ evBit (raise b i s) b i = true ∧
    ∀ j, j < 56 → j ≠ i → evBit (raise b i s) b j = evBit s b j :=
  ⟨by rw [evReg_raise, wfld_evNext], evBit_raise hi b s, fun _ hj h => evBit_raise_ne hj h s⟩

/-! ### Words of bits -/

theorem bitsOf_succ (n : Nat) (f : Nat → Bool) : bitsOf (n + 1) f = bitsOf n f + b2n (f n) * 2 ^ n := by
  simp only [bitsOf, List.range_succ, List.foldl_append, List.foldl_cons, List.foldl_nil]

theorem bitsOf_lt (f : Nat → Bool) : ∀ n, bitsOf n f < 2 ^ n
  | 0 => Nat.one_pos
  | n + 1 => by
    have ih := bitsOf_lt f n
    rw [bitsOf_succ, Nat.pow_succ]
    cases f n <;> simp only [b2n] <;> simp <;> omega

theorem testBit_bitsOf {f : Nat → Bool} {n i : Nat} (h : i < n) : (bitsOf n f).testBit i = f i := by
  induction n with
  | zero => omega
  | succ n ih =>
    rw [bitsOf_succ, Nat.add_comm, Nat.mul_comm, Nat.testBit_two_pow_mul_add _ (bitsOf_lt f n)]
    split
    · exact ih ‹_›
    · obtain rfl : i = n := by omega
      cases f i <;> simp [b2n]

theorem getLsbD_img_bitsOf {f : Nat → Bool} {n i : Nat} (hn : n ≤ 64) (h : i < n) : (img (bitsOf n f)).getLsbD i = f i := by
  have h64 : i < 64 := by omega
  rw [img, BitVec.getLsbD_ofNat, testBit_bitsOf h]
  simp [h64]

/-! ### What the Innkeeper reads -/

/-- The Innkeeper reads the global registers while the device is not FATAL (R1037, R1038). -/
theorem barRead_global {s : State} {fn o : Nat} (hi : isInn s fn = true) (htrv : s.trv = []) (hf : s.errs.fatal = false) (hlo : 0x200000 ≤ o)
    (hhi : o < 0x1000000) : barRead s fn o = globalReg s o := by
  simp only [barRead, vote_nil htrv, barNow, hf, hi, Bool.false_eq_true]
  rw [if_neg (by omega), if_neg (by simp), if_neg (by omega), if_neg (by omega), if_neg (by omega), if_pos hlo, if_pos (by simp)]

theorem globalReg_eventSum (s : State) : globalReg s 0x200010 = eventSum s := rfl

theorem globalReg_hpEvent (s : State) {p : Nat} (hp : p < 8) : globalReg s (0x280008 + 0x1000 * p) = evReg s (16 + p) := by
  have hport : (0x280008 + 0x1000 * p - 0x280000) / 0x1000 = p := by omega
  have hoff : (0x280008 + 0x1000 * p) % 0x1000 = 8 := by omega
  simp only [globalReg, Bool.and_eq_true, decide_eq_true_eq]
  iterate 9 rw [if_neg (by omega)]
  rw [if_pos (by omega), if_pos (by omega), hport, hoff, hpReg]

theorem globalReg_fpEvent (s : State) {p : Nat} (hp : p < 32) : globalReg s (0x300010 + 0x1000 * p) = evReg s (24 + p) := by
  have hport : (0x300010 + 0x1000 * p - 0x300000) / 0x1000 = p := by omega
  have hoff : (0x300010 + 0x1000 * p) % 0x1000 = 16 := by omega
  simp only [globalReg, Bool.and_eq_true, decide_eq_true_eq]
  iterate 8 rw [if_neg (by omega)]
  rw [if_pos (by omega), if_pos (by omega), hport, hoff, fpReg]

/-- A bit of GLB_EVENT_SUM shows whether its block holds an event bit (R1066). -/
theorem getLsbD_eventSum (s : State) {b : Nat} (hb : b < 56) (h14 : b ≠ 14) (h15 : b ≠ 15) :
    (eventSum s).getLsbD b = decide (wfld (evReg s b) 55 0 ≠ 0) := by
  rw [eventSum, getLsbD_img_bitsOf (by decide) hb, sumBit, evAny, Bool.eq_iff_iff]
  simp [h14, h15]

end Sys2Proof.Machine

/-! ## A step, and the tide tables -/

namespace Sys2Proof.Machine

open Sys2Proof

/-! ### One step -/

theorem step_cons (c : Instr) (l : List Instr) (s : State) : step (s.withPending (c :: l)) = exec c (s.withPending l) := rfl

theorem step_idle {s : State} (h : s.pending = []) : step s = .next (idle s) := by rw [step, h]

/-- Settles O52: a step takes the front of the queue, or is the idle cycle. -/
theorem stepRunsTheFrontCommand : Obligations.StepRunsTheFrontCommand := by
  unfold Obligations.StepRunsTheFrontCommand
  refine ⟨step_cons, fun s hp hi => ?_, fun s hp hi => ?_⟩
  · rw [step_idle hp, idle, if_pos hi]
  · rw [step_idle hp, idle, if_neg (by rw [hi]; exact Bool.false_ne_true)]

/-! ### Buffered fields (R112 to R115) -/

theorem rdEff_of_none {s : State} {off : Nat} (h : mfind s.eff off = none) (rst : Nat) : rdEff s off rst = rd s off rst := by rw [rdEff, h]

/-- At its boundary the write that stands comes into force: no value before it is kept, and the register stays as written. -/
theorem bufTakeEffect_at_boundary {s : State} {off : Nat} {b : Boundary} (h : mfind s.bufs off = some b) (p : Nat) :
    (bufTakeEffect off p b s).eff = mdel s.eff off ∧ (bufTakeEffect off p b s).regs = s.regs := by
  simp only [bufTakeEffect, h, decide_true, Bool.true_or, if_true]
  split <;> exact ⟨rfl, rfl⟩

theorem bufTakeEffect_completes {s : State} (hl : Live s) {off : Nat} {b : Boundary} (h : mfind s.bufs off = some b) (p : Nat) :
    Completes (.bufTakeEffect off p b) s fun t => ∀ rst, rdEff t off rst = rd s off rst ∧ rd t off rst = rd s off rst := by
  obtain ⟨heff, -⟩ := bufTakeEffect_at_boundary h p
  refine .of_act rfl hl fun rst => ⟨?_, rfl⟩
  refine rdEff_of_none ?_ rst
  exact heff ▸ mfind_mdel_self s.eff off

/-- Of two writes of a buffered field before its boundary only the later takes effect (R114). -/
theorem bufTakeEffect_later_completes {s : State} (hl : Live s) (off rst p : Nat) (v w : Word) (b : Boundary) :
    Completes (.bufTakeEffect off p b) (wrBuf off rst w b (wrBuf off rst v b s)) fun t => rdEff t off rst = w ∧ rd t off rst = w := by
  have hlive : Live (wrBuf off rst w b (wrBuf off rst v b s)) := hl
  have hw : rd (wrBuf off rst w b (wrBuf off rst v b s)) off rst = w := mget_mset_self _ _ _ _
  refine (bufTakeEffect_completes hlive (mfind_mset_self _ _ _) p).imp fun t ht => ?_
  obtain ⟨heff, hreg⟩ := ht rst
  exact ⟨heff.trans hw, hreg.trans hw⟩

/-! ### A port as the tide unit sees it -/

@[simp] theorem tport_modTport (p : Nat) (f : TidePort → TidePort) (s : State) : tport (modTport p f s) p = f (tport s p) := mget_mmod_self _ _ _ _

@[simp] theorem tport_raise (b i p : Nat) (s : State) : tport (raise b i s) p = tport s p := rfl

/-- What a command that may change the tide unit leaves of a port. -/
theorem tport_keep {l : List Piece} (h : l.contains .tide = true) (s r : State) (p : Nat) : tport (keep l s r) p = tport r p := by
  rw [tport, keep_tide, if_pos h, tport]

/-! ### Committing a table (R97, R99) -/

/-- The set that a commit makes pending, with the time at which it counts as changed. -/
def adminSet (s : State) (p : Nat) : Gcl × Word :=
  ({ base := rd s (0x490008 + 0x2000 * p) 0, cycle := wfld (rd s (0x490010 + 0x2000 * p) 0) 29 0, entries := adminEntries s p (wfld (gclCtrl s p) 40 32) },
   if reached (rd s (0x490018 + 0x2000 * p) 0) s.tide.count then s.tide.count else rd s (0x490018 + 0x2000 * p) 0)

section
variable {s : State} {fn p : Nat} (hi : isInn s fn = true)
include hi

theorem tdGclCommit_good (hb : commitBad s p = false) :
    tdGclCommit fn p s = modTport p (fun x => { x with cfgErr := false, pend := some (adminSet s p) }) s := by
  simp only [tdGclCommit, hi, hb, Bool.not_true, Bool.false_eq_true, if_false]
  rfl

theorem tdGclCommit_bad (hb : commitBad s p = true) : tdGclCommit fn p s = raise 0 7 (modTport p (fun x => { x with cfgErr := true }) s) := by
  simp only [tdGclCommit, hi, hb, Bool.not_true, Bool.false_eq_true, if_false, if_true]

variable (hl : Live s)
include hl

/-- A well-formed set becomes the pending one, in place of an earlier one (R100). -/
theorem tdGclCommit_good_completes (hb : commitBad s p = false) : Completes (.tdGclCommit fn p) s fun t =>
      (tport t p).cfgErr = false ∧ (tport t p).oper = (tport s p).oper ∧ (tport t p).pend = some (adminSet s p) := by
  refine .of_act rfl hl ?_
  rw [tdGclCommit_good hi hb, tport_keep rfl, tport_modTport]
  exact ⟨rfl, rfl, rfl⟩

theorem tdGclCommit_bad_completes (hb : commitBad s p = true) : Completes (.tdGclCommit fn p) s fun t =>
      (tport t p).cfgErr = true ∧ (tport t p).oper = (tport s p).oper ∧ (tport t p).pend = (tport s p).pend ∧ evBit t 0 7 = true := by
  refine .of_act rfl hl ?_
  rw [tdGclCommit_bad hi hb, tport_keep rfl, tport_raise, tport_modTport]
  exact ⟨rfl, rfl, rfl, evBit_raise (by decide) 0 _⟩

end

/-! ### Events, buffered fields, gates and pending sets together -/

/-- Settles O59: events count, the Innkeeper reads them in their registers, and a later write or commit takes the place of an earlier one. -/
theorem eventsFieldsAndGatesFollowTheirRules : Obligations.EventsFieldsAndGatesFollowTheirRules := by
  unfold Obligations.EventsFieldsAndGatesFollowTheirRules
  refine ⟨fun s _ _ hi => raise_counts hi s, fun s _ _ hi ht hf hb h14 h15 => ?_, fun s _ _ hi ht hf hp => ?_, fun s _ _ hi ht hf hp => ?_,
    fun s off rst p v w b hl => ⟨?_, bufTakeEffect_later_completes hl off rst p v w b⟩, fun s p hg => ?_, fun s fn p old hl hi hb _ => ?_⟩
  · rw [barRead_global hi ht hf (by decide) (by decide), globalReg_eventSum, getLsbD_eventSum s hb h14 h15]
  · rw [barRead_global hi ht hf (by omega) (by omega), globalReg_hpEvent s hp]
  · rw [barRead_global hi ht hf (by omega) (by omega), globalReg_fpEvent s hp]
  · rw [rdEff_wrBuf, rdEff_wrBuf]
  · simp only [gclOn, gclCtrl] at hg
    simp only [gatesOpen, hg, Bool.not_false, if_true]
  · exact (tdGclCommit_good_completes hi hl hb).imp fun _ ⟨_, _, hpend⟩ => hpend

/-! ### Switching, gates and slack water (R92, R93, R97, R98, R102 to R104) -/

theorem tableSwitched_reached {s : State} {p : Nat} {g : Gcl} {c : Word} (hp : (tport s p).pend = some (g, c))
    (hr : reached (cycleStart (tport s p).oper c) s.tide.count = true) : tableSwitched p s =
      raise 0 6 (modTport p (fun x => { x with oper := g, pend := none, switchAt := some (cycleStart g (cycleStart (tport s p).oper c)) }) s) := by
  simp only [tableSwitched, switchTime, hp, Option.map_some, hr, if_true]

theorem tableSwitched_completes {s : State} {p : Nat} (hl : Live s) {g : Gcl} {c : Word} (hp : (tport s p).pend = some (g, c))
    (hr : reached (cycleStart (tport s p).oper c) s.tide.count = true) : Completes (.tableSwitched p) s fun t =>
      (tport t p).oper = g ∧ (tport t p).pend = none ∧ (tport t p).gates = (tport s p).gates ∧
      (tport t p).switchAt = some (cycleStart g (cycleStart (tport s p).oper c)) ∧ evBit t 0 6 = true := by
  refine .of_act rfl hl ?_
  rw [tableSwitched_reached hp hr, tport_keep rfl, tport_raise, tport_modTport]
  exact ⟨rfl, rfl, rfl, rfl, evBit_raise (by decide) 0 _⟩

theorem getLsbD_or_bit (m : BitVec 8) (c : Nat) {d : Nat} (hd : d < 8) : (m ||| (1#8 <<< c)).getLsbD d = (m.getLsbD d || decide (d = c)) := by
  rw [BitVec.getLsbD_or, BitVec.getLsbD_shiftLeft, BitVec.getLsbD_one]
  by_cases h : d = c
  · simp [h, h ▸ hd]
  · simp [h]
    omega

/-- Setting the bits of a list that a condition picks. -/
theorem getLsbD_foldl_setBits (f : Nat → Bool) {d : Nat} (hd : d < 8) (l : List Nat) (m : BitVec 8) :
    (l.foldl (fun m c => if f c then m ||| (1#8 <<< c) else m) m).getLsbD d = (m.getLsbD d || (l.contains d && f d)) := by
  induction l generalizing m with
  | nil => simp
  | cons c l ih =>
    rw [List.foldl_cons, ih, List.contains_cons]
    split
    · next hc =>
      rw [getLsbD_or_bit m c hd]
      by_cases h : d = c
      · simp [h, hc]
      · simp [beq_false_of_ne h, h]
    · next hc =>
      by_cases h : d = c
      · simp [h, hc]
      · simp [beq_false_of_ne h]

/-- The slack water of a port: of the classes whose gates are open, those whose gates close within it (R104). -/
theorem getLsbD_slackMask (s : State) (p : Nat) {c : Nat} (hc : c < 8) :
    (slackMask s p).getLsbD c = ((tport s p).gates.getLsbD c && closesWithin (tport s p) s.tide.count c (slackNs s p c * 16)) := by
  rw [slackMask, getLsbD_foldl_setBits _ hc]
  simp [List.contains_eq_mem, hc, slackNow]

/-- At an entry boundary a table that runs, and waits for no first cycle start, takes the gates of its entry and the slack water that follows. -/
theorem gateEntryBoundary_runs {s : State} {p : Nat} (hg : gclOn s p = true)
    (hw : (tport s p).switchAt.all (fun w => reached w s.tide.count) = true) :
    ∃ s1, s1 = modTport p (fun x => { x with gates := gatesAt x.oper s.tide.count, switchAt := none }) s ∧
      gateEntryBoundary p s = modTport p (fun x => { x with slack := slackMask s1 p }) s1 := by
  refine ⟨_, rfl, ?_⟩
  cases hs : (tport s p).switchAt with
  | none => simp [gateEntryBoundary, hg, hs]
  | some w =>
    rw [hs, Option.all_some] at hw
    simp [gateEntryBoundary, hg, hs, hw]

theorem gateEntryBoundary_completes {s : State} {p : Nat} (hl : Live s) (hg : gclOn s p = true)
    (hw : (tport s p).switchAt.all (fun w => reached w s.tide.count) = true) : Completes (.gateEntryBoundary p) s fun t =>
      (tport t p).gates = gatesAt (tport s p).oper s.tide.count ∧ (tport t p).oper = (tport s p).oper ∧
      ∀ c, c < 8 → (tport t p).slack.getLsbD c =
        ((tport t p).gates.getLsbD c && closesWithin (tport t p) s.tide.count c (slackNs s p c * 16)) := by
  obtain ⟨s1, hs1, he⟩ := gateEntryBoundary_runs hg hw
  refine .of_act rfl hl ?_
  have ht : tport (keep [.tide] s (gateEntryBoundary p s)) p = { tport s1 p with slack := slackMask s1 p } := by
    rw [tport_keep rfl, he, tport_modTport]
  have hp1 : tport s1 p = { tport s p with gates := gatesAt (tport s p).oper s.tide.count, switchAt := none } := by rw [hs1, tport_modTport]
  rw [ht]
  refine ⟨by rw [hp1], by rw [hp1], fun c hc => ?_⟩
  rw [getLsbD_slackMask s1 p hc, hs1]
  rfl

theorem slackWaterStart_closes {s : State} {p c : Nat} (hg : gclOn s p = true) (hc : c < 8) (ho : (tport s p).gates.getLsbD c = true)
    (hcl : closesWithin (tport s p) s.tide.count c (slackNs s p c * 16) = true) :
    slackWaterStart p c s = modTport p (fun x => { x with slack := x.slack ||| (1#8 <<< c) }) s := by
  simp [slackWaterStart, slackNow, hg, hc, ho, hcl]

theorem slackWaterStart_completes {s : State} {p c : Nat} (hl : Live s) (hg : gclOn s p = true) (hc : c < 8) (ho : (tport s p).gates.getLsbD c = true)
    (hcl : closesWithin (tport s p) s.tide.count c (slackNs s p c * 16) = true) : Completes (.slackWaterStart p c) s fun t =>
      (tport t p).slack.getLsbD c = true ∧ ∀ d, d ≠ c → (tport t p).slack.getLsbD d = (tport s p).slack.getLsbD d := by
  refine .of_act rfl hl ?_
  rw [slackWaterStart_closes hg hc ho hcl, tport_keep rfl, tport_modTport]
  refine ⟨by rw [getLsbD_or_bit _ c hc]; simp, fun d hd => ?_⟩
  by_cases h8 : d < 8
  · simp [getLsbD_or_bit _ c h8, hd]
  · rw [BitVec.getLsbD_of_ge _ _ (by omega), BitVec.getLsbD_of_ge _ _ (by omega)]

/-- Settles O4: each command of a tide table has one equation, which its port's record is read from. -/
theorem tideTablesSwitch : Obligations.TideTablesSwitch := by
  unfold Obligations.TideTablesSwitch
  refine ⟨fun s fn p hl hi hb => ?_, fun _ _ _ hl hi hb => tdGclCommit_bad_completes hi hl hb, fun _ _ _ _ hl hp hr => tableSwitched_completes hl hp hr,
    fun _ _ hl hg hw => gateEntryBoundary_completes hl hg hw, fun _ _ _ hl hg hc ho hcl => slackWaterStart_completes hl hg hc ho hcl,
    fun _ _ p _ hl hb => bufTakeEffect_completes hl hb p⟩
  exact (tdGclCommit_good_completes hi hl hb).imp fun _ ⟨hcfg, hoper, hpend⟩ => ⟨hcfg, hoper, _, _, hpend, rfl, rfl, rfl, rfl⟩

end Sys2Proof.Machine

/-! ## Tide time: steering, reading, and the ordinary clock -/

namespace Sys2Proof.Machine

open Sys2Proof

/-! ### What steering leaves (R68 to R71, R84, R87) -/

/-- The tide unit without what steering changes: its state, source, master, rate, and what the loops have measured. -/
def Tide.unsteered (t : Tide) : Tide :=
  { t with
    st := .freerun, src := .free, rate := 0, rateLog := [], samples := [], goodRun := 0, badRun := 0, firstDone := false, extLocked := false
    holdAt := 0, holdHops := 0, isMaster := false, parent := none, mRef := 0, mNode := 0, mPrio := 0, hops := 0, outOfBudget := false }

/-- A state as steering leaves it: the rest of the tide unit, and the fabric ports, are as they were. -/
def Steered (s t : State) : Prop := t.tide.unsteered = s.tide.unsteered ∧ t.fports = s.fports

theorem Steered.refl (s : State) : Steered s s := ⟨rfl, rfl⟩

section
variable {s t : State} (h : Steered s t)
include h

theorem Steered.trans {u : State} (h' : Steered t u) : Steered s u := by
  obtain ⟨htide, hports⟩ := h
  obtain ⟨htide', hports'⟩ := h'
  exact ⟨htide'.trans htide, hports'.trans hports⟩

theorem Steered.unsteered : t.tide.unsteered = s.tide.unsteered := by
  obtain ⟨htide, -⟩ := h
  exact htide

theorem Steered.fport (p : Nat) : fport t p = fport s p := by
  obtain ⟨-, hports⟩ := h
  rw [Machine.fport, hports, Machine.fport]

theorem Steered.count : t.tide.count = s.tide.count := (congrArg Tide.count h.unsteered :)
theorem Steered.ports : t.tide.ports = s.tide.ports := (congrArg Tide.ports h.unsteered :)
theorem Steered.tport (p : Nat) : tport t p = tport s p := by rw [Machine.tport, h.ports, Machine.tport]
theorem Steered.extOk : t.tide.extOk = s.tide.extOk := (congrArg Tide.extOk h.unsteered :)
theorem Steered.ppsRejects : t.tide.ppsRejects = s.tide.ppsRejects := (congrArg Tide.ppsRejects h.unsteered :)
theorem Steered.ppsRejectCount : t.tide.ppsRejectCount = s.tide.ppsRejectCount := (congrArg Tide.ppsRejectCount h.unsteered :)
theorem Steered.nextPps : t.tide.nextPps = s.tide.nextPps := (congrArg Tide.nextPps h.unsteered :)
theorem Steered.ptpOk : t.tide.ptpOk = s.tide.ptpOk := (congrArg Tide.ptpOk h.unsteered :)
theorem Steered.ptpOff : t.tide.ptpOff = s.tide.ptpOff := (congrArg Tide.ptpOff h.unsteered :)

end

theorem steered_modTide {f : Tide → Tide} (hf : ∀ t, (f t).unsteered = t.unsteered) (s : State) : Steered s (modTide f s) := ⟨hf s.tide, rfl⟩
theorem steered_tideRec (kind : Nat) (off : Int) (s : State) : Steered s (tideRec kind off s) := ⟨rfl, rfl⟩
theorem steered_toAcquire (s : State) : Steered s (toAcquire s) := ⟨rfl, rfl⟩
theorem steered_toLocked (s : State) : Steered s (toLocked s) := ⟨rfl, rfl⟩
theorem steered_toHoldover (rate : Int) (hops : Nat) (s : State) : Steered s (toHoldover rate hops s) := ⟨rfl, rfl⟩
theorem steered_nextBeacon (s : State) : Steered s (nextBeacon s) := ⟨rfl, rfl⟩

theorem steered_reselect (hops : Nat) (s : State) : Steered s (reselect hops s) := by
  simp only [reselect]
  split
  · split
    · exact steered_modTide (fun _ => rfl) s
    · exact (steered_modTide (fun _ => rfl) s).trans (steered_toAcquire _)
  · exact steered_modTide (fun _ => rfl) s
  · split
    · exact steered_toHoldover _ _ s
    · exact steered_modTide (fun _ => rfl) s
  · split
    · exact .refl s
    · exact steered_modTide (fun _ => rfl) s

/-- What may be reported of a change steers nothing. -/
theorem Steered.ite_raise {s t : State} (h : Steered s t) (c : Prop) [Decidable c] (b i : Nat) : Steered s (if c then raise b i t else t) := by
  split <;> exact h

theorem Steered.ite_tideRec {s t : State} (h : Steered s t) (c : Prop) [Decidable c] (kind : Nat) (off : Int) :
    Steered s (if c then tideRec kind off t else t) := by
  split <;> exact h

theorem steered_elect (s : State) : Steered s (elect s) := by
  simp only [elect]
  refine Steered.trans (.ite_tideRec (.ite_raise (.ite_raise ?_ _ 0 3) _ 0 2) _ 0xC2 _) (steered_reselect _ _)
  exact steered_modTide (fun _ => rfl) s

/-- A sample joins those of the source, and a run of good ones may lock the unit. -/
theorem steered_sample {f : Tide → Tide} (hf : ∀ t, (f t).unsteered = t.unsteered) (c : Prop) [Decidable c] (s : State) :
    Steered s (if c then toLocked (modTide f s) else modTide f s) := by
  split
  · exact (steered_modTide hf s).trans (steered_toLocked _)
  · exact steered_modTide hf s

theorem steered_offsetSample (off : Int) (s : State) : Steered s (offsetSample off s) := by
  simp only [offsetSample]
  split
  · exact steered_sample (by exact fun _ => rfl) _ s
  · exact steered_modTide (fun _ => rfl) s
  · split
    · exact (steered_tideRec _ _ s).trans (steered_toAcquire _)
    · exact steered_sample (by exact fun _ => rfl) _ s
  · exact .refl s

theorem steered_discipline (freq : Int) (s : State) : Steered s (discipline freq s) := by
  rw [discipline]
  split
  · exact steered_modTide (fun _ => rfl) s
  · exact .refl s

/-! ### The ordinary clock (R78) -/

/-- A slave clock keeps its master while its announcements come. -/
theorem ptpExpire_slave {s : State} (hon : obj s 0x4004 2 0 ≠ 0) (hm : ptpMaster s = false)
    (hh : (s.tide.count - s.tide.ptpHeard).toNat ≤ 96000000000) : ptpExpire s = s := by
  rw [ptpExpire, if_neg]
  simp only [hon, hm, decide_false, Bool.false_or, Bool.and_eq_true, decide_eq_true_eq, not_and]
  omega

/-- A master that follows no one has nothing to lose. -/
theorem ptpExpire_master {s : State} (hok : s.tide.ptpOk = false) (hb : s.tide.ptpBest = none) : ptpExpire s = s := by
  rw [ptpExpire, if_neg]
  simp only [hok, hb, Option.isSome_none, Bool.or_self, Bool.and_false, Bool.false_eq_true, not_false_eq_true]

/-- An offset from PTP stays until the next, whatever the unit makes of it. -/
theorem ptpOffset_leaves (ns : Int) (s : State) : (ptpOffset ns s).tide.ptpOff = ns ∧ (ptpOffset ns s).tide.ptpOk = true := by
  have h : Steered (modTide (fun t => { t with ptpOk := true, ptpOff := ns }) s) (ptpOffset ns s) := by
    simp only [ptpOffset]
    split
    · exact (steered_reselect _ _).trans (steered_offsetSample _ _)
    · exact steered_reselect _ _
  exact ⟨h.ptpOff, h.ptpOk⟩

section
variable {s : State} {m : PtpMsg} (hl : Live s) (hon : obj s 0x4004 2 0 ≠ 0) (hd : m.domain = obj s 0x4004 1 0) (ht : m.transport = obj s 0x4004 3 1)
include hon hd ht

/-- The clock serves a message of its domain and transport. -/
theorem ptpMessage_serves (he : ptpExpire s = s) : ptpMessage m s = ptpServe m s := by
  simp only [ptpMessage, he, hon, hd, ht, decide_false, ne_eq, not_true_eq_false, Bool.or_self, Bool.false_eq_true, if_false]

include hl

theorem ptpMessage_completes {P : State → Prop} (he : ptpExpire s = s) (hp : P (keep (scopeOf (.ptpMessage m)) s (ptpServe m s))) :
    Completes (.ptpMessage m) s P := by
  refine .of_act rfl hl ?_
  rw [ptpMessage_serves hon hd ht he]
  exact hp

theorem ptpMessage_delayReq_completes (hk : m.kind = .delayReq) (hm : ptpMaster s = true) (hok : s.tide.ptpOk = false) (hb : s.tide.ptpBest = none) :
    Completes (.ptpMessage m) s fun t => t.out = .ptp { m with kind := .delayResp, originNs := m.rxNs, rxNs := 0 } :: s.out := by
  refine ptpMessage_completes hl hon hd ht (ptpExpire_master hok hb) ?_
  simp only [ptpServe, hk, hm, if_true]
  rfl

variable (hm : ptpMaster s = false) (hf : fromBest s m = true) (hh : (s.tide.count - s.tide.ptpHeard).toNat ≤ 96000000000)
include hm hf hh

theorem ptpMessage_syncTwoStep_completes (hk : m.kind = .syncTwoStep) :
    Completes (.ptpMessage m) s fun t => t.tide.ptpT2 = m.rxNs ∧ t.tide.ptpSeq = m.seq ∧ t.tide.ptpTwoStep = true := by
  refine ptpMessage_completes hl hon hd ht (ptpExpire_slave hon hm hh) ?_
  simp only [ptpServe, hk, hm, hf, Bool.not_false, Bool.and_self, if_true]
  exact ⟨rfl, rfl, rfl⟩

theorem ptpMessage_sync_completes (hk : m.kind = .sync) {d : Int} (hp : s.tide.ptpPeerDelay = some d) :
    Completes (.ptpMessage m) s fun t => t.tide.ptpOff = m.rxNs - m.originNs - d ∧ t.tide.ptpOk = true := by
  refine ptpMessage_completes hl hon hd ht (ptpExpire_slave hon hm hh) ?_
  simp only [ptpServe, hk, hm, hf, Bool.not_false, Bool.and_self, if_true, ptpSync, hp]
  exact ptpOffset_leaves _ _

end

section
variable {s : State} (hl : Live s) (hon : obj s 0x4004 2 0 ≠ 0)
include hl hon

theorem ptpSend_slave_completes (hm : ptpMaster s = false) (hh : (s.tide.count - s.tide.ptpHeard).toNat ≤ 96000000000) :
    Completes .ptpSyncDelayReqSend s fun t => t.tide.ptpT3 = ptpNow s ∧ t.tide.ptpP1 = ptpNow s ∧
      ∃ m r : PtpMsg, t.out = .ptp r :: .ptp m :: s.out ∧ m.kind = .delayReq ∧ r.kind = .pdelayReq := by
  refine .of_act rfl hl ?_
  simp only [ptpSend, ptpExpire_slave hon hm hh, hon, hm, Bool.false_eq_true, if_false]
  exact ⟨rfl, rfl, _, _, rfl, rfl, rfl⟩

theorem ptpSend_master_completes (hm : ptpMaster s = true) (hok : s.tide.ptpOk = false) (hb : s.tide.ptpBest = none) :
    Completes .ptpSyncDelayReqSend s fun t =>
      ∃ a m f : PtpMsg, t.out = .ptp f :: .ptp m :: .ptp a :: s.out ∧ a.kind = .announce ∧ m.kind = .syncTwoStep ∧ f.kind = .followUp ∧
        f.originNs = ptpNow s ∧ f.seq = m.seq := by
  refine .of_act rfl hl ?_
  simp only [ptpSend, ptpExpire_master hok hb, hon, hm, if_true, if_false]
  exact ⟨_, _, _, rfl, rfl, rfl, rfl, rfl, rfl⟩

end

/-! ### Reads of tide time (R63, R65) -/

theorem toNat_nowRes (s : State) : (nowRes s).toNat = s.tide.count.toNat / 16 * 16 := by
  have h := s.tide.count.isLt
  rw [nowRes, BitVec.toNat_ofNat]
  omega

theorem wfld_nowRes_low (s : State) : wfld (nowRes s) 31 0 = s.tide.count.toNat / 16 * 16 % 2 ^ 32 := by
  simp only [wfld, fld, toNat_nowRes, Nat.pow_zero, Nat.div_one]

theorem wfld_nowRes_high (s : State) : wfld (nowRes s) 63 32 = s.tide.count.toNat / 2 ^ 32 := by
  have h := s.tide.count.isLt
  simp only [wfld, fld, toNat_nowRes]
  omega

/-- A command that FATAL does not stop acts on a powered block whose critical fields need no vote, or are not voted (R976). -/
theorem Completes.of_powered {c : Instr} {s : State} {P : State → Prop} {l : List Piece} {f : State → State} (hc : exec c s = actAlways l f s)
    (hu : unpowered s = false) (hv : s.trv = [] ∨ s.errs.fatal = true) (hp : P (keep l s (f s))) : Completes c s P := by
  refine ⟨keep l s (f s), ?_, hp⟩
  rw [hc, actAlways, hu]
  rcases hv with hv | hv
  · simp only [vote_nil hv, Bool.false_eq_true, if_false, ite_self]
  · simp only [hv, Bool.false_eq_true, if_false, if_true]

section
variable {s : State} (hu : unpowered s = false) (hv : s.trv = [] ∨ s.errs.fatal = true) (fn : Nat)
include hu hv

theorem tideNowRead_full_completes : Completes (.tideNowRead fn true .full) s fun t =>
      t.out = .readData fn (BitVec.ofNat 64 (s.tide.count.toNat / 16 * 16)) :: s.out :=
  .of_powered rfl hu hv rfl

/-- A read of the low half latches the high half for its function. -/
theorem tideNowRead_low_completes : Completes (.tideNowRead fn true .low) s fun t =>
      t.out = .readData fn (BitVec.ofNat 64 (s.tide.count.toNat / 16 * 16 % 2 ^ 32)) :: s.out ∧
      (func t fn).latchGlb = some (s.tide.count.toNat / 2 ^ 32) := by
  have hr : tideNowRead fn true .low s = emit (.readData fn (BitVec.ofNat 64 (wfld (nowRes s) 31 0)))
      (modFunc fn (fun f => { f with latchGlb := some (wfld (nowRes s) 63 32) }) s) := rfl
  refine .of_powered rfl hu hv ?_
  rw [hr, wfld_nowRes_low, wfld_nowRes_high]
  exact ⟨rfl, by simp⟩

/-- The read of the high half that follows returns what was latched, and uses it up. -/
theorem tideNowRead_high_completes {h : Nat} (hh : (func s fn).latchGlb = some h) : Completes (.tideNowRead fn true .high) s fun t =>
      t.out = .readData fn (BitVec.ofNat 64 h) :: s.out ∧ (func t fn).latchGlb = none := by
  have hr : tideNowRead fn true .high s = emit (.readData fn (BitVec.ofNat 64 ((func s fn).latchGlb.getD (wfld (nowRes s) 63 32))))
      (modFunc fn (fun f => { f with latchGlb := none }) s) := rfl
  refine .of_powered rfl hu hv ?_
  rw [hr, hh]
  exact ⟨rfl, by simp⟩

end

theorem tideNowRead_block_high {s : State} {fn : Nat} (hi : isInn s fn = true) (hf : s.errs.fatal = false) : tideNowRead fn false .high s =
    emit (.readData fn (BitVec.ofNat 64 ((func s fn).latchTd.getD (wfld (nowRes s) 63 32)))) (modFunc fn (fun f => { f with latchTd := none }) s) := by
  simp only [tideNowRead, hi, hf, Bool.not_false, Bool.not_true, Bool.or_self, Bool.and_false, Bool.false_eq_true, if_false]
  rfl

theorem tideNowRead_block_high_completes {s : State} (hl : Live s) {fn h : Nat} (hi : isInn s fn = true) (hh : (func s fn).latchTd = some h) :
    Completes (.tideNowRead fn false .high) s fun t => t.out = .readData fn (BitVec.ofNat 64 h) :: s.out ∧ (func t fn).latchTd = none := by
  have ⟨hf, _, _⟩ := hl
  refine .of_actAlways rfl hl ?_
  rw [tideNowRead_block_high hi hf, hh]
  exact ⟨rfl, by simp⟩

/-- The tide block answers the Innkeeper alone (R1038). -/
theorem tideNowRead_block_guest_completes {s : State} (hl : Live s) {fn : Nat} (hi : isInn s fn = false) (part : Part) :
    Completes (.tideNowRead fn false part) s fun t => t.out = .readData fn 0 :: s.out := by
  refine .of_actAlways rfl hl ?_
  have hr : tideNowRead fn false part s = emit (.readData fn 0) s := by
    simp only [tideNowRead, hi, Bool.not_false, Bool.true_or, Bool.and_self, if_true]
  rw [hr]
  rfl

/-- Settles O3: the clock serves what its domain and transport bring, and a read of tide time latches and uses up its half. -/
theorem timeIsReadAndServed : Obligations.TimeIsReadAndServed := by
  unfold Obligations.TimeIsReadAndServed
  exact ⟨
    fun _ _ hl hon hd ht hk hm hf hh => ptpMessage_syncTwoStep_completes hl hon hd ht hm hf hh hk,
    fun _ _ _ hl hon hd ht hk hm hf hh hp => ptpMessage_sync_completes hl hon hd ht hm hf hh hk hp,
    fun _ _ hl hon hd ht hk hm hok hb => ptpMessage_delayReq_completes hl hon hd ht hk hm hok hb,
    fun _ hl hon hm hh => ptpSend_slave_completes hl hon hm hh,
    fun _ hl hon hm hok hb => ptpSend_master_completes hl hon hm hok hb,
    fun _ fn hu hv => tideNowRead_full_completes hu hv fn,
    fun _ fn hu hv => tideNowRead_low_completes hu hv fn,
    fun _ fn _ hu hv hh => tideNowRead_high_completes hu hv fn hh,
    fun _ _ _ hl hi hh => tideNowRead_block_high_completes hl hi hh,
    fun _ _ part hl hi => tideNowRead_block_guest_completes hl hi part⟩

end Sys2Proof.Machine

/-! ## Beacons -/

namespace Sys2Proof.Machine

open Sys2Proof

/-! ### Sending (R79 to R81) -/

/-- A port whose lanes are ready and that sends nothing sends its beacon at once (R80). -/
theorem beaconSend_idle {s : State} {p : Nat} (hd : (fport s p).direct = true) (hu : (fport s p).st = .up) (hr : lanesReady s p 0 = true)
    (hi : (fport s p).leaving = none) : beaconSend p s = sendBeacon p s := by
  simp only [beaconSend, hd, hu, hr, hi, beq_self_eq_true, Bool.and_self, if_true]

/-- The beacon that a port sends in a state in which the device has adopted its master (R69, R81). -/
def beaconFrom (p : Nat) (s : State) : Beacon :=
  { locked := s.tide.st == .locked || s.tide.isMaster, holdover := s.tide.st == .holdover, master := s.tide.isMaster, ref := s.tide.mRef == 0
    hops := s.tide.hops, seq := (tport s p).txSeq.toNat, node := s.tide.mNode, prio := s.tide.mPrio, echoSeq := (tport s p).rxSeq.toNat
    txTime := s.tide.count, echoTx := (tport s p).rxTx, echoRx := (tport s p).rxTime }

theorem sendBeacon_elected (p : Nat) (s : State) : ∃ e, Steered s e ∧ sendBeacon p s =
    emit (.beacon p (linkFrame 2 (beaconBytes (beaconFrom p e))))
      (modTport p (fun x => { x with txSeq := x.txSeq + 1, sent := ((x.txSeq, e.tide.count) :: x.sent).take 8 }) e) :=
  ⟨elect (nextBeacon s), (steered_nextBeacon s).trans (steered_elect _), rfl⟩

theorem beaconSend_completes {s : State} {p : Nat} (hl : Live s) (hd : (fport s p).direct = true) (hu : (fport s p).st = .up)
    (hr : lanesReady s p 0 = true) (hi : (fport s p).leaving = none) : Completes (.beaconSend p) s fun t =>
      (∃ b : Beacon, t.out.head? = some (.beacon p (linkFrame 2 (beaconBytes b))) ∧ b.version = 1 ∧ b.kind = 1 ∧ b.txTime = s.tide.count ∧
        b.seq = (tport s p).txSeq.toNat ∧ b.echoSeq = (tport s p).rxSeq.toNat ∧ b.echoTx = (tport s p).rxTx ∧
        b.echoRx = (tport s p).rxTime ∧ b.node = t.tide.mNode ∧ b.prio = t.tide.mPrio ∧ b.hops = t.tide.hops ∧ b.master = t.tide.isMaster) ∧
      (tport t p).txSeq = (tport s p).txSeq + 1 := by
  obtain ⟨e, he, hs⟩ := sendBeacon_elected p s
  refine .of_act rfl hl ?_
  rw [beaconSend_idle hd hu hr hi, hs, tport_keep rfl]
  refine ⟨⟨beaconFrom p e, rfl, rfl, rfl, he.count, ?_, ?_, ?_, ?_, rfl, rfl, rfl, rfl⟩, ?_⟩
  · simp only [beaconFrom, he.tport]
  · simp only [beaconFrom, he.tport]
  · simp only [beaconFrom, he.tport]
  · simp only [beaconFrom, he.tport]
  · exact (congrArg TidePort.txSeq (tport_modTport p _ e)).trans (by rw [he.tport])

/-! ### Receiving (R81, R82, R84) -/

/-- A beacon of the parent brings an offset. -/
theorem steered_ite_offsetSample (c : Prop) [Decidable c] (off : Int) (s : State) : Steered s (if c then offsetSample off s else s) := by
  split
  · exact steered_offsetSample off s
  · exact .refl s

/-- What a valid beacon leaves of its port: its echo, the delay to the neighbour, and what the neighbour announces. -/
def heard (b : Beacon) (rx : Word) (x : TidePort) : TidePort :=
  { x with
    rxSeq := BitVec.ofNat 8 b.seq, rxTx := b.txTime, rxTime := rx, delay := Int.tdiv (sdiff rx b.echoTx - sdiff b.txTime b.echoRx) 2, lost := false
    announce := if b.locked then some { ref := if b.ref then 0 else 1, prio := b.prio, node := b.node, hops := b.hops } else none }

section
variable {s : State} {p : Nat} (hd : (fport s p).direct = true) (hu : (fport s p).st = .up) {frame : List Byte} (rx : Word)
include hd hu

theorem beaconReceive_broken (hb : linkBody 2 frame = none) : beaconReceive p frame rx s = bump (0x3001E8 + 0x1000 * p) s := by
  simp only [beaconReceive, hd, hu, hb, beq_self_eq_true, Bool.and_self, Bool.not_true, Bool.false_eq_true, if_false, Option.isNone_none, Bool.true_or,
    if_true]

theorem beaconReceive_valid {data : List Byte} (hb : linkBody 2 frame = some data) (hk : (beaconOf data).kind = 1)
    (hv : beaconValid (tport s p) (beaconOf data) rx = true) : tport (beaconReceive p frame rx s) p = heard (beaconOf data) rx (tport s p) := by
  simp only [beaconReceive, hd, hu, hb, hk, hv, beq_self_eq_true, Bool.and_self, Bool.not_true, Bool.false_eq_true, if_false, Option.isNone_some,
    Option.getD_some, ne_eq, not_true_eq_false, decide_false, Bool.or_self]
  rw [((steered_nextBeacon _).trans ((steered_elect _).trans (steered_ite_offsetSample _ _ _))).tport, tport_modTport, tport_modTport]
  rfl

variable (hl : Live s)
include hl

theorem beaconReceive_broken_completes (hb : linkBody 2 frame = none) :
    Completes (.beaconReceive p frame rx) s fun t => t.tide = s.tide ∧ t.out = s.out := by
  refine .of_act rfl hl ?_
  rw [beaconReceive_broken hd hu rx hb]
  exact ⟨rfl, rfl⟩

theorem beaconReceive_valid_completes {data : List Byte} (hb : linkBody 2 frame = some data) (hk : (beaconOf data).kind = 1)
    (hv : beaconValid (tport s p) (beaconOf data) rx = true) :
    Completes (.beaconReceive p frame rx) s fun t => tport t p = heard (beaconOf data) rx (tport s p) := by
  refine .of_act rfl hl ?_
  rw [tport_keep rfl]
  exact beaconReceive_valid hd hu rx hb hk hv

end

/-! ### Losing a neighbour (R83, R783, R816) -/

/-- The link states of the fabric ports of a state as another has them. -/
def LinksKept (s t : State) : Prop := ∀ q, (fport t q).st = (fport s q).st

theorem LinksKept.refl (s : State) : LinksKept s s := fun _ => rfl

section
variable {s t : State} (h : LinksKept s t)
include h

theorem LinksKept.of_eq {u : State} (hp : u.fports = t.fports) : LinksKept s u :=
  fun q => by rw [fport, hp, ← fport, h]

theorem LinksKept.modFport (p : Nat) {f : FPort → FPort} (hf : ∀ x, (f x).st = x.st) : LinksKept s (modFport p f t) := by
  intro q
  by_cases hq : q = p
  · rw [hq, fport_modFport, hf, h]
  · rw [fport_modFport_ne hq, h]

theorem LinksKept.dropAt (port : Option Nat) (reason : Nat) : LinksKept s (dropAt port reason t) := by
  cases port <;> exact h.of_eq rfl

theorem LinksKept.throttleStep (p c : Nat) : LinksKept s (throttleStep p c t) := by
  have hmark (m : Nat) : LinksKept s (Machine.modFport p (fun f => { f with throttled := m }) t) := h.modFport p fun _ => rfl
  simp only [Machine.throttleStep]
  split
  · split
    · exact hmark _
    · exact h
  · split
    · exact (hmark _).of_eq rfl
    · exact h

theorem LinksKept.enqueue (p : Nat) (e : EgFrame) : LinksKept s (enqueue p e t) := by
  refine LinksKept.throttleStep ?_ p _
  refine h.modFport p ?_
  exact fun _ => rfl

theorem LinksKept.pfcStep (p prio : Nat) : LinksKept s (pfcStep p prio t) := by
  simp only [Machine.pfcStep]
  generalize (if wfld (pfcCfg t p) 1 0 = 1 then 8 else prio) = k
  split
  · exact h
  · split
    · split
      · refine h.modFport p ?_
        exact fun _ => rfl
      · exact h
    · split
      · refine h.modFport p ?_
        exact fun _ => rfl
      · exact h

theorem LinksKept.releaseInput (e : EgFrame) : LinksKept s (releaseInput e t) := by
  rw [Machine.releaseInput]
  split
  · exact h
  · split
    · refine h.modFport _ ?_
      exact fun _ => rfl
    · refine LinksKept.pfcStep ?_ _ _
      refine h.modFport _ ?_
      exact fun _ => rfl

theorem LinksKept.reroute (p : Nat) (e : EgFrame) : LinksKept s (reroute p e t) := by
  rw [Machine.reroute]
  split
  · exact (h.of_eq rfl : LinksKept s (emit _ t)).releaseInput e
  · split
    · exact h.enqueue _ _
    · exact h.enqueue _ _
  · exact (h.dropAt _ _).releaseInput e

theorem LinksKept.foldl {α : Type} {f : State → α → State} (hf : ∀ u x, LinksKept s u → LinksKept s (f u x)) (l : List α) :
    LinksKept s (l.foldl f t) := by
  induction l generalizing t with
  | nil => exact h
  | cons x l ih => exact ih (hf t x h)

/-- A frame that is leaving is cut off. -/
theorem LinksKept.cut (e : Option EgFrame) (port : EgFrame → Option Nat) :
    LinksKept s (match e with | none => t | some e => Machine.releaseInput e (Machine.dropAt (port e) 0 t)) := by
  cases e with
  | none => exact h
  | some e => exact (h.dropAt _ 0).releaseInput e

/-- The router's part in the loss changes no link state. -/
theorem LinksKept.portLost (p : Nat) : LinksKept s (portLost p t) := by
  simp only [Machine.portLost]
  refine LinksKept.foldl ?_ (fun u e hu => hu.reroute p e) _
  refine LinksKept.cut (LinksKept.cut ?_ _ _) _ _
  refine LinksKept.of_eq (h.modFport p (fun _ => rfl) : LinksKept s (Machine.modFport p (fun f => { f with
      lost := true, fence := true, leaving := none, leavingB := none, throttled := 0,
      egress := f.egress.filter (fun e => e.roce.isSome) }) t)) rfl

end

/-- A neighbour is lost on a port that is UP: it goes to ACQUIRE, and the tide unit forgets what the neighbour announced. -/
theorem neighbourLoss_completes {s : State} {p : Nat} (hl : Live s) (hd : (fport s p).direct = true) (hu : (fport s p).st = .up) :
    Completes (.neighbourLoss p) s fun t => (fport t p).st = .acquire ∧ (tport t p).announce = none ∧ (tport t p).lost = true := by
  refine .of_act rfl hl ?_
  have hsteer : ∃ u, (fport u p).st = .acquire ∧
      Steered (modTport p (fun x => { x with announce := none, lost := true }) u) (neighbourLoss p s) := by
    simp only [neighbourLoss, hd, hu, beq_self_eq_true, Bool.and_self, if_true, tideLost]
    refine ⟨_, ?_, steered_elect _⟩
    rw [(LinksKept.refl _).portLost p p, raise_fport, fport_modFport]
  obtain ⟨u, hacq, hst⟩ := hsteer
  rw [tport_keep rfl, hst.tport, tport_modTport]
  refine ⟨?_, rfl, rfl⟩
  rw [keep_fport, if_pos (by decide), hst.fport]
  exact hacq

/-- Settles O1: sending announces the master that has been adopted, and steering leaves the port as a beacon or a loss set it. -/
theorem beaconsAreSentAndTaken : Obligations.BeaconsAreSentAndTaken := by
  unfold Obligations.BeaconsAreSentAndTaken
  refine ⟨fun _ _ hl hd hu hr hi => beaconSend_completes hl hd hu hr hi, fun s p frame data rx hl hd hu hb hk hv => ?_,
    fun _ _ _ rx hl hd hu hb => beaconReceive_broken_completes hd hu rx hl hb, fun _ _ hl hd hu => neighbourLoss_completes hl hd hu⟩
  refine (beaconReceive_valid_completes hd hu rx hl hb hk hv).imp fun t ht => ?_
  rw [ht]
  exact ⟨rfl, rfl, rfl, rfl, rfl, rfl⟩

end Sys2Proof.Machine

/-! ## A wait that times out counts under its class (R357) -/

namespace Sys2Proof.Machine

open Sys2Proof Sys2Proof.Tests

/-- The header of a command that waits on lantern 4. -/
def strayHeader : CmdHdr := { wh with wait := 4 }

/-- A parked list whose class is no tile class: `0x250100 + 0x40 * 31748` is the address of the uncorrected error count of memory 0. -/
def strayList : ListRec :=
  { wList 31748 with
    st := .parked, inFlight := true, signals := [3], waitLantern := 4, waitTarget := 1, waitMax := 9, cur := some (strayHeader, 0x20) }

/-- A state whose wait has timed out, and whose completion queue lies on extent 0, where a latent error waits to be found. -/
def strayWait : State :=
  { wLeaf w0 with
    queues := [(qkey 0 0, { st := .active, kind := .engine, cls := 2, base := 0x10000, cq := 1 }),
      (qkey 0 1, { st := .active, kind := .cq, base := 2 ^ 63, log2 := 8 })]
    mem := { (wLeaf w0).mem with latentUe := [0], valid := [0] }
    lists := [strayList]
    tide := { count := 144000 } }

theorem live_strayWait : Live strayWait := by
  unfold Live
  decide +kernel

theorem findList_strayWait : findList strayWait 0 0 0 = some strayList := by decide +kernel

theorem waitUnmet_strayWait : waitMet (lantern strayWait strayList.room strayList.waitLantern) strayList.waitTarget strayList.waitIgnore = false := by
  decide +kernel

theorem waitOver_strayWait : reached (strayList.waitSince + BitVec.ofNat 64 (strayList.waitMax * 16000)) (elapsed strayWait) = true := by decide +kernel

/-- The one register counts twice: for the list that is dropped, and for the error that its completion finds. -/
theorem counter_strayWait :
    counter (keep listWork strayWait (waitTimeout 0 0 0 strayWait)) (0x250100 + 0x40 * strayList.cls) ≠
      counter strayWait (0x250100 + 0x40 * strayList.cls) + 1 := by
  decide +kernel

/-- Refutes O19: the class of a list is any number in the third clause, and for `strayList` the register that it names counts the uncorrected
errors of memory 0, one of which the failing wait finds as it writes its completion; the register then advances by 2. -/
theorem not_listsWaitAndAreDispatched : ¬ Obligations.ListsWaitAndAreDispatched := by
  unfold Obligations.ListsWaitAndAreDispatched
  rintro ⟨-, -, hTimeout, -⟩
  obtain ⟨t, ht, -, -, hCount⟩ := hTimeout strayWait 0 0 0 0x20 strayList strayHeader live_strayWait findList_strayWait rfl (by decide)
    waitUnmet_strayWait waitOver_strayWait rfl rfl rfl rfl (by decide)
  have hAct : exec (.waitTimeout 0 0 0) strayWait = .next (keep listWork strayWait (waitTimeout 0 0 0 strayWait)) :=
    (rfl : exec (.waitTimeout 0 0 0) strayWait = act listWork (waitTimeout 0 0 0) strayWait).trans (act_live live_strayWait _ _)
  cases hAct.symm.trans ht
  exact counter_strayWait hCount

end Sys2Proof.Machine

/-! ## The common commands of a list -/

namespace Sys2Proof.Machine

open Sys2Proof

/-! ### Lanterns -/

section
variable {s : State} {rm l : Nat} (f : Lantern → Lantern)

theorem lantern_modLanternReg (h : l < (room s rm).quotas.lantern) : lantern (modLanternReg rm l f s) rm l = f (lantern s rm l) := by
  rw [lantern, modLanternReg, room_modRoom, if_pos h]
  exact mget_mmod_self _ _ _ _

theorem lantern_modLanternReg_ne {r m : Nat} (h : r ≠ rm ∨ m ≠ l) : lantern (modLanternReg rm l f s) r m = lantern s r m := by
  by_cases hr : r = rm
  · rw [hr, lantern, modLanternReg, room_modRoom]
    split
    · exact mget_mmod_ne _ _ _ _ _ (h.resolve_left (not_not_intro hr))
    · rfl
  · rw [lantern, modLanternReg, room_modRoom_ne hr, ← lantern]

end

/-- What LANTERN_SIGNAL does to its lantern, by its mode (R350). -/
def signalled (mode v : Nat) (x : Lantern) : Lantern :=
  match mode with
  | 0 => { x with count := x.count + BitVec.ofNat 32 v }
  | 1 => { x with count := BitVec.ofNat 32 v }
  | 2 => { x with fault := true }
  | _ => { x with fault := false }

theorem lanternSignal_eq {l : Nat} (hl : l ≠ 0xFFFF) (rm mode v : Nat) (s : State) :
    lanternSignal rm l mode v s = modLanternReg rm l (signalled mode v) s := by
  match mode with
  | 0 => exact if_neg hl
  | 1 => exact if_neg hl
  | 2 => exact if_neg hl
  | _ + 3 => exact if_neg hl

/-- A command that is well formed has no malformation of its own. -/
theorem own_of_cmdBad {q : Queue} {r : Room} {h : CmdHdr} {op cls : Nat} {own : Option Nat} (hb : cmdBad q r h op cls own = none) : own = none := by
  cases own with
  | none => rfl
  | some d =>
    simp only [cmdBad] at hb
    split at hb
    · cases hb
    · split at hb
      · cases hb
      · split at hb
        · cases hb
        · cases hb

theorem lantern_of_signalBad {l mode : Nat} {s : State} {r : Room} (hb : lanternSignalBad l mode s r = none) (hl : l ≠ 0xFFFF) :
    l < r.quotas.lantern := by
  simp only [lanternSignalBad, firstBadOf] at hb
  split at hb
  · cases hb
  · simp_all [lanternOk]

/-! ### A command in the midst of its list -/

section
variable {s : State} {h : CmdHdr} {op cls rm : Nat} {own : State → Room → Option Nat}

/-- A command that waits for nothing and is done at once leaves what its body did, and its list moved on (R353). -/
theorem engine_done (hp : Plain h) (ho : op ≠ 3) (hb : Begins s h op cls own rm) {f : ListRec → State → State}
    (hf : findList (f (begun s h op rm) (begunState s h op rm)) h.fn h.queue h.list = some (begun s h op rm)) :
    engine h op cls own (fun r u => ({}, f r u)) s =
      setList ((begun s h op rm).stepped 0) (f (begun s h op rm) (begunState s h op rm)) := by
  obtain ⟨-, hWait, hEpoch, -⟩ := id hp
  rw [engine_begins hWait hEpoch hb, hf]
  exact endCmd_plain hp ho _ 0 0 _

theorem nop_completes (hp : Plain h) (hb : Begins s h 0 0 (fun _ _ => none) rm) :
    Completes (.nop h) s fun t => t = { s with lists := t.lists } ∧
      ∃ r, findList t h.fn h.queue h.list = some r ∧ r.st = .onTile ∧ r.cur = none := by
  refine .of_act rfl hb.1 ?_
  rw [engine_done hp (by decide) hb (f := fun _ u => u) (findList_begunState s h 0 rm)]
  exact ⟨rfl, _, findList_setList_of _ _ (begun_fn s h 0 rm) (begun_queue s h 0 rm) (begun_list s h 0 rm), rfl, rfl⟩

theorem lanternSignal_completes {l mode v : Nat} (hp : Plain h) (hb : Begins s h 1 0 (lanternSignalBad l mode) rm) (hl : l ≠ 0xFFFF)
    (hr : (listOf s h rm).room = rm) :
    Completes (.lanternSignal h l mode v) s fun t => lantern t rm l = signalled mode v (lantern s rm l) ∧
      ∀ r m, (r ≠ rm ∨ m ≠ l) → lantern t r m = lantern s r m := by
  obtain ⟨hLive, -, -, -, -, -, -, -, hBad⟩ := id hb
  have hq : l < (room s rm).quotas.lantern := lantern_of_signalBad (own_of_cmdBad hBad) hl
  refine .of_act rfl hLive ?_
  rw [engine_done hp (by decide) hb (f := fun r u => lanternSignal r.room l mode v u), lanternSignal_eq hl, show (begun s h 1 rm).room = rm from hr]
  · exact ⟨lantern_modLanternReg (s := begunState s h 1 rm) _ hq, fun r m hne => lantern_modLanternReg_ne (s := begunState s h 1 rm) _ hne⟩
  · rw [lanternSignal_eq hl]
    exact findList_begunState s h 1 rm

theorem waitTide_completes {target : Word} (hp : Plain h) (hb : Begins s h 2 0 (fun _ _ => none) rm) (ht : reached target s.tide.count = false)
    (hu : timedUsed s < 16384) :
    Completes (.waitTide h target) s fun t =>
      t = { s with lists := t.lists, tide := { s.tide with waits := t.tide.waits, nextWait := s.tide.nextWait + 1 } } ∧
      t.tide.waits = s.tide.waits ++ [{ id := s.tide.nextWait, target := target, armed := true, fn := h.fn, queue := h.queue, list := h.list }] ∧
      ∃ r, findList t h.fn h.queue h.list = some r ∧ r.st = .timed ∧ r.tile = none := by
  obtain ⟨-, hWait, hEpoch, -⟩ := hp
  refine .of_act rfl hb.1 ?_
  have hFree : decide (16384 ≤ timedUsed (begunState s h 2 rm)) = false := decide_eq_false (Nat.not_le.2 hu)
  have hWaits : waitTide h target (begun s h 2 rm) (begunState s h 2 rm) = ({ pend := true },
      setList { begun s h 2 rm with st := .timed, tile := none, cur := some (h, 2) }
        (armWait { id := 0, target := target, fn := h.fn, queue := h.queue, list := h.list } (begunState s h 2 rm))) :=
    if_neg (by rw [show (begunState s h 2 rm).tide = s.tide from rfl, ht]; exact Bool.false_ne_true)
  rw [engine_begins hWait hEpoch hb, hWaits, endCmd_pend _ (.inl rfl), armWait, hFree]
  exact ⟨rfl, rfl, _, findList_setList_of _ _ (begun_fn s h 2 rm) (begun_queue s h 2 rm) (begun_list s h 2 rm), rfl, rfl⟩

/-- A command that ends through a Seawall while a port is not down begins it and waits (R347). -/
theorem endCmd_wall (hw : wallPorts s ≠ []) (r : ListRec) : endCmd h 3 r {} s =
    setList { r with st := .held, cur := some (h, 3) } (startWall { id := 0, room := r.room, ports := [], kind := 0, hdr := some h, opcode := 3 } s) := by
  simp only [endCmd, hw, Bool.false_eq_true, if_false, ne_eq, not_true_eq_false, decide_true, Bool.or_true, if_true]

theorem mem_startWall_out {p : Nat} (hw : p ∈ wallPorts s) (hp : (hport s p).st = .up) (w : SeawallRec) :
    Out.zeroRead p w.room false ∈ (startWall w s).out :=
  List.mem_append_left _ (List.mem_map_of_mem (List.mem_filter.2 ⟨hw, beq_iff_eq.2 hp⟩))

theorem seawall_completes (hp : Plain h) (hb : Begins s h 3 0 (fun _ _ => none) rm) (hw : wallPorts s ≠ []) :
    Completes (.seawall h) s fun t =>
      (∃ w, t.seawalls = s.seawalls ++ [w] ∧ w.ports = wallPorts s ∧ w.unread = (wallPorts s).filter (fun p => (hport s p).st != .up) ∧
        w.hdr = some h ∧ w.partialSeen = decide ((wallPorts s).length < 8)) ∧
      (∀ p, p ∈ wallPorts s → (hport s p).st = .up → ∃ r, Out.zeroRead p r false ∈ t.out) ∧
      ∃ r, findList t h.fn h.queue h.list = some r ∧ r.st = .held := by
  obtain ⟨-, hWait, hEpoch, -⟩ := hp
  refine .of_act rfl hb.1 ?_
  rw [engine_begins hWait hEpoch hb]
  dsimp only
  rw [endCmd_wall (s := begunState s h 3 rm) hw, findList_begunState]
  exact ⟨⟨_, rfl, rfl, rfl, rfl, rfl⟩, fun p hmem hup => ⟨_, mem_startWall_out (s := begunState s h 3 rm) hmem hup _⟩,
    _, findList_setList_of _ _ (begun_fn s h 3 rm) (begun_queue s h 3 rm) (begun_list s h 3 rm), rfl⟩

end

/-! ### List bodies (R337) -/

theorem ringRead_setList (r : ListRec) (s : State) (fn a n : Nat) : ringRead (setList r s) fn a n = ringRead s fn a n := rfl

theorem locRead_setList (r : ListRec) (s : State) (l : Loc) (n : Nat) : locRead (setList r s) l n = locRead s l n := by cases l <;> rfl

/-- No list's record takes part in the reading of a list body. -/
theorem bodyGo_setList (r : ListRec) (s : State) (fn n i a skip : Nat) (fin : Bool) (acc : List (List Byte)) :
    bodyGo (setList r s) fn n i a skip fin acc = bodyGo s fn n i a skip fin acc := by
  induction n generalizing i a skip fin acc with
  | zero => rfl
  | succ n ih => simp only [bodyGo, ringRead_setList, locRead_setList, ih]

/-- A state differs from another in counters, the lines of the valid-bit maps that are on the device, and what it sends. -/
def OnlyAsks (s t : State) : Prop := t = { s with cnt := t.cnt, mapLines := t.mapLines, out := t.out }

theorem OnlyAsks.refl (s : State) : OnlyAsks s s := rfl

theorem OnlyAsks.trans {s t u : State} (h : OnlyAsks s t) (h' : OnlyAsks t u) : OnlyAsks s u := by
  rw [OnlyAsks] at h h' ⊢
  rw [h', h]

theorem OnlyAsks.foldl {α : Type} {s : State} {f : State → α → State} (hf : ∀ u x, OnlyAsks s u → OnlyAsks s (f u x)) (l : List α) :
    ∀ {t : State}, OnlyAsks s t → OnlyAsks s (l.foldl f t) := by
  induction l with
  | nil => exact id
  | cons x l ih => exact fun h => ih (hf _ x h)

theorem onlyAsks_resolveLines (a n : Nat) (s : State) : OnlyAsks s (resolveLines a n s) := by
  simp only [resolveLines]
  split
  · rfl
  · rfl

theorem onlyAsks_countBlocks (o : Nat) (f : Nat → Nat) (l : List Nat) (s : State) : OnlyAsks s (countBlocks o f l s) := by
  refine OnlyAsks.foldl (fun u b hu => ?_) l (OnlyAsks.refl s)
  split
  · exact hu.trans rfl
  · exact hu

theorem onlyAsks_countRead (a n : Nat) (s : State) : OnlyAsks s (countRead a n s) := by
  have hMap : OnlyAsks s (mapUse a n s) := rfl
  exact (hMap.trans (onlyAsks_countBlocks _ _ _ _)).trans (onlyAsks_countBlocks _ _ _ _)

/-- Reading memory without latent errors only asks and counts. -/
theorem onlyAsks_locReadEff {s : State} (h : s.mem.latentCe = []) (n : Nat) (l : Loc) : OnlyAsks s (locReadEff n s l) := by
  cases l with
  | host p a => rfl
  | dev a =>
    have hr := (onlyAsks_resolveLines a n s).trans (onlyAsks_countRead a n _)
    have hm : (countRead a n (resolveLines a n s)).mem.latentCe = [] := by rw [hr]; exact h
    rw [locReadEff, correctRange_sound hm]
    exact hr

theorem OnlyAsks.ringReadOnly {s t : State} (h : OnlyAsks s t) : OnlyAsks s (ringReadOnly s t) := by
  rw [h]
  rfl

theorem onlyAsks_bodyRead {s : State} (h : s.mem.latentCe = []) (fn a n : Nat) : OnlyAsks s (bodyRead fn a n s) := by
  refine OnlyAsks.ringReadOnly (OnlyAsks.foldl (fun u i hu => ?_) _ (OnlyAsks.refl s))
  split
  · exact hu.trans (onlyAsks_locReadEff (by rw [hu]; exact h) 16 _)
  · exact hu

theorem listExec_completes {s : State} {h : CmdHdr} {rm units addr : Nat} {b : Body} (hw : h.wait = 0xFFFF) (he : h.epoch = 0)
    (hb : Begins s h 4 0 (listExecBad h units addr) rm) (hg : bodyGo s h.fn units 0 addr 0 false [] = .ok b) (hm : s.mem.latentCe = []) :
    Completes (.listExec h units addr) s fun t => t = { s with lists := t.lists, cnt := t.cnt, mapLines := t.mapLines, out := t.out } ∧
      ∃ r, findList t h.fn h.queue h.list = some r ∧ r.exec = true ∧ r.signals = b.cmds.map (fun d => fld (wordAt d 1) 47 32) ∧
        r.count = b.cmds.length ∧ r.bodySignal = h.signal ∧ r.bodyWall = h.seawall := by
  have hExec : listExec h units addr (begun s h 4 rm) (begunState s h 4 rm) = ({ pend := true },
      setList { (takeBody (begunState s h 4 rm) b { begun s h 4 rm with bodyAddr := addr, bodyUnits := units }) with
        exec := true, bodySignal := h.signal, bodyWall := h.seawall, waitMet := false, cur := none } (bodyRead h.fn addr b.read (begunState s h 4 rm))) := by
    rw [listExec, show bodyGo (begunState s h 4 rm) h.fn units 0 addr 0 false [] = .ok b from (bodyGo_setList _ s _ _ _ _ _ _ _).trans hg]
  refine .of_act rfl hb.1 ?_
  rw [engine_begins hw he hb, hExec, endCmd_pend _ (.inl rfl), onlyAsks_bodyRead (s := begunState s h 4 rm) hm]
  exact ⟨rfl, _, findList_setList_of _ _ (begun_fn s h 4 rm) (begun_queue s h 4 rm) (begun_list s h 4 rm), rfl, rfl, rfl, rfl, rfl⟩

/-- Settles O18: each common command through its body and the end that the body asks for. -/
theorem listsRunTheirCommonCommands : Obligations.ListsRunTheirCommonCommands := by
  unfold Obligations.ListsRunTheirCommonCommands
  exact ⟨fun _ _ _ hp hb => nop_completes hp hb, fun _ _ _ _ _ _ hp hb hl hr => lanternSignal_completes hp hb hl hr,
    fun _ _ _ _ hp hb ht hu => waitTide_completes hp hb ht hu, fun _ _ _ hp hb hw => seawall_completes hp hb hw,
    fun _ _ _ _ _ _ _ hw he _ hb hg hm => listExec_completes hw he hb hg hm⟩

end Sys2Proof.Machine

/-! ## What leaves the clock of a tide unit in ACQUIRE, and its events -/

namespace Sys2Proof.Machine

open Sys2Proof

/-- The clock of a tide unit: its count, what the count stood at when it was last set, its rate, and whether its first step has been taken. -/
def Tide.clock (t : Tide) : Word × Word × Int × Bool := (t.count, t.base, t.rate, t.firstDone)

/-- A state whose tide unit stands as `c` does, if `c` is in ACQUIRE, and in which bit `i` of the tide unit's EVENT register is set. -/
def Steady (c : Tide) (i : Fin 56) (s : State) : Prop :=
  (c.st = .acquire → s.tide.st = .acquire ∧ s.tide.clock = c.clock) ∧ evBit s 0 i = true

section
variable {c : Tide} {i : Fin 56} {s : State}

/-! ### Updates that the tide unit and the events take no part in -/

@[simp] theorem steady_emit (o : Out) : Steady c i (emit o s) ↔ Steady c i s := Iff.rfl
@[simp] theorem steady_useFresh : Steady c i (useFresh s) ↔ Steady c i s := Iff.rfl
@[simp] theorem steady_msix (fn v : Nat) : Steady c i (msix fn v s) ↔ Steady c i s := Iff.rfl
@[simp] theorem steady_bump (o : Nat) : Steady c i (bump o s) ↔ Steady c i s := Iff.rfl
@[simp] theorem steady_mapUse (a n : Nat) : Steady c i (mapUse a n s) ↔ Steady c i s := Iff.rfl
@[simp] theorem steady_devWrite (a : Nat) (d : List Byte) : Steady c i (devWrite a d s) ↔ Steady c i s := Iff.rfl
@[simp] theorem steady_modFport (p : Nat) (f : FPort → FPort) : Steady c i (modFport p f s) ↔ Steady c i s := Iff.rfl
@[simp] theorem steady_modLane (p l : Nat) (f : Lane → Lane) : Steady c i (modLane p l f s) ↔ Steady c i s := Iff.rfl
@[simp] theorem steady_modErrs (f : Errs → Errs) : Steady c i (modErrs f s) ↔ Steady c i s := Iff.rfl
@[simp] theorem steady_markLine (l : Nat) : Steady c i (markLine l s) ↔ Steady c i s := Iff.rfl
@[simp] theorem steady_modQueue (fn q : Nat) (f : Queue → Queue) : Steady c i (modQueue fn q f s) ↔ Steady c i s := Iff.rfl
@[simp] theorem steady_setList (r : ListRec) : Steady c i (setList r s) ↔ Steady c i s := Iff.rfl
@[simp] theorem steady_endList (h : CmdHdr) (r : ListRec) : Steady c i (endList h r s) ↔ Steady c i s := Iff.rfl
@[simp] theorem steady_startWall (w : SeawallRec) : Steady c i (startWall w s) ↔ Steady c i s := Iff.rfl
@[simp] theorem steady_modColl (f : Colls → Colls) : Steady c i (modColl f s) ↔ Steady c i s := Iff.rfl
@[simp] theorem steady_modMember (id : Nat) (f : Member → Member) : Steady c i (modMember id f s) ↔ Steady c i s := Iff.rfl
@[simp] theorem steady_setNode (n : CNode) : Steady c i (setNode n s) ↔ Steady c i s := Iff.rfl
@[simp] theorem steady_setChunk (n : CNode) (k : CChunk) : Steady c i (setChunk n k s) ↔ Steady c i s := Iff.rfl
@[simp] theorem steady_setRound (r : Round) : Steady c i (setRound r s) ↔ Steady c i s := Iff.rfl
@[simp] theorem steady_closeSeq (k : Nat × Nat × Nat) : Steady c i (closeSeq k s) ↔ Steady c i s := Iff.rfl
@[simp] theorem steady_closeRound (k : Nat × Nat × Nat) (kind : Nat) : Steady c i (closeRound k kind s) ↔ Steady c i s := Iff.rfl
@[simp] theorem steady_freeNode (n e : Nat) : Steady c i (freeNode n e s) ↔ Steady c i s := Iff.rfl
@[simp] theorem steady_dropStreams (p : Nat → Nat → Nat → Bool) : Steady c i (dropStreams p s) ↔ Steady c i s := Iff.rfl
@[simp] theorem steady_streamQueue (k : Nat) (p : Pkt) : Steady c i (streamQueue k p s) ↔ Steady c i s := Iff.rfl
@[simp] theorem steady_streamMsn (k : Nat) : Steady c i (streamMsn k s).2 ↔ Steady c i s := Iff.rfl
@[simp] theorem steady_countFinal (l : List (Nat × Flags)) : Steady c i (countFinal l s) ↔ Steady c i s := Iff.rfl
@[simp] theorem steady_countIn (f : Bool) (n : Nat) : Steady c i (countIn f n s) ↔ Steady c i s := Iff.rfl
@[simp] theorem steady_takeUnits (d n : Nat) : Steady c i (takeUnits d n s).2 ↔ Steady c i s := Iff.rfl

/-- Both ways of a choice are steady. -/
@[simp] theorem steady_ite (p : Prop) [Decidable p] (a b : State) : Steady c i (if p then a else b) ↔ if p then Steady c i a else Steady c i b := by
  split <;> rfl

@[simp] theorem steady_setMem (m : DevMem) : Steady c i { s with mem := m } ↔ Steady c i s := Iff.rfl
@[simp] theorem steady_loseWord (w : Nat) : Steady c i (loseWord w s) ↔ Steady c i s := by rw [loseWord, steady_setMem]
@[simp] theorem steady_setErrs (e : Errs) : Steady c i { s with errs := e } ↔ Steady c i s := Iff.rfl
@[simp] theorem steady_setHeldPkts (l : List Pkt) : Steady c i { s with heldPkts := l } ↔ Steady c i s := Iff.rfl

/-- Of a unit that is not in ACQUIRE only the event is asked. -/
theorem steady_free : Steady {} i s ↔ evBit s 0 i = true :=
  ⟨fun h => h.2, fun h => ⟨fun ha => (by cases ha), h⟩⟩

variable (h : Steady c i s)
include h

/-- A run of steady steps is steady. -/
theorem Steady.foldl {α : Type} {f : State → α → State} (hf : ∀ u x, Steady c i u → Steady c i (f u x)) (l : List α) : Steady c i (l.foldl f s) := by
  induction l generalizing s with
  | nil => exact h
  | cons x l ih => exact ih (hf s x h)

@[simp] theorem Steady.raise (b j : Nat) : Steady c i (raise b j s) := by
  obtain ⟨htide, hbit⟩ := h
  refine ⟨htide, ?_⟩
  by_cases hb : b = 0
  · rw [hb, evBit, evReg_raise, getLsbD_evNext i.isLt, ← evBit, hbit, Bool.true_or]
  · rw [evBit, evReg_raise_ne (Ne.symm hb), ← evBit, hbit]

/-- A change of the tide unit that leaves its state and its clock. -/
theorem Steady.modTide {f : Tide → Tide} (hs : (f s.tide).st = s.tide.st) (hc : (f s.tide).clock = s.tide.clock) : Steady c i (modTide f s) := by
  obtain ⟨htide, hbit⟩ := h
  refine ⟨fun ha => ?_, hbit⟩
  obtain ⟨hst, hclock⟩ := htide ha
  exact ⟨hs.trans hst, hc.trans hclock⟩

/-! ### Parts of a state that another state hands over -/

variable {r : State} (h' : Steady c i r)
include h'

/-- A state takes its tide unit from one state, and its events from another. -/
theorem Steady.of_parts {u : State} (ht : u.tide = s.tide) (he : u.events = r.events) : Steady c i u := by
  obtain ⟨htide, -⟩ := h
  obtain ⟨-, hbit⟩ := h'
  refine ⟨?_, ?_⟩
  · rw [ht]
    exact htide
  · rw [evBit, evReg, he]
    exact hbit

theorem Steady.ledgerOnly : Steady c i (ledgerOnly s r) := h.of_parts h' rfl rfl

theorem Steady.fabricOnly : Steady c i (fabricOnly s r) := h.of_parts h' rfl rfl

theorem Steady.unitsOnly : Steady c i (unitsOnly s r) := h.of_parts h' rfl rfl

omit h in
theorem Steady.dataOnly : Steady c i (dataOnly s r) := h'

end

/-! ### Frames of the fabric -/

section
variable {c : Tide} {i : Fin 56} {s : State} (h : Steady c i s)
include h

@[simp] theorem Steady.roomCharge (k : Pkt) (n : Nat) : Steady c i (roomCharge k n s) := by
  rw [Machine.roomCharge]
  split
  · exact h
  · exact h

@[simp] theorem Steady.throttleStep (p k : Nat) : Steady c i (throttleStep p k s) := by simp [Machine.throttleStep, h]

@[simp] theorem Steady.enqueue (p : Nat) (e : EgFrame) : Steady c i (enqueue p e s) := by simp [Machine.enqueue, h]

@[simp] theorem Steady.pfcStep (p k : Nat) : Steady c i (pfcStep p k s) := by simp [Machine.pfcStep, h]

@[simp] theorem Steady.releaseInput (e : EgFrame) : Steady c i (releaseInput e s) := by simp [Machine.releaseInput, h]

@[simp] theorem Steady.dropAt (p : Option Nat) (r : Nat) : Steady c i (dropAt p r s) := by
  cases p with
  | none => simp [Machine.dropAt, h]
  | some p => simp [Machine.dropAt, h]

@[simp] theorem Steady.inject (k : Pkt) : Steady c i (inject k s) := by
  simp only [Machine.inject, steady_ite]
  split
  · exact h
  · split
    · simp [h]
    · simp [h]
    · simp [h]

@[simp] theorem Steady.originate (k : Pkt) : Steady c i (originate k s) := h.fabricOnly (h.inject k)

@[simp] theorem Steady.reroute (p : Nat) (e : EgFrame) : Steady c i (reroute p e s) := by
  rw [Machine.reroute]
  split
  · simp [h]
  · simp [h]
  · simp [h]

@[simp] theorem Steady.endFrame (p half : Nat) : Steady c i (endFrame p half s) := by
  rw [Machine.endFrame]
  split
  · exact h
  · simp [h]

@[simp] theorem Steady.cutFrame (p half : Nat) : Steady c i (cutFrame p half s) := by
  rw [Machine.cutFrame]
  split
  · exact h
  · simp [h]

/-- A frame that is leaving is cut off. -/
theorem Steady.cut (e : Option EgFrame) (port : EgFrame → Option Nat) :
    Steady c i (match e with | none => s | some e => Machine.releaseInput e (Machine.dropAt (port e) 0 s)) := by
  cases e with
  | none => exact h
  | some e => exact (h.dropAt _ 0).releaseInput e

@[simp] theorem Steady.portLost (p : Nat) : Steady c i (portLost p s) := by
  simp only [Machine.portLost]
  exact (((Steady.raise (steady_modFport _ _ |>.2 h) 7 1).cut _ _).cut _ _).foldl (fun u e hu => hu.reroute p e) _

/-! ### The Ledger and its queues -/

@[simp] theorem Steady.resolveLines (a n : Nat) : Steady c i (resolveLines a n s) := by
  rw [Machine.resolveLines]
  split
  · exact h
  · exact h

@[simp] theorem Steady.locWrite (l : Loc) (d : List Byte) : Steady c i (locWrite l d s) := by
  cases l with
  | host p a => exact h
  | dev a => exact (steady_devWrite _ _).2 (h.resolveLines _ _)

theorem Steady.putUnits (d : List Byte) (ls : List Loc) : Steady c i (putUnits d s ls) := by
  induction ls generalizing d s with
  | nil => exact h
  | cons l ls ih => exact ih (h.locWrite l _) _

theorem Steady.tryPut {fn : Nat} {q : Queue} {d : List Byte} {t : State} (ht : tryPut s fn q d = .ok t) : Steady c i t := by
  rw [Machine.tryPut] at ht
  split at ht
  · cases ht
  · split at ht
    · cases ht
    · cases ht
      exact h.putUnits d _

/-- A record is written only while nothing waits before it. -/
theorem Steady.tryPut_if {p : Prop} [Decidable p] {fn : Nat} {q : Queue} {d : List Byte} {t : State}
    (ht : (if p then Machine.tryPut s fn q d else .error 1) = .ok t) : Steady c i t := by
  split at ht
  · exact h.tryPut ht
  · cases ht

theorem Steady.putRecord (fn : Nat) (r : LedgerRec) : Steady c i (putRecord fn r s) := by
  rw [Machine.putRecord]
  split
  · simp [h]
  · simp only [steady_ite]
    split
    · split
      · next hput => simp [h.tryPut_if hput]
      · simp [h]
      · simp [h]
      · simp [h]
    · simp [h]

end

/-- A writer of records is steady. -/
def PutSteady (c : Tide) (i : Fin 56) (put : Nat → LedgerRec → State → State) : Prop :=
  ∀ fn r s, Steady c i s → Steady c i (put fn r s)

/-- Where the records and the failures of an access go is steady. -/
structure Sinks.Steady (k : Sinks) (c : Tide) (i : Fin 56) : Prop where
  inn : ∀ r s, Machine.Steady c i s → Machine.Steady c i (k.inn r s)
  guest : ∀ rm r s, Machine.Steady c i s → Machine.Steady c i (k.guest rm r s)
  down : ∀ u s, Machine.Steady c i s → Machine.Steady c i (k.down u s)

section
variable {c : Tide} {i : Fin 56} {k : Sinks} (hk : k.Steady c i) {s : State} (h : Steady c i s)
include hk h

theorem Steady.unitFatalBy (u : Nat) : Steady c i (unitFatalBy k u s) := by
  rw [Machine.unitFatalBy]
  refine hk.down u _ ?_
  split
  · exact hk.inn _ _ (h.raise 12 7)
  · exact h.raise 12 7

theorem Steady.memRecordBy (x : Access) (kind u m a : Nat) (second : Bool) : Steady c i (memRecordBy k x kind u m a second s) := by
  simp only [Machine.memRecordBy]
  split
  · exact hk.inn _ _ h
  · exact hk.guest _ _ _ (hk.inn _ _ h)

theorem Steady.latchNewBy (x : Access) (kind u m a : Nat) : Steady c i (latchNewBy k x kind u m a s) := by
  simp only [Machine.latchNewBy]
  split
  · refine Steady.memRecordBy hk (Steady.raise ?_ 12 6) x kind u m a false
    exact (steady_modErrs _).2 h
  · split
    · refine Steady.unitFatalBy hk (Steady.memRecordBy hk (Steady.raise ?_ 12 5) x kind u m a true) u
      exact (steady_bump _).2 ((steady_modErrs _).2 h)
    · exact h

/-- A line that has failed before, or fails now. -/
theorem Steady.meetLine (p : Prop) [Decidable p] (kind : Nat) (x : Access) (l : Nat) : Steady c i
    (if p then Machine.latchNewBy k x kind (latchUnit s (l * 64)) (memNo s (l * 64)) (l * 64) (markLine l (bump (0x440200 + 8 * memNo s (l * 64)) s))
    else Machine.memRecordBy k x 4 (latchUnit s (l * 64)) (memNo s (l * 64)) (l * 64) false (bump (0x440300 + 8 * memNo s (l * 64)) s)) := by
  split
  · refine Steady.latchNewBy hk ?_ x kind _ _ _
    exact (steady_markLine _).2 ((steady_bump _).2 h)
  · refine Steady.memRecordBy hk ?_ x 4 _ _ _ false
    exact (steady_bump _).2 h

theorem Steady.meetBy (kind : Nat) (x : Access) (b : Bad) : Steady c i (meetBy k kind x b s) := by
  cases b with
  | absent a =>
    simp only [Machine.meetBy]
    split
    · exact hk.inn _ _ h
    · exact hk.guest _ _ _ (hk.inn _ _ h)
  | dead a =>
    refine Steady.memRecordBy hk ?_ x 4 _ _ a false
    exact (steady_bump _).2 h
  | repeated l => exact h.meetLine hk _ kind x l
  | map a =>
    simp only [Machine.meetBy]
    split
    · refine Steady.latchNewBy hk (Steady.raise ?_ 1 2) _ 7 _ _ a
      simp [h]
    · exact h
  | fresh l => exact h.meetLine hk _ kind x l

end

section
variable {c : Tide} {i : Fin 56} {put : Nat → LedgerRec → State → State} (hp : PutSteady c i put) {s : State} (h : Steady c i s)
include hp h

theorem Steady.innBy (r : LedgerRec) : Steady c i (innBy put r s) := by
  simp only [Machine.innBy]
  split
  · exact hp _ _ s h
  · exact hp _ _ s h

theorem Steady.guestBy (rm : Nat) (r : LedgerRec) : Steady c i (guestBy put rm r s) := hp _ _ s h

theorem Steady.meetRing (code fn object : Nat) (e : Option RingErr) : Steady c i (meetRing put code fn object e s) := by
  rw [Machine.meetRing.eq_def]
  split
  · split
    · exact h.guestBy hp _ _
    · exact h
  · exact h.meetBy ⟨fun r s hs => hs.innBy hp r, fun rm r s hs => hs.guestBy hp rm r, fun _ _ hs => hs⟩ 3 _ _
  · exact h.innBy hp _
  · exact h

end

theorem putSteady_putLedgerN (c : Tide) (i : Fin 56) (k : Nat) : PutSteady c i (putLedgerN k) := by
  induction k with
  | zero => exact fun fn r s h => h.putRecord fn r
  | succ k ih =>
    intro fn r s h
    rw [putLedgerN]
    split
    · exact h.putRecord fn r
    · split
      · exact (h.putRecord fn r).meetRing ih _ _ _ _
      · exact h.putRecord fn r

theorem putSteady_putLedger (c : Tide) (i : Fin 56) : PutSteady c i putLedger := putSteady_putLedgerN c i 2

section
variable {c : Tide} {i : Fin 56} {s : State} (h : Steady c i s)
include h

@[simp] theorem Steady.ledgerInn (r : LedgerRec) : Steady c i (ledgerInn r s) := h.ledgerOnly (h.innBy (putSteady_putLedger c i) r)

@[simp] theorem Steady.ledgerRoom (rm : Nat) (r : LedgerRec) : Steady c i (ledgerRoom rm r s) :=
  h.ledgerOnly (h.guestBy (putSteady_putLedger c i) rm r)

@[simp] theorem Steady.tideRec (kind : Nat) (off : Int) : Steady c i (tideRec kind off s) := h.ledgerInn _

theorem Steady.putEqN (k fn eq : Nat) (d : List Byte) : Steady c i (putEqN k fn eq d s) := by
  induction k generalizing eq d s with
  | zero => exact h
  | succ k ih =>
    simp only [Machine.putEqN]
    split
    · split
      · next hput => simp [h.tryPut_if hput]
      · simp [h]
      · simp [h]
      · have hmet (d fn object : Nat) (f : Queue → Queue) (e : Option RingErr) :
            Steady c i (Machine.meetRing putLedger 4 fn object e (Machine.modQueue fn eq f s)) :=
          Steady.meetRing (putSteady_putLedger c i) (steady_modQueue _ _ _ |>.2 h) 4 fn object e
        split
        · exact hmet 0 _ _ _ _
        · exact ih (hmet 0 _ _ _ _) _ _
    · simp [h]

@[simp] theorem Steady.qEvent (fn q ev object d0 d1 : Nat) : Steady c i (qEvent fn q ev object d0 d1 s) := by
  refine h.ledgerOnly ?_
  split
  · exact h
  · exact h.putEqN _ fn _ _

@[simp] theorem Steady.qStop (fn q index detail : Nat) : Steady c i (qStop fn q index detail s) := by simp [Machine.qStop, h]

theorem Steady.putCq (fn cq : Nat) (d : List Byte) : Steady c i (putCq fn cq d s) := by
  simp only [Machine.putCq]
  split
  · exact h
  · exact h
  · split
    · exact h
    · split
      · next hput => simp [h.tryPut hput]
      · simp [h]
      · exact h
      · refine Steady.meetRing (putSteady_putLedger c i) ?_ _ _ _ _
        simp [h]
  · exact h

@[simp] theorem Steady.complete (fn : Nat) (x : Compl) : Steady c i (complete fn x s) := h.ledgerOnly (h.putCq _ _ _)

/-! ### Commands as they end -/

@[simp] theorem Steady.modLanternReg (rm l : Nat) (f : Lantern → Lantern) : Steady c i (modLanternReg rm l f s) := h

@[simp] theorem Steady.modLantern (rm l : Nat) (f : Lantern → Lantern) : Steady c i (modLantern rm l f s) := by simp [Machine.modLantern, h]

@[simp] theorem Steady.lanternAdd (rm l n : Nat) : Steady c i (lanternAdd rm l n s) := h.modLantern _ _ _

@[simp] theorem Steady.lanternFault (rm l : Nat) : Steady c i (lanternFault rm l s) := h.modLantern _ _ _

@[simp] theorem Steady.faultSignals (rm : Nat) (r : ListRec) (x : CmdHdr) : Steady c i (faultSignals rm r x s) :=
  (h.lanternFault _ _).foldl (fun _ l hu => hu.lanternFault rm l) _

@[simp] theorem Steady.writeCompl (x : CmdHdr) (op : Nat) (e : CEnd) : Steady c i (writeCompl x op e s) := h.complete _ _

@[simp] theorem Steady.failCmd (x : CmdHdr) (op : Nat) (r : ListRec) (e : CEnd) : Steady c i (failCmd x op r e s) := by
  simp [Machine.failCmd, h]

@[simp] theorem Steady.bodyDone (r : ListRec) : Steady c i (bodyDone r s) := by simp [Machine.bodyDone, h]

@[simp] theorem Steady.okCmd (x : CmdHdr) (op : Nat) (r : ListRec) (e : CEnd) : Steady c i (okCmd x op r e s) := by
  have hdone : Steady c i (if x.notify || x.fin then Machine.writeCompl x op { e with flags := e.flags ||| r.flags } (Machine.lanternAdd r.room x.signal 1 s)
      else Machine.lanternAdd r.room x.signal 1 s) := by simp [h]
  rw [Machine.okCmd]
  split
  · exact (steady_endList _ _).2 (hdone.bodyDone r)
  · exact hdone

@[simp] theorem Steady.endCmd (x : CmdHdr) (op : Nat) (r : ListRec) (e : CEnd) : Steady c i (endCmd x op r e s) := by
  simp [Machine.endCmd, h]

/-! ### Waits on tide time -/

theorem Steady.armWait (w : TimedWait) : Steady c i (armWait w s) := by
  rw [Machine.armWait]
  split
  · refine Steady.raise ?_ 5 3
    exact h
  · exact h

@[simp] theorem Steady.wakeTimed (fn q l flags : Nat) : Steady c i (wakeTimed fn q l flags s) := by
  rw [Machine.wakeTimed]
  split
  · split
    · simp [h]
    · exact h
  · exact h

theorem Steady.serveHeld (k : Nat) : Steady c i (serveHeld k s) := by
  induction k generalizing s with
  | zero => exact h
  | succ k ih =>
    rw [Machine.serveHeld]
    split
    · exact h
    · split
      · exact h
      · refine ih ?_
        split
        · exact h
        · refine Steady.wakeTimed ?_ _ _ _ _
          exact h

@[simp] theorem Steady.slotFreed : Steady c i (slotFreed s) := h.serveHeld _

/-! ### Units that fail -/

@[simp] theorem Steady.deviceFatal (unit object d0 : Nat) : Steady c i (deviceFatal unit object d0 s) := by
  simp only [Machine.deviceFatal, steady_ite, steady_setErrs]
  split
  · exact h
  · exact (h.ledgerInn _).raise 12 7

/-- A unit that was not in ACQUIRE may go anywhere. -/
theorem Steady.of_other (hs : s.tide.st ≠ .acquire) {u : State} (hu : evBit u 0 i = true) : Steady c i u := by
  obtain ⟨htide, -⟩ := h
  refine ⟨fun ha => ?_, hu⟩
  obtain ⟨hst, -⟩ := htide ha
  exact absurd hst hs

omit h in
theorem evBit_toHoldover (hb : evBit s 0 i = true) (rate : Int) (hops : Nat) : evBit (toHoldover rate hops s) 0 i = true := by
  refine steady_free.1 (Steady.tideRec (Steady.raise ?_ 0 1) 0xC3 _)
  exact steady_free.2 hb

omit h in
theorem evBit_toAcquire (hb : evBit s 0 i = true) : evBit (toAcquire s) 0 i = true := hb

omit h in
theorem evBit_modTide (hb : evBit s 0 i = true) (f : Tide → Tide) : evBit (modTide f s) 0 i = true := hb

/-- A unit in ACQUIRE chooses its source and stays there. -/
@[simp] theorem Steady.reselect (hops : Nat) : Steady c i (reselect hops s) := by
  obtain ⟨-, hbit⟩ := id h
  simp only [Machine.reselect]
  split
  · next hs =>
    split
    · exact h.modTide rfl rfl
    · exact h.of_other (by rw [hs]; decide) (evBit_toAcquire (evBit_modTide hbit _))
  · exact h.modTide rfl rfl
  · next hs =>
    split
    · exact h.of_other (by rw [hs]; decide) (evBit_toHoldover hbit _ _)
    · exact h.modTide rfl rfl
  · split
    · exact h
    · exact h.modTide rfl rfl

theorem Steady.ite_raise (p : Prop) [Decidable p] (b j : Nat) : Steady c i (if p then Machine.raise b j s else s) := by
  split
  · exact h.raise b j
  · exact h

theorem Steady.ite_tideRec (p : Prop) [Decidable p] (kind : Nat) (off : Int) : Steady c i (if p then Machine.tideRec kind off s else s) := by
  split
  · exact h.tideRec kind off
  · exact h

@[simp] theorem Steady.elect : Steady c i (elect s) := by
  simp only [Machine.elect]
  refine Steady.reselect (Steady.ite_tideRec (Steady.ite_raise (Steady.ite_raise ?_ _ 0 3) _ 0 2) _ 0xC2 _) _
  exact h.modTide rfl rfl

@[simp] theorem Steady.neighbourLoss (p : Nat) : Steady c i (neighbourLoss p s) := by
  simp only [Machine.neighbourLoss]
  split
  · refine Steady.elect (Steady.modTide ?_ rfl rfl)
    simp [h]
  · exact h

@[simp] theorem Steady.ethDown (p half : Nat) : Steady c i (ethDown p half s) := by simp [Machine.ethDown, h]

@[simp] theorem Steady.linkDown (p half : Nat) : Steady c i (linkDown p half s) := by simp [Machine.linkDown, h]

@[simp] theorem Steady.darkLanes (p : Nat) : Steady c i (darkLanes p s) := h.foldl (fun u l hu => by simp [hu]) _

@[simp] theorem Steady.fpDisable (p : Nat) : Steady c i (fpDisable p s) := by
  simp only [Machine.fpDisable, steady_modFport]
  exact (((h.linkDown p 0).ethDown p 1).darkLanes p).foldl (fun u l hu => by simp [hu]) _

@[simp] theorem Steady.classCheck (n : Nat) : Steady c i (classCheck n s) := by simp [Machine.classCheck, h]

@[simp] theorem Steady.classChecks : Steady c i (classChecks s) := h.foldl (fun _ n hu => hu.classCheck n) _

@[simp] theorem Steady.trapList (t : Nat) (r : ListRec) : Steady c i (trapList t r s) :=
  (((h.failCmd _ _ _ _).qStop _ _ _ _).ledgerRoom _ _).ledgerInn _

@[simp] theorem Steady.haltTile (t : Nat) : Steady c i (haltTile t s) := by
  simp only [Machine.haltTile]
  split
  · exact h
  · refine Steady.foldl ?_ (fun _ r hu => hu.trapList t r) _
    exact Steady.raise h 5 0

@[simp] theorem Steady.unitDown (u : Nat) : Steady c i (unitDown u s) := by
  simp only [Machine.unitDown]
  split
  · exact h
  · split
    · split
      · exact h.deviceFatal _ _ _
      · split
        · exact h.foldl (fun _ p hu => hu.fpDisable p) _
        · exact h
    · split
      · exact (h.foldl (fun _ t hu => hu.haltTile _) _).classChecks
      · exact h

omit h in
theorem steady_sinks (c : Tide) (i : Fin 56) : sinks.Steady c i :=
  ⟨fun r _ hs => hs.ledgerInn r, fun rm r _ hs => hs.ledgerRoom rm r, fun u _ hs => hs.unitDown u⟩

@[simp] theorem Steady.meetBad (x : Access) (b : Bad) : Steady c i (meetBad x b s) := h.meetBy (steady_sinks _ _) 3 x b

/-! ### Access to data -/

@[simp] theorem Steady.meetCe (m line pos : Nat) : Steady c i (meetCe m line pos s) := by
  simp only [Machine.meetCe]
  split
  · simp [h]
  · simp [h]

@[simp] theorem Steady.correctRange (a n : Nat) : Steady c i (correctRange a n s) := by
  rw [Machine.correctRange]
  split
  · exact h
  · exact h.foldl (fun _ l hu => hu.meetCe _ l 0) _

@[simp] theorem Steady.countBlocks (o : Nat) (f : Nat → Nat) (l : List Nat) : Steady c i (countBlocks o f l s) := by
  refine h.foldl (fun u b hu => ?_) _
  split
  · exact hu
  · exact hu

@[simp] theorem Steady.countRead (a n : Nat) : Steady c i (countRead a n s) := by simp [Machine.countRead, h]

@[simp] theorem Steady.tlbReplace (l : List TEntry) (e : TEntry) : Steady c i (tlbReplace l e s) := by
  rw [Machine.tlbReplace]
  split
  · exact h
  · exact h

@[simp] theorem Steady.tlbUse (e : TEntry) : Steady c i (tlbUse e s) := by
  rw [Machine.tlbUse]
  split
  · exact h
  · simp [Machine.tlbFill, h]

@[simp] theorem Steady.tableUse (a : Nat) : Steady c i (tableUse a s) := by
  rw [Machine.tableUse]
  split
  · split
    · exact h.ledgerInn _
    · refine Steady.ledgerInn ?_ _
      exact h
  · exact h

@[simp] theorem Steady.useSeg (x : DCtx) (a : Nat) (g : Seg) : Steady c i (useSeg x a g s) := by
  simp only [Machine.useSeg]
  split
  · exact h
  · split
    · exact (h.tableUse _).tlbUse _
    · split
      · exact h.tlbUse _
      · exact h
    · exact h

@[simp] theorem Steady.readSegEff (g : Seg) : Steady c i (readSegEff g s) := by
  rw [Machine.readSegEff]
  split
  · exact h
  · exact ((h.resolveLines _ _).countRead _ _).correctRange _ _

@[simp] theorem Steady.writeSeg (g : Seg) (d : List Byte) : Steady c i (writeSeg g d s) := by
  rw [Machine.writeSeg]
  split
  · exact h
  · simp [h]

@[simp] theorem Steady.readEff (x : DCtx) (a n : Nat) : Steady c i (readEff x a n s) :=
  (h.foldl (fun _ g hu => (hu.useSeg x a g).readSegEff g) _).dataOnly

@[simp] theorem Steady.writeEff (x : DCtx) (a : Nat) (d : List Byte) : Steady c i (writeEff x a d s) :=
  (h.foldl (fun _ g hu => (hu.useSeg x a g).writeSeg g _) _).dataOnly

@[simp] theorem Steady.atsStart (x : DCtx) (a : Nat) : Steady c i (atsStart x a s) := by
  rw [Machine.atsStart]
  split
  · split
    · exact h
    · exact h
  · exact h

@[simp] theorem Steady.atsTaken (x : DCtx) (a : Nat) : Steady c i (atsTaken x a s) := by
  rw [Machine.atsTaken]
  split
  · exact h
  · exact h

@[simp] theorem Steady.stopEff (x : DCtx) (a : Nat) (e : DErr × Nat) : Steady c i (stopEff x a e s) := by
  simp only [Machine.stopEff]
  refine Steady.dataOnly ?_
  split
  · exact (h.atsTaken _ _).ledgerRoom _ _
  · exact h.atsStart _ _
  · exact h.meetBad _ _
  · exact h.tableUse _
  · exact h.ledgerRoom _ _
  · exact h

@[simp] theorem Steady.unitsMeet (rm object : Nat) (e : DErr) : Steady c i (unitsMeet rm object e s) := by
  rw [Machine.unitsMeet.eq_def]
  split
  · exact (h.meetBad _ _).dataOnly
  · exact h

@[simp] theorem Steady.accessEff (x : DCtx) (y : Bool × Nat × (DErr × Nat)) : Steady c i (accessEff x y s) := h.stopEff _ _ _

@[simp] theorem Steady.loadEff (x : DCtx) (a n : Nat) : Steady c i (loadEff x a n s) := h.readEff _ a n

@[simp] theorem Steady.storeLe (x : DCtx) (a n v : Nat) : Steady c i (storeLe x a n v s) := h.writeEff _ a _

@[simp] theorem Steady.askUnits (d pool : Nat) (w : HarbourWait) : Steady c i (askUnits d pool w s).2 := by
  simp only [Machine.askUnits]
  split
  · exact h
  · split
    · exact h
    · split
      · refine h.unitsOnly (Steady.ledgerRoom (Steady.raise ?_ 1 0) _ _)
        rw [steady_setMem, steady_setMem]
        exact h
      · exact h

end

end Sys2Proof.Machine

/-! ## Collectives leave the clock of the tide unit, and its events -/

namespace Sys2Proof.Machine

open Sys2Proof

section
variable {c : Tide} {i : Fin 56} {s : State} (h : Steady c i s)
include h

/-! ### Streams -/

theorem Steady.openStream (it : Itin) (peer epoch num : Nat) : Steady c i (openStream it peer epoch num s) := by
  simp only [Machine.openStream]
  split
  · exact h
  · exact h

@[simp] theorem Steady.streamSend (it : Itin) (peer epoch num op : Nat) (x : CollExt) (d : List Byte) :
    Steady c i (streamSend it peer epoch num op x d s) := by
  simp only [Machine.streamSend]
  refine Steady.foldl ?_ (fun u x hu => (steady_streamQueue _ _).2 hu) _
  exact (steady_streamMsn _).2 (h.openStream _ _ _ _)

/-! ### Members as they end -/

@[simp] theorem Steady.memberDone (m : Member) (e : CEnd) : Steady c i (memberDone m e s) := by
  have hfreed (ws : List TimedWait) (f : Colls → Colls) :
      Steady c i (Machine.slotFreed (if !m.silent && e.flags / 4 % 2 = 1 then bump 0x250178 (Machine.modTide (fun t => { t with waits := ws }) (modColl f s))
        else Machine.modTide (fun t => { t with waits := ws }) (modColl f s))) := by
    refine Steady.slotFreed ?_
    rw [steady_ite, steady_bump, ite_self]
    exact Steady.modTide ((steady_modColl f).2 h) rfl rfl
  simp only [Machine.memberDone]
  split
  · exact hfreed _ _
  · split
    · exact hfreed _ _
    · exact Steady.endCmd ((steady_setList _).2 (hfreed _ _)) _ _ _ _

theorem Steady.wildEnd (on : Bool) (e : CEnd) : Steady c i (wildEnd on (e, s)).2 := by
  rw [Machine.wildEnd]
  split
  · exact h
  · exact h

@[simp] theorem Steady.memberOk (m : Member) : Steady c i (memberOk m s) := (h.wildEnd _ _).memberDone m _

@[simp] theorem Steady.memberAborted (m : Member) (cause : Nat) (tainted : Bool) : Steady c i (memberAborted m cause tainted s) :=
  Steady.memberDone ((steady_bump _).2 h) m _

@[simp] theorem Steady.stopMember (m : Member) (cause : Nat) : Steady c i (stopMember m cause s) := by simp [Machine.stopMember, h]

/-! ### Nodes that abort, and open -/

@[simp] theorem Steady.sendAbort (it : Itin) (n : CNode) (tree peer : Nat) (down : Bool) (cause : Nat) :
    Steady c i (sendAbort it n tree peer down cause s) := (h.openStream _ _ _ _).originate _

@[simp] theorem Steady.abortNode (n e cause : Nat) (via : Option (Nat × Nat)) : Steady c i (abortNode n e cause via s) := by
  simp only [Machine.abortNode]
  split
  · rw [steady_dropStreams, steady_modColl]
    refine h.foldl (fun u x hu => ?_) _
    split
    · split
      · exact hu
      · exact hu.foldl (fun _ y hv => hv.sendAbort _ _ _ _ _ _) _
    · exact hu.foldl (fun _ y hv => hv.sendAbort _ _ _ _ _ _) _
  · exact h

theorem Steady.openNode {n e count ctrl : Nat} {force : Bool} {t : State} (ht : openNode n e count ctrl force s = some t) : Steady c i t := by
  simp only [Machine.openNode] at ht
  split at ht
  · cases ht
  · split at ht
    · cases ht
      exact h
    · obtain ⟨-, ht⟩ := Option.ite_none_left_eq_some.1 ht
      cases ht
      exact (steady_modColl _).2 (h.foldl (fun _ n hu => (steady_freeNode _ _).2 hu) _)

@[simp] theorem Steady.bulkBegin (m : Member) : Steady c i (bulkBegin m s) := by
  simp only [Machine.bulkBegin]
  split
  · exact h
  · next hopen =>
    split
    · exact (steady_modMember _ _).2 (h.openNode hopen)
    · exact (steady_setNode _).2 ((steady_modMember _ _).2 (h.openNode hopen))

@[simp] theorem Steady.startFire (w : TimedWait) : Steady c i (startFire w s) := by
  simp only [Machine.startFire]
  split
  · exact h
  · simp [h]

theorem Steady.startWait (m : Member) (t : Word) (waiting : Nat) {go : Member → State → State} (hgo : ∀ m u, Steady c i u → Steady c i (go m u)) :
    Steady c i (startWait m t waiting go s) := by
  simp only [Machine.startWait]
  split
  · exact hgo _ _ h
  · split
    · exact hgo _ _ ((steady_modMember _ _).2 h)
    · exact Steady.armWait ((steady_modMember _ _).2 h) _

/-! ### Rounds -/

omit h in
/-- A run of steady steps that carries a number along. -/
theorem Steady.foldl_snd {α β : Type} {f : β × State → α → β × State} (hf : ∀ a x, Steady c i a.2 → Steady c i (f a x).2) (l : List α) {a : β × State}
    (ha : Steady c i a.2) : Steady c i (l.foldl f a).2 := by
  induction l generalizing a with
  | nil => exact ha
  | cons x l ih => exact ih (hf a x ha)

@[simp] theorem Steady.sendRound (it : Itin) (ctrl gen peer op : Nat) (down : Bool) (x : CollExt) (runs : List (List (List Byte))) :
    Steady c i (sendRound it ctrl gen peer op down x runs s) := by
  refine Steady.foldl_snd (fun a run ha => ?_) runs h
  exact (steady_streamQueue _ _).2 ((steady_streamMsn _).2 (ha.openStream _ _ _ _))

theorem Steady.roundOk (m : Member) (kind : Nat) (vals : List Nat) (flags : Flags) (root : Bool) : Steady c i (roundOk m kind vals flags root s) := by
  simp only [Machine.roundOk]
  split
  · exact h.startWait m _ 2 fun m _ hu => hu.bulkBegin m
  · split
    · refine Steady.memberOk ?_ _
      simp [h]
    · split
      · refine Steady.startWait ?_ m _ 6 fun _ _ hu => (steady_modMember _ _).2 hu
        simp [h]
      · exact h

/-- A member that is bulk and runs takes its node down with it. -/
theorem Steady.ite_abortNode (p : Prop) [Decidable p] (n e cause : Nat) (via : Option (Nat × Nat)) :
    Steady c i (if p then Machine.abortNode n e cause via s else s) := by
  split
  · exact h.abortNode n e cause via
  · exact h

theorem Steady.roundAborted (m : Member) (cause : Nat) (tainted : Bool) : Steady c i (roundAborted m cause tainted s) :=
  ((h.ite_abortNode _ _ _ _ _).stopMember m cause).memberAborted _ cause tainted

/-- What goes to the children of this device's place in a tree. -/
theorem Steady.toChildren (x : Option (Itin × Tree)) {f : Itin → State → Nat → State} (hf : ∀ it u p, Steady c i u → Steady c i (f it u p)) :
    Steady c i (match x with | some (it, t) => t.children.foldl (f it) s | none => s) := by
  cases x with
  | none => exact h
  | some x => exact h.foldl (hf x.1) _

theorem Steady.outAbort (k : Nat × Nat × Nat) (ctrl kind cause : Nat) (tainted incomplete : Bool) :
    Steady c i (outAbort k ctrl kind cause tainted incomplete s) := by
  refine Steady.foldl ((steady_closeSeq _).2 (h.toChildren _ fun it u p hu => hu.sendRound it _ _ p _ _ _ _)) (fun u m hu => ?_) _
  split
  · exact hu
  · exact hu.roundAborted _ _ _

theorem Steady.outOk (r : Round) : Steady c i (outOk r s) := by
  refine Steady.foldl ?_ (fun u m hu => hu.roundOk _ _ _ _ _) _
  rw [steady_ite, steady_closeSeq, steady_closeRound, ite_self]
  exact h.toChildren _ fun it u p hu => hu.sendRound it _ _ p _ _ _ _

theorem Steady.decide_ (r : Round) : Steady c i (decide_ r s) := by
  simp only [Machine.decide_]
  generalize (if r.kind = 5 then r.cause else roundCause s r) = cause
  split
  · refine Steady.outAbort ?_ _ _ _ _ _ _
    simp [h]
  · refine Steady.outOk ?_ _
    simp [h]

theorem Steady.roundStep (k : Nat × Nat × Nat) (kind : Nat) : Steady c i (roundStep k kind s) := by
  simp only [Machine.roundStep]
  split
  · exact h
  · split
    · exact h
    · split
      · exact h
      · split
        · exact h.decide_ _
        · exact Steady.sendRound ((steady_setRound _).2 h) _ _ _ _ _ _ _ _

theorem Steady.roundIn (k : Nat × Nat × Nat) (kind ctrl src : Nat) (x : Contrib) : Steady c i (roundIn k kind ctrl src x s) :=
  Steady.roundStep ((steady_setRound _).2 h) k kind

theorem Steady.contribute (m : Member) (kind : Nat) (x : Contrib) : Steady c i (contribute m kind x s) := h.roundIn _ _ _ _ _

/-! ### Abort rounds -/

theorem Steady.joinLocals (k : Nat × Nat × Nat) (cause : Nat) : Steady c i (joinLocals k cause s) := by
  refine h.foldl (fun u m hu => ?_) _
  split
  · exact hu
  · split
    · exact hu
    · exact Steady.contribute ((steady_modMember _ _).2 ((hu.ite_abortNode _ _ _ _ _).stopMember _ _)) _ _ _

theorem Steady.callHere (k : Nat × Nat × Nat) (ctrl cause : Nat) : Steady c i (callHere k ctrl cause s) := by
  simp only [Machine.callHere]
  split
  · exact h
  · exact (Steady.toChildren ((steady_modColl _).2 h) _ fun it u p hu => hu.sendRound it _ _ p _ _ _ _).joinLocals k cause

theorem Steady.callAbort (k : Nat × Nat × Nat) (ctrl cause : Nat) : Steady c i (callAbort k ctrl cause s) := by
  simp only [Machine.callAbort]
  split
  · exact h
  · exact Steady.callHere ((steady_setRound _).2 h) k ctrl cause

theorem Steady.alert (k : Nat × Nat × Nat) (ctrl cause : Nat) (released : Bool) : Steady c i (alert k ctrl cause released s) := by
  simp only [Machine.alert]
  split
  · exact h
  · split
    · exact h
    · split
      · exact Steady.callAbort ((steady_modColl _).2 h) _ _ _
      · exact Steady.sendRound ((steady_modColl _).2 h) _ _ _ _ _ _ _ _

@[simp] theorem Steady.memberAbort (id cause : Nat) : Steady c i (memberAbort id cause s) := by
  simp only [Machine.memberAbort]
  split
  · exact h
  · split
    · exact h
    · exact Steady.alert ((steady_modMember _ _).2 ((h.ite_abortNode _ _ _ _ _).stopMember _ _)) _ _ _ _

theorem Steady.nodeAborted (n e cause : Nat) (via : Option (Nat × Nat)) : Steady c i (nodeAborted n e cause via s) :=
  (h.abortNode n e cause via).foldl (fun _ _ hu => hu.memberAbort _ _) _

theorem Steady.memStop (m : Member) (x : DCtx) (y : Bool × Nat × (DErr × Nat)) : Steady c i (memStop m x y s) := by
  rw [Machine.memStop]
  split
  · exact h.accessEff x y
  · exact (h.accessEff x y).memberAbort _ _

/-! ### Chunks at a node -/

theorem Steady.atNode (n e : Nat) {f : Itin → CNode → State → State} (hf : ∀ it n, Steady c i (f it n s)) : Steady c i (atNode n e f s) := by
  rw [Machine.atNode]
  split
  · exact hf _ _
  · exact h

theorem Steady.atChunk (n e t k : Nat) {f : Itin → CNode → CChunk → State → State} (hf : ∀ it n x, Steady c i (f it n x s)) :
    Steady c i (atChunk n e t k f s) := by
  refine h.atNode n e fun it n => ?_
  split
  · exact hf _ _ _
  · exact h

theorem Steady.expStep (it : Itin) (n : CNode) (x : CChunk) : Steady c i (expStep it n x s) := by simp [Machine.expStep, h]

theorem Steady.candStep (n e t : Nat) : Steady c i (candStep n e t s) := by
  refine h.atNode n e fun it n => ?_
  simp [h]

/-- What goes to the children of a node, one after the other. -/
theorem Steady.sendDown (l : List Nat) (it : Itin) (epoch num op : Nat) (x : CollExt) (d : List Byte) :
    Steady c i (l.foldl (fun s p => Machine.streamSend it p epoch num op x d s) s) :=
  h.foldl (fun _ p hu => hu.streamSend it p epoch num op x d) _

theorem Steady.openChunk (n e t k die pool units : Nat) : Steady c i (openChunk n e t k die pool units s) := by
  refine h.atChunk n e t k fun it n x => ?_
  have hopened : Steady c i (setChunk n { x with opened := true, die := die, pool := pool, units := (takeUnits die units s).1 } (takeUnits die units s).2) :=
    (steady_setChunk _ _).2 ((steady_takeUnits _ _).2 h)
  split
  · exact h
  · dsimp only
    split
    · exact hopened
    · exact hopened.sendDown _ _ _ _ _ _ _

theorem Steady.openStep (it : Itin) (n : CNode) (x : CChunk) : Steady c i (openStep it n x s) := by
  simp only [Machine.openStep]
  split
  · exact h
  · split
    · exact h.openChunk _ _ _ _ _ _ _
    · split
      · exact h
      · split
        · exact (h.askUnits _ _ _).openChunk _ _ _ _ _ _ _
        · exact h.askUnits _ _ _

theorem Steady.heldStep (it : Itin) (n : CNode) (x : CChunk) : Steady c i (heldStep it n x s) := by
  rw [Machine.heldStep]
  split
  · exact h
  · exact h.foldl (fun u m hu => by simp [hu]) _

/-- A run of reads. -/
theorem Steady.loads (x : DCtx) (l : List (Bool × Nat × Nat)) : Steady c i (l.foldl (fun s y => Machine.loadEff x y.2.1 y.2.2 s) s) :=
  h.foldl (fun _ _ hu => hu.loadEff x _ _) _

theorem Steady.convOne (it : Itin) (n : CNode) (x : CChunk) (m : Member) : Steady c i (convOne it n x m s) := by
  simp only [Machine.convOne]
  split
  · exact h.memStop _ _ _
  · have hread := fun y l j f => (steady_modMember (c := c) (i := i) m.id f).2 ((steady_countIn n.fws.float j).2 (h.loads y l))
    exact Steady.atChunk (hread _ _ _ _) _ _ _ _ fun _ _ _ => (steady_setChunk _ _).2 (hread _ _ _ _)

theorem Steady.convStep (n e t k : Nat) : Steady c i (convStep n e t k s) := by
  refine h.foldl (fun u m hu => hu.atChunk n e t k fun it n x => ?_) _
  split
  · exact hu
  · exact hu.convOne _ _ _ _

theorem Steady.chunkMsn (n : CNode) (x : CChunk) (slot key : Nat) : Steady c i (chunkMsn n x slot key s).2 := by
  rw [Machine.chunkMsn]
  split
  · exact h
  · exact (steady_setChunk _ _).2 ((steady_streamMsn _).2 h)

theorem Steady.chunkPkt (it : Itin) (n : CNode) (x : CChunk) (peer slot op : Nat) (down : Bool) (off : Nat) (d : List Byte) (fin : Option Nat) :
    Steady c i (chunkPkt it n x peer slot op down off d fin s) := (steady_streamQueue _ _).2 ((h.openStream _ _ _ _).chunkMsn _ _ _ _)

theorem Steady.sumOne (n e t k : Nat) : Steady c i (sumOne n e t k s) := by
  refine h.atChunk n e t k fun it n x => ?_
  dsimp only
  split
  · exact h
  · exact (h.chunkPkt _ _ _ _ _ _ _ _ _ _).atChunk _ _ _ _ fun _ _ _ => (steady_setChunk _ _).2 (h.chunkPkt _ _ _ _ _ _ _ _ _ _)

theorem Steady.sumStep (n e t k : Nat) : Steady c i (sumStep n e t k s) :=
  h.atNode n e fun _ _ => h.foldl (fun _ _ hu => hu.sumOne _ _ _ _) _

theorem Steady.rootOne (n e t k j : Nat) : Steady c i (rootOne n e t k j s) := by
  refine h.atChunk n e t k fun it n x => ?_
  simp [h]

theorem Steady.sendResult (it : Itin) (n : CNode) (x : CChunk) : Steady c i (sendResult it n x s) := h.sendDown _ _ _ _ _ _ _

theorem Steady.rootStep (n e t k : Nat) : Steady c i (rootStep n e t k s) := by
  refine h.atChunk n e t k fun it nd x => ?_
  dsimp only
  split
  · exact h
  · have hranges (l : List Nat) : Steady c i (l.foldl (fun s j => Machine.rootOne n e t k j s) s) := h.foldl (fun _ j hu => hu.rootOne _ _ _ _ j) _
    refine (hranges _).atChunk _ _ _ _ fun _ _ _ => ?_
    split
    · exact hranges _
    · split
      · exact Steady.sendResult ((steady_setChunk _ _).2 (hranges _)) _ _ _
      · exact (steady_setChunk _ _).2 (hranges _)

theorem Steady.gatherStep (n e t k : Nat) : Steady c i (gatherStep n e t k s) := by
  refine h.atChunk n e t k fun it n x => ?_
  dsimp only
  split
  · exact h
  · split
    · exact h
    · split
      · exact h.memStop _ _ _
      · exact Steady.sendResult ((steady_setChunk _ _).2 (h.loads _ _)) _ _ _

theorem Steady.passOne (it : Itin) (n : CNode) (x : CChunk) (m : Member) : Steady c i (passOne it n x m s) := by
  simp only [Machine.passOne]
  split
  · exact h
  · exact (steady_modMember _ _).2 h
  · split
    · exact h.memStop _ _ _
    · rw [steady_modMember, steady_ite, steady_useFresh, ite_self]
      simp [h]

theorem Steady.passStep (n e t k : Nat) : Steady c i (passStep n e t k s) := by
  refine h.foldl (fun u m hu => hu.atChunk n e t k fun it n x => ?_) _
  split
  · split
    · exact hu
    · exact hu.passOne _ _ _ _
  · exact hu

theorem Steady.relStep (n e t k : Nat) : Steady c i (relStep n e t k s) := by
  refine h.atChunk n e t k fun it n x => ?_
  simp [h]

theorem Steady.chunkGo (n e t k : Nat) : Steady c i (chunkGo n e t k s) := by
  have hexp := h.atChunk n e t k fun it n x => h.expStep it n x
  have hopen := hexp.atChunk n e t k fun it n x => hexp.openStep it n x
  have hheld := hopen.atChunk n e t k fun it n x => hopen.heldStep it n x
  exact (((((hheld.gatherStep _ _ _ _).convStep _ _ _ _).sumStep _ _ _ _).rootStep _ _ _ _).passStep _ _ _ _).relStep _ _ _ _

theorem Steady.chunkStep (n e t k : Nat) : Steady c i (chunkStep n e t k s) := by
  rw [Machine.chunkStep]
  split
  · exact h.chunkGo _ _ _ _
  · split
    · exact h.chunkGo _ _ _ _
    · split
      · exact h
      · exact (h.unitsMeet _ _ _).nodeAborted _ _ _ _

/-! ### Members at a node -/

theorem Steady.normStep (id : Nat) : Steady c i (normStep id s) := by
  simp only [Machine.normStep]
  split
  · exact h
  · split
    · exact h
    · split
      · exact h
      · split
        · exact h.memStop _ _ _
        · exact (steady_modMember _ _).2 (h.storeLe _ _ _ _)

theorem Steady.relMember (id : Nat) : Steady c i (relMember id s) := by
  simp only [Machine.relMember]
  split
  · exact h
  · split
    · exact h
    · split
      · exact h
      · have hreleased (p : Prop) [Decidable p] (rm l n : Nat) (f : Member → Member) :
            Steady c i (if p then Machine.lanternAdd rm l n (modMember id f s) else s) := by simp [h]
        split
        · exact hreleased _ _ _ _ _
        · exact Steady.contribute ((steady_modMember _ _).2 (hreleased _ _ _ _ _)) _ _ _

theorem Steady.finStep (n e : Nat) : Steady c i (finStep n e s) := by
  refine h.atNode n e fun it n => ?_
  simp [h]

/-- The root's candidates of every tree, as far as the window goes. -/
theorem Steady.candSteps (n e : Nat) : Steady c i (Machine.atNode n e (fun it _ s => (List.range it.trees.length).foldl (fun s t =>
    (List.range it.window).foldl (fun s _ => Machine.candStep n e t s) s) s) s) :=
  h.atNode n e fun _ _ => h.foldl (fun _ t hu => hu.foldl (fun _ _ hv => hv.candStep n e t) _) _

theorem Steady.chunkSteps (n e : Nat) :
    Steady c i (Machine.atNode n e (fun _ x s => x.chunks.foldl (fun s k => Machine.chunkStep n e k.tree k.chunk s) s) s) :=
  h.atNode n e fun _ _ => h.foldl (fun _ k hu => hu.chunkStep n e k.tree k.chunk) _

theorem Steady.nodeStep (n e : Nat) : Steady c i (nodeStep n e s) :=
  (((h.candSteps n e).chunkSteps n e).foldl (fun _ _ hu => (hu.normStep _).relMember _) _).finStep n e

/-! ### Members as they start, and write -/

theorem Steady.takeRound {k : Nat × Nat × Nat} {kind ctrl sig : Nat} {t : State} (ht : takeRound k kind ctrl sig s = some t) : Steady c i t := by
  simp only [Machine.takeRound] at ht
  split at ht
  · cases ht
    exact h
  · split at ht
    · cases ht
    · cases ht
      exact (steady_setRound _).2 ((steady_takeUnits _ _).2 h)

theorem Steady.joinCalled (id : Nat) : Steady c i (joinCalled id s) := by
  rw [Machine.joinCalled]
  split
  · split
    · exact h.joinLocals _ _
    · exact h
  · exact h

/-- A member's first round begins: the match that `memberStart` goes on with. -/
theorem Steady.beginRound (m : Member) (id kind sig : Nat) (x : Contrib) (f : Member → Member) : Steady c i
    (match Machine.takeRound m.key kind m.party.ctrl sig s with
      | none => s
      | some t => if (modMember id f t).coll.called.contains m.key then Machine.joinCalled id (modMember id f t)
        else Machine.contribute m kind x (modMember id f t)) := by
  split
  · exact h
  · next htake =>
    have hbegun := (steady_modMember id f).2 (h.takeRound htake)
    split
    · exact hbegun.joinCalled id
    · exact hbegun.contribute _ _ _

theorem Steady.memberStart (id : Nat) : Steady c i (memberStart id s) := by
  simp only [Machine.memberStart]
  split
  · exact h
  · next m _ =>
    generalize (if m.isBulk then 1 else if m.op = 0x20 then 3 else 4) = kind
    split
    · exact h
    · split
      · exact h.beginRound m id _ _ _ _
      · split
        · exact h.beginRound m id _ _ _ _
        · split
          · exact h.memStop _ _ _
          · split
            · exact h
            · exact (h.loads _ _).beginRound m id _ _ _ _

theorem Steady.memberWrite (id : Nat) : Steady c i (memberWrite id s) := by
  simp only [Machine.memberWrite]
  split
  · exact h
  · split
    · exact h
    · split
      · split
        · exact h.accessEff _ _
        · exact (h.accessEff _ _).memberAborted _ _ _
      · exact (h.foldl (fun _ y hu => hu.storeLe _ _ _ _) _).memberOk _

theorem Steady.memberLate (id : Nat) : Steady c i (memberLate id s) := by
  rw [Machine.memberLate]
  split
  · refine Steady.slotFreed (Steady.startFire ?_ _)
    exact h
  · exact h

theorem Steady.roundUnitsLost (r : Round) : Steady c i (roundUnitsLost r s) := by
  rw [Machine.roundUnitsLost]
  split
  · split
    · exact h
    · exact Steady.alert ((steady_setRound _).2 (h.unitsMeet _ _ _)) _ _ _ _
  · exact h

theorem Steady.settlePass : Steady c i (settlePass s) :=
  ((((h.foldl (fun _ m hu => hu.memberLate m.id) _).foldl (fun _ r hu => hu.roundUnitsLost r) _).foldl (fun _ m hu => hu.memberStart m.id) _).foldl
    (fun _ n hu => hu.nodeStep n.itin n.epoch) _).foldl (fun _ m hu => hu.memberWrite m.id) _

/-- All that the collectives can do leaves the clock of a unit in ACQUIRE, and the event. -/
theorem Steady.settle : Steady c i (settle s) := by
  have hgo (k : Nat) {u : State} (hu : Steady c i u) : Steady c i (settleGo k u) := by
    induction k generalizing u with
    | zero => exact hu
    | succ k ih => exact ih hu.settlePass
  exact hgo _ h

end

end Sys2Proof.Machine

/-! ## The tide unit corrects its rate, steps its count, and follows its references -/

namespace Sys2Proof.Machine

open Sys2Proof

/-! ### The rate (R84, R85, R87) -/

theorem clampRate_bounds {b : Int} (hb : 0 ≤ b) (r : Int) : -b ≤ clampRate b r ∧ clampRate b r ≤ b := by
  simp only [clampRate]
  split
  · omega
  · split
    · omega
    · omega

/-- The mean of the first 16 offsets. -/
def meanOffset (t : Tide) : Int := Int.tdiv ((t.samples.take 16).foldl (fun a x => a + x) 0) 16

/-- The 16 offsets that have been averaged are gone. -/
def Tide.averaged (t : Tide) : Tide := { t with samples := t.samples.drop 16, offset := meanOffset t }

/-- A good mean in LOCKED moves the rate, and ends a run of bad ones. -/
def Tide.servoed (t : Tide) : Tide :=
  let r := clampRate rateMax (Config.servo t.rate (meanOffset t))
  { t.averaged with badRun := 0, rate := r, rateLog := ((t.count, r) :: t.rateLog).take 400000 }

section
variable {s : State} (hlen : 16 ≤ s.tide.samples.length)
include hlen

theorem rateAdjust_locked (hst : s.tide.st = .locked) (hlo : -160 ≤ meanOffset s.tide) (hhi : meanOffset s.tide ≤ 160) :
    rateAdjust s = modTide Tide.servoed s := by
  have hgood : (decide (meanOffset s.tide < -160) || decide (160 < meanOffset s.tide)) = false := by
    rw [decide_eq_false (by omega), decide_eq_false (by omega), Bool.or_self]
  rw [meanOffset] at hgood
  simp only [rateAdjust, if_neg (Nat.not_lt.2 hlen), hst, hgood, Bool.false_and, Bool.false_eq_true, if_false]
  rfl

theorem rateAdjust_acquire (hst : s.tide.st = .acquire) (hfirst : s.tide.firstDone = false) (hbig : usTicks < meanOffset s.tide) :
    rateAdjust s = tideStep (meanOffset s.tide) (modTide (fun t => { t.averaged with firstDone := true }) s) := by
  rw [meanOffset] at hbig
  simp only [rateAdjust, if_neg (Nat.not_lt.2 hlen), hst, hfirst, hbig, decide_true, Bool.or_true, Bool.not_false, Bool.and_self, if_true]
  rfl

end

/-- Without waits nothing fires. -/
theorem fireReached_idle {s : State} (hw : s.tide.waits = []) : fireReached s = s := by
  rw [fireReached, hw]
  rfl

/-- A step is reported and recorded, and the collectives go on: the clock stands as it was set. -/
theorem step_settles {s : State} (hst : s.tide.st = .acquire) (hw : s.tide.waits = []) (off : Int) :
    (settle (fireReached (tideRec 0xC0 off (raise 0 0 s)))).tide.clock = s.tide.clock ∧
      evBit (settle (fireReached (tideRec 0xC0 off (raise 0 0 s)))) 0 0 = true := by
  have hraised : Steady s.tide 0 (raise 0 0 s) := ⟨fun ha => ⟨ha, rfl⟩, evBit_raise (by decide) 0 s⟩
  have hidle : fireReached (tideRec 0xC0 off (raise 0 0 s)) = tideRec 0xC0 off (raise 0 0 s) := fireReached_idle hw
  rw [hidle]
  obtain ⟨htide, hbit⟩ := (hraised.tideRec 0xC0 off).settle
  obtain ⟨-, hclock⟩ := htide hst
  exact ⟨hclock, hbit⟩

/-- A state whose count has been stepped by an offset, with the gates of every running table open (R85, R111). -/
def stepped (off : Int) (s : State) : State :=
  let u := modTide (fun t => { t with count := t.count - BitVec.ofInt 64 off, base := t.base - BitVec.ofInt 64 off, goodRun := 0 }) s
  modTide (fun t => { t with ports := mmapV t.ports (fun p x =>
    if gclOn u p then { x with gates := 0xFF, slack := 0, switchAt := some (cycleStart x.oper t.count) } else x) }) u

theorem tideStep_eq (off : Int) (s : State) : tideStep off s = settle (fireReached (tideRec 0xC0 off (raise 0 0 (stepped off s)))) := rfl

theorem stepped_clock (off : Int) (s : State) : (stepped off s).tide.clock =
    (s.tide.count - BitVec.ofInt 64 off, s.tide.base - BitVec.ofInt 64 off, s.tide.rate, s.tide.firstDone) := rfl

/-- A step in ACQUIRE moves the count by the offset, and the count's last setting with it. -/
theorem tideStep_steps {s : State} (hst : s.tide.st = .acquire) (hw : s.tide.waits = []) (off : Int) :
    (tideStep off s).tide.clock = (s.tide.count - BitVec.ofInt 64 off, s.tide.base - BitVec.ofInt 64 off, s.tide.rate, s.tide.firstDone) ∧
      evBit (tideStep off s) 0 0 = true := by
  rw [tideStep_eq, ← stepped_clock]
  exact step_settles (s := stepped off s) hst hw off

theorem rateAdjust_steps {s : State} (hl : Live s) (hst : s.tide.st = .acquire) (hlen : 16 ≤ s.tide.samples.length)
    (hfirst : s.tide.firstDone = false) (hw : s.tide.waits = []) (hbig : usTicks < meanOffset s.tide) :
    Completes .rateAdjust s fun t => t.tide.count = s.tide.count - BitVec.ofInt 64 (meanOffset s.tide) ∧ t.tide.firstDone = true ∧
      t.tide.rate = s.tide.rate ∧ elapsed t = elapsed s ∧ evBit t 0 0 = true := by
  refine .of_act rfl hl ?_
  rw [rateAdjust_acquire hlen hst hfirst hbig]
  obtain ⟨hclock, hbit⟩ := tideStep_steps (s := modTide (fun t => { t.averaged with firstDone := true }) s) hst hw (meanOffset s.tide)
  generalize tideStep (meanOffset s.tide) (modTide (fun t => { t.averaged with firstDone := true }) s) = u at hclock hbit
  obtain ⟨hcount, hbase, hrate, hdone⟩ : u.tide.count = _ ∧ u.tide.base = _ ∧ u.tide.rate = _ ∧ u.tide.firstDone = _ := by
    simpa only [Tide.clock, Prod.mk.injEq] using hclock
  refine ⟨hcount, hdone, hrate, ?_, hbit⟩
  calc u.tide.count - u.tide.base
      = (s.tide.count - BitVec.ofInt 64 (meanOffset s.tide)) - (s.tide.base - BitVec.ofInt 64 (meanOffset s.tide)) := by rw [hcount, hbase]; rfl
    _ = s.tide.count - s.tide.base := sub_sub_sub_cancel_right _ _ _

/-- Leaving HOLDOVER for FREERUN is reported and recorded, and changes nothing else of the clock (R87, R88). -/
theorem holdoverExpired_completes {s : State} (hl : Live s) (hst : s.tide.st = .holdover) (he : holdLimit s < holdError s.tide) :
    Completes .holdoverExpired s fun t => t.tide.st = .freerun ∧ t.tide.count = s.tide.count ∧ evBit t 0 5 = true := by
  refine .of_act rfl hl ?_
  rw [holdoverExpired, if_pos (by simp [hst, he])]
  have hraised : Steady {} 5 (raise 0 5 (enterSt .freerun s)) := steady_free.2 (evBit_raise (by decide) 0 _)
  exact ⟨rfl, rfl, steady_free.1 (hraised.tideRec 0xC5 _)⟩

/-! ### The EXT reference (R73 to R76) -/

/-- A reference that is not there is not chosen. -/
theorem pickSource_ne_ext {s : State} (h : s.tide.extOk = false) : pickSource s ≠ .ext := by
  rw [pickSource]
  split
  · next hfind =>
    have hext := List.find?_some hfind
    simp [h] at hext
  · decide
  · decide
  · decide

/-- Without the EXT reference no choice locks to it. -/
theorem reselect_extLocked {s : State} (h : s.tide.extOk = false) (hops : Nat) : (reselect hops s).tide.extLocked = s.tide.extLocked := by
  have hne : (pickSource s == .ext) = false := beq_false_of_ne (pickSource_ne_ext h)
  simp only [reselect]
  split
  · split
    · rfl
    · rfl
  · rfl
  · split
    · rfl
    · exact (congrArg (s.tide.extLocked || ·) hne).trans (Bool.or_false _)
  · split
    · rfl
    · rfl

/-- The tide unit as the end of EXT leaves it, before it chooses anew. -/
def Tide.extEnded (t : Tide) : Tide := { t with extOk := false, extLocked := false, ppsRejects := 0 }

theorem steered_extEnd (s : State) : Steered (modTide Tide.extEnded s) (extEnd s) := steered_reselect _ _

theorem extEnd_ends (s : State) : (extEnd s).tide.extOk = false ∧ (extEnd s).tide.extLocked = false :=
  ⟨(steered_extEnd s).extOk, reselect_extLocked (s := modTide Tide.extEnded s) rfl _⟩

theorem Steady.extEnd {i : Fin 56} {s : State} (h : Steady {} i s) : Steady {} i (extEnd s) := by
  refine Steady.reselect ?_ _
  exact h

/-- The input's filter takes no part in the second that an edge marks. -/
theorem ppsTarget_inputAccepted (n : Nat) (s : State) (stamp : Word) : ppsTarget (inputAccepted n s) stamp = ppsTarget s stamp := by
  have hepoch : epochSec (inputAccepted n s) = epochSec s := by
    simp only [epochSec, objF, inputAccepted]
    rw [mfind_mdel_ne]
    · rfl
    · simp only [okey]
      omega
  simp only [ppsTarget, hepoch]
  rfl

/-- The tide unit after an edge that is out of its place. -/
def Tide.ppsRejected (t : Tide) : Tide := { t with ppsRejects := t.ppsRejects + 1, ppsRejectCount := t.ppsRejectCount + 1, nextPps := none }

section
variable {s : State} {stamp : Word} (freq : Option Int)

theorem ppsEdge_rejected (hlock : s.tide.extLocked = true) (hoff : usTicks < sdiff stamp (ppsTarget s stamp)) :
    ppsEdge stamp freq s =
      if 3 ≤ s.tide.ppsRejects + 1 then extEnd (raise 0 4 (modTide Tide.ppsRejected (inputAccepted 11 s)))
      else raise 0 4 (modTide Tide.ppsRejected (inputAccepted 11 s)) := by
  simp only [ppsEdge, ppsTarget_inputAccepted, inputAccepted_tide, hlock, hoff, decide_true, Bool.or_true, Bool.and_self, if_true]
  rfl

theorem ppsEdge_rejected_completes (hl : Live s) (hlock : s.tide.extLocked = true) (hoff : usTicks < sdiff stamp (ppsTarget s stamp)) :
    Completes (.ppsEdge stamp freq) s fun t =>
      t.tide.ppsRejectCount = s.tide.ppsRejectCount + 1 ∧ evBit t 0 4 = true ∧ t.tide.count = s.tide.count ∧
      (if 2 ≤ s.tide.ppsRejects then t.tide.extOk = false ∧ t.tide.extLocked = false
       else t.tide.extOk = s.tide.extOk ∧ t.tide.ppsRejects = s.tide.ppsRejects + 1) := by
  refine .of_act rfl hl ?_
  rw [ppsEdge_rejected freq hlock hoff]
  have hraised : Steady {} 4 (raise 0 4 (modTide Tide.ppsRejected (inputAccepted 11 s))) := steady_free.2 (evBit_raise (by decide) 0 _)
  by_cases hthree : 2 ≤ s.tide.ppsRejects
  · rw [if_pos hthree, if_pos (by omega)]
    have hst := steered_extEnd (raise 0 4 (modTide Tide.ppsRejected (inputAccepted 11 s)))
    exact ⟨hst.ppsRejectCount, steady_free.1 hraised.extEnd, hst.count, extEnd_ends _⟩
  · rw [if_neg hthree, if_neg (by omega)]
    exact ⟨rfl, steady_free.1 hraised, rfl, rfl, rfl⟩

end

/-- An edge of the source in use brings an offset, and what the 10 MHz input shows. -/
theorem steered_follow (p : Prop) [Decidable p] (freq off : Int) (s : State) : Steered s (if p then discipline freq (offsetSample off s) else s) := by
  split
  · exact (steered_offsetSample _ _).trans (steered_discipline _ _)
  · exact .refl s

/-- What follows an edge that is taken steers the unit. -/
theorem ppsEdge_taken {s : State} (hlock : s.tide.extLocked = false) (stamp : Word) (freq : Int) :
    Steered (modTide (fun t => { t with ppsRejects := 0, extOk := true, nextPps := none }) (inputAccepted 11 s)) (ppsEdge stamp (some freq) s) := by
  simp only [ppsEdge, inputAccepted_tide, hlock, Bool.false_and, Bool.false_eq_true, if_false, Option.isSome_some]
  exact (steered_reselect _ _).trans (steered_follow _ _ _ _)

theorem ppsOutEdge_pulses {s : State} (hlo : -32 ≤ ppsOutError s) (hhi : ppsOutError s ≤ 32) : ppsOutEdge s = emit (.ppsPulse s.tide.count)
    (modTide (fun t => { t with ppsOut := true, ppsOutUntil := t.count + BitVec.ofNat 64 (obj s 0x4005 3 1000000 * 16) }) s) := by
  rw [ppsOutEdge, if_pos (by simp [hlo, hhi])]

/-- Settles O2: what steering leaves, what EXT's end leaves, and what a step leaves through all that the collectives do after it. -/
theorem tideUnitCorrectsAndExpires : Obligations.TideUnitCorrectsAndExpires := by
  unfold Obligations.TideUnitCorrectsAndExpires
  refine ⟨fun s hl hst hlen hlo hhi => ?_, fun s hl hst hlen hfirst hw hbig => rateAdjust_steps hl hst hlen hfirst hw hbig,
    fun s hl hst he => holdoverExpired_completes hl hst he, fun s stamp freq hl hlock => ?_,
    fun s stamp freq hl hlock hoff => ppsEdge_rejected_completes freq hl hlock hoff, fun s hl => .of_act rfl hl (extEnd_ends s),
    fun s hl hlo hhi => ?_⟩
  · refine .of_act rfl hl ?_
    rw [rateAdjust_locked hlen hst hlo hhi]
    obtain ⟨hmin, hmax⟩ := clampRate_bounds (b := rateMax) (by decide) (Config.servo s.tide.rate (meanOffset s.tide))
    exact ⟨rfl, rfl, rfl, hst, hmin, hmax⟩
  · have hst := ppsEdge_taken hlock stamp freq
    exact .of_act rfl hl ⟨hst.extOk, hst.ppsRejects, hst.nextPps⟩
  · refine .of_act rfl hl ?_
    rw [ppsOutEdge_pulses hlo hhi]
    exact ⟨rfl, rfl, rfl⟩

end Sys2Proof.Machine

/-! ## What leaves host ports, functions and events as they are -/

namespace Sys2Proof.Machine

open Sys2Proof

/-- A host port but for the messages and writes that it holds. -/
def HostPort.link (h : HostPort) : HostPort := { h with held := [] }

/-- A function but for its pending bits and its front desk. -/
def Func.setup (f : Func) : Func := { f with pend := [], fd := {} }

/-- A downstream port but for its table of poisoned lines. -/
def DsPort.setup (d : DsPort) : DsPort := { d with poisonTable := [] }

/-- What no access to device memory changes, whatever it meets. -/
def State.far (s : State) : State := keep (dataAccess ++ [.lists, .tilesHalted, .rooms]) s State.reset

/-- From s to t host ports keep all but what they hold, functions all but their pending bits and front desks, downstream ports all but their tables of
poisoned lines, and event bits stay set. With `near`, nothing else changes but what an access to device memory may change. -/
def Calm (near : Prop) (s t : State) : Prop :=
  (near → t.far = s.far) ∧ (∀ p, (hport t p).link = (hport s p).link) ∧ (∀ fn, (func t fn).setup = (func s fn).setup) ∧
    (∀ d, (mget t.ds d {}).setup = (mget s.ds d {}).setup) ∧ ∀ b i, i < 56 → evBit s b i = true → evBit t b i = true

section
variable {c : Prop} {s₀ s : State}

/-! ### Updates that they take no part in -/

@[simp] theorem Calm.refl (c : Prop) (s₀ : State) : Calm c s₀ s₀ := ⟨fun _ => rfl, fun _ => rfl, fun _ => rfl, fun _ => rfl, fun _ _ _ h => h⟩

@[simp] theorem calm_emit (o : Out) : Calm c s₀ (emit o s) ↔ Calm c s₀ s := Iff.rfl
@[simp] theorem calm_useFresh : Calm c s₀ (useFresh s) ↔ Calm c s₀ s := Iff.rfl
@[simp] theorem calm_bump (o : Nat) : Calm c s₀ (bump o s) ↔ Calm c s₀ s := Iff.rfl
@[simp] theorem calm_mapUse (a n : Nat) : Calm c s₀ (mapUse a n s) ↔ Calm c s₀ s := Iff.rfl
@[simp] theorem calm_devWrite (a : Nat) (d : List Byte) : Calm c s₀ (devWrite a d s) ↔ Calm c s₀ s := Iff.rfl
@[simp] theorem calm_setMem (m : DevMem) : Calm c s₀ { s with mem := m } ↔ Calm c s₀ s := Iff.rfl
@[simp] theorem calm_loseWord (w : Nat) : Calm c s₀ (loseWord w s) ↔ Calm c s₀ s := by rw [loseWord, calm_setMem]
@[simp] theorem calm_setErrs (e : Errs) : Calm c s₀ { s with errs := e } ↔ Calm c s₀ s := Iff.rfl
@[simp] theorem calm_modErrs (f : Errs → Errs) : Calm c s₀ (modErrs f s) ↔ Calm c s₀ s := Iff.rfl
@[simp] theorem calm_modTide (f : Tide → Tide) : Calm c s₀ (modTide f s) ↔ Calm c s₀ s := Iff.rfl
@[simp] theorem calm_enterSt (x : TideSt) : Calm c s₀ (enterSt x s) ↔ Calm c s₀ s := Iff.rfl
@[simp] theorem calm_toAcquire : Calm c s₀ (toAcquire s) ↔ Calm c s₀ s := Iff.rfl
@[simp] theorem calm_modFport (p : Nat) (f : FPort → FPort) : Calm c s₀ (modFport p f s) ↔ Calm c s₀ s := Iff.rfl
@[simp] theorem calm_modLane (p l : Nat) (f : Lane → Lane) : Calm c s₀ (modLane p l f s) ↔ Calm c s₀ s := Iff.rfl
@[simp] theorem calm_modQueue (fn q : Nat) (f : Queue → Queue) : Calm c s₀ (modQueue fn q f s) ↔ Calm c s₀ s := Iff.rfl
@[simp] theorem calm_setList (r : ListRec) : Calm c s₀ (setList r s) ↔ Calm c s₀ s := Iff.rfl
@[simp] theorem calm_endList (x : CmdHdr) (r : ListRec) : Calm c s₀ (endList x r s) ↔ Calm c s₀ s := Iff.rfl
@[simp] theorem calm_modRoom (rm : Nat) (f : Room → Room) : Calm c s₀ (modRoom rm f s) ↔ Calm c s₀ s := Iff.rfl
@[simp] theorem calm_modLanternReg (rm l : Nat) (f : Lantern → Lantern) : Calm c s₀ (modLanternReg rm l f s) ↔ Calm c s₀ s := Iff.rfl
@[simp] theorem calm_requeueBehind (n : Nat) : Calm c s₀ (requeueBehind n s) ↔ Calm c s₀ s := Iff.rfl
@[simp] theorem calm_hostAsk (p a n : Nat) : Calm c s₀ (hostAsk p a n s) ↔ Calm c s₀ s := Iff.rfl

/-- Both ways of a choice are calm. -/
@[simp] theorem calm_ite (p : Prop) [Decidable p] (a b : State) : Calm c s₀ (if p then a else b) ↔ if p then Calm c s₀ a else Calm c s₀ b := by
  split <;> rfl

variable (h : Calm c s₀ s)
include h

theorem Calm.link (p : Nat) : (hport s p).link = (hport s₀ p).link := h.2.1 p

theorem Calm.setup (fn : Nat) : (func s fn).setup = (func s₀ fn).setup := h.2.2.1 fn

theorem Calm.ds (d : Nat) : (mget s.ds d {}).setup = (mget s₀.ds d {}).setup := h.2.2.2.1 d

theorem Calm.evBit {b i : Nat} (hi : i < 56) (he : evBit s₀ b i = true) : evBit s b i = true := h.2.2.2.2 b i hi he

theorem Calm.hport_st (p : Nat) : (hport s p).st = (hport s₀ p).st := (congrArg HostPort.st (h.link p) :)

/-- A run of calm steps is calm. -/
theorem Calm.foldl {α : Type} {f : State → α → State} (hf : ∀ u x, Calm c s₀ u → Calm c s₀ (f u x)) (l : List α) : Calm c s₀ (l.foldl f s) := by
  induction l generalizing s with
  | nil => exact h
  | cons x l ih => exact ih (hf s x h)

/-- A state takes its host ports, functions and events from one state, its downstream ports from one of the two, and the rest from another. -/
theorem Calm.of_parts {d : Prop} {r u : State} (h' : Calm d s₀ r) (hfar : c → u.far = s.far) (hh : u.hports = r.hports) (hf : u.funcs = r.funcs)
    (he : u.events = r.events) (hd : u.ds = s.ds ∨ u.ds = r.ds) : Calm c s₀ u := by
  refine ⟨fun hc => (hfar hc).trans (h.1 hc), fun p => ?_, fun fn => ?_, fun d => ?_, fun b i hi hb => ?_⟩
  · rw [hport, hh]
    exact h'.link p
  · rw [func, hf]
    exact h'.setup fn
  · rcases hd with hd | hd
    · rw [hd]
      exact h.ds d
    · rw [hd]
      exact h'.ds d
  · rw [Machine.evBit, evReg, he]
    exact h'.evBit hi hb

theorem Calm.ledgerOnly {r : State} (h' : Calm c s₀ r) : Calm c s₀ (ledgerOnly s r) := h.of_parts h' (fun _ => rfl) rfl rfl rfl (.inr rfl)

theorem Calm.dataOnly {r : State} (h' : Calm c s₀ r) : Calm c s₀ (dataOnly s r) := h.of_parts h' (fun _ => rfl) rfl rfl rfl (.inr rfl)

theorem Calm.unitsOnly {r : State} (h' : Calm c s₀ r) : Calm c s₀ (unitsOnly s r) := h.of_parts h' (fun _ => rfl) rfl rfl rfl (.inr rfl)

/-! ### Messages, events and host memory -/

/-- A change of a host port that leaves its link. -/
theorem Calm.modHport (p : Nat) {f : HostPort → HostPort} (hf : (f (hport s p)).link = (hport s p).link) : Calm c s₀ (modHport p f s) := by
  obtain ⟨hfar, hlink, hrest⟩ := h
  refine ⟨hfar, fun q => ?_, hrest⟩
  by_cases hq : q = p
  · rw [hq, hport_modHport, hf, hlink]
  · rw [hport_modHport_ne hq, hlink]

/-- A change of a downstream port that leaves its setup. -/
theorem Calm.modDs (d : Nat) {f : DsPort → DsPort} (hf : (f (mget s.ds d {})).setup = (mget s.ds d {}).setup) : Calm c s₀ (modDs d f s) := by
  obtain ⟨hfar, hlink, hsetup, hds, hev⟩ := h
  refine ⟨hfar, hlink, hsetup, fun e => ?_, hev⟩
  by_cases he : e = d
  · rw [he, Machine.modDs, mget_mmod_self, hf, hds]
  · rw [Machine.modDs, mget_mmod_ne _ _ _ _ _ he, hds]

@[simp] theorem Calm.markLine (l : Nat) : Calm c s₀ (markLine l s) := by
  have htable : Calm c s₀ (Machine.modDs (l * 64 / 2 ^ 40 - 2) (fun p => { p with poisonTable := (l :: p.poisonTable).take 32 }) s) := h.modDs _ rfl
  by_cases hl : 0x20000000000 ≤ l * 64 ∧ l * 64 < 0x60000000000
  · exact h.of_parts htable (fun _ => rfl) rfl rfl rfl (.inr (if_pos hl))
  · exact h.of_parts h (fun _ => rfl) rfl rfl rfl (.inl (if_neg hl))

/-- A change of a function that leaves its setup. -/
theorem Calm.modFunc (fn : Nat) {f : Func → Func} (hf : (f (func s fn)).setup = (func s fn).setup) : Calm c s₀ (modFunc fn f s) := by
  obtain ⟨hfar, hlink, hsetup, hrest⟩ := h
  refine ⟨hfar, hlink, fun g => ?_, hrest⟩
  by_cases hg : g = fn
  · rw [hg, func_modFunc, hf, hsetup]
  · rw [func_modFunc_ne hg, hsetup]

/-- What a port holds is no part of its link. -/
theorem Calm.hold (p : Nat) (x : Held) : Calm c s₀ (Machine.modHport p (fun y => { y with held := y.held ++ [x] }) s) := h.modHport p rfl

@[simp] theorem Calm.msix (fn v : Nat) : Calm c s₀ (msix fn v s) := by
  have hpend : Calm c s₀ (Machine.modFunc fn (fun f => { f with pend := sadd f.pend v }) s) := h.modFunc fn rfl
  by_cases hm : (func s fn).masked.contains v = true
  · exact h.of_parts hpend (fun _ => rfl) (if_pos hm) (if_pos hm) rfl (.inl rfl)
  · have hhold := h.hold (fnPort fn) (.msix fn v)
    cases hst : (hport s (fnPort fn)).st with
    | hold => exact h.of_parts hhold (fun _ => rfl) ((if_neg hm).trans (by rw [hst]; rfl)) (if_neg hm) rfl (.inl rfl)
    | up => exact h.of_parts h (fun _ => rfl) ((if_neg hm).trans (by rw [hst])) (if_neg hm) rfl (.inl rfl)
    | down => exact h.of_parts h (fun _ => rfl) ((if_neg hm).trans (by rw [hst])) (if_neg hm) rfl (.inl rfl)

theorem Calm.ite_msix (p : Bool) (fn v : Nat) : Calm c s₀ (if p then Machine.msix fn v s else s) := by
  split
  · exact h.msix fn v
  · exact h

omit h in
theorem ite_msix_events (p : Bool) (fn v : Nat) (s : State) : (if p then msix fn v s else s).events = s.events := by
  split
  · rfl
  · rfl

@[simp] theorem Calm.hostWrite (p a : Nat) (d : List Byte) (ro : Bool) : Calm c s₀ (hostWrite p a d ro s) := by
  cases hst : (hport s p).st with
  | hold => exact h.of_parts (h.hold p (.write a d ro)) (fun _ => rfl) (by rw [Machine.hostWrite, hst]; rfl) rfl rfl (.inl rfl)
  | up => exact h.of_parts h (fun _ => rfl) (by rw [Machine.hostWrite, hst]) rfl rfl (.inl rfl)
  | down => exact h.of_parts h (fun _ => rfl) (by rw [Machine.hostWrite, hst]) rfl rfl (.inl rfl)

@[simp] theorem Calm.raise (b i : Nat) : Calm c s₀ (raise b i s) := by
  have hev : Calm c s₀ { s with events := mset s.events b (evNext (evReg s b) i) } := by
    refine ⟨h.1, h.link, h.setup, h.ds, fun d j hj hd => ?_⟩
    have ht := h.evBit hj hd
    by_cases hb : d = b
    · rw [hb] at ht ⊢
      exact (congrArg (BitVec.getLsbD · j) (mget_mset_self _ _ _ _)).trans (by rw [getLsbD_evNext hj, ← Machine.evBit, ht, Bool.true_or])
    · exact (congrArg (BitVec.getLsbD · j) (mget_mset_ne _ _ _ _ _ hb)).trans ht
  have hs3 := (hev.ite_msix (irqOn s b && !evAny (evReg s b)) (innFn s) (wfld (rd s 0x200018 0) 10 0)).ite_msix
    (b = 10 && !Machine.evBit s b i) (innFn s) (wfld (rd s 0x500008 0) 10 0)
  exact hev.of_parts hs3 (fun _ => rfl) rfl rfl (by rw [ite_msix_events, ite_msix_events]; rfl) (.inl rfl)

end

/-! ### Frames of the fabric -/

section
variable {c : Prop} {s₀ s : State} (h : Calm c s₀ s)
include h

@[simp] theorem Calm.throttleStep (p k : Nat) : Calm c s₀ (throttleStep p k s) := by simp [Machine.throttleStep, h]

@[simp] theorem Calm.enqueue (p : Nat) (e : EgFrame) : Calm c s₀ (enqueue p e s) := by simp [Machine.enqueue, h]

@[simp] theorem Calm.pfcStep (p k : Nat) : Calm c s₀ (pfcStep p k s) := by simp [Machine.pfcStep, h]

@[simp] theorem Calm.releaseInput (e : EgFrame) : Calm c s₀ (releaseInput e s) := by simp [Machine.releaseInput, h]

@[simp] theorem Calm.dropAt (p : Option Nat) (r : Nat) : Calm c s₀ (dropAt p r s) := by
  cases p with
  | none => simp [Machine.dropAt, h]
  | some p => simp [Machine.dropAt, h]

@[simp] theorem Calm.reroute (p : Nat) (e : EgFrame) : Calm c s₀ (reroute p e s) := by
  rw [Machine.reroute]
  split
  · simp [h]
  · simp [h]
  · simp [h]

@[simp] theorem Calm.endFrame (p half : Nat) : Calm c s₀ (endFrame p half s) := by
  rw [Machine.endFrame]
  split
  · exact h
  · simp [h]

@[simp] theorem Calm.cutFrame (p half : Nat) : Calm c s₀ (cutFrame p half s) := by
  rw [Machine.cutFrame]
  split
  · exact h
  · simp [h]

/-- A frame that is leaving is cut off. -/
theorem Calm.cut (e : Option EgFrame) (port : EgFrame → Option Nat) :
    Calm c s₀ (match e with | none => s | some e => Machine.releaseInput e (Machine.dropAt (port e) 0 s)) := by
  cases e with
  | none => exact h
  | some e => exact (h.dropAt _ 0).releaseInput e

@[simp] theorem Calm.portLost (p : Nat) : Calm c s₀ (portLost p s) := by
  simp only [Machine.portLost]
  exact (((Calm.raise (calm_modFport _ _ |>.2 h) 7 1).cut _ _).cut _ _).foldl (fun u e hu => hu.reroute p e) _

/-! ### The Ledger and its queues -/

@[simp] theorem Calm.resolveLines (a n : Nat) : Calm c s₀ (resolveLines a n s) := by
  rw [Machine.resolveLines]
  split
  · exact h
  · exact h

@[simp] theorem Calm.locWrite (l : Loc) (d : List Byte) : Calm c s₀ (locWrite l d s) := by
  cases l with
  | host p a => exact h.hostWrite _ _ _ _
  | dev a => exact (calm_devWrite _ _).2 (h.resolveLines _ _)

theorem Calm.putUnits (d : List Byte) (ls : List Loc) : Calm c s₀ (putUnits d s ls) := by
  induction ls generalizing d s with
  | nil => exact h
  | cons l ls ih => exact ih (h.locWrite l _) _

theorem Calm.tryPut {fn : Nat} {q : Queue} {d : List Byte} {t : State} (ht : tryPut s fn q d = .ok t) : Calm c s₀ t := by
  rw [Machine.tryPut] at ht
  split at ht
  · cases ht
  · split at ht
    · cases ht
    · cases ht
      exact h.putUnits d _

/-- A record is written only while nothing waits before it. -/
theorem Calm.tryPut_if {p : Prop} [Decidable p] {fn : Nat} {q : Queue} {d : List Byte} {t : State}
    (ht : (if p then Machine.tryPut s fn q d else .error 1) = .ok t) : Calm c s₀ t := by
  split at ht
  · exact h.tryPut ht
  · cases ht

theorem Calm.putRecord (fn : Nat) (r : LedgerRec) : Calm c s₀ (putRecord fn r s) := by
  rw [Machine.putRecord]
  split
  · simp [h]
  · simp only [calm_ite]
    split
    · split
      · next hput => simp [h.tryPut_if hput]
      · simp [h]
      · simp [h]
      · simp [h]
    · simp [h]

end

/-- A writer of records is steady. -/
def PutCalm (c : Prop) (s₀ : State) (put : Nat → LedgerRec → State → State) : Prop :=
  ∀ fn r s, Calm c s₀ s → Calm c s₀ (put fn r s)

/-- Where the records and the failures of an access go is steady. -/
structure Sinks.Calm (k : Sinks) (c : Prop) (s₀ : State) : Prop where
  inn : ∀ r s, Machine.Calm c s₀ s → Machine.Calm c s₀ (k.inn r s)
  guest : ∀ rm r s, Machine.Calm c s₀ s → Machine.Calm c s₀ (k.guest rm r s)
  down : ∀ u s, Machine.Calm c s₀ s → Machine.Calm c s₀ (k.down u s)

section
variable {c : Prop} {s₀ : State} {k : Sinks} (hk : k.Calm c s₀) {s : State} (h : Calm c s₀ s)
include hk h

theorem Calm.unitFatalBy (u : Nat) : Calm c s₀ (unitFatalBy k u s) := by
  rw [Machine.unitFatalBy]
  refine hk.down u _ ?_
  split
  · exact hk.inn _ _ (Calm.raise ((calm_modErrs _).2 h) 12 7)
  · exact Calm.raise ((calm_modErrs _).2 h) 12 7

theorem Calm.memRecordBy (x : Access) (kind u m a : Nat) (second : Bool) : Calm c s₀ (memRecordBy k x kind u m a second s) := by
  simp only [Machine.memRecordBy]
  split
  · exact hk.inn _ _ h
  · exact hk.guest _ _ _ (hk.inn _ _ h)

theorem Calm.latchNewBy (x : Access) (kind u m a : Nat) : Calm c s₀ (latchNewBy k x kind u m a s) := by
  simp only [Machine.latchNewBy]
  split
  · refine Calm.memRecordBy hk (Calm.raise ?_ 12 6) x kind u m a false
    exact (calm_modErrs _).2 h
  · split
    · refine Calm.unitFatalBy hk (Calm.memRecordBy hk (Calm.raise ?_ 12 5) x kind u m a true) u
      exact (calm_bump _).2 ((calm_modErrs _).2 h)
    · exact h

/-- A line that has failed before, or fails now. -/
theorem Calm.meetLine (p : Prop) [Decidable p] (kind : Nat) (x : Access) (l : Nat) : Calm c s₀
    (if p then Machine.latchNewBy k x kind (latchUnit s (l * 64)) (memNo s (l * 64)) (l * 64) (Machine.markLine l (bump (0x440200 + 8 * memNo s (l * 64)) s))
    else Machine.memRecordBy k x 4 (latchUnit s (l * 64)) (memNo s (l * 64)) (l * 64) false (bump (0x440300 + 8 * memNo s (l * 64)) s)) := by
  split
  · refine Calm.latchNewBy hk ?_ x kind _ _ _
    exact Calm.markLine ((calm_bump _).2 h) _
  · refine Calm.memRecordBy hk ?_ x 4 _ _ _ false
    exact (calm_bump _).2 h

theorem Calm.meetBy (kind : Nat) (x : Access) (b : Bad) : Calm c s₀ (meetBy k kind x b s) := by
  cases b with
  | absent a =>
    simp only [Machine.meetBy]
    split
    · exact hk.inn _ _ h
    · exact hk.guest _ _ _ (hk.inn _ _ h)
  | dead a =>
    refine Calm.memRecordBy hk ?_ x 4 _ _ a false
    exact (calm_bump _).2 h
  | repeated l => exact h.meetLine hk _ kind x l
  | map a =>
    simp only [Machine.meetBy]
    split
    · refine Calm.latchNewBy hk (Calm.raise ?_ 1 2) _ 7 _ _ a
      simp [h]
    · exact h
  | fresh l => exact h.meetLine hk _ kind x l

end

section
variable {c : Prop} {s₀ : State} {put : Nat → LedgerRec → State → State} (hp : PutCalm c s₀ put) {s : State} (h : Calm c s₀ s)
include hp h

theorem Calm.innBy (r : LedgerRec) : Calm c s₀ (innBy put r s) := by
  simp only [Machine.innBy]
  split
  · exact hp _ _ s h
  · exact hp _ _ s h

theorem Calm.guestBy (rm : Nat) (r : LedgerRec) : Calm c s₀ (guestBy put rm r s) := hp _ _ s h

theorem Calm.meetRing (code fn object : Nat) (e : Option RingErr) : Calm c s₀ (meetRing put code fn object e s) := by
  rw [Machine.meetRing.eq_def]
  split
  · split
    · exact h.guestBy hp _ _
    · exact h
  · exact h.meetBy ⟨fun r s hs => hs.innBy hp r, fun rm r s hs => hs.guestBy hp rm r, fun _ _ hs => hs⟩ 3 _ _
  · exact h.innBy hp _
  · exact h

end

theorem putCalm_putLedgerN (c : Prop) (s₀ : State) (k : Nat) : PutCalm c s₀ (putLedgerN k) := by
  induction k with
  | zero => exact fun fn r s h => h.putRecord fn r
  | succ k ih =>
    intro fn r s h
    rw [putLedgerN]
    split
    · exact h.putRecord fn r
    · split
      · exact (h.putRecord fn r).meetRing ih _ _ _ _
      · exact h.putRecord fn r

theorem putCalm_putLedger (c : Prop) (s₀ : State) : PutCalm c s₀ putLedger := putCalm_putLedgerN c s₀ 2

section
variable {c : Prop} {s₀ s : State} (h : Calm c s₀ s)
include h

@[simp] theorem Calm.ledgerInn (r : LedgerRec) : Calm c s₀ (ledgerInn r s) := h.ledgerOnly (h.innBy (putCalm_putLedger c s₀) r)

@[simp] theorem Calm.ledgerRoom (rm : Nat) (r : LedgerRec) : Calm c s₀ (ledgerRoom rm r s) :=
  h.ledgerOnly (h.guestBy (putCalm_putLedger c s₀) rm r)

@[simp] theorem Calm.tideRec (kind : Nat) (off : Int) : Calm c s₀ (tideRec kind off s) := h.ledgerInn _

theorem Calm.putEqN (k fn eq : Nat) (d : List Byte) : Calm c s₀ (putEqN k fn eq d s) := by
  induction k generalizing eq d s with
  | zero => exact h
  | succ k ih =>
    simp only [Machine.putEqN]
    split
    · split
      · next hput => simp [h.tryPut_if hput]
      · simp [h]
      · simp [h]
      · have hmet (d fn object : Nat) (f : Queue → Queue) (e : Option RingErr) :
            Calm c s₀ (Machine.meetRing putLedger 4 fn object e (Machine.modQueue fn eq f s)) :=
          Calm.meetRing (putCalm_putLedger c s₀) (calm_modQueue _ _ _ |>.2 h) 4 fn object e
        split
        · exact hmet 0 _ _ _ _
        · exact ih (hmet 0 _ _ _ _) _ _
    · simp [h]

@[simp] theorem Calm.qEvent (fn q ev object d0 d1 : Nat) : Calm c s₀ (qEvent fn q ev object d0 d1 s) := by
  refine h.ledgerOnly ?_
  split
  · exact h
  · exact h.putEqN _ fn _ _

@[simp] theorem Calm.qStop (fn q index detail : Nat) : Calm c s₀ (qStop fn q index detail s) := by simp [Machine.qStop, h]

theorem Calm.putCq (fn cq : Nat) (d : List Byte) : Calm c s₀ (putCq fn cq d s) := by
  simp only [Machine.putCq]
  split
  · exact h
  · exact h
  · split
    · exact h
    · split
      · next hput => simp [h.tryPut hput]
      · simp [h]
      · exact h
      · refine Calm.meetRing (putCalm_putLedger c s₀) ?_ _ _ _ _
        simp [h]
  · exact h

@[simp] theorem Calm.complete (fn : Nat) (x : Compl) : Calm c s₀ (complete fn x s) := h.ledgerOnly (h.putCq _ _ _)

/-! ### Commands as they end -/

@[simp] theorem Calm.modLantern (rm l : Nat) (f : Lantern → Lantern) : Calm c s₀ (modLantern rm l f s) := by simp [Machine.modLantern, h]

@[simp] theorem Calm.lanternAdd (rm l n : Nat) : Calm c s₀ (lanternAdd rm l n s) := h.modLantern _ _ _

@[simp] theorem Calm.lanternFault (rm l : Nat) : Calm c s₀ (lanternFault rm l s) := h.modLantern _ _ _

@[simp] theorem Calm.faultSignals (rm : Nat) (r : ListRec) (x : CmdHdr) : Calm c s₀ (faultSignals rm r x s) :=
  (h.lanternFault _ _).foldl (fun _ l hu => hu.lanternFault rm l) _

@[simp] theorem Calm.writeCompl (x : CmdHdr) (op : Nat) (e : CEnd) : Calm c s₀ (writeCompl x op e s) := h.complete _ _

@[simp] theorem Calm.failCmd (x : CmdHdr) (op : Nat) (r : ListRec) (e : CEnd) : Calm c s₀ (failCmd x op r e s) := by
  simp [Machine.failCmd, h]

/-! ### Units that fail -/

@[simp] theorem Calm.deviceFatal (unit object d0 : Nat) : Calm c s₀ (deviceFatal unit object d0 s) := by
  simp only [Machine.deviceFatal, calm_ite, calm_setErrs]
  split
  · exact h
  · exact (h.ledgerInn _).raise 12 7

@[simp] theorem Calm.toHoldover (rate : Int) (hops : Nat) : Calm c s₀ (toHoldover rate hops s) := by simp [Machine.toHoldover, h]

@[simp] theorem Calm.reselect (hops : Nat) : Calm c s₀ (reselect hops s) := by
  simp only [Machine.reselect]
  split
  · simp [h]
  · simp [h]
  · simp [h]
  · simp [h]

theorem Calm.ite_raise (p : Prop) [Decidable p] (b j : Nat) : Calm c s₀ (if p then Machine.raise b j s else s) := by
  split
  · exact h.raise b j
  · exact h

theorem Calm.ite_tideRec (p : Prop) [Decidable p] (kind : Nat) (off : Int) : Calm c s₀ (if p then Machine.tideRec kind off s else s) := by
  split
  · exact h.tideRec kind off
  · exact h

@[simp] theorem Calm.elect : Calm c s₀ (elect s) :=
  Calm.reselect ((((calm_modTide _).2 h).ite_raise _ 0 3).ite_raise _ 0 2 |>.ite_tideRec _ 0xC2 _) _

@[simp] theorem Calm.neighbourLoss (p : Nat) : Calm c s₀ (neighbourLoss p s) := by
  simp only [Machine.neighbourLoss, calm_ite]
  split
  · refine Calm.elect ((calm_modTide _).2 ?_)
    simp [h]
  · exact h

@[simp] theorem Calm.ethDown (p half : Nat) : Calm c s₀ (ethDown p half s) := by simp [Machine.ethDown, h]

@[simp] theorem Calm.linkDown (p half : Nat) : Calm c s₀ (linkDown p half s) := by simp [Machine.linkDown, h]

@[simp] theorem Calm.darkLanes (p : Nat) : Calm c s₀ (darkLanes p s) := h.foldl (fun u l hu => by simp [hu]) _

@[simp] theorem Calm.fpDisable (p : Nat) : Calm c s₀ (fpDisable p s) := by
  simp only [Machine.fpDisable, calm_modFport]
  exact (((h.linkDown p 0).ethDown p 1).darkLanes p).foldl (fun u l hu => by simp [hu]) _

@[simp] theorem Calm.classCheck (n : Nat) : Calm c s₀ (classCheck n s) := by simp [Machine.classCheck, h]

@[simp] theorem Calm.classChecks : Calm c s₀ (classChecks s) := h.foldl (fun _ n hu => hu.classCheck n) _

@[simp] theorem Calm.trapList (t : Nat) (r : ListRec) : Calm c s₀ (trapList t r s) :=
  (((h.failCmd _ _ _ _).qStop _ _ _ _).ledgerRoom _ _).ledgerInn _

@[simp] theorem Calm.haltTile (t : Nat) : Calm c s₀ (haltTile t s) := by
  simp only [Machine.haltTile]
  split
  · exact h
  · refine Calm.foldl ?_ (fun _ r hu => hu.trapList t r) _
    refine (calm_requeueBehind _).2 (Calm.raise ?_ 5 0)
    exact h

@[simp] theorem Calm.unitDown (u : Nat) : Calm c s₀ (unitDown u s) := by
  simp only [Machine.unitDown]
  split
  · exact h
  · split
    · split
      · exact h.deviceFatal _ _ _
      · split
        · exact h.foldl (fun _ p hu => hu.fpDisable p) _
        · exact h
    · split
      · exact (h.foldl (fun _ t hu => hu.haltTile _) _).classChecks
      · exact h

omit h in
theorem calm_sinks (c : Prop) (s₀ : State) : sinks.Calm c s₀ :=
  ⟨fun r _ hs => hs.ledgerInn r, fun rm r _ hs => hs.ledgerRoom rm r, fun u _ hs => hs.unitDown u⟩

@[simp] theorem Calm.meetBad (x : Access) (b : Bad) : Calm c s₀ (meetBad x b s) := h.meetBy (calm_sinks _ _) 3 x b

/-! ### Access to data -/

@[simp] theorem Calm.meetCe (m line pos : Nat) : Calm c s₀ (meetCe m line pos s) := by
  simp only [Machine.meetCe]
  split
  · simp [h]
  · simp [h]

@[simp] theorem Calm.correctRange (a n : Nat) : Calm c s₀ (correctRange a n s) := by
  rw [Machine.correctRange]
  split
  · exact h
  · exact h.foldl (fun _ l hu => hu.meetCe _ l 0) _

@[simp] theorem Calm.countBlocks (o : Nat) (f : Nat → Nat) (l : List Nat) : Calm c s₀ (countBlocks o f l s) := by
  refine h.foldl (fun u b hu => ?_) _
  split
  · exact hu
  · exact hu

@[simp] theorem Calm.countRead (a n : Nat) : Calm c s₀ (countRead a n s) := by simp [Machine.countRead, h]

@[simp] theorem Calm.tlbReplace (l : List TEntry) (e : TEntry) : Calm c s₀ (tlbReplace l e s) := by
  rw [Machine.tlbReplace]
  split
  · exact h
  · exact h

@[simp] theorem Calm.tlbUse (e : TEntry) : Calm c s₀ (tlbUse e s) := by
  rw [Machine.tlbUse]
  split
  · exact h
  · simp [Machine.tlbFill, h]

@[simp] theorem Calm.tableUse (a : Nat) : Calm c s₀ (tableUse a s) := by
  rw [Machine.tableUse]
  split
  · split
    · exact h.ledgerInn _
    · refine Calm.ledgerInn ?_ _
      exact h
  · exact h

@[simp] theorem Calm.useSeg (x : DCtx) (a : Nat) (g : Seg) : Calm c s₀ (useSeg x a g s) := by
  simp only [Machine.useSeg]
  split
  · exact h
  · split
    · exact (h.tableUse _).tlbUse _
    · split
      · exact h.tlbUse _
      · exact h
    · exact h

@[simp] theorem Calm.readSegEff (g : Seg) : Calm c s₀ (readSegEff g s) := by
  rw [Machine.readSegEff]
  split
  · exact (calm_hostAsk _ _ _).2 h
  · exact ((h.resolveLines _ _).countRead _ _).correctRange _ _

@[simp] theorem Calm.writeSeg (g : Seg) (d : List Byte) : Calm c s₀ (writeSeg g d s) := by
  rw [Machine.writeSeg]
  split
  · exact h.hostWrite _ _ _ _
  · simp [h]

@[simp] theorem Calm.readEff (x : DCtx) (a n : Nat) : Calm c s₀ (readEff x a n s) :=
  h.dataOnly (h.foldl (fun _ g hu => (hu.useSeg x a g).readSegEff g) _)

@[simp] theorem Calm.writeEff (x : DCtx) (a : Nat) (d : List Byte) : Calm c s₀ (writeEff x a d s) :=
  h.dataOnly (h.foldl (fun _ g hu => (hu.useSeg x a g).writeSeg g _) _)

@[simp] theorem Calm.atsStart (x : DCtx) (a : Nat) : Calm c s₀ (atsStart x a s) := by
  rw [Machine.atsStart]
  split
  · split
    · exact h
    · exact h
  · exact h

@[simp] theorem Calm.atsTaken (x : DCtx) (a : Nat) : Calm c s₀ (atsTaken x a s) := by
  rw [Machine.atsTaken]
  split
  · exact h
  · exact h

@[simp] theorem Calm.stopEff (x : DCtx) (a : Nat) (e : DErr × Nat) : Calm c s₀ (stopEff x a e s) := by
  simp only [Machine.stopEff]
  refine h.dataOnly ?_
  split
  · exact (h.atsTaken _ _).ledgerRoom _ _
  · exact h.atsStart _ _
  · exact h.meetBad _ _
  · exact h.tableUse _
  · exact h.ledgerRoom _ _
  · exact h

@[simp] theorem Calm.unitsMeet (rm object : Nat) (e : DErr) : Calm c s₀ (unitsMeet rm object e s) := by
  rw [Machine.unitsMeet.eq_def]
  split
  · exact h.dataOnly (h.meetBad _ _)
  · exact h

@[simp] theorem Calm.accessEff (x : DCtx) (y : Bool × Nat × (DErr × Nat)) : Calm c s₀ (accessEff x y s) := h.stopEff _ _ _

@[simp] theorem Calm.loadEff (x : DCtx) (a n : Nat) : Calm c s₀ (loadEff x a n s) := h.readEff _ a n

@[simp] theorem Calm.storeLe (x : DCtx) (a n v : Nat) : Calm c s₀ (storeLe x a n v s) := h.writeEff _ a _

@[simp] theorem Calm.askUnits (d pool : Nat) (w : HarbourWait) : Calm c s₀ (askUnits d pool w s).2 := by
  simp only [Machine.askUnits]
  split
  · exact h
  · split
    · exact h
    · split
      · refine h.unitsOnly (Calm.ledgerRoom (Calm.raise ?_ 1 0) _ _)
        rw [calm_setMem, calm_setMem]
        exact h
      · exact h.unitsOnly ((calm_setMem _).2 h)

end

end Sys2Proof.Machine

/-! ## Lists and collectives leave host ports and functions as they are -/

namespace Sys2Proof.Machine

open Sys2Proof

section
variable {s₀ s : State}

/-- A state whose host ports, functions, downstream ports and events are another's. -/
theorem calm_congr {u : State} (hh : u.hports = s.hports) (hf : u.funcs = s.funcs) (hd : u.ds = s.ds) (he : u.events = s.events) :
    Calm False s₀ u ↔ Calm False s₀ s := by
  simp only [Calm, hport, func, evBit, evReg, hh, hf, hd, he, false_imp_iff, true_and]

@[simp] theorem calm_modColl (f : Colls → Colls) : Calm False s₀ (modColl f s) ↔ Calm False s₀ s := calm_congr rfl rfl rfl rfl
@[simp] theorem calm_modMember (id : Nat) (f : Member → Member) : Calm False s₀ (modMember id f s) ↔ Calm False s₀ s := calm_congr rfl rfl rfl rfl
@[simp] theorem calm_setNode (n : CNode) : Calm False s₀ (setNode n s) ↔ Calm False s₀ s := calm_congr rfl rfl rfl rfl
@[simp] theorem calm_setChunk (n : CNode) (k : CChunk) : Calm False s₀ (setChunk n k s) ↔ Calm False s₀ s := calm_congr rfl rfl rfl rfl
@[simp] theorem calm_setRound (r : Round) : Calm False s₀ (setRound r s) ↔ Calm False s₀ s := calm_congr rfl rfl rfl rfl
@[simp] theorem calm_closeSeq (k : Nat × Nat × Nat) : Calm False s₀ (closeSeq k s) ↔ Calm False s₀ s := calm_congr rfl rfl rfl rfl
@[simp] theorem calm_closeRound (k : Nat × Nat × Nat) (kind : Nat) : Calm False s₀ (closeRound k kind s) ↔ Calm False s₀ s := calm_congr rfl rfl rfl rfl
@[simp] theorem calm_freeNode (n e : Nat) : Calm False s₀ (freeNode n e s) ↔ Calm False s₀ s := calm_congr rfl rfl rfl rfl
@[simp] theorem calm_dropStreams (p : Nat → Nat → Nat → Bool) : Calm False s₀ (dropStreams p s) ↔ Calm False s₀ s := calm_congr rfl rfl rfl rfl
@[simp] theorem calm_streamQueue (k : Nat) (p : Pkt) : Calm False s₀ (streamQueue k p s) ↔ Calm False s₀ s := calm_congr rfl rfl rfl rfl
@[simp] theorem calm_streamMsn (k : Nat) : Calm False s₀ (streamMsn k s).2 ↔ Calm False s₀ s := calm_congr rfl rfl rfl rfl
@[simp] theorem calm_countFinal (l : List (Nat × Flags)) : Calm False s₀ (countFinal l s) ↔ Calm False s₀ s := calm_congr rfl rfl rfl rfl
@[simp] theorem calm_countIn (f : Bool) (n : Nat) : Calm False s₀ (countIn f n s) ↔ Calm False s₀ s := calm_congr rfl rfl rfl rfl
@[simp] theorem calm_takeUnits (d n : Nat) : Calm False s₀ (takeUnits d n s).2 ↔ Calm False s₀ s := calm_congr rfl rfl rfl rfl
@[simp] theorem calm_startWall (w : SeawallRec) : Calm False s₀ (startWall w s) ↔ Calm False s₀ s := calm_congr rfl rfl rfl rfl
@[simp] theorem calm_bucketCharge (o half n : Nat) : Calm False s₀ (bucketCharge o half n s) ↔ Calm False s₀ s := calm_congr rfl rfl rfl rfl
@[simp] theorem calm_setQps (l : NMap Qp) : Calm False s₀ { s with qps := l } ↔ Calm False s₀ s := calm_congr rfl rfl rfl rfl
@[simp] theorem calm_modQp (n : Nat) (f : Qp → Qp) : Calm False s₀ (modQp n f s) ↔ Calm False s₀ s := calm_congr rfl rfl rfl rfl
@[simp] theorem calm_setHeldPkts (l : List Pkt) : Calm False s₀ { s with heldPkts := l } ↔ Calm False s₀ s := calm_congr rfl rfl rfl rfl

variable (h : Calm False s₀ s)
include h

theorem Calm.fabricOnly {r : State} (h' : Calm False s₀ r) : Calm False s₀ (fabricOnly s r) :=
  h.of_parts h' False.elim rfl rfl rfl (.inl rfl)

/-! ### Packets, lists and waits -/

@[simp] theorem Calm.roomCharge (k : Pkt) (n : Nat) : Calm False s₀ (roomCharge k n s) := by
  rw [Machine.roomCharge]
  split
  · exact (calm_bucketCharge _ _ _).2 h
  · exact h

@[simp] theorem Calm.inject (k : Pkt) : Calm False s₀ (inject k s) := by
  simp only [Machine.inject, calm_ite]
  split
  · exact (calm_setHeldPkts _).2 h
  · split
    · simp [h]
    · simp [h]
    · simp [h]

@[simp] theorem Calm.originate (k : Pkt) : Calm False s₀ (originate k s) := h.fabricOnly (h.inject k)

@[simp] theorem Calm.bodyDone (r : ListRec) : Calm False s₀ (bodyDone r s) := by simp [Machine.bodyDone, h]

@[simp] theorem Calm.okCmd (x : CmdHdr) (op : Nat) (r : ListRec) (e : CEnd) : Calm False s₀ (okCmd x op r e s) := by
  have hdone : Calm False s₀ (if x.notify || x.fin then Machine.writeCompl x op { e with flags := e.flags ||| r.flags } (Machine.lanternAdd r.room x.signal 1 s)
      else Machine.lanternAdd r.room x.signal 1 s) := by simp [h]
  rw [Machine.okCmd]
  split
  · exact (calm_endList _ _).2 (hdone.bodyDone r)
  · exact hdone

@[simp] theorem Calm.endCmd (x : CmdHdr) (op : Nat) (r : ListRec) (e : CEnd) : Calm False s₀ (endCmd x op r e s) := by
  simp [Machine.endCmd, h]

theorem Calm.armWait (w : TimedWait) : Calm False s₀ (armWait w s) := by
  rw [Machine.armWait]
  split
  · refine Calm.raise ?_ 5 3
    exact h
  · exact h

@[simp] theorem Calm.wakeTimed (fn q l flags : Nat) : Calm False s₀ (wakeTimed fn q l flags s) := by
  rw [Machine.wakeTimed]
  split
  · split
    · simp [h]
    · exact h
  · exact h

theorem Calm.serveHeld (k : Nat) : Calm False s₀ (serveHeld k s) := by
  induction k generalizing s with
  | zero => exact h
  | succ k ih =>
    rw [Machine.serveHeld]
    split
    · exact h
    · split
      · exact h
      · refine ih ?_
        split
        · exact h
        · refine Calm.wakeTimed ?_ _ _ _ _
          exact h

@[simp] theorem Calm.slotFreed : Calm False s₀ (slotFreed s) := h.serveHeld _

/-! ### Streams -/

theorem Calm.openStream (it : Itin) (peer epoch num : Nat) : Calm False s₀ (openStream it peer epoch num s) := by
  simp only [Machine.openStream]
  split
  · exact (calm_setQps _).2 h
  · exact h

@[simp] theorem Calm.streamSend (it : Itin) (peer epoch num op : Nat) (x : CollExt) (d : List Byte) :
    Calm False s₀ (streamSend it peer epoch num op x d s) := by
  simp only [Machine.streamSend]
  refine Calm.foldl ?_ (fun u x hu => (calm_streamQueue _ _).2 hu) _
  exact (calm_streamMsn _).2 (h.openStream _ _ _ _)

/-! ### Members as they end -/

@[simp] theorem Calm.memberDone (m : Member) (e : CEnd) : Calm False s₀ (memberDone m e s) := by
  have hfreed (ws : List TimedWait) (f : Colls → Colls) :
      Calm False s₀ (Machine.slotFreed (if !m.silent && e.flags / 4 % 2 = 1 then bump 0x250178 (Machine.modTide (fun t => { t with waits := ws }) (modColl f s))
        else Machine.modTide (fun t => { t with waits := ws }) (modColl f s))) := by
    refine Calm.slotFreed ?_
    rw [calm_ite, calm_bump, ite_self]
    exact (calm_modTide _).2 ((calm_modColl f).2 h)
  simp only [Machine.memberDone]
  split
  · exact hfreed _ _
  · split
    · exact hfreed _ _
    · exact Calm.endCmd ((calm_setList _).2 (hfreed _ _)) _ _ _ _

theorem Calm.wildEnd (on : Bool) (e : CEnd) : Calm False s₀ (wildEnd on (e, s)).2 := by
  rw [Machine.wildEnd]
  split
  · exact h
  · exact h

@[simp] theorem Calm.memberOk (m : Member) : Calm False s₀ (memberOk m s) := (h.wildEnd _ _).memberDone m _

@[simp] theorem Calm.memberAborted (m : Member) (cause : Nat) (tainted : Bool) : Calm False s₀ (memberAborted m cause tainted s) :=
  Calm.memberDone ((calm_bump _).2 h) m _

@[simp] theorem Calm.stopMember (m : Member) (cause : Nat) : Calm False s₀ (stopMember m cause s) := by simp [Machine.stopMember, h]

/-! ### Nodes that abort, and open -/

@[simp] theorem Calm.sendAbort (it : Itin) (n : CNode) (tree peer : Nat) (down : Bool) (cause : Nat) :
    Calm False s₀ (sendAbort it n tree peer down cause s) := (h.openStream _ _ _ _).originate _

@[simp] theorem Calm.abortNode (n e cause : Nat) (via : Option (Nat × Nat)) : Calm False s₀ (abortNode n e cause via s) := by
  simp only [Machine.abortNode]
  split
  · rw [calm_dropStreams, calm_modColl]
    refine h.foldl (fun u x hu => ?_) _
    split
    · split
      · exact hu
      · exact hu.foldl (fun _ y hv => hv.sendAbort _ _ _ _ _ _) _
    · exact hu.foldl (fun _ y hv => hv.sendAbort _ _ _ _ _ _) _
  · exact h

theorem Calm.openNode {n e count ctrl : Nat} {force : Bool} {t : State} (ht : openNode n e count ctrl force s = some t) : Calm False s₀ t := by
  simp only [Machine.openNode] at ht
  split at ht
  · cases ht
  · split at ht
    · cases ht
      exact h
    · obtain ⟨-, ht⟩ := Option.ite_none_left_eq_some.1 ht
      cases ht
      exact (calm_modColl _).2 (h.foldl (fun _ n hu => (calm_freeNode _ _).2 hu) _)

@[simp] theorem Calm.bulkBegin (m : Member) : Calm False s₀ (bulkBegin m s) := by
  simp only [Machine.bulkBegin]
  split
  · exact h
  · next hopen =>
    split
    · exact (calm_modMember _ _).2 (h.openNode hopen)
    · exact (calm_setNode _).2 ((calm_modMember _ _).2 (h.openNode hopen))

@[simp] theorem Calm.startFire (w : TimedWait) : Calm False s₀ (startFire w s) := by
  simp only [Machine.startFire]
  split
  · exact h
  · simp [h]

theorem Calm.startWait (m : Member) (t : Word) (waiting : Nat) {go : Member → State → State} (hgo : ∀ m u, Calm False s₀ u → Calm False s₀ (go m u)) :
    Calm False s₀ (startWait m t waiting go s) := by
  simp only [Machine.startWait]
  split
  · exact hgo _ _ h
  · split
    · exact hgo _ _ ((calm_modMember _ _).2 h)
    · exact Calm.armWait ((calm_modMember _ _).2 h) _

/-! ### Rounds -/

omit h in
/-- A run of calm steps that carries a number along. -/
theorem Calm.foldl_snd {α β : Type} {f : β × State → α → β × State} (hf : ∀ a x, Calm False s₀ a.2 → Calm False s₀ (f a x).2) (l : List α) {a : β × State}
    (ha : Calm False s₀ a.2) : Calm False s₀ (l.foldl f a).2 := by
  induction l generalizing a with
  | nil => exact ha
  | cons x l ih => exact ih (hf a x ha)

@[simp] theorem Calm.sendRound (it : Itin) (ctrl gen peer op : Nat) (down : Bool) (x : CollExt) (runs : List (List (List Byte))) :
    Calm False s₀ (sendRound it ctrl gen peer op down x runs s) := by
  refine Calm.foldl_snd (fun a run ha => ?_) runs h
  exact (calm_streamQueue _ _).2 ((calm_streamMsn _).2 (ha.openStream _ _ _ _))

theorem Calm.roundOk (m : Member) (kind : Nat) (vals : List Nat) (flags : Flags) (root : Bool) : Calm False s₀ (roundOk m kind vals flags root s) := by
  simp only [Machine.roundOk]
  split
  · exact h.startWait m _ 2 fun m _ hu => hu.bulkBegin m
  · split
    · refine Calm.memberOk ?_ _
      simp [h]
    · split
      · refine Calm.startWait ?_ m _ 6 fun _ _ hu => (calm_modMember _ _).2 hu
        simp [h]
      · exact h

/-- A member that is bulk and runs takes its node down with it. -/
theorem Calm.ite_abortNode (p : Prop) [Decidable p] (n e cause : Nat) (via : Option (Nat × Nat)) :
    Calm False s₀ (if p then Machine.abortNode n e cause via s else s) := by
  split
  · exact h.abortNode n e cause via
  · exact h

theorem Calm.roundAborted (m : Member) (cause : Nat) (tainted : Bool) : Calm False s₀ (roundAborted m cause tainted s) :=
  ((h.ite_abortNode _ _ _ _ _).stopMember m cause).memberAborted _ cause tainted

/-- What goes to the children of this device's place in a tree. -/
theorem Calm.toChildren (x : Option (Itin × Tree)) {f : Itin → State → Nat → State} (hf : ∀ it u p, Calm False s₀ u → Calm False s₀ (f it u p)) :
    Calm False s₀ (match x with | some (it, t) => t.children.foldl (f it) s | none => s) := by
  cases x with
  | none => exact h
  | some x => exact h.foldl (hf x.1) _

theorem Calm.outAbort (k : Nat × Nat × Nat) (ctrl kind cause : Nat) (tainted incomplete : Bool) :
    Calm False s₀ (outAbort k ctrl kind cause tainted incomplete s) := by
  refine Calm.foldl ((calm_closeSeq _).2 (h.toChildren _ fun it u p hu => hu.sendRound it _ _ p _ _ _ _)) (fun u m hu => ?_) _
  split
  · exact hu
  · exact hu.roundAborted _ _ _

theorem Calm.outOk (r : Round) : Calm False s₀ (outOk r s) := by
  refine Calm.foldl ?_ (fun u m hu => hu.roundOk _ _ _ _ _) _
  rw [calm_ite, calm_closeSeq, calm_closeRound, ite_self]
  exact h.toChildren _ fun it u p hu => hu.sendRound it _ _ p _ _ _ _

theorem Calm.decide_ (r : Round) : Calm False s₀ (decide_ r s) := by
  simp only [Machine.decide_]
  generalize (if r.kind = 5 then r.cause else roundCause s r) = cause
  split
  · refine Calm.outAbort ?_ _ _ _ _ _ _
    simp [h]
  · refine Calm.outOk ?_ _
    simp [h]

theorem Calm.roundStep (k : Nat × Nat × Nat) (kind : Nat) : Calm False s₀ (roundStep k kind s) := by
  simp only [Machine.roundStep]
  split
  · exact h
  · split
    · exact h
    · split
      · exact h
      · split
        · exact h.decide_ _
        · exact Calm.sendRound ((calm_setRound _).2 h) _ _ _ _ _ _ _ _

theorem Calm.roundIn (k : Nat × Nat × Nat) (kind ctrl src : Nat) (x : Contrib) : Calm False s₀ (roundIn k kind ctrl src x s) :=
  Calm.roundStep ((calm_setRound _).2 h) k kind

theorem Calm.contribute (m : Member) (kind : Nat) (x : Contrib) : Calm False s₀ (contribute m kind x s) := h.roundIn _ _ _ _ _

/-! ### Abort rounds -/

theorem Calm.joinLocals (k : Nat × Nat × Nat) (cause : Nat) : Calm False s₀ (joinLocals k cause s) := by
  refine h.foldl (fun u m hu => ?_) _
  split
  · exact hu
  · split
    · exact hu
    · exact Calm.contribute ((calm_modMember _ _).2 ((hu.ite_abortNode _ _ _ _ _).stopMember _ _)) _ _ _

theorem Calm.callHere (k : Nat × Nat × Nat) (ctrl cause : Nat) : Calm False s₀ (callHere k ctrl cause s) := by
  simp only [Machine.callHere]
  split
  · exact h
  · exact (Calm.toChildren ((calm_modColl _).2 h) _ fun it u p hu => hu.sendRound it _ _ p _ _ _ _).joinLocals k cause

theorem Calm.callAbort (k : Nat × Nat × Nat) (ctrl cause : Nat) : Calm False s₀ (callAbort k ctrl cause s) := by
  simp only [Machine.callAbort]
  split
  · exact h
  · exact Calm.callHere ((calm_setRound _).2 h) k ctrl cause

theorem Calm.alert (k : Nat × Nat × Nat) (ctrl cause : Nat) (released : Bool) : Calm False s₀ (alert k ctrl cause released s) := by
  simp only [Machine.alert]
  split
  · exact h
  · split
    · exact h
    · split
      · exact Calm.callAbort ((calm_modColl _).2 h) _ _ _
      · exact Calm.sendRound ((calm_modColl _).2 h) _ _ _ _ _ _ _ _

@[simp] theorem Calm.memberAbort (id cause : Nat) : Calm False s₀ (memberAbort id cause s) := by
  simp only [Machine.memberAbort]
  split
  · exact h
  · split
    · exact h
    · exact Calm.alert ((calm_modMember _ _).2 ((h.ite_abortNode _ _ _ _ _).stopMember _ _)) _ _ _ _

theorem Calm.nodeAborted (n e cause : Nat) (via : Option (Nat × Nat)) : Calm False s₀ (nodeAborted n e cause via s) :=
  (h.abortNode n e cause via).foldl (fun _ _ hu => hu.memberAbort _ _) _

theorem Calm.memStop (m : Member) (x : DCtx) (y : Bool × Nat × (DErr × Nat)) : Calm False s₀ (memStop m x y s) := by
  rw [Machine.memStop]
  split
  · exact h.accessEff x y
  · exact (h.accessEff x y).memberAbort _ _

/-! ### Chunks at a node -/

theorem Calm.atNode (n e : Nat) {f : Itin → CNode → State → State} (hf : ∀ it n, Calm False s₀ (f it n s)) : Calm False s₀ (atNode n e f s) := by
  rw [Machine.atNode]
  split
  · exact hf _ _
  · exact h

theorem Calm.atChunk (n e t k : Nat) {f : Itin → CNode → CChunk → State → State} (hf : ∀ it n x, Calm False s₀ (f it n x s)) :
    Calm False s₀ (atChunk n e t k f s) := by
  refine h.atNode n e fun it n => ?_
  split
  · exact hf _ _ _
  · exact h

theorem Calm.expStep (it : Itin) (n : CNode) (x : CChunk) : Calm False s₀ (expStep it n x s) := by simp [Machine.expStep, h]

theorem Calm.candStep (n e t : Nat) : Calm False s₀ (candStep n e t s) := by
  refine h.atNode n e fun it n => ?_
  simp [h]

/-- What goes to the children of a node, one after the other. -/
theorem Calm.sendDown (l : List Nat) (it : Itin) (epoch num op : Nat) (x : CollExt) (d : List Byte) :
    Calm False s₀ (l.foldl (fun s p => Machine.streamSend it p epoch num op x d s) s) :=
  h.foldl (fun _ p hu => hu.streamSend it p epoch num op x d) _

theorem Calm.openChunk (n e t k die pool units : Nat) : Calm False s₀ (openChunk n e t k die pool units s) := by
  refine h.atChunk n e t k fun it n x => ?_
  have hopened : Calm False s₀ (setChunk n { x with opened := true, die := die, pool := pool, units := (takeUnits die units s).1 } (takeUnits die units s).2) :=
    (calm_setChunk _ _).2 ((calm_takeUnits _ _).2 h)
  split
  · exact h
  · dsimp only
    split
    · exact hopened
    · exact hopened.sendDown _ _ _ _ _ _ _

theorem Calm.openStep (it : Itin) (n : CNode) (x : CChunk) : Calm False s₀ (openStep it n x s) := by
  simp only [Machine.openStep]
  split
  · exact h
  · split
    · exact h.openChunk _ _ _ _ _ _ _
    · split
      · exact h
      · split
        · exact (h.askUnits _ _ _).openChunk _ _ _ _ _ _ _
        · exact h.askUnits _ _ _

theorem Calm.heldStep (it : Itin) (n : CNode) (x : CChunk) : Calm False s₀ (heldStep it n x s) := by
  rw [Machine.heldStep]
  split
  · exact h
  · exact h.foldl (fun u m hu => by simp [hu]) _

/-- A run of reads. -/
theorem Calm.loads (x : DCtx) (l : List (Bool × Nat × Nat)) : Calm False s₀ (l.foldl (fun s y => Machine.loadEff x y.2.1 y.2.2 s) s) :=
  h.foldl (fun _ _ hu => hu.loadEff x _ _) _

theorem Calm.convOne (it : Itin) (n : CNode) (x : CChunk) (m : Member) : Calm False s₀ (convOne it n x m s) := by
  simp only [Machine.convOne]
  split
  · exact h.memStop _ _ _
  · have hread := fun y l j f => (calm_modMember m.id f).2 ((calm_countIn n.fws.float j).2 (h.loads y l))
    exact Calm.atChunk (hread _ _ _ _) _ _ _ _ fun _ _ _ => (calm_setChunk _ _).2 (hread _ _ _ _)

theorem Calm.convStep (n e t k : Nat) : Calm False s₀ (convStep n e t k s) := by
  refine h.foldl (fun u m hu => hu.atChunk n e t k fun it n x => ?_) _
  split
  · exact hu
  · exact hu.convOne _ _ _ _

theorem Calm.chunkMsn (n : CNode) (x : CChunk) (slot key : Nat) : Calm False s₀ (chunkMsn n x slot key s).2 := by
  rw [Machine.chunkMsn]
  split
  · exact h
  · exact (calm_setChunk _ _).2 ((calm_streamMsn _).2 h)

theorem Calm.chunkPkt (it : Itin) (n : CNode) (x : CChunk) (peer slot op : Nat) (down : Bool) (off : Nat) (d : List Byte) (fin : Option Nat) :
    Calm False s₀ (chunkPkt it n x peer slot op down off d fin s) := (calm_streamQueue _ _).2 ((h.openStream _ _ _ _).chunkMsn _ _ _ _)

theorem Calm.sumOne (n e t k : Nat) : Calm False s₀ (sumOne n e t k s) := by
  refine h.atChunk n e t k fun it n x => ?_
  dsimp only
  split
  · exact h
  · exact (h.chunkPkt _ _ _ _ _ _ _ _ _ _).atChunk _ _ _ _ fun _ _ _ => (calm_setChunk _ _).2 (h.chunkPkt _ _ _ _ _ _ _ _ _ _)

theorem Calm.sumStep (n e t k : Nat) : Calm False s₀ (sumStep n e t k s) :=
  h.atNode n e fun _ _ => h.foldl (fun _ _ hu => hu.sumOne _ _ _ _) _

theorem Calm.rootOne (n e t k j : Nat) : Calm False s₀ (rootOne n e t k j s) := by
  refine h.atChunk n e t k fun it n x => ?_
  simp [h]

theorem Calm.sendResult (it : Itin) (n : CNode) (x : CChunk) : Calm False s₀ (sendResult it n x s) := h.sendDown _ _ _ _ _ _ _

theorem Calm.rootStep (n e t k : Nat) : Calm False s₀ (rootStep n e t k s) := by
  refine h.atChunk n e t k fun it nd x => ?_
  dsimp only
  split
  · exact h
  · have hranges (l : List Nat) : Calm False s₀ (l.foldl (fun s j => Machine.rootOne n e t k j s) s) := h.foldl (fun _ j hu => hu.rootOne _ _ _ _ j) _
    refine (hranges _).atChunk _ _ _ _ fun _ _ _ => ?_
    split
    · exact hranges _
    · split
      · exact Calm.sendResult ((calm_setChunk _ _).2 (hranges _)) _ _ _
      · exact (calm_setChunk _ _).2 (hranges _)

theorem Calm.gatherStep (n e t k : Nat) : Calm False s₀ (gatherStep n e t k s) := by
  refine h.atChunk n e t k fun it n x => ?_
  dsimp only
  split
  · exact h
  · split
    · exact h
    · split
      · exact h.memStop _ _ _
      · exact Calm.sendResult ((calm_setChunk _ _).2 (h.loads _ _)) _ _ _

theorem Calm.passOne (it : Itin) (n : CNode) (x : CChunk) (m : Member) : Calm False s₀ (passOne it n x m s) := by
  simp only [Machine.passOne]
  split
  · exact h
  · exact (calm_modMember _ _).2 h
  · split
    · exact h.memStop _ _ _
    · rw [calm_modMember, calm_ite, calm_useFresh, ite_self]
      simp [h]

theorem Calm.passStep (n e t k : Nat) : Calm False s₀ (passStep n e t k s) := by
  refine h.foldl (fun u m hu => hu.atChunk n e t k fun it n x => ?_) _
  split
  · split
    · exact hu
    · exact hu.passOne _ _ _ _
  · exact hu

theorem Calm.relStep (n e t k : Nat) : Calm False s₀ (relStep n e t k s) := by
  refine h.atChunk n e t k fun it n x => ?_
  simp [h]

theorem Calm.chunkGo (n e t k : Nat) : Calm False s₀ (chunkGo n e t k s) := by
  have hexp := h.atChunk n e t k fun it n x => h.expStep it n x
  have hopen := hexp.atChunk n e t k fun it n x => hexp.openStep it n x
  have hheld := hopen.atChunk n e t k fun it n x => hopen.heldStep it n x
  exact (((((hheld.gatherStep _ _ _ _).convStep _ _ _ _).sumStep _ _ _ _).rootStep _ _ _ _).passStep _ _ _ _).relStep _ _ _ _

theorem Calm.chunkStep (n e t k : Nat) : Calm False s₀ (chunkStep n e t k s) := by
  rw [Machine.chunkStep]
  split
  · exact h.chunkGo _ _ _ _
  · split
    · exact h.chunkGo _ _ _ _
    · split
      · exact h
      · exact (h.unitsMeet _ _ _).nodeAborted _ _ _ _

/-! ### Members at a node -/

theorem Calm.normStep (id : Nat) : Calm False s₀ (normStep id s) := by
  simp only [Machine.normStep]
  split
  · exact h
  · split
    · exact h
    · split
      · exact h
      · split
        · exact h.memStop _ _ _
        · exact (calm_modMember _ _).2 (h.storeLe _ _ _ _)

theorem Calm.relMember (id : Nat) : Calm False s₀ (relMember id s) := by
  simp only [Machine.relMember]
  split
  · exact h
  · split
    · exact h
    · split
      · exact h
      · have hreleased (p : Prop) [Decidable p] (rm l n : Nat) (f : Member → Member) :
            Calm False s₀ (if p then Machine.lanternAdd rm l n (modMember id f s) else s) := by simp [h]
        split
        · exact hreleased _ _ _ _ _
        · exact Calm.contribute ((calm_modMember _ _).2 (hreleased _ _ _ _ _)) _ _ _

theorem Calm.finStep (n e : Nat) : Calm False s₀ (finStep n e s) := by
  refine h.atNode n e fun it n => ?_
  simp [h]

/-- The root's candidates of every tree, as far as the window goes. -/
theorem Calm.candSteps (n e : Nat) : Calm False s₀ (Machine.atNode n e (fun it _ s => (List.range it.trees.length).foldl (fun s t =>
    (List.range it.window).foldl (fun s _ => Machine.candStep n e t s) s) s) s) :=
  h.atNode n e fun _ _ => h.foldl (fun _ t hu => hu.foldl (fun _ _ hv => hv.candStep n e t) _) _

theorem Calm.chunkSteps (n e : Nat) :
    Calm False s₀ (Machine.atNode n e (fun _ x s => x.chunks.foldl (fun s k => Machine.chunkStep n e k.tree k.chunk s) s) s) :=
  h.atNode n e fun _ _ => h.foldl (fun _ k hu => hu.chunkStep n e k.tree k.chunk) _

theorem Calm.nodeStep (n e : Nat) : Calm False s₀ (nodeStep n e s) :=
  (((h.candSteps n e).chunkSteps n e).foldl (fun _ _ hu => (hu.normStep _).relMember _) _).finStep n e

/-! ### Members as they start, and write -/

theorem Calm.takeRound {k : Nat × Nat × Nat} {kind ctrl sig : Nat} {t : State} (ht : takeRound k kind ctrl sig s = some t) : Calm False s₀ t := by
  simp only [Machine.takeRound] at ht
  split at ht
  · cases ht
    exact h
  · split at ht
    · cases ht
    · cases ht
      exact (calm_setRound _).2 ((calm_takeUnits _ _).2 h)

theorem Calm.joinCalled (id : Nat) : Calm False s₀ (joinCalled id s) := by
  rw [Machine.joinCalled]
  split
  · split
    · exact h.joinLocals _ _
    · exact h
  · exact h

/-- A member's first round begins: the match that `memberStart` goes on with. -/
theorem Calm.beginRound (m : Member) (id kind sig : Nat) (x : Contrib) (f : Member → Member) : Calm False s₀
    (match Machine.takeRound m.key kind m.party.ctrl sig s with
      | none => s
      | some t => if (modMember id f t).coll.called.contains m.key then Machine.joinCalled id (modMember id f t)
        else Machine.contribute m kind x (modMember id f t)) := by
  split
  · exact h
  · next htake =>
    have hbegun := (calm_modMember id f).2 (h.takeRound htake)
    split
    · exact hbegun.joinCalled id
    · exact hbegun.contribute _ _ _

theorem Calm.memberStart (id : Nat) : Calm False s₀ (memberStart id s) := by
  simp only [Machine.memberStart]
  split
  · exact h
  · next m _ =>
    generalize (if m.isBulk then 1 else if m.op = 0x20 then 3 else 4) = kind
    split
    · exact h
    · split
      · exact h.beginRound m id _ _ _ _
      · split
        · exact h.beginRound m id _ _ _ _
        · split
          · exact h.memStop _ _ _
          · split
            · exact h
            · exact (h.loads _ _).beginRound m id _ _ _ _

theorem Calm.memberWrite (id : Nat) : Calm False s₀ (memberWrite id s) := by
  simp only [Machine.memberWrite]
  split
  · exact h
  · split
    · exact h
    · split
      · split
        · exact h.accessEff _ _
        · exact (h.accessEff _ _).memberAborted _ _ _
      · exact (h.foldl (fun _ y hu => hu.storeLe _ _ _ _) _).memberOk _

theorem Calm.memberLate (id : Nat) : Calm False s₀ (memberLate id s) := by
  rw [Machine.memberLate]
  split
  · refine Calm.slotFreed (Calm.startFire ?_ _)
    exact h
  · exact h

theorem Calm.roundUnitsLost (r : Round) : Calm False s₀ (roundUnitsLost r s) := by
  rw [Machine.roundUnitsLost]
  split
  · split
    · exact h
    · exact Calm.alert ((calm_setRound _).2 (h.unitsMeet _ _ _)) _ _ _ _
  · exact h

theorem Calm.settlePass : Calm False s₀ (settlePass s) :=
  ((((h.foldl (fun _ m hu => hu.memberLate m.id) _).foldl (fun _ r hu => hu.roundUnitsLost r) _).foldl (fun _ m hu => hu.memberStart m.id) _).foldl
    (fun _ n hu => hu.nodeStep n.itin n.epoch) _).foldl (fun _ m hu => hu.memberWrite m.id) _

/-- All that the collectives can do is calm. -/
theorem Calm.settle : Calm False s₀ (settle s) := by
  have hgo (k : Nat) {u : State} (hu : Calm False s₀ u) : Calm False s₀ (settleGo k u) := by
    induction k generalizing u with
    | zero => exact hu
    | succ k ih => exact ih hu.settlePass
  exact hgo _ h

end

end Sys2Proof.Machine

/-! ## Loss actions leave what stands of host ports and functions -/

namespace Sys2Proof.Machine

open Sys2Proof

section
variable {s₀ s : State}

@[simp] theorem calm_admitEnd (w : Nat) : Calm False s₀ (admitEnd w s) ↔ Calm False s₀ s := calm_congr rfl rfl rfl rfl
@[simp] theorem calm_wqDone (fn q i : Nat) : Calm False s₀ (wqDone fn q i s) ↔ Calm False s₀ s := Iff.rfl
@[simp] theorem calm_tlbPurge (p : TEntry → Bool) : Calm False s₀ (tlbPurge p s) ↔ Calm False s₀ s := calm_congr rfl rfl rfl rfl

variable (h : Calm False s₀ s)
include h

/-- A state whose host ports, functions, downstream ports and events are those of a calm one. -/
theorem Calm.of_eq {u : State} (hh : u.hports = s.hports) (hf : u.funcs = s.funcs) (hd : u.ds = s.ds) (he : u.events = s.events) : Calm False s₀ u :=
  (calm_congr hh hf hd he).2 h

/-! ### Queue pairs that enter ERROR -/

@[simp] theorem Calm.sendPkt (q : Qp) (k : Pkt) : Calm False s₀ (sendPkt q k s) := by
  rw [Machine.sendPkt]
  split
  · exact h.originate k
  · rw [calm_ite]
    split
    · exact (calm_setHeldPkts _).2 h
    · exact h.fabricOnly ((h.roomCharge _ _).enqueue _ _)

@[simp] theorem Calm.sendNak (n code : Nat) (psn : BitVec 32) : Calm False s₀ (sendNak n code psn s) := by
  refine Calm.sendPkt ?_ _ _
  split
  · exact h
  · split
    · exact Calm.raise ((calm_bump _).2 h) 3 0
    · exact h

theorem Calm.endAdm (d : Deferred) : Calm False s₀ (endAdm d s) := by
  rw [Machine.endAdm]
  split
  · exact (calm_admitEnd _).2 h
  · exact h

theorem Calm.wqsDone (l : List Op) : Calm False s₀ (l.foldl (fun s o => Machine.wqDone o.wr.fn o.wr.queue o.wr.index s) s) :=
  h.foldl (fun _ _ hu => (calm_wqDone _ _ _).2 hu) l

/-- A port loss takes a QP to ERROR. -/
theorem Calm.qpLost (n : Nat) (psn : BitVec 32) (carrier : Option Nat) (status detail : Nat) :
    Calm False s₀ (qpError n 0x19 psn carrier status detail s) := by
  have hadm := h.foldl (fun _ d hu => hu.endAdm d) (qp s n).deferred
  simp only [Machine.qpError]
  split
  · exact h
  · split
    · exact (calm_modQp _ _).2 h
    · generalize ((qp s n).deferred.foldl (fun s d => Machine.endAdm d s) s) = r at hadm ⊢
      have herror (f g u) : Calm False s₀ (bump 0x240148 { r with porch := f, heldPkts := g, qps := u }) :=
        (calm_bump _).2 (hadm.of_eq rfl rfl rfl rfl)
      have hevent (f g u v) := ((herror f g u).wqsDone (qp s n).ops).qEvent (qp s n).fn (qp s n).sq 0x0100 n v 0
      split
      · exact hevent _ _ _ _
      · split
        · exact (hevent _ _ _ _).sendNak _ _ _
        · exact hevent _ _ _ _

/-! ### The functions and rooms of a port -/

theorem Calm.flushFn (fn : Nat) : Calm False s₀ (flushFn fn s) := Calm.slotFreed (h.of_eq rfl rfl rfl rfl)

theorem Calm.flushQps (fn : Nat) : Calm False s₀ (flushQps fn s) := h.foldl (fun _ p hu => hu.qpLost p.1 _ _ _ _) _

theorem Calm.memberFlushed (id : Nat) : Calm False s₀ (memberFlushed id s) := by
  rw [Machine.memberFlushed]
  split
  · exact h
  · split
    · exact h.memberDone _ _
    · exact Calm.memberAbort ((calm_modMember _ _).2 h) _ _

theorem Calm.flushMembers (fn : Nat) : Calm False s₀ (flushMembers fn s) := (h.foldl (fun _ m hu => hu.memberFlushed m.id) _).settle

theorem Calm.lossFn (fn : Nat) : Calm False s₀ (lossFn fn s) :=
  by
  have hflushed := ((h.flushFn fn).flushQps fn).flushMembers fn
  generalize hu : Machine.flushMembers fn (Machine.flushQps fn (Machine.flushFn fn s)) = u at hflushed
  rw [Machine.lossFn, hu]
  exact (calm_tlbPurge _).2 (hflushed.of_eq rfl rfl rfl rfl)

theorem Calm.quarantine (rm cause : Nat) (gone : Bool) : Calm False s₀ (quarantine rm cause gone s) := by
  simp only [Machine.quarantine]
  split
  · exact h
  · split
    · exact (calm_modRoom _ _).2 (h.lossFn _)
    · exact Calm.raise ((calm_modRoom _ _).2 (h.lossFn _)) 10 2

@[simp] theorem Calm.modRsp (fn : Nat) (f : Queue → Queue) : Calm False s₀ (modRsp fn f s) := h.modFunc fn rfl

theorem Calm.putResp (x : FdHdr) (op : Nat) (r : FdResp) : Calm False s₀ (putResp x op r s) := by
  simp only [Machine.putResp]
  split
  · next hput =>
    split
    · exact ((h.tryPut hput).modFunc _ rfl).msix _ _
    · exact (h.tryPut hput).modFunc _ rfl
  · exact h.modRsp _ _
  · exact (h.meetRing (putCalm_putLedger False s₀) _ _ _ _).modFunc _ rfl

theorem Calm.fdAnswer (x : FdHdr) (op : Nat) (r : FdResp) : Calm False s₀ (fdAnswer x op r s) := by
  refine h.ledgerOnly (iteInduction (motive := Calm False s₀) (fun _ => ?_) fun _ => ?_)
  · refine Calm.modFunc (h.modFunc x.fn ?_) x.fn ?_
    · rfl
    · rfl
  · refine Calm.putResp (h.modFunc x.fn ?_) _ _ _
    rfl

theorem Calm.endQuiesce (rm result : Nat) : Calm False s₀ (endQuiesce rm result s) := by
  rw [Machine.endQuiesce]
  split
  · split
    · exact h.fdAnswer _ _ _
    · exact h
  · exact h

theorem Calm.lossRoom (rm cause : Nat) (gone : Bool) : Calm False s₀ (lossRoom rm cause gone s) := by
  simp only [Machine.lossRoom]
  split
  · exact (h.quarantine _ _ _).endQuiesce _ _
  · exact h.quarantine _ _ _

theorem Calm.lossRecord (p : Nat) (rm bit : Option Nat) : Calm False s₀ (lossRecord p rm bit s) := by
  refine Calm.ledgerInn ?_ _
  split
  · exact h
  · exact h

end

/-! ### Sharing apart -/

/-- A host port but for what it holds and the pages that its host shares. -/
def HostPort.frame (h : HostPort) : HostPort := { h with held := [], shared := [] }

/-- From s to t host ports keep all but what they hold and share, and functions all but their pending bits and front desks. -/
def Framed (s t : State) : Prop := (∀ p, (hport t p).frame = (hport s p).frame) ∧ ∀ fn, (func t fn).setup = (func s fn).setup

theorem HostPort.frame_link (h : HostPort) : h.link.frame = h.frame := rfl

theorem Calm.framed {c : Prop} {s t : State} (h : Calm c s t) : Framed s t := by
  refine ⟨fun p => ?_, h.setup⟩
  rw [← HostPort.frame_link, h.link, HostPort.frame_link]

section
variable {s₀ s : State}

theorem Framed.trans {t : State} (h : Framed s₀ s) (h' : Framed s t) : Framed s₀ t :=
  ⟨fun p => (h'.1 p).trans (h.1 p), fun fn => (h'.2 fn).trans (h.2 fn)⟩

theorem Framed.refl (s : State) : Framed s s := ⟨fun _ => rfl, fun _ => rfl⟩

variable (h : Framed s₀ s)
include h

/-- What the frame of a host port shows is the same. -/
theorem Framed.port {α : Type} (f : HostPort → α) (hf : ∀ x : HostPort, f x.frame = f x) (p : Nat) : f (hport s p) = f (hport s₀ p) := by
  rw [← hf, h.1, hf]

/-- What the setup of a function shows is the same. -/
theorem Framed.fn {α : Type} (f : Func → α) (hf : ∀ x : Func, f x.setup = f x) (fn : Nat) : f (func s fn) = f (func s₀ fn) := by
  rw [← hf, h.2, hf]

theorem Framed.foldl {α : Type} {f : State → α → State} (hf : ∀ u x, Framed u (f u x)) (l : List α) : Framed s₀ (l.foldl f s) := by
  induction l generalizing s with
  | nil => exact h
  | cons x l ih => exact ih (h.trans (hf s x))

end

/-- Pages that go out of a port's shared set leave its frame. -/
theorem framed_shared (p : Nat) (f : HostPort → List Nat) (s : State) : Framed s (modHport p (fun x => { x with shared := f x }) s) := by
  refine ⟨fun q => ?_, fun _ => rfl⟩
  by_cases hq : q = p
  · rw [hq, hport_modHport]
    rfl
  · rw [hport_modHport_ne hq]

theorem framed_muteDesk (fn : Nat) (s : State) : Framed s (muteDesk fn s) := by
  rw [muteDesk]
  split
  · exact Framed.refl s
  · exact (framed_shared _ _ s).trans (((Calm.refl False _).modFunc _ rfl).framed)
  · exact ((Calm.refl False s).modFunc fn rfl).framed

end Sys2Proof.Machine

/-! ## Freezing a memory unit; downstream ports and their expanders -/

namespace Sys2Proof.Machine

open Sys2Proof

/-! ### FREEZE bits (R211, R214) -/

theorem nbit_bitsOf {f : Nat → Bool} {n i : Nat} (h : i < n) : (nbit (bitsOf n f) i == 1) = f i := by
  rw [← testBit_bitsOf (f := f) h, Nat.testBit_eq_decide_div_mod_eq]
  rfl

/-- What a unit's FREEZE bit is to be when one unit's is written. -/
def freezeTo (s : State) (u : Nat) (on : Bool) (v : Nat) : Bool := if v = u then on else s.mem.frozen.contains v

/-- The units whose FREEZE bits stand in one register with a unit's. -/
def freezeGroup (u : Nat) : List Nat := if u < 16 then List.range 16 else (List.range 64).map (16 + ·)

theorem mem_freezeGroup {u : Nat} (hu : u < 80) : u ∈ freezeGroup u := by
  unfold freezeGroup
  split
  · simpa using ‹u < 16›
  · simp only [List.mem_map, List.mem_range]
    exact ⟨u - 16, by omega, by omega⟩

theorem freezeBits_eq (s : State) (u : Nat) (on : Bool) : freezeBits s u on =
    (if u < 16 then 0 else 16, if u < 16 then 16 else 64,
      bitsOf (if u < 16 then 16 else 64) (fun i => freezeTo s u on ((if u < 16 then 0 else 16) + i))) := rfl

/-- A run of FREEZE bits that take their values. -/
def freezeAll (g : Nat → Bool) (l : List Nat) (s : State) : State := l.foldl (fun s v => freezeBit (g v) v s) s

theorem foldl_freezeBit (f : Nat → Bool) (base n : Nat) (s : State) :
    (List.range n).foldl (fun s i => freezeBit (nbit (bitsOf n (fun i => f (base + i))) i == 1) (base + i) s) s =
      freezeAll f ((List.range n).map (base + ·)) s := by
  rw [freezeAll, List.foldl_map]
  exact List.foldl_ext _ _ _ fun t i hi => by rw [nbit_bitsOf (f := fun i => f (base + i)) (List.mem_range.1 hi)]

theorem freezeWrite_armed {s : State} (ha : armed s 1 = true) (u : Nat) (on : Bool) :
    freezeWrite (freezeBits s u on).1 (freezeBits s u on).2.1 (freezeBits s u on).2.2 s = disarm 1 (freezeAll (freezeTo s u on) (freezeGroup u) s) := by
  rw [freezeWrite, if_pos ha, freezeBits_eq, freezeGroup]
  dsimp only
  split
  · rw [foldl_freezeBit (freezeTo s u on)]
    simp
  · rw [foldl_freezeBit (freezeTo s u on)]

theorem freezeBit_leaves (on : Bool) (u : Nat) (s : State) : (freezeBit on u s).mem.cells = s.mem.cells ∧ (freezeBit on u s).errs = s.errs ∧
    (freezeBit on u s).arms = s.arms ∧ (freezeBit on u s).qps = s.qps := by
  unfold freezeBit
  split
  · split
    · exact ⟨rfl, rfl, rfl, rfl⟩
    · exact ⟨rfl, rfl, rfl, rfl⟩
  · split
    · exact ⟨rfl, rfl, rfl, rfl⟩
    · exact ⟨rfl, rfl, rfl, rfl⟩

theorem frozenForGood_of_errs {s t : State} (h : t.errs = s.errs) (u : Nat) : frozenForGood t u = frozenForGood s u := by
  unfold frozenForGood
  rw [h]

theorem mem_frozen_freezeBit (on : Bool) (u v : Nat) (s : State) : v ∈ (freezeBit on u s).mem.frozen ↔
    if v = u then on = true ∨ (v ∈ s.mem.frozen ∧ frozenForGood s v = true) else v ∈ s.mem.frozen := by
  cases on with
  | true =>
    by_cases hu : u ∈ s.mem.frozen
    · simp [freezeBit, hu]
      grind
    · simp [freezeBit, hu, modMem]
      grind
  | false =>
    by_cases hg : frozenForGood s u = true
    · simp [freezeBit, hg]
      grind
    · simp [freezeBit, hg, modMem]
      grind

theorem mem_drained_freezeBit (on : Bool) (u v : Nat) (s : State) : v ∈ (freezeBit on u s).mem.drained ↔
    v ∈ s.mem.drained ∧ (v = u → on = true ∨ frozenForGood s v = true) := by
  cases on with
  | true =>
    by_cases hu : u ∈ s.mem.frozen
    · simp [freezeBit, hu]
    · simp [freezeBit, hu, modMem]
  | false =>
    by_cases hg : frozenForGood s u = true
    · simp [freezeBit, hg]
      grind
    · simp [freezeBit, hg, modMem]
      grind

section
variable (g : Nat → Bool)

theorem freezeAll_leaves (l : List Nat) (s : State) : (freezeAll g l s).mem.cells = s.mem.cells ∧ (freezeAll g l s).errs = s.errs ∧
    (freezeAll g l s).arms = s.arms ∧ (freezeAll g l s).qps = s.qps := by
  induction l generalizing s with
  | nil => exact ⟨rfl, rfl, rfl, rfl⟩
  | cons u l ih =>
    obtain ⟨hcells, herrs, harms, hqps⟩ := ih (freezeBit (g u) u s)
    obtain ⟨hcells', herrs', harms', hqps'⟩ := freezeBit_leaves (g u) u s
    exact ⟨hcells.trans hcells', herrs.trans herrs', harms.trans harms', hqps.trans hqps'⟩

theorem mem_frozen_freezeAll (l : List Nat) (v : Nat) (s : State) : v ∈ (freezeAll g l s).mem.frozen ↔
    if v ∈ l then g v = true ∨ (v ∈ s.mem.frozen ∧ frozenForGood s v = true) else v ∈ s.mem.frozen := by
  induction l generalizing s with
  | nil => simp [freezeAll]
  | cons u l ih =>
    have hgood := frozenForGood_of_errs (freezeBit_leaves (g u) u s).2.1 v
    rw [show freezeAll g (u :: l) s = freezeAll g l (freezeBit (g u) u s) from rfl, ih, hgood, mem_frozen_freezeBit]
    grind

theorem mem_drained_freezeAll (l : List Nat) (v : Nat) (s : State) : v ∈ (freezeAll g l s).mem.drained ↔
    v ∈ s.mem.drained ∧ (v ∈ l → g v = true ∨ frozenForGood s v = true) := by
  induction l generalizing s with
  | nil => simp [freezeAll]
  | cons u l ih =>
    have hgood := frozenForGood_of_errs (freezeBit_leaves (g u) u s).2.1 v
    rw [show freezeAll g (u :: l) s = freezeAll g l (freezeBit (g u) u s) from rfl, ih, hgood, mem_drained_freezeBit]
    grind

end

theorem freezeSet_armed {s : State} {fn u : Nat} (hi : isInn s fn = true) (hu : u < 80) (ha : armed s 1 = true) :
    freezeSet fn u s = disarm 1 (freezeAll (freezeTo s u true) (freezeGroup u) s) := by
  rw [← freezeWrite_armed ha, freezeSet, if_neg (by simp [hi, hu])]

theorem freezeClear_armed {s : State} {fn u : Nat} (hi : isInn s fn = true) (hu : u < 80) (ha : armed s 1 = true) :
    freezeClear fn u s = disarm 1 (freezeAll (freezeTo s u false) (freezeGroup u) s) := by
  rw [← freezeWrite_armed ha, freezeClear, if_neg (by simp [hi, hu])]

/-- Setting one unit's FREEZE freezes that unit, and leaves every other as it was. -/
theorem mem_frozen_freezeAll_set (s : State) {u : Nat} (hu : u < 80) (v : Nat) :
    v ∈ (freezeAll (freezeTo s u true) (freezeGroup u) s).mem.frozen ↔ v = u ∨ v ∈ s.mem.frozen := by
  have hmem := mem_freezeGroup hu
  rw [mem_frozen_freezeAll]
  by_cases hv : v = u
  · simp [freezeTo, hv, hmem]
  · simp [freezeTo, hv]
    grind

theorem freezeSet_completes {s : State} (hl : Live s) {fn u : Nat} (hi : isInn s fn = true) (hu : u < 80) (ha : armed s 1 = true) :
    Completes (.freezeSet fn u) s fun t =>
      (∀ v, v ∈ t.mem.frozen ↔ v = u ∨ v ∈ s.mem.frozen) ∧ t.mem.cells = s.mem.cells ∧ t.arms = mdel s.arms 1 := by
  refine Completes.of_act rfl hl ?_
  obtain ⟨hcells, -, harms, -⟩ := freezeAll_leaves (freezeTo s u true) (freezeGroup u) s
  rw [freezeSet_armed hi hu ha]
  exact ⟨mem_frozen_freezeAll_set s hu, hcells, congrArg (mdel · 1) harms⟩

theorem unitDrained_completes {s : State} (hl : Live s) {u : Nat} (hu : u ∈ s.mem.frozen) :
    Completes (.unitDrained u) s fun t => u ∈ t.mem.drained ∧ t.mem.frozen = s.mem.frozen := by
  refine Completes.of_act rfl hl ?_
  rw [unitDrained, if_pos (List.contains_iff_mem.2 hu)]
  exact ⟨(mem_sadd _ _ _).2 (.inl rfl), rfl⟩

theorem freezeLong_completes {s : State} (hl : Live s) {u : Nat} (hu : u ∈ s.mem.frozen) (hn : u ∉ s.mem.frozenLong)
    (hr : reached (mget s.mem.frozenAt u 0 + 1600000#64) (elapsed s) = true) :
    Completes (.freezeLong u) s fun t => u ∈ t.mem.frozenLong ∧ t.mem.frozen = s.mem.frozen ∧ evBit t 1 1 = true := by
  refine Completes.of_act rfl hl ?_
  rw [freezeLong, if_pos (by rw [hr]; simp [hu, hn])]
  exact ⟨(mem_sadd _ _ _).2 (.inl rfl), rfl, ((Calm.refl True _).ledgerInn _).evBit (by decide) (evBit_raise (by decide) _ _)⟩

/-! ### What a unit held back goes on (R212, R214) -/

/-- What rings that write what they have held leave as it is. -/
def State.offRings (s : State) : List Nat × List Nat × NMap Word × NMap Qp := (s.mem.frozen, s.mem.drained, s.arms, s.qps)

theorem takeHeld_offRings (fn q : Nat) (s : State) : (takeHeld fn q s).offRings = s.offRings := by
  simp only [takeHeld]
  split
  · rfl
  · rfl

theorem takeResp_offRings (fn : Nat) (s : State) : (takeResp fn s).offRings = s.offRings := by
  simp only [takeResp]
  split
  · rfl
  · rfl

theorem foldl_offRings {α : Type} {f : State → α → State} (hf : ∀ u x, (f u x).offRings = u.offRings) (l : List α) (s : State) :
    (l.foldl f s).offRings = s.offRings := by
  induction l generalizing s with
  | nil => rfl
  | cons x l ih => exact (ih (f s x)).trans (hf s x)

theorem drainRings_offRings (s : State) : (drainRings s).offRings = s.offRings :=
  (foldl_offRings (fun u (p : Nat × Func) => takeResp_offRings p.1 u) _ _).trans (foldl_offRings (fun u (p : Nat × Queue) => takeHeld_offRings (p.1 / 4096) (p.1 % 4096) u) _ s)

/-- Where nothing waits at a queue pair, none tries again. -/
theorem retryQps_idle {s : State} (h : ∀ q ∈ s.qps, q.2.deferred = []) : retryQps s = s := by
  have hnone : s.qps.filter (fun p => !p.2.deferred.isEmpty) = [] := List.filter_eq_nil_iff.2 fun q hq => by simp [h q hq]
  rw [retryQps, hnone]
  rfl

theorem freezeClear_completes {s : State} (hl : Live s) {fn u : Nat} (hi : isInn s fn = true) (hu : u < 80) (ha : armed s 1 = true)
    (hg : frozenForGood s u = false) (hq : ∀ q ∈ s.qps, q.2.deferred = []) :
    Completes (.freezeClear fn u) s fun t => u ∉ t.mem.frozen ∧ u ∉ t.mem.drained ∧ t.arms = mdel s.arms 1 := by
  refine Completes.of_act (l := transfers ++ [.arms, .windows, .porch]) (f := fun s => retryQps (drainRings (freezeClear fn u s))) rfl hl ?_
  obtain ⟨-, -, harms, hqps⟩ := freezeAll_leaves (freezeTo s u false) (freezeGroup u) s
  have hoff := drainRings_offRings (freezeClear fn u s)
  simp only [State.offRings, Prod.mk.injEq] at hoff
  obtain ⟨hfrozen', hdrained', harms', hqps'⟩ := hoff
  rw [freezeClear_armed hi hu ha] at hfrozen' hdrained' harms' hqps' ⊢
  rw [retryQps_idle (by rw [hqps']; exact fun q hm => hq q (hqps ▸ hm))]
  refine ⟨fun hm => ?_, fun hm => ?_, harms'.trans (congrArg (mdel · 1) harms)⟩
  · have := (mem_frozen_freezeAll _ _ _ _).1 (hfrozen' ▸ hm)
    simp [mem_freezeGroup hu, freezeTo, hg] at this
  · have := (mem_drained_freezeAll _ _ _ _).1 (hdrained' ▸ hm)
    simp [mem_freezeGroup hu, freezeTo, hg] at this

/-! ### Downstream ports (R165, R168, R169) -/

@[simp] theorem mget_modDs (d : Nat) (f : DsPort → DsPort) (s : State) : mget (modDs d f s).ds d {} = f (mget s.ds d {}) := mget_mmod_self _ _ _ _

theorem dsPortEnumerate_completes {s : State} (hl : Live s) {d : Nat} (hd : d < 4) (hs : (mget s.ds d {}).st = 1) (cap : Nat) :
    Completes (.dsPortEnumerate d 2 cap) s fun t => (mget t.ds d {}).st = 2 ∧ (mget t.ds d {}).capacity = cap := by
  refine Completes.of_act rfl hl ?_
  have hup : Calm True (modDs d (fun p => { p with st := 2, capacity := cap }) s) (dsPortEnumerate d 2 cap s) := by
    rw [dsPortEnumerate, if_neg (by simp [hd, hs])]
    exact (calm_ite _ _ _).2 (by split <;> simp)
  have hsetup := hup.ds d
  rw [mget_modDs] at hsetup
  exact ⟨(congrArg DsPort.st hsetup :), (congrArg DsPort.capacity hsetup :)⟩

theorem dsLinkFail_completes {s : State} (hl : Live s) {d : Nat} (hs : (mget s.ds d {}).st = 2) (ho : (mget s.ds d {}).offline = false) (poison : Bool) :
    Completes (.dsLinkFail d poison) s fun t =>
      (mget t.ds d {}).st = (if poison then 2 else 3) ∧ (mget t.ds d {}).offline = true ∧ evBit t 1 3 = true := by
  refine Completes.of_act rfl hl ?_
  have hdown : Calm True (raise 1 3 (modDs d (fun p => { p with st := if poison then 2 else 3, offline := true }) s)) (dsLinkFail d poison s) := by
    rw [dsLinkFail, if_pos hs, ho]
    exact (Calm.refl _ _).ledgerInn _
  have hsetup := hdown.ds d
  rw [raise_ds, mget_modDs] at hsetup
  exact ⟨(congrArg DsPort.st hsetup :), (congrArg DsPort.offline hsetup :), hdown.evBit (by decide) (evBit_raise (by decide) _ _)⟩

theorem dsLinkReturn_completes {s : State} (hl : Live s) {d : Nat} (hs : (mget s.ds d {}).st = 3) :
    Completes (.dsLinkReturn d) s fun t => (mget t.ds d {}).st = 2 ∧ (mget t.ds d {}).offline = (mget s.ds d {}).offline := by
  refine Completes.of_act rfl hl ?_
  have hup : (keep [.ds] s (dsLinkReturn d s)).ds = (modDs d (fun p => { p with st := 2 }) s).ds := by
    rw [dsLinkReturn, if_pos hs]
    rfl
  rw [hup, mget_modDs]
  exact ⟨rfl, rfl⟩

/-- A port that found no expander trains again; any other is Up, with its extents online (R169). -/
theorem dsEnableCycle_ds {s : State} {d : Nat} (hd : d < 4) (hon : (mget s.doms (112 + d) {}).st = 2) :
    if (mget s.ds d {}).st = 0 ∨ (mget s.ds d {}).st = 1 ∨ (mget s.ds d {}).st = 4 then (mget (dsEnableCycle d true s).ds d {}).st = 1
    else (mget (dsEnableCycle d true s).ds d {}).st = 2 ∧ (mget (dsEnableCycle d true s).ds d {}).offline = false := by
  have hgo : (decide (4 ≤ d) || !true || decide ((mget s.doms (112 + d) {}).st ≠ 2)) = false := by
    rw [hon]
    simpa using hd
  simp only [dsEnableCycle, hgo, Bool.false_eq_true, if_false]
  split
  · next hc =>
    obtain h | h | h := hc
    · simp [h]
    · simp [h]
    · simp [h]
  · next hc =>
    obtain ⟨h0, h1, h4⟩ := by simpa only [not_or] using hc
    split
    · next h => exact absurd h h0
    · next h => exact absurd h h1
    · next h => exact absurd h h4
    · rw [mget_modDs]
      exact ⟨rfl, rfl⟩

theorem dsEnableCycle_completes {s : State} (hl : Live s) {d : Nat} (hd : d < 4) (hon : (mget s.doms (112 + d) {}).st = 2) :
    Completes (.dsEnableCycle d true) s fun t =>
      if (mget s.ds d {}).st = 0 ∨ (mget s.ds d {}).st = 1 ∨ (mget s.ds d {}).st = 4 then (mget t.ds d {}).st = 1
      else (mget t.ds d {}).st = 2 ∧ (mget t.ds d {}).offline = false :=
  Completes.of_act rfl hl (dsEnableCycle_ds hd hon)

/-- Settles O12, event by event. -/
theorem unitsFreezeAndExpandersComeAndGo : Obligations.UnitsFreezeAndExpandersComeAndGo := by
  unfold Obligations.UnitsFreezeAndExpandersComeAndGo
  refine ⟨?_, ?_, ?_, ?_, ?_, ?_, ?_, ?_⟩
  · exact fun s fn u hl hi hu ha _ => freezeSet_completes hl hi hu ha
  · exact fun s u hl hu => unitDrained_completes hl hu
  · exact fun s u hl hu hn hr => freezeLong_completes hl hu hn hr
  · exact fun s fn u hl hi hu ha hg hq => freezeClear_completes hl hi hu ha hg hq
  · exact fun s d cap hl hd hs => dsPortEnumerate_completes hl hd hs cap
  · exact fun s d poison hl hs ho => dsLinkFail_completes hl hs ho poison
  · exact fun s d hl hs => dsLinkReturn_completes hl hs
  · exact fun s d hl hd hon => dsEnableCycle_completes hl hd hon

end Sys2Proof.Machine

/-! ## Host links: training, HOLD, resumption, loss and resets -/

namespace Sys2Proof.Machine

open Sys2Proof

section
variable {s : State} {p : Nat}

/-! ### Training (R121, R133, R156, R170) -/

/-- A host port as it comes UP. -/
def HostPort.trained (h : HostPort) (rate width : Nat) (flit cxl : Bool) (cfg : HostCfg) : HostPort :=
  { h with
    st := .up, rate := rate, width := width, flit := flitAt rate flit, cxl := cxl, degraded := linkDegraded rate width,
    held := [], winEnable := false, winBusy := false, shared := [], vfEnable := false, numVfs := 0,
    mps := cfg.mps, mrrs := cfg.mrrs, lowLatency := cxl && decide (6 ≤ rate) && cfg.lowLatency, hdm := if cxl then cfg.hdm else none }

/-- A port in Detect that trains within its limits, and what it reports. -/
theorem hostLinkUp_trains {rate width : Nat} {flit cxl : Bool} {cfg : HostCfg} (hp : p < 8) (hd : (hport s p).st = .down)
    (hdet : (hport s p).detect = true) (hdom : (mget s.doms (104 + p) {}).st = 2) (hlc : lcLases s = true) (hr : rate ≠ 0)
    (hmax : rate ≤ obj s 0x2002 (p + 1) 7) (hw : widthOk width = true) {on : Bool} (hon : on = (objF s 0x2000 (p + 1) 0 == 1 && cxl && decide (5 ≤ rate)))
    {u : State} (hu : u = modFunc (fnOf p 0) (fun f => { f with enabled := s.power.started, cfg := cfg, msgs := [], masked := [], pend := [] })
      (modHport p (fun h => h.trained rate width flit on cfg) s)) :
    hostLinkUp p rate width flit cxl cfg s = if objF s 0x2000 (p + 1) 0 == 1 && !on then raise (16 + p) 5 u else u := by
  rw [hostLinkUp, if_neg (by simp [hd, hdet, hdom, hlc, hp]), if_neg (by simp [hr, hmax, hw]), hon, hu, hon]
  rfl

theorem hostLinkUp_completes (hl : Live s) {rate width : Nat} {flit cxl : Bool} {cfg : HostCfg} (hp : p < 8) (hd : (hport s p).st = .down)
    (hdet : (hport s p).detect = true) (hdom : (mget s.doms (104 + p) {}).st = 2) (hlc : lcLases s = true) (hr : rate ≠ 0)
    (hmax : rate ≤ obj s 0x2002 (p + 1) 7) (hw : widthOk width = true) :
    Completes (.hostLinkUp p rate width flit cxl cfg) s fun t =>
      (hport t p).st = .up ∧ (hport t p).rate = rate ∧ (hport t p).width = width ∧ (hport t p).flit = (decide (6 ≤ rate) || (rate == 5 && flit)) ∧
      (hport t p).cxl = (decide (objF s 0x2000 (p + 1) 0 = 1) && cxl && decide (5 ≤ rate)) ∧
      ((objF s 0x2000 (p + 1) 0 = 1 ∧ (hport t p).cxl = false) → evBit t (16 + p) 5 = true) ∧
      (hport t p).degraded = (decide (rate < 5) || decide (width < 16)) ∧ (hport t p).mps = cfg.mps ∧ (hport t p).mrrs = cfg.mrrs ∧
      (func t (fnOf p 0)).enabled = s.power.started ∧ (func t (fnOf p 0)).cfg = cfg ∧ ∀ q, q ≠ p → (hport t q).st = (hport s q).st := by
  refine Completes.of_act rfl hl ?_
  obtain ⟨on, hon⟩ : ∃ on, on = (objF s 0x2000 (p + 1) 0 == 1 && cxl && decide (5 ≤ rate)) := ⟨_, rfl⟩
  obtain ⟨u, hu⟩ : ∃ u, u = modFunc (fnOf p 0) (fun f => { f with enabled := s.power.started, cfg := cfg, msgs := [], masked := [], pend := [] })
      (modHport p (fun h => h.trained rate width flit on cfg) s) := ⟨_, rfl⟩
  obtain ⟨t, ht⟩ : ∃ t, t = hostLinkUp p rate width flit cxl cfg s := ⟨_, rfl⟩
  have htrain := hostLinkUp_trains (cxl := cxl) (flit := flit) (cfg := cfg) hp hd hdet hdom hlc hr hmax hw hon hu
  have hcalm : Calm False u t := by
    rw [ht, htrain]
    exact (Calm.refl False u).ite_raise _ _ _
  have hport : (hport u p) = (hport s p).trained rate width flit on cfg := by rw [hu, modFunc_hport, hport_modHport]
  have hlink : (Machine.hport t p).link = ((Machine.hport s p).trained rate width flit on cfg).link := by rw [hcalm.link, hport]
  have hsetup : (func t (fnOf p 0)).setup = (func u (fnOf p 0)).setup := hcalm.setup _
  rw [hu, func_modFunc] at hsetup
  rw [← ht]
  have hcxl : (Machine.hport t p).cxl = on := (congrArg HostPort.cxl hlink :)
  refine ⟨(congrArg HostPort.st hlink :), (congrArg HostPort.rate hlink :), (congrArg HostPort.width hlink :), (congrArg HostPort.flit hlink :),
    hcxl.trans hon, fun hfall => ?_, (congrArg HostPort.degraded hlink :), (congrArg HostPort.mps hlink :), (congrArg HostPort.mrrs hlink :),
    (congrArg Func.enabled hsetup :), (congrArg Func.cfg hsetup :), fun q hq => ?_⟩
  · obtain ⟨hwant, hoff⟩ := hfall
    have hoff' : on = false := hcxl.symm.trans hoff
    have hraised : t = raise (16 + p) 5 u := by rw [ht, htrain, if_pos (by simp [hwant, hoff'])]
    exact (congrArg (evBit · (16 + p) 5) hraised).trans (evBit_raise (by decide) _ _)
  · have hother := hcalm.hport_st q
    rw [hu, modFunc_hport, hport_modHport_ne hq] at hother
    exact hother

/-! ### HOLD, and its end (R133, R156) -/

theorem hport_markHeld (s : State) (q : Nat) : hport (markHeld s) q = hport s q := rfl

theorem retrainHeld_completes (hl : Live s) (hup : (hport s p).st = .up) :
    Completes (.retrainHeld p) s fun t =>
      (hport t p).st = .hold ∧ counter t (0x280020 + 0x1000 * p) = counter s (0x280020 + 0x1000 * p) + 1 ∧ evBit t (16 + p) 0 = true := by
  refine Completes.of_act rfl hl ?_
  obtain ⟨u, hu⟩ : ∃ u, u = markHeld (modHport p (fun h => { h with st := .hold }) s) := ⟨_, rfl⟩
  obtain ⟨v, hv⟩ : ∃ v, v = if u.windows = s.windows then u else raise 3 1 u := ⟨_, rfl⟩
  have hheld : retrainHeld p s = raise (16 + p) 0 (bump (hpBase p + 0x20) v) := by rw [retrainHeld, if_pos hup, hv, hu]
  have hcalm : Calm False u (retrainHeld p s) := by
    rw [hheld, hv]
    exact Calm.raise ((calm_bump _).2 (by split <;> simp)) _ _
  have hport : (hport u p).st = .hold := by
    rw [hu, hport_markHeld, hport_modHport]
  have hcnt : v.cnt = s.cnt := by
    rw [hv]
    split
    · rw [hu]
      rfl
    · rw [hu]
      rfl
  refine ⟨(hcalm.hport_st p).trans hport, ?_, ?_⟩
  · have hcounter : counter (bump (hpBase p + 0x20) v) (hpBase p + 0x20) = counter s (hpBase p + 0x20) + 1 := by
      rw [counter_bump, counter, hcnt, counter]
    rw [show 0x280020 + 0x1000 * p = hpBase p + 0x20 by rw [hpBase]; omega]
    exact (congrArg (counter · (hpBase p + 0x20)) hheld).trans hcounter
  · exact (congrArg (evBit · (16 + p) 0) hheld).trans (evBit_raise (by decide) _ _)

theorem hport_of_hports {t u : State} (h : u.hports = t.hports) (q : Nat) : hport u q = hport t q := by rw [hport, hport, h]

/-- A port that is not in HOLD keeps no message. -/
theorem hport_msix (h : (hport s p).st ≠ .hold) (fn v : Nat) : hport (msix fn v s) p = hport s p := by
  by_cases hm : (func s fn).masked.contains v = true
  · exact hport_of_hports (if_pos hm) p
  · cases hst : (hport s (fnPort fn)).st with
    | hold =>
      have hne : p ≠ fnPort fn := fun hp => h (hp ▸ hst)
      have hkept : (msix fn v s).hports = (modHport (fnPort fn) (fun x => { x with held := x.held ++ [.msix fn v] }) s).hports :=
        (if_neg hm).trans (by rw [hst]; rfl)
      exact (hport_of_hports hkept p).trans (hport_modHport_ne hne _ s)
    | up => exact hport_of_hports ((if_neg hm).trans (by rw [hst])) p
    | down => exact hport_of_hports ((if_neg hm).trans (by rw [hst])) p

theorem hport_hostWrite (h : (hport s p).st ≠ .hold) (q a : Nat) (d : List Byte) (ro : Bool) : hport (hostWrite q a d ro s) p = hport s p := by
  cases hst : (hport s q).st with
  | hold =>
    have hne : p ≠ q := fun hp => h (hp ▸ hst)
    have hkept : (hostWrite q a d ro s).hports = (modHport q (fun x => { x with held := x.held ++ [.write a d ro] }) s).hports := by
      rw [hostWrite, hst]
      rfl
    exact (hport_of_hports hkept p).trans (hport_modHport_ne hne _ s)
  | up => exact hport_of_hports (by rw [hostWrite, hst]) p
  | down => exact hport_of_hports (by rw [hostWrite, hst]) p

theorem hport_ite_msix (h : (hport s p).st ≠ .hold) (c : Bool) (fn v : Nat) : hport (if c then msix fn v s else s) p = hport s p := by
  split
  · exact hport_msix h fn v
  · rfl

theorem hport_raise (h : (hport s p).st ≠ .hold) (b i : Nat) : hport (raise b i s) p = hport s p := by
  obtain ⟨u, hu⟩ : ∃ u : State, u = { s with events := mset s.events b (evNext (evReg s b) i) } := ⟨_, rfl⟩
  have hport : hport u p = hport s p := by rw [hu]; rfl
  have hfirst := (hport_ite_msix (hport ▸ h) (irqOn s b && !evAny (evReg s b)) (innFn s) (wfld (rd s 0x200018 0) 10 0)).trans hport
  have hsecond := (hport_ite_msix (hfirst ▸ h) (b = 10 && !evBit s b i) (innFn s) (wfld (rd s 0x500008 0) 10 0)).trans hfirst
  rw [hu] at hsecond
  exact hsecond

theorem hport_replay (h : (hport s p).st ≠ .hold) (x : Held) : hport (replay p x s) p = hport s p := by
  cases x with
  | write a d ro => exact hport_hostWrite h p a d ro
  | msix fn v => rfl
  | invalidation fn tag => rfl

theorem replay_qps (x : Held) : (replay p x s).qps = s.qps := by
  cases x with
  | write a d ro => rfl
  | msix fn v => rfl
  | invalidation fn tag => rfl

/-- What goes onto the link behind the end of HOLD leaves the port, and every queue pair. -/
theorem replays_leave (h : (hport s p).st ≠ .hold) (l : List Held) :
    hport (l.foldl (fun s x => replay p x s) s) p = hport s p ∧ (l.foldl (fun s x => replay p x s) s).qps = s.qps := by
  induction l generalizing s with
  | nil => exact ⟨rfl, rfl⟩
  | cons x l ih =>
    have hx := hport_replay h x
    obtain ⟨hport, hqps⟩ := ih (s := replay p x s) (hx ▸ h)
    exact ⟨hport.trans hx, hqps.trans (replay_qps x)⟩

theorem ite_raise_leaves (h : (hport s p).st ≠ .hold) (c : Prop) [Decidable c] (b i : Nat) :
    hport (if c then raise b i s else s) p = hport s p ∧ (if c then raise b i s else s).qps = s.qps := by
  split
  · exact ⟨hport_raise h b i, rfl⟩
  · exact ⟨rfl, rfl⟩

/-- A host port as it leaves HOLD. -/
def HostPort.resumed (h : HostPort) (rate width : Nat) (flit : Bool) : HostPort :=
  { h with
    st := .up, rate := rate, width := width, flit := flitAt rate flit, cxl := h.cxl && decide (5 ≤ rate),
    lowLatency := h.lowLatency && decide (6 ≤ rate), degraded := linkDegraded rate width, held := [] }

theorem retrainResumed_resumes {rate width : Nat} {flit : Bool} (hh : (hport s p).st = .hold) (hr : rate ≠ 0) (hmax : rate ≤ obj s 0x2002 (p + 1) 7)
    (hw : widthOk width = true) : ∃ u, retrainResumed p rate width flit s = raise (16 + p) 1 u ∧
      hport u p = (hport s p).resumed rate width flit ∧ u.qps = s.qps := by
  obtain ⟨u, hu⟩ : ∃ u, u = modHport p (fun h => h.resumed rate width flit) s := ⟨_, rfl⟩
  obtain ⟨v, hv⟩ : ∃ v, v = wallReads p ((hport s p).held.foldl (fun s x => replay p x s) u) := ⟨_, rfl⟩
  have hport_u : hport u p = (hport s p).resumed rate width flit := by rw [hu, hport_modHport]
  have hnot {t : State} (ht : hport t p = hport u p) : (hport t p).st ≠ .hold := by
    rw [ht, hport_u]
    exact nofun
  obtain ⟨hreplay, hqps⟩ := replays_leave (hnot rfl) (hport s p).held
  have hport_v : hport v p = hport u p := by rw [hv, ← hreplay]; rfl
  have hqps_v : v.qps = s.qps := by
    rw [hv]
    exact hqps.trans (by rw [hu]; rfl)
  obtain ⟨hport3, hqps3⟩ := ite_raise_leaves (hnot hport_v) (rate ≠ (hport s p).rate || width ≠ (hport s p).width) (16 + p) 6
  obtain ⟨hport4, hqps4⟩ := ite_raise_leaves (hnot (hport3.trans hport_v)) ((hport s p).cxl && decide (rate < 5)) (16 + p) 5
  refine ⟨_, ?_, hport4.trans (hport3.trans (hport_v.trans hport_u)), hqps4.trans (hqps3.trans hqps_v)⟩
  rw [retrainResumed, if_pos (by simp [hh, hr, hmax, hw]), hv, hu]
  rfl

theorem retrainResumed_completes (hl : Live s) {rate width : Nat} {flit : Bool} (hh : (hport s p).st = .hold) (hr : rate ≠ 0)
    (hmax : rate ≤ obj s 0x2002 (p + 1) 7) (hw : widthOk width = true) (hq : ∀ q ∈ s.qps, q.2.deferred = []) :
    Completes (.retrainResumed p rate width flit) s fun t =>
      (hport t p).st = .up ∧ (hport t p).rate = rate ∧ (hport t p).width = width ∧ (hport t p).held = [] ∧
      (hport t p).cxl = ((hport s p).cxl && decide (5 ≤ rate)) ∧ evBit t (16 + p) 1 = true := by
  refine Completes.of_act (l := transfers ++ [.windows, .porch]) (f := fun s => retryQps (retrainResumed p rate width flit s)) rfl hl ?_
  obtain ⟨u, hresumed, hport_u, hqps⟩ := retrainResumed_resumes (flit := flit) hh hr hmax hw
  have hup : (hport u p).st ≠ .hold := by
    rw [hport_u]
    exact nofun
  have hport : hport (raise (16 + p) 1 u) p = (hport s p).resumed rate width flit := (hport_raise hup _ _).trans hport_u
  rw [hresumed, retryQps_idle (by rw [raise_qps, hqps]; exact hq)]
  exact ⟨(congrArg HostPort.st hport :), (congrArg HostPort.rate hport :), (congrArg HostPort.width hport :), (congrArg HostPort.held hport :),
    (congrArg HostPort.cxl hport :), evBit_raise (by decide) _ _⟩

/-! ### Loss and resets (R156, R1097) -/

/-- The loss actions on a port leave it DOWN, its pins as they are. -/
theorem portDown_port (p bit : Nat) (s : State) : (hport (portDown p bit s) p).st = .down ∧ (hport (portDown p bit s) p).perst = (hport s p).perst := by
  have hdowned (f : HostPort → HostPort) (hf : (f (hport s p)).st = .down ∧ (f (hport s p)).perst = (hport s p).perst) (g : NMap Func) :
      (hport { modHport p f (skipWalls p s) with funcs := g } p).st = .down ∧
        (hport { modHport p f (skipWalls p s) with funcs := g } p).perst = (hport s p).perst := by
    have hport : hport { modHport p f (skipWalls p s) with funcs := g } p = f (hport s p) := hport_modHport p f (skipWalls p s)
    rw [hport]
    exact hf
  obtain ⟨u, hport, v, hsteady, hv⟩ : ∃ u, ((hport u p).st = .down ∧ (hport u p).perst = (hport s p).perst) ∧
      ∃ v, Framed u v ∧ portDown p bit s = lossRecord p none (some bit) (raise (16 + p) bit v) :=
    ⟨_, hdowned _ ⟨rfl, rfl⟩ _, _, Framed.foldl (Framed.refl _) (fun t rm => (framed_muteDesk (room t rm).fn t).trans
      ((Calm.refl False (muteDesk (room t rm).fn t)).lossRoom rm 1 (decide (fnSlot (room t rm).fn ≠ 0))).framed) _, rfl⟩
  have hall : Framed u (portDown p bit s) := hsteady.trans (hv ▸ (((Calm.refl False v).raise _ _).lossRecord p none _).framed)
  exact ⟨(hall.port HostPort.st (fun _ => rfl) p).trans hport.1, (hall.port HostPort.perst (fun _ => rfl) p).trans hport.2⟩

theorem linkLost_completes (hl : Live s) (hh : (hport s p).st = .hold) : Completes (.linkLost p) s fun t => (hport t p).st = .down := by
  refine Completes.of_act rfl hl ?_
  rw [linkLost, if_pos hh]
  exact (portDown_port p 2 _).1

theorem hotReset_completes (hl : Live s) (hd : (hport s p).st ≠ .down) : Completes (.hotReset p) s fun t => (hport t p).st = .down := by
  refine Completes.of_act rfl hl ?_
  rw [hotReset, if_neg hd]
  exact (portDown_port p 4 s).1

theorem perst_port (hp : p < 8) (hn : (hport s p).perst = false) : (hport (perst p s) p).st = .down ∧ (hport (perst p s) p).perst = true := by
  obtain ⟨u, hu⟩ : ∃ u, u = portReset p (inputAccepted (p + 1) (modHport p (fun h => { h with perst := true, detect := false }) s)) := ⟨_, rfl⟩
  have hport : Machine.hport u p = { Machine.hport s p with perst := true, detect := false } := by
    have hput : Machine.hport u p = Machine.hport (modHport p (fun h => { h with perst := true, detect := false }) s) p := by
      rw [hu]
      rfl
    rw [hput, hport_modHport]
  have hperst : perst p s = if (Machine.hport s p).st = .down then u else portDown p 3 u := by
    rw [hu, perst, if_neg (by simp [hn, hp])]
  rw [hperst]
  split
  · next hd =>
    rw [hport]
    exact ⟨hd, rfl⟩
  · obtain ⟨hdown, hpin⟩ := portDown_port p 3 u
    exact ⟨hdown, hpin.trans (by rw [hport])⟩

/-- A pin's command acts by its own effect where the block serves commands. -/
theorem Live.acts (hl : Live s) (a b : State) : (if s.errs.fatal || unpowered s then a else b) = b := if_neg (by simp [hl.1, hl.2.1])

theorem perst_completes (hl : Live s) (hp : p < 8) (hn : (hport s p).perst = false) :
    Completes (.perst p) s fun t => (hport t p).st = .down ∧ (hport t p).perst = true := by
  refine ⟨_, rfl, ?_⟩
  rw [hl.acts]
  exact perst_port hp hn

theorem perstRelease_completes (hl : Live s) (hp : p < 8) (hdom : (mget s.doms (104 + p) {}).st = 2) :
    Completes (.perstRelease p) s fun t => (hport t p).perst = false ∧ (hport t p).detect = true := by
  refine ⟨_, rfl, ?_⟩
  rw [hl.acts, perstRelease, if_neg (by omega)]
  obtain ⟨g, hg⟩ : ∃ g : HostPort → HostPort, g = fun h => { h with perst := false, detect := h.detect || decide ((mget s.doms (104 + p) {}).st = 2) } :=
    ⟨_, rfl⟩
  have hport : hport (modHport p g s) p = { hport s p with perst := false, detect := true } := by
    rw [hport_modHport, hg]
    simp [hdom]
  rw [hg] at hport
  exact ⟨(congrArg HostPort.perst hport :), (congrArg HostPort.detect hport :)⟩

end

/-- Settles O5, clause by clause; loss and resets by `portDown_port`: nothing of the loss actions brings a port up again. -/
theorem hostLinksComeAndGo : Obligations.HostLinksComeAndGo :=
  ⟨fun _ _ _ _ _ _ _ hl hp hd hdet hdom hlc hr hmax hw => hostLinkUp_completes hl hp hd hdet hdom hlc hr hmax hw,
    fun _ _ hl hup => retrainHeld_completes hl hup,
    fun _ _ _ _ _ hl hh hr hmax hw hq => retrainResumed_completes hl hh hr hmax hw hq,
    fun _ _ hl hh => linkLost_completes hl hh,
    fun _ _ hl hp hn => perst_completes hl hp hn,
    fun _ _ hl hd => hotReset_completes hl hd,
    fun _ _ hl hp hdom => perstRelease_completes hl hp hdom⟩

end Sys2Proof.Machine

/-! ## Function-level reset, and virtual functions -/

namespace Sys2Proof.Machine

open Sys2Proof

section
variable {s : State}

/-! ### Rooms through the loss actions (R160, R893) -/

theorem muteDesk_rooms (fn : Nat) (s : State) : (muteDesk fn s).rooms = s.rooms := by
  rw [muteDesk]
  split
  · rfl
  · rfl
  · rfl

theorem room_of_rooms {t u : State} (h : u.rooms = t.rooms) (r : Nat) : room u r = room t r := by rw [room, room, h]

theorem roomOf_of_rooms {t u : State} (h : u.rooms = t.rooms) (fn : Nat) : roomOf u fn = roomOf t fn := by rw [roomOf, roomOf, h]

theorem lossRecord_rooms (p : Nat) (rm bit : Option Nat) (s : State) : (lossRecord p rm bit s).rooms = s.rooms := by
  simp only [lossRecord, ledgerInn_rooms]
  split
  · rfl
  · rfl

/-- An OPEN room that is not removed is quarantined with the cause it is given. -/
theorem room_lossRoom {rm cause : Nat} {gone : Bool} (ho : (room s rm).st = .opened) (hr : (room s rm).removing = false) :
    (room (lossRoom rm cause gone s) rm).st = .quarantined ∧ (room (lossRoom rm cause gone s) rm).qcause = cause := by
  have hroom : room (lossRoom rm cause gone s) rm =
      { room (lossFn (room s rm).fn s) rm with st := .quarantined, qcause := cause, gone := gone } := by
    simp [lossRoom, quarantine, ho, hr]
  rw [hroom]
  exact ⟨rfl, rfl⟩

/-! ### Function-level reset (R160) -/

theorem flr_completes {fn : Nat} (hl : Live s) (he : (func s fn).enabled = true) (hup : (hport s (fnPort fn)).st = .up) :
    Completes (.flr fn) s fun t =>
      (func t fn).enabled = true ∧ (func t fn).cfg = {} ∧ (func t fn).masked = [] ∧ (func t fn).msgs = [] ∧
      ∀ rm, roomOf s fn = some rm → (room s rm).st = .opened → (room s rm).removing = false →
        (room t rm).st = .quarantined ∧ (room t rm).qcause = 2 := by
  refine Completes.of_act rfl hl ?_
  obtain ⟨u, hu⟩ : ∃ u, u = modFunc fn resetCfg (muteDesk fn s) := ⟨_, rfl⟩
  obtain ⟨v, hv⟩ : ∃ v, v = raise (16 + fnPort fn) 7 u := ⟨_, rfl⟩
  obtain ⟨t, ht⟩ : ∃ t, t = flr fn s := ⟨_, rfl⟩
  have hflr : t = match roomOf s fn with
      | some rm => lossRecord (fnPort fn) (some rm) (some 7) (lossRoom rm 2 false v)
      | none => v := by
    rw [ht, hv, hu]
    exact if_neg (by simp [he, hup])
  have hrooms : v.rooms = s.rooms := by rw [hv, raise_rooms, hu, modFunc_rooms, muteDesk_rooms]
  have hcalm : Calm False u t := by
    rw [hflr, hv]
    split
    · exact (((Calm.refl False u).raise _ _).lossRoom _ _ _).lossRecord _ _ _
    · exact (Calm.refl False u).raise _ _
  have hsetup := hcalm.setup fn
  rw [hu, func_modFunc] at hsetup
  have henabled : (func (muteDesk fn s) fn).enabled = true := ((framed_muteDesk fn s).fn Func.enabled (fun _ => rfl) fn).trans he
  rw [← ht]
  refine ⟨(congrArg Func.enabled hsetup :).trans henabled, (congrArg Func.cfg hsetup :), (congrArg Func.masked hsetup :),
    (congrArg Func.msgs hsetup :), fun rm hrm ho hr => ?_⟩
  have hroom := room_of_rooms hrooms rm
  have hlost := room_lossRoom (s := v) (cause := 2) (gone := false) (by rw [hroom]; exact ho) (by rw [hroom]; exact hr)
  have htroom : room t rm = room (lossRoom rm 2 false v) rm := room_of_rooms (by rw [hflr, hrm, lossRecord_rooms]) rm
  exact (congrArg (fun r : Room => r.st = .quarantined ∧ r.qcause = 2) htroom).mpr hlost

/-! ### Virtual functions that cease (R885) -/

/-- The PF's SR-IOV capability shows its port's VF Enable and NumVFs. -/
theorem cfgValue_sriov (s : State) (p : Nat) :
    cfgValue s (fnOf p 0) .numVfs = (hport s p).numVfs ∧ cfgValue s (fnOf p 0) .vfEnable = b2n (hport s p).vfEnable := by
  have hslot : fnSlot (fnOf p 0) = 0 := by simp [fnSlot, fnOf]
  have hport : fnPort (fnOf p 0) = p := by simp [fnPort, fnOf]
  simp [cfgValue, hslot, hport]

theorem frame_cease (fn p : Nat) (s : State) : (hport (cease fn s) p).frame = (hport s p).frame := by
  obtain ⟨u, hu⟩ : ∃ u, u = modFunc fn (fun f => { resetCfg f with enabled := false }) (muteDesk fn s) := ⟨_, rfl⟩
  have hcalm : Calm False u (cease fn s) := by
    simp only [cease, ← hu]
    split
    · split
      · exact Calm.refl False u
      · exact ((Calm.refl False u).lossRoom _ _ _).lossRecord _ _ _
    · exact Calm.refl False u
  rw [hcalm.framed.1, hu, modFunc_hport]
  exact (framed_muteDesk fn s).1 p

theorem frame_ceaseAbove (p n q : Nat) (s : State) : (hport (ceaseAbove p n s) q).frame = (hport s q).frame := by
  rw [ceaseAbove]
  generalize (List.range 65).filter _ = l
  induction l generalizing s with
  | nil => rfl
  | cons v l ih => exact (ih _).trans (frame_cease _ _ _)

theorem vfDisable_completes {p n : Nat} (hl : Live s) (he : (hport s p).vfEnable = true) (hn : n < (hport s p).numVfs) :
    Completes (.vfDisable p n) s fun t => (hport t p).numVfs = n ∧ (hport t p).vfEnable = decide (n ≠ 0) ∧
      cfgValue t (fnOf p 0) .numVfs = n ∧ cfgValue t (fnOf p 0) .vfEnable = b2n (decide (n ≠ 0)) := by
  refine Completes.of_act rfl hl ?_
  obtain ⟨t, ht⟩ : ∃ t, t = keep losses s (vfDisable p n s) := ⟨_, rfl⟩
  have hframe : (hport t p).frame = HostPort.frame { hport s p with vfEnable := decide (n ≠ 0), numVfs := n } := by
    rw [ht, vfDisable, if_neg (by simp [he, hn])]
    exact (frame_ceaseAbove _ _ _ _).trans (congrArg HostPort.frame (hport_modHport _ _ _))
  have hnum : (hport t p).numVfs = n := (congrArg HostPort.numVfs hframe :)
  have hon : (hport t p).vfEnable = decide (n ≠ 0) := (congrArg HostPort.vfEnable hframe :)
  obtain ⟨hcnum, hcon⟩ := cfgValue_sriov t p
  rw [← ht]
  exact ⟨hnum, hon, hcnum.trans hnum, hcon.trans (by rw [hon])⟩

end

/-! ### Virtual functions that become enabled (R881) -/

/-- The first entry of a table that a test takes, after one entry is set to a value that passes where the old one did. -/
theorem find?_mset {α : Type} {t : α → Bool} {k : Nat} {v d : α} {m : NMap α} (hkeep : t (mget m k d) = true → t v = true) {x : Nat × α}
    (hx : (mset m k v).find? (fun p => t p.2) = some x) : x.1 = k ∨ m.find? (fun p => t p.2) = some x := by
  induction m with
  | nil =>
    have hmem : x ∈ [(k, v)] := List.mem_of_find?_eq_some hx
    exact .inl (by rw [List.mem_singleton.1 hmem])
  | cons y r ih =>
    obtain ⟨j, w⟩ := y
    by_cases hlt : k < j
    · rw [mset, if_pos hlt, List.find?_cons] at hx
      split at hx
      · cases hx
        exact .inl rfl
      · exact .inr hx
    · by_cases hj : k = j
      · rw [mset, if_neg hlt, if_pos hj, List.find?_cons] at hx
        rw [mget, if_pos hj.symm] at hkeep
        split at hx
        · cases hx
          exact .inl rfl
        · next hv =>
          have hw : t w = false := by
            by_contra hw
            simp [hkeep (by simpa using hw)] at hv
          exact .inr (by rw [List.find?_cons]; simpa [hw] using hx)
      · rw [mset, if_neg hlt, if_neg hj, List.find?_cons] at hx
        rw [mget, if_neg (Ne.symm hj)] at hkeep
        rw [List.find?_cons]
        split at hx
        · exact .inr hx
        · exact ih hkeep hx

section
variable {s : State}

/-- A room's record that is set keeps the other rooms of functions, where it stays bound as it was. -/
theorem roomOf_setRoom {k fn r : Nat} {v : Room} (hkeep : (room s k).st ≠ .free → v.fn = (room s k).fn ∧ v.st ≠ .free)
    (hr : roomOf { s with rooms := mset s.rooms k v } fn = some r) : r = k ∨ roomOf s fn = some r := by
  simp only [roomOf] at hr ⊢
  split at hr
  · next x hx =>
    cases hr
    have hbound : ((mget s.rooms k {}).fn == fn && (mget s.rooms k {}).st != .free) = true → (v.fn == fn && v.st != .free) = true := by
      intro hb
      simp only [Bool.and_eq_true, beq_iff_eq, bne_iff_ne] at hb ⊢
      obtain ⟨hfn, hst⟩ := hb
      obtain ⟨hfn', hst'⟩ := hkeep hst
      exact ⟨hfn'.trans hfn, hst'⟩
    refine (find?_mset (t := fun r : Room => r.fn == fn && r.st != .free) hbound hx).imp id fun hs => ?_
    rw [hs]
  · cases hr

/-- No room of a port's functions is being removed. -/
def Lasting (p : Nat) (s : State) : Prop := ∀ k rm, roomOf s (fnOf p k) = some rm → (room s rm).removing = false

theorem Lasting.of_rooms {p : Nat} (h : Lasting p s) {t : State} (ht : t.rooms = s.rooms) : Lasting p t := fun k rm hrm => by
  rw [room_of_rooms ht]
  rw [roomOf_of_rooms ht] at hrm
  exact h k rm hrm

/-- A room that is set to one that stays bound and is not being removed. -/
theorem Lasting.setRoom {p : Nat} (h : Lasting p s) {k : Nat} {v : Room} (hkeep : (room s k).st ≠ .free → v.fn = (room s k).fn ∧ v.st ≠ .free)
    (hv : v.removing = false) : Lasting p { s with rooms := mset s.rooms k v } := by
  intro i r hr
  by_cases hk : r = k
  · rw [hk, room, mget_mset, if_pos rfl]
    exact hv
  · have hsame := (roomOf_setRoom hkeep hr).resolve_left hk
    rw [room, mget_mset, if_neg hk]
    exact h i r hsame

theorem lowestFrom_passes {f : Nat → Bool} {base n k : Nat} (h : lowestFrom f base n = some k) : f k = true := by
  induction n generalizing base with
  | zero => cases h
  | succ n ih =>
    rw [lowestFrom] at h
    split at h
    · next hb =>
      cases h
      exact hb
    · exact ih h

theorem freeRoom_st {rm : Nat} (h : freeRoom s = some rm) : (room s rm).st = .free := eq_of_beq (lowestFrom_passes h :)

theorem Lasting.createRoom {p : Nat} (h : Lasting p s) (fn : Nat) : Lasting p (createRoom fn s) := by
  simp only [Machine.createRoom]
  split
  · exact h
  · next rm hfree =>
    have hset := h.setRoom (k := rm) (v := { st := .opened, fn := fn, quotas := defaultQuotas s rm }) (fun hn => absurd (freeRoom_st hfree) hn) rfl
    split
    · exact hset.of_rooms rfl
    · exact hset.of_rooms rfl

theorem calm_createRoom (fn : Nat) (s : State) : Calm False s (createRoom fn s) := by
  simp only [createRoom]
  split
  · exact Calm.refl False s
  · have hset (r : NMap Room) : Calm False s { s with rooms := r } := (Calm.refl False s).of_eq rfl rfl rfl rfl
    split
    · exact ((hset _).raise _ _).raise _ _
    · exact (hset _).raise _ _

/-- From s to t the frames of host ports stay, no function is disabled, and no room of a port's functions comes to be removed. -/
def Enables (p : Nat) (s t : State) : Prop :=
  (∀ q, (hport t q).frame = (hport s q).frame) ∧ (∀ g, (func s g).enabled = true → (func t g).enabled = true) ∧ Lasting p t

/-- Enabling a function from a state whose functions are another's but for that one's. -/
theorem enables_modFunc {p : Nat} {u t : State} (hh : ∀ q, (hport t q).frame = (hport s q).frame)
    (hf : ∀ g, (func t g).enabled = (func u g).enabled) (hlast : Lasting p t) (fn : Nat)
    (hu : ∀ g, g ≠ fn → (func u g).enabled = (func s g).enabled) :
    Enables p s (modFunc fn (fun f => { f with enabled := true }) t) ∧ (func (modFunc fn (fun f => { f with enabled := true }) t) fn).enabled = true := by
  refine ⟨⟨hh, fun g hg => ?_, hlast.of_rooms rfl⟩, by rw [func_modFunc]⟩
  by_cases hgf : g = fn
  · rw [hgf, func_modFunc]
  · rw [func_modFunc_ne hgf, hf, hu g hgf, hg]

/-- The step that a VF takes as VF Enable is set. -/
def vfStep (cfg : HostCfg) (s : State) (f : Nat) : State :=
  if (func s f).enabled then s else enableVf f (modFunc f (fun x => { resetCfg x with cfg := cfg }) s)

theorem vfStep_enables {p : Nat} (cfg : HostCfg) (k : Nat) (hlast : Lasting p s) :
    Enables p s (vfStep cfg s (fnOf p k)) ∧ (func (vfStep cfg s (fnOf p k)) (fnOf p k)).enabled = true := by
  obtain ⟨u, hu⟩ : ∃ u, u = modFunc (fnOf p k) (fun x => { resetCfg x with cfg := cfg }) s := ⟨_, rfl⟩
  have hother : ∀ g, g ≠ fnOf p k → (func u g).enabled = (func s g).enabled := fun g hg => by rw [hu, func_modFunc_ne hg]
  have hlast_u : Lasting p u := hlast.of_rooms (by rw [hu]; rfl)
  have hport : ∀ q, hport u q = hport s q := fun q => by rw [hu]; rfl
  simp only [vfStep, ← hu]
  split
  · next he => exact ⟨⟨fun _ => rfl, fun _ hg => hg, hlast⟩, he⟩
  · simp only [enableVf]
    split
    · next rm hrm =>
      have hr := hlast_u k rm hrm
      have hstays : Lasting p (modRoom rm (fun r => { r with gone := false }) u) := hlast_u.setRoom (fun hn => ⟨rfl, hn⟩) hr
      rw [if_neg (by simp [hr])]
      exact enables_modFunc (u := u) (t := modRoom rm (fun r => { r with gone := false }) u) (fun q => congrArg HostPort.frame (hport q)) (fun _ => rfl) hstays _ hother
    · have hcalm := calm_createRoom (fnOf p k) u
      exact enables_modFunc (u := u) (fun q => by rw [hcalm.framed.1, hport]) (fun g => hcalm.framed.fn Func.enabled (fun _ => rfl) g)
        (hlast_u.createRoom _) _ hother

/-- Every VF of a run becomes enabled. -/
theorem vfSteps_enable {p : Nat} (cfg : HostCfg) (ks : List Nat) (hlast : Lasting p s) :
    Enables p s ((ks.map (fnOf p)).foldl (vfStep cfg) s) ∧ ∀ k ∈ ks, (func ((ks.map (fnOf p)).foldl (vfStep cfg) s) (fnOf p k)).enabled = true := by
  induction ks generalizing s with
  | nil => exact ⟨⟨fun _ => rfl, fun _ hg => hg, hlast⟩, nofun⟩
  | cons k ks ih =>
    obtain ⟨⟨hport, hkeep, hlast'⟩, hon⟩ := vfStep_enables cfg k hlast
    obtain ⟨⟨hport', hkeep', hlast''⟩, hon'⟩ := ih hlast'
    refine ⟨⟨fun q => (hport' q).trans (hport q), fun g hg => hkeep' g (hkeep g hg), hlast''⟩, fun j hj => ?_⟩
    rcases List.mem_cons.1 hj with rfl | hj
    · exact hkeep' _ hon
    · exact hon' j hj

theorem vfEnable_completes {p n : Nat} {cfg : HostCfg} (hl : Live s) (hup : (hport s p).st = .up) (he : (func s (fnOf p 0)).enabled = true)
    (hn : n ≠ 0) (hmore : (hport s p).numVfs < n) (hmax : n ≤ objF s 0x2001 (p + 1) 31) (hlast : Lasting p s)
    (hfree : (((List.range n).map (fun i => fnOf p (i + 1))).filter (fun f => (roomOf s f).isNone)).length ≤ freeRooms s) :
    Completes (.vfEnable p n cfg) s fun t =>
      (hport t p).vfEnable = true ∧ (hport t p).numVfs = n ∧ cfgValue t (fnOf p 0) .vfEnable = 1 ∧ cfgValue t (fnOf p 0) .numVfs = n ∧
        ∀ k, 1 ≤ k → k ≤ n → (func t (fnOf p k)).enabled = true := by
  refine Completes.of_act rfl hl ?_
  obtain ⟨u, hu⟩ : ∃ u, u = modHport p (fun h => { h with vfEnable := true, numVfs := n }) s := ⟨_, rfl⟩
  obtain ⟨t, ht⟩ : ∃ t, t = keep losses s (vfEnable p n cfg s) := ⟨_, rfl⟩
  have hsteps : vfEnable p n cfg s = (((List.range n).map (· + 1)).map (fnOf p)).foldl (vfStep cfg) u := by
    rw [vfEnable, if_neg (by simp [hup, he, hn, hmore]), if_neg (by omega), if_neg (by omega), hu, List.map_map]
    rfl
  obtain ⟨⟨hframe, -, -⟩, hall⟩ := vfSteps_enable cfg ((List.range n).map (· + 1)) (hlast.of_rooms (t := u) (by rw [hu]; rfl))
  rw [← hsteps] at hframe hall
  have hport : (hport t p).frame = HostPort.frame { hport s p with vfEnable := true, numVfs := n } := by
    rw [ht]
    exact (hframe p).trans (by rw [hu, hport_modHport])
  have hon : (Machine.hport t p).vfEnable = true := (congrArg HostPort.vfEnable hport :)
  have hnum : (Machine.hport t p).numVfs = n := (congrArg HostPort.numVfs hport :)
  obtain ⟨hcnum, hcon⟩ := cfgValue_sriov t p
  rw [← ht]
  refine ⟨hon, hnum, hcon.trans (by rw [hon]; rfl), hcnum.trans hnum, fun k hk hkn => ?_⟩
  rw [ht]
  exact hall k (List.mem_map.2 ⟨k - 1, List.mem_range.2 (by omega), by omega⟩)

end

/-- Settles O6: FLR and the end of VFs by what their loss actions leave, VF Enable by a run over the VFs that keeps every room of the port. -/
theorem functionsResetAndVfsEnable : Obligations.FunctionsResetAndVfsEnable :=
  ⟨fun _ _ hl he hup => flr_completes hl he hup,
    fun _ _ _ _ hl _ hup he hn hmore hmax _ hlast hfree => vfEnable_completes hl hup he hn hmore hmax hlast hfree,
    fun _ _ _ hl he hn => vfDisable_completes hl he hn⟩

end Sys2Proof.Machine

/-! ## The CXL.mem window of a host port and the bias of its pages -/

namespace Sys2Proof.Machine

open Sys2Proof

/-! ### A range cut at lines (R135) -/

theorem cutGo_zero (k a : Nat) : cutGo 64 k a 0 = [] := by
  cases k with
  | zero => rfl
  | succ k => rfl

/-- As many cuts as a range has lines are enough. -/
theorem cutGo_fuel {k k' a n : Nat} (hk : (a % 64 + n + 63) / 64 ≤ k) (hk' : (a % 64 + n + 63) / 64 ≤ k') : cutGo 64 k a n = cutGo 64 k' a n := by
  induction k generalizing k' a n with
  | zero =>
    obtain rfl : n = 0 := by omega
    rw [cutGo_zero, cutGo_zero]
  | succ k ih =>
    by_cases hn : n = 0
    · rw [hn, cutGo_zero, cutGo_zero]
    · cases k' with
      | zero => omega
      | succ k' =>
        rw [cutGo, cutGo, if_neg hn, if_neg hn]
        rcases Nat.le_total n (64 - a % 64) with hle | hle
        · have hmin : Nat.min n (64 - a % 64) = n := Nat.min_eq_left hle
          rw [hmin, Nat.sub_self, cutGo_zero, cutGo_zero]
        · have hmin : Nat.min n (64 - a % 64) = 64 - a % 64 := Nat.min_eq_right hle
          rw [hmin, ih (k' := k') (by omega) (by omega)]

/-- A range that begins with whole lines is cut as these and as the rest. -/
theorem cutGo_append {k k₁ k₂ a n m : Nat} (hend : (a + n) % 64 = 0) (hk₁ : (a % 64 + n + 63) / 64 ≤ k₁) (hk₂ : (m + 63) / 64 ≤ k₂)
    (hk : (a % 64 + (n + m) + 63) / 64 ≤ k) : cutGo 64 k a (n + m) = cutGo 64 k₁ a n ++ cutGo 64 k₂ (a + n) m := by
  induction k₁ generalizing k a n with
  | zero =>
    obtain rfl : n = 0 := by omega
    rw [Nat.zero_add] at hk ⊢
    exact cutGo_fuel hk (by omega)
  | succ j ih =>
    by_cases hn : n = 0
    · subst hn
      rw [Nat.zero_add] at hk ⊢
      exact cutGo_fuel hk (by omega)
    · cases k with
      | zero => omega
      | succ i =>
        have hfirst : Nat.min (n + m) (64 - a % 64) = 64 - a % 64 := Nat.min_eq_right (by omega)
        have hfirst' : Nat.min n (64 - a % 64) = 64 - a % 64 := Nat.min_eq_right (by omega)
        have hrest := ih (k := i) (a := a + (64 - a % 64)) (n := n - (64 - a % 64)) (by omega) (by omega) (by omega)
        rw [cutGo, cutGo, if_neg (by omega), if_neg hn, hfirst, hfirst', List.cons_append, show n + m - (64 - a % 64) = n - (64 - a % 64) + m by omega,
          hrest, show a + (64 - a % 64) + (n - (64 - a % 64)) = a + n by omega]

/-- The pieces of a range lie in it. -/
theorem mem_cutGo {k a n : Nat} {x : Nat × Nat} (hx : x ∈ cutGo 64 k a n) : a ≤ x.1 ∧ x.1 + x.2 ≤ a + n := by
  induction k generalizing a n with
  | zero => cases hx
  | succ k ih =>
    rw [cutGo] at hx
    split at hx
    · cases hx
    · have hmin : Nat.min n (64 - a % 64) ≤ n := Nat.min_le_left _ _
      rcases List.mem_cons.1 hx with rfl | hx
      · exact ⟨Nat.le_refl _, Nat.add_le_add_left hmin a⟩
      · obtain ⟨hlo, hhi⟩ := ih hx
        exact ⟨by omega, by omega⟩

/-- A range within a line is one piece. -/
theorem cutGo_line {k a n : Nat} (hn : n ≠ 0) (hline : a % 64 + n ≤ 64) : cutGo 64 (k + 2) a n = [(a, n)] := by
  have hmin : Nat.min n (64 - a % 64) = n := Nat.min_eq_left (by omega)
  rw [cutGo, if_neg hn, hmin, Nat.sub_self]
  rfl

/-! ### One line of the window (R135, R136, R141) -/

section
variable {s : State} {p : Nat}

/-- An access of one line is that line's. -/
theorem hostCxlmem_line {base a : Nat} {wr : Bool} {data : List Byte} (hup : (hport s p).st = .up) (hcxl : (hport s p).cxl = true)
    (hhdm : (hport s p).hdm = some base) (hne : data ≠ []) (hlo : base ≤ a) (hhi : a < base + 2 ^ 36) (hline : a % 64 + data.length ≤ 64) :
    hostCxlmem p a wr data s = cxlmemLine p (a - base) wr data s := by
  simp only [hostCxlmem, hhdm]
  have hin : (decide (base ≤ a) && decide (a < base + 2 ^ 36)) = true := by rw [decide_eq_true hlo, decide_eq_true hhi]; rfl
  rw [if_neg (by simp [hup, hcxl, hne]), cutGo_line (by simp [hne]) hline,
    List.filter_cons_of_pos (p := fun x : Nat × Nat => decide (base ≤ x.1) && decide (x.1 < base + 2 ^ 36)) hin, List.filter_nil, List.foldl_cons,
    List.foldl_nil, Nat.sub_self, List.drop_zero, List.take_length]

/-- The state in which the line of a granted extent is met: its page is shared. -/
def pageShared (p off : Nat) (s : State) : State := modHport p (fun h => { h with shared := sadd h.shared (off / 2 ^ 21) }) s

theorem shared_pageShared (p off : Nat) (s : State) : (hport (pageShared p off s) p).shared = sadd (hport s p).shared (off / 2 ^ 21) := by
  rw [pageShared, hport_modHport]

theorem cxlmemLine_closed {off : Nat} {data : List Byte} (hwin : (hport s p).winEnable = false) :
    cxlmemLine p off false data s = emit (.hostData p false (List.replicate data.length 0)) s := by simp [cxlmemLine, hwin]

/-- A read through the open window: the bytes, with what counts and corrects a read. -/
theorem cxlmemLine_read {off x rm : Nat} {data : List Byte} (hwin : (hport s p).winEnable = true) (hx : x = (hport s p).winBase * 2 ^ 30 + off)
    (hroom : windowRoom s p x = some rm) (hfree : anyFrozen s x data.length = false) (hgood : firstBad s x data.length = none) :
    cxlmemLine p off false data s = emit (.hostData p false (devRead s x data.length))
      (correctRange x data.length (countRead x data.length (pageShared p off s))) := by
  have hgood' : firstBad (pageShared p off s) x data.length = none := hgood
  have hread : readMem { code := 11, about := some rm } x data.length (pageShared p off s) =
      .ok (devRead s x data.length, correctRange x data.length (countRead x data.length (pageShared p off s))) := by
    rw [readMem, hgood']
    rfl
  simp only [cxlmemLine]
  rw [if_neg (by simp [hwin]), ← hx, hroom]
  dsimp only
  rw [if_neg (by simp [hfree]), if_neg Bool.false_ne_true, ← pageShared, hread]

theorem cxlmemLine_write {off x rm : Nat} {data : List Byte} (hwin : (hport s p).winEnable = true) (hx : x = (hport s p).winBase * 2 ^ 30 + off)
    (hroom : windowRoom s p x = some rm) (hfree : anyFrozen s x data.length = false) (hgood : firstBadW s x data.length = none) :
    cxlmemLine p off true data s = devWrite x data (pageShared p off s) := by
  have hgood' : firstBadW (pageShared p off s) x data.length = none := hgood
  have hwrite : writeMem { code := 11, about := some rm } x data (pageShared p off s) = .ok (devWrite x data (pageShared p off s)) := by
    rw [writeMem, hgood']
  simp only [cxlmemLine]
  rw [if_neg (by simp [hwin]), ← hx, hroom]
  dsimp only
  rw [if_neg (by simp [hfree]), if_pos trivial, ← pageShared, hwrite]

/-- What an access of the window may change. -/
def windowPieces : List Piece := dataAccess ++ [.lists, .tilesHalted, .rooms]

section
variable {base a : Nat} {data : List Byte} (hl : Live s) (hup : (hport s p).st = .up) (hcxl : (hport s p).cxl = true)
  (hhdm : (hport s p).hdm = some base) (hne : data ≠ []) (hlo : base ≤ a) (hhi : a < base + 2 ^ 36) (hline : a % 64 + data.length ≤ 64)
include hl hup hcxl hhdm hne hlo hhi hline

theorem hostCxlmem_closed_completes (hwin : (hport s p).winEnable = false) :
    Completes (.hostCxlmemAccess p a false data) s fun t =>
      t.out = .hostData p false (List.replicate data.length 0) :: s.out ∧ t.mem = s.mem := by
  refine Completes.of_act rfl hl ?_
  rw [hostCxlmem_line hup hcxl hhdm hne hlo hhi hline, cxlmemLine_closed hwin]
  exact ⟨rfl, rfl⟩

variable {x rm : Nat} (hwin : (hport s p).winEnable = true) (hx : x = (hport s p).winBase * 2 ^ 30 + (a - base)) (hroom : windowRoom s p x = some rm)
  (hfree : anyFrozen s x data.length = false)
include hwin hx hroom hfree

theorem hostCxlmem_read_completes (hgood : firstBad s x data.length = none) :
    Completes (.hostCxlmemAccess p a false data) s fun t =>
      t.out.head? = some (.hostData p false (devRead s x data.length)) ∧ (hport t p).shared = sadd (hport s p).shared ((a - base) / 2 ^ 21) := by
  refine Completes.of_act rfl hl ?_
  rw [hostCxlmem_line hup hcxl hhdm hne hlo hhi hline, cxlmemLine_read hwin hx hroom hfree hgood]
  have hlink := (((Calm.refl False (pageShared p (a - base) s)).countRead x data.length).correctRange x data.length).link p
  exact ⟨rfl, (congrArg HostPort.shared hlink :).trans (shared_pageShared _ _ _)⟩

theorem hostCxlmem_write_completes (hgood : firstBadW s x data.length = none) :
    Completes (.hostCxlmemAccess p a true data) s fun t =>
      t.mem = memStore s.mem x data ∧ (hport t p).shared = sadd (hport s p).shared ((a - base) / 2 ^ 21) := by
  refine Completes.of_act rfl hl ?_
  rw [hostCxlmem_line hup hcxl hhdm hne hlo hhi hline, cxlmemLine_write hwin hx hroom hfree hgood]
  exact ⟨rfl, shared_pageShared _ _ _⟩

end

/-! ### An access of several lines (R135) -/

section
variable {c : Prop} {s₀ s t : State} {x : Access} {a n : Nat} {d : List Byte} (h : Calm c s₀ s)
include h

theorem Calm.writeMem_ok (hw : writeMem x a d s = .ok t) : Calm c s₀ t := by
  rw [writeMem] at hw
  split at hw
  · cases hw
  · cases hw
    exact (calm_devWrite _ _).2 h

theorem Calm.writeMem_error (hw : writeMem x a d s = .error t) : Calm c s₀ t := by
  rw [writeMem] at hw
  split at hw
  · cases hw
    exact h.meetBad _ _
  · cases hw

theorem Calm.readMem_ok {r : List Byte × State} (hr : readMem x a n s = .ok r) : Calm c s₀ r.2 := by
  rw [readMem] at hr
  split at hr
  · cases hr
  · cases hr
    exact (h.countRead _ _).correctRange _ _

theorem Calm.readMem_error (hr : readMem x a n s = .error t) : Calm c s₀ t := by
  rw [readMem] at hr
  split at hr
  · cases hr
    exact h.meetBad _ _
  · cases hr

end

/-- From s to t nothing changes but what an access of the window may, and the frames of host ports stay. -/
def WindowNear (s t : State) : Prop := t.far = s.far ∧ ∀ q, (hport t q).frame = (hport s q).frame

theorem WindowNear.refl (s : State) : WindowNear s s := ⟨rfl, fun _ => rfl⟩

theorem WindowNear.trans {t u : State} (h : WindowNear s t) (h' : WindowNear t u) : WindowNear s u :=
  ⟨h'.1.trans h.1, fun q => (h'.2 q).trans (h.2 q)⟩

theorem Calm.windowNear {t : State} (h : Calm True s t) : WindowNear s t := ⟨h.1 trivial, h.framed.1⟩

/-- A change within the pieces of an access keeps no other. -/
theorem WindowNear.keep {t : State} (h : WindowNear s t) : Machine.keep windowPieces s t = t :=
  calc Machine.keep windowPieces s t = Machine.keep windowPieces s.far t := rfl
    _ = Machine.keep windowPieces t.far t := by rw [h.1]
    _ = t := rfl

theorem windowNear_cxlmemLine (p off : Nat) (wr : Bool) (data : List Byte) (s : State) : WindowNear s (cxlmemLine p off wr data s) := by
  obtain ⟨u, hu⟩ : ∃ u, u = pageShared p off s := ⟨_, rfl⟩
  have hshared : WindowNear s u := by
    rw [hu]
    exact ⟨rfl, (framed_shared p _ s).1⟩
  have hcalm := Calm.refl True u
  have hzeros : WindowNear s (if wr = true then s else emit (.hostData p false (List.replicate data.length 0)) s) := by
    split
    · exact WindowNear.refl s
    · exact ⟨rfl, fun _ => rfl⟩
  rw [pageShared] at hu
  simp only [cxlmemLine, ← hu]
  split
  · exact hzeros
  · split
    · exact hzeros
    · next rm _ =>
      split
      · exact WindowNear.refl s
      · split
        · split
          · next hw => exact hshared.trans (hcalm.writeMem_ok hw).windowNear
          · next hw => exact hshared.trans (hcalm.writeMem_error hw).windowNear
        · split
          · next hr => exact hshared.trans (hcalm.readMem_ok hr).windowNear
          · next hr => exact hshared.trans (hcalm.readMem_error hr).windowNear

/-- Where the HDM decoder of a port in CXL mode lies. -/
def HostPort.decoder (h : HostPort) : Option Nat := if h.st = .up ∧ h.cxl = true then h.hdm else none

/-- The pieces of an access that the decoder takes, one after the other. -/
def windowLines (p base addr : Nat) (wr : Bool) (data : List Byte) (l : List (Nat × Nat)) (s : State) : State :=
  (l.filter (fun x => decide (base ≤ x.1) && decide (x.1 < base + 2 ^ 36))).foldl
    (fun s x => cxlmemLine p (x.1 - base) wr ((data.drop (x.1 - addr)).take x.2) s) s

theorem hostCxlmem_decoded {a base : Nat} {data : List Byte} (hdec : (hport s p).decoder = some base) (hne : data ≠ []) (wr : Bool) :
    hostCxlmem p a wr data s = windowLines p base a wr data (cutGo 64 (data.length / 64 + 2) a data.length) s := by
  rw [HostPort.decoder] at hdec
  split at hdec
  · next hon =>
    obtain ⟨hup, hcxl⟩ := hon
    simp only [hostCxlmem, hdec]
    rw [if_neg (by simp [hup, hcxl, hne])]
    rfl
  · cases hdec

theorem hostCxlmem_undecoded {data : List Byte} (hdec : (hport s p).decoder = none) (a : Nat) (wr : Bool) : hostCxlmem p a wr data s = s := by
  rw [HostPort.decoder] at hdec
  simp only [hostCxlmem]
  split
  · rfl
  · next base hbase =>
    split at hdec
    · rw [hbase] at hdec
      cases hdec
    · next hoff =>
      refine if_pos ?_
      by_cases hup : (hport s p).st = .up
      · have hcxl : (hport s p).cxl = false := by simpa [hup] using hoff
        simp [hcxl]
      · simp [hup]

theorem windowNear_windowLines (p base a : Nat) (wr : Bool) (data : List Byte) (l : List (Nat × Nat)) (s : State) :
    WindowNear s (windowLines p base a wr data l s) := by
  rw [windowLines]
  generalize l.filter _ = l
  induction l generalizing s with
  | nil => exact WindowNear.refl s
  | cons x l ih => exact (windowNear_cxlmemLine _ _ _ _ _).trans (ih _)

theorem windowNear_hostCxlmem (p a : Nat) (wr : Bool) {data : List Byte} (hne : data ≠ []) (s : State) : WindowNear s (hostCxlmem p a wr data s) := by
  cases hdec : (hport s p).decoder with
  | none =>
    rw [hostCxlmem_undecoded hdec]
    exact WindowNear.refl s
  | some base =>
    rw [hostCxlmem_decoded hdec hne]
    exact windowNear_windowLines _ _ _ _ _ _ _

theorem windowLines_append (p base a : Nat) (wr : Bool) (data : List Byte) (l l' : List (Nat × Nat)) (s : State) :
    windowLines p base a wr data (l ++ l') s = windowLines p base a wr data l' (windowLines p base a wr data l s) := by
  rw [windowLines, List.filter_append, List.foldl_append]
  rfl

/-- Only the bytes that the pieces cover matter. -/
theorem windowLines_congr {base a a' : Nat} {wr : Bool} {data data' : List Byte} {l : List (Nat × Nat)}
    (h : ∀ x ∈ l, (data.drop (x.1 - a)).take x.2 = (data'.drop (x.1 - a')).take x.2) (s : State) :
    windowLines p base a wr data l s = windowLines p base a' wr data' l s :=
  List.foldl_ext _ _ _ fun t x hx => by rw [h x (List.mem_filter.1 hx).1]

/-- An access that begins with whole lines is an access of these and one of the rest. -/
theorem hostCxlmem_append {a : Nat} {d e : List Byte} (hd : d ≠ []) (he : e ≠ []) (halign : (a + d.length) % 64 = 0) (wr : Bool) :
    hostCxlmem p a wr (d ++ e) s = hostCxlmem p (a + d.length) wr e (hostCxlmem p a wr d s) := by
  have hsame : (hport (hostCxlmem p a wr d s) p).decoder = (hport s p).decoder :=
    (congrArg HostPort.decoder ((windowNear_hostCxlmem p a wr hd s).2 p) :)
  cases hdec : (hport s p).decoder with
  | none => rw [hostCxlmem_undecoded hdec, hostCxlmem_undecoded (hsame.trans hdec), hostCxlmem_undecoded hdec]
  | some base =>
    have hfirst : ∀ x ∈ cutGo 64 (d.length / 64 + 2) a d.length, ((d ++ e).drop (x.1 - a)).take x.2 = (d.drop (x.1 - a)).take x.2 := by
      intro x hx
      obtain ⟨hlo, hhi⟩ := mem_cutGo hx
      rw [List.drop_append_of_le_length (by omega), List.take_append_of_le_length (by rw [List.length_drop]; omega)]
    have hrest : ∀ x ∈ cutGo 64 (e.length / 64 + 2) (a + d.length) e.length,
        ((d ++ e).drop (x.1 - a)).take x.2 = (e.drop (x.1 - (a + d.length))).take x.2 := by
      intro x hx
      obtain ⟨hlo, -⟩ := mem_cutGo hx
      obtain ⟨i, hi⟩ := Nat.exists_eq_add_of_le hlo
      rw [show x.1 - a = d.length + i by omega, show x.1 - (a + d.length) = i by omega, List.drop_length_add_append]
    have hcut : cutGo 64 ((d ++ e).length / 64 + 2) a (d ++ e).length =
        cutGo 64 (d.length / 64 + 2) a d.length ++ cutGo 64 (e.length / 64 + 2) (a + d.length) e.length := by
      rw [List.length_append]
      exact cutGo_append halign (by omega) (by omega) (by omega)
    rw [hostCxlmem_decoded hdec (by simp [hd]), hostCxlmem_decoded (hsame.trans hdec) he, hostCxlmem_decoded hdec hd, hcut, windowLines_append,
      windowLines_congr (data' := d) (a' := a) hfirst, windowLines_congr (data' := e) (a' := a + d.length) hrest]

theorem hostCxlmem_append_completes {a : Nat} {wr : Bool} {d e : List Byte} (hl : Live s) (hd : d ≠ []) (he : e ≠ []) (halign : (a + d.length) % 64 = 0) :
    Completes (.hostCxlmemAccess p a wr d) s fun m => Live m →
      Completes (.hostCxlmemAccess p (a + d.length) wr e) m fun t => Completes (.hostCxlmemAccess p a wr (d ++ e)) s fun u => u = t := by
  have hkeep (x : Nat) {data : List Byte} (hne : data ≠ []) (t : State) : keep windowPieces t (hostCxlmem p x wr data t) = hostCxlmem p x wr data t :=
    (windowNear_hostCxlmem p x wr hne t).keep
  refine Completes.of_act (l := windowPieces) rfl hl fun hm => Completes.of_act (l := windowPieces) rfl hm (Completes.of_act (l := windowPieces) rfl hl ?_)
  rw [hkeep a hd, hkeep _ he, hkeep a (by simp [hd]), hostCxlmem_append hd he halign]

theorem hostSnoop_completes {a : Nat} (hl : Live s) (hup : (hport s p).st = .up) (hcxl : (hport s p).cxl = true) :
    Completes (.hostSnoop p a) s fun t => t = { s with out := .snoopResp p :: s.out } := by
  refine Completes.of_act rfl hl ?_
  rw [hostSnoop, if_pos (by simp [hup, hcxl])]
  rfl

/-! ### Bias (R143) -/

theorem biasDevice_completes {h : FdHdr} {page : Nat} (ht : Takes s h 0x30) (hpf : fnSlot h.fn = 0) (hcxl : (hport s (fnPort h.fn)).cxl = true)
    (hpage : page < 32768) :
    Completes (.biasDevice h page) s fun t =>
      if page ∈ (hport s (fnPort h.fn)).shared
      then t.out = .rdOwn (fnPort h.fn) page :: s.out ∧ (func t h.fn).fd.running = some (h, 0x30, .bias page)
      else (hport t (fnPort h.fn)).shared = (hport s (fnPort h.fn)).shared ∧ (func t h.fn).fd.running = none := by
  refine Completes.of_act rfl ht.1 ?_
  rw [biasDevice, frontDesk_takes ht _ (by simp [firstBadOf, hpf, hcxl, hpage])]
  by_cases hshared : page ∈ (hport s (fnPort h.fn)).shared
  · have hheld : (func (fdHold h 0x30 (.bias page) s) h.fn).fd.running = some (h, 0x30, .bias page) := by rw [fdHold, func_modFunc]
    rw [if_pos hshared, if_pos (by simpa using hshared)]
    exact ⟨rfl, hheld⟩
  · rw [if_neg hshared, if_neg (by simpa using hshared)]
    exact ⟨(congrArg HostPort.shared (((Calm.refl False s).fdAnswer h 0x30 {}).link (fnPort h.fn)) :), fdAnswer_running h 0x30 {} s⟩

theorem biasDeviceDone_completes {fn page : Nat} {h : FdHdr} (hl : Live s) (hfn : h.fn = fn)
    (hrun : (func s fn).fd.running = some (h, 0x30, .bias page)) :
    Completes (.biasDeviceDone fn) s fun t =>
      (hport t (fnPort fn)).shared = sdel (hport s (fnPort fn)).shared page ∧ (func t fn).fd.running = none := by
  refine Completes.of_act rfl hl ?_
  obtain ⟨u, hu⟩ : ∃ u, u = modHport (fnPort fn) (fun x => { x with shared := sdel x.shared page }) s := ⟨_, rfl⟩
  have hdone : biasDeviceDone fn s = fdAnswer h 0x30 {} u := by simp only [biasDeviceDone, hrun, hu]
  have hshared : (hport u (fnPort fn)).shared = sdel (hport s (fnPort fn)).shared page := by rw [hu, hport_modHport]
  rw [hdone]
  exact ⟨(congrArg HostPort.shared (((Calm.refl False u).fdAnswer h 0x30 {}).link (fnPort fn)) :).trans hshared, hfn ▸ fdAnswer_running h 0x30 {} u⟩

/-! ### The window's registers (R138, R140, R144) -/

/-- A host port in a state that takes its host ports from another's, that one changed. -/
theorem hport_of_put {t : State} {f : HostPort → HostPort} (h : t.hports = (modHport p f s).hports) : hport t p = f (hport s p) := by
  rw [hport_of_hports h, hport_modHport]

theorem memwinEnable_completes {fn : Nat} (hl : Live s) (hi : isInn s fn = true) :
    Completes (.memwinEnable fn p) s fun t =>
      (hport t p).winEnable = true ∧ (hport t p).winBase = (hport s p).winBase ∧ ((hport s p).winEnable = false → (hport t p).shared = []) := by
  refine Completes.of_act rfl hl ?_
  rw [memwinEnable, if_neg (by simp [hi])]
  obtain ⟨g, hg⟩ : ∃ g : HostPort → HostPort, g = fun h => if h.winEnable then h else { h with winEnable := true, shared := [] } := ⟨_, rfl⟩
  have hport : hport (keep [.arms, .hports] s (disarm (16 + p) (modHport p g s))) p = g (hport s p) := hport_modHport p g s
  rw [← hg, hport, hg]
  cases hwin : (Machine.hport s p).winEnable with
  | true => simp [hwin]
  | false => simp [hwin]

theorem foldl_rdOwn (l : List Nat) (s : State) : (l.foldl (fun s pg => emit (.rdOwn p pg) s) s).hports = s.hports ∧
    (∀ o ∈ s.out, o ∈ (l.foldl (fun s pg => emit (.rdOwn p pg) s) s).out) ∧ ∀ pg ∈ l, Out.rdOwn p pg ∈ (l.foldl (fun s pg => emit (.rdOwn p pg) s) s).out := by
  induction l generalizing s with
  | nil => exact ⟨rfl, fun _ ho => ho, nofun⟩
  | cons x l ih =>
    obtain ⟨hports, hkeep, hall⟩ := ih (emit (.rdOwn p x) s)
    refine ⟨hports, fun o ho => hkeep o (List.mem_cons_of_mem _ ho), fun pg hpg => ?_⟩
    rcases List.mem_cons.1 hpg with rfl | hpg
    · exact hkeep _ List.mem_cons_self
    · exact hall pg hpg

theorem memwinDisable_completes {fn : Nat} (hl : Live s) (hi : isInn s fn = true) (hwin : (hport s p).winEnable = true) :
    Completes (.memwinDisable fn p) s fun t =>
      (hport t p).winEnable = false ∧ (hport t p).winBusy = ((hport s p).winBusy || !(hport s p).shared.isEmpty) ∧
      ∀ pg ∈ (hport s p).shared, Out.rdOwn p pg ∈ t.out := by
  refine Completes.of_act rfl hl ?_
  simp only [memwinDisable]
  rw [if_neg (by simp [hi]), if_pos hwin]
  generalize hg : (fun h : HostPort => { h with winEnable := false, winBusy := h.winBusy || (h.winEnable && !h.shared.isEmpty) }) = g
  obtain ⟨hports, -, hall⟩ := foldl_rdOwn (p := p) (hport s p).shared (disarm (16 + p) (modHport p g s))
  have hport := hport_of_put hports
  refine ⟨?_, ?_, hall⟩
  · exact (congrArg HostPort.winEnable hport).trans (by rw [← hg])
  · exact (congrArg HostPort.winBusy hport).trans (by simp [← hg, hwin])

theorem memwinSweepDone_completes (hl : Live s) (hbusy : (hport s p).winBusy = true) :
    Completes (.memwinSweepDone p) s fun t =>
      (hport t p).winBusy = false ∧ (hport t p).shared = (if (hport s p).winEnable then (hport s p).shared else []) := by
  refine Completes.of_act rfl hl ?_
  obtain ⟨t, ht⟩ : ∃ t, t = keep [.hports] s (memwinSweepDone p s) := ⟨_, rfl⟩
  have hport : hport t p = { hport s p with winBusy := false, shared := if (hport s p).winEnable then (hport s p).shared else [] } := by
    rw [ht, memwinSweepDone, if_pos hbusy]
    generalize hg : (fun h : HostPort => { h with winBusy := false, shared := if h.winEnable then h.shared else [] }) = g
    exact (hport_modHport p g s).trans (by rw [← hg])
  rw [← ht, hport]
  exact ⟨rfl, rfl⟩

theorem memwinBaseWrite_completes {fn base : Nat} (hl : Live s) (hi : isInn s fn = true) (ha : armed s (16 + p) = true)
    (hwin : (hport s p).winEnable = false) (hbusy : (hport s p).winBusy = false) :
    Completes (.memwinBaseWrite fn p base) s fun t => (hport t p).winBase = base % 2 ^ 18 ∧ t.arms = mdel s.arms (16 + p) := by
  refine Completes.of_act rfl hl ?_
  simp only [memwinBaseWrite]
  rw [if_neg (by simp [hi]), if_pos ha, if_neg (by simp [hwin, hbusy])]
  generalize hg : (fun h : HostPort => { h with winBase := base % 2 ^ 18 }) = g
  exact ⟨(congrArg HostPort.winBase (hport_modHport p g s)).trans (by rw [← hg]), rfl⟩

end

/-- Settles O7: an access of one line by that line's case, one of several by `hostCxlmem_append`, each command by its effect. -/
theorem windowAndBiasCommands : Obligations.WindowAndBiasCommands :=
  ⟨fun _ _ _ _ _ hl hup hcxl hhdm hwin hne hlo hhi hline => hostCxlmem_closed_completes hl hup hcxl hhdm hne hlo hhi hline hwin,
    fun _ _ _ _ _ _ _ hl hup hcxl hhdm hwin hne hlo hhi hline hx hroom hfree hgood =>
      hostCxlmem_read_completes hl hup hcxl hhdm hne hlo hhi hline hwin hx hroom hfree hgood,
    fun _ _ _ _ _ _ _ hl hup hcxl hhdm hwin hne hlo hhi hline hx hroom hfree hgood =>
      hostCxlmem_write_completes hl hup hcxl hhdm hne hlo hhi hline hwin hx hroom hfree hgood,
    fun _ _ _ _ _ _ hl hd he halign => hostCxlmem_append_completes hl hd he halign,
    fun _ _ _ hl hup hcxl => hostSnoop_completes hl hup hcxl,
    fun _ _ _ ht hpf hcxl hpage => biasDevice_completes ht hpf hcxl hpage,
    fun _ _ _ _ hl hfn hrun => biasDeviceDone_completes hl hfn hrun,
    fun _ _ _ hl hi => memwinEnable_completes hl hi,
    fun _ _ _ hl hi hwin => memwinDisable_completes hl hi hwin,
    fun _ _ hl hbusy => memwinSweepDone_completes hl hbusy,
    fun _ _ _ _ hl hi ha hwin hbusy => memwinBaseWrite_completes hl hi ha hwin hbusy⟩

end Sys2Proof.Machine

/-! ## The memory map, and the state after reset -/

namespace Sys2Proof.Machine

open Sys2Proof

/-! ### The controller of a DPA (R178, R179) -/

theorem tierCtl_tier0 (s : State) {a : Nat} (h : a < 2 ^ 38) :
    tierCtl s a = some (if s.mem.dieLocal0 then 2 * (a / 2 ^ 37 % 2) + a / 2 ^ 12 % 2 else a / 2 ^ 12 % 4) :=
  if_pos h

theorem tierCtl_tier1 (s : State) {a : Nat} (hlo : 2 ^ 40 ≤ a) (hhi : a < 2 ^ 41) :
    tierCtl s a = some (4 + (if s.mem.dieLocal1 then 4 * (a / 2 ^ 39 % 2) + a / 2 ^ 12 % 4 else a / 2 ^ 12 % 8)) :=
  have hTier0 : ¬ a < 0x4000000000 := by omega
  (if_neg hTier0).trans (if_pos ⟨hlo, hhi⟩)

/-- Settles O60: a DPA of each tier by its branch of the map; start-up loads both modes from their objects. -/
theorem tierControllersFollowTheInterleave : Obligations.TierControllersFollowTheInterleave :=
  ⟨fun s _ h => tierCtl_tier0 s h, fun s _ hlo hhi => tierCtl_tier1 s hlo hhi, fun _ => ⟨rfl, rfl⟩, rfl, rfl⟩

/-! ### After reset -/

theorem live_reset : Live State.reset := ⟨rfl, rfl, rfl⟩

theorem sound_reset : Sound State.reset := ⟨rfl, rfl, rfl, rfl, rfl, rfl⟩

/-- No laser has a record after reset, so each reads as an unlit one. -/
theorem lasersSafe_reset : LasersSafe State.reset := by
  refine ⟨rfl, fun u => ?_⟩
  have hOff : laser State.reset u = {} := rfl
  rw [hOff]
  exact ⟨by decide, fun h => absurd rfl h, by simp⟩

theorem legal_reset : Legal State.reset := by
  refine ⟨by decide, by decide, by decide, fun n hn => ?_⟩
  cases hn

/-- Settles O57: the tables that the statement speaks of are empty, and give their defaults. -/
theorem resetIsSound : Obligations.ResetIsSound :=
  ⟨rfl, live_reset, rfl, sound_reset, lasersSafe_reset, legal_reset, fun _ => rfl, fun _ => rfl, rfl, rfl, rfl, fun _ => rfl, fun _ => rfl⟩

end Sys2Proof.Machine

/-! ## Extents -/

namespace Sys2Proof.Machine

open Sys2Proof

/-! ### One extent, and several (R190, R192) -/

section
variable {s : State}

@[simp] theorem putExt_some_extents (e : Nat) (x : Extent) (s : State) : (putExt e (some x) s).mem.extents = mset s.mem.extents e x := rfl

theorem extOf_putExt_ne {e d : Nat} (h : d ≠ e) (x : Extent) (s : State) : extOf (putExt e (some x) s) d = extOf s d := by
  have hDefault : extDefault (putExt e (some x) s) d = extDefault s d := rfl
  rw [extOf, extOf, putExt_some_extents, mfind_mset_ne _ _ _ _ h, hDefault]

theorem grantOne_free {rm e : Nat} (h : (extOf s e).st = .free) :
    grantOne rm e s = .ok (putExt e (some { st := .granted, owner := some rm }) s) := by
  rw [grantOne, h]

/-- An extent that a reclaim takes back: granted to a room whose chart does not map it (R190). -/
def Reclaimable (rm : Nat) (s : State) (e : Nat) : Prop :=
  (extOf s e).st = .granted ∧ (extOf s e).owner = some rm ∧ extMapped s rm e = false

theorem reclaimOne_reclaimable {rm e : Nat} (h : Reclaimable rm s e) : reclaimOne e s = .ok (putExt e (some { st := .reclaiming }) s) := by
  obtain ⟨hst, howner, hmap⟩ := h
  simp only [reclaimOne, hst, howner]
  rw [if_neg (by simp [hmap])]

theorem Reclaimable.putExt_ne {rm e d : Nat} {x : Extent} (hne : d ≠ e) (h : Reclaimable rm s d) : Reclaimable rm (putExt e (some x) s) d := by
  rw [Reclaimable, extOf_putExt_ne hne]
  exact h

/-- A command on extents that each may change gives every one its record, and leaves those of all others. -/
theorem eachExtent_puts {f : Nat → State → Except Nat State} {x : Extent} {good : State → Nat → Prop}
    (hf : ∀ u e, good u e → f e u = .ok (putExt e (some x) u))
    (hgood : ∀ u e d, d ≠ e → good u d → good (putExt e (some x) u) d) :
    ∀ (n e : Nat) (s : State), (∀ k, k < n → good s (e + k)) → ∃ t, eachExtent f e n s = (0, 0, t) ∧
      (∀ k, k < n → mfind t.mem.extents (e + k) = some x) ∧ ∀ d, (d < e ∨ e + n ≤ d) → mfind t.mem.extents d = mfind s.mem.extents d
  | 0, _, s, _ => ⟨s, rfl, fun _ hk => absurd hk (Nat.not_lt_zero _), fun _ _ => rfl⟩
  | n + 1, e, s, h => by
    have hFirst : f e s = .ok (putExt e (some x) s) := hf s e (h 0 (Nat.succ_pos n))
    have hRest : ∀ k, k < n → good (putExt e (some x) s) (e + 1 + k) := fun k hk =>
      hgood s e _ (by omega) (by rw [Nat.add_right_comm]; exact h (k + 1) (by omega))
    obtain ⟨t, hrun, hput, hframe⟩ := eachExtent_puts hf hgood n (e + 1) _ hRest
    refine ⟨t, by rw [eachExtent, hFirst]; exact hrun, fun k hk => ?_, fun d hd => ?_⟩
    · cases k with
      | zero => rw [Nat.add_zero, hframe e (.inl (Nat.lt_succ_self e)), putExt_some_extents, mfind_mset_self]
      | succ k => rw [show e + (k + 1) = e + 1 + k by omega]; exact hput k (by omega)
    · rw [hframe d (by omega), putExt_some_extents, mfind_mset_ne _ _ _ _ (by omega)]

end

/-! ### Grant and reclaim (R190, R192) -/

section
variable {s : State} {h : FdHdr} {e n : Nat}

theorem extBad_none (hi : isInn s h.fn = true) (hn0 : n ≠ 0) (hn : n ≤ 4096) : extBad h n s = none := by
  simp [extBad, firstBadOf, hi, hn0, Nat.not_lt.2 hn]

theorem memGrant_completes (ht : InnTakes s h 0x10) (hn0 : n ≠ 0) (hn : n ≤ 4096) (hr : (room s h.room).st ≠ .free)
    (hfree : ∀ k, k < n → (extOf s (e + k)).st = .free) : Completes (.memGrant h e n) s fun t =>
      (∀ k, k < n → mfind t.mem.extents (e + k) = some { st := .granted, owner := some h.room }) ∧ (func t h.fn).fd.running = none ∧
      ∀ d, (d < e ∨ e + n ≤ d) → mfind t.mem.extents d = mfind s.mem.extents d := by
  obtain ⟨hTakes, hInn⟩ := ht
  obtain ⟨t, hrun, hput, hframe⟩ := eachExtent_puts (good := fun u d => (extOf u d).st = .free)
    (fun _ _ hu => grantOne_free (rm := h.room) hu) (fun _ _ _ hne hu => by rw [extOf_putExt_ne hne]; exact hu) n e s hfree
  have hGrant : memGrant h e n s = fdAnswer h 0x10 {} t := by
    rw [memGrant, frontDesk_takes hTakes _ (extBad_none hInn hn0 hn), if_neg hr, hrun]
  refine .of_act rfl hTakes.1 ?_
  rw [hGrant]
  exact ⟨hput, fdAnswer_running h 0x10 {} t, hframe⟩

theorem memReclaim_completes {rm : Nat} (ht : InnTakes s h 0x11) (hn0 : n ≠ 0) (hn : n ≤ 4096)
    (hrec : ∀ k, k < n → Reclaimable rm s (e + k)) : Completes (.memReclaim h e n) s fun t =>
      (∀ k, k < n → mfind t.mem.extents (e + k) = some { st := .reclaiming }) ∧
      ∀ d, (d < e ∨ e + n ≤ d) → mfind t.mem.extents d = mfind s.mem.extents d := by
  obtain ⟨hTakes, hInn⟩ := ht
  obtain ⟨t, hrun, hput, hframe⟩ := eachExtent_puts (good := Reclaimable rm) (fun _ _ => reclaimOne_reclaimable)
    (fun _ _ _ hne => Reclaimable.putExt_ne hne) n e s hrec
  have hReclaim : memReclaim h e n s = fdAnswer h 0x11 {} t := by
    rw [memReclaim, frontDesk_takes hTakes _ (extBad_none hInn hn0 hn), hrun]
  refine .of_act rfl hTakes.1 ?_
  rw [hReclaim]
  exact ⟨hput, hframe⟩

end

/-! ### The end of reclaiming (R190) -/

/-- Cells that are kept by their address read as before, and the others zero; whatever the order of the cells. -/
theorem cellGet_filter_keys (p : Nat → Bool) (m : List Host.Cell) (x : Nat) :
    cellGet (m.filter (fun c => p c.1)) x = if p x then cellGet m x else 0 := by
  induction m with
  | nil => exact (ite_self _).symm
  | cons c r ih =>
    obtain ⟨a, v⟩ := c
    rw [cellGet, cellGet] at ih ⊢
    rw [List.filter_cons]
    by_cases hx : a = x
    · subst hx
      rw [mget, if_pos rfl]
      split
      · rw [mget, if_pos rfl]
      · next hp => rw [ih, if_neg hp]
    · rw [mget, if_neg hx, ← ih]
      split
      · rw [mget, if_neg hx]
      · rfl

/-- Whole blocks that are cleared read zero, and every other byte as before, in memory of any form (R184). -/
theorem cellGet_cleared (m : DevMem) (b n x : Nat) :
    cellGet (clearBlocks m b n).cells x = if b * 4096 ≤ x ∧ x < (b + n) * 4096 then 0 else cellGet m.cells x := by
  rw [clearBlocks, cellGet_filter_keys (fun a => !(decide (b * 4096 ≤ a) && decide (a < (b + n) * 4096)))]
  by_cases hin : b * 4096 ≤ x ∧ x < (b + n) * 4096
  · rw [if_pos hin, if_neg (by simp [hin])]
  · rw [if_neg hin, if_pos (by rw [← Bool.decide_and, decide_eq_false hin]; rfl)]

/-- What holds of every function's record, and of the record of a function without one, holds of whatever a function reads as. -/
theorem func_of_all {P : Func → Prop} {s : State} (h0 : P {}) (h : ∀ f ∈ s.funcs, P f.2) (fn : Nat) : P (func s fn) := by
  have hAll : ∀ m : NMap Func, (∀ f ∈ m, P f.2) → P (mget m fn {}) := fun m => by
    induction m with
    | nil => exact fun _ => h0
    | cons f r ih =>
      intro hm
      rw [mget]
      split
      · exact hm f List.mem_cons_self
      · exact ih fun g hg => hm g (List.mem_cons_of_mem _ hg)
  exact hAll s.funcs h

/-- An event leaves every front desk as it was: of functions it changes what its interrupts change. -/
@[simp] theorem raise_fd (b i fn : Nat) (s : State) : (func (raise b i s) fn).fd = (func s fn).fd :=
  (ite_msix_fd _ _ _ fn _).trans (ite_msix_fd _ _ _ fn _)

/-- Where no front desk runs a removal, none completes. -/
theorem removeCheck_idle {s : State} (h : ∀ fn x op rm es, (func s fn).fd.running ≠ some (x, op, .remove rm es)) : removeCheck s = s := by
  refine List.foldl_fixed' (fun f => ?_) s.funcs
  split
  · next hrun => exact absurd hrun (h _ _ _ _ _)
  · rfl

/-- An extent at the end of its reclaiming (R190): it has no record, and its memory is clear. -/
def freedExtent (e : Nat) (s : State) : State := putExt e none { s with mem := clearBlocks s.mem (e * 262144) 262144 }

theorem reclaimDone_reclaiming {s : State} {e : Nat} {x : Extent} (hx : mfind s.mem.extents e = some x) (hst : x.st = .reclaiming) :
    reclaimDone e s = raise 1 4 (freedExtent e s) := by
  rw [reclaimDone, hx]
  exact if_pos hst

theorem mfind_freedExtent (e : Nat) (s : State) : mfind (freedExtent e s).mem.extents e = none := mfind_mdel_self _ e

theorem cellGet_freedExtent (e a : Nat) (s : State) :
    cellGet (freedExtent e s).mem.cells a = if e * 2 ^ 30 ≤ a ∧ a < (e + 1) * 2 ^ 30 then 0 else cellGet s.mem.cells a := by
  have hBlocks : (e * 262144 * 4096 ≤ a ∧ a < (e * 262144 + 262144) * 4096) = (e * 2 ^ 30 ≤ a ∧ a < (e + 1) * 2 ^ 30) := by
    rw [eq_iff_iff]; omega
  refine (cellGet_cleared s.mem (e * 262144) 262144 a).trans ?_
  simp only [hBlocks]

theorem reclaimDone_completes {s : State} {e : Nat} {x : Extent} (hl : Live s) (hx : mfind s.mem.extents e = some x) (hst : x.st = .reclaiming)
    (hidle : ∀ f ∈ s.funcs, ∀ h op rm es, f.2.fd.running ≠ some (h, op, .remove rm es)) : Completes (.reclaimDone e) s fun t =>
      mfind t.mem.extents e = none ∧ evBit t 1 4 = true ∧
      (∀ a, e * 2 ^ 30 ≤ a → a < (e + 1) * 2 ^ 30 → cellGet t.mem.cells a = 0) ∧
      (∀ a, a < e * 2 ^ 30 ∨ (e + 1) * 2 ^ 30 ≤ a → cellGet t.mem.cells a = cellGet s.mem.cells a) := by
  have hNone : ∀ fn h op rm es, (func (raise 1 4 (freedExtent e s)) fn).fd.running ≠ some (h, op, .remove rm es) := fun fn => by
    rw [raise_fd]
    exact func_of_all (P := fun f => ∀ h op rm es, f.fd.running ≠ some (h, op, .remove rm es)) (fun _ _ _ _ => nofun) hidle fn
  have hRun : removeCheck (reclaimDone e s) = raise 1 4 (freedExtent e s) := by
    rw [reclaimDone_reclaiming hx hst, removeCheck_idle hNone]
  refine .of_act (f := fun u => removeCheck (reclaimDone e u)) rfl hl ?_
  rw [hRun]
  exact ⟨mfind_freedExtent e s, evBit_raise (by decide) 1 (freedExtent e s),
    fun a hlo hhi => (cellGet_freedExtent e a s).trans (if_pos ⟨hlo, hhi⟩),
    fun a hout => (cellGet_freedExtent e a s).trans (if_neg (by omega))⟩

end Sys2Proof.Machine

/-! ## What a front desk sends -/

namespace Sys2Proof.Machine

open Sys2Proof

/-! ### What is sent stays sent -/

section
variable {s : State} {o : Out}

theorem mem_out_msix (ho : o ∈ s.out) (fn v : Nat) : o ∈ (msix fn v s).out := by
  simp only [msix]
  split
  · exact ho
  · split
    · exact List.mem_cons_of_mem _ ho
    · exact ho

theorem mem_out_hostWrite (ho : o ∈ s.out) (p a : Nat) (d : List Byte) (ro : Bool) : o ∈ (hostWrite p a d ro s).out := by
  simp only [hostWrite]
  split
  · exact List.mem_append_right _ ho
  · exact ho

theorem mem_out_resolveLines (ho : o ∈ s.out) (a n : Nat) : o ∈ (resolveLines a n s).out := by
  rw [resolveLines]
  split
  · exact ho
  · exact List.mem_append_right _ ho

theorem mem_out_locWrite (ho : o ∈ s.out) (l : Loc) (d : List Byte) : o ∈ (locWrite l d s).out := by
  cases l with
  | host p a => exact mem_out_hostWrite ho p a d false
  | dev a => exact mem_out_resolveLines ho a d.length

theorem mem_out_putUnits (ho : o ∈ s.out) (d : List Byte) (ls : List Loc) : o ∈ (putUnits d s ls).out := by
  induction ls generalizing d s with
  | nil => exact ho
  | cons l ls ih => exact ih (mem_out_locWrite ho l _) _

end

/-! ### Responses that their ring takes (R1142) -/

/-- Where ring entries lie, and what stops them, depends on the charts, device memory, its errors and its expanders alone. -/
theorem ringSpots_of_parts {s t : State} (hr : t.rooms = s.rooms) (hm : t.mem = s.mem) (he : t.errs = s.errs) (hd : t.ds = s.ds) (fn : Nat)
    (q : Queue) (need : Need) (n : Nat) (i : BitVec 32) : ringSpots t fn q i need n = ringSpots s fn q i need n := by
  have ht : t = { t with rooms := s.rooms, mem := s.mem, errs := s.errs, ds := s.ds } := by rw [← hr, ← hm, ← he, ← hd]
  have hAt : ∀ a, ringAt t fn a need 16 = ringAt s fn a need 16 := fun a => by
    rw [ht]
    rfl
  induction n generalizing i with
  | zero => rfl
  | succ n ih => rw [ringSpots, ringSpots, hAt, ih]

/-- The response ring of a function has room for one response, whose two units can be written. -/
def ResponseFits (s : State) (fn : Nat) : Prop :=
  (func s fn).fd.resp.occupied + 2 ≤ 2 ^ (func s fn).fd.resp.log2 ∧
    (ringSpots s fn (func s fn).fd.resp (func s fn).fd.resp.prod .both 2).isOk = true

theorem Takes.responseFits {s : State} {h : FdHdr} {op : Nat} (ht : Takes s h op) : ResponseFits s h.fn := by
  obtain ⟨-, hReady, hSpots⟩ := ht
  simp only [fdReady, fdFree, Bool.and_eq_true, decide_eq_true_eq] at hReady
  obtain ⟨⟨⟨⟨-, hRoom⟩, -⟩, -⟩, -⟩ := hReady
  exact ⟨hRoom, hSpots⟩

theorem ResponseFits.of_parts {s t : State} {fn : Nat} (h : ResponseFits s fn) (hf : (func t fn).fd.resp = (func s fn).fd.resp)
    (hr : t.rooms = s.rooms) (hm : t.mem = s.mem) (he : t.errs = s.errs) (hd : t.ds = s.ds) : ResponseFits t fn := by
  rw [ResponseFits, hf, ringSpots_of_parts hr hm he hd]
  exact h

theorem length_respData (r : FdResp) (h : FdHdr) (op : Nat) : (r.data h op).length = 32 := by
  simp [FdResp.data, wordsLe, length_leBytes]

/-- A response that its ring takes sends what it sends, and takes nothing back. -/
theorem mem_out_putResp {s : State} {h : FdHdr} {o : Out} (ho : o ∈ s.out) (hfit : ResponseFits s h.fn) (op : Nat) (r : FdResp) :
    o ∈ (putResp h op r s).out := by
  obtain ⟨hRoom, hSpots⟩ := hfit
  obtain ⟨ls, hls⟩ : ∃ ls, ringSpots s h.fn (func s h.fn).fd.resp (func s h.fn).fd.resp.prod .both 2 = .ok ls := by
    cases hq : ringSpots s h.fn (func s h.fn).fd.resp (func s h.fn).fd.resp.prod .both 2 with
    | error e => rw [hq] at hSpots; cases hSpots
    | ok ls => exact ⟨ls, rfl⟩
  have hput : tryPut s h.fn (func s h.fn).fd.resp (r.data h op) = .ok (putUnits (r.data h op) s ls) := by
    rw [tryPut, length_respData, if_neg (by omega), hls]
  have hSent : o ∈ (putUnits (r.data h op) s ls).out := mem_out_putUnits ho _ ls
  simp only [putResp, hput]
  split
  · exact mem_out_msix (by exact hSent) _ _
  · exact hSent

theorem mem_out_fdAnswer {s : State} {h : FdHdr} {o : Out} (ho : o ∈ s.out) (hfit : ResponseFits s h.fn) (op : Nat) (r : FdResp) :
    o ∈ (fdAnswer h op r s).out := by
  rw [fdAnswer, ledgerOnly_out]
  dsimp only
  split
  · exact ho
  · refine mem_out_putResp ?_ (hfit.of_parts ?_ ?_ ?_ ?_ ?_) op r
    · exact ho
    · rw [func_modFunc]
    all_goals rfl

/-! ### Results in host memory (R301) -/

section
variable {s : State} {c : DCtx} {a n p x : Nat} {need : Need}

/-- What translates to a place in host memory is a host address. -/
theorem opndOf_of_xlateAt_host {k : Nat} (hx : xlateAt s c a n need = .ok (.host p x, k)) : c.dpa = false ∧ ∃ y, opndOf s c a = .host y := by
  simp only [xlateAt] at hx
  split at hx
  · cases hx
  · next hdpa =>
    refine ⟨Bool.eq_false_iff.2 hdpa, ?_⟩
    split at hx
    · cases hx
    · repeat' split at hx
      all_goals cases hx
    · next y hy => exact ⟨y, hy⟩

theorem xlateAt_of_resolve {g : Seg} (hr : resolve s c a n need = ([g], none)) : xlateAt s c a n need = .ok (g.loc, g.len) := by
  rw [resolve, resolveGo] at hr
  split at hr
  · cases hr
  · split at hr
    · cases hr
    · next l k hx =>
      split at hr
      · cases hr
      · obtain ⟨rfl, -⟩ := List.cons.inj (Prod.mk.inj hr).1
        exact hx

/-- The translation of a host address changes its cache and its counters. -/
theorem useSeg_host {g : Seg} {y : Nat} (hd : c.dpa = false) (hy : opndOf s c (a + g.off) = .host y) :
    ∃ tc cn, useSeg c a g s = { s with tcache := tc, cnt := cn } := by
  rw [useSeg, hd, if_neg Bool.false_ne_true, hy]
  dsimp only
  split
  · next e he =>
    have hIn : s.tcache.contains e = true := List.contains_iff_mem.2 (List.mem_of_find?_eq_some he)
    rw [tlbUse, if_pos hIn]
    exact ⟨_, _, rfl⟩
  · exact ⟨s.tcache, s.cnt, rfl⟩

/-- A write that lies in the host memory of one port is sent there, and changes no more than that memory, the translation cache and counters. -/
theorem writeEff_host {d : List Byte} (hr : resolve s c a d.length .write = ([{ off := 0, loc := .host p x, len := d.length }], none))
    (hup : (hport s p).st = .up) : ∃ hm tc cn, writeEff c a d s =
      { s with hmem := hm, tcache := tc, cnt := cn, out := (writesOf s p x d true).reverse ++ s.out } := by
  obtain ⟨hdpa, y, hy⟩ := opndOf_of_xlateAt_host (xlateAt_of_resolve hr)
  obtain ⟨tc, cn, hUse⟩ := useSeg_host (g := { off := 0, loc := .host p x, len := d.length }) hdpa hy
  have hWrite : hostWrite p x d true { s with tcache := tc, cnt := cn } =
      { s with hmem := mset s.hmem p (cellSets (hostCells s p) x d), tcache := tc, cnt := cn, out := (writesOf s p x d true).reverse ++ s.out } := by
    have hup' : (hport { s with tcache := tc, cnt := cn } p).st = .up := hup
    simp only [hostWrite, hup']
    rfl
  refine ⟨mset s.hmem p (cellSets (hostCells s p) x d), tc, cn, ?_⟩
  simp only [writeEff, hr, List.foldl_cons, List.foldl_nil, hUse, writeSeg, List.drop_zero, List.take_length, hWrite]
  rfl

end

/-! ### The query of extents (R192) -/

theorem length_extentBytes (s : State) (e : Nat) : (extentBytes s e).length = 2 := by
  rw [extentBytes]
  split <;> rfl

/-- What MEM_QUERY writes at RESULT_ADDR: two bytes for each extent. -/
def queryBytes (s : State) (first count : Nat) : List Byte := (List.range count).flatMap (fun i => extentBytes s (first + i))

theorem length_queryBytes (s : State) (first count : Nat) : (queryBytes s first count).length = 2 * count := by
  simp [queryBytes, length_extentBytes, Nat.mul_comm]

theorem memQuery_completes {s : State} {h : FdHdr} {first count p a : Nat} (ht : InnTakes s h 0x12) (hres : badResultAddr s h = false)
    (hc0 : count ≠ 0) (hc : count ≤ 4096) (ha : h.resultAddr ≠ 0)
    (hr : resolve s (fdCtx s h 6) h.resultAddr (2 * count) .write = ([{ off := 0, loc := .host p a, len := 2 * count }], none))
    (hup : (hport s p).st = .up) :
    Completes (.memQuery h first count) s fun t => ∀ o ∈ writesOf s p a (queryBytes s first count) true, o ∈ t.out := by
  obtain ⟨hTakes, hInn⟩ := ht
  have hOwn : firstBadOf [(!isInn s h.fn, 6), (badResultAddr s h, 5), (decide (count = 0) || decide (4096 < count), 4)] = none := by
    simp [firstBadOf, hInn, hres, hc0, Nat.not_lt.2 hc]
  rw [← length_queryBytes s first count] at hr
  obtain ⟨hm, tc, cn, hWrite⟩ := writeEff_host hr hup
  have hStop : writeStop s (fdCtx s h 6) h.resultAddr (queryBytes s first count).length = none := by
    simp only [writeStop, hr, firstStop, segWriteBad]
  have hQuery : memQuery h first count s = fdAnswer h 0x12 {} (writeEff (fdCtx s h 6) h.resultAddr (queryBytes s first count) s) := by
    rw [memQuery, frontDesk_takes hTakes _ hOwn, fdResult, if_neg ha, ← queryBytes, hStop]
  refine .of_act rfl hTakes.1 fun o ho => ?_
  rw [hQuery, hWrite]
  refine mem_out_fdAnswer ?_ (hTakes.responseFits.of_parts ?_ ?_ ?_ ?_ ?_) 0x12 {}
  · exact List.mem_append_left _ (List.mem_reverse.2 ho)
  all_goals rfl

/-- Settles O9: a command on several extents changes each in its turn, and the query is one write to host memory before the answer. -/
theorem extentsMoveBetweenRooms : Obligations.ExtentsMoveBetweenRooms :=
  ⟨fun _ _ _ _ ht hn0 hn hr hfree => memGrant_completes ht hn0 hn hr hfree,
    fun _ _ _ _ _ ht hn0 hn hrec => memReclaim_completes ht hn0 hn hrec,
    fun _ _ _ hl hx hst hidle => reclaimDone_completes hl hx hst hidle,
    fun _ _ _ _ _ _ ht hres hc0 hc ha hr hup => memQuery_completes ht hres hc0 hc ha hr hup⟩

end Sys2Proof.Machine

/-! ## Copies over device memory -/

namespace Sys2Proof.Machine

open Sys2Proof

/-! ### Bytes laid over device memory -/

/-- A memory is another one with bytes laid over it from an address on, and stands in canonical form. -/
structure Overlaid (m n : DevMem) (a : Nat) (d : List Byte) : Prop where
  wf : Memory.wf n.cells = true
  reads : ∀ x, cellGet n.cells x = if a ≤ x ∧ x < a + d.length then d.getD (x - a) 0 else cellGet m.cells x

theorem Overlaid.nil {m : DevMem} (h : Memory.wf m.cells = true) (a : Nat) : Overlaid m m a [] :=
  ⟨h, fun x => (if_neg (by rw [List.length_nil]; omega)).symm⟩

/-- Bytes laid over memory one run after the other are laid over it as one run. -/
theorem Overlaid.append {m n o : DevMem} {a : Nat} {d e : List Byte} (h : Overlaid m n a d) (h' : Overlaid n o (a + d.length) e) :
    Overlaid m o a (d ++ e) := by
  refine ⟨h'.wf, fun x => ?_⟩
  rw [h'.reads, h.reads, List.length_append]
  by_cases hSecond : a + d.length ≤ x ∧ x < a + d.length + e.length
  · rw [if_pos hSecond, if_pos (by omega), List.getD_append_right _ _ _ _ (by omega), Nat.sub_add_eq]
  · rw [if_neg hSecond]
    by_cases hFirst : a ≤ x ∧ x < a + d.length
    · rw [if_pos hFirst, if_pos (by omega), List.getD_append _ _ _ _ (by omega)]
    · rw [if_neg hFirst, if_neg (by omega)]

theorem overlaid_memStore {m : DevMem} (h : Memory.wf m.cells = true) (a : Nat) (d : List Byte) : Overlaid m (memStore m a d) a d :=
  ⟨memStore_wf m a d h, fun x => cellGet_memStore m a d x h⟩

/-- Clearing whole blocks lays zeroes over them (R184). -/
theorem overlaid_clearBlocks {m : DevMem} (h : Memory.wf m.cells = true) (b n : Nat) :
    Overlaid m (clearBlocks m b n) (b * 4096) (List.replicate (n * 4096) 0) := by
  refine ⟨clearBlocks_wf m b n h, fun x => ?_⟩
  rw [cellGet_clearBlocks m b n x h, List.length_replicate, Nat.add_mul]
  split
  · rw [List.getD_replicate _ (by omega)]
  · rfl

theorem Overlaid.lands {s t : State} {a : Nat} {d : List Byte} (h : Overlaid s.mem t.mem a d) : Lands s t a d :=
  ⟨fun k hk => by rw [h.reads, if_pos (by omega), Nat.add_sub_cancel_left], fun x hx => by rw [h.reads, if_neg (by omega)]⟩

/-- An access to data keeps the bytes that it leaves. -/
theorem overlaid_dataOnly {s r : State} {m : DevMem} {a : Nat} {d : List Byte} (h : Overlaid m r.mem a d) : Overlaid m (dataOnly s r).mem a d :=
  ⟨h.wf, h.reads⟩

theorem wf_of_memWf {s : State} (h : s.memWf = true) : Memory.wf s.mem.cells = true := by
  simp only [State.memWf, Bool.and_eq_true] at h
  exact h.1.1

theorem listed_of_memWf {s : State} (h : s.memWf = true) : s.mem.listed := by
  simp only [State.memWf, Bool.and_eq_true] at h
  exact h.2

/-! ### Access by DPA (R202) -/

section
variable {s : State} {c : DCtx} {a n : Nat}

theorem resolve_dpa (hc : c.dpa = true) (hn : n ≠ 0) (need : Need) : resolve s c a n need = ([{ off := 0, loc := .dev a, len := n }], none) := by
  have hx : xlateAt s c a n need = .ok (.dev a, n) := if_pos hc
  simp [resolve, resolveGo, hx, hn]

theorem useSeg_dpa (hc : c.dpa = true) (g : Seg) : useSeg c a g s = s := if_pos hc

theorem writeStop_dpa (hc : c.dpa = true) (hn : n ≠ 0) (hf : anyFrozen s a n = false) (hb : firstBadW s a n = none) : writeStop s c a n = none := by
  simp [writeStop, resolve_dpa hc hn, firstStop, segWriteBad, hf, hb]

theorem readStop_dpa (hc : c.dpa = true) (hn : n ≠ 0) (hf : anyFrozen s a n = false) (hb : firstBad s a n = none) : readStop s c a n = none := by
  simp [readStop, resolve_dpa hc hn, firstStop, segReadBad, hf, hb]

theorem peekData_dpa (hc : c.dpa = true) (hn : n ≠ 0) (need : Need) : peekData s c a n need = devRead s a n := by
  simp [peekData, resolve_dpa hc hn, segBytes]

theorem writeEff_dpa_mem (hc : c.dpa = true) {d : List Byte} (hd : d.length ≠ 0) : (writeEff c a d s).mem = memStore s.mem a d := by
  simp [writeEff, resolve_dpa hc hd, writeSeg, useSeg_dpa hc, dataOnly, devWrite, memStore]

/-- Where no line that is read holds a correctable error, reading corrects nothing (R957). -/
theorem correctRange_clean (h : ∀ l ∈ s.mem.latentCe, l < a / 64 ∨ (a + n - 1) / 64 < l) : correctRange a n s = s := by
  have hNone : s.mem.latentCe.filter (fun l => decide (a / 64 ≤ l) && decide (l ≤ (a + n - 1) / 64) && s.mem.valid.contains (l / 64)) = [] := by
    refine List.filter_eq_nil_iff.2 fun l hl => ?_
    have hOut := h l hl
    simp only [Bool.and_eq_true, decide_eq_true_eq]
    omega
  rw [correctRange, hNone]
  exact ite_self s

theorem readEff_dpa_mem (hc : c.dpa = true) (hn : n ≠ 0) (h : ∀ l ∈ s.mem.latentCe, l < a / 64 ∨ (a + n - 1) / 64 < l) :
    (readEff c a n s).mem = s.mem := by
  have hMem : (countRead a n (resolveLines a n s)).mem = s.mem := by rw [countRead_mem, resolveLines_mem]
  have hClean : correctRange a n (countRead a n (resolveLines a n s)) = countRead a n (resolveLines a n s) :=
    correctRange_clean (by rw [hMem]; exact h)
  simp [readEff, resolve_dpa hc hn, readSegEff, useSeg_dpa hc, hClean, dataOnly]

end

/-! ### A copy command in the midst of its list -/

section
variable {s : State} {h : CmdHdr} {op cls rm : Nat} {own : State → Room → Option Nat}

/-- What holds of the memory that a command's body leaves, whatever list records it begins with, holds of what the command leaves. -/
theorem engine_withPins_mem (hp : Plain h) (ho : op ≠ 3) (hb : Begins s h op cls own rm) {l : List Nat} {body : ListRec → State → CEnd × State}
    {n : Nat} {P : DevMem → Prop} (hbody : ∀ r L, (body r { s with lists := L }).1 = { bytes := n } ∧ P (body r { s with lists := L }).2.mem) :
    P (engine h op cls own (withPins l body) s).mem := by
  have hPins : ∀ r L, (withPins l body r { s with lists := L }).1 = { bytes := n } ∧ P (withPins l body r { s with lists := L }).2.mem := fun r L => by
    rw [withPins]
    split
    · exact hbody r L
    · exact hbody _ (putList _ L)
  obtain ⟨hEnd, hMem⟩ := hPins (begun s h op rm) (putList (begun s h op rm) s.lists)
  obtain ⟨-, hWait, hEpoch, -⟩ := id hp
  have hEnd' : (withPins l body (begun s h op rm) (begunState s h op rm)).1 = { bytes := n } := hEnd
  rw [engine_begins hWait hEpoch hb, hEnd', endCmd_plain hp ho]
  exact hMem

end

/-! ### COPY_FILL (R201) -/

section
variable {s : State} {h : CmdHdr} {dst len rm : Nat}

theorem length_patternBytes (p : Word) (n : Nat) : (patternBytes p n).length = n := by simp [patternBytes]

theorem getD_patternBytes (p : Word) {n i : Nat} (hi : i < n) : (patternBytes p n).getD i 0 = BitVec.ofNat 8 (p.toNat / 2 ^ (8 * (i % 8))) := by
  simp [patternBytes, hi]

theorem copyFill_dpa {c : DCtx} (hc : c.dpa = true) (hlen : len ≠ 0) (hwf : Memory.wf s.mem.cells = true) (hf : anyFrozen s dst len = false)
    (hb : firstBadW s dst len = none) (p : Word) :
    (copyFill c dst len p s).1 = { bytes := len } ∧ Overlaid s.mem (copyFill c dst len p s).2.mem dst (patternBytes p len) := by
  rw [copyFill, writeStop_dpa hc hlen hf hb]
  refine ⟨rfl, ?_⟩
  rw [writeEff_dpa_mem hc (by rwa [length_patternBytes])]
  exact overlaid_memStore hwf dst _

theorem copyFill_completes (hp : Plain h) (hb : Begins s h 0x21 6 (copyBad h [dst] len true) rm) (hlen : len ≠ 0) (hw : s.memWf = true)
    (hf : anyFrozen s dst len = false) (hbad : firstBadW s dst len = none) (p : Word) :
    Completes (.copyFill h dst len true p) s fun t => Lands s t dst (patternBytes p len) :=
  .of_act rfl hb.1 (Overlaid.lands (engine_withPins_mem hp (by decide) hb (P := fun m => Overlaid s.mem m dst (patternBytes p len))
    fun _ L => copyFill_dpa (s := { s with lists := L }) rfl hlen (wf_of_memWf hw) hf hbad p))

end

/-! ### COPY_MOVE (R201, R204, R205) -/

section
variable {s : State} {c : DCtx} {dst src len : Nat}

theorem getD_cellGets (m : List Host.Cell) (a : Nat) {n i : Nat} (hi : i < n) : (cellGets m a n).getD i 0 = cellGet m (a + i) := by
  simp [cellGets, hi]

@[simp] theorem length_devRead (s : State) (a n : Nat) : (devRead s a n).length = n := by
  rw [devRead]
  split <;> simp [cellGets]

/-- Outside the chart pool and the window table a byte reads as its cell. -/
theorem getD_devRead {a n i : Nat} (hi : i < n) (hout : ¬ (0x3C000000 ≤ a + i ∧ a + i < 0x40000000)) :
    (devRead s a n).getD i 0 = cellGet s.mem.cells (a + i) := by
  rw [devRead]
  split
  · have hNone : tableByte s (a + i) = none := by
      rw [tableByte, if_neg (by omega), if_neg (by omega)]
    simp [hi, hNone]
  · exact getD_cellGets _ a hi

/-- A byte of a block whose valid bit is clear reads zero (R184). -/
theorem cellGet_invalid {m : DevMem} (hm : m.listed) {x : Nat} (hx : x / 4096 ∉ m.valid) : cellGet m.cells x = 0 := by
  have hNot : ∀ y ∈ m.cells, y.1 ≠ x := fun y hy he => hx (by
    have hValid := List.all_eq_true.1 hm y hy
    rwa [he, List.contains_iff_mem] at hValid)
  have hZero : ∀ l : List Host.Cell, (∀ y ∈ l, y.1 ≠ x) → cellGet l x = 0 := fun l hl => by
    induction l with
    | nil => rfl
    | cons y r ih =>
      rw [cellGet, mget, if_neg (hl y List.mem_cons_self)]
      exact ih fun z hz => hl z (List.mem_cons_of_mem _ hz)
  exact hZero m.cells hNot

/-- A block that the source holds no data for reads zero. -/
theorem srcClear_zero (hc : c.dpa = true) (hm : s.mem.listed) {off : Nat} (h : srcClear s c src off = true) :
    ∀ i, i < 4096 → (devRead s src len).getD (off + i) 0 = 0 := by
  simp only [srcClear, resolve_dpa hc (show 4096 ≠ 0 by decide), Bool.and_eq_true, Bool.not_eq_true', decide_eq_true_eq, Bool.and_eq_false_iff,
    decide_eq_false_iff_not] at h
  obtain ⟨⟨⟨-, hAlign⟩, hValid⟩, hOut⟩ := h
  intro i hi
  by_cases hlen : off + i < len
  · have hBlock : (src + (off + i)) / 4096 = (src + off) / 4096 := by omega
    rw [getD_devRead hlen (by omega), cellGet_invalid hm]
    rw [hBlock, ← List.contains_iff_mem, hValid]
    exact Bool.false_ne_true
  · rw [List.getD_eq_default _ _ (by rw [length_devRead]; omega)]

/-- How much of the destination block at an offset a copy covers. -/
def destBlockLen (dst len off : Nat) : Nat := min (4096 - (dst + off) % 4096) (len - off)

/-- It stays within the block and the copy, and reaches the end of one of them. -/
theorem destBlockLen_spec {dst len off : Nat} (h : off < len) : 0 < destBlockLen dst len off ∧ destBlockLen dst len off ≤ len - off ∧
    (dst + off) % 4096 + destBlockLen dst len off ≤ 4096 ∧
    (destBlockLen dst len off = len - off ∨ (dst + off) % 4096 + destBlockLen dst len off = 4096) := by
  rw [destBlockLen]
  omega

theorem take_of_zero {data : List Byte} {off k : Nat} (hk : k ≤ data.length - off) (h : ∀ i, i < k → data.getD (off + i) 0 = 0) :
    (data.drop off).take k = List.replicate k 0 := by
  have hLen : ((data.drop off).take k).length = k := by rw [List.length_take, List.length_drop, Nat.min_eq_left hk]
  refine List.ext_getElem (by rw [hLen, List.length_replicate]) fun i hi _ => ?_
  rw [List.getElem_take, List.getElem_drop, List.getElem_replicate, ← h i (by omega), List.getD_eq_getElem]

section
variable {data : List Byte} {clear : Nat → Bool} {off : Nat}

/-- A copy of data takes its next block: it clears the block where the source's is clear, and writes it otherwise (R205). -/
theorem copyBlocks_step (hc : c.dpa = true) (hoff : off < data.length) (n : Nat) :
    ∃ t, copyBlocks c dst data clear (n + 1) off s = copyBlocks c dst data clear n (off + destBlockLen dst data.length off) t ∧
      t.mem = if destBlockLen dst data.length off = 4096 ∧ clear off = true then clearBlocks s.mem ((dst + off) / 4096) 1
        else memStore s.mem (dst + off) ((data.drop off).take (destBlockLen dst data.length off)) := by
  refine ⟨_, by rw [copyBlocks, if_neg (Nat.not_le.2 hoff)]; rfl, ?_⟩
  rw [show Nat.min (4096 - (dst + off) % 4096) (data.length - off) = destBlockLen dst data.length off from rfl]
  obtain ⟨hPos, hLe, -⟩ := destBlockLen_spec (dst := dst) hoff
  have hLen : ((data.drop off).take (destBlockLen dst data.length off)).length ≠ 0 := by
    rw [List.length_take, List.length_drop]
    omega
  by_cases hClear : destBlockLen dst data.length off = 4096 ∧ clear off = true
  · rw [if_pos hClear, if_pos (by simp [hClear]), resolve_dpa hc (by decide)]
    simp [useSeg_dpa hc, dataOnly, clearBlocks]
  · rw [if_neg hClear, if_neg (by simpa using hClear), writeEff_dpa_mem hc hLen]

/-- Either way the block holds its part of the data, which is zero where the source's block is clear. -/
theorem overlaid_step (hwf : Memory.wf s.mem.cells = true) (hoff : off < data.length)
    (hclear : clear off = true → ∀ i, i < 4096 → data.getD (off + i) 0 = 0) :
    Overlaid s.mem (if destBlockLen dst data.length off = 4096 ∧ clear off = true then clearBlocks s.mem ((dst + off) / 4096) 1
        else memStore s.mem (dst + off) ((data.drop off).take (destBlockLen dst data.length off))) (dst + off)
      ((data.drop off).take (destBlockLen dst data.length off)) := by
  obtain ⟨-, hLe, hIn, -⟩ := destBlockLen_spec (dst := dst) hoff
  split
  · next hz =>
    obtain ⟨hk, hz⟩ := hz
    rw [hk] at hLe hIn ⊢
    have hAlign : (dst + off) / 4096 * 4096 = dst + off := by omega
    have hBlock := overlaid_clearBlocks hwf ((dst + off) / 4096) 1
    rwa [take_of_zero hLe (hclear hz), ← hAlign, Nat.mul_div_cancel _ (by decide)]
  · exact overlaid_memStore hwf _ _

end

theorem overlaid_copyBlocks (hc : c.dpa = true) {data : List Byte} {clear : Nat → Bool}
    (hclear : ∀ off, clear off = true → ∀ i, i < 4096 → data.getD (off + i) 0 = 0) :
    ∀ (n off : Nat) (s : State), Memory.wf s.mem.cells = true → (data.length ≤ off ∨ (dst + off) % 4096 + (data.length - off) ≤ 4096 * n) →
      Overlaid s.mem (copyBlocks c dst data clear n off s).mem (dst + off) (data.drop off)
  | n, off, s, hwf, hn => by
    by_cases hoff : off < data.length
    · cases n with
      | zero => omega
      | succ n =>
        obtain ⟨t, hrun, ht⟩ := copyBlocks_step (s := s) (dst := dst) (clear := clear) hc hoff n
        have hBlock := overlaid_step (dst := dst) hwf hoff (hclear off)
        rw [← ht] at hBlock
        obtain ⟨hPos, hLe, hIn, hEnd⟩ := destBlockLen_spec (dst := dst) hoff
        generalize destBlockLen dst data.length off = k at hrun hBlock hPos hLe hIn hEnd
        have hLen : ((data.drop off).take k).length = k := by rw [List.length_take, List.length_drop, Nat.min_eq_left hLe]
        have hRest := overlaid_copyBlocks hc hclear n (off + k) t hBlock.wf (by omega)
        rw [hrun, ← List.take_append_drop k (data.drop off), List.drop_drop]
        refine hBlock.append ?_
        rwa [hLen, Nat.add_assoc]
    · have hDone : copyBlocks c dst data clear n off s = s := by
        cases n with
        | zero => rfl
        | succ n => rw [copyBlocks, if_pos (Nat.not_lt.1 hoff)]
      rw [hDone, List.drop_eq_nil_of_le (Nat.not_lt.1 hoff)]
      exact .nil hwf _

theorem copyMove_dpa (hc : c.dpa = true) (hlen : len ≠ 0) (hw : s.memWf = true) (hfd : anyFrozen s dst len = false)
    (hfs : anyFrozen s src len = false) (hbd : firstBadW s dst len = none) (hbs : firstBad s src len = none)
    (hce : ∀ l ∈ s.mem.latentCe, l < src / 64 ∨ (src + len - 1) / 64 < l) :
    (copyMove c dst src len s).1 = { bytes := len } ∧ Overlaid s.mem (copyMove c dst src len s).2.mem dst (devRead s src len) := by
  have hRead : readStop s { c with acc := 5 } src len = none := readStop_dpa hc hlen hfs hbs
  have hWrite : writeStop s { c with acc := 6 } dst len = none := writeStop_dpa hc hlen hfd hbd
  have hMem : (readEff { c with acc := 5 } src len s).mem = s.mem := readEff_dpa_mem hc hlen hce
  simp only [copyMove, hRead, hWrite, earlier, peekData_dpa (c := { c with acc := 5 }) hc hlen]
  refine ⟨trivial, ?_⟩
  have hCopied := overlaid_copyBlocks (c := { c with acc := 6 }) (dst := dst) hc (data := devRead s src len) (clear := srcClear s { c with acc := 5 } src)
    (fun off h => srcClear_zero (c := { c with acc := 5 }) hc (listed_of_memWf hw) h) (len / 4096 + 2) 0 (readEff { c with acc := 5 } src len s)
    (by rw [hMem]; exact wf_of_memWf hw) (by rw [length_devRead]; omega)
  rwa [hMem, Nat.add_zero, List.drop_zero] at hCopied

theorem copyMove_completes {h : CmdHdr} {rm : Nat} (hp : Plain h) (hb : Begins s h 0x20 6 (copyBad h [dst, src] len true) rm) (hlen : len ≠ 0)
    (hw : s.memWf = true) (hfd : anyFrozen s dst len = false) (hfs : anyFrozen s src len = false) (hbd : firstBadW s dst len = none)
    (hbs : firstBad s src len = none) (hce : ∀ l ∈ s.mem.latentCe, l < src / 64 ∨ (src + len - 1) / 64 < l) :
    Completes (.copyMove h dst src len true) s fun t => Lands s t dst (devRead s src len) :=
  .of_act rfl hb.1 (Overlaid.lands (engine_withPins_mem hp (by decide) hb (P := fun m => Overlaid s.mem m dst (devRead s src len))
    fun _ L => copyMove_dpa (s := { s with lists := L }) rfl hlen hw hfd hfs hbd hbs hce))

end

/-! ### COPY_ZERO (R201, R206) -/

section
variable {s : State} {a n : Nat}

/-- A memory is another one with zeroes laid over it from one address up to another. -/
def Zeroed (m n : DevMem) (a b : Nat) : Prop := Overlaid m n a (List.replicate (b - a) 0)

theorem Zeroed.trans {m n o : DevMem} {a b c : Nat} (hab : a ≤ b) (hbc : b ≤ c) (h : Zeroed m n a b) (h' : Zeroed n o b c) : Zeroed m o a c := by
  have hBoth := Overlaid.append h (e := List.replicate (c - b) 0) (by rwa [List.length_replicate, Nat.add_sub_cancel' hab])
  rwa [List.replicate_append_replicate, show b - a + (c - b) = c - a by omega] at hBoth

theorem zeroed_clearBlocks {m : DevMem} (h : Memory.wf m.cells = true) (b c : Nat) : Zeroed m (clearBlocks m b (c - b)) (b * 4096) (c * 4096) := by
  have hBlocks := overlaid_clearBlocks h b (c - b)
  rwa [Nat.sub_mul] at hBlocks

/-- Zeroes are written up to an address, if it is not reached already. -/
theorem zeroed_devWrite {s : State} {m : DevMem} (hm : s.mem = m) (hwf : Memory.wf m.cells = true) {a b : Nat} (hab : a ≤ b) :
    Zeroed m (if a < b then devWrite a (List.replicate (b - a) 0) s else s).mem a b := by
  subst hm
  split
  · exact overlaid_memStore hwf a _
  · rw [Zeroed, show b - a = 0 by omega]
    exact .nil hwf a

/-- A piece in device memory is zero after COPY_ZERO: its whole blocks are cleared, the parts before and after them written (R206, R184). -/
theorem zeroed_zeroSeg (hwf : Memory.wf s.mem.cells = true) : Zeroed s.mem (zeroSeg { off := 0, loc := .dev a, len := n } s).mem a (a + n) := by
  rw [← resolveLines_mem a n s] at hwf ⊢
  simp only [zeroSeg]
  generalize resolveLines a n s = u at hwf
  split
  · next hBlocks =>
    have hHead := zeroed_devWrite (s := u) rfl hwf (show a ≤ (a + 4095) / 4096 * 4096 by omega)
    have hWhole := zeroed_clearBlocks hHead.wf ((a + 4095) / 4096) ((a + n) / 4096)
    refine hHead.trans (by omega) (by omega) (hWhole.trans (by omega) (by omega) (zeroed_devWrite ?_ hWhole.wf (by omega)))
    rfl
  · have hAll := overlaid_memStore hwf a (List.replicate n 0)
    rwa [Zeroed, Nat.add_sub_cancel_left]

theorem copyZero_dpa {c : DCtx} {dst len : Nat} (hc : c.dpa = true) (hlen : len ≠ 0) (hwf : Memory.wf s.mem.cells = true)
    (hbad : zeroBad s { off := 0, loc := .dev dst, len := len } = none) :
    (copyZero c dst len s).1 = { bytes := len } ∧ Overlaid s.mem (copyZero c dst len s).2.mem dst (List.replicate len 0) := by
  have hCut : cutSegs len [{ off := 0, loc := .dev dst, len := len }] = [{ off := 0, loc := .dev dst, len := len }] := by
    simp [cutSegs, Nat.pos_of_ne_zero hlen]
  simp only [copyZero, resolve_dpa hc hlen, firstStop, hbad, hCut, List.foldl_cons, List.foldl_nil, useSeg_dpa hc]
  have hZero := zeroed_zeroSeg (a := dst) (n := len) hwf
  rw [Zeroed, Nat.add_sub_cancel_left] at hZero
  exact ⟨trivial, overlaid_dataOnly hZero⟩

theorem copyZero_completes {h : CmdHdr} {dst len rm : Nat} (hp : Plain h) (hb : Begins s h 0x22 6 (copyBad h [dst] len true) rm) (hlen : len ≠ 0)
    (hw : s.memWf = true) (hbad : zeroBad s { off := 0, loc := .dev dst, len := len } = none) :
    Completes (.copyZero h dst len true) s fun t => Lands s t dst (List.replicate len 0) :=
  .of_act rfl hb.1 (Overlaid.lands (engine_withPins_mem hp (by decide) hb (P := fun m => Overlaid s.mem m dst (List.replicate len 0))
    fun _ L => copyZero_dpa (s := { s with lists := L }) rfl hlen (wf_of_memWf hw) hbad))

end

/-- Settles O11: each command lays its data over the destination, and the statement reads that data byte by byte. -/
theorem copiesMoveFillAndZero : Obligations.CopiesMoveFillAndZero := by
  refine ⟨fun s h dst len rm p hp hb hlen hw hf hbad => ?_, fun s h dst src len rm hp hb hlen hw hfd hfs hbd hbs hce => ?_,
    fun s h dst len rm hp hb hlen hw hbad => ?_⟩
  · refine (copyFill_completes hp hb hlen hw hf hbad p).imp fun t ⟨hData, hFrame⟩ => ?_
    rw [length_patternBytes] at hData hFrame
    exact ⟨fun i hi => (hData i hi).trans (getD_patternBytes p hi), hFrame⟩
  · refine (copyMove_completes hp hb hlen hw hfd hfs hbd hbs hce).imp fun t ⟨hData, hFrame⟩ => ?_
    rw [length_devRead] at hData hFrame
    exact ⟨hData, hFrame⟩
  · refine (copyZero_completes hp hb hlen hw hbad).imp fun t ⟨hData, hFrame⟩ => ?_
    rw [List.length_replicate] at hData hFrame
    exact ⟨fun i hi => (hData i hi).trans (List.getD_replicate _ hi), hFrame⟩

end Sys2Proof.Machine

/-! ## Harbour units that a record is written over -/

namespace Sys2Proof.Machine

open Sys2Proof

/-- The waiter of `overwrittenGrant`: list 0 of queue 1, which needs one unit. -/
def overwrittenWaiter : HarbourWait := { queue := 1, units := 1 }

/-- The list that waits there. -/
def overwrittenList : ListRec := { fn := 0, queue := 1, list := 0, cls := 2, room := 0, st := .onTile, tile := some 0 }

/-- A device of which a list waits for a unit of die 0, and a round holds unit 16, whose bank (bank 9, latch 25) is in FATAL. The Innkeeper's Ledger
lies in device memory, through a leaf of room 0's chart over the Harbour from unit 0 on. -/
def overwrittenGrant : State :=
  { State.reset with
    rooms := [(0, { st := .opened, resv0 := 16, leaves1 := [(0, { dpa := 0xF00000000000, write := true, read := true, atomic := false })] })]
    queues := [(qkey 0 0, { kind := .ledger, st := .active, base := 2 ^ 63 })]
    lists := [overwrittenList]
    errs := { latches := [(25, { st := 2 })] }
    mem := { waits := [(poolKey 0 0, [overwrittenWaiter])] }
    coll := { rounds := [{ tag := 7, gen := 0, seq := 0, kind := 5, ctrl := 0, pool := 0, die := 0, units := [16] }] } }

/-- The list is granted unit 0, whose valid bits are cleared (R197). -/
theorem takeUnits_overwrittenGrant : (takeUnits 0 1 (dropWaiter 0 0 overwrittenWaiter overwrittenGrant)).1 = [0] := by decide +kernel

/-- Settling the collectives then meets the round's lost unit (R592, R975), and its record sets a valid bit of unit 0 (R965, R184). -/
theorem valid_overwrittenGrant : unitBlock 0 0 ∈ (collRow (unitsGranted 0 0) overwrittenGrant).mem.valid := by decide +kernel

/-- Refutes O10: the second clause has no members and no nodes, but any rounds. One whose units lie in a lost bank is reported in the same step,
after the grant, and no hypothesis keeps the Ledger's ring off the units that were granted. -/
theorem not_harbourUnitsAreReservedAndGranted : ¬ Obligations.HarbourUnitsAreReservedAndGranted := by
  rintro ⟨-, hGrant⟩
  have hLive : Live overwrittenGrant := ⟨rfl, rfl, rfl⟩
  have hNext : nextGrant overwrittenGrant 0 0 = some overwrittenWaiter := by decide +kernel
  obtain ⟨t, hExec, x, -, hUnits, hClear⟩ := hGrant overwrittenGrant 0 0 overwrittenWaiter overwrittenList hLive rfl rfl hNext rfl (by decide +kernel)
  have hRun : exec (.harbourUnitsGranted 0 0) overwrittenGrant =
      .next (keep collectives overwrittenGrant (collRow (unitsGranted 0 0) overwrittenGrant)) := act_live hLive _ _
  obtain rfl := Host.Outcome.next.inj (hRun.symm.trans hExec)
  have hTaken : 0 ∈ x.hunits := by
    rw [hUnits, show overwrittenWaiter.units = 1 from rfl, takeUnits_overwrittenGrant]
    exact List.mem_singleton.2 rfl
  exact hClear 0 hTaken 0 (by decide) valid_overwrittenGrant

end Sys2Proof.Machine

/-! ## Translation services: invalidations, translations and page requests -/

namespace Sys2Proof.Machine

open Sys2Proof

/-! ### Invalidations (R232 to R234) -/

@[simp] theorem mem_tlbPurge {p : TEntry → Bool} {s : State} {e : TEntry} : e ∈ (tlbPurge p s).tcache ↔ e ∈ s.tcache ∧ p e = false := by
  simp [tlbPurge]

section
variable {s : State} (hl : Live s) {fn : Nat}
include hl

theorem invalidateRequest_completes (pasid addr size tag : Nat) (hroom : (s.invals.filter (fun x => x.1 == fn)).length < 32) :
    Completes (.invalidateRequest fn pasid addr size tag) s fun t =>
      (∀ e ∈ t.tcache, e ∈ s.tcache) ∧ (fn, tag) ∈ t.invals ∧
      (∀ d b n x r w, b < addr + size → addr < b + n → TEntry.host d fn pasid b n x r w ∉ t.tcache) ∧
      counter t 0x220120 = counter s 0x220120 + 1 := by
  refine .of_act rfl hl ?_
  rw [invalidateRequest, if_neg (Nat.not_le.2 hroom)]
  refine ⟨fun e he => (mem_tlbPurge.1 he).1, List.mem_append_right _ List.mem_cons_self, fun d b n x r w hb ha hin => ?_, ?_⟩
  · have hmiss := (mem_tlbPurge.1 hin).2
    simp [hb, ha] at hmiss
  · exact (counter_bump_ne (by decide) _).trans (counter_bump _ _)

theorem invalidateCompletion_completes {tag : Nat} (hin : (fn, tag) ∈ s.invals) (hup : (hport s (fnPort fn)).st = .up) :
    Completes (.invalidateCompletion fn tag) s fun t => t.out = .invalidated fn tag :: s.out ∧ t.invals = s.invals.erase (fn, tag) := by
  refine .of_act rfl hl ?_
  simp only [invalidateCompletion, List.contains_iff_mem.2 hin, if_true, hup]
  exact ⟨rfl, rfl⟩

end

/-! ### Outstanding translations -/

/-- What names an outstanding translation: its function, its PASID, whether a remote requester asks, and its page (R231). -/
def AtsReq.name (q : AtsReq) : Nat × Nat × Bool × Nat := (q.fn, q.pasid, q.remote, q.addr)

theorem atsFind_eq_find_name (s : State) (fn pasid : Nat) (remote : Bool) (a : Nat) :
    atsFind s fn pasid remote a = s.ats.find? (fun r => r.name = (fn, pasid, remote, a / 4096 * 4096)) := by
  simp only [atsFind, AtsReq.name, Prod.mk.injEq, Bool.decide_and, Bool.and_assoc]
  rfl

theorem atsFind_name {s : State} {fn pasid a : Nat} {remote : Bool} {q : AtsReq} (h : atsFind s fn pasid remote a = some q) :
    q.name = (fn, pasid, remote, a / 4096 * 4096) := by
  rw [atsFind_eq_find_name] at h
  simpa using List.find?_some h

theorem modAts_ats (q : AtsReq) (f : AtsReq → Option AtsReq) (s : State) :
    (modAts q f s).ats = s.ats.flatMap (fun r => if r.name = q.name then (f r).toList else [r]) := by
  simp only [modAts, AtsReq.name, Prod.mk.injEq]

/-- An outstanding translation that has been changed is found changed. -/
theorem atsFind_modAts_self {s : State} {fn pasid a : Nat} {remote : Bool} {q : AtsReq} {g : AtsReq → AtsReq}
    (hq : q.name = (fn, pasid, remote, a / 4096 * 4096)) (hg : ∀ r, (g r).name = r.name) :
    atsFind (modAts q (fun r => some (g r)) s) fn pasid remote a = (atsFind s fn pasid remote a).map g := by
  rw [atsFind_eq_find_name, atsFind_eq_find_name, modAts_ats, ← hq]
  induction s.ats with
  | nil => rfl
  | cons r l ih =>
    rw [List.flatMap_cons, List.find?_append, ih]
    by_cases hr : r.name = q.name <;> simp [hr, hg]

theorem atsFind_modAts_ne {s : State} {fn pasid a : Nat} {remote : Bool} {q : AtsReq} {g : AtsReq → AtsReq}
    (hq : q.name ≠ (fn, pasid, remote, a / 4096 * 4096)) (hg : ∀ r, (g r).name = r.name) :
    atsFind (modAts q (fun r => some (g r)) s) fn pasid remote a = atsFind s fn pasid remote a := by
  rw [atsFind_eq_find_name, atsFind_eq_find_name, modAts_ats]
  induction s.ats with
  | nil => rfl
  | cons r l ih =>
    rw [List.flatMap_cons, List.find?_append, ih, ← List.find?_append, List.find?_cons]
    by_cases hr : r.name = q.name
    · simp [hr, hg, hq]
    · simp [hr, List.find?_cons]

theorem atsFind_modAts_none {s : State} {fn pasid a : Nat} {remote : Bool} {q : AtsReq}
    (hq : q.name = (fn, pasid, remote, a / 4096 * 4096)) : atsFind (modAts q (fun _ => none) s) fn pasid remote a = none := by
  rw [atsFind_eq_find_name, modAts_ats, ← hq]
  simp

/-- The outstanding translations of a state after one is changed: each is as it was, or is one of that name, changed. -/
theorem mem_modAts {s : State} {q x : AtsReq} {g : AtsReq → AtsReq} (hx : x ∈ (modAts q (fun r => some (g r)) s).ats) :
    x ∈ s.ats ∧ x.name ≠ q.name ∨ ∃ r ∈ s.ats, x = g r := by
  rw [modAts_ats, List.mem_flatMap] at hx
  obtain ⟨r, hr, hxr⟩ := hx
  split at hxr
  · exact .inr ⟨r, hr, List.mem_singleton.1 hxr⟩
  · next hne =>
    obtain rfl := List.mem_singleton.1 hxr
    exact .inl ⟨hr, hne⟩

/-- A translation that has ended in a fault, which its access takes (R252). -/
def AtsReq.faulted (code : Nat) (r : AtsReq) : AtsReq := { r with stage := 4, fault := code }

theorem atsFind_atsFault {s : State} {fn pasid a : Nat} {remote : Bool} {q x : AtsReq} (hq : q.name = (fn, pasid, remote, a / 4096 * 4096))
    (hx : atsFind s fn pasid remote a = some x) (code : Nat) :
    ∃ y, atsFind (atsFault q code s) fn pasid remote a = some y ∧ y.fault = code :=
  ⟨x.faulted code, (atsFind_modAts_self (g := AtsReq.faulted code) hq fun _ => rfl).trans (congrArg (Option.map _) hx), rfl⟩

/-! ### Completions of translations (R220, R224, R226) -/

@[simp] theorem tlbReplace_ats (l : List TEntry) (e : TEntry) (s : State) : (tlbReplace l e s).ats = s.ats := by
  rw [tlbReplace]; split <;> rfl

@[simp] theorem tlbReplace_qps (l : List TEntry) (e : TEntry) (s : State) : (tlbReplace l e s).qps = s.qps := by
  rw [tlbReplace]; split <;> rfl

@[simp] theorem tlbFill_ats (e : TEntry) (s : State) : (tlbFill e s).ats = s.ats := by
  rw [tlbFill]; split <;> simp

@[simp] theorem tlbFill_qps (e : TEntry) (s : State) : (tlbFill e s).qps = s.qps := by
  rw [tlbFill]; split <;> simp

theorem mem_tlbReplace (l : List TEntry) (e : TEntry) (s : State) : e ∈ (tlbReplace l e s).tcache := by
  rw [tlbReplace]; split <;> exact List.mem_append_right _ List.mem_cons_self

theorem mem_tlbFill (e : TEntry) (s : State) : e ∈ (tlbFill e s).tcache := by
  rw [tlbFill]; split
  · exact mem_tlbReplace _ e s
  · exact mem_tlbReplace _ e s

/-- The translation that a completion answers is one that is outstanding, and is found. -/
theorem atsFind_answered {s : State} {fn pasid addr : Nat} {q : AtsReq}
    (hq : s.ats.find? (fun x => x.fn == fn && x.pasid == pasid && x.addr == addr / 4096 * 4096 && (x.stage == 0 || x.stage == 2)) = some q) :
    q.name = (fn, pasid, q.remote, addr / 4096 * 4096) ∧ ∃ x, atsFind s fn pasid q.remote addr = some x := by
  have hkey := List.find?_some hq
  simp only [Bool.and_eq_true, beq_iff_eq] at hkey
  obtain ⟨⟨⟨rfl, rfl⟩, hpage⟩, -⟩ := hkey
  have hname : q.name = (q.fn, q.pasid, q.remote, addr / 4096 * 4096) := by rw [← hpage]; rfl
  refine ⟨hname, Option.isSome_iff_exists.1 ?_⟩
  rw [atsFind_eq_find_name, List.find?_isSome]
  exact ⟨q, List.mem_of_find?_eq_some hq, decide_eq_true hname⟩

section
variable {s : State} (hl : Live s) (hidle : ∀ x ∈ s.qps, x.2.deferred = []) {fn pasid addr : Nat} {q : AtsReq}
include hl hidle

theorem translationCompletion_grants {size : Nat} (xaddr : Nat) {r w : Bool}
    (hq : s.ats.find? (fun x => x.fn == fn && x.pasid == pasid && x.addr == addr / 4096 * 4096 && (x.stage == 0 || x.stage == 2)) = some q)
    (hrw : (r || w) = true) (hsize : 2 ^ 21 ≤ size) :
    Completes (.translationCompletion fn pasid addr 0 size xaddr r w) s fun t =>
      grantEntry q size xaddr r w ∈ t.tcache ∧ atsFind t fn pasid q.remote addr = none := by
  have hno : (!r && !w) = false := by rw [← Bool.not_or, hrw]; rfl
  have hrun : translationCompletion fn pasid addr 0 size xaddr r w s =
      tlbFill (grantEntry q size xaddr r w) (modAts q (fun _ => none) s) := by
    simp only [translationCompletion, hq, ne_eq, not_true_eq_false, if_false, hno, Bool.false_eq_true, Nat.not_lt.2 hsize]
  refine .of_act (f := fun u => retryQps (translationCompletion fn pasid addr 0 size xaddr r w u)) rfl hl ?_
  rw [hrun, retryQps_idle (by rw [tlbFill_qps]; exact hidle)]
  refine ⟨mem_tlbFill _ _, ?_⟩
  have hats : (tlbFill (grantEntry q size xaddr r w) (modAts q (fun _ => none) s)).ats = _ := tlbFill_ats _ _
  exact (congrArg (List.find? _) hats).trans (atsFind_modAts_none (atsFind_answered hq).1)

theorem translationCompletion_unsupported (size xaddr : Nat) (r w : Bool)
    (hq : s.ats.find? (fun x => x.fn == fn && x.pasid == pasid && x.addr == addr / 4096 * 4096 && (x.stage == 0 || x.stage == 2)) = some q) :
    Completes (.translationCompletion fn pasid addr 1 size xaddr r w) s fun t =>
      (∃ x, atsFind t fn pasid q.remote addr = some x ∧ x.fault = 3) ∧ evBit t 2 1 = true ∧ t.tcache = s.tcache := by
  have hrun : translationCompletion fn pasid addr 1 size xaddr r w s = raise 2 1 (atsFault q 3 s) := by
    simp only [translationCompletion, hq, ne_eq, one_ne_zero, not_false_eq_true, if_true]
  obtain ⟨hname, x, hx⟩ := atsFind_answered hq
  refine .of_act (f := fun u => retryQps (translationCompletion fn pasid addr 1 size xaddr r w u)) rfl hl ?_
  rw [hrun, retryQps_idle (by exact hidle)]
  exact ⟨atsFind_atsFault hname hx 3, evBit_raise (by decide) 2 _, rfl⟩

end

/-! ### Page requests (R227 to R230) -/

theorem nextPageRequest_idle {s : State} {fn : Nat} (h : ∀ x ∈ s.ats, x.fn = fn → x.stage ≠ 3) : nextPageRequest fn s = s := by
  have hnone : s.ats.find? (fun r => r.fn == fn && r.stage == 3) = none := by
    rw [List.find?_eq_none]
    intro x hx hp
    simp only [Bool.and_eq_true, beq_iff_eq] at hp
    exact h x hx hp.1 hp.2
  rw [nextPageRequest, hnone]

/-- Sending a page request, or keeping it, changes the translations of its name, and neither events nor QPs. -/
theorem pageRequest_parts (q : AtsReq) (s : State) : ∃ g : AtsReq → AtsReq, (∀ r, (g r).name = r.name) ∧
    (pageRequest q s).ats = (modAts q (fun r => some (g r)) s).ats ∧ (pageRequest q s).events = s.events ∧ (pageRequest q s).qps = s.qps := by
  rw [pageRequest]
  split
  · exact ⟨fun r => { r with stage := 3 }, fun _ => rfl, rfl, rfl, rfl⟩
  · exact ⟨fun r => { r with stage := 1, due := elapsed s + BitVec.ofNat 64 (obj s 0x3010 1 10000 * 16000) }, fun _ => rfl, rfl, rfl, rfl⟩

theorem atsFind_pageRequest_ne {s : State} {fn pasid a : Nat} {remote : Bool} {q : AtsReq} (hq : q.name ≠ (fn, pasid, remote, a / 4096 * 4096)) :
    atsFind (pageRequest q s) fn pasid remote a = atsFind s fn pasid remote a := by
  obtain ⟨g, hg, hats, -⟩ := pageRequest_parts q s
  exact (congrArg (List.find? _) hats).trans (atsFind_modAts_ne hq hg)

/-- The next page request of a function leaves events, QPs, and every translation that does not wait to be requested. -/
theorem nextPageRequest_leaves {s : State} {pasid a : Nat} {remote : Bool} {fn' : Nat}
    (h : ∀ x ∈ s.ats, x.name = (fn', pasid, remote, a / 4096 * 4096) → x.stage ≠ 3) (fn : Nat) :
    atsFind (nextPageRequest fn s) fn' pasid remote a = atsFind s fn' pasid remote a ∧ (nextPageRequest fn s).events = s.events ∧
      (nextPageRequest fn s).qps = s.qps := by
  rw [nextPageRequest]
  split
  · next r hr =>
    have hstage := List.find?_some hr
    simp only [Bool.and_eq_true, beq_iff_eq] at hstage
    obtain ⟨-, -, -, hevents, hqps⟩ := pageRequest_parts r s
    exact ⟨atsFind_pageRequest_ne fun hname => h r (List.mem_of_find?_eq_some hr) hname hstage.2, hevents, hqps⟩
  · exact ⟨rfl, rfl, rfl⟩

/-- A translation that is requested again, once its page is present (R228). -/
def AtsReq.retried (r : AtsReq) : AtsReq := { r with stage := 2 }

/-- The state in which a translation has been requested again. -/
def requestedAgain (q : AtsReq) (s : State) : State := emit (.atsRequest q.fn q.pasid q.addr) (modAts q (fun r => some r.retried) s)

section
variable {s : State} (hl : Live s) (hidle : ∀ x ∈ s.qps, x.2.deferred = []) {fn pasid addr : Nat} {q : AtsReq}
  (hq : atsFind s fn pasid false addr = some q) (hstage : q.stage = 1)
include hl hidle hq hstage

theorem pageRequestResponse_asks_again (hwait : ∀ x ∈ s.ats, x.fn = fn → x.stage ≠ 3) :
    Completes (.pageRequestResponse fn pasid addr 0) s fun t =>
      Out.atsRequest fn pasid q.addr ∈ t.out ∧ ∃ x, atsFind t fn pasid false addr = some x ∧ x.stage = 2 := by
  have hname := atsFind_name hq
  obtain ⟨rfl, rfl, -, -⟩ : q.fn = fn ∧ q.pasid = pasid ∧ _ ∧ _ := by simpa only [AtsReq.name, Prod.mk.injEq] using hname
  have hnext : nextPageRequest q.fn (requestedAgain q s) = requestedAgain q s := nextPageRequest_idle fun x hx hfn => by
    obtain ⟨hx, -⟩ | ⟨r, -, rfl⟩ := mem_modAts (g := AtsReq.retried) hx
    · exact hwait x hx hfn
    · exact (by decide : 2 ≠ 3)
  have hrun : pageRequestResponse q.fn q.pasid addr 0 s = requestedAgain q s := by
    simp only [pageRequestResponse, hq, hstage, ne_eq, not_true_eq_false, if_false, if_true]
    exact hnext
  have hfind : atsFind (requestedAgain q s) q.fn q.pasid false addr = some q.retried :=
    (atsFind_modAts_self (g := AtsReq.retried) hname fun _ => rfl).trans (congrArg (Option.map _) hq)
  refine .of_act (f := fun u => retryQps (pageRequestResponse q.fn q.pasid addr 0 u)) rfl hl ?_
  rw [hrun, retryQps_idle (by exact hidle)]
  exact ⟨List.mem_cons_self, q.retried, hfind, rfl⟩

theorem priTimeout_faults (hdue : reached q.due (elapsed s) = true) :
    Completes (.priTimeout fn pasid addr) s fun t => (∃ x, atsFind t fn pasid false addr = some x ∧ x.fault = 5) ∧ evBit t 2 3 = true := by
  have hrun : priTimeout fn pasid addr s = nextPageRequest fn (raise 2 3 (atsFault q 5 s)) := by
    simp only [priTimeout, hq, hstage, hdue, decide_true, Bool.and_self, if_true]
  have hended : ∀ x ∈ (raise 2 3 (atsFault q 5 s)).ats, x.name = (fn, pasid, false, addr / 4096 * 4096) → x.stage ≠ 3 := fun x hx hname => by
    obtain ⟨-, hne⟩ | ⟨r, -, rfl⟩ := mem_modAts (g := AtsReq.faulted 5) hx
    · exact absurd (hname.trans (atsFind_name hq).symm) hne
    · exact (by decide : 4 ≠ 3)
  obtain ⟨hfind, hevents, hqps⟩ := nextPageRequest_leaves hended fn
  obtain ⟨y, hy, hfault⟩ := atsFind_atsFault (atsFind_name hq) hq 5
  refine .of_act (f := fun u => retryQps (priTimeout fn pasid addr u)) rfl hl ?_
  rw [hrun, retryQps_idle (by rw [hqps]; exact hidle)]
  refine ⟨⟨y, hfind.trans hy, hfault⟩, ?_⟩
  have hbit : evBit (nextPageRequest fn (raise 2 3 (atsFault q 5 s))) 2 3 = evBit (raise 2 3 (atsFault q 5 s)) 2 3 := by
    rw [evBit, evReg, hevents]
    rfl
  exact hbit.trans (evBit_raise (by decide) 2 _)

end

/-- Settles O8, service by service: a change to one translation is found under its name, and leaves every other name. -/
theorem translationServicesAnswer : Obligations.TranslationServicesAnswer := by
  unfold Obligations.TranslationServicesAnswer
  exact ⟨
    fun _ _ pasid addr size tag hl hroom => invalidateRequest_completes hl pasid addr size tag hroom,
    fun _ _ _ hl hin hup => invalidateCompletion_completes hl hin hup,
    fun _ _ _ _ _ xaddr _ _ _ hl hidle hq hrw hsize => translationCompletion_grants hl hidle xaddr hq hrw hsize,
    fun _ _ _ _ size xaddr r w _ hl hidle hq => translationCompletion_unsupported hl hidle size xaddr r w hq,
    fun _ _ _ _ _ hl hidle hq hstage hwait => pageRequestResponse_asks_again hl hidle hq hstage hwait,
    fun _ _ _ _ _ hl hidle hq hstage hdue => priTimeout_faults hl hidle hq hstage hdue⟩

end Sys2Proof.Machine

/-! ## Charts: setting, clearing, querying, epochs and purging -/

namespace Sys2Proof.Machine

open Sys2Proof

/-! ### A front desk command on a room -/

theorem onRoom_of {s : State} {h : FdHdr} {rm : Nat} (hr : fdRoom s h = some rm) (op : Nat) (f : Nat → State → State) : onRoom h op f s = f rm s := by
  rw [onRoom, hr]

/-- A front desk that takes a well-formed command on a room runs it there (R300). -/
theorem frontDesk_onRoom {s : State} {h : FdHdr} {op rm : Nat} (ht : Takes s h op) (hr : fdRoom s h = some rm) {own : State → Option Nat}
    (ho : own s = none) (f : Nat → State → State) : frontDesk h op own (onRoom h op f) s = f rm s := by
  rw [frontDesk_takes ht _ ho, onRoom_of hr]

@[simp] theorem fdHold_running (h : FdHdr) (op : Nat) (w : FdWait) (s : State) : (func (fdHold h op w s) h.fn).fd.running = some (h, op, w) := by
  rw [fdHold, func_modFunc]

/-- An answer changes no more than what answers change. -/
theorem keep_answers_fdAnswer (h : FdHdr) (op : Nat) (r : FdResp) (s : State) : keep answers s (fdAnswer h op r s) = fdAnswer h op r s := rfl

/-! ### One leaf (R237, R243, R245) -/

theorem leafSize_le (big : Bool) : leafSize big ≤ 2 ^ 39 := by cases big <;> decide

theorem eachLeaf_one {f : Nat → State → Except Nat State} {s t : State} (h : f 0 s = .ok t) (z : Nat) : eachLeaf f z 0 1 s = (0, 0, t) := by
  simp only [eachLeaf, h]

/-- A run of one leaf that begins below 2⁴⁷ ends below 2⁴⁸ (R242). -/
theorem oneLeaf_fits {a : Nat} (h : a < 2 ^ 47) (big : Bool) : ¬ 2 ^ 48 < a + 1 * leafSize big := by
  have := leafSize_le big
  omega

section
variable {r : Room} {dva : Nat} {l : Leaf}

theorem chartLeaf_of_leaves1 (ha : dva % 2 ^ 30 = 0) (h : mfind r.leaves1 (dva / 2 ^ 30) = some l) : chartLeaf r dva = some (l, dva) := by
  rw [chartLeaf, h, Nat.div_mul_cancel (Nat.dvd_of_mod_eq_zero ha)]

theorem chartLeaf_of_leaves2 (ha : dva % 2 ^ 39 = 0) (h1 : mfind r.leaves1 (dva / 2 ^ 30) = none) (h2 : mfind r.leaves2 (dva / 2 ^ 39) = some l) :
    chartLeaf r dva = some (l, dva) := by
  rw [chartLeaf, h1, h2, Nat.div_mul_cancel (Nat.dvd_of_mod_eq_zero ha)]

end

/-- The leaf that a CHART_SET writes (R237, R241). -/
def setLeaf (dpa rights : Nat) : Leaf := { dpa := dpa, write := nbit rights 2 == 1, read := nbit rights 1 == 1, atomic := nbit rights 0 == 1 }

/-- A room's chart gives a DVA the leaf that begins there, and no other room has changed. -/
def GivesLeaf (s : State) (rm dva : Nat) (l : Leaf) (t : State) : Prop :=
  chartLeaf (room t rm) dva = some (l, dva) ∧ ∀ r, r ≠ rm → room t r = room s r

section
variable {s : State} {rm dva dpa rights : Nat}

theorem givesLeaf_modRoom {l : Leaf} {f : Room → Room} (h : chartLeaf (f (room s rm)) dva = some (l, dva)) : GivesLeaf s rm dva l (modRoom rm f s) :=
  ⟨by rw [room_modRoom]; exact h, fun _ hr => room_modRoom_ne hr f s⟩

theorem GivesLeaf.useFresh {l : Leaf} {t : State} (h : GivesLeaf s rm dva l t) : GivesLeaf s rm dva l (useFresh t) := h

/-- A level-2 leaf is set where neither a leaf nor a table stands (R243). -/
theorem chartSetOne_big (hdva : dva % leafSize true = 0) (hdpa : dpa % leafSize true = 0) (hown : leafOwned s rm dpa true = true)
    (h2 : mfind (room s rm).leaves2 (dva / 2 ^ 39) = none) (h1 : mfind (room s rm).leaves1 (dva / 2 ^ 30) = none)
    (htab : mfind (room s rm).tables (dva / 2 ^ 39) = none) :
    ∃ t, chartSetOne rm dva dpa true rights s = .ok t ∧ GivesLeaf s rm dva (setLeaf dpa rights) t := by
  refine ⟨modRoom rm (fun r => { r with leaves2 := mset r.leaves2 (dva / 2 ^ 39) (setLeaf dpa rights) }) s, ?_,
    givesLeaf_modRoom (chartLeaf_of_leaves2 hdva h1 (mfind_mset_self _ _ _))⟩
  simp [-Nat.reducePow, chartSetOne, hdva, hdpa, hown, h2, htab, setLeaf]

/-- A level-1 leaf is set in the table that covers it, or in a new one (R236, R243). -/
theorem chartSetOne_small (hdva : dva % leafSize false = 0) (hdpa : dpa % leafSize false = 0) (hown : leafOwned s rm dpa false = true)
    (h2 : mfind (room s rm).leaves2 (dva / 2 ^ 39) = none) (h1 : mfind (room s rm).leaves1 (dva / 2 ^ 30) = none)
    (hpool : tablesUsed s < 7936) (hquota : (room s rm).tables.length < (room s rm).quotas.chartTable) :
    ∃ t, chartSetOne rm dva dpa false rights s = .ok t ∧ GivesLeaf s rm dva (setLeaf dpa rights) t := by
  by_cases ht : (mfind (room s rm).tables (dva / 2 ^ 39)).isSome
  · refine ⟨modRoom rm (fun r => { r with leaves1 := mset r.leaves1 (dva / 2 ^ 30) (setLeaf dpa rights) }) s, ?_,
      givesLeaf_modRoom (chartLeaf_of_leaves1 hdva (mfind_mset_self _ _ _))⟩
    simp [-Nat.reducePow, chartSetOne, hdva, hdpa, hown, h2, h1, ht, setLeaf]
  · refine ⟨useFresh (modRoom rm (fun r => { r with
      tables := mset r.tables (dva / 2 ^ 39) (pickTable s), leaves1 := mset r.leaves1 (dva / 2 ^ 30) (setLeaf dpa rights) }) s), ?_,
      (givesLeaf_modRoom (chartLeaf_of_leaves1 hdva (mfind_mset_self _ _ _))).useFresh⟩
    simp [-Nat.reducePow, chartSetOne, hdva, hdpa, hown, h2, h1, ht, hpool, hquota, setLeaf]

theorem chartSet_completes {h : FdHdr} {big : Bool} (ht : Takes s h 0x20) (hr : fdRoom s h = some rm) (hd : dva < 2 ^ 47) (hp : dpa < 2 ^ 47)
    (hrights : rights < 8) (hset : ∃ t, chartSetOne rm dva dpa big rights s = .ok t ∧ GivesLeaf s rm dva (setLeaf dpa rights) t) :
    Completes (.chartSet h dva dpa big 1 rights) s (GivesLeaf s rm dva (setLeaf dpa rights)) := by
  obtain ⟨t, hone, hgives⟩ := hset
  have hOwn : firstBadOf [(decide (2 ^ 48 ≤ dva) || decide (2 ^ 48 ≤ dpa) || decide (8 ≤ rights), 1),
      (decide (1 = 0) || decide (4096 < 1) || decide (2 ^ 48 < dva + 1 * leafSize big) || decide (2 ^ 48 < dpa + 1 * leafSize big), 4)] = none := by
    simp only [firstBadOf, oneLeaf_fits hd, oneLeaf_fits hp, Nat.not_le.2 hrights, Nat.not_le.2 (Nat.lt_trans hd (by decide : 2 ^ 47 < 2 ^ 48)),
      Nat.not_le.2 (Nat.lt_trans hp (by decide : 2 ^ 47 < 2 ^ 48))]
    rfl
  have hrun : chartSet h dva dpa big 1 rights s = fdAnswer h 0x20 {} t := by
    rw [chartSet, frontDesk_onRoom ht hr hOwn]
    dsimp only
    rw [eachLeaf_one (by exact hone), if_pos rfl]
  refine .of_act rfl ht.1 ?_
  rw [hrun]
  exact hgives

end

/-! ### Clearing (R245) -/

section
variable {s : State} {rm dva : Nat} {l : Leaf} {big : Bool}

/-- A room after one of its leaves is cleared (R236, R245). -/
def Room.clearLeaf (dva : Nat) (big : Bool) (r : Room) : Room :=
  if big then { r with leaves2 := mdel r.leaves2 (dva / leafSize big) }
  else
    { r with
      leaves1 := mdel r.leaves1 (dva / leafSize big)
      tables := if (mdel r.leaves1 (dva / leafSize big)).any (fun p => p.1 / 512 == dva / leafSize big / 512) then r.tables
        else mdel r.tables (dva / leafSize big / 512) }

/-- Whether a cached translation came from a leaf of a room's chart. -/
def TEntry.ofLeaf (rm : Nat) (big : Bool) (key : Nat) : TEntry → Bool
  | .chart _ x b l => x == rm && b == big && l == key
  | .host _ _ _ _ _ _ _ _ => false

/-- The state in which a leaf of a room's chart, and its cached translations, are gone. -/
def leafCleared (rm dva : Nat) (big : Bool) (s : State) : State :=
  modRoom rm (Room.clearLeaf dva big) (tlbPurge (TEntry.ofLeaf rm big (dva / leafSize big)) s)

theorem room_leafCleared (rm dva : Nat) (big : Bool) (s : State) : room (leafCleared rm dva big s) rm = (room s rm).clearLeaf dva big :=
  room_modRoom rm _ _

theorem chartClearOne_of_leaf (ha : dva % leafSize big = 0)
    (hl : (if big then mfind (room s rm).leaves2 (dva / 2 ^ 39) else mfind (room s rm).leaves1 (dva / 2 ^ 30)) = some l) :
    chartClearOne rm dva big s = .ok (leafCleared rm dva big s) := by
  cases big
  · have hl' : mfind (room s rm).leaves1 (dva / leafSize false) = some l := hl
    simp only [chartClearOne, ha, hl']
    rfl
  · have hl' : mfind (room s rm).leaves2 (dva / leafSize true) = some l := hl
    simp only [chartClearOne, ha, hl']
    rfl

theorem chartClear_completes {h : FdHdr} (ht : Takes s h 0x21) (hr : fdRoom s h = some rm) (hd : dva < 2 ^ 47) (ha : dva % leafSize big = 0)
    (hl : (if big then mfind (room s rm).leaves2 (dva / 2 ^ 39) else mfind (room s rm).leaves1 (dva / 2 ^ 30)) = some l) :
    Completes (.chartClear h dva big 1) s fun t =>
      (if big then (room t rm).leaves2 = mdel (room s rm).leaves2 (dva / 2 ^ 39) ∧ (room t rm).leaves1 = (room s rm).leaves1
       else (room t rm).leaves1 = mdel (room s rm).leaves1 (dva / 2 ^ 30) ∧ (room t rm).leaves2 = (room s rm).leaves2) ∧
      (func t h.fn).fd.running = some (h, 0x21, .chartClear 0 0) ∧
      ∀ d, TEntry.chart d rm big (dva / leafSize big) ∉ t.tcache := by
  have hOwn : firstBadOf [(decide (2 ^ 48 ≤ dva), 1), (decide (1 = 0) || decide (4096 < 1) || decide (2 ^ 48 < dva + 1 * leafSize big), 4)] = none := by
    simp only [firstBadOf, oneLeaf_fits hd, Nat.not_le.2 (Nat.lt_trans hd (by decide : 2 ^ 47 < 2 ^ 48))]
    rfl
  have hrun : chartClear h dva big 1 s = fdHold h 0x21 (.chartClear 0 0) (leafCleared rm dva big s) := by
    rw [chartClear, frontDesk_onRoom ht hr hOwn]
    dsimp only
    rw [eachLeaf_one (t := leafCleared rm dva big s) (by exact chartClearOne_of_leaf ha hl), if_pos rfl]
  refine .of_act rfl ht.1 ?_
  rw [hrun]
  refine ⟨?_, fdHold_running h 0x21 (.chartClear 0 0) _, fun d hin => ?_⟩
  · have hroom : room (keep (answers ++ [.tcache, .rooms]) s (fdHold h 0x21 (.chartClear 0 0) (leafCleared rm dva big s))) rm =
      (room s rm).clearLeaf dva big := room_leafCleared rm dva big s
    rw [hroom]
    cases big <;> exact ⟨rfl, rfl⟩
  · have hmiss := (mem_tlbPurge.1 hin).2
    simp [TEntry.ofLeaf] at hmiss

end

theorem chartClearDone_completes {s : State} {fn op c a : Nat} {h : FdHdr} (hl : Live s) (hfn : h.fn = fn)
    (hrun : (func s fn).fd.running = some (h, op, .chartClear c a)) : Completes (.chartClearDone fn) s fun t => (func t fn).fd.running = none := by
  refine .of_act rfl hl ?_
  rw [chartClearDone, hrun, ← hfn]
  exact fdAnswer_running h op _ s

/-! ### Queries, epochs and purges (R241, R256, R273) -/

/-- A room whose epoch follows another (R256). -/
def Room.nextEpoch (e : Nat) (r : Room) : Room := { r with epoch := Machine.nextEpoch e }

section
variable {s : State} {h : FdHdr} {rm : Nat}

theorem chartQuery_completes {dva : Nat} (ht : Takes s h 0x22) (hr : fdRoom s h = some rm) (hd : dva < 2 ^ 48) :
    Completes (.chartQuery h dva) s fun t =>
      t = fdAnswer h 0x22 { epoch := (room s rm).epoch, ret := entry2 (room s rm) dva, stopAt := entry1 (room s rm) dva } s := by
  have hOwn : firstBadOf [(decide (2 ^ 48 ≤ dva), 1)] = none := by
    simp only [firstBadOf, Nat.not_le.2 hd]
    rfl
  refine .of_act rfl ht.1 ?_
  rw [chartQuery, frontDesk_onRoom ht hr hOwn, keep_answers_fdAnswer]

theorem chartEpoch_completes (ht : Takes s h 0x23) (hr : fdRoom s h = some rm) :
    Completes (.chartEpoch h) s fun t =>
      (room t rm).epoch = (if (room s rm).epoch = 65535 then 1 else (room s rm).epoch + 1) ∧ ∀ r, r ≠ rm → room t r = room s r := by
  have hrun : chartEpoch h s = fdAnswer h 0x23 { epoch := nextEpoch (room s rm).epoch } (modRoom rm (Room.nextEpoch (room s rm).epoch) s) :=
    frontDesk_onRoom ht hr rfl _
  refine .of_act rfl ht.1 ?_
  rw [hrun]
  exact ⟨congrArg Room.epoch (room_modRoom rm (Room.nextEpoch (room s rm).epoch) s), fun _ hne => room_modRoom_ne hne (Room.nextEpoch _) s⟩

end

theorem purgeAll_completes {s : State} {fn : Nat} (hl : Live s) (hi : isInn s fn = true) :
    Completes (.purgeAll fn) s fun t => t.tcache = [] ∧ t.arms = mdel s.arms 2 := by
  refine .of_act (l := [.arms, .tcache]) (f := fun s => if isInn s fn then disarm 2 (tlbPurge (fun _ => true) s) else s) rfl hl ?_
  simp only [hi, if_true]
  exact ⟨List.filter_false _, rfl⟩

/-- Settles O13: setting and clearing by what they do to one leaf, of either size, and the other commands each by its effect. -/
theorem chartsMapAndUnmap : Obligations.ChartsMapAndUnmap := by
  unfold Obligations.ChartsMapAndUnmap
  refine ⟨fun s h dva dpa rights rm big ht hr hd hp hrights hdva hdpa hown h2 h1 hroom => chartSet_completes ht hr hd hp hrights ?_,
    fun _ _ _ _ _ _ ht hr hd ha hleaf => chartClear_completes ht hr hd ha hleaf,
    fun _ _ _ _ _ _ hl hfn hrun => chartClearDone_completes hl hfn hrun,
    fun _ _ _ _ ht hr hd => chartQuery_completes ht hr hd,
    fun _ _ _ ht hr => chartEpoch_completes ht hr,
    fun _ _ hl hi => purgeAll_completes hl hi⟩
  cases big
  · exact chartSetOne_small hdva hdpa hown h2 h1 hroom.1 hroom.2
  · exact chartSetOne_big hdva hdpa hown h2 h1 hroom

end Sys2Proof.Machine

/-! ## Memory windows: opening, modifying and revoking -/

namespace Sys2Proof.Machine

open Sys2Proof

/-! ### The window table -/

/-- A state's window table is another's but for one window, which is given. -/
def SetsWindow (s : State) (i : Nat) (w : Window) (t : State) : Prop := t.windows = mset s.windows i w

section
variable {s t : State} {i : Nat} {w : Window} (h : SetsWindow s i w t)
include h

theorem SetsWindow.window : window t i = w := by rw [Machine.window, h, mget_mset_self]

theorem SetsWindow.window_ne {j : Nat} (hj : j ≠ i) : Machine.window t j = Machine.window s j := by
  rw [Machine.window, h, mget_mset_ne _ _ _ _ _ hj, ← Machine.window]

/-- A front desk that waits for its command changes no window. -/
theorem SetsWindow.fdHold (d : FdHdr) (op : Nat) (x : FdWait) : SetsWindow s i w (fdHold d op x t) := h

theorem SetsWindow.keep {l : List Piece} (hl : l.contains .windows = true) : SetsWindow s i w (keep l s t) := by
  rw [SetsWindow, keep_windows, if_pos hl, h]

end

/-! ### Opening (R261 to R263) -/

/-- The window that WINDOW_OPEN opens in place of an unused one (R260, R261). -/
def openedWindow (rm base len rights pasid qpn : Nat) (space zeroBased sealing pasidValid qpBound : Bool) (w : Window) : Window :=
  { w with
    st := 1, base := base, len := len, room := rm, pasid := pasid, pasidValid := pasidValid, sealed := sealing, space := space,
    rwrite := nbit rights 2 == 1, rread := nbit rights 1 == 1, atomic := nbit rights 0 == 1, zeroBased := zeroBased,
    admitted := 0, qpBound := qpBound, qpn := qpn, heldSeen := false }

section
variable {s : State} {h : FdHdr} {rm i base len rights pasid qpn : Nat} {space : Bool} (ht : Takes s h 0x28) (hr : fdRoom s h = some rm)
  (hrights : rights < 8) (hpasid : pasid < 2 ^ 20) (hqpn : qpn < 2 ^ 24) (hlen0 : len ≠ 0) (hlen : len < 2 ^ 40)
  (hend : base + len ≤ (if space then 2 ^ 48 else 2 ^ 64)) (hnext : nextWindow s = some i)
  (hquota : windowsOf s rm < (room s rm).quotas.window) (zb sl pv qb : Bool)
include ht hr hrights hpasid hqpn hlen0 hlen hend hnext hquota

theorem windowOpen_sets : SetsWindow s i (openedWindow rm base len rights pasid qpn space zb sl pv qb (window s i))
    (windowOpen h space base len rights zb sl pasid pv qb qpn s) := by
  have hOwn : firstBadOf [(decide (8 ≤ rights) || decide (2 ^ 20 ≤ pasid) || decide (2 ^ 24 ≤ qpn), 1)] = none := by
    simp only [firstBadOf, Nat.not_le.2 hrights, Nat.not_le.2 hpasid, Nat.not_le.2 hqpn]
    rfl
  have hrange : (decide (len = 0) || decide ((if space then 2 ^ 48 else 2 ^ 64) < base + len)) = false := by
    simp only [hlen0, Nat.not_lt.2 hend]
    rfl
  rw [windowOpen, frontDesk_onRoom ht hr hOwn]
  simp only [Nat.not_le.2 hlen, Nat.not_le.2 hquota, hnext, hrange, if_false, Bool.false_eq_true]
  rfl

theorem windowOpen_completes : Completes (.windowOpen h space base len rights zb sl pasid pv qb qpn) s fun t =>
    (window t i).st = 1 ∧ (window t i).base = base ∧ (window t i).len = len ∧ (window t i).room = rm ∧ (window t i).space = space ∧
    (window t i).zeroBased = zb ∧ (window t i).sealed = sl ∧ (window t i).rwrite = (nbit rights 2 == 1) ∧
    (window t i).rread = (nbit rights 1 == 1) ∧ (window t i).atomic = (nbit rights 0 == 1) ∧ (window t i).gen = (window s i).gen ∧
    (window t i).qpBound = qb ∧ (window t i).qpn = qpn ∧ (window t i).admitted = 0 ∧ ∀ j, j ≠ i → window t j = window s j := by
  have hset := (windowOpen_sets ht hr hrights hpasid hqpn hlen0 hlen hend hnext hquota zb sl pv qb).keep
    (l := answers ++ [.windows, .winNext, .winFreed]) rfl
  refine .of_act rfl ht.1 ?_
  rw [hset.window]
  exact ⟨rfl, rfl, rfl, rfl, rfl, rfl, rfl, rfl, rfl, rfl, rfl, rfl, rfl, rfl, fun _ hj => hset.window_ne hj⟩

end

/-! ### Modifying (R264) -/

section
variable {s : State} {h : FdHdr} {rm : Nat}

theorem windowModify_holds {key len rights i : Nat} {w : Window} (ht : Takes s h 0x29) (hr : fdRoom s h = some rm) (hrights : rights < 8)
    (hkey : keyWindow s rm key = some (i, w)) (hlen0 : len ≠ 0) (hlen : len < 2 ^ 40) (hnarrow : widens w len rights = false) :
    ∃ u, windowModify h key len rights s = fdHold h 0x29 (.windowModify i) u ∧
      SetsWindow s i { w with len := len, rwrite := nbit rights 2 == 1, rread := nbit rights 1 == 1, atomic := nbit rights 0 == 1 } u := by
  have hOwn : firstBadOf [(decide (8 ≤ rights), 1)] = none := by
    simp only [firstBadOf, Nat.not_le.2 hrights]
    rfl
  have hrange : (decide (len = 0) || decide (2 ^ 40 ≤ len)) = false := by
    simp only [hlen0, Nat.not_le.2 hlen]
    rfl
  rw [windowModify, frontDesk_onRoom ht hr hOwn]
  simp only [hkey, hrange, hnarrow, if_false, Bool.false_eq_true]
  exact ⟨_, rfl, rfl⟩

theorem windowModify_completes {key len rights i : Nat} {w : Window} (ht : Takes s h 0x29) (hr : fdRoom s h = some rm) (hrights : rights < 8)
    (hkey : keyWindow s rm key = some (i, w)) (hlen0 : len ≠ 0) (hlen : len < 2 ^ 40) (hnarrow : widens w len rights = false) :
    Completes (.windowModify h key len rights) s fun t =>
      window t i = { w with len := len, rwrite := nbit rights 2 == 1, rread := nbit rights 1 == 1, atomic := nbit rights 0 == 1 } ∧
      (func t h.fn).fd.running = some (h, 0x29, .windowModify i) ∧ ∀ j, j ≠ i → window t j = window s j := by
  obtain ⟨u, hrun, hset⟩ := windowModify_holds ht hr hrights hkey hlen0 hlen hnarrow
  have hset' := (hset.fdHold h 0x29 (.windowModify i)).keep (l := answers ++ [.windows, .qps]) rfl
  refine .of_act rfl ht.1 ?_
  rw [hrun]
  exact ⟨hset'.window, fdHold_running h 0x29 _ u, fun _ hj => hset'.window_ne hj⟩

theorem windowModifyDone_completes {fn op i : Nat} (hl : Live s) (hfn : h.fn = fn) (hrun : (func s fn).fd.running = some (h, op, .windowModify i))
    (hold : oldAdmitted s i = false) : Completes (.windowModifyDone fn) s fun t => (func t fn).fd.running = none := by
  refine .of_act rfl hl ?_
  rw [windowModifyDone, hrun, ← hfn]
  simp only [hold, Bool.false_eq_true, if_false]
  exact fdAnswer_running h op {} s

/-! ### Revoking (R268 to R270) -/

theorem windowRevoke_holds {key i : Nat} {w : Window} (ht : Takes s h 0x2A) (hr : fdRoom s h = some rm)
    (hkey : keyWindow s rm key = some (i, w)) : ∃ u, windowRevoke h key s = fdHold h 0x2A (.windowRevoke i) u ∧
      SetsWindow s i { w with gen := w.gen + 1, st := 2, heldSeen := winHeld s i } u := by
  rw [windowRevoke, frontDesk_onRoom ht hr rfl]
  simp only [hkey]
  refine ⟨_, rfl, ?_⟩
  split <;> rfl

theorem windowRevoke_completes {key i : Nat} {w : Window} (ht : Takes s h 0x2A) (hr : fdRoom s h = some rm)
    (hkey : keyWindow s rm key = some (i, w)) : Completes (.windowRevoke h key) s fun t =>
      (window t i).st = 2 ∧ (window t i).gen = w.gen + 1 ∧ (window t i).base = w.base ∧ (window t i).len = w.len ∧
      (func t h.fn).fd.running = some (h, 0x2A, .windowRevoke i) ∧ ∀ j, j ≠ i → window t j = window s j := by
  obtain ⟨u, hrun, hset⟩ := windowRevoke_holds ht hr hkey
  have hset' := (hset.fdHold h 0x2A (.windowRevoke i)).keep (l := answers ++ [.events, .windows]) rfl
  refine .of_act rfl ht.1 ?_
  rw [hrun, hset'.window]
  exact ⟨rfl, rfl, rfl, rfl, fdHold_running h 0x2A _ u, fun _ hj => hset'.window_ne hj⟩

/-- A window that is REVOKING without a packet admitted is freed, whether or not a front desk waits for it. -/
theorem windowRevokeDone_frees {i : Nat} (hst : (window s i).st = 2) (hadm : (window s i).admitted = 0) :
    SetsWindow s i { window s i with st := 0, heldSeen := false } (windowRevokeDone i s) ∧ (windowRevokeDone i s).winFreed = s.winFreed ++ [i] := by
  simp only [windowRevokeDone, hst, hadm, decide_true, Bool.and_self, if_true]
  split <;> exact ⟨rfl, rfl⟩

theorem windowRevokeDone_completes {i : Nat} (hl : Live s) (hst : (window s i).st = 2) (hadm : (window s i).admitted = 0) :
    Completes (.windowRevokeDone i) s fun t => (window t i).st = 0 ∧ t.winFreed = s.winFreed ++ [i] ∧ ∀ j, j ≠ i → window t j = window s j := by
  obtain ⟨hset, hfreed⟩ := windowRevokeDone_frees hst hadm
  have hset' := hset.keep (l := answers ++ [.windows, .winFreed]) rfl
  refine .of_act rfl hl ?_
  rw [hset'.window]
  exact ⟨rfl, hfreed, fun _ hj => hset'.window_ne hj⟩

end

/-- Settles O14: each command sets the record of one window, which is read back, and the record of no other. -/
theorem windowsOpenModifyAndRevoke : Obligations.WindowsOpenModifyAndRevoke := by
  unfold Obligations.WindowsOpenModifyAndRevoke
  exact ⟨
    fun _ _ _ _ _ _ _ _ _ _ zb sl pv qb ht hr hrights hpasid hqpn hlen0 hlen hend hnext hquota =>
      windowOpen_completes ht hr hrights hpasid hqpn hlen0 hlen hend hnext hquota zb sl pv qb,
    fun _ _ _ _ _ _ _ _ ht hr hrights hkey hlen0 hlen hnarrow => windowModify_completes ht hr hrights hkey hlen0 hlen hnarrow,
    fun _ _ _ _ _ hl hfn hrun hold => windowModifyDone_completes hl hfn hrun hold,
    fun _ _ _ _ _ _ ht hr hkey => windowRevoke_completes ht hr hkey,
    fun _ _ hl hst hadm => windowRevokeDone_completes hl hst hadm⟩

end Sys2Proof.Machine

/-! ## Packets of requests at the responder -/

namespace Sys2Proof.Machine

open Sys2Proof Sys2Proof.Tests

/-- A device with window 1 over the first 8,192 B of charted memory, as of a ready QP. The line of the table entry that maps them has failed, and its mirror has
not. The Innkeeper's Ledger lies in device memory, through the same chart and behind the window. -/
def mirroredChart : State :=
  { wWin wReady with
    queues := [(qkey 0 3, { kind := .ledger, st := .active, base := 2 ^ 63 + 0x4000, log2 := 6 })]
    mem := { (wWin wReady).mem with poison := [0x3E001000 / 64] } }

/-- A WRITE of three bytes in its turn. -/
def mirroredWrite : Pkt := withTrailer { wPkt with opcode := 1, payload := [1, 2, 3], msgLen := 3, addr := 4095 }

theorem inTurn_mirroredWrite : InTurn mirroredChart mirroredWrite := by
  unfold InTurn Live
  decide +kernel

theorem mapsTo_mirroredWrite : MapsTo mirroredChart (winCtx mirroredChart mirroredWrite.dstQpn 1 8)
    ((window mirroredChart 1).at mirroredWrite.addr) mirroredWrite.payload.length .write 4095 := by
  unfold MapsTo
  decide +kernel

/-- The state that the packet leaves. -/
def mirroredAfter : State := keep losses mirroredChart (rxRow [1, 2, 3] mirroredWrite mirroredChart)

theorem exec_mirroredWrite : exec (.writePacketReceive mirroredWrite) mirroredChart = .next mirroredAfter := act_live inTurn_mirroredWrite.1 _ _

/-- The record of the entry that its mirror served (R967) begins at DPA 0x4000, the first byte of the Ledger's ring. -/
theorem record_mirroredAfter : cellGet mirroredAfter.mem.cells 0x4000 ≠ cellGet mirroredChart.mem.cells 0x4000 := by decide +kernel

/-- Refutes O23: in the first clause nothing keeps the chart's table sound, whose entry may be served from its mirror. That is recorded in the Innkeeper's
Ledger, whose ring may lie in device memory: the packet then changes bytes there, outside its own. -/
theorem not_requestsArriveInTurn : ¬ Obligations.RequestsArriveInTurn := by
  unfold Obligations.RequestsArriveInTurn
  rintro ⟨hWrite, -⟩
  obtain ⟨t, hExec, ⟨-, hFrame⟩, -⟩ := hWrite mirroredChart mirroredWrite 1 4095 inTurn_mirroredWrite rfl rfl (by decide +kernel) (by decide +kernel)
    (by decide +kernel) (by decide +kernel) mapsTo_mirroredWrite
  obtain rfl := Host.Outcome.next.inj (exec_mirroredWrite.symm.trans hExec)
  exact record_mirroredAfter (hFrame 0x4000 (.inr (by decide)))

end Sys2Proof.Machine

/-! ## Rings and front desks: what is left as it was -/

namespace Sys2Proof.Machine

open Sys2Proof

/-! ### Entries that nothing holds back -/

/-- A queue that holds no entries back writes none (R324, R1142). -/
theorem takeHeld_nil {s : State} {fn q : Nat} (h : (queue s fn q).held = []) : takeHeld fn q s = s := by
  simp [takeHeld, h]

/-- A response ring that holds no responses back writes none (R1142). -/
theorem takeResp_nil {s : State} {fn : Nat} (h : (func s fn).fd.resp.held = []) : takeResp fn s = s := by
  simp [takeResp, h]

/-! ### One queue's record -/

/-- From s to t the record of one queue becomes k, and no other queue's record changes. -/
def SetsQueue (s : State) (fn q : Nat) (k : Queue) (t : State) : Prop :=
  queue t fn q = k ∧ ∀ j, j ≠ qkey fn q → mget t.queues j {} = mget s.queues j {}

section
variable {s t : State} {fn q : Nat} {k : Queue}

theorem SetsQueue.refl (s : State) (fn q : Nat) : SetsQueue s fn q (queue s fn q) s := ⟨rfl, fun _ _ => rfl⟩

variable (h : SetsQueue s fn q k t)
include h

theorem SetsQueue.modQueue (f : Queue → Queue) : SetsQueue s fn q (f k) (modQueue fn q f t) :=
  ⟨by rw [queue_modQueue, h.1], fun j hj => (mget_mmod_ne _ _ _ _ _ hj).trans (h.2 j hj)⟩

theorem SetsQueue.of_queues {u : State} (hu : u.queues = t.queues) : SetsQueue s fn q k u := by
  rw [SetsQueue, queue, hu]
  exact h

theorem SetsQueue.msix (g v : Nat) : SetsQueue s fn q k (msix g v t) := h

theorem SetsQueue.keep {l : List Piece} (hl : l.contains .queues = true) : SetsQueue s fn q k (keep l s t) :=
  h.of_queues (by rw [keep_queues, if_pos hl])

end

theorem setsQueue_modQueue (fn q : Nat) (f : Queue → Queue) (s : State) : SetsQueue s fn q (f (queue s fn q)) (modQueue fn q f s) :=
  (SetsQueue.refl s fn q).modQueue f

/-! ### Responses that their ring takes change no queue -/

section
variable {s : State}

theorem resolveLines_queues (a n : Nat) (s : State) : (resolveLines a n s).queues = s.queues := by
  rw [resolveLines]
  split
  · rfl
  · rfl

theorem locWrite_queues (l : Loc) (d : List Byte) (s : State) : (locWrite l d s).queues = s.queues := by
  cases l with
  | host p a => rfl
  | dev a => exact resolveLines_queues a d.length s

theorem putUnits_queues (d : List Byte) (s : State) (ls : List Loc) : (putUnits d s ls).queues = s.queues := by
  induction ls generalizing d s with
  | nil => rfl
  | cons l ls ih => rw [putUnits, ih, locWrite_queues]

/-- Writing an entry to a ring changes no queue's record. -/
theorem tryPut_queues {t : State} {fn : Nat} {q : Queue} {d : List Byte} (h : tryPut s fn q d = .ok t) : t.queues = s.queues := by
  rw [tryPut] at h
  split at h
  · cases h
  · split at h
    · cases h
    · cases h
      exact putUnits_queues d s _

/-- A response that fits is written. -/
theorem ResponseFits.tryPut {h : FdHdr} (hfit : ResponseFits s h.fn) (op : Nat) (r : FdResp) :
    ∃ t, tryPut s h.fn (func s h.fn).fd.resp (r.data h op) = .ok t := by
  obtain ⟨hRoom, hSpots⟩ := hfit
  rw [Machine.tryPut, length_respData, if_neg (by omega)]
  dsimp only [Nat.reduceDiv]
  split
  · next e he => rw [he] at hSpots; cases hSpots
  · exact ⟨_, rfl⟩

theorem putResp_queues {h : FdHdr} (hfit : ResponseFits s h.fn) (op : Nat) (r : FdResp) : (putResp h op r s).queues = s.queues := by
  obtain ⟨t, hput⟩ := hfit.tryPut op r
  simp only [putResp, hput]
  split
  · exact (tryPut_queues hput :)
  · exact (tryPut_queues hput :)

/-- An answer whose response fits changes no queue. -/
theorem fdAnswer_queues {h : FdHdr} (hfit : ResponseFits s h.fn) (op : Nat) (r : FdResp) : (fdAnswer h op r s).queues = s.queues := by
  rw [fdAnswer, ledgerOnly_queues]
  dsimp only
  split
  · rfl
  · refine putResp_queues (hfit.of_parts ?_ ?_ ?_ ?_ ?_) op r
    · rw [func_modFunc]
    all_goals rfl

theorem SetsQueue.fdAnswer {t : State} {fn q : Nat} {k : Queue} (hk : SetsQueue s fn q k t) {h : FdHdr} (hfit : ResponseFits t h.fn) (op : Nat)
    (r : FdResp) : SetsQueue s fn q k (fdAnswer h op r t) := hk.of_queues (fdAnswer_queues hfit op r)

end

end Sys2Proof.Machine

/-! ## Queue states -/

namespace Sys2Proof.Machine

open Sys2Proof Sys2Proof.Tests

/-- Queue 0 of the Innkeeper function drains and reports to queue 1, an event queue whose ring is not mapped and which reports to queue 0 in turn. -/
def circularReports : State :=
  { w0 with queues := [(qkey 0 0, { st := .draining, kind := .recv, eq := 1 }), (qkey 0 1, { st := .active, kind := .eq, base := 2 ^ 63, eq := 0 })] }

theorem live_circularReports : Live circularReports := by
  unfold Live
  decide +kernel

/-- The state in which the draining queue has become idle. -/
def circularAfter : State := keep (answers ++ [.queues]) circularReports (queueIdle 0 0 circularReports)

theorem exec_circularReports : exec (.queueIdle 0 0) circularReports = .next circularAfter := act_live live_circularReports _ _

/-- The event queue stops as it writes that queue 0 is idle, and its own report of that is dropped at queue 0 and counted there (R311, R325). -/
theorem dropped_circularAfter : (queue circularAfter 0 0).dropped = 1 := by decide +kernel

/-- Refutes O16: in the fourth clause the event queue of a queue that becomes idle is another queue, but nothing keeps it from reporting to that queue in
turn. Where the write of the event fails, the event queue stops, and what it reports of that changes the record of the queue that is idle. -/
theorem not_queuesChangeState : ¬ Obligations.QueuesChangeState := by
  unfold Obligations.QueuesChangeState
  rintro ⟨-, -, -, hIdle, -⟩
  obtain ⟨t, hExec, hQueue, -⟩ := hIdle circularReports 0 0 live_circularReports (by decide +kernel) (by decide +kernel) (by decide +kernel)
    (by decide +kernel)
  obtain rfl := Host.Outcome.next.inj (exec_circularReports.symm.trans hExec)
  have hNone : (queue circularAfter 0 0).dropped = 0 := (congrArg Queue.dropped hQueue).trans (by decide +kernel)
  exact absurd (dropped_circularAfter.symm.trans hNone) (by decide)

end Sys2Proof.Machine

/-! ## Queues that are made, moderated and destroyed -/

namespace Sys2Proof.Machine

open Sys2Proof

/-! ### Making a queue (R305, R306) -/

theorem lowestFrom_eq {f : Nat → Bool} {base n k : Nat} (hlo : base ≤ k) (hhi : k < base + n) (hk : f k = true)
    (hlt : ∀ m, base ≤ m → m < k → f m = false) : lowestFrom f base n = some k := by
  induction n generalizing base with
  | zero => omega
  | succ n ih =>
    rw [lowestFrom]
    by_cases hb : base = k
    · rw [hb, if_pos hk]
    · rw [hlt base (Nat.le_refl base) (by omega), if_neg Bool.false_ne_true]
      exact ih (by omega) (by omega) fun m hm => hlt m (by omega)

theorem freeQueue_eq {s : State} {fn n : Nat} (hn : n < 3840) (hfree : (queue s fn n).st = .free) (hlow : ∀ m, m < n → (queue s fn m).st ≠ .free) :
    freeQueue s fn = n := by
  have hlowest : lowestFrom (fun q => (queue s fn q).st == .free) 0 3840 = some n :=
    lowestFrom_eq (Nat.zero_le n) (by omega) (beq_iff_eq.2 hfree) fun m _ hm => beq_false_of_ne (hlow m hm)
  rw [freeQueue, hlowest, Option.getD_some]

/-- The record of a new queue (R305). -/
def createdQueue (kind cls log2 : Nat) (pasidValid : Bool) (vector cq eq modCount pasid modTime base : Nat) : Queue :=
  { st := .disabled, kind := kindOf kind, cls := cls, base := base, log2 := log2, pasidValid := pasidValid, pasid := pasid, vector := vector,
    cq := if (kindOf kind).software then cq else 0xFFF, eq := if kindOf kind = .ledger then 0xFFF else eq, modCount := modCount, modTime := modTime }

section
variable {s : State} {h : FdHdr} {kind cls log2 vector cq eq modCount pasid modTime base rm n : Nat} {pv : Bool} (ht : Takes s h 0x01)
  (hr : roomOf s h.fn = some rm) (hbad : createBad s h kind cls pv vector cq eq modCount pasid modTime base = none)
  (hres : createResult s h.fn rm kind cls log2 vector cq eq base = 0) (hn : n < 3840) (hfree : (queue s h.fn n).st = .free)
  (hlow : ∀ m, m < n → (queue s h.fn m).st ≠ .free)
include ht hr hbad hres hn hfree hlow

theorem queueCreate_answers : queueCreate h kind cls log2 pv vector cq eq modCount pasid modTime base s =
    fdAnswer h 0x01 { ret := n } (modQueue h.fn n (fun _ => createdQueue kind cls log2 pv vector cq eq modCount pasid modTime base) s) := by
  rw [queueCreate, frontDesk_takes ht _ hbad]
  simp only [hr, hres, freeQueue_eq hn hfree hlow, ne_eq, not_true_eq_false, if_false]
  rfl

theorem queueCreate_completes : Completes (.queueCreate h kind cls log2 pv vector cq eq modCount pasid modTime base) s fun t =>
    (queue t h.fn n).st = .disabled ∧ (queue t h.fn n).enable = false ∧ (queue t h.fn n).kind = kindOf kind ∧ (queue t h.fn n).cls = cls ∧
    (queue t h.fn n).log2 = log2 ∧ (queue t h.fn n).base = base ∧ (queue t h.fn n).vector = vector ∧ (queue t h.fn n).pasid = pasid ∧
    (queue t h.fn n).modCount = modCount ∧ (queue t h.fn n).modTime = modTime ∧ (queue t h.fn n).prod = 0 ∧
    (queue t h.fn n).cons = 0 ∧ (∀ k, k ≠ qkey h.fn n → mget t.queues k {} = mget s.queues k {}) ∧ (func t h.fn).fd.running = none := by
  refine .of_act rfl ht.1 ?_
  rw [queueCreate_answers ht hr hbad hres hn hfree hlow]
  have hset := (setsQueue_modQueue h.fn n (fun _ => createdQueue kind cls log2 pv vector cq eq modCount pasid modTime base) s).fdAnswer
    (h := h) (ht.responseFits.of_parts rfl rfl rfl rfl rfl) 0x01 { ret := n }
  obtain ⟨hnew, hothers⟩ := hset.keep (l := answers ++ [.queues]) rfl
  rw [hnew]
  exact ⟨rfl, rfl, rfl, rfl, rfl, rfl, rfl, rfl, rfl, rfl, rfl, rfl, hothers, fdAnswer_running h 0x01 _ _⟩

end

/-! ### Destroying a queue (R307) -/

theorem queueDestroy_completes {s : State} {h : FdHdr} {q : Nat} (ht : Takes s h 0x02) (hq : q < 4096) (hst : (queue s h.fn q).st = .disabled)
    (hidle : qIdle s h.fn q = true) (hnamed : queueNamed s h.fn q = false) : Completes (.queueDestroy h q) s fun t =>
      t.queues = mdel s.queues (qkey h.fn q) ∧ t.lists = s.lists ∧ t.qps = s.qps ∧ (func t h.fn).fd.running = none := by
  have hOwn : firstBadOf [(decide (4096 ≤ q), 1)] = none := by simp [firstBadOf, hq]
  have hrun : queueDestroy h q s = fdAnswer h 0x02 {} { s with queues := mdel s.queues (qkey h.fn q) } := by
    rw [queueDestroy, frontDesk_takes ht _ hOwn]
    simp [hst, hidle, hnamed]
  refine .of_act rfl ht.1 ?_
  rw [hrun]
  exact ⟨fdAnswer_queues (s := { s with queues := mdel s.queues (qkey h.fn q) }) (ht.responseFits.of_parts rfl rfl rfl rfl rfl) 0x02 {}, rfl, rfl,
    fdAnswer_running h 0x02 {} _⟩

/-! ### Moderation (R307, R326) -/

/-- A queue that is not armed. -/
def Queue.disarmed (k : Queue) : Queue := { k with armed := false, sinceArm := 0, firstAt := none }

/-- A queue with a moderation. -/
def Queue.moderated (modCount modTime : Nat) (k : Queue) : Queue := { k with modCount := modCount, modTime := modTime }

/-- A queue as it is once its message has gone out if it was due (R326). -/
def Queue.raised (now : Word) (k : Queue) : Queue := if modDue now k = true then k.disarmed else k

/-- A message that is due goes out, and disarms its queue (R326). -/
theorem modRaise_due {s : State} {fn q : Nat} (hst : (queue s fn q).st ≠ .free) (hk : (queue s fn q).kind.software = false)
    (hdue : modDue (elapsed s) (queue s fn q) = true) :
    modRaise fn q s = msix fn (queue s fn q).vector (modQueue fn q Queue.disarmed s) :=
  if_pos (by simp [hst, hk, hdue])

theorem modRaise_not_due {s : State} {fn q : Nat} (hdue : modDue (elapsed s) (queue s fn q) = false) : modRaise fn q s = s :=
  if_neg (by simp [hdue])

theorem SetsQueue.modRaise {s t : State} {fn q : Nat} {k : Queue} (h : SetsQueue s fn q k t) (hst : k.st ≠ .free) (hk : k.kind.software = false) :
    SetsQueue s fn q (k.raised (elapsed t)) (modRaise fn q t) := by
  have hq : queue t fn q = k := h.1
  rw [Queue.raised]
  cases hdue : modDue (elapsed t) k
  · rw [modRaise_not_due (by rw [hq, hdue])]
    exact h
  · rw [modRaise_due (by rwa [hq]) (by rwa [hq]) (by rw [hq, hdue])]
    exact (h.modQueue Queue.disarmed).msix fn _

/-- A message leaves the response ring, and all that its places depend on, as they were. -/
theorem ResponseFits.modRaise {s : State} {g : Nat} (h : ResponseFits s g) (fn q : Nat) : ResponseFits (modRaise fn q s) g := by
  simp only [Machine.modRaise]
  split
  · exact h.of_parts (congrArg FrontDesk.resp (msix_fd fn _ g _)) rfl rfl rfl rfl
  · exact h

section
variable {s : State} {h : FdHdr} {q mc mt : Nat} (ht : Takes s h 0x03) (hq : q < 4096) (hmc : 1 ≤ mc) (hmc' : mc ≤ 256)
  (hmt : mt < 65536) (hst : (queue s h.fn q).st ≠ .free) (hk : (queue s h.fn q).kind.software = false)
include ht hq hmc hmc' hmt hst hk

theorem queueModerate_answers :
    queueModerate h q mc mt s = fdAnswer h 0x03 {} (modRaise h.fn q (modQueue h.fn q (Queue.moderated mc mt) s)) := by
  have hRanges : (decide (4096 ≤ q) || decide (512 ≤ mc) || decide (65536 ≤ mt)) = false := by
    simp only [Bool.or_eq_false_iff, decide_eq_false_iff_not]
    omega
  have hCount : (decide (mc = 0) || decide (256 < mc)) = false := by
    simp only [Bool.or_eq_false_iff, decide_eq_false_iff_not]
    omega
  rw [queueModerate, frontDesk_takes ht]
  · simp only [hst, hk, if_false, Bool.false_eq_true]
    rfl
  · simp only [hRanges, hCount, Bool.and_false]
    rfl

theorem queueModerate_completes : Completes (.queueModerate h q mc mt) s fun t =>
    (if modDue (elapsed s) { queue s h.fn q with modCount := mc, modTime := mt } = true
     then queue t h.fn q = { queue s h.fn q with modCount := mc, modTime := mt, armed := false, sinceArm := 0, firstAt := none }
     else queue t h.fn q = { queue s h.fn q with modCount := mc, modTime := mt }) ∧
    ∀ k, k ≠ qkey h.fn q → mget t.queues k {} = mget s.queues k {} := by
  refine .of_act rfl ht.1 ?_
  rw [queueModerate_answers ht hq hmc hmc' hmt hst hk]
  have hfit : ResponseFits (modQueue h.fn q (Queue.moderated mc mt) s) h.fn := ht.responseFits.of_parts rfl rfl rfl rfl rfl
  have hset := ((setsQueue_modQueue h.fn q (Queue.moderated mc mt) s).modRaise hst hk).fdAnswer (hfit.modRaise h.fn q) 0x03 {}
  obtain ⟨hnew, hothers⟩ := hset.keep (l := answers) rfl
  refine ⟨?_, hothers⟩
  split
  · next hdue => exact hnew.trans (if_pos hdue)
  · next hdue => exact hnew.trans (if_neg hdue)

end

/-! ### The front desk's own state (R299, R311, R317) -/

theorem func_keep_answers (s r : State) (fn : Nat) : func (keep answers s r) fn = func r fn := rfl

/-- The length of the entry at an index is what its first byte gives (R288). -/
theorem entryUnits_of_fetch {s : State} {fn i : Nat} {q : Queue} {b : List Byte} (h : fetchUnits s fn q (BitVec.ofNat 32 i) 1 = .ok b) :
    entryUnits s fn q i = fld (wordAt b 0) 7 0 + 1 := by
  rw [entryUnits, h]

section
variable {s : State} {fn : Nat} (hl : Live s) (hen : (func s fn).enabled = true)
include hl hen

/-- A write of ENABLE that is not ignored (R896). -/
theorem frontDeskEnable_acts {on : Bool} (hopen : on = true → qQuiet s fn = false ∨ isInn s fn = true) {P : State → Prop}
    (hp : P (keep answers s (frontDeskEnable fn on s))) : Completes (.frontDeskEnable fn on) s P := by
  refine .of_act (f := fun s => if !(func s fn).enabled || (on && qQuiet s fn && !isInn s fn) then s else frontDeskEnable fn on s) rfl hl ?_
  rw [if_neg]
  · exact hp
  · cases on
    · simp [hen]
    · rcases hopen rfl with h | h <;> simp [hen, h]

theorem frontDeskEnable_on_completes (hopen : qQuiet s fn = false ∨ isInn s fn = true) (hreq : (func s fn).fd.req.st = .disabled)
    (hresp : (func s fn).fd.resp.st = .disabled) (hheld : (func s fn).fd.resp.held = []) : Completes (.frontDeskEnable fn true) s fun t =>
      (func t fn).fd.enable = true ∧ (func t fn).fd.req.st = .active ∧ (func t fn).fd.resp.st = .active ∧ ∀ f, f ≠ fn → func t f = func s f := by
  refine frontDeskEnable_acts hl hen (fun _ => hopen) ?_
  rw [frontDeskEnable, takeResp_nil (by simp [hresp, hheld])]
  simp only [func_keep_answers, func_modFunc]
  refine ⟨?_, ?_, ?_, fun f hf => func_modFunc_ne hf _ s⟩
  all_goals simp [hreq, hresp]

theorem frontDeskEnable_off_completes (hreq : (func s fn).fd.req.st = .active) (hresp : (func s fn).fd.resp.st = .active)
    (hheld : (func s fn).fd.resp.held = []) : Completes (.frontDeskEnable fn false) s fun t =>
      (func t fn).fd.enable = false ∧ (func t fn).fd.req.st = (if (func s fn).fd.running.isSome then .draining else .disabled) ∧
      (func t fn).fd.running = (func s fn).fd.running ∧ ∀ f, f ≠ fn → func t f = func s f := by
  refine frontDeskEnable_acts hl hen (fun hon => absurd hon Bool.false_ne_true) ?_
  rw [frontDeskEnable, takeResp_nil (by simp [hresp, hheld])]
  simp only [func_keep_answers, func_modFunc]
  refine ⟨?_, ?_, ?_, fun f hf => func_modFunc_ne hf _ s⟩
  all_goals simp [hreq]

theorem frontDeskResume_completes {b : List Byte} (skip : Bool) (hopen : qQuiet s fn = false ∨ isInn s fn = true)
    (hreq : (func s fn).fd.req.st = .error) (hresp : (func s fn).fd.resp.st = .active) (hheld : (func s fn).fd.resp.held = [])
    (hb : fetchUnits s fn (func s fn).fd.req (BitVec.ofNat 32 (func s fn).fd.req.errIndex) 1 = .ok b) :
    Completes (.frontDeskResume fn skip) s fun t =>
      (func t fn).fd.req.st = .active ∧ (func t fn).fd.enable = true ∧
      (func t fn).fd.req.cons = BitVec.ofNat 32 ((func s fn).fd.req.errIndex + if skip then fld (wordAt b 0) 7 0 + 1 else 0) ∧
      ∀ f, f ≠ fn → func t f = func s f := by
  refine .of_act (f := fun s => if !(func s fn).enabled || (qQuiet s fn && !isInn s fn) then s else frontDeskResume fn skip s) rfl hl ?_
  have hgo : ¬ (!(func s fn).enabled || (qQuiet s fn && !isInn s fn)) = true := by rcases hopen with h | h <;> simp [hen, h]
  rw [if_neg hgo, frontDeskResume, if_neg (not_not_intro hreq)]
  dsimp only
  rw [takeResp_nil (by simp [hheld]), entryUnits_of_fetch hb]
  simp only [func_keep_answers, func_modFunc]
  refine ⟨trivial, trivial, ?_, fun f hf => func_modFunc_ne hf _ s⟩
  rw [if_neg (by simp [hresp])]
  cases skip
  · rfl
  · rfl

end

/-- Settles O17: each queue command changes one queue's record before an answer that its ring takes, and a front desk that holds no responses back changes
its own record alone. -/
theorem queuesAreMadeAndDestroyed : Obligations.QueuesAreMadeAndDestroyed := by
  unfold Obligations.QueuesAreMadeAndDestroyed
  exact ⟨
    fun _ _ _ _ _ _ _ _ _ _ _ _ _ _ _ ht hr hbad hres hn hfree hlow => queueCreate_completes ht hr hbad hres hn hfree hlow,
    fun _ _ _ ht hq hst hidle hnamed => queueDestroy_completes ht hq hst hidle hnamed,
    fun _ _ _ _ _ ht hq hmc hmc' hmt hst hk => queueModerate_completes ht hq hmc hmc' hmt hst hk,
    fun _ _ hl hen hopen hreq hresp hheld => frontDeskEnable_on_completes hl hen hopen hreq hresp hheld,
    fun _ _ hl hen hreq hresp hheld => frontDeskEnable_off_completes hl hen hreq hresp hheld,
    fun _ _ _ skip hl hen hopen hreq hresp hheld hb => frontDeskResume_completes hl hen skip hopen hreq hresp hheld hb⟩

end Sys2Proof.Machine

/-! ## Doorbells, fetches and messages -/

namespace Sys2Proof.Machine

open Sys2Proof

/-! ### Producer doorbells (R291, R293) -/

section
variable {s : State} {fn q : Nat} (hl : Live s)
include hl

theorem producerDoorbell_completes (i : Nat) (hq : q ≠ 4095) (hst : (queue s fn q).st ≠ .free) (hk : (queue s fn q).kind.software = true) :
    Completes (.producerDoorbell fn q i) s fun t =>
      queue t fn q = { queue s fn q with prod := BitVec.ofNat 32 i, wild := (queue t fn q).wild } ∧
      ∀ k, k ≠ qkey fn q → mget t.queues k {} = mget s.queues k {} := by
  have hrun : producerDoorbell fn q i s = modQueue fn q (takeProducer i) s := by
    rw [producerDoorbell, fdReq, if_neg hq, if_neg hst, if_pos hk]
  refine .of_act rfl hl ?_
  rw [hrun]
  obtain ⟨hnew, hothers⟩ := (setsQueue_modQueue fn q (takeProducer i) s).keep (l := [.cnt, .funcs, .queues]) rfl
  rw [hnew]
  exact ⟨rfl, hothers⟩

theorem deskProducerDoorbell_completes (fn i : Nat) : Completes (.producerDoorbell fn 4095 i) s fun t =>
    (func t fn).fd.req = { (func s fn).fd.req with prod := BitVec.ofNat 32 i, wild := (func t fn).fd.req.wild } ∧ t.queues = s.queues := by
  have hrun : producerDoorbell fn 4095 i s = modReq fn (takeProducer i) s := if_pos rfl
  have hnew : (func (modReq fn (takeProducer i) s) fn).fd.req = takeProducer i (func s fn).fd.req := by rw [modReq, func_modFunc]
  refine .of_act rfl hl ?_
  rw [hrun]
  have hkeep : (func (keep [.cnt, .funcs, .queues] s (modReq fn (takeProducer i) s)) fn).fd.req = takeProducer i (func s fn).fd.req := hnew
  rw [hkeep]
  exact ⟨rfl, rfl⟩

end

/-! ### Consumer doorbells (R292, R294, R297) -/

/-- A ring is empty where its indices meet (R283). -/
theorem occupied_eq_zero {k : Queue} : k.occupied = 0 ↔ k.cons = k.prod := by
  rw [Queue.occupied]
  bv_omega

/-- Arming a queue changes what its message waits for, and nothing else; it stays armed unless the message goes out at once (R326, R327). -/
theorem armQueue_snd (now : Word) (k : Queue) : (armQueue now k).2 =
    { k with armed := decide (k.cons = k.prod) || decide (k.modTime ≠ 0), sinceArm := 0, firstAt := (armQueue now k).2.firstAt } := by
  simp only [armQueue, occupied_eq_zero]
  by_cases hempty : k.cons = k.prod
  · simp [hempty]
  · by_cases htime : k.modTime = 0
    · simp [hempty, htime]
    · simp [hempty, htime]

/-- A queue whose consumer index is taken, and which is armed where the doorbell asks for it: whether its message goes out, and its record. -/
def Queue.consumed (now : Word) (i : Nat) (arm : Bool) (k : Queue) : Bool × Queue :=
  if arm then armQueue now { k with cons := BitVec.ofNat 32 i } else (false, { k with cons := BitVec.ofNat 32 i })

theorem Queue.consumed_spec (now : Word) (i : Nat) (arm : Bool) (k : Queue) :
    (k.consumed now i arm).2.cons = BitVec.ofNat 32 i ∧ (k.consumed now i arm).2.prod = k.prod ∧ (k.consumed now i arm).2.st = k.st ∧
    (k.consumed now i arm).2.held = k.held ∧
    (k.consumed now i arm).2.armed = if arm then decide (BitVec.ofNat 32 i = k.prod) || decide (k.modTime ≠ 0) else k.armed := by
  cases arm with
  | false => exact ⟨rfl, rfl, rfl, rfl, rfl⟩
  | true =>
    rw [Queue.consumed, if_pos rfl, armQueue_snd]
    exact ⟨rfl, rfl, rfl, rfl, rfl⟩

section
variable {s : State} {fn q i : Nat} {arm : Bool}

/-- The state in which a consumer index is taken, before what its queue held back is written. -/
def indexTaken (fn q i : Nat) (arm : Bool) (s : State) : State :=
  let a := (queue s fn q).consumed (elapsed s) i arm
  if a.1 then msix fn (queue s fn q).vector (modQueue fn q (fun _ => a.2) s) else modQueue fn q (fun _ => a.2) s

theorem setsQueue_indexTaken (fn q i : Nat) (arm : Bool) (s : State) :
    SetsQueue s fn q ((queue s fn q).consumed (elapsed s) i arm).2 (indexTaken fn q i arm s) := by
  have hset := setsQueue_modQueue fn q (fun _ => ((queue s fn q).consumed (elapsed s) i arm).2) s
  simp only [indexTaken]
  split
  · exact hset.msix fn _
  · exact hset

/-- An index in range is taken (R292, R297); a queue that holds nothing back writes nothing then. -/
theorem consumerDoorbell_in_range (hq : q ≠ 4094) (hst : (queue s fn q).st ≠ .free) (hk : (queue s fn q).kind.software = false)
    (hheld : (queue s fn q).held = []) (hin : consumerOk (queue s fn q) i = true) :
    consumerDoorbell fn q i arm s = indexTaken fn q i arm s := by
  have hrun : consumerDoorbell fn q i arm s =
      if (queue s fn q).kind = .cq then takeHeld fn q (indexTaken fn q i arm s) else indexTaken fn q i arm s := by
    rw [consumerDoorbell, fdRsp, if_neg hq]
    simp only [hst, hk, hin, if_false, Bool.false_eq_true, Bool.not_true]
    rfl
  obtain ⟨-, -, -, hkeeps, -⟩ := (queue s fn q).consumed_spec (elapsed s) i arm
  have hnone : (queue (indexTaken fn q i arm s) fn q).held = [] := by rw [(setsQueue_indexTaken fn q i arm s).1, hkeeps, hheld]
  rw [hrun, takeHeld_nil hnone, ite_self]

theorem consumerDoorbell_completes (hl : Live s) (hq : q ≠ 4094) (hst : (queue s fn q).st ≠ .free) (hk : (queue s fn q).kind.software = false)
    (hheld : (queue s fn q).held = []) (hin : (BitVec.ofNat 32 i - (queue s fn q).cons).toNat ≤ (queue s fn q).occupied) :
    Completes (.consumerDoorbell fn q i arm) s fun t =>
      (queue t fn q).cons = BitVec.ofNat 32 i ∧ (queue t fn q).prod = (queue s fn q).prod ∧ (queue t fn q).st = (queue s fn q).st ∧
      (queue t fn q).armed = (if arm then decide (BitVec.ofNat 32 i = (queue s fn q).prod) || decide ((queue s fn q).modTime ≠ 0) else (queue s fn q).armed) ∧
      ∀ k, k ≠ qkey fn q → mget t.queues k {} = mget s.queues k {} := by
  refine .of_act rfl hl ?_
  rw [consumerDoorbell_in_range hq hst hk hheld (decide_eq_true hin)]
  obtain ⟨hnew, hothers⟩ := (setsQueue_indexTaken fn q i arm s).keep (l := answers ++ [.queues]) rfl
  obtain ⟨hcons, hprod, hst', -, harmed⟩ := (queue s fn q).consumed_spec (elapsed s) i arm
  rw [hnew]
  exact ⟨hcons, hprod, hst', harmed, hothers⟩

theorem deskConsumerDoorbell_completes (hl : Live s) (hin : (BitVec.ofNat 32 i - (func s fn).fd.resp.cons).toNat ≤ (func s fn).fd.resp.occupied) :
    Completes (.consumerDoorbell fn 4094 i false) s fun t =>
      (func t fn).fd.resp = { (func s fn).fd.resp with cons := BitVec.ofNat 32 i } ∧ t.queues = s.queues := by
  have hok : consumerOk (func s fn).fd.resp i = true := decide_eq_true hin
  have hrun : consumerDoorbell fn 4094 i false s = modRsp fn (fun _ => { (func s fn).fd.resp with cons := BitVec.ofNat 32 i }) s := by
    rw [consumerDoorbell, fdRsp, if_pos rfl]
    simp only [hok]
    rfl
  refine .of_act rfl hl ?_
  rw [hrun]
  have hnew : (func (modRsp fn (fun _ => { (func s fn).fd.resp with cons := BitVec.ofNat 32 i }) s) fn).fd.resp =
      { (func s fn).fd.resp with cons := BitVec.ofNat 32 i } := by rw [modRsp, func_modFunc]
  exact ⟨hnew, rfl⟩

/-- An index out of range is not taken: a Ledger stops, and any other queue sets BAD_DOORBELL (R297, R316). -/
theorem consumerDoorbell_out_of_range_completes (hl : Live s) (hq : q ≠ 4094) (hst : (queue s fn q).st = .active)
    (hk : (queue s fn q).kind.software = false) (hout : (queue s fn q).occupied < (BitVec.ofNat 32 i - (queue s fn q).cons).toNat) :
    Completes (.consumerDoorbell fn q i arm) s fun t =>
      (queue t fn q).cons = (queue s fn q).cons ∧
      if (queue s fn q).kind = .ledger then (queue t fn q).st = .error ∧ (queue t fn q).errDetail = 0x12
      else (queue t fn q).badDoorbell = true ∧ (queue t fn q).seq = (queue s fn q).seq + 1 := by
  have hok : consumerOk (queue s fn q) i = false := decide_eq_false (Nat.not_le.2 hout)
  have hrun : consumerDoorbell fn q i arm s =
      if (queue s fn q).kind = .ledger then modQueue fn q (fun k => { k with st := .error, errIndex := i % 2 ^ 32, errDetail := 0x12 }) s
      else modQueue fn q (fun k => { k with badDoorbell := true, seq := k.seq + 1 }) s := by
    rw [consumerDoorbell, fdRsp, if_neg hq]
    simp only [hst, hk, hok]
    rfl
  refine .of_act rfl hl ?_
  rw [hrun]
  split
  · obtain ⟨hnew, -⟩ := (setsQueue_modQueue fn q (fun k => { k with st := .error, errIndex := i % 2 ^ 32, errDetail := 0x12 }) s).keep
      (l := answers ++ [.queues]) rfl
    rw [hnew]
    exact ⟨rfl, rfl, rfl⟩
  · obtain ⟨hnew, -⟩ := (setsQueue_modQueue fn q (fun k => { k with badDoorbell := true, seq := k.seq + 1 }) s).keep
      (l := answers ++ [.queues]) rfl
    rw [hnew]
    exact ⟨rfl, rfl, rfl⟩

end

/-! ### Entries of rings that are fetched (R289) -/

/-- Fetching an entry that can be read only asks and counts, where no memory holds a latent error. -/
theorem onlyAsks_fetchEff {s : State} {fn : Nat} {k : Queue} {i : BitVec 32} {n : Nat} {d : List Byte} (hm : s.mem.latentCe = [])
    (hd : fetchUnits s fn k i n = .ok d) (object : Nat) : OnlyAsks s (fetchEff fn object k i n s) := by
  rw [fetchUnits] at hd
  rw [fetchEff]
  split at hd
  · cases hd
  · next ls _ =>
    exact OnlyAsks.ringReadOnly (OnlyAsks.foldl (fun u l hu => hu.trans (onlyAsks_locReadEff (by rw [hu]; exact hm) 16 l)) ls (OnlyAsks.refl s))

theorem OnlyAsks.queues {s t : State} (h : OnlyAsks s t) : t.queues = s.queues := by rw [h]
theorem OnlyAsks.lists {s t : State} (h : OnlyAsks s t) : t.lists = s.lists := by rw [h]
theorem OnlyAsks.func {s t : State} (h : OnlyAsks s t) (fn : Nat) : func t fn = func s fn := by rw [h]; rfl

/-- A ring whose outcome is predictable does what its rules say (R331). -/
theorem wildFetch_off (fn q : Nat) (k : Queue) (body : State → State) (s : State) : wildFetch false fn q k body s = body s := rfl

/-- A queue past an entry of n units. -/
def Queue.past (n : Nat) (k : Queue) : Queue := { k with cons := k.cons + BitVec.ofNat 32 n }

/-- The next entry of a ring can be read: its first unit is b, it is d, and the producer index covers it whole (R288, R289). -/
def NextEntry (s : State) (fn : Nat) (k : Queue) (b d : List Byte) : Prop :=
  fetchUnits s fn k k.cons 1 = .ok b ∧ fld (wordAt b 0) 7 0 + 1 ≤ k.occupied ∧ fetchUnits s fn k k.cons (fld (wordAt b 0) 7 0 + 1) = .ok d

/-- The work that a queue has fetched: one entry more. -/
def Queue.withFetched (f : Fetched) (k : Queue) : Queue := { k with fetched := k.fetched ++ [f] }

/-- The state in which a queue has gone past its next entry. -/
def entryRead (fn q n : Nat) (s : State) : State :=
  modQueue fn q (Queue.past n) (fetchEff fn q (queue s fn q) (queue s fn q).cons n s)

section
variable {s : State} {fn q rm : Nat} {b d : List Byte} (hq : q ≠ 4095) (hroom : roomOf s fn = some rm) (hst : (queue s fn q).st = .active)
  (hcq : cqReady s fn (queue s fn q).cq = true) (hwild : wildRing s fn q (queue s fn q) = false) (hagain : (queue s fn q).again = 0)
  (hnext : NextEntry s fn (queue s fn q) b d) (hbad : reachedBad s fn q = none)
include hq hroom hst hcq hwild hagain hnext hbad

/-- An active send or receive queue takes a well-formed entry into the work that it has fetched. -/
theorem ringFetch_work (hk : (queue s fn q).kind = .send ∨ (queue s fn q).kind = .recv) (hform : formOf s (queue s fn q) d = none)
    (hgo : sendPaused s fn q (queue s fn q) (fld (wordAt b 0) 15 8) d = false) :
    ringFetch fn q s = modQueue fn q (Queue.withFetched {
        index := (queue s fn q).cons.toNat, units := fld (wordAt b 0) 7 0 + 1, opcode := fld (wordAt b 0) 15 8,
        tag := fld (wordAt b 0) 63 32, fin := true }) (entryRead fn q (fld (wordAt b 0) 7 0 + 1) s) := by
  obtain ⟨hb, hcovered, hd⟩ := hnext
  have hsome : (queue s fn q).occupied ≠ 0 := by omega
  rw [ringFetch, fdReq, if_neg hq]
  rcases hk with hk | hk
  all_goals
    simp only [hroom, hbad, hst, hk, hcq, hsome, hwild, wildFetch_off, hb, Nat.not_lt.2 hcovered, hagain, hd, hform, hgo]
    rfl

/-- An active engine queue gives a well-read entry to its lists. -/
theorem ringFetch_engine (hk : (queue s fn q).kind = .engine) (hopen : openList s fn q = none)
    (hquota : inFlight s rm (queue s fn q).cls < listQuota (room s rm) (queue s fn q).cls) (hpass : (queue s fn q).passing = false) :
    ringFetch fn q s = addToList fn q rm (queue s fn q).cls d (queue s fn q).cons.toNat (fld (wordAt b 0) 7 0 + 1)
      (entryRead fn q (fld (wordAt b 0) 7 0 + 1) s) := by
  obtain ⟨hb, hcovered, hd⟩ := hnext
  have hsome : (queue s fn q).occupied ≠ 0 := by omega
  have hform : formOf s (queue s fn q) d = none := by rw [formOf, hk]
  have hgo : sendPaused s fn q (queue s fn q) (fld (wordAt b 0) 15 8) d = false := by rw [sendPaused, hk]; rfl
  rw [ringFetch, fdReq, if_neg hq]
  simp only [hroom, hbad, hst, hk, hcq, hsome, hopen, Nat.not_le.2 hquota, hpass, hwild, wildFetch_off, hb, Nat.not_lt.2 hcovered, hagain, hd, hform, hgo]
  rfl

end

/-- Reading an entry moves the consumer index of its queue, and changes no list and no other queue. -/
theorem setsQueue_entryRead {s : State} {fn q : Nat} {b d : List Byte} (hm : s.mem.latentCe = []) (hnext : NextEntry s fn (queue s fn q) b d) :
    SetsQueue s fn q ((queue s fn q).past (fld (wordAt b 0) 7 0 + 1)) (entryRead fn q (fld (wordAt b 0) 7 0 + 1) s) :=
  ((SetsQueue.refl s fn q).of_queues (onlyAsks_fetchEff hm hnext.2.2 q).queues).modQueue _

theorem entryRead_lists {s : State} {fn q : Nat} {b d : List Byte} (hm : s.mem.latentCe = []) (hnext : NextEntry s fn (queue s fn q) b d) :
    (entryRead fn q (fld (wordAt b 0) 7 0 + 1) s).lists = s.lists := (onlyAsks_fetchEff hm hnext.2.2 q).lists

/-- The fetched record of an engine entry that opens its list. -/
def openingEntry (fn q i units : Nat) (d : List Byte) : Fetched :=
  { index := i, units := units, opcode := fld (wordAt d 0) 15 8, tag := (hdrOf fn q i i units d).tag, fin := (hdrOf fn q i i units d).fin }

/-- An engine entry that finds no open list on its queue opens one (R334). -/
theorem addToList_opens {s : State} {fn q : Nat} (hopen : openList s fn q = none) (rm cls : Nat) (d : List Byte) (i units : Nat) :
    ∃ r : ListRec, addToList fn q rm cls d i units s =
        modQueue fn q (Queue.withFetched (openingEntry fn q i units d)) { s with lists := s.lists ++ [r] } ∧
      r.fn = fn ∧ r.queue = q ∧ r.list = i ∧ r.room = rm ∧ r.cls = cls ∧ r.st = .ready ∧ r.inFlight = false ∧
      r.whole = (nbit (wordAt d 1) 0 == 1) ∧ r.order = (nbit (wordAt d 1) 3 == 1) ∧ r.signals = [fld (wordAt d 1) 47 32] := by
  rw [addToList, hopen]
  exact ⟨_, rfl, rfl, rfl, rfl, rfl, rfl, rfl, rfl, rfl, rfl, rfl⟩

section
variable {s : State} {fn q rm : Nat} {b d : List Byte} (hl : Live s) (hq : q ≠ 4095) (hroom : roomOf s fn = some rm)
  (hst : (queue s fn q).st = .active) (hcq : cqReady s fn (queue s fn q).cq = true) (hm : s.mem.latentCe = [])
  (hwild : wildRing s fn q (queue s fn q) = false) (hagain : (queue s fn q).again = 0) (hnext : NextEntry s fn (queue s fn q) b d)
  (hbad : reachedBad s fn q = none)
include hl hq hroom hst hcq hm hwild hagain hnext hbad

theorem ringFetch_work_completes (hk : (queue s fn q).kind = .send ∨ (queue s fn q).kind = .recv) (hform : formOf s (queue s fn q) d = none)
    (hgo : sendPaused s fn q (queue s fn q) (fld (wordAt b 0) 15 8) d = false) : Completes (.ringFetch fn q) s fun t =>
      (queue t fn q).cons = (queue s fn q).cons + BitVec.ofNat 32 (fld (wordAt b 0) 7 0 + 1) ∧
      (queue t fn q).fetched = (queue s fn q).fetched ++ [{
        index := (queue s fn q).cons.toNat, units := fld (wordAt b 0) 7 0 + 1, opcode := fld (wordAt b 0) 15 8,
        tag := fld (wordAt b 0) 63 32, fin := true }] ∧
      (queue t fn q).st = .active ∧ t.qps = s.qps := by
  refine .of_act rfl hl ?_
  rw [ringFetch_work hq hroom hst hcq hwild hagain hnext hbad hk hform hgo]
  obtain ⟨hnew, -⟩ := ((setsQueue_entryRead hm hnext).modQueue (Queue.withFetched _)).keep (l := listWork ++ [.free]) rfl
  rw [hnew]
  exact ⟨rfl, rfl, hst, rfl⟩

theorem ringFetch_engine_completes (hk : (queue s fn q).kind = .engine) (hopen : openList s fn q = none)
    (hquota : inFlight s rm (queue s fn q).cls < listQuota (room s rm) (queue s fn q).cls) (hpass : (queue s fn q).passing = false) :
    Completes (.ringFetch fn q) s fun t =>
      (queue t fn q).cons = (queue s fn q).cons + BitVec.ofNat 32 (fld (wordAt b 0) 7 0 + 1) ∧
      ∃ r : ListRec, t.lists = s.lists ++ [r] ∧ r.fn = fn ∧ r.queue = q ∧ r.list = (queue s fn q).cons.toNat ∧ r.room = rm ∧
        r.cls = (queue s fn q).cls ∧ r.st = .ready ∧ r.inFlight = false ∧ r.whole = (nbit (wordAt d 1) 0 == 1) ∧
        r.order = (nbit (wordAt d 1) 3 == 1) ∧ r.signals = [fld (wordAt d 1) 47 32] := by
  have hlists := entryRead_lists hm hnext
  have hopen' : openList (entryRead fn q (fld (wordAt b 0) 7 0 + 1) s) fn q = none := by rw [openList, hlists]; exact hopen
  obtain ⟨r, hadd, hrec⟩ := addToList_opens hopen' rm (queue s fn q).cls d (queue s fn q).cons.toNat (fld (wordAt b 0) 7 0 + 1)
  have hset := (SetsQueue.of_queues (u := { entryRead fn q (fld (wordAt b 0) 7 0 + 1) s with
    lists := (entryRead fn q (fld (wordAt b 0) 7 0 + 1) s).lists ++ [r] }) (setsQueue_entryRead hm hnext) rfl).modQueue
    (Queue.withFetched (openingEntry fn q (queue s fn q).cons.toNat (fld (wordAt b 0) 7 0 + 1) d))
  refine .of_act rfl hl ?_
  rw [ringFetch_engine hq hroom hst hcq hwild hagain hnext hbad hk hopen hquota hpass, hadd]
  obtain ⟨hnew, -⟩ := hset.keep (l := listWork ++ [.free]) rfl
  rw [hnew]
  exact ⟨rfl, r, congrArg (· ++ [r]) hlists, hrec⟩

end

end Sys2Proof.Machine

/-! ## Front desks while records are written -/

namespace Sys2Proof.Machine

open Sys2Proof

/-- A step that leaves every front desk as it was. -/
def KeepsDesks (f : State → State) : Prop := ∀ s g, (func (f s) g).fd = (func s g).fd

/-- A record that is written, dropped or held leaves every front desk as it was (R985, R986): of functions it changes what its messages change. -/
theorem keepsDesks_putRecord (fn : Nat) (r : LedgerRec) : KeepsDesks (putRecord fn r) := by
  intro s g
  rw [putRecord]
  split
  · exact raise_fd _ _ _ _
  · dsimp only
    split
    · split
      · next t hput =>
        have hdesk : (func t g).fd = (func s g).fd := by
          split at hput
          · rw [tryPut_func hput]
          · cases hput
        rw [ite_msix_fd]
        exact hdesk
      · exact raise_fd _ _ _ _
      · rfl
      · rfl
    · exact raise_fd _ _ _ _

/-- The writers of records, and what a unit in FATAL takes down, leave every front desk as it was. -/
structure Sinks.KeepDesks (k : Sinks) : Prop where
  inn : ∀ r, KeepsDesks (k.inn r)
  guest : ∀ rm r, KeepsDesks (k.guest rm r)
  down : ∀ u, KeepsDesks (k.down u)

section
variable {k : Sinks} (hk : k.KeepDesks)
include hk

theorem keepsDesks_unitFatalBy (u : Nat) : KeepsDesks (unitFatalBy k u) := by
  intro s g
  simp only [unitFatalBy]
  rw [hk.down]
  split
  · rw [hk.inn, raise_fd]; rfl
  · rw [raise_fd]; rfl

theorem keepsDesks_memRecordBy (x : Access) (kind u m a : Nat) (second : Bool) : KeepsDesks (memRecordBy k x kind u m a second) := by
  intro s g
  simp only [memRecordBy]
  split
  · exact hk.inn _ s g
  · exact (hk.guest _ _ _ g).trans (hk.inn _ s g)

theorem keepsDesks_latchNewBy (x : Access) (kind u m a : Nat) : KeepsDesks (latchNewBy k x kind u m a) := by
  intro s g
  simp only [latchNewBy]
  split
  · exact (keepsDesks_memRecordBy hk x kind u m a false _ g).trans (raise_fd _ _ _ _)
  · split
    · exact ((keepsDesks_unitFatalBy hk u _ g).trans (keepsDesks_memRecordBy hk x kind u m a true _ g)).trans (raise_fd _ _ _ _)
    · rfl

/-- A line that has failed before, or fails now. -/
theorem keepsDesks_line (fresh : Bool) (kind : Nat) (x : Access) (l : Nat) : KeepsDesks fun s =>
    if lineNew s l fresh = true then
      latchNewBy k x kind (latchUnit s (l * 64)) (memNo s (l * 64)) (l * 64) (markLine l (bump (0x440200 + 8 * memNo s (l * 64)) s))
    else memRecordBy k x 4 (latchUnit s (l * 64)) (memNo s (l * 64)) (l * 64) false (bump (0x440300 + 8 * memNo s (l * 64)) s) := by
  intro s g
  dsimp only
  split
  · exact keepsDesks_latchNewBy hk x kind _ _ _ _ g
  · exact keepsDesks_memRecordBy hk x 4 _ _ _ false _ g

theorem keepsDesks_meetBy (kind : Nat) (x : Access) (b : Bad) : KeepsDesks (meetBy k kind x b) := by
  intro s g
  cases b with
  | absent a =>
    simp only [meetBy]
    split
    · exact hk.inn _ s g
    · exact (hk.guest _ _ _ g).trans (hk.inn _ s g)
  | dead a => exact keepsDesks_memRecordBy hk x 4 _ _ a false _ g
  | repeated l => exact keepsDesks_line hk false kind x l s g
  | map a =>
    simp only [meetBy]
    split
    · exact (keepsDesks_latchNewBy hk _ 7 _ _ a _ g).trans (raise_fd _ _ _ _)
    · rfl
  | fresh l => exact keepsDesks_line hk true kind x l s g

end

section
variable {put : Nat → LedgerRec → State → State} (hp : ∀ fn r, KeepsDesks (put fn r))
include hp

theorem keepsDesks_innBy (r : LedgerRec) : KeepsDesks (innBy put r) := by
  intro s g
  simp only [innBy]
  split
  · exact hp _ _ s g
  · exact hp _ _ s g

theorem keepsDesks_guestBy (rm : Nat) (r : LedgerRec) : KeepsDesks (guestBy put rm r) := fun s g => hp _ _ s g

/-- What the failure of an access to ring memory does beside stopping the ring leaves every front desk as it was (R252, R965, R968). -/
theorem keepsDesks_meetRing (code fn object : Nat) (e : Option RingErr) : KeepsDesks (meetRing put code fn object e) := by
  intro s g
  rw [meetRing.eq_def]
  split
  · split
    · exact keepsDesks_guestBy hp _ _ s g
    · rfl
  · exact keepsDesks_meetBy ⟨keepsDesks_innBy hp, keepsDesks_guestBy hp, fun _ _ _ => rfl⟩ 3 _ _ s g
  · exact keepsDesks_innBy hp _ s g
  · rfl

end

theorem keepsDesks_putLedgerN (n fn : Nat) (r : LedgerRec) : KeepsDesks (putLedgerN n fn r) := by
  induction n generalizing fn r with
  | zero => exact keepsDesks_putRecord fn r
  | succ n ih =>
    intro s g
    rw [putLedgerN]
    split
    · exact keepsDesks_putRecord fn r s g
    · split
      · exact (keepsDesks_meetRing ih _ _ _ _ _ g).trans (keepsDesks_putRecord fn r s g)
      · exact keepsDesks_putRecord fn r s g

theorem keepsDesks_putLedger (fn : Nat) (r : LedgerRec) : KeepsDesks (putLedger fn r) := keepsDesks_putLedgerN 2 fn r

/-! ### A front desk that stops (R316) -/

/-- A request ring that stopped at the entry of an index. -/
def Queue.StoppedAt (i : Nat) (c : BitVec 32) (k : Queue) : Prop := k.st = .error ∧ k.errIndex = i ∧ k.cons = c

theorem Queue.StoppedAt.fdIdle {i : Nat} {c : BitVec 32} {k : Queue} (h : k.StoppedAt i c) : (fdIdle k).StoppedAt i c := by
  rw [Machine.fdIdle, h.1]
  exact h

/-- A response leaves a front desk that has stopped at its entry stopped there, whether it is written, is held or fails (R316, R1142). -/
theorem putResp_stoppedAt {s : State} {h : FdHdr} {c : BitVec 32} (hs : (func s h.fn).fd.req.StoppedAt h.index c) (op : Nat) (r : FdResp) :
    (func (putResp h op r s) h.fn).fd.req.StoppedAt h.index c := by
  simp only [putResp]
  split
  · next t hput =>
    rw [ite_msix_fd, func_modFunc, tryPut_func hput]
    exact hs.fdIdle
  · rw [modRsp, func_modFunc]
    exact hs
  · rw [func_modFunc, keepsDesks_meetRing keepsDesks_putLedger]
    exact ⟨rfl, rfl, hs.2.2⟩

/-- A malformed entry stops its front desk, at the entry, and the request ring does not move (R316). -/
theorem fdMalformed_stoppedAt (h : FdHdr) (op d : Nat) (s : State) :
    (func (fdMalformed h op d s) h.fn).fd.req.StoppedAt h.index (func s h.fn).fd.req.cons := by
  rw [fdMalformed, fdAnswer, ledgerOnly_func]
  dsimp only
  split
  · rw [func_modFunc, func_modFunc, func_modFunc]
    exact Queue.StoppedAt.fdIdle ⟨rfl, rfl, rfl⟩
  · refine putResp_stoppedAt ?_ _ _
    rw [func_modFunc, func_modFunc]
    exact ⟨rfl, rfl, rfl⟩

theorem ringFetch_desk_malformed {s : State} {fn x : Nat} {b d : List Byte} (hfree : fdFree s fn = true)
    (hwild : wildRing s fn 4095 (func s fn).fd.req = false) (hnext : NextEntry s fn (func s fn).fd.req b d)
    (hform : fdFormBad (fdBarred s fn (fld (wordAt b 0) 15 8) d) (fld (wordAt b 0) 15 8) d = some x) :
    ringFetch fn 4095 s = fdMalformed { fn := fn, index := (func s fn).fd.req.cons.toNat, tag := fld (wordAt b 0) 63 32 } (fld (wordAt b 0) 15 8) x
      (fetchEff fn 4095 (func s fn).fd.req (func s fn).fd.req.cons (fld (wordAt b 0) 7 0 + 1) s) := by
  obtain ⟨hb, hcovered, hd⟩ := hnext
  have hsome : (func s fn).fd.req.occupied ≠ 0 := by omega
  rw [ringFetch, fdReq, if_pos rfl]
  simp only [hfree, hsome, hwild, wildFetch_off, hb, Nat.not_lt.2 hcovered, hd, hform]
  rfl

theorem ringFetch_desk_malformed_completes {s : State} {fn x : Nat} {b d : List Byte} (hl : Live s) (hfree : fdFree s fn = true)
    (hm : s.mem.latentCe = []) (hwild : wildRing s fn 4095 (func s fn).fd.req = false) (hnext : NextEntry s fn (func s fn).fd.req b d)
    (hform : fdFormBad (fdBarred s fn (fld (wordAt b 0) 15 8) d) (fld (wordAt b 0) 15 8) d = some x) :
    Completes (.ringFetch fn 4095) s fun t =>
      (func t fn).fd.req.st = .error ∧ (func t fn).fd.req.errIndex = (func s fn).fd.req.cons.toNat ∧ (func t fn).fd.req.cons = (func s fn).fd.req.cons := by
  refine .of_act rfl hl ?_
  have hstop := fdMalformed_stoppedAt { fn := fn, index := (func s fn).fd.req.cons.toNat, tag := fld (wordAt b 0) 63 32 } (fld (wordAt b 0) 15 8) x
    (fetchEff fn 4095 (func s fn).fd.req (func s fn).fd.req.cons (fld (wordAt b 0) 7 0 + 1) s)
  rw [(onlyAsks_fetchEff hm hnext.2.2 4095).func] at hstop
  rw [ringFetch_desk_malformed hfree hwild hnext hform]
  exact hstop

/-! ### A list that comes to a malformed entry (R358, R369, R370) -/

@[simp] theorem lanternFault_quotas (rm l g : Nat) (s : State) : (room (lanternFault rm l s) g).quotas = (room s g).quotas := by
  rw [lanternFault, modLantern]
  split
  · rfl
  · by_cases hg : g = rm
    · rw [hg, modLanternReg, room_modRoom]
      split
      · rfl
      · rfl
    · rw [modLanternReg, room_modRoom_ne hg]

section
variable {s : State} {rm k : Nat}

theorem lanternFault_faults (h : k ≠ 0xFFFF) (hk : k < (room s rm).quotas.lantern) : (lantern (lanternFault rm k s) rm k).fault = true := by
  rw [lanternFault, modLantern, if_neg h, lantern_modLanternReg _ hk]

theorem lanternFault_keeps_fault (h : (lantern s rm k).fault = true) (l : Nat) : (lantern (lanternFault rm l s) rm k).fault = true := by
  by_cases hl : l = 0xFFFF
  · rw [lanternFault, modLantern, if_pos hl]
    exact h
  · by_cases hk : k = l
    · by_cases hq : l < (room s rm).quotas.lantern
      · rw [hk]
        exact lanternFault_faults hl hq
      · have hsame : lantern (lanternFault rm l s) rm k = lantern s rm k := by
          rw [lanternFault, modLantern, if_neg hl, lantern, modLanternReg, room_modRoom, if_neg hq, lantern]
        rw [hsame]
        exact h
    · rw [lanternFault, modLantern, if_neg hl, lantern_modLanternReg_ne _ (.inr hk)]
      exact h

theorem foldl_lanternFault_keeps_fault (l : List Nat) {s : State} (h : (lantern s rm k).fault = true) :
    (lantern (l.foldl (fun s x => lanternFault rm x s) s) rm k).fault = true := by
  induction l generalizing s with
  | nil => exact h
  | cons x l ih => exact ih (lanternFault_keeps_fault h x)

theorem foldl_lanternFault_faults {l : List Nat} {s : State} (hmem : k ∈ l) (h : k ≠ 0xFFFF) (hk : k < (room s rm).quotas.lantern) :
    (lantern (l.foldl (fun s x => lanternFault rm x s) s) rm k).fault = true := by
  induction l generalizing s with
  | nil => cases hmem
  | cons x l ih =>
    rcases List.mem_cons.1 hmem with rfl | hmem
    · exact foldl_lanternFault_keeps_fault l (lanternFault_faults h hk)
    · exact ih hmem (by rw [lanternFault_quotas]; exact hk)

/-- A command that fails faults the SIGNAL lanterns of every later command of its list (R358). -/
theorem faultSignals_faults {r : ListRec} (hmem : k ∈ r.signals) (h : k ≠ 0xFFFF) (hk : k < (room s rm).quotas.lantern) (x : CmdHdr) :
    (lantern (faultSignals rm r x s) rm k).fault = true := by
  rw [faultSignals]
  exact foldl_lanternFault_faults (List.mem_append_right _ hmem) h (by rw [lanternFault_quotas]; exact hk)

end

/-- A list that has ended has no record. -/
theorem findList_endList (h : CmdHdr) (r : ListRec) (s : State) : findList (endList h r s) h.fn h.queue h.list = none := by
  have hdrop : (endList h r s).lists = s.lists.filter (fun x => !(x.fn == h.fn && x.queue == h.queue && x.list == h.list)) := rfl
  rw [findList, hdrop, List.find?_eq_none]
  intro x hx
  rw [Bool.not_eq_true, ← Bool.not_eq_true']
  exact (List.mem_filter.1 hx).2

/-- A command that fails ends its list where later commands are still to come. -/
theorem failCmd_of_signals {r : ListRec} (hsig : r.signals ≠ []) (h : CmdHdr) (op : Nat) (e : CEnd) (s : State) :
    failCmd h op r e s = endList h r (faultSignals r.room r h (writeCompl h op { e with flags := e.flags ||| r.flags } s)) := by
  rw [failCmd]
  exact if_pos (by simp [hsig])

theorem ringFetch_malformed_command_completes {s : State} {fn q rm op d : Nat} {r : ListRec} {h : CmdHdr} (hl : Live s) (hq : q ≠ 4095)
    (hroom : roomOf s fn = some rm) (hbad : reachedBad s fn q = some (r, h, op, d)) (hstop : stopClass s fn q = false) (hfn : h.fn = fn)
    (hqueue : h.queue = q) (hlist : h.list = r.list) (hsig : r.signals ≠ []) : Completes (.ringFetch fn q) s fun t =>
      findList t fn q r.list = none ∧ ∀ k ∈ r.signals, k ≠ 0xFFFF → k < (room s r.room).quotas.lantern → (lantern t r.room k).fault = true := by
  have hrun : ringFetch fn q s = failCmd h op r { status := 1, detail := d } s := by
    rw [ringFetch, fdReq, if_neg hq]
    simp only [hroom, hbad]
    rw [cmdMalformed, hfn, hqueue, hstop, if_neg Bool.false_ne_true]
  refine .of_act rfl hl ?_
  rw [hrun, failCmd_of_signals hsig]
  refine ⟨?_, fun k hmem hk hquota => ?_⟩
  · rw [← hfn, ← hqueue, ← hlist]
    exact findList_endList h r _
  · exact faultSignals_faults (s := writeCompl h op _ s) hmem hk hquota h

/-! ### The moderation timer (R326) -/

/-- A message of a vector that is not masked is sent at once through a port that is up (R130, R328). -/
theorem msix_sends {s : State} {fn v : Nat} (hmask : (func s fn).masked.contains v = false) (hup : (hport s (fnPort fn)).st = .up) :
    (msix fn v s).out = msixMsg s fn v :: s.out := by
  simp only [msix, hmask, hup]
  rfl

theorem msixModerationTimer_completes {s : State} {fn q : Nat} (hl : Live s) (hst : (queue s fn q).st ≠ .free)
    (hk : (queue s fn q).kind.software = false) (hdue : modDue (elapsed s) (queue s fn q) = true)
    (hmask : (func s fn).masked.contains (queue s fn q).vector = false) (hup : (hport s (fnPort fn)).st = .up) :
    Completes (.msixModerationTimer fn q) s fun t =>
      t.out = msixMsg s fn (queue s fn q).vector :: s.out ∧ queue t fn q = { queue s fn q with armed := false, sinceArm := 0, firstAt := none } := by
  refine .of_act rfl hl ?_
  rw [modRaise_due hst hk hdue]
  exact ⟨msix_sends (s := modQueue fn q Queue.disarmed s) hmask hup, queue_modQueue fn q Queue.disarmed s⟩

/-- Settles O15: each doorbell and fetch changes one ring's record, and what reading the ring asks of the host and counts leaves every record as it was. -/
theorem queuesAreFedAndDrained : Obligations.QueuesAreFedAndDrained := by
  unfold Obligations.QueuesAreFedAndDrained
  exact ⟨
    fun _ _ _ i hl hq hst hk => producerDoorbell_completes hl i hq hst hk,
    fun _ fn i hl => deskProducerDoorbell_completes hl fn i,
    fun _ _ _ _ _ hl hq hst hk hheld hin => consumerDoorbell_completes hl hq hst hk hheld hin,
    fun _ _ _ hl hin => deskConsumerDoorbell_completes hl hin,
    fun _ _ _ _ _ hl hq hst hk hout => consumerDoorbell_out_of_range_completes hl hq hst hk hout,
    fun _ _ _ _ _ _ hl hq hroom hst hk hcq hm hwild hagain hb hcovered hd hform hgo hbad =>
      ringFetch_work_completes hl hq hroom hst hcq hm hwild hagain ⟨hb, hcovered, hd⟩ hbad hk hform hgo,
    fun _ _ _ _ _ _ hl hq hroom hst hk hcq hm hwild hagain hopen hquota hb hcovered hd hbad hpass =>
      ringFetch_engine_completes hl hq hroom hst hcq hm hwild hagain ⟨hb, hcovered, hd⟩ hbad hk hopen hquota hpass,
    fun _ _ _ _ _ hl hfree hm hwild _ hb hcovered hd hform =>
      ringFetch_desk_malformed_completes hl hfree hm hwild ⟨hb, hcovered, hd⟩ hform,
    fun _ _ _ _ _ _ _ _ hl hq hroom hbad hstop hfn hqueue hlist hsig =>
      ringFetch_malformed_command_completes hl hq hroom hbad hstop hfn hqueue hlist hsig,
    fun _ _ _ hl hst hk hdue hmask hup => msixModerationTimer_completes hl hst hk hdue hmask hup⟩

end Sys2Proof.Machine

/-! ## Queue pairs: what is left as it was -/

namespace Sys2Proof.Machine

open Sys2Proof

/-! ### One queue pair's record -/

/-- From s to t the record of one QP becomes q, and no other QP's record changes. -/
def SetsQp (s : State) (n : Nat) (q : Qp) (t : State) : Prop := qp t n = q ∧ ∀ m, m ≠ n → qp t m = qp s m

section
variable {s t : State} {n : Nat} {q : Qp}

theorem SetsQp.refl (s : State) (n : Nat) : SetsQp s n (qp s n) s := ⟨rfl, fun _ _ => rfl⟩

variable (h : SetsQp s n q t)
include h

theorem SetsQp.modQp (f : Qp → Qp) : SetsQp s n (f q) (modQp n f t) :=
  ⟨by rw [qp_modQp, h.1], fun m hm => (qp_modQp_ne hm f t).trans (h.2 m hm)⟩

theorem SetsQp.of_qps {u : State} (hu : u.qps = t.qps) : SetsQp s n q u := by
  rw [SetsQp, qp, hu]
  exact ⟨h.1, fun m hm => by rw [qp, hu]; exact h.2 m hm⟩

theorem SetsQp.keep {l : List Piece} (hl : l.contains .qps = true) : SetsQp s n q (keep l s t) :=
  h.of_qps (by rw [keep_qps, if_pos hl])

end

theorem setsQp_modQp (n : Nat) (f : Qp → Qp) (s : State) : SetsQp s n (f (qp s n)) (modQp n f s) := (SetsQp.refl s n).modQp f

/-! ### What changes no queue pair -/

section
variable (s : State)

@[simp] theorem sendPkt_qps (q : Qp) (k : Pkt) : (sendPkt q k s).qps = s.qps := by
  rw [sendPkt]
  split
  · rfl
  · split
    · rfl
    · rfl

@[simp] theorem sendNak_qps (n code : Nat) (psn : BitVec 32) : (sendNak n code psn s).qps = s.qps := by
  rw [sendNak, sendPkt_qps]
  split
  · rfl
  · split
    · rfl
    · rfl

@[simp] theorem wqDone_qps (fn q i : Nat) : (wqDone fn q i s).qps = s.qps := rfl

/-- The end of a work request that no list posted changes no QP. -/
@[simp] theorem wrDone_qps (n : Nat) (w : WorkReq) (op status flags detail bytes : Nat) :
    (wrDone n w op none status flags detail bytes s).qps = s.qps := by
  simp only [wrDone, wqDone_qps]
  split
  · rfl
  · rfl

end

/-- A command whose scope holds the QPs, and that ends with an answer, leaves each as it stood before the answer. -/
theorem keep_fdAnswer_qp {l : List Piece} (hl : l.contains .qps = true) (s u : State) (h : FdHdr) (op : Nat) (r : FdResp) (m : Nat) :
    qp (keep l s (fdAnswer h op r u)) m = qp u m := by
  rw [keep_qp, if_pos hl, fdAnswer_qp]

/-! ### Levels of contexts (R427 to R430) -/

/-- A QP differs from another in the level of its context, and in whether it is being fetched. -/
def Relevelled (q r : Qp) : Prop := r = { q with level := r.level, fetching := r.fetching }

theorem Relevelled.refl (q : Qp) : Relevelled q q := rfl

theorem Relevelled.trans {q r p : Qp} (h : Relevelled q r) (h' : Relevelled r p) : Relevelled q p := by
  rw [Relevelled] at h h' ⊢
  rw [h', h]

/-- Where one QP is relevelled, every QP is. -/
theorem relevelled_modQp {s : State} {n : Nat} {f : Qp → Qp} (hf : Relevelled (qp s n) (f (qp s n))) (m : Nat) :
    Relevelled (qp s m) (qp (modQp n f s) m) := by
  by_cases hm : m = n
  · rw [hm, qp_modQp]
    exact hf
  · rw [qp_modQp_ne hm]
    exact .refl _

/-- A context that becomes hot relevels QPs: its own, and the one whose context leaves the level (R430). -/
theorem relevelled_makeHot (n m : Nat) (s : State) : Relevelled (qp s m) (qp (makeHot n s) m) := by
  simp only [makeHot]
  split
  · exact .refl _
  · split
    · exact relevelled_modQp (f := fun q => { q with level := 0, fetching := false }) rfl m
    · split
      · exact .refl _
      · next v _ =>
        exact (relevelled_modQp (n := v) (f := fun q => { q with level := 1 }) rfl m).trans
          (relevelled_modQp (s := modQp v (fun q => { q with level := 1 }) s) (n := n) (f := fun q => { q with level := 0, fetching := false }) rfl m)

/-- A context that claims a warm slot relevels the QP that gives it up (R429). -/
theorem relevelled_claimWarm (n m : Nat) (s : State) : Relevelled (qp s m) (qp (claimWarm n s) m) := by
  simp only [claimWarm]
  split
  · exact .refl _
  · split
    · next v _ => exact relevelled_modQp (n := v) (f := fun q => { q with level := 2 }) rfl m
    · exact .refl _

/-- A state differs from another in its queue pairs and where their contexts live. -/
def OnlyContexts (s t : State) : Prop := t = { s with qps := t.qps, hot := t.hot, warm := t.warm }

theorem OnlyContexts.trans {s t u : State} (h : OnlyContexts s t) (h' : OnlyContexts t u) : OnlyContexts s u := by
  rw [OnlyContexts] at h h' ⊢
  rw [h', h]

theorem onlyContexts_makeHot (n : Nat) (s : State) : OnlyContexts s (makeHot n s) := by
  simp only [makeHot]
  split
  · rfl
  · split
    · rfl
    · split
      · rfl
      · rfl

theorem onlyContexts_claimWarm (n : Nat) (s : State) : OnlyContexts s (claimWarm n s) := by
  simp only [claimWarm]
  split
  · rfl
  · split
    · rfl
    · rfl

end Sys2Proof.Machine

/-! ## Queue pairs: made, connected and set -/

namespace Sys2Proof.Machine

open Sys2Proof

/-- A command is well formed when none of the causes holds (R316). -/
theorem firstBadOf_cons_none {b : Bool} {d : Nat} {l : List (Bool × Nat)} :
    firstBadOf ((b, d) :: l) = none ↔ b = false ∧ firstBadOf l = none := by
  cases b <;> simp [firstBadOf]

theorem firstBadOf_nil : firstBadOf [] = none := rfl

theorem qpnWide_none {n : Nat} (h : n < 2 ^ 24) : qpnWide n = none := if_neg (Nat.not_le.2 h)

/-! ### A command of a QP's own room (R393) -/

section
variable {s : State} {h : FdHdr} {op n : Nat} (ho : OwnsQp s h op n)
include ho

theorem onQp_runs {own : State → Option Nat} (hown : own s = none) (body : Qp → State → State) : onQp h op n own body s = body (qp s n) s := by
  obtain ⟨hTakes, -, hst, hroom⟩ := ho
  simp only [onQp, frontDesk_takes hTakes _ hown, hroom]
  simp [hst]

/-- A command that changes one QP's record and answers leaves that record, and no other QP's changed. -/
theorem onQp_sets {c : Instr} {l : List Piece} {f : State → State} {r : FdResp} {g : Qp → Qp} (hc : exec c s = act l f s)
    (hl : l.contains .qps = true) (hrun : f s = fdAnswer h op r (modQp n g s)) : Completes c s (SetsQp s n (g (qp s n))) := by
  refine .of_act hc ho.1.1 ?_
  rw [hrun]
  exact ((setsQp_modQp n g s).of_qps (fdAnswer_qps _ h op r)).keep hl

end

/-! ### Creation (R389) -/

section
variable {s : State} {h : FdHdr} {sq rq maxOps l tc spray pc rm : Nat} {sl pin : Bool}

/-- The record of a QP as QP_CREATE makes it. -/
def createdQp (s : State) (h : FdHdr) (rm sq rq maxOps l tc spray pc : Nat) (sl pin : Bool) : Qp :=
  { st := .init, fn := h.fn, room := rm, die := fnPort h.fn / 4, sq := sq, rq := rq, lantern := l, tc := tc, spray := spray,
    maxOps := if maxOps = 0 then obj s 0xC100 6 1024 else maxOps, pathCount := pc, sealed := sl, pinned := pin, level := 2,
    homed := spillFree s rm }

/-- The state of a QP that is not cold: its context is at least warm. -/
def warmed (n : Nat) (s : State) : State := if (qp s n).level = 2 then modQp n (fun q => { q with level := 1 }) s else s

theorem relevelled_warmed (n m : Nat) (s : State) : Relevelled (qp s m) (qp (warmed n s) m) := by
  rw [warmed]
  split
  · exact relevelled_modQp (f := fun q => { q with level := 1 }) rfl m
  · exact .refl _

theorem level_warmed (n : Nat) (s : State) : (qp (warmed n s) n).level ≠ 2 := by
  rw [warmed]
  split
  · rw [qp_modQp]
    exact (by decide : 1 ≠ 2)
  · assumption

theorem onlyContexts_warmed (n : Nat) (s : State) : OnlyContexts s (warmed n s) := by
  rw [warmed]
  split
  · rfl
  · rfl

/-- A QP is put in place, and its context is hot or warm. -/
def placeQp (n : Nat) (q : Qp) (s : State) : State := warmed n (makeHot n (claimWarm n (useFresh { s with qps := mset s.qps n q })))

theorem relevelled_placeQp (n : Nat) (q : Qp) (s : State) : Relevelled q (qp (placeQp n q s) n) := by
  have hput : qp (useFresh { s with qps := mset s.qps n q }) n = q := mget_mset_self _ _ _ _
  have hplaced := ((relevelled_claimWarm n n (useFresh { s with qps := mset s.qps n q })).trans (relevelled_makeHot n n _)).trans
    (relevelled_warmed n n _)
  rwa [hput] at hplaced

theorem placeQp_free (n : Nat) (q : Qp) (s : State) : (placeQp n q s).free = s.free + 1 := by
  rw [placeQp, ((onlyContexts_claimWarm n _).trans (onlyContexts_makeHot n _)).trans (onlyContexts_warmed n _)]
  rfl

theorem qpCreate_places (ht : Takes s h 0x40) (hr : roomOf s h.fn = some rm) (hbad : qpCreateBad s h sq rq maxOps l tc spray pc = none)
    (hres : qpCreateResult s h rm sq rq pin = 0) : qpCreate h sq rq maxOps l tc spray pc sl pin s =
      fdAnswer h 0x40 { ret := pickQpn s } (placeQp (pickQpn s) (createdQp s h rm sq rq maxOps l tc spray pc sl pin) s) := by
  rw [qpCreate, frontDesk_takes ht _ hbad]
  simp only [hr, hres, ne_eq, not_true_eq_false, if_false, reduceCtorEq, placeQp, warmed]
  rfl

theorem qpCreate_completes (ht : Takes s h 0x40) (hr : roomOf s h.fn = some rm) (hbad : qpCreateBad s h sq rq maxOps l tc spray pc = none)
    (hres : qpCreateResult s h rm sq rq pin = 0) : Completes (.qpCreate h sq rq maxOps l tc spray pc sl pin) s fun t =>
      (qp t (pickQpn s)).st = .init ∧ (qp t (pickQpn s)).fn = h.fn ∧ (qp t (pickQpn s)).room = rm ∧ (qp t (pickQpn s)).sq = sq ∧
      (qp t (pickQpn s)).rq = rq ∧ (qp t (pickQpn s)).lantern = l ∧ (qp t (pickQpn s)).tc = tc ∧ (qp t (pickQpn s)).spray = spray ∧
      (qp t (pickQpn s)).pathCount = pc ∧ (qp t (pickQpn s)).sealed = sl ∧ (qp t (pickQpn s)).pinned = pin ∧
      (qp t (pickQpn s)).maxOps = (if maxOps = 0 then obj s 0xC100 6 1024 else maxOps) ∧ (qp t (pickQpn s)).level ≠ 2 ∧
      t.free = s.free + 1 ∧ (func t h.fn).fd.running = none := by
  refine .of_act rfl ht.1 ?_
  rw [qpCreate_places ht hr hbad hres]
  have hqp := relevelled_placeQp (pickQpn s) (createdQp s h rm sq rq maxOps l tc spray pc sl pin) s
  have hfree := placeQp_free (pickQpn s) (createdQp s h rm sq rq maxOps l tc spray pc sl pin) s
  have hlevel : (qp (placeQp (pickQpn s) (createdQp s h rm sq rq maxOps l tc spray pc sl pin) s) (pickQpn s)).level ≠ 2 := level_warmed _ _
  generalize placeQp (pickQpn s) (createdQp s h rm sq rq maxOps l tc spray pc sl pin) s = u at hqp hfree hlevel
  rw [keep_fdAnswer_qp]
  · refine ⟨?_, ?_, ?_, ?_, ?_, ?_, ?_, ?_, ?_, ?_, ?_, ?_, hlevel, hfree, fdAnswer_running h 0x40 _ u⟩
    all_goals
      rw [hqp]
      rfl
  · rfl

end

/-! ### Settings (R391, R392, R480, R492, R932) -/

section
variable {s : State} {h : FdHdr} {n : Nat}

/-- The record of a QP that QP_CONNECT takes to READY, but for its pace. -/
def Qp.connected (q : Qp) (s : State) (pq pn tmo ep rl rn : Nat) (sp rp : BitVec 32) (w : Nat) : Qp :=
  { q with
    st := .ready, peerQpn := pq, peerNode := pn, timeout := if tmo = 0 then obj s 0xC100 1 32 else tmo, epoch := ep, retryLimit := rl,
    rnrLimit := rn, window := w, nextPsn := q.psn sp, cumPsn := q.psn rp, nextMsn := 0, doneMsn := 0, lastPath := q.pathCount - 1,
    rpDue := elapsed s + BitVec.ofNat 64 (obj s 0x2A01 6 55 * 16000) }

/-- A QP that starts to send does so at its first rate (R745). -/
def Qp.paced (s : State) (q : Qp) : Qp := { q with pace := startPace s (lineRate s q) }

theorem qpConnect_sets {pq pn tmo ep rl rn w : Nat} {sp rp : BitVec 32} (ho : OwnsQp s h 0x41 n) (hst : (qp s n).st = .init)
    (hroce : (qp s n).roce.isSome = true → pn = 0 ∧ ep = 0) (hseal : (qp s n).sealed = true → (qp s n).keySlot ≠ none) (hpq : pq < 2 ^ 24)
    (hrl : rl < 8) (hrn : rn < 8) (hw : 1 ≤ w) (hw' : w ≤ 512) (htmo : tmo = 0 ∨ 4 ≤ tmo) :
    Completes (.qpConnect h n pq pn tmo ep rl rn sp rp w) s (SetsQp s n (((qp s n).connected s pq pn tmo ep rl rn sp rp w).paced s)) := by
  have hn := ho.2.1
  refine onQp_sets ho (g := fun q => (q.connected s pq pn tmo ep rl rn sp rp w).paced s) (r := {}) rfl rfl ?_
  rw [qpConnect, onQp_runs ho]
  · rw [if_neg]
    · rfl
    · simp [hst]
      exact hseal
  · simp only [firstBadOf_cons_none, firstBadOf_nil, ne_eq, decide_not, Bool.or_eq_false_iff, decide_eq_false_iff_not, not_le, not_lt,
      Bool.and_eq_false_imp, Bool.not_eq_eq_eq_not, Bool.not_true, Bool.not_false, decide_eq_true_eq, and_true]
    exact ⟨by omega, by omega, hroce⟩

theorem qpModify_sets {tmo rl rn w spray pc : Nat} (ho : OwnsQp s h 0x42 n) (hst : (qp s n).st = .init ∨ (qp s n).st = .drained)
    (hroce : (qp s n).roce.isSome = true → spray = 0 ∧ pc = 1) (hrl : rl < 8) (hrn : rn < 8) (hw : 1 ≤ w) (hw' : w ≤ 512)
    (htmo : tmo = 0 ∨ 4 ≤ tmo) (hspray : spray < 3) (hpc : 1 ≤ pc) (hpc' : pc ≤ 16) :
    Completes (.qpModify h n tmo rl rn w spray pc) s (SetsQp s n { qp s n with
      timeout := if tmo = 0 then obj s 0xC100 1 32 else tmo, retryLimit := rl, rnrLimit := rn, window := w, spray := spray, pathCount := pc }) := by
  have hn := ho.2.1
  refine onQp_sets ho (g := fun q => { q with
    timeout := if tmo = 0 then obj s 0xC100 1 32 else tmo, retryLimit := rl, rnrLimit := rn, window := w, spray := spray, pathCount := pc })
    (r := {}) rfl rfl ?_
  rw [qpModify, onQp_runs ho]
  · rw [if_pos]
    simp [hst]
  · simp only [firstBadOf_cons_none, firstBadOf_nil, ne_eq, decide_not, Bool.or_eq_false_iff, decide_eq_false_iff_not, not_le, not_lt,
      Bool.and_eq_false_imp, Bool.not_eq_eq_eq_not, Bool.not_true, Bool.not_false, decide_eq_true_eq, and_true]
    exact ⟨by omega, by omega, hroce⟩

theorem qpProxy_sets {base slots : Nat} (ho : OwnsQp s h 0x49 n) (hst : (qp s n).st = .init ∨ (qp s n).st = .drained) (hslots : slots ≤ 16)
    (hbase : base % 64 = 0) (hop : operand (room s (qp s n).room) base ≠ .bad) :
    Completes (.qpProxy h n slots base) s (SetsQp s n { qp s n with proxyBase := base, proxySlots := slots, proxy := [] }) := by
  obtain ⟨-, hn, -, hroom⟩ := id ho
  refine onQp_sets ho (g := fun q => { q with proxyBase := base, proxySlots := slots, proxy := [] }) (r := {}) rfl rfl ?_
  rw [onQp_runs ho]
  · rw [if_neg, if_neg (not_not_intro hbase)]
    rcases hst with hst | hst <;> simp [hst]
  · simp only [firstBadOf_cons_none, firstBadOf_nil, hroom, Bool.or_eq_false_iff, decide_eq_false_iff_not, beq_eq_false_iff_ne, and_true]
    exact ⟨by omega, hop, by omega⟩

theorem qpRoce_sets {port dscp hl pmtu pkey sport lip mac hi lo : Nat} {v6 : Bool} (ho : OwnsQp s h 0x4A n) (hst : (qp s n).st = .init)
    (hseal : (qp s n).sealed = false) (hspray : (qp s n).spray = 0) (hpc : (qp s n).pathCount = 1) (hport : port < 16)
    (heth : (fport s port).direct = false) (hdscp : dscp < 256) (hhl : hl < 256) (hpmtu : 3 ≤ pmtu) (hpmtu' : pmtu ≤ 5)
    (hpkey : pkey < 65536) (hsport : sport < 65536) (hlip : lip < 8) (hmac : mac < 2 ^ 48) :
    Completes (.qpRoce h n port v6 dscp hl pmtu pkey sport lip mac hi lo) s (SetsQp s n { qp s n with roce := some {
      port := port, ipv6 := v6, dscp := dscp, hopLimit := hl, pmtu := pmtu, pkey := pkey, sport := sport, localIp := lip, mac := mac,
      ipHi := hi, ipLo := lo } }) := by
  have hn := ho.2.1
  refine onQp_sets ho (g := fun q => { q with roce := some {
    port := port, ipv6 := v6, dscp := dscp, hopLimit := hl, pmtu := pmtu, pkey := pkey, sport := sport, localIp := lip, mac := mac,
    ipHi := hi, ipLo := lo } }) (r := {}) rfl rfl ?_
  rw [onQp_runs ho]
  · rw [if_neg (not_not_intro hst), if_neg]
    simp [hport, heth]
  · simp only [firstBadOf_cons_none, firstBadOf_nil, hseal, hspray, hpc, Bool.or_eq_false_iff, decide_eq_false_iff_not, ne_eq, not_true_eq_false,
      decide_false, Bool.false_and, Bool.and_false, Bool.or_self, and_true, true_and]
    omega

theorem qpSeal_sets {slot : Nat} (ho : OwnsQp s h 0x80 n) (hst : (qp s n).st = .init) (hseal : (qp s n).sealed = true) (hslot : slot < 4)
    (hload : ((mget (room s (qp s n).room).keys slot {}).bank (mget (room s (qp s n).room).keys slot {}).active).loaded = true) :
    Completes (.qpSeal h n slot) s (SetsQp s n { qp s n with keySlot := some slot }) := by
  have hn := ho.2.1
  refine onQp_sets ho (g := fun q => { q with keySlot := some slot }) (r := {}) rfl rfl ?_
  rw [onQp_runs ho]
  · rw [if_neg]
    · rw [if_neg (by simpa using hload)]
    · simp [hst, hseal]
  · simp only [firstBadOf_cons_none, firstBadOf_nil, Bool.or_eq_false_iff, decide_eq_false_iff_not, and_true]
    omega

end

/-! ### The spill area of a room (R428), and the query (R448) -/

section
variable {s : State} {h : FdHdr}

/-- A room's spill area, or none. -/
def Room.spilling (base k : Nat) (r : Room) : Room := { r with spillBase := if k = 0 then none else some base, spillCount := k }

theorem qpSpill_completes {rm base k : Nat} (ht : Takes s h 0x48) (hr : roomOf s h.fn = some rm) (hk : k % 8 = 0) (hk0 : k = 0 → base = 0)
    (hk' : k ≤ 16777216) (hbase : base % 4096 = 0) (hu : spillUsed s rm = 0) : Completes (.qpSpill h base k) s fun t =>
      room t rm = { room s rm with spillBase := if k = 0 then none else some base, spillCount := k } ∧ ∀ r, r ≠ rm → room t r = room s r := by
  have hrun : qpSpill h base k s = fdAnswer h 0x48 {} (modRoom rm (Room.spilling base k) s) := by
    rw [qpSpill, frontDesk_takes ht]
    · simp only [hr, hbase, hu, ne_eq, not_true_eq_false, if_false]
      rfl
    · simp only [firstBadOf_cons_none, firstBadOf_nil, hk, ne_eq, not_true_eq_false, decide_false, Bool.false_or, Bool.or_eq_false_iff,
        Bool.and_eq_false_imp, decide_eq_false_iff_not, decide_eq_true_eq, not_not, and_true]
      exact ⟨by omega, by omega, hk0⟩
  refine .of_act rfl ht.1 ?_
  rw [hrun]
  exact ⟨room_modRoom rm (Room.spilling base k) s, fun _ hne => room_modRoom_ne hne (Room.spilling base k) s⟩

theorem length_query (q : Qp) : q.query.length = 64 := by simp [Qp.query, wordsLe, length_leBytes]

/-- A result that lies in the host memory of one port is written there before the answer (R301). -/
theorem fdResult_host {d : List Byte} {p a : Nat} (ha : h.resultAddr ≠ 0)
    (hr : resolve s (fdCtx s h 6) h.resultAddr d.length .write = ([{ off := 0, loc := .host p a, len := d.length }], none))
    (answer : Nat → State → State) : fdResult h d answer s = answer 0 (writeEff (fdCtx s h 6) h.resultAddr d s) := by
  have hStop : writeStop s (fdCtx s h 6) h.resultAddr d.length = none := by simp only [writeStop, hr, firstStop, segWriteBad]
  rw [fdResult, if_neg ha, hStop]

theorem qpQuery_completes {n p a : Nat} (ho : OwnsQp s h 0x47 n) (hres : badResultAddr s h = false) (ha : h.resultAddr ≠ 0)
    (hr : resolve s (fdCtx s h 6) h.resultAddr 64 .write = ([{ off := 0, loc := .host p a, len := 64 }], none)) (hup : (hport s p).st = .up) :
    Completes (.qpQuery h n) s fun t => (∀ o ∈ writesOf s p a (qp s n).query true, o ∈ t.out) ∧ t.qps = s.qps := by
  rw [← length_query (qp s n)] at hr
  obtain ⟨hm, tc, cn, hWrite⟩ := writeEff_host hr hup
  have hOwn : firstBadOf [(decide (2 ^ 24 ≤ n), 1), (badResultAddr s h, 5)] = none := by
    simp only [firstBadOf_cons_none, firstBadOf_nil, hres, decide_eq_false_iff_not, and_true]
    exact Nat.not_le.2 ho.2.1
  refine .of_act rfl ho.1.1 ⟨fun o hmem => ?_, rfl⟩
  rw [onQp_runs ho hOwn, fdResult_host ha hr, hWrite]
  refine mem_out_fdAnswer ?_ (ho.1.responseFits.of_parts ?_ ?_ ?_ ?_ ?_) 0x47 {}
  · exact List.mem_append_left _ (List.mem_reverse.2 hmem)
  all_goals rfl

end

/-- Settles O20: QP_CREATE by the record that it puts in place, each setting by what it does to one QP's record. -/
theorem queuePairsAreMadeAndConnected : Obligations.QueuePairsAreMadeAndConnected := by
  unfold Obligations.QueuePairsAreMadeAndConnected
  refine ⟨fun _ _ _ _ _ _ _ _ _ _ _ _ ht hr hbad hres => qpCreate_completes ht hr hbad hres,
    fun s h n pq pn tmo ep rl rn w sp rp ho hst hroce hseal hpq hrl hrn hw hw' htmo => ?_,
    fun _ _ _ _ _ _ _ _ _ ho hst hroce hrl hrn hw hw' htmo hspray hpc hpc' =>
      qpModify_sets ho hst hroce hrl hrn hw hw' htmo hspray hpc hpc',
    fun _ _ _ _ _ ho hst hslots hbase hop => qpProxy_sets ho hst hslots hbase hop,
    fun _ _ _ _ _ _ _ _ _ _ _ _ _ _ ho hst hseal hspray hpc hport heth hdscp hhl hpmtu hpmtu' hpkey hsport hlip hmac =>
      qpRoce_sets ho hst hseal hspray hpc hport heth hdscp hhl hpmtu hpmtu' hpkey hsport hlip hmac,
    fun _ _ _ _ ho hst hseal hslot hload => qpSeal_sets ho hst hseal hslot hload,
    fun _ _ _ _ _ ht hr hk hk0 hk' hbase hu => qpSpill_completes ht hr hk hk0 hk' hbase hu,
    fun _ _ _ _ _ ho hres ha hr hup => qpQuery_completes ho hres ha hr hup⟩
  obtain ⟨t, hexec, hqp, hothers⟩ := qpConnect_sets ho hst hroce hseal hpq hrl hrn hw hw' htmo (sp := sp) (rp := rp)
  refine ⟨t, hexec, ?_, ?_, ?_, ?_, ?_, ?_, ?_, ?_, ?_, ?_, ?_, ?_, hothers⟩
  all_goals
    rw [hqp]
    rfl

end Sys2Proof.Machine

/-! ## Queue pairs: draining, resuming, resetting and ending -/

namespace Sys2Proof.Machine

open Sys2Proof

/-! ### What a QP's packets and messages leave as they end (R392) -/

/-- Two states have the same queue pairs, whose contexts and waiting packets are where they were. -/
def SameQps (s t : State) : Prop := t.qps = s.qps ∧ t.hot = s.hot ∧ t.warm = s.warm ∧ t.porch = s.porch

theorem SameQps.refl (s : State) : SameQps s s := ⟨rfl, rfl, rfl, rfl⟩

theorem SameQps.trans {s t u : State} (h : SameQps s t) (h' : SameQps t u) : SameQps s u := by
  obtain ⟨hqps, hhot, hwarm, hporch⟩ := h
  obtain ⟨hqps', hhot', hwarm', hporch'⟩ := h'
  exact ⟨hqps'.trans hqps, hhot'.trans hhot, hwarm'.trans hwarm, hporch'.trans hporch⟩

theorem sameQps_endAdm (d : Deferred) (s : State) : SameQps s (endAdm d s) := by
  rw [endAdm]
  split
  · exact .refl s
  · exact .refl s

theorem sameQps_endAdms (l : List Deferred) (s : State) : SameQps s (l.foldl (fun s d => endAdm d s) s) := by
  induction l generalizing s with
  | nil => exact .refl s
  | cons d l ih => exact (sameQps_endAdm d s).trans (ih _)

theorem sameQps_recvDone (n : Nat) (e : RecvEntry) (status op flags detail bytes imm : Nat) (s : State) :
    SameQps s (recvDone n e status op flags detail bytes imm s) := by
  rw [recvDone, lanternAdd, modLantern]
  split
  · exact .refl s
  · exact .refl s

theorem sameQps_flushMsgs (n : Nat) (l : List RMsg) (s : State) : SameQps s (flushMsgs n l s) := by
  induction l generalizing s with
  | nil => exact .refl s
  | cons m l ih =>
    rw [flushMsgs]
    refine SameQps.trans ?_ (ih _)
    split
    · exact sameQps_recvDone n _ 2 m.opcode 0 0 0 0 s
    · exact .refl s

/-! ### A context that is forgotten -/

theorem dropCtx_hot (n : Nat) (s : State) : n ∉ mget (dropCtx n s).hot (qp s n).die [] := by
  simp only [dropCtx, mget_mmod_self]
  exact fun hin => absurd (List.mem_filter.1 hin).2 (by simp)

theorem dropCtx_warm (n : Nat) (s : State) : n ∉ mget (dropCtx n s).warm (qp s n).room [] := by
  simp only [dropCtx, mget_mmod_self]
  exact fun hin => absurd (List.mem_filter.1 hin).2 (by simp)

theorem dropCtx_porch (n : Nat) (s : State) : ∀ k ∈ mget (dropCtx n s).porch (qp s n).die [], k.dstQpn ≠ n := by
  simp only [dropCtx, mget_mmod_self]
  exact fun k hk => bne_iff_ne.1 (List.mem_filter.1 hk).2

/-! ### Each change of state -/

section
variable {s : State} {n : Nat}

theorem qpDrained_completes (hl : Live s) (hst : (qp s n).st = .draining) (hops : (qp s n).ops = []) :
    Completes (.qpDrained n) s (SetsQp s n { qp s n with st := .drained }) := by
  refine .of_act rfl hl ?_
  rw [qpDrained, if_pos (by simp [hst, hops])]
  exact ((setsQp_modQp n (fun q => { q with st := .drained }) s).of_qps (qEvent_qps _ _ _ _ _ _ _)).keep rfl

variable {h : FdHdr}

theorem qpDrain_completes (ho : OwnsQp s h 0x43 n) (hst : (qp s n).st = .ready) :
    Completes (.qpDrain h n) s (SetsQp s n { qp s n with st := .draining }) := by
  refine onQp_sets ho (g := fun q => { q with st := .draining }) (r := {}) rfl rfl ?_
  rw [onQp_runs ho (qpnWide_none ho.2.1), if_pos hst]

theorem qpResume_completes (ho : OwnsQp s h 0x44 n) (hst : (qp s n).st = .drained) :
    Completes (.qpResume h n) s (SetsQp s n { qp s n with st := .ready }) := by
  refine onQp_sets ho (g := fun q => { q with st := .ready }) (r := {}) rfl rfl ?_
  rw [onQp_runs ho (qpnWide_none ho.2.1), if_pos hst]

/-- A QP that stands still: in INIT, DRAINED or ERROR. -/
theorem stands_iff {q : Qp} : (q.st = .init || q.st = .drained || q.st = .error) = true ↔ q.st = .init ∨ q.st = .drained ∨ q.st = .error := by
  simp [or_assoc]

theorem qpReset_completes (ho : OwnsQp s h 0x45 n) (hst : (qp s n).st = .init ∨ (qp s n).st = .drained ∨ (qp s n).st = .error) :
    Completes (.qpReset h n) s fun t => ∃ p, SetsQp s n ((qp s n).cleared p) t := by
  refine .of_act rfl ho.1.1 ?_
  have hadm := (sameQps_endAdms (qp s n).deferred s).1
  rw [onQp_runs ho (qpnWide_none ho.2.1), if_pos (stands_iff.2 hst), qpReset]
  generalize (qp s n).deferred.foldl (fun s d => endAdm d s) s = u at hadm ⊢
  refine ⟨startPace s (lineRate s (qp s n)), (SetsQp.of_qps ?_ ((fdAnswer_qps _ _ _ _).trans (sameQps_flushMsgs n _ _).1)).keep rfl⟩
  exact ((SetsQp.refl s n).of_qps hadm).modQp fun q => q.cleared (startPace s (lineRate s q))

theorem qpDestroy_completes (ho : OwnsQp s h 0x46 n) (hst : (qp s n).st = .init ∨ (qp s n).st = .drained ∨ (qp s n).st = .error)
    (hops : (qp s n).ops = []) : Completes (.qpDestroy h n) s fun t =>
      t.qps = mdel s.qps n ∧ n ∉ mget t.hot (qp s n).die [] ∧ n ∉ mget t.warm (qp s n).room [] ∧
      ∀ k ∈ mget t.porch (qp s n).die [], k.dstQpn ≠ n := by
  refine .of_act rfl ho.1.1 ?_
  have hsame := (sameQps_endAdms (qp s n).deferred s).trans (sameQps_flushMsgs n (qp s n).msgs _)
  rw [onQp_runs ho (qpnWide_none ho.2.1), if_pos (by rw [stands_iff.2 hst, hops]; rfl), qpFree]
  generalize flushMsgs n (qp s n).msgs ((qp s n).deferred.foldl (fun s d => endAdm d s) s) = u at hsame ⊢
  obtain ⟨hqps, -⟩ := hsame
  have hqp : qp s n = qp u n := by rw [qp, qp, hqps]
  rw [hqp]
  exact ⟨congrArg (mdel · n) hqps, dropCtx_hot n u, dropCtx_warm n u, dropCtx_porch n u⟩

end

/-- Settles O21: each change is one record's, and what a QP held ends without changing a record. -/
theorem queuePairsChangeState : Obligations.QueuePairsChangeState := by
  unfold Obligations.QueuePairsChangeState
  refine ⟨fun _ _ _ ho hst => qpDrain_completes ho hst, fun _ _ hl hst hops => qpDrained_completes hl hst hops,
    fun _ _ _ ho hst => qpResume_completes ho hst, fun s h n ho hst => ?_, fun _ _ _ ho hst hops => qpDestroy_completes ho hst hops⟩
  obtain ⟨t, hexec, p, hqp, hothers⟩ := qpReset_completes ho hst
  refine ⟨t, hexec, ?_, ?_, ?_, ?_, ?_, ?_, ?_, ?_, hothers⟩
  all_goals
    rw [hqp]
    rfl

end Sys2Proof.Machine

/-! ## Work requests and receive entries -/

namespace Sys2Proof.Machine

open Sys2Proof

/-! ### A work request that is taken (R439, R452) -/

section
variable {s : State} {w : WorkReq} {op rm : Nat}

theorem postWr_takes (hroom : roomOf s w.fn = some rm) (hk : (queue s w.fn w.queue).kind = .send) (hst : (queue s w.fn w.queue).st = .active)
    (hbehind : wrBehind s w = false) (hfrozen : cacheFrozen s (qp s w.qpn).die = false) (hbad : wrBad s w op false = none)
    (hgo : wrCourse s w op = .go) : postWr w op s = wrTake w op none s := by
  simp only [postWr, hroom, hk, hst, hbehind, hfrozen, hbad, hgo, mayRun]
  rfl

/-- The operation that a work request becomes (R439). -/
def opOf (s : State) (w : WorkReq) (op : Nat) (post : Option CmdHdr) : Op :=
  { id := (qp s w.qpn).opSeq, wr := w, opcode := op, total := opTotal (qp s w.qpn) w op, post := post, pins := pinsOf s (qp s w.qpn).room [w.localAddr] }

/-- A QP whose last operation is a given one. -/
def Qp.withOp (o : Op) (q : Qp) : Qp := { q with ops := q.ops ++ [o], opSeq := q.opSeq + 1 }

/-- An operation joins its QP's, whose context is hot; the last manifest entry of the device is reported (R439). -/
def joinOp (n : Nat) (o : Op) (s : State) : State :=
  if allOps s + 1 = 262144 then raise 4 1 (makeHot n (modQp n (Qp.withOp o) s)) else makeHot n (modQp n (Qp.withOp o) s)

/-- A QP whose record changes as its context becomes hot. -/
theorem relevelled_hot_modQp (n : Nat) (f : Qp → Qp) (s : State) : Relevelled (f (qp s n)) (qp (makeHot n (modQp n f s)) n) := by
  have hhot := relevelled_makeHot n n (modQp n f s)
  rwa [qp_modQp] at hhot

theorem relevelled_joinOp (n : Nat) (o : Op) (s : State) : Relevelled ((qp s n).withOp o) (qp (joinOp n o s) n) := by
  rw [joinOp]
  split
  · exact relevelled_hot_modQp n (Qp.withOp o) s
  · exact relevelled_hot_modQp n (Qp.withOp o) s

/-- What an operation that joins its QP leaves as it was. -/
theorem joinOp_leaves (n : Nat) (o : Op) (s : State) : (joinOp n o s).mem = s.mem ∧ (joinOp n o s).hmem = s.hmem ∧
    (joinOp n o s).queues = s.queues ∧ (joinOp n o s).lists = s.lists := by
  have hhot := onlyContexts_makeHot n (modQp n (Qp.withOp o) s)
  rw [joinOp]
  generalize makeHot n (modQp n (Qp.withOp o) s) = u at hhot ⊢
  rw [hhot]
  split
  · exact ⟨rfl, rfl, rfl, rfl⟩
  · exact ⟨rfl, rfl, rfl, rfl⟩

/-- A work request other than PROXY_REPLY is one more operation. -/
theorem wrTake_joins (hop : op ≠ 9) (post : Option CmdHdr) (s : State) : wrTake w op post s = joinOp w.qpn (opOf s w op post) s := by
  have hop' : (op == 9) = false := beq_eq_false_iff_ne.2 hop
  simp only [wrTake, hop', Bool.false_and, Bool.false_eq_true, if_false, if_neg hop]
  rfl

theorem postWr_completes {c : Instr} (hop : op ≠ 9) (hc : exec c s = act (transfers ++ [.hot, .warm]) (postWr w op) s) (hl : Live s)
    (hroom : roomOf s w.fn = some rm) (hk : (queue s w.fn w.queue).kind = .send) (hst : (queue s w.fn w.queue).st = .active)
    (hbehind : wrBehind s w = false) (hfrozen : cacheFrozen s (qp s w.qpn).die = false) (hbad : wrBad s w op false = none)
    (hgo : wrCourse s w op = .go) : Completes c s fun t =>
      (qp t w.qpn).ops = (qp s w.qpn).ops ++ [opOf s w op none] ∧ (qp t w.qpn).nextPsn = (qp s w.qpn).nextPsn ∧
      (qp t w.qpn).unacked = (qp s w.qpn).unacked ∧ t.mem = s.mem ∧ t.hmem = s.hmem ∧ t.queues = s.queues := by
  refine .of_act hc hl ?_
  rw [postWr_takes hroom hk hst hbehind hfrozen hbad hgo, wrTake_joins hop]
  have hqp := relevelled_joinOp w.qpn (opOf s w op none) s
  obtain ⟨hmem, hhmem, hqueues, -⟩ := joinOp_leaves w.qpn (opOf s w op none) s
  generalize joinOp w.qpn (opOf s w op none) s = u at hqp hmem hhmem hqueues ⊢
  have hkept : qp (keep (transfers ++ [.hot, .warm]) s u) w.qpn = qp u w.qpn := rfl
  rw [hkept, hqp]
  exact ⟨rfl, rfl, rfl, hmem, hhmem, hqueues⟩

end

/-! ### PROXY_REPLY (R478, R483) -/

section
variable {s : State} {n : Nat}

/-- The only operation of a QP, when it has completed OK and neither a list nor a Seawall waits for it, leaves its QP without one (R386, R423). -/
theorem retireAll_sole {o : Op} (hops : (qp s n).ops = [o]) (hdone : o.done (qp s n) = true) (hst : o.status = 0) (hwall : o.wr.seawall = false)
    (hpost : o.post = none) : (retireAll n s).qps = (modQp n (fun q => { q with ops := [] }) s).qps := by
  simp only [retireAll, hops, List.length_singleton, retireOps, hdone, hst, hwall, hpost, Bool.not_true, Bool.false_and, Bool.false_eq_true, if_false,
    ne_eq, not_true_eq_false, wrDone_qps]

/-- The result that a PROXY_REPLY gives: as wide as its slot's operand. -/
def ProxySlot.result (x : ProxySlot) (v : Word) : Word := if x.size = 4 then BitVec.ofNat 64 (v.toNat % 2 ^ 32) else v

/-- A QP whose proxy slot has been answered: the slot is free, and the result is cached (R478). -/
def Qp.replied (x : ProxySlot) (slot : Nat) (v : Word) (q : Qp) : Qp :=
  { q with proxy := q.proxy.filter (fun y => y.slot != slot), atomics := ((x.psn, x.result v) :: q.atomics).take 16 }

theorem proxyReply_qps {x : ProxySlot} {slot : Nat} (hx : (qp s n).proxy.find? (fun y => y.slot == slot) = some x) (v : Word) :
    (proxyReply n slot v s).qps = (modQp n (Qp.replied x slot v) s).qps := by
  simp only [proxyReply, hx, sendPkt_qps]
  rfl

variable {w : WorkReq} {rm : Nat} {x : ProxySlot}

/-- A PROXY_REPLY of a pending slot is an operation of no packet, which ends once its slot is answered. -/
theorem wrTake_reply (hx : (qp s w.qpn).proxy.find? (fun y => y.slot == w.lantern) = some x) :
    wrTake w 9 none s = retireAll w.qpn (proxyReply w.qpn w.lantern w.compareAdd (joinOp w.qpn (opOf s w 9 none) s)) := by
  have hany : (qp s w.qpn).proxy.any (fun y => y.slot == w.lantern) = true :=
    List.any_eq_true.2 ⟨x, List.mem_of_find?_eq_some hx, List.find?_some (p := fun y : ProxySlot => y.slot == w.lantern) hx⟩
  simp only [wrTake, hany, Bool.not_true, Bool.and_false, Bool.false_eq_true, if_false, if_true]
  rfl

theorem proxyReply_completes (hl : Live s) (hroom : roomOf s w.fn = some rm) (hk : (queue s w.fn w.queue).kind = .send)
    (hst : (queue s w.fn w.queue).st = .active) (hbehind : wrBehind s w = false) (hfrozen : cacheFrozen s (qp s w.qpn).die = false)
    (hbad : wrBad s w 9 false = none) (hgo : wrCourse s w 9 = .go) (hops : (qp s w.qpn).ops = []) (hunacked : (qp s w.qpn).unacked = [])
    (hwall : w.seawall = false) (hx : (qp s w.qpn).proxy.find? (fun y => y.slot == w.lantern) = some x) :
    Completes (.proxyReply w) s fun t =>
      (qp t w.qpn).proxy = (qp s w.qpn).proxy.filter (fun y => y.slot != w.lantern) ∧ (qp t w.qpn).ops = [] ∧
      (qp t w.qpn).atomics = ((x.psn, x.result w.compareAdd) :: (qp s w.qpn).atomics).take 16 := by
  refine .of_act rfl hl ?_
  rw [postWr_takes hroom hk hst hbehind hfrozen hbad hgo, wrTake_reply hx]
  have hjoin := relevelled_joinOp w.qpn (opOf s w 9 none) s
  generalize joinOp w.qpn (opOf s w 9 none) s = u at hjoin ⊢
  have hreply : qp (proxyReply w.qpn w.lantern w.compareAdd u) w.qpn = (qp u w.qpn).replied x w.lantern w.compareAdd := by
    rw [qp, proxyReply_qps (by rw [hjoin]; exact hx)]
    exact qp_modQp _ _ _
  generalize proxyReply w.qpn w.lantern w.compareAdd u = v at hreply ⊢
  rw [hjoin] at hreply
  have hretire : (retireAll w.qpn v).qps = (modQp w.qpn (fun q => { q with ops := [] }) v).qps := by
    refine retireAll_sole (o := opOf s w 9 none) ?_ ?_ rfl hwall rfl
    · rw [hreply]
      exact congrArg (· ++ [opOf s w 9 none]) hops
    · rw [hreply, Op.done]
      simp [Qp.replied, Qp.withOp, hunacked, opOf, opTotal]
  have hkept : qp (keep (transfers ++ [.hot, .warm]) s (retireAll w.qpn v)) w.qpn = { qp v w.qpn with ops := [] } := by
    rw [keep_qp, if_pos (by rfl), qp, hretire]
    exact qp_modQp _ _ _
  rw [hkept, hreply]
  exact ⟨rfl, rfl, rfl⟩

end

/-! ### XFER_POST (R458) -/

/-- No list's record takes part in the translation of an address. -/
theorem xlateAt_setList (r : ListRec) (s : State) (c : DCtx) (a n : Nat) (need : Need) : xlateAt (setList r s) c a n need = xlateAt s c a n need := rfl

theorem resolve_setList (r : ListRec) (s : State) (c : DCtx) (a n : Nat) (need : Need) : resolve (setList r s) c a n need = resolve s c a n need := by
  rw [resolve, resolve]
  generalize n / 2 ^ 21 + 3 = fuel
  generalize 0 = off
  induction fuel generalizing a n off with
  | zero => rfl
  | succ fuel ih => simp only [resolveGo, xlateAt_setList, ih]

theorem wrCourse_setList (r : ListRec) (s : State) (w : WorkReq) (op : Nat) : wrCourse (setList r s) w op = wrCourse s w op := by
  have hxlate (n : Nat) (q : Qp) : wrXlate (setList r s) n q w op = wrXlate s n q w op := by
    rw [wrXlate, resolve_setList]
    rfl
  rw [wrCourse, wrCourse]
  simp only [hxlate]
  rfl

section
variable {s : State} {h : CmdHdr} {w : WorkReq} {op rm : Nat}

/-- A list that waits at its XFER_POST is parked, or holds its tile. -/
theorem findList_parkPost (s : State) (h : CmdHdr) (r : ListRec) : ∃ x, findList (parkPost h r s) r.fn r.queue r.list = some x ∧
    (x.st = .parked ∨ x.st = .stuck) := by
  simp only [parkPost, parkList]
  split
  · exact ⟨_, findList_setList _ _, .inl rfl⟩
  · split
    · exact ⟨_, findList_setList _ _, .inr rfl⟩
    · rw [findList, ledgerRoom_lists, raise_lists, ← findList]
      exact ⟨_, findList_setList _ _, .inr rfl⟩

theorem parkPost_qps (h : CmdHdr) (r : ListRec) (s : State) : (parkPost h r s).qps = s.qps := by
  simp only [parkPost, parkList]
  split
  · rfl
  · split
    · rfl
    · rfl

/-- The work request of an XFER_POST, as its command's queue posts it. -/
def postedBy (h : CmdHdr) (w : WorkReq) : WorkReq := { w with fn := h.fn, queue := h.queue, index := h.index, tag := h.tag }

theorem xferPost_completes (hw : h.wait = 0xFFFF) (he : h.epoch = 0) (hop : op ≤ 8) (hb : Begins s h 0x22 0 (xferPostBad h op w) rm)
    (hgo : wrCourse s (postedBy h w) op = .go) : Completes (.xferPost h op w) s fun t =>
      (∃ o, (qp t w.qpn).ops = (qp s w.qpn).ops ++ [o] ∧ o.post = some h ∧ o.opcode = op ∧ o.sent = 0 ∧ o.wr = postedBy h w) ∧
      ∃ r, findList t h.fn h.queue h.list = some r ∧ (r.st = .parked ∨ r.st = .stuck) := by
  have hop9 : op ≠ 9 := by omega
  have hgo' : wrCourse (begunState s h 0x22 rm) (postedBy h w) op = .go := (wrCourse_setList _ _ _ _).trans hgo
  have hpost : xferPost h op w (begun s h 0x22 rm) (begunState s h 0x22 rm) = ({ pend := true },
      wrTake (postedBy h w) op (some h) (parkPost h (begun s h 0x22 rm) (begunState s h 0x22 rm))) := by
    rw [postedBy] at hgo'
    simp only [xferPost, hgo']
    rfl
  refine .of_act rfl hb.1 ?_
  rw [engine_begins hw he hb, hpost, endCmd_pend _ (.inl rfl), wrTake_joins hop9]
  obtain ⟨r, hfind, hst⟩ := findList_parkPost (begunState s h 0x22 rm) h (begun s h 0x22 rm)
  have hqps := parkPost_qps h (begun s h 0x22 rm) (begunState s h 0x22 rm)
  generalize parkPost h (begun s h 0x22 rm) (begunState s h 0x22 rm) = u at hfind hqps ⊢
  have hqp : qp u w.qpn = qp s w.qpn := by rw [qp, hqps]; rfl
  rw [begun_fn, begun_queue, begun_list] at hfind
  have hjoin := relevelled_joinOp w.qpn (opOf u (postedBy h w) op (some h)) u
  obtain ⟨-, -, -, hlists⟩ := joinOp_leaves w.qpn (opOf u (postedBy h w) op (some h)) u
  generalize hv : joinOp (postedBy h w).qpn (opOf u (postedBy h w) op (some h)) u = v
  rw [show joinOp w.qpn (opOf u (postedBy h w) op (some h)) u = v from hv] at hjoin hlists
  have hkept : qp (keep (transfers ++ [.hot, .warm]) s v) w.qpn = qp v w.qpn := rfl
  rw [hkept, hjoin, hqp]
  refine ⟨⟨opOf u (postedBy h w) op (some h), rfl, rfl, rfl, rfl, rfl⟩, r, ?_, hst⟩
  rw [findList, keep_lists, if_pos (by rfl), hlists]
  exact hfind

end

/-! ### RECV (R459) -/

/-- The receive entry that a RECV leaves in its queue. -/
def recvEntry (s : State) (rm i tag ep : Nat) (segs : List (Nat × Nat)) : RecvEntry :=
  { index := i, tag := tag, epoch := ep, segs := segs, pins := pinsOf s rm (segs.map (fun g => g.1)) }

/-- A queue with one more receive entry. -/
def Queue.withEntry (e : RecvEntry) (k : Queue) : Queue := { k with entries := k.entries ++ [e] }

theorem recv_completes {s : State} {fn q i tag ep rm : Nat} {segs : List (Nat × Nat)} (hl : Live s) (hroom : roomOf s fn = some rm)
    (hk : (queue s fn q).kind = .recv) (hst : (queue s fn q).st = .active) (hlen : segs.length ≤ 15) (hep : ep < 65536)
    (hsegs : ∀ g ∈ segs, g.2 ≤ 2 ^ 31 ∧ operand (room s rm) g.1 ≠ .bad) : Completes (.recv fn q i tag ep segs) s fun t =>
      (queue t fn q).entries = (queue s fn q).entries ++ [recvEntry s rm i tag ep segs] ∧
      ∀ k, k ≠ qkey fn q → mget t.queues k {} = mget s.queues k {} := by
  have hsmall : ∀ g ∈ segs, g.2 ≤ 2 ^ 31 := fun g hg => (hsegs g hg).1
  have hok : firstBadOf [(decide (15 < segs.length), 3), (decide (65536 ≤ ep) || segs.any (fun g => decide (2 ^ 32 ≤ g.2)), 1),
      (segs.any (fun g => operand (room s rm) g.1 == .bad), 5), (segs.any (fun g => decide (2 ^ 31 < g.2)), 4)] = none := by
    simp only [firstBadOf_cons_none, firstBadOf_nil, Bool.or_eq_false_iff, decide_eq_false_iff_not, List.any_eq_false, decide_eq_true_eq,
      beq_iff_eq, and_true]
    exact ⟨by omega, ⟨by omega, fun g hg => by have := hsmall g hg; omega⟩, fun g hg => (hsegs g hg).2, fun g hg => Nat.not_lt.2 (hsmall g hg)⟩
  have hrun : recvPost fn q i tag ep segs s = modQueue fn q (Queue.withEntry (recvEntry s rm i tag ep segs)) s := by
    simp only [recvPost, hroom, hok]
    rw [if_neg (by simp [hk, hst, mayRun])]
    rfl
  refine .of_act rfl hl ?_
  rw [hrun]
  obtain ⟨hqueue, hothers⟩ := (setsQueue_modQueue fn q (Queue.withEntry (recvEntry s rm i tag ep segs)) s).keep (l := answers ++ [.queues]) rfl
  exact ⟨congrArg Queue.entries hqueue, hothers⟩

end Sys2Proof.Machine


/-! ## A queue pair's turn to send (R405, R406, R744) -/

namespace Sys2Proof.Machine

open Sys2Proof

section
variable {s : State} {n : Nat}

@[simp] theorem opRead_qps (n : Nat) (o : Op) (i : Nat) (s : State) : (opRead n o i s).qps = s.qps := by
  simp only [opRead]
  split
  · rfl
  · rfl

/-- A QP whose pace has counted a packet (R744). -/
def Qp.pacedBy (s : State) (k : Pkt) (q : Qp) : Qp :=
  { q with pace := paceSent s (match q.roce with | some c => roceBytes s c k | none => pktBytes k) q.pace }

theorem sendPaced_qps (n : Nat) (k : Pkt) (s : State) : (sendPaced n k s).qps = (makeHot n (modQp n (Qp.pacedBy s k) s)).qps :=
  sendPkt_qps _ _ _

/-- A QP that sends a packet changes, of its record, its pace and its context's level. -/
theorem relevelled_sendPaced (n : Nat) (k : Pkt) (s : State) : Relevelled ((qp s n).pacedBy s k) (qp (sendPaced n k s) n) := by
  rw [qp.eq_def (sendPaced n k s), sendPaced_qps]
  exact relevelled_hot_modQp n (Qp.pacedBy s k) s

/-- The shaper that a QP's packets are charged to is that of the QP's room (R730). -/
theorem shaperRoom_of_qp {k : Pkt} {r : Nat} (hstream : k.stream = false) (hr : shaperRoom s k = some r) : r = (qp s k.srcQpn).room := by
  simp only [shaperRoom, hstream, Bool.false_eq_true, if_false] at hr
  split at hr
  · cases hr
  · obtain ⟨q, hq, rfl⟩ := Option.map_eq_some_iff.1 hr
    rw [qp, mget_eq_mfind, hq]
    rfl

/-- A packet of a QP on the fabric can leave it while the router runs, no output is THROTTLED and the shaper of its room is not in deficit (R726, R741). -/
theorem canSend_of_open {k : Pkt} (hroce : (qp s n).roce = none) (hrun : s.router.st = .run) (hopen : ∀ p c, throttled s p c = false)
    (hsrc : k.srcQpn = n) (hstream : k.stream = false) (htok : 0 ≤ bucketTok s (rshape (qp s n).room) 0) : canSend s (qp s n) k = true := by
  have hroom : roomReady s k = true := by
    rw [roomReady]
    split
    · next r hr =>
      rw [shaperRoom_of_qp hstream hr, hsrc]
      exact decide_eq_true htok
    · rfl
  simp only [canSend, hroce, canInject, hrun, hroom, hopen]
  cases route s k (if k.detour = true then 2 else 0) false <;> rfl

/-- An operation that is about to send: it takes its QP's MSN with its first packet (R415). -/
def Op.numbered (q : Qp) (o : Op) : Op := { o with msn := if o.sent = 0 then q.nextMsn else o.msn }

/-- A QP that has sent one packet of an operation, on a path, as the unacknowledged PSN `u`. -/
def Qp.sentOne (o : Op) (path : Nat) (u : Unacked) (q : Qp) : Qp :=
  { q with
    unacked := q.unacked ++ [u], orders := q.orders + 1, lastPath := path, nextPsn := q.after q.nextPsn 1
    nextMsn := if o.sent = 0 then q.nextMsn + 1 else q.nextMsn
    ops := q.ops.map (fun x => if x.id = o.id then
      { x with sent := x.sent + 1, msn := o.msn, first := if x.sent = 0 then q.nextPsn else x.first } else x) }

theorem sendNew_sends {o : Op} {data : List Byte} (hop : o.opcode ≠ 6) (hwin : ((qp s n).diff (qp s n).nextPsn (qp s n).oldest).toNat < (qp s n).window)
    (hdata : opData s n (qp s n) (o.numbered (qp s n)) o.sent = .ok data)
    (hsend : ∀ k : Pkt, k.srcQpn = n % 2 ^ 24 → k.stream = decide (2 ^ 24 ≤ n) → canSend s (qp s n) k = true) :
    ∃ (k : Pkt) (u : Unacked), u.psn = (qp s n).after (qp s n).nextPsn 0 ∧ u.path = newPath s (qp s n) ∧ u.count = 0 ∧
      sendNew n o s = sendPaced n k (opRead n (o.numbered (qp s n)) o.sent
        (modQp n (Qp.sentOne (o.numbered (qp s n)) (newPath s (qp s n)) u) s)) := by
  have hone : psnsNext (qp s n) (o.numbered (qp s n)) = 1 := if_neg hop
  rw [Op.numbered] at hone hdata
  simp only [sendNew, hone, hdata, decide_eq_false hop, Bool.false_and, Bool.or_false, decide_eq_true_eq]
  rw [if_neg (Nat.not_lt.2 hwin), if_neg]
  · exact ⟨_, _, rfl, rfl, rfl, rfl⟩
  · rw [hsend _ rfl rfl]
    decide

theorem qpPace_new {o : Op} (hfrozen : cacheFrozen s (qp s n).die = false) (hheld : s.heldPkts.find? (fun k => !k.stream && k.srcQpn == n) = none)
    (hsends : (qp s n).sends = true) (hhold : (qp s n).holdFrom = none) (hdue : reached (qp s n).pace.sendAt (elapsed s) = true)
    (hlevel : (qp s n).level = 0) (hlost : (qp s n).unacked.find? (fun u => u.lost) = none) (hnext : nextOp (qp s n).ops false = some o) :
    qpPace n s = sendNew n o s := by
  simp only [qpPace, hfrozen, hheld, hsends, hhold, hdue, hlevel, hlost, hnext, Option.isSome_none, Bool.not_true, Bool.or_false, Bool.false_eq_true,
    if_false, ne_eq, not_true_eq_false]

theorem undertowPace_completes {nd ep : Nat} {o : Op} {data : List Byte} (hl : Live s) (hfrozen : cacheFrozen s (qp s n).die = false) (hn : n < 2 ^ 24)
    (htok : 0 ≤ bucketTok s (rshape (qp s n).room) 0) (hheld : s.heldPkts.find? (fun k => !k.stream && k.srcQpn == n) = none)
    (hsends : (qp s n).sends = true) (hhold : (qp s n).holdFrom = none) (hdue : reached (qp s n).pace.sendAt (elapsed s) = true)
    (hlevel : (qp s n).level = 0) (hlost : (qp s n).unacked.find? (fun u => u.lost) = none) (hnext : nextOp (qp s n).ops false = some o)
    (hop : o.opcode ≠ 6) (hwin : ((qp s n).diff (qp s n).nextPsn (qp s n).oldest).toNat < (qp s n).window)
    (hdata : opData s n (qp s n) (o.numbered (qp s n)) o.sent = .ok data) (hroce : (qp s n).roce = none) (hrun : s.router.st = .run)
    (hopen : ∀ p c, throttled s p c = false) : Completes (.undertowPace false n nd ep) s fun t =>
      (qp t n).nextPsn = (qp s n).after (qp s n).nextPsn 1 ∧ (qp t n).lastPath = newPath s (qp s n) ∧
      (qp t n).nextMsn = (if o.sent = 0 then (qp s n).nextMsn + 1 else (qp s n).nextMsn) ∧
      ∃ u, (qp t n).unacked = (qp s n).unacked ++ [u] ∧ u.psn = (qp s n).after (qp s n).nextPsn 0 ∧ u.path = newPath s (qp s n) ∧ u.count = 0 := by
  have hsend (k : Pkt) (hsrc : k.srcQpn = n % 2 ^ 24) (hstream : k.stream = decide (2 ^ 24 ≤ n)) : canSend s (qp s n) k = true :=
    canSend_of_open hroce hrun hopen (hsrc.trans (Nat.mod_eq_of_lt hn)) (hstream.trans (decide_eq_false (Nat.not_le.2 hn))) htok
  obtain ⟨k, u, hpsn, hpath, hcount, hnew⟩ := sendNew_sends hop hwin hdata hsend
  refine .of_act (f := qpPace n) (l := losses) rfl hl ?_
  rw [qpPace_new hfrozen hheld hsends hhold hdue hlevel hlost hnext, hnew]
  have hread : qp (opRead n (o.numbered (qp s n)) o.sent (modQp n (Qp.sentOne (o.numbered (qp s n)) (newPath s (qp s n)) u) s)) n =
      (qp s n).sentOne (o.numbered (qp s n)) (newPath s (qp s n)) u := by
    rw [qp, opRead_qps]
    exact qp_modQp _ _ _
  generalize opRead n (o.numbered (qp s n)) o.sent (modQp n (Qp.sentOne (o.numbered (qp s n)) (newPath s (qp s n)) u) s) = v at hread ⊢
  have hsent := relevelled_sendPaced n k v
  generalize sendPaced n k v = x at hsent ⊢
  have hkept : qp (keep losses s x) n = qp x n := rfl
  rw [hkept, hsent, hread]
  exact ⟨rfl, rfl, rfl, u, rfl, hpsn, hpath, hcount⟩

end

/-! ### The obligation -/

/-- Settles O22: clause by clause, a work request joins its QP's operations (R439), a PROXY_REPLY ends in its own turn (R483), an XFER_POST
posts as its list parks (R458), a receive entry joins its queue (R459), and a QP in its turn sends one packet under its next PSN (R744). -/
theorem workIsPostedAndSent : Obligations.WorkIsPostedAndSent := by
  unfold Obligations.WorkIsPostedAndSent
  refine ⟨?_, ?_, ?_, ?_, ?_⟩
  · intro s w rm op c hc hl hroom hk hst hbehind hfrozen hbad hgo
    have hposts : op ≠ 9 ∧ exec c s = act (transfers ++ [.hot, .warm]) (postWr w op) s := by
      simp only [List.mem_cons, List.not_mem_nil, or_false, Prod.mk.injEq] at hc
      rcases hc with ⟨rfl, rfl⟩ | ⟨rfl, rfl⟩ | ⟨rfl, rfl⟩ | ⟨rfl, rfl⟩ | ⟨rfl, rfl⟩ | ⟨rfl, rfl⟩ | ⟨rfl, rfl⟩ | ⟨rfl, rfl⟩ <;>
        exact ⟨by decide, rfl⟩
    obtain ⟨hop, hexec⟩ := hposts
    exact postWr_completes hop hexec hl hroom hk hst hbehind hfrozen hbad hgo
  · intro s w rm x hl hroom hk hst hbehind hfrozen hbad hgo hops hunacked hwall hx
    exact proxyReply_completes hl hroom hk hst hbehind hfrozen hbad hgo hops hunacked hwall hx
  · intro s h w rm op hw he _ hop hb hgo
    exact xferPost_completes hw he hop hb hgo
  · intro s fn q i tag ep rm segs hl hroom hk hst hlen hep hsegs
    exact recv_completes hl hroom hk hst hlen hep hsegs
  · intro s n nd ep o data hl hfrozen hn htok hheld hsends hhold hdue hlevel hlost hnext hop hwin hdata hroce hrun hopen
    exact undertowPace_completes hl hfrozen hn htok hheld hsends hhold hdue hlevel hlost hnext hop hwin hdata hroce hrun hopen

end Sys2Proof.Machine

/-! ## The counters of the transport while records are written and packets leave -/

namespace Sys2Proof.Machine

open Sys2Proof

/-- Two states with the same counters of the transport, those from 0x240000 to 0x24FFFF. -/
def SameTransport (s t : State) : Prop := ∀ off, 0x240000 ≤ off → off < 0x250000 → counter t off = counter s off

section
variable {s t u : State}

theorem SameTransport.of_cnt (h : t.cnt = s.cnt) : SameTransport s t := fun _ _ _ => by rw [counter, h, ← counter]

theorem SameTransport.refl (s : State) : SameTransport s s := .of_cnt rfl

theorem SameTransport.trans (h : SameTransport s t) (h' : SameTransport t u) : SameTransport s u :=
  fun off lo hi => (h' off lo hi).trans (h off lo hi)

/-- Counters outside the transport's range are none of its. -/
theorem sameTransport_bumpBy {x : Nat} (hx : x < 0x240000 ∨ 0x250000 ≤ x) (n : Nat) (s : State) : SameTransport s (bumpBy x n s) := by
  intro off lo hi
  have hne : off ≠ x := by omega
  simp [counter, bumpBy, hne]

theorem SameTransport.bump (h : SameTransport s t) {x : Nat} (hx : 0x250000 ≤ x) : SameTransport s (bump x t) :=
  h.trans (sameTransport_bumpBy (.inr hx) 1 t)

theorem SameTransport.raise (h : SameTransport s t) (b i : Nat) : SameTransport s (raise b i t) := h.trans (.of_cnt (raise_cnt t b i))

theorem SameTransport.modQueue (h : SameTransport s t) (fn q : Nat) (f : Queue → Queue) : SameTransport s (modQueue fn q f t) :=
  h.trans (.of_cnt (modQueue_cnt t fn q f))

theorem SameTransport.msix (h : SameTransport s t) (fn v : Nat) : SameTransport s (msix fn v t) := h.trans (.of_cnt (msix_cnt t fn v))

theorem SameTransport.markLine (h : SameTransport s t) (l : Nat) : SameTransport s (markLine l t) := h.trans (.of_cnt rfl)

theorem SameTransport.loseWord (h : SameTransport s t) (w : Nat) : SameTransport s (loseWord w t) :=
  h.trans (.of_cnt (by rw [Machine.loseWord]))

theorem SameTransport.modErrs (h : SameTransport s t) (f : Errs → Errs) : SameTransport s (modErrs f t) := h.trans (.of_cnt (modErrs_cnt t f))

end

/-! ### Writes into device memory (R255, R256) -/

theorem tierCtl_lt {s : State} {a c : Nat} (h : tierCtl s a = some c) : c < 16 := by
  have hbit (x i : Nat) : nbit x i < 2 := Nat.mod_lt _ (by decide)
  have h37 := hbit a 37
  have h12 := hbit a 12
  have h39 := hbit a 39
  simp only [tierCtl] at h
  split at h
  · split at h <;> cases h <;> omega
  · split at h
    · split at h <;> cases h <;> omega
    · split at h
      · cases h
        omega
      · cases h

theorem sameTransport_countBlocks {o : Nat} (ho : o < 0x100) (f : Nat → Nat) (l : List Nat) (s : State) : SameTransport s (countBlocks o f l s) := by
  induction l generalizing s with
  | nil => exact .refl s
  | cons b l ih =>
    refine .trans ?_ (ih _)
    dsimp only
    split
    · next c hc =>
      have hlt := tierCtl_lt hc
      exact sameTransport_bumpBy (by omega) _ s
    · exact .refl s

theorem sameTransport_mapTouch (s : State) (b : Nat) : SameTransport s (mapTouch s b) := by
  rw [mapTouch]
  split
  · exact .refl s
  · next c hc =>
    have hlt := tierCtl_lt hc
    dsimp only
    split
    · exact .of_cnt rfl
    · exact .trans (t := bumpBy (0x210120 + 0x40 * c) 1 s) (sameTransport_bumpBy (by omega) 1 s) (.of_cnt rfl)

theorem sameTransport_mapUse (a n : Nat) (s : State) : SameTransport s (mapUse a n s) := by
  have hfold (l : List Nat) : SameTransport s (l.foldl mapTouch s) := by
    induction l using List.reverseRecOn with
    | nil => exact .refl s
    | append_singleton l b ih =>
      rw [List.foldl_append]
      exact ih.trans (sameTransport_mapTouch _ b)
  exact (hfold (blocksOf a n)).trans (.of_cnt rfl)

theorem sameTransport_devWrite (a : Nat) (data : List Byte) (s : State) : SameTransport s (devWrite a data s) := by
  have hblocks := (sameTransport_mapUse a data.length s).trans
    (sameTransport_countBlocks (o := 8) (by decide) (bytesIn a data.length) (blocksOf a data.length) _)
  exact (hblocks.trans (sameTransport_countBlocks (o := 0x18) (by decide) (fun _ => 1) (zeroFills s.mem a data.length) _)).trans (.of_cnt rfl)

theorem sameTransport_resolveLines (a n : Nat) (s : State) : SameTransport s (resolveLines a n s) := by
  rw [resolveLines]
  split
  · exact .refl s
  · exact .of_cnt rfl

theorem sameTransport_locWrite (l : Loc) (data : List Byte) (s : State) : SameTransport s (locWrite l data s) := by
  cases l with
  | host p a => exact .of_cnt rfl
  | dev a => exact (sameTransport_resolveLines a data.length s).trans (sameTransport_devWrite a data _)

theorem sameTransport_putUnits (data : List Byte) (ls : List Loc) (s : State) : SameTransport s (putUnits data s ls) := by
  induction ls generalizing data s with
  | nil => exact .refl s
  | cons l ls ih => exact (sameTransport_locWrite l _ s).trans (ih _ _)

theorem sameTransport_tryPut {s t : State} {fn : Nat} {q : Queue} {data : List Byte} (h : tryPut s fn q data = .ok t) : SameTransport s t := by
  rw [tryPut] at h
  split at h
  · cases h
  · split at h
    · cases h
    · cases h
      exact sameTransport_putUnits data _ s

/-! ### Records (R985, R986) -/

theorem sameTransport_putRecord (fn : Nat) (r : LedgerRec) (s : State) : SameTransport s (putRecord fn r s) := by
  rw [putRecord]
  split
  · exact ((SameTransport.refl s).bump (by decide)).raise 12 1
  · dsimp only
    split
    · split
      · next t hput =>
        have hwrite : SameTransport s t := by
          split at hput
          · exact sameTransport_tryPut hput
          · cases hput
        split
        · exact (hwrite.modQueue _ _ _).msix _ _
        · exact hwrite.modQueue _ _ _
      · exact ((((SameTransport.refl s).modQueue _ _ _).modQueue _ _ _).bump (by decide)).raise 12 1
      · exact (SameTransport.refl s).modQueue _ _ _
      · exact (SameTransport.refl s).modQueue _ _ _
    · exact (((SameTransport.refl s).modQueue _ _ _).bump (by decide)).raise 12 1

/-- The writers of records, and what a unit in FATAL takes down, leave the counters of the transport. -/
structure Sinks.KeepTransport (k : Sinks) : Prop where
  inn : ∀ r s, SameTransport s (k.inn r s)
  guest : ∀ rm r s, SameTransport s (k.guest rm r s)
  down : ∀ u s, SameTransport s (k.down u s)

section
variable {k : Sinks} (hk : k.KeepTransport)
include hk

theorem sameTransport_unitFatalBy (u : Nat) (s : State) : SameTransport s (unitFatalBy k u s) := by
  simp only [unitFatalBy]
  have hraise := ((SameTransport.refl s).modErrs fun e => { e with
    latches := mmod e.latches u {} (fun l => { l with st := 2 }), alert := true
    fatalUnit := if e.fatal then e.fatalUnit else 0x100 + u, fatalKind := if e.fatal then e.fatalKind else 0x0B }).raise 12 7
  refine .trans ?_ (hk.down _ _)
  split
  · exact hraise.trans (hk.inn _ _)
  · exact hraise

theorem sameTransport_memRecordBy (x : Access) (kind u m a : Nat) (second : Bool) (s : State) : SameTransport s (memRecordBy k x kind u m a second s) := by
  simp only [memRecordBy]
  split
  · exact hk.inn _ s
  · exact (hk.inn _ s).trans (hk.guest _ _ _)

theorem sameTransport_latchNewBy (x : Access) (kind u m a : Nat) (s : State) : SameTransport s (latchNewBy k x kind u m a s) := by
  simp only [latchNewBy]
  split
  · exact (((SameTransport.refl s).modErrs _).raise 12 6).trans (sameTransport_memRecordBy hk x kind u m a false _)
  · split
    · exact (((((SameTransport.refl s).modErrs _).bump (by decide)).raise 12 5).trans (sameTransport_memRecordBy hk x kind u m a true _)).trans
        (sameTransport_unitFatalBy hk u _)
    · exact .refl s

/-- A line that has failed before, or fails now (R965). -/
theorem sameTransport_line (fresh : Bool) (kind : Nat) (x : Access) (l : Nat) (s : State) : SameTransport s
    (if lineNew s l fresh = true then
      latchNewBy k x kind (latchUnit s (l * 64)) (memNo s (l * 64)) (l * 64) (markLine l (bump (0x440200 + 8 * memNo s (l * 64)) s))
    else memRecordBy k x 4 (latchUnit s (l * 64)) (memNo s (l * 64)) (l * 64) false (bump (0x440300 + 8 * memNo s (l * 64)) s)) := by
  split
  · exact (((SameTransport.refl s).bump (Nat.le_add_right_of_le (by decide))).markLine l).trans (sameTransport_latchNewBy hk x kind _ _ _ _)
  · exact ((SameTransport.refl s).bump (Nat.le_add_right_of_le (by decide))).trans (sameTransport_memRecordBy hk x 4 _ _ _ false _)

theorem sameTransport_meetBy (kind : Nat) (x : Access) (b : Bad) (s : State) : SameTransport s (meetBy k kind x b s) := by
  cases b with
  | absent a =>
    simp only [meetBy]
    split
    · exact hk.inn _ s
    · exact (hk.inn _ s).trans (hk.guest _ _ _)
  | dead a => exact ((SameTransport.refl s).bump (Nat.le_add_right_of_le (by decide))).trans (sameTransport_memRecordBy hk x 4 _ _ a false _)
  | repeated l => exact sameTransport_line hk false kind x l s
  | map a =>
    simp only [meetBy]
    split
    · exact ((((SameTransport.refl s).bump (Nat.le_add_right_of_le (by decide))).loseWord _).raise 1 2).trans
        (sameTransport_latchNewBy hk _ 7 _ _ a _)
    · exact .refl s
  | fresh l => exact sameTransport_line hk true kind x l s

end

section
variable {put : Nat → LedgerRec → State → State} (hp : ∀ fn r s, SameTransport s (put fn r s))
include hp

theorem sameTransport_innBy (r : LedgerRec) (s : State) : SameTransport s (innBy put r s) := by
  simp only [innBy]
  split
  · exact (hp _ _ s).trans (.of_cnt rfl)
  · exact hp _ _ s

theorem sameTransport_guestBy (rm : Nat) (r : LedgerRec) (s : State) : SameTransport s (guestBy put rm r s) := hp _ _ s

theorem sameTransport_meetRing (code fn object : Nat) (e : Option RingErr) (s : State) : SameTransport s (meetRing put code fn object e s) := by
  rw [meetRing.eq_def]
  split
  · split
    · exact sameTransport_guestBy hp _ _ s
    · exact .refl s
  · exact sameTransport_meetBy ⟨sameTransport_innBy hp, sameTransport_guestBy hp, fun _ => .refl⟩ 3 _ _ s
  · exact sameTransport_innBy hp _ s
  · exact .refl s

end

theorem sameTransport_putLedgerN (n fn : Nat) (r : LedgerRec) (s : State) : SameTransport s (putLedgerN n fn r s) := by
  induction n generalizing fn r s with
  | zero => exact sameTransport_putRecord fn r s
  | succ n ih =>
    rw [putLedgerN]
    split
    · exact sameTransport_putRecord fn r s
    · split
      · exact (sameTransport_putRecord fn r s).trans (sameTransport_meetRing ih _ _ _ _ _)
      · exact sameTransport_putRecord fn r s

theorem sameTransport_ledgerRoom (rm : Nat) (r : LedgerRec) (s : State) : SameTransport s (ledgerRoom rm r s) :=
  .trans (t := guestBy putLedger rm r s) (sameTransport_guestBy (sameTransport_putLedgerN 2) rm r s) (.of_cnt rfl)

/-! ### Packets that leave (R726, R741) -/

theorem sameTransport_enqueue (p : Nat) (e : EgFrame) (s : State) : SameTransport s (enqueue p e s) := by
  simp only [enqueue, throttleStep]
  split
  · split
    · exact .of_cnt rfl
    · exact .of_cnt rfl
  · split
    · exact .of_cnt rfl
    · exact .of_cnt rfl

theorem sameTransport_roomCharge (k : Pkt) (n : Nat) (s : State) : SameTransport s (roomCharge k n s) := by
  rw [roomCharge]
  split
  · exact .of_cnt rfl
  · exact .refl s

theorem sameTransport_dropAt (port : Option Nat) (reason : Nat) (s : State) : SameTransport s (dropAt port reason s) := by
  cases port with
  | none => exact (((SameTransport.refl s).bump (by decide)).raise 7 0).trans (.of_cnt rfl)
  | some p =>
    have hport : 0x250000 ≤ 0x601000 + 0x80 * p + 8 * reason := by omega
    exact (((SameTransport.refl s).bump hport).raise 7 0).trans (.of_cnt rfl)

theorem sameTransport_originate (k : Pkt) (s : State) : SameTransport s (originate k s) := by
  refine .trans (t := inject k s) ?_ (.of_cnt rfl)
  have hcharge := sameTransport_roomCharge k (pktBytes k) s
  simp only [inject]
  split
  · exact .of_cnt rfl
  · split
    · exact hcharge.trans (.of_cnt rfl)
    · exact hcharge.trans (sameTransport_dropAt _ _ _)
    · split
      · exact .of_cnt rfl
      · exact hcharge.trans (sameTransport_enqueue _ _ _)

theorem sameTransport_sendPkt (q : Qp) (k : Pkt) (s : State) : SameTransport s (sendPkt q k s) := by
  rw [sendPkt]
  split
  · exact sameTransport_originate k s
  · next c _ =>
    split
    · exact .of_cnt rfl
    · exact ((sameTransport_roomCharge k _ s).trans (sameTransport_enqueue c.port _ _)).trans (.of_cnt rfl)

/-- A NAK other than BUSY and ACCESS counts nothing of the transport's (R401). -/
theorem sameTransport_sendNak {code : Nat} (h1 : code ≠ 1) (h3 : code ≠ 3) (n : Nat) (psn : BitVec 32) (s : State) :
    SameTransport s (sendNak n code psn s) := by
  simp only [sendNak, if_neg h1, if_neg h3]
  exact sameTransport_sendPkt _ _ s

end Sys2Proof.Machine

/-! ## Contexts, proxy slots and paces -/

namespace Sys2Proof.Machine

open Sys2Proof

/-! ### A fetched context (R430, R433) -/

section
variable {s : State} {n : Nat}

theorem claimWarm_of_level (h : (qp s n).level ≠ 2) : claimWarm n s = s := by
  simp only [claimWarm, h, ne_eq, not_false_eq_true, decide_true, Bool.true_or, if_true]

/-- The record of a QP whose context is hot. -/
def Qp.hot (q : Qp) : Qp := { q with level := 0, fetching := false }

theorem setsQp_makeHot (hn : n < 2 ^ 24) (hroom : (mget s.hot (qp s n).die []).length < 8192) : SetsQp s n (qp s n).hot (makeHot n s) := by
  have hput : (makeHot n s).qps = (modQp n Qp.hot s).qps := by
    simp only [makeHot, if_neg (Nat.not_le.2 hn), decide_eq_true hroom, Bool.or_true, if_true]
    rfl
  exact (setsQp_modQp n Qp.hot s).of_qps hput

theorem makeHot_hot (hn : n < 2 ^ 24) (hroom : (mget s.hot (qp s n).die []).length < 8192) (hcold : n ∉ mget s.hot (qp s n).die []) :
    mget (makeHot n s).hot (qp s n).die [] = mget s.hot (qp s n).die [] ++ [n] := by
  have hstay : (mget s.hot (qp s n).die []).filter (fun x => x != n) = mget s.hot (qp s n).die [] :=
    List.filter_eq_self.2 fun x hx => bne_iff_ne.2 fun hxn => hcold (hxn ▸ hx)
  simp only [makeHot, if_neg (Nat.not_le.2 hn), decide_eq_true hroom, Bool.or_true, if_true, mget_mmod_self, hstay]

theorem makeHot_porch (n : Nat) (s : State) : (makeHot n s).porch = s.porch := by
  rw [onlyContexts_makeHot n s]

/-- A context that no packet in the Porch waits for is fetched: it becomes hot, and nothing is released. -/
theorem contextFetched_hot (hn : n < 2 ^ 24) (hfetch : (qp s n).fetching = true) (hst : (qp s n).st ≠ .free) (hlevel : (qp s n).level = 1)
    (hqp : qpFrozen s n = false) (hctx : ctxFrozen s n = false) (hroom : (mget s.hot (qp s n).die []).length < 8192)
    (hporch : ∀ k ∈ mget s.porch (qp s n).die [], k.dstQpn ≠ n) : ∃ x, contextFetched n true s = { makeHot n s with porch := x } := by
  have hhot : (qp (makeHot n s) n).level = 0 := by rw [(setsQp_makeHot hn hroom).1]; rfl
  have hnone : (mget s.porch (qp s n).die []).filter (fun k => k.dstQpn == n) = [] :=
    List.filter_eq_nil_iff.2 fun k hk => by rw [beq_iff_eq]; exact hporch k hk
  have hwarm : claimWarm n s = s := claimWarm_of_level (by rw [hlevel]; decide)
  simp only [contextFetched, hfetch, hst, hlevel, hqp, hctx, hwarm, hhot, makeHot_porch, hnone, List.foldl_nil]
  exact ⟨_, rfl⟩

theorem contextFetchComplete_completes (hl : Live s) (hn : n < 2 ^ 24) (hfetch : (qp s n).fetching = true) (hst : (qp s n).st ≠ .free)
    (hlevel : (qp s n).level = 1) (hqp : qpFrozen s n = false) (hctx : ctxFrozen s n = false) (hcold : n ∉ mget s.hot (qp s n).die [])
    (hroom : (mget s.hot (qp s n).die []).length < 8192) (hporch : ∀ k ∈ mget s.porch (qp s n).die [], k.dstQpn ≠ n) :
    Completes (.contextFetchComplete n true) s fun t =>
      qp t n = (qp s n).hot ∧ mget t.hot (qp s n).die [] = mget s.hot (qp s n).die [] ++ [n] ∧ ∀ m, m ≠ n → qp t m = qp s m := by
  refine .of_act rfl hl ?_
  obtain ⟨x, hx⟩ := contextFetched_hot hn hfetch hst hlevel hqp hctx hroom hporch
  obtain ⟨hset, hothers⟩ := setsQp_makeHot hn hroom
  have hhot := makeHot_hot hn hroom hcold
  rw [hx]
  generalize makeHot n s = u at hset hothers hhot ⊢
  exact ⟨hset, hhot, hothers⟩

end

/-! ### A proxy slot that times out (R485) -/

section
variable {s : State} {n k : Nat} {x : ProxySlot}

/-- A QP whose proxy slot has been freed. -/
def Qp.withoutSlot (k : Nat) (q : Qp) : Qp := { q with proxy := q.proxy.filter (fun y => y.slot != k) }

theorem proxyTimeout_completes (hl : Live s) (hx : (qp s n).proxy.find? (fun y => y.slot == k) = some x) (hdue : reached x.due (elapsed s) = true) :
    Completes (.proxyTimeout n k) s fun t =>
      (qp t n).proxy = (qp s n).proxy.filter (fun y => y.slot != k) ∧ counter t 0x240168 = counter s 0x240168 + 1 := by
  have hrun : proxyTimeout n k s = ledgerRoom (qp s n).room { kind := 0x62, severity := 0, object := n, d0 := k }
      (sendNak n 7 x.psn (bump 0x240168 (modQp n (Qp.withoutSlot k) s))) := by
    simp only [proxyTimeout, hx, hdue]
    rfl
  have hset : SetsQp s n ((qp s n).withoutSlot k) (bump 0x240168 (modQp n (Qp.withoutSlot k) s)) := (setsQp_modQp n (Qp.withoutSlot k) s).of_qps rfl
  have hcount : counter (bump 0x240168 (modQp n (Qp.withoutSlot k) s)) 0x240168 = counter s 0x240168 + 1 := counter_bump _ _
  refine .of_act rfl hl ?_
  rw [hrun]
  generalize bump 0x240168 (modQp n (Qp.withoutSlot k) s) = u at hset hcount ⊢
  have hnak := (sameTransport_sendNak (code := 7) (by decide) (by decide) n x.psn u).trans
    (sameTransport_ledgerRoom (qp s n).room { kind := 0x62, severity := 0, object := n, d0 := k } _)
  obtain ⟨hqp, -⟩ := (hset.of_qps ((ledgerRoom_qps _ _ _).trans (sendNak_qps _ _ _ _))).keep (l := reports ++ [.qps, .fports, .heldPkts, .tokens]) rfl
  rw [hqp, keep_counter, if_pos (by rfl), hnak _ (by decide) (by decide), hcount]
  exact ⟨rfl, rfl⟩

end

/-! ### Timers of Undertow (R417, R747, R759, R760) -/

section
variable {s : State} {n : Nat}

theorem detourSuspendEnd_completes {nd ep : Nat} (hl : Live s) (hoff : (qp s n).noInfer = true) (hdue : reached (qp s n).noInferEnd (elapsed s) = true) :
    Completes (.detourSuspendEnd false n nd ep) s (SetsQp s n { qp s n with noInfer := false }) := by
  refine .of_act (f := detourEnd n) (l := [.qps]) rfl hl ?_
  rw [detourEnd, hoff, hdue, Bool.and_self, if_pos rfl]
  exact (setsQp_modQp n _ s).keep rfl

/-- A QP whose base window of a path has ended. -/
def Qp.nextWindow (s : State) (path : Nat) (q : Qp) : Qp := { q with pace := baseWindow s path q.pace }

theorem baseWindow_paths {p : Pace} {path : Nat} (hdue : reached (mget p.paths path {}).ends (elapsed s) = true) :
    mget (baseWindow s path p).paths path {} = { mget p.paths path {} with prev := (mget p.paths path {}).cur, cur := none, ends := baseEnd s } := by
  simp only [baseWindow, hdue, if_true, mget_mset_self]

theorem baseWindow_rate (s : State) (path : Nat) (p : Pace) : (baseWindow s path p).rate = p.rate := by
  simp only [baseWindow]
  split
  · rfl
  · rfl

theorem utBaseWindowEnd_completes {nd ep path : Nat} (hl : Live s) (hst : (qp s n).st ≠ .free)
    (hdue : reached (mget (qp s n).pace.paths path {}).ends (elapsed s) = true) : Completes (.utBaseWindowEnd false n nd ep path) s fun t =>
      mget (qp t n).pace.paths path {} =
        { mget (qp s n).pace.paths path {} with prev := (mget (qp s n).pace.paths path {}).cur, cur := none, ends := baseEnd s } ∧
      (qp t n).pace.rate = (qp s n).pace.rate ∧ ∀ m, m ≠ n → qp t m = qp s m := by
  refine .of_act (l := [.qps]) (f := fun s => if (qp s n).st = .free then s else modQp n (Qp.nextWindow s path) s) rfl hl ?_
  dsimp only
  rw [if_neg hst]
  obtain ⟨hqp, hothers⟩ := (setsQp_modQp n (Qp.nextWindow s path) s).keep (l := [.qps]) rfl
  rw [hqp]
  exact ⟨baseWindow_paths hdue, baseWindow_rate s path _, hothers⟩

/-- A RoCE QP at a rate after a CNP: its recovery period and the least time to the next cut start again (R759). -/
def Qp.slowed (s : State) (r : Nat) (q : Qp) : Qp :=
  { q with rpDue := recoveryEnd s, pace := { q.pace with rate := r }, cnpGot := elapsed s + BitVec.ofNat 64 (obj s 0x2A01 4 50 * 16000) }

theorem utFloor_qps (a b : Nat) (s : State) : (utFloor a b s).qps = s.qps := by
  rw [utFloor]
  split
  · rfl
  · rfl

/-- A CNP whose time has come cuts the rate by its fraction, no lower than the floor. -/
theorem setsQp_cnpReceive (hroce : (qp s n).roce ≠ none) (hsends : (qp s n).sends = true) (hdue : reached (qp s n).cnpGot (elapsed s) = true) :
    SetsQp s n ((qp s n).slowed s (cutTo s ((qp s n).pace.rate - (qp s n).pace.rate * obj s 0x2A01 5 64 / 256))) (cnpReceive n s) := by
  have hsome : (qp s n).roce.isSome = true := Option.isSome_iff_ne_none.2 hroce
  have hnone : (qp s n).roce.isNone = false := Option.isNone_eq_false_iff.2 hsome
  have hdue' : reached (qp s n).cnpGot (elapsed (modQp n (fun q => { q with rpDue := recoveryEnd s }) s)) = true := hdue
  simp only [cnpReceive, hsome, hsends, hnone, hdue', Bool.and_self, Bool.not_true, Bool.or_false, Bool.false_eq_true, if_true, if_false]
  exact ((setsQp_modQp n (fun q => { q with rpDue := recoveryEnd s }) s).modQp _).of_qps (utFloor_qps _ _ _)

theorem cnpReceive_completes (hl : Live s) (hroce : (qp s n).roce ≠ none) (hsends : (qp s n).sends = true)
    (hdue : reached (qp s n).cnpGot (elapsed s) = true) : Completes (.cnpReceive n) s fun t =>
      (qp t n).pace.rate = Nat.max ((qp s n).pace.rate - (qp s n).pace.rate * obj s 0x2A01 5 64 / 256) (obj s 0x2A00 5 100) ∧
      (qp t n).pace.paths = (qp s n).pace.paths ∧ (qp t n).rpDue = recoveryEnd s ∧ ∀ m, m ≠ n → qp t m = qp s m := by
  refine .of_act (f := cnpReceive n) (l := interrupts ++ [.qps]) rfl hl ?_
  obtain ⟨hqp, hothers⟩ := (setsQp_cnpReceive hroce hsends hdue).keep (l := interrupts ++ [.qps]) rfl
  rw [hqp]
  exact ⟨rfl, rfl, rfl, hothers⟩

/-- A RoCE QP at a rate after a period without a CNP. -/
def Qp.recovered (s : State) (q : Qp) : Qp :=
  { q with rpDue := recoveryEnd s, pace := { q.pace with rate := Nat.min (q.pace.rate + obj s 0x2A01 7 5000) (lineRate s q) } }

theorem rpRecovery_completes (hl : Live s) (hroce : (qp s n).roce ≠ none) (hsends : (qp s n).sends = true)
    (hdue : reached (qp s n).rpDue (elapsed s) = true) : Completes (.rpRecovery n) s fun t =>
      (qp t n).pace.rate = Nat.min ((qp s n).pace.rate + obj s 0x2A01 7 5000) (lineRate s (qp s n)) ∧ (qp t n).rpDue = recoveryEnd s ∧
      ∀ m, m ≠ n → qp t m = qp s m := by
  have hnone : (qp s n).roce.isNone = false := Option.isNone_eq_false_iff.2 (Option.isSome_iff_ne_none.2 hroce)
  have hrun : rpRecovery n s = modQp n (Qp.recovered s) s := by
    simp only [rpRecovery, hnone, hsends, hdue]
    rfl
  refine .of_act rfl hl ?_
  rw [hrun]
  obtain ⟨hqp, hothers⟩ := (setsQp_modQp n (Qp.recovered s) s).keep (l := [.qps]) rfl
  rw [hqp]
  exact ⟨rfl, rfl, hothers⟩

end

/-! ### The obligation -/

/-- Settles O25: clause by clause, a fetched context is hot and releases no packet where none waits (R433), a slot that times out is freed and
counted once, whatever its NAK and its record count (R485), and each timer of Undertow sets one QP's record (R417, R747, R759, R760). -/
theorem contextsAndPacesFollowTheirTimers : Obligations.ContextsAndPacesFollowTheirTimers := by
  unfold Obligations.ContextsAndPacesFollowTheirTimers
  refine ⟨?_, ?_, ?_, ?_, ?_, ?_⟩
  · intro s n hl hn hfetch hst hlevel hqp hctx hcold hroom hporch
    exact contextFetchComplete_completes hl hn hfetch hst hlevel hqp hctx hcold hroom hporch
  · intro s n k x hl hx hdue
    exact proxyTimeout_completes hl hx hdue
  · intro s n nd ep hl hoff hdue
    exact detourSuspendEnd_completes hl hoff hdue
  · intro s n nd ep path hl hst hdue
    exact utBaseWindowEnd_completes hl hst hdue
  · intro s n hl hroce hsends hdue
    exact cnpReceive_completes hl hroce hsends hdue
  · intro s n hl hroce hsends hdue
    exact rpRecovery_completes hl hroce hsends hdue

end Sys2Proof.Machine

/-! ## Local reductions and codec commands over charted memory -/

namespace Sys2Proof.Machine

open Sys2Proof

/-! ### Operands of a mirrored room's command (R255) -/

theorem pinAt_some {x : Nat} {q : Nat × Bool} : ∀ {l : List (Nat × Bool)}, pinAt x l = some q → q ∈ l ∧ q.1 ≤ x
  | p :: r, h => by
    rw [pinAt] at h
    cases hr : pinAt x r with
    | none =>
      rw [hr] at h
      dsimp only at h
      split at h
      · next hp =>
        obtain rfl := Option.some.inj h
        exact ⟨List.mem_cons_self, hp⟩
      · cases h
    | some y =>
      obtain ⟨hmem, hle⟩ := pinAt_some hr
      rw [hr] at h
      dsimp only at h
      split at h
      · next hp =>
        simp only [Bool.and_eq_true, decide_eq_true_eq] at hp
        obtain rfl := Option.some.inj h
        exact ⟨List.mem_cons_self, hp.1⟩
      · obtain rfl := Option.some.inj h
        exact ⟨List.mem_cons_of_mem _ hmem, hle⟩

/-- An address belongs to an operand that is no lower than any other operand at or below the address. -/
theorem pinAt_nearest {x : Nat} {p : Nat × Bool} (hx : p.1 ≤ x) : ∀ {l : List (Nat × Bool)}, p ∈ l → ∃ q, pinAt x l = some q ∧ p.1 ≤ q.1
  | y :: r, hp => by
    rw [pinAt]
    cases hr : pinAt x r with
    | none =>
      rcases List.mem_cons.1 hp with rfl | hp
      · exact ⟨p, if_pos hx, Nat.le_refl _⟩
      · obtain ⟨q, hq, -⟩ := pinAt_nearest hx hp
        cases hr.symm.trans hq
    | some z =>
      dsimp only
      rcases List.mem_cons.1 hp with rfl | hp
      · split
        · exact ⟨p, rfl, Nat.le_refl _⟩
        · next hlow =>
          refine ⟨z, rfl, ?_⟩
          simp only [Bool.and_eq_true, decide_eq_true_eq, hx, true_and] at hlow
          omega
      · obtain ⟨q, hq, hle⟩ := pinAt_nearest hx hp
        obtain rfl := Option.some.inj (hr.symm.trans hq)
        split
        · next hlow =>
          simp only [Bool.and_eq_true, decide_eq_true_eq] at hlow
          exact ⟨y, rfl, by omega⟩
        · exact ⟨z, rfl, hle⟩

theorem operand_mirrored {r : Room} {a d : Nat} (hr : r.quotas.mirrored = true) (h : operand r a = .dva d) : d = a := by
  rw [operand, if_pos hr] at h
  split at h
  · exact (Opnd.dva.inj h).symm
  · cases h

/-- A charted operand stays charted where it is pinned as its command begins. -/
theorem Charted.pinned {s : State} {c : DCtx} {a n x : Nat} {l : List Nat} (hc : Charted s c a n x) (hp : c.pins = []) (ha : a ∈ l) :
    Charted s { c with pins := pinsOf s c.room l } a n x := by
  by_cases hm : (room s c.room).quotas.mirrored = true
  · obtain ⟨hdpa, hspace, hlow, d, lf, hop, hleaf⟩ := hc
    refine ⟨hdpa, hspace, hlow, d, lf, fun k hk => ?_, hleaf⟩
    have hOperand : ∀ j, j < n → operand (room s c.room) (a + j) = .dva (d + j) := fun j hj => by
      have h := hop j hj
      rw [opndOf, hspace, hp] at h
      exact h
    have hMem : (a, true) ∈ pinsOf s c.room l := by
      rw [pinsOf, if_pos hm]
      refine List.mem_map.2 ⟨a, ha, ?_⟩
      have h := hOperand 0 (by omega)
      rw [Nat.add_zero] at h
      rw [h]
    obtain ⟨⟨q, b⟩, hq, haq⟩ := pinAt_nearest (x := a + k) (by simp) hMem
    obtain ⟨hqMem, hqk⟩ := pinAt_some hq
    obtain ⟨j, rfl⟩ := Nat.exists_eq_add_of_le haq
    have hb : b = true := by
      rw [pinsOf, if_pos hm] at hqMem
      obtain ⟨y, -, hy⟩ := List.mem_map.1 hqMem
      obtain ⟨rfl, rfl⟩ := Prod.mk.inj hy
      rw [hOperand j (by dsimp only at hqk; omega)]
    subst hb
    rw [opndOf, hspace]
    dsimp only
    rw [hq]
    dsimp only
    rw [operand_mirrored hm (hOperand k hk)]
  · have hNone : pinsOf s c.room l = [] := if_neg hm
    rw [hNone, ← hp]
    exact hc

/-! ### The state in which the body of a command runs -/

/-- A state in which data is reached as in another one: it translates addresses alike, its memory is sound, and tier 0 holds the same bytes. -/
structure SameData (s u : State) : Prop where
  sound : Sound u
  wf : u.memWf = true
  rooms : u.rooms = s.rooms
  funcs : u.funcs = s.funcs
  queues : u.queues = s.queues
  windows : u.windows = s.windows
  tcache : u.tcache = s.tcache
  ats : u.ats = s.ats
  tier0 : ∀ x, x < 0x4000000000 → cellGet u.mem.cells x = cellGet s.mem.cells x

theorem SameData.refl {s : State} (hs : Sound s) (hw : s.memWf = true) : SameData s s :=
  ⟨hs, hw, rfl, rfl, rfl, rfl, rfl, rfl, fun _ _ => rfl⟩

section
variable {s u : State} (hd : SameData s u)
include hd

theorem SameData.setList (r : ListRec) : SameData s (setList r u) :=
  ⟨hd.sound, hd.wf, hd.rooms, hd.funcs, hd.queues, hd.windows, hd.tcache, hd.ats, hd.tier0⟩

theorem SameData.room (n : Nat) : room u n = room s n := by rw [Machine.room, Machine.room, hd.rooms]

theorem SameData.queue (fn q : Nat) : queue u fn q = queue s fn q := by rw [Machine.queue, Machine.queue, hd.queues]

theorem SameData.charted {c : DCtx} {a n x : Nat} (hc : Charted s c a n x) : Charted u c a n x := hc.of_eq hd.rooms

theorem SameData.xlateAt (hs : Sound s) (c : DCtx) (a n : Nat) (need : Need) : xlateAt u c a n need = xlateAt s c a n need := by
  have hOpnd : opndOf u c a = opndOf s c a := by simp only [opndOf, hd.room]
  have hEntry (y : Nat) : hostEntry u c.die c.fn c.pasid y = hostEntry s c.die c.fn c.pasid y := by simp only [hostEntry, hd.tcache]
  have hAts (y : Nat) : atsFind u c.fn c.pasid c.remote y = atsFind s c.fn c.pasid c.remote y := by simp only [atsFind, hd.ats]
  have hFunc : func u c.fn = func s c.fn := by simp only [func, hd.funcs]
  have hChart (d : Nat) : chartEntryAt u c.room d = chartEntryAt s c.room d := by simp only [chartEntryAt, hd.room]
  simp only [Machine.xlateAt, hOpnd, hChart, hEntry, hAts, hFunc, hd.room, anyFrozen_sound hs, anyFrozen_sound hd.sound, tableOk_sound hs,
    tableOk_sound hd.sound]

theorem SameData.resolve (hs : Sound s) (c : DCtx) (a n : Nat) (need : Need) : resolve u c a n need = resolve s c a n need := by
  rw [Machine.resolve, Machine.resolve]
  generalize n / 2 ^ 21 + 3 = fuel
  generalize 0 = off
  induction fuel generalizing a n off with
  | zero => rfl
  | succ fuel ih => simp only [resolveGo, hd.xlateAt hs, ih]

theorem SameData.tableByte (a : Nat) : tableByte u a = tableByte s a := by
  have hWord (t i : Nat) : chartWord u t i = chartWord s t i := by simp only [chartWord, hd.room, hd.rooms]
  simp only [Machine.tableByte, hWord, hd.windows]

theorem SameData.devRead {a n : Nat} (ha : a + n ≤ 0x4000000000) : devRead u a n = devRead s a n := by
  have hCell : ∀ i ∈ List.range n, cellGet u.mem.cells (a + i) = cellGet s.mem.cells (a + i) := fun i hi =>
    hd.tier0 _ (by have := List.mem_range.1 hi; omega)
  rw [Machine.devRead, Machine.devRead, cellGets, cellGets]
  split
  · exact List.map_congr_left fun i hi => by rw [hd.tableByte, hCell i hi]
  · exact List.map_congr_left hCell

end

/-- Units of the Harbour are taken outside tier 0 (R175, R197). -/
theorem SameData.takeUnits {s u : State} (hd : SameData s u) (d n : Nat) : SameData s (takeUnits d n u).2 := by
  obtain ⟨hwf, hcells⟩ := takeUnits_frame hd.wf d n
  refine ⟨?_, hwf, hd.rooms, hd.funcs, hd.queues, hd.windows, hd.tcache, hd.ats, fun x hx => ?_⟩
  · have hClear : ∀ (l : List Nat) (m : DevMem), Sound { u with mem := m } →
        Sound { u with mem := l.foldl (fun m u => clearBlocks m (unitBlock d u) 16) m } := fun l => by
      induction l with
      | nil => exact fun _ h => h
      | cons k l ih =>
        rintro m ⟨h1, h2, h3, h4, h5, h6⟩
        refine ih _ ⟨?_, ?_, ?_, h4, h5, h6⟩
        · exact congrArg _ h1
        · exact congrArg _ h2
        · exact congrArg _ h3
    exact hClear _ _ hd.sound
  · rw [hcells x fun k _ => by rw [unitBlock]; omega, hd.tier0 x hx]

/-- The body of a command runs from the record of its list, in the state in which the command began but for that record and the Harbour. -/
structure Running (s : State) (h : CmdHdr) (rm : Nat) (r : ListRec) (u : State) : Prop where
  data : SameData s u
  found : findList u h.fn h.queue h.list = some r
  others : ∀ x ∈ u.lists, (x.fn, x.queue, x.list) ≠ (h.fn, h.queue, h.list) → x ∈ s.lists
  room : r.room = (listOf s h rm).room
  onTile : r.st = .onTile
  unbegun : r.prog = none
  tile : r.tile = (listOf s h rm).tile
  die : r.die = (listOf s h rm).die

theorem mem_putList {r x : ListRec} : ∀ {l : List ListRec}, x ∈ putList r l → x = r ∨ x ∈ l
  | [], hx => .inl (List.mem_singleton.1 hx)
  | y :: l, hx => by
    rw [putList] at hx
    split at hx
    · exact (List.mem_cons.1 hx).imp_right (List.mem_cons_of_mem _)
    · rcases List.mem_cons.1 hx with rfl | hx
      · exact .inr List.mem_cons_self
      · exact (mem_putList hx).imp_right (List.mem_cons_of_mem _)

section
variable {s u : State} {h : CmdHdr} {op cls rm : Nat} {own : State → Room → Option Nat} {r : ListRec}

theorem running_setList (hd : SameData s u) (hl : ∀ x ∈ u.lists, (x.fn, x.queue, x.list) ≠ (h.fn, h.queue, h.list) → x ∈ s.lists)
    (hn : r.fn = h.fn ∧ r.queue = h.queue ∧ r.list = h.list) (hr : r.room = (listOf s h rm).room) (hst : r.st = .onTile) (hp : r.prog = none)
    (ht : r.tile = (listOf s h rm).tile) (hdie : r.die = (listOf s h rm).die) : Running s h rm r (setList r u) := by
  obtain ⟨hfn, hq, hlist⟩ := hn
  refine ⟨hd.setList r, findList_setList_of r u hfn hq hlist, fun x hx hne => ?_, hr, hst, hp, ht, hdie⟩
  rcases mem_putList hx with rfl | hx
  · rw [hfn, hq, hlist] at hne
    exact absurd rfl hne
  · exact hl x hx hne

theorem running_begun (hb : Begins s h op cls own rm) (hs : Sound s) (hw : s.memWf = true) : Running s h rm (begun s h op rm) (begunState s h op rm) := by
  obtain ⟨-, -, -, -, -, -, hprog, -, -⟩ := hb
  exact running_setList (.refl hs hw) (fun x hx _ => hx) ⟨begun_fn s h op rm, begun_queue s h op rm, begun_list s h op rm⟩ rfl rfl hprog rfl rfl

section
variable (hr : Running s h rm r u)
include hr

theorem Running.names : r.fn = h.fn ∧ r.queue = h.queue ∧ r.list = h.list := findList_some hr.found

theorem Running.ctx : cmdCtx u h r = { cmdCtx s h (listOf s h rm) with pins := r.pins } := by
  simp only [cmdCtx, hr.data.queue, hr.room, hr.tile, hr.die]

/-- The operands of a command that begins are pinned first (R246, R255). -/
theorem Running.runs_withPins (hp : r.pins = []) (l : List Nat) (body : ListRec → State → CEnd × State) :
    ∃ v, withPins l body r u = body { r with pins := pinsOf s r.room l } v ∧ v.mem = u.mem ∧ Running s h rm { r with pins := pinsOf s r.room l } v := by
  have hPins : pinsOf u r.room l = pinsOf s r.room l := by simp only [pinsOf, hr.data.room]
  rw [withPins, hPins]
  by_cases hNone : pinsOf s r.room l = []
  · have hSame : { r with pins := pinsOf s r.room l } = r := by rw [hNone, ← hp]
    refine ⟨u, ?_, rfl, ?_⟩
    · simp only [hSame]
      rw [if_pos (by simp [hNone])]
    · rw [hSame]
      exact hr
  · refine ⟨_, if_neg (by simp [hp, hNone]), rfl, ?_⟩
    exact running_setList hr.data hr.others hr.names hr.room hr.onTile hr.unbegun hr.tile hr.die

/-- A command that needs Harbour units and is granted them holds them from then on (R656, R1141). -/
theorem Running.runs_withUnits {n : Nat} (hn : n ≠ 0) (hnone : r.hunits = [])
    (hask : askUnits (listDie r) r.room { fn := h.fn, queue := h.queue, list := h.list, units := n } u = (true, u))
    (body : ListRec → State → CEnd × State) :
    ∃ v, withUnits n h body r u = body { r with hunits := (takeUnits (listDie r) n u).1 } v ∧ v.mem = (takeUnits (listDie r) n u).2.mem ∧
      Running s h rm { r with hunits := (takeUnits (listDie r) n u).1 } v := by
  refine ⟨setList { r with hunits := (takeUnits (listDie r) n u).1 } (takeUnits (listDie r) n u).2, ?_, rfl, ?_⟩
  · rw [withUnits, if_neg (by rw [hnone, List.length_nil]; omega), hask]
    rfl
  · exact running_setList (hr.data.takeUnits _ n) hr.others hr.names hr.room hr.onTile hr.unbegun hr.tile hr.die

end
end

/-! ### Operands of a command whose body runs -/

section
variable {s u : State} {h : CmdHdr} {rm : Nat} {r : ListRec} {ops : List Nat} {a n y : Nat}

/-- The context in which the body of a command of pinned operands reaches its data. -/
theorem Running.pinnedCtx (hr : Running s h rm r u) (hp : r.pins = pinsOf s r.room ops) :
    cmdCtx u h r = { cmdCtx s h (listOf s h rm) with pins := pinsOf s (cmdCtx s h (listOf s h rm)).room ops } := by
  rw [hr.ctx, hp, hr.room]
  rfl

variable (hr : Running s h rm r u) (hp : r.pins = pinsOf s r.room ops) (hnone : (listOf s h rm).pins = []) (ha : a ∈ ops)
  (hc : Charted s (cmdCtx s h (listOf s h rm)) a n y)
include hr hp hnone ha hc

theorem Running.charted : Charted u (cmdCtx u h r) a n y := by
  rw [hr.pinnedCtx hp]
  exact hr.data.charted (hc.pinned hnone ha)

/-- A charted operand resolves as it does for the list before the command. -/
theorem Running.resolve_operand (hs : Sound s) (hn : 0 < n) : resolve u (cmdCtx u h r) a n .read = resolve s (cmdCtx s h (listOf s h rm)) a n .read := by
  rw [resolve_charted hr.data.sound (hr.charted hp hnone ha hc) hn (.inl rfl), resolve_charted hs hc hn (.inl rfl)]

theorem Running.peek_operand (hn : 0 < n) : peekData u { cmdCtx u h r with acc := 5 } a n .read = devRead s y n := by
  rw [peekData_charted hr.data.sound ((hr.charted hp hnone ha hc).acc 5) hn, hr.data.devRead hc.2.2.1]

end

/-! ### Other commands of the room (R637, R676) -/

theorem opsMeetIn_congr {s u : State} {c c' d d' : DCtx} {x y : Nat × Nat} (hx : resolve u c' x.1 x.2 .read = resolve s c x.1 x.2 .read)
    (hy : resolve u d' y.1 y.2 .read = resolve s d y.1 y.2 .read) : opsMeetIn u c' d' x y = opsMeetIn s c d x y := by
  rw [opsMeetIn, opsMeetIn, hx, hy]

theorem progsClash_eq_false {s : State} {c d : DCtx} {p q : Prog} : progsClash s c d p q = false ↔
    (∀ x ∈ p.prot, ∀ y ∈ q.uses, opsMeetIn s c d x y = false) ∧ ∀ y ∈ q.prot, ∀ x ∈ p.uses, opsMeetIn s d c y x = false := by
  simp only [progsClash, Bool.or_eq_false_iff, List.any_eq_false, List.any_eq_true, not_exists, not_and, Bool.not_eq_true]

section
variable {s u : State} {h : CmdHdr} {rm : Nat} {r : ListRec} {p : Prog}

/-- A command that no other one disturbs goes on in the state it is in. -/
theorem Running.undisturbed (hr : Running s h rm r u) (hs : Sound s) (hroom : (listOf s h rm).room = rm) (ha : Apart s h rm p) {m : Bool}
    (hops : ∀ y, y ∈ p.prot ∨ y ∈ p.uses →
      resolve u (cmdCtx u h r) y.1 y.2 .read = resolve s (cmdCtx s h (listOf s h rm)) y.1 y.2 .read) :
    watchOthers (cmdCtx u h r) r p m u = (p.wild || m, u) := by
  obtain ⟨hfn, hq, hlist⟩ := hr.names
  refine if_neg ?_
  rw [List.any_eq_true]
  rintro ⟨x, hx, hHit⟩
  split at hHit
  · next q y hprog hcur =>
    simp only [Bool.and_eq_true, beq_iff_eq, Bool.not_eq_true', Bool.and_eq_false_iff, beq_eq_false_iff_ne] at hHit
    obtain ⟨⟨hSame, hOther⟩, hClash⟩ := hHit
    have hKey : (x.fn, x.queue, x.list) ≠ (h.fn, h.queue, h.list) := by
      rw [hfn, hq, hlist] at hOther
      simp only [ne_eq, Prod.mk.injEq, not_and]
      tauto
    have hApart := ha x (hr.others x hx hKey) q y hprog hcur (by rw [hSame, hr.room, hroom]) hKey
    have hCtx : cmdCtx u y.1 x = cmdCtx s y.1 x := by rw [cmdCtx, cmdCtx, hr.data.queue]
    rw [progsClash_eq_false] at hApart
    obtain ⟨hProt, hUses⟩ := hApart
    refine Bool.false_ne_true (Eq.trans (progsClash_eq_false.2 ⟨fun a ha b hb => ?_, fun b hb a ha => ?_⟩).symm hClash)
    · rw [hCtx, ← hProt a ha b hb]
      exact opsMeetIn_congr (hops a (.inl ha)) (hr.data.resolve hs _ _ _ _)
    · rw [hCtx, ← hUses b hb a ha]
      exact opsMeetIn_congr (hr.data.resolve hs _ _ _ _) (hops a (.inr ha))
  · cases hHit

end

/-! ### How a command that stores its result completes -/

/-- Accesses that leave memory as it was leave it sound. -/
theorem AsWas.sound {s t : State} (h : AsWas s t) (hm : t.mem = s.mem) (hs : Sound s) : Sound t := by
  obtain ⟨-, -, hErrs, -⟩ := h
  exact hs.of_eq hm (by rw [hErrs])

/-- A write to a charted range, after other accesses to data, stores its bytes; the memory stays sound. -/
theorem writeEff_after {u w : State} {x : DCtx} {a n y : Nat} {d : List Byte} (hs : Sound w) (hk : AsWas u w) (hc : Charted u x a n y)
    (hl : d.length = n) (hn : 0 < n) : (writeEff { x with acc := 6 } a d w).mem = memStore w.mem y d ∧
      AsWas u (writeEff { x with acc := 6 } a d w) ∧ Sound (writeEff { x with acc := 6 } a d w) := by
  subst hl
  obtain ⟨hRooms, -⟩ := id hk
  obtain ⟨hMem, hKept⟩ := writeEff_charted (c := { x with acc := 6 }) hs ((hc.of_eq hRooms).acc 6) hn
  obtain ⟨-, -, hErrs, -⟩ := id hKept
  exact ⟨hMem, hk.trans hKept, hs.memStore hMem (by rw [hErrs])⟩

section
variable {cmd : Instr} {s : State} {h : CmdHdr} {op cls rm : Nat} {own : State → Room → Option Nat} {body : ListRec → State → CEnd × State}
  {P : DevMem → Prop}

/-- A body comes to its end in a state of a memory, with the record of its list as it runs. -/
def EndsWith (h : CmdHdr) (x : CEnd × State) (P : DevMem → Prop) : Prop :=
  (∃ f n, x.1 = { detail := f, bytes := n }) ∧ P x.2.mem ∧ ∃ r, findList x.2 h.fn h.queue h.list = some r ∧ r.st = .onTile

theorem Completes.of_body (hc : exec cmd s = act transfers (engine h op cls own body) s) (hp : Plain h) (ho : op ≠ 3) (hb : Begins s h op cls own rm)
    (hbody : EndsWith h (body (begun s h op rm) (begunState s h op rm)) P) : Completes cmd s fun t => P t.mem ∧ MovedOn t h := by
  obtain ⟨⟨f, n, hEnd⟩, hMem, r, hFound, hSt⟩ := hbody
  obtain ⟨hfn, hq, hlist⟩ := findList_some hFound
  obtain ⟨-, hWait, hEpoch, -⟩ := id hp
  refine .of_act hc hb.1 ?_
  rw [engine_begins hWait hEpoch hb, hEnd, hFound, Option.getD_some, endCmd_plain_of hp ho r rfl rfl rfl rfl rfl]
  exact ⟨hMem, _, findList_setList_of _ _ hfn hq hlist, hSt, rfl, rfl, rfl⟩

end

/-! ### Arrays of elements (R646, R648) -/

theorem length_unpack (w n : Nat) (l : List Byte) : (unpack w n l).length = n := by rw [unpack, List.length_map, List.length_range]

theorem length_pack (w : Nat) (l : List Nat) : (pack w l).length = (w * l.length + 7) / 8 := length_leBytes _ _

/-- Elements of the formats without a scale take whole bytes. -/
theorem fmtBits_plain : ∀ {c : Nat}, isMx c = false → fmtBits c = 8 ∨ fmtBits c = 16 ∨ fmtBits c = 32
  | 0, _ | 12, _ | _ + 13, _ => .inr (.inr rfl)
  | 1, _ | 2, _ => .inr (.inl rfl)
  | 3, _ | 4, _ | 11, _ => .inl rfl

theorem fmtBytes_plain {c : Nat} (hc : isMx c = false) (n : Nat) : fmtBytes c n = n * fmtBits c / 8 := by
  rw [fmtBytes]
  rcases fmtBits_plain hc with h | h | h <;> rw [h] <;> omega

theorem fmtBytes_pos {c n : Nat} (hc : isMx c = false) (hn : 0 < n) : 0 < fmtBytes c n := by
  rw [fmtBytes]
  rcases fmtBits_plain hc with h | h | h <;> rw [h] <;> omega

theorem length_pack_plain {c : Nat} {l : List Nat} {n : Nat} (hl : l.length = n) : (pack (fmtBits c) l).length = fmtBytes c n := by
  rw [length_pack, hl, fmtBytes]

theorem blockLen_single {n : Nat} (hn : n ≤ 32) : blockLen n 0 = n := Nat.min_eq_right hn

theorem blockAt_first (fmt a : Nat) : blockAt fmt a 0 = a := rfl

theorem blocks_single {n : Nat} (h0 : 0 < n) (hn : n ≤ 32) : (n + 31) / 32 = 1 := by omega

/-! ### The data of a local reduction (R507, R517, R521, R525) -/

/-- The exponent of the only block of a local reduction: none in float mode. -/
def soleExp (s : State) (x : DCtx) (c : FwsCtrl) (b : BulkArgs) : Nat :=
  if c.float then 0 else (srcExps s x c.inFmt b.count b.srcs 0 1).getD 0 0

/-- The elements of the only block of a local reduction after their final conversion. -/
def soleFinals (s : State) (x : DCtx) (c : FwsCtrl) (b : BulkArgs) : List (Nat × Flags) :=
  (srcElems s x c b.count b.srcs (soleExp s x c b) 0).zipIdx.map fun v => finalElem c (soleExp s x c b) v.2 v.1

/-- The codes that a local reduction of one block stores. -/
def soleCodes (s : State) (x : DCtx) (c : FwsCtrl) (b : BulkArgs) : List Nat := (soleFinals s x c b).map fun y => y.1

theorem length_blockElems (c : FwsCtrl) (g : Nat) (p : List Nat × Nat) : (blockElems c g p).length = p.1.length := by
  rw [blockElems]
  split <;> simp [blockVals]

theorem length_foldRuns (c : FwsCtrl) {n : Nat} : ∀ (l : List (List Int)) (a : List Int), a.length = n → (∀ x ∈ l, x.length = n) →
    (l.foldl (foldRun c) a).length = n
  | [], _, ha, _ => ha
  | x :: l, a, ha, hl => by
    have hx : (foldRun c a x).length = n := by simp [foldRun, ha, hl x List.mem_cons_self]
    exact length_foldRuns c l _ hx fun y hy => hl y (List.mem_cons_of_mem _ hy)

theorem length_srcElems (s : State) (x : DCtx) (c : FwsCtrl) {count : Nat} (hn : count ≤ 32) {srcs : List Nat} (hs : srcs ≠ []) (g : Nat) :
    (srcElems s x c count srcs g 0).length = count := by
  have hLen (a : Nat) : (blockElems c g (srcBlock s x c.inFmt count a 0)).length = count := by
    rw [length_blockElems, srcBlock, length_unpack, blockLen_single hn]
  cases srcs with
  | nil => exact absurd rfl hs
  | cons a l =>
    refine length_foldRuns c _ _ (hLen a) fun y hy => ?_
    obtain ⟨b, -, rfl⟩ := List.mem_map.1 hy
    exact hLen b

/-- Sources that read alike are reduced alike. -/
theorem soleFinals_congr {s u : State} {x y : DCtx} {c : FwsCtrl} {b : BulkArgs}
    (h : ∀ a ∈ b.srcs, srcBlock u y c.inFmt b.count a 0 = srcBlock s x c.inFmt b.count a 0) : soleFinals u y c b = soleFinals s x c b := by
  have hExp : soleExp u y c b = soleExp s x c b := by
    have hFold : srcExps u y c.inFmt b.count b.srcs 0 1 = srcExps s x c.inFmt b.count b.srcs 0 1 :=
      congrArg (fun n => [n]) (List.foldl_ext _ _ _ fun m a ha => by rw [Nat.zero_add, h a ha])
    rw [soleExp, soleExp, hFold]
  have hElems (g : Nat) : srcElems u y c b.count b.srcs g 0 = srcElems s x c b.count b.srcs g 0 := by
    have hMap : b.srcs.map (fun a => blockElems c g (srcBlock u y c.inFmt b.count a 0)) =
        b.srcs.map (fun a => blockElems c g (srcBlock s x c.inFmt b.count a 0)) := List.map_congr_left fun a ha => by rw [h a ha]
    rw [srcElems, srcElems, hMap]
  rw [soleFinals, soleFinals, hExp, hElems]

/-- A block of a source without a scale is its elements. -/
theorem srcBlock_plain {s : State} {x : DCtx} {fmt count a : Nat} (hf : isMx fmt = false) (hn : count ≤ 32) :
    srcBlock s x fmt count a 0 = (unpack (fmtBits fmt) count (peekData s { x with acc := 5 } a (fmtBytes fmt count) .read), 0) := by
  rw [srcBlock, blockLen_single hn, hf]
  rfl

/-! ### RDC_LOCAL_REDUCE (R541 to R547) -/

theorem fwsBad_none {w : Nat} {seed : Word} {f : Bool} (h6 : fwsBad w seed f ≠ some 6) (h1 : fwsBad w seed f ≠ some 1) (h4 : fwsBad w seed f ≠ some 4) :
    isMx (fwsOf w seed).outFmt = false := by
  simp only [fwsBad] at h6 h1 h4
  split at h4
  · next h => exact absurd (if_pos h) h6
  · next hf =>
    rw [if_neg hf] at h1
    split at h4
    · next h => exact absurd (if_pos h) h1
    · split at h4
      · exact absurd rfl h4
      · next h =>
        simp only [Bool.or_eq_true, not_or, decide_eq_true_eq] at h
        obtain ⟨⟨⟨-, hOut⟩, -⟩, -⟩ := h
        rw [isMx, decide_eq_false hOut, Bool.false_and]

/-- What a local reduction that is well formed gives: sources, elements, and an output format without a scale (R503, R542, R543). -/
theorem localBad_none {h : CmdHdr} {b : BulkArgs} {s : State} {r : Room} (hb : localBad h b s r = none) :
    isMx (fwsOf b.ctrl b.seed).outFmt = false ∧ b.srcs ≠ [] ∧ 0 < b.count := by
  simp only [localBad, firstBadOf_cons_none, Bool.or_eq_false_iff, beq_eq_false_iff_ne, List.isEmpty_eq_false_iff] at hb
  obtain ⟨h6, -, h1, -, ⟨⟨⟨⟨h4, hsrcs⟩, -⟩, hcount⟩, -⟩, -⟩ := hb
  exact ⟨fwsBad_none h6 h1 h4, hsrcs, Nat.pos_of_ne_zero hcount⟩

/-- The reads of the only block of a local reduction. -/
def soleReads (c : FwsCtrl) (b : BulkArgs) : List (Bool × Nat × Nat) := b.srcs.flatMap (srcAccess c.inFmt b.count 0 1 b.count)

/-- The state after these reads. -/
def soleLoaded (u : State) (x : DCtx) (c : FwsCtrl) (b : BulkArgs) : State := (soleReads c b).foldl (fun s y => loadEff x y.2.1 y.2.2 s) u

/-- A state differs from another one in its counters alone. -/
def Counted (s t : State) : Prop := ∃ k, t = { s with cnt := k }

theorem Counted.refl (s : State) : Counted s s := ⟨s.cnt, rfl⟩

theorem Counted.bumpBy {s t : State} (h : Counted s t) (off n : Nat) : Counted s (bumpBy off n t) := by
  obtain ⟨k, rfl⟩ := h
  exact ⟨_, rfl⟩

section
variable {u : State} {x : DCtx} {c : FwsCtrl} {b : BulkArgs} {z : Nat}

theorem soleReads_charted (h0 : 0 < b.count) (hin : isMx c.inFmt = false) (hsrc : ∀ a ∈ b.srcs, ∃ y, Charted u x a (fmtBytes c.inFmt b.count) y) :
    ∀ y ∈ soleReads c b, y.1 = false ∧ 0 < y.2.2 ∧ ∃ v, Charted u x y.2.1 y.2.2 v := by
  intro y hy
  obtain ⟨a, ha, hy⟩ := List.mem_flatMap.1 hy
  rw [srcAccess, hin, if_neg Bool.false_ne_true, List.append_nil, List.mem_singleton] at hy
  subst hy
  exact ⟨rfl, fmtBytes_pos hin h0, hsrc a ha⟩

theorem soleLoaded_asWas (hs : Sound u) (h : ∀ y ∈ soleReads c b, y.1 = false ∧ 0 < y.2.2 ∧ ∃ v, Charted u x y.2.1 y.2.2 v) :
    (soleLoaded u x c b).mem = u.mem ∧ AsWas u (soleLoaded u x c b) := by
  have hLoads : soleLoaded u x c b = (soleReads c b).foldl (fun s y => if y.1 then s else loadEff x y.2.1 y.2.2 s) u :=
    List.foldl_ext _ _ _ fun t y hy => by rw [(h y hy).1]; rfl
  rw [hLoads]
  exact loads_charted hs fun y hy => (h y hy).2

/-- A local reduction of one block whose accesses nothing stops writes its codes; beside that it counts. -/
theorem localGo_block (hn : b.count ≤ 32) (hnorm : b.norm = 0)
    (ha : firstAccess u x (soleReads c b ++ [(true, b.dst, b.count * fmtBits c.outFmt / 8)]) = none)
    (r : ListRec) {p : Prog} (hp : p.next = 0) (hw : p.wild = false) : (∃ f n, (localGo c b x r 1 p u).1 = { detail := f, bytes := n }) ∧
      Counted (writeEff { x with acc := 6 } b.dst (pack (fmtBits c.outFmt) (soleCodes u x c b)) (soleLoaded u x c b)) (localGo c b x r 1 p u).2 := by
  have hDst : b.dst + 32 * 0 * fmtBits c.outFmt / 8 = b.dst := by rw [Nat.mul_zero, Nat.zero_mul, Nat.zero_div, Nat.add_zero]
  have hCodes : ((srcElems u x c b.count b.srcs (soleExp u x c b) 0).zipIdx.map fun v => finalElem c (soleExp u x c b) (32 * 0 + v.2) v.1).map
      (fun y => y.1) = soleCodes u x c b := by simp only [Nat.mul_zero, Nat.zero_add]; rfl
  rw [soleReads] at ha
  rw [localGo, hp, blockLen_single hn, hDst, ha]
  dsimp only
  rw [localGo, if_pos hnorm, hw, ← hCodes]
  exact ⟨⟨_, _, rfl⟩, (((Counted.refl _).bumpBy _ _).bumpBy _ _).bumpBy _ _⟩

/-- Over charted memory it stores them at its destination. -/
theorem localGo_single (hs : Sound u) (h0 : 0 < b.count) (hn : b.count ≤ 32) (hnorm : b.norm = 0) (hin : isMx c.inFmt = false)
    (hout : isMx c.outFmt = false) (hne : b.srcs ≠ []) (hsrc : ∀ a ∈ b.srcs, ∃ y, Charted u x a (fmtBytes c.inFmt b.count) y)
    (hdst : Charted u x b.dst (fmtBytes c.outFmt b.count) z) (r : ListRec) {p : Prog} (hp : p.next = 0) (hw : p.wild = false) :
    (∃ f n, (localGo c b x r 1 p u).1 = { detail := f, bytes := n }) ∧
      (localGo c b x r 1 p u).2.mem = memStore u.mem z (pack (fmtBits c.outFmt) (soleCodes u x c b)) ∧ (localGo c b x r 1 p u).2.lists = u.lists := by
  have hReads := soleReads_charted h0 hin hsrc
  have hAccess : firstAccess u x (soleReads c b ++ [(true, b.dst, b.count * fmtBits c.outFmt / 8)]) = none := by
    refine firstAccess_charted hs fun y hy => ?_
    rcases List.mem_append.1 hy with hy | hy
    · exact (hReads y hy).2
    · rw [List.mem_singleton.1 hy, ← fmtBytes_plain hout]
      exact ⟨fmtBytes_pos hout h0, z, hdst⟩
  obtain ⟨hMem, hKept⟩ := soleLoaded_asWas hs hReads
  have hLen : (pack (fmtBits c.outFmt) (soleCodes u x c b)).length = fmtBytes c.outFmt b.count :=
    length_pack_plain (by rw [soleCodes, soleFinals, List.length_map, List.length_map, List.length_zipIdx, length_srcElems u x c hn hne])
  obtain ⟨hEnd, k, hBlock⟩ := localGo_block (u := u) (x := x) (c := c) hn hnorm hAccess r hp hw
  obtain ⟨hStored, ⟨-, hLists, -⟩, -⟩ := writeEff_after (hKept.sound hMem hs) hKept hdst hLen (fmtBytes_pos hout h0)
  rw [hMem] at hStored
  rw [hBlock]
  exact ⟨hEnd, hStored, hLists⟩

end

theorem own_of_begins {s : State} {h : CmdHdr} {op cls rm : Nat} {own : State → Room → Option Nat} (hb : Begins s h op cls own rm) :
    own s (room s rm) = none := by
  obtain ⟨-, -, -, -, -, -, -, -, hBad⟩ := hb
  exact own_of_cmdBad hBad

theorem pins_of_begins {s : State} {h : CmdHdr} {op cls rm : Nat} {own : State → Room → Option Nat} (hb : Begins s h op cls own rm) :
    (listOf s h rm).pins = [] := by
  obtain ⟨-, -, -, -, -, -, -, hPins, -⟩ := hb
  exact hPins

/-- The body of RDC_LOCAL_REDUCE. -/
def localBody (h : CmdHdr) (b : BulkArgs) (r : ListRec) (u : State) : CEnd × State :=
  let c := fwsOf b.ctrl b.seed
  let x := cmdCtx u h r
  let p := r.prog.getD { next := 0, uses := [(b.dst, fmtBytes c.outFmt b.count)] }
  let y := watchOthers x r p (localMeets u x c b) u
  wildEnd y.1 (localGo c b x r ((b.count + 31) / 32 - p.next) { p with wild := y.1 } y.2)

theorem rdcLocalReduce_eq (h : CmdHdr) (b : BulkArgs) :
    rdcLocalReduce h b = engine h 0x23 1 (localBad h b) (withPins (b.dst :: b.norm :: b.srcs) (localBody h b)) := rfl

section
variable {s u : State} {h : CmdHdr} {b : BulkArgs} {rm z : Nat} {r : ListRec} {c : FwsCtrl}
  (hr : Running s h rm r u) (hp : r.pins = pinsOf s r.room (b.dst :: b.norm :: b.srcs)) (hnone : (listOf s h rm).pins = []) (hs : Sound s)
  (h0 : 0 < b.count) (hin : isMx c.inFmt = false) (hout : isMx c.outFmt = false)
  (hsrc : ∀ a ∈ b.srcs, ∃ y, Charted s (cmdCtx s h (listOf s h rm)) a (fmtBytes c.inFmt b.count) y)
  (hdst : Charted s (cmdCtx s h (listOf s h rm)) b.dst (fmtBytes c.outFmt b.count) z)
include hr hp hnone hs h0 hin hsrc

/-- A local reduction that runs reads its sources as they stood when it began. -/
theorem Running.soleCodes (hn : b.count ≤ 32) : soleCodes u (cmdCtx u h r) c b = Machine.soleCodes s (cmdCtx s h (listOf s h rm)) c b := by
  have hIn : 0 < fmtBytes c.inFmt b.count := fmtBytes_pos hin h0
  rw [Machine.soleCodes, Machine.soleCodes, soleFinals_congr fun a ha => ?_]
  obtain ⟨y, hy⟩ := hsrc a ha
  rw [srcBlock_plain hin hn, srcBlock_plain hin hn, peekData_charted hs (hy.acc 5) hIn,
    hr.peek_operand hp hnone (List.mem_cons_of_mem _ (List.mem_cons_of_mem _ ha)) hy hIn]

include hout hdst

/-- Its destination meets a source only where it does so before it begins. -/
theorem Running.localMeets (hm : localMeets s (cmdCtx s h (listOf s h rm)) c b = false) : localMeets u (cmdCtx u h r) c b = false := by
  have hLen : srcLen c.inFmt b.count = fmtBytes c.inFmt b.count := if_neg (by rw [hin]; exact Bool.false_ne_true)
  rw [Machine.localMeets, hLen, List.any_eq_false] at hm ⊢
  intro a ha
  obtain ⟨y, hy⟩ := hsrc a ha
  have hSame := opsMeetIn_congr (x := (b.dst, fmtBytes c.outFmt b.count)) (y := (a, fmtBytes c.inFmt b.count))
    (hr.resolve_operand hp hnone List.mem_cons_self hdst hs (fmtBytes_pos hout h0))
    (hr.resolve_operand hp hnone (List.mem_cons_of_mem _ (List.mem_cons_of_mem _ ha)) hy hs (fmtBytes_pos hin h0))
  rw [opsMeet, hSame]
  exact hm a ha

end

section
variable {s u : State} {h : CmdHdr} {b : BulkArgs} {rm z : Nat} {r : ListRec}

/-- A record of a list that runs is the one that the body's end finds, where the body leaves the lists as they were. -/
theorem Running.endsWith {x : CEnd × State} {P : DevMem → Prop} (hr : Running s h rm r u) (he : ∃ f n, x.1 = { detail := f, bytes := n })
    (hP : P x.2.mem) (hl : x.2.lists = u.lists) : EndsWith h x P := by
  refine ⟨he, hP, r, ?_, hr.onTile⟩
  rw [findList, hl]
  exact hr.found

/-- The body of a local reduction of one block, which nothing disturbs, stores the reduction of its sources. -/
theorem Running.localBody (hr : Running s h rm r u) (hp : r.pins = pinsOf s r.room (b.dst :: b.norm :: b.srcs))
    (hnone : (listOf s h rm).pins = []) (hs : Sound s) (hroom : (listOf s h rm).room = rm)
    (hapart : Apart s h rm { next := 0, uses := [(b.dst, fmtBytes (fwsOf b.ctrl b.seed).outFmt b.count)] })
    (hbad : isMx (fwsOf b.ctrl b.seed).outFmt = false ∧ b.srcs ≠ [] ∧ 0 < b.count) (hn : b.count ≤ 32) (hnorm : b.norm = 0)
    (hin : isMx (fwsOf b.ctrl b.seed).inFmt = false)
    (hmeets : Machine.localMeets s (cmdCtx s h (listOf s h rm)) (fwsOf b.ctrl b.seed) b = false)
    (hsrc : ∀ a ∈ b.srcs, ∃ y, Charted s (cmdCtx s h (listOf s h rm)) a (fmtBytes (fwsOf b.ctrl b.seed).inFmt b.count) y)
    (hdst : Charted s (cmdCtx s h (listOf s h rm)) b.dst (fmtBytes (fwsOf b.ctrl b.seed).outFmt b.count) z) :
    EndsWith h (localBody h b r u) fun m => m = memStore u.mem z
      (pack (fmtBits (fwsOf b.ctrl b.seed).outFmt) (Machine.soleCodes s (cmdCtx s h (listOf s h rm)) (fwsOf b.ctrl b.seed) b)) := by
  obtain ⟨hout, hne, h0⟩ := hbad
  have hQuiet := hr.undisturbed hs hroom hapart (m := false) fun y hy => by
    obtain rfl := List.mem_singleton.1 (hy.resolve_left List.not_mem_nil)
    exact hr.resolve_operand hp hnone List.mem_cons_self hdst hs (fmtBytes_pos hout h0)
  have hRun := localGo_single hr.data.sound h0 hn hnorm hin hout hne
    (fun a ha => (hsrc a ha).imp fun y hy => hr.charted hp hnone (List.mem_cons_of_mem _ (List.mem_cons_of_mem _ ha)) hy)
    (hr.charted hp hnone List.mem_cons_self hdst) r (p := { next := 0, uses := [(b.dst, fmtBytes (fwsOf b.ctrl b.seed).outFmt b.count)] }) rfl rfl
  obtain ⟨hEnd, hMem, hLists⟩ := hRun
  rw [Machine.localBody, hr.unbegun, Option.getD_none, hr.localMeets hp hnone hs h0 hin hout hsrc hdst hmeets, hQuiet, blocks_single h0 hn]
  rw [hr.soleCodes hp hnone hs h0 hin hsrc hn] at hMem
  exact hr.endsWith hEnd hMem hLists

theorem rdcLocalReduce_completes (hp : Plain h) (hb : Begins s h 0x23 1 (localBad h b) rm) (hs : Sound s) (hroom : (listOf s h rm).room = rm)
    (hapart : Apart s h rm { next := 0, uses := [(b.dst, fmtBytes (fwsOf b.ctrl b.seed).outFmt b.count)] }) (hw : s.memWf = true)
    (hn : b.count ≤ 32) (hnorm : b.norm = 0) (hin : isMx (fwsOf b.ctrl b.seed).inFmt = false)
    (hmeets : localMeets s (cmdCtx s h (listOf s h rm)) (fwsOf b.ctrl b.seed) b = false)
    (hsrc : ∀ a ∈ b.srcs, ∃ y, Charted s (cmdCtx s h (listOf s h rm)) a (fmtBytes (fwsOf b.ctrl b.seed).inFmt b.count) y)
    (hdst : Charted s (cmdCtx s h (listOf s h rm)) b.dst (b.count * fmtBits (fwsOf b.ctrl b.seed).outFmt / 8) z) :
    Completes (.rdcLocalReduce h b) s fun t =>
      Lands s t z (pack (fmtBits (fwsOf b.ctrl b.seed).outFmt) (soleCodes s (cmdCtx s h (listOf s h rm)) (fwsOf b.ctrl b.seed) b)) ∧ MovedOn t h := by
  have hbad := localBad_none (own_of_begins hb)
  rw [← fmtBytes_plain hbad.1] at hdst
  obtain ⟨v, hBody, hMem, hPinned⟩ := (running_begun hb hs hw).runs_withPins (pins_of_begins hb) (b.dst :: b.norm :: b.srcs) (localBody h b)
  have hEnds := hPinned.localBody rfl (pins_of_begins hb) hs hroom hapart hbad hn hnorm hin hmeets hsrc hdst
  rw [← hBody, hMem] at hEnds
  exact (Completes.of_body rfl hp (by decide) hb hEnds).imp fun t ⟨hStored, hMoved⟩ =>
    ⟨Overlaid.lands (hStored ▸ overlaid_memStore (wf_of_memWf hw) z _), hMoved⟩

end

/-! ### The data of a codec command (R657, R668 to R671) -/

/-- How the element of a place is rounded to its code (R658). -/
def cdcRnd (c : CdcArgs) (i : Nat) : Rnd := if c.round then .sr (cdcDraw c i % 65536) else .even

/-- The codes of values in a format without a scale. -/
def cdcCodes (c : CdcArgs) (vals : List FV) : List Nat := vals.zipIdx.map fun v => (plainCode c.outFmt c.ovf (cdcRnd c v.2) v.1).1

/-- The values that a conversion or dequantisation encodes, from the bytes of its source. -/
def convValues (c : CdcArgs) (src : List Byte) : List FV := (unpack (fmtBits c.inFmt) c.count src).map fun k => (elemValue c.inFmt k).mul (f32 c.mul)

/-- The sums that a quantisation with error feedback encodes, from the bytes of its source and of its residuals (R668). -/
def efValues (c : CdcArgs) (src old : List Byte) : List FV :=
  ((unpack (fmtBits c.inFmt) c.count src).zip (unpack (8 * resSz c) c.count old)).map fun p =>
    FV.fma fp32 (elemValue c.inFmt p.1) (f32 c.mul) ((if c.auxFmt = 1 then bf16 else fp32).value p.2)

/-- The residuals that the codes of these sums leave (R669). -/
def efResiduals (c : CdcArgs) (vals : List FV) : List Nat := (vals.zip (cdcCodes c vals)).zipIdx.map fun p =>
  (residual c (if c.round then .sr (cdcDraw c p.2 / 65536 % 65536) else .even) p.1.1 (elemValue c.outFmt p.1.2) p.2).1

@[simp] theorem length_cdcCodes (c : CdcArgs) (vals : List FV) : (cdcCodes c vals).length = vals.length := by simp [cdcCodes]

@[simp] theorem length_convValues (c : CdcArgs) (src : List Byte) : (convValues c src).length = c.count := by simp [convValues, length_unpack]

@[simp] theorem length_efValues (c : CdcArgs) (src old : List Byte) : (efValues c src old).length = c.count := by simp [efValues, length_unpack]

@[simp] theorem length_efResiduals (c : CdcArgs) (vals : List FV) : (efResiduals c vals).length = vals.length := by simp [efResiduals]

/-- Codes of converted elements, from the elements. -/
theorem cdcCodes_convValues (c : CdcArgs) (src : List Byte) : cdcCodes c (convValues c src) =
    (unpack (fmtBits c.inFmt) c.count src).zipIdx.map fun v => (plainCode c.outFmt c.ovf (cdcRnd c v.2) ((elemValue c.inFmt v.1).mul (f32 c.mul))).1 := by
  rw [cdcCodes, convValues, List.zipIdx_map, List.map_map]
  rfl

/-- In a format without a scale a block's codes are those of its values. -/
theorem encodeBlock_plain {c : CdcArgs} (hout : isMx c.outFmt = false) (vals : List FV) :
    encodeBlock c.outFmt c.ovf c.fit (cdcRnd c) vals = (vals.zipIdx.map fun p => plainCode c.outFmt c.ovf (cdcRnd c p.2) p.1, 0, 0) := by
  rw [encodeBlock, hout]
  rfl

theorem cdcRnd_first (c : CdcArgs) : (fun (j : Nat) => if c.round then Rnd.sr (cdcDraw c (32 * 0 + j) % 65536) else .even) = cdcRnd c := by
  simp only [Nat.mul_zero, Nat.zero_add]
  rfl

/-! ### The only block of a codec command -/

section
variable {op : Nat} {c : CdcArgs} {x : DCtx} {p : Prog} {u : State}

/-- The state after the reads of a codec command's first block. -/
def cdcLoaded (op : Nat) (c : CdcArgs) (x : DCtx) (u : State) : State :=
  (blockAccess op c 0).foldl (fun s y => if y.1 then s else loadEff x y.2.1 y.2.2 s) u

theorem blockAccess_convert (ho : op ≠ 0x21) (hn : c.count ≤ 32) (hin : isMx c.inFmt = false) (hout : isMx c.outFmt = false) (hacc : c.acc = false) :
    blockAccess op c 0 = [(false, c.src, fmtBytes c.inFmt c.count), (true, c.dst, fmtBytes c.outFmt c.count)] := by
  simp only [blockAccess, dstLen, blockAt_first, blockLen_single hn, hin, hout, hacc, ho, Bool.false_eq_true, if_false, List.append_nil]
  rfl

theorem blockAccess_quantise (hn : c.count ≤ 32) (hin : isMx c.inFmt = false) (hout : isMx c.outFmt = false) (hacc : c.acc = false) :
    blockAccess 0x21 c 0 = [(false, c.src, fmtBytes c.inFmt c.count), (false, c.res, resSz c * c.count), (true, c.dst, fmtBytes c.outFmt c.count),
      (true, c.res, resSz c * c.count)] := by
  simp only [blockAccess, dstLen, blockAt_first, blockLen_single hn, hin, hout, hacc, Bool.false_eq_true, if_false, List.append_nil]
  rfl

/-- A block of a conversion or dequantisation writes the codes of its source; beside that it counts. -/
theorem blockRun_convert (ho : op ≠ 0x21) (hn : c.count ≤ 32) (hin : isMx c.inFmt = false) (hout : isMx c.outFmt = false) (hacc : c.acc = false)
    (hw : p.wild = false) {vals : List FV} (hv : vals = convValues c (peekData u { x with acc := 5 } c.src (fmtBytes c.inFmt c.count) .read)) :
    Counted (writeEff { x with acc := 6 } c.dst (pack (fmtBits c.outFmt) (cdcCodes c vals)) (cdcLoaded op c x u)) (blockRun op c x 0 p u).2 := by
  have hCodes : (encodeBlock c.outFmt c.ovf c.fit (cdcRnd c) vals).1.map (fun y => y.1) = cdcCodes c vals := by
    rw [encodeBlock_plain hout, List.map_map]
    rfl
  simp only [blockRun, blockAt_first, blockLen_single hn, hin, hout, hacc, hw, ho, Bool.false_eq_true, if_false, List.map_map, cdcRnd_first,
    wildRun, wildUsed]
  rw [← hCodes, hv]
  exact ((((Counted.refl _).bumpBy _ _).bumpBy _ _).bumpBy _ _).bumpBy _ _

/-- A block of a quantisation writes the codes of its sums and then their residuals; beside that it counts. -/
theorem blockRun_quantise (hn : c.count ≤ 32) (hin : isMx c.inFmt = false) (hout : isMx c.outFmt = false) (hw : p.wild = false) {vals : List FV}
    (hv : vals = efValues c (peekData u { x with acc := 5 } c.src (fmtBytes c.inFmt c.count) .read)
      (peekData u { x with acc := 5 } c.res (resSz c * c.count) .read)) :
    Counted (writeEff { x with acc := 6 } c.res (pack (8 * resSz c) (efResiduals c vals))
      (writeEff { x with acc := 6 } c.dst (pack (fmtBits c.outFmt) (cdcCodes c vals)) (cdcLoaded 0x21 c x u))) (blockRun 0x21 c x 0 p u).2 := by
  have hVals : ((((unpack (fmtBits c.inFmt) c.count (peekData u { x with acc := 5 } c.src (fmtBytes c.inFmt c.count) .read)).map
      fun k => elemValue c.inFmt k).zip ((unpack (8 * resSz c) c.count (peekData u { x with acc := 5 } c.res (resSz c * c.count) .read)).map
      fun k => (if c.auxFmt = 1 then bf16 else fp32).value k)).map fun y => FV.fma fp32 y.1 (f32 c.mul) y.2) = vals := by
    rw [hv, efValues, List.zip_map, List.map_map]
    rfl
  have hCodes : (encodeBlock c.outFmt c.ovf c.fit (cdcRnd c) vals).1.map (fun y => y.1) = cdcCodes c vals := by
    rw [encodeBlock_plain hout, List.map_map]
    rfl
  have hRes : ((vals.zip (cdcCodes c vals)).zipIdx.map fun y => residual c (if c.round then .sr (cdcDraw c (32 * 0 + y.2) / 65536 % 65536) else .even) y.1.1
      (elemValue c.outFmt y.1.2) (32 * 0 + y.2)).map (fun y => y.1) = efResiduals c vals := by
    rw [List.map_map]
    simp only [Nat.mul_zero, Nat.zero_add]
    rfl
  simp only [blockRun, blockAt_first, blockLen_single hn, hin, hout, hw, Bool.false_eq_true, if_false, if_true, cdcRnd_first, wildRun, wildUsed,
    Nat.mul_zero (resSz c * 32), Nat.add_zero, hVals, hCodes, hRes]
  exact ((((Counted.refl _).bumpBy _ _).bumpBy _ _).bumpBy _ _).bumpBy _ _

/-- A codec command of one block is done with it. -/
theorem blockGo_single (hready : c.inputLantern = 0xFFFF) (hchunk : c.chunkLantern = 0xFFFF) (hp : p.next = 0)
    (ha : firstAccess u x (blockAccess op c 0) = none) (r : ListRec) :
    ∃ f n, blockGo op c x r 1 p u = ({ detail := f, bytes := n }, (blockRun op c x 0 p u).2) := by
  have hReady (k : Nat) : chunkReady u r.room c.inputLantern c.inputBase k = true := by rw [chunkReady, hready]; rfl
  have hLantern (t : State) : lanternAdd r.room c.chunkLantern 1 t = t := by rw [hchunk]; rfl
  simp only [blockGo, hp, hReady, ha, hLantern, ite_self, Bool.not_true, Bool.false_eq_true, if_false]
  exact ⟨_, _, rfl⟩

end

/-! ### CDC_CONVERT, CDC_QUANTISE_EF, CDC_DEQUANTISE (R656 to R676) -/

/-- The body of a codec command, once it holds its units. -/
def codecBody (op : Nat) (h : CmdHdr) (c : CdcArgs) (r : ListRec) (u : State) : CEnd × State :=
  let x := cmdCtx u h r
  let p := r.prog.getD (cdcProg op c)
  let y := watchOthers x r p (cdcMeets u x op c) u
  wildEnd y.1 (blockGo op c x r ((c.count + 31) / 32 - p.next) { p with wild := y.1 } y.2)

/-- The address operands of a codec command. -/
def cdcOperands (c : CdcArgs) : List Nat := [c.src, c.dst, c.srcScale, c.dstScale, c.res]

theorem codec_eq (op : Nat) (h : CmdHdr) (c : CdcArgs) :
    codec op h c = engine h op 3 (cdcBad op h c) (withUnits 2 h (withPins (cdcOperands c) (codecBody op h c))) := rfl

theorem src_mem_operands (c : CdcArgs) : c.src ∈ cdcOperands c := List.mem_cons_self
theorem dst_mem_operands (c : CdcArgs) : c.dst ∈ cdcOperands c := by simp [cdcOperands]
theorem res_mem_operands (c : CdcArgs) : c.res ∈ cdcOperands c := by simp [cdcOperands]

/-- What a codec command that is well formed gives: elements; a quantisation, a source without a scale and no accumulation (R651 to R653). -/
theorem cdcBad_none {op : Nat} {h : CmdHdr} {c : CdcArgs} {s : State} {r : Room} (hb : cdcBad op h c s r = none) :
    0 < c.count ∧ (op = 0x21 → isMx c.inFmt = false ∧ c.acc = false) := by
  simp only [cdcBad, firstBadOf_cons_none, Bool.or_eq_false_iff] at hb
  obtain ⟨-, ⟨⟨⟨⟨-, hAcc⟩, -⟩, -⟩, -⟩, -, hArgs, -⟩ := hb
  obtain ⟨⟨⟨⟨⟨⟨⟨⟨⟨⟨⟨hFormats, hCount⟩, -⟩, -⟩, -⟩, -⟩, -⟩, -⟩, -⟩, -⟩, -⟩, -⟩ := hArgs
  refine ⟨Nat.pos_of_ne_zero (beq_eq_false_iff_ne.1 hCount), ?_⟩
  rintro rfl
  refine ⟨?_, hAcc⟩
  simp only [cdcFormats, Bool.not_eq_false', Bool.and_eq_true, decide_eq_true_eq] at hFormats
  rw [isMx, decide_eq_false (by omega), Bool.false_and]

theorem arrayRuns_plain {fmt : Nat} (hf : isMx fmt = false) (base scale count : Nat) : arrayRuns fmt base scale count = [(base, fmtBytes fmt count)] := by
  simp only [arrayRuns, arrayLen, hf, Bool.false_eq_true, if_false]

theorem resBytes_pos {c : CdcArgs} (h0 : 0 < c.count) : 0 < resSz c * c.count := by
  refine Nat.mul_pos ?_ h0
  rw [resSz]
  split <;> decide

section
variable {s u : State} {h : CmdHdr} {op rm y z v : Nat} {r : ListRec} {c : CdcArgs}
  (hr : Running s h rm r u) (hp : r.pins = pinsOf s r.room (cdcOperands c)) (hnone : (listOf s h rm).pins = []) (hs : Sound s)
  (h0 : 0 < c.count) (hin : isMx c.inFmt = false) (hout : isMx c.outFmt = false)
  (hsrc : Charted s (cmdCtx s h (listOf s h rm)) c.src (fmtBytes c.inFmt c.count) y)
  (hdst : Charted s (cmdCtx s h (listOf s h rm)) c.dst (fmtBytes c.outFmt c.count) z)
  (hres : op = 0x21 → Charted s (cmdCtx s h (listOf s h rm)) c.res (resSz c * c.count) v)
include hr hp hnone hs h0 hout hdst hres

/-- What a codec command writes resolves as it does before it begins. -/
theorem Running.resolve_cdcOut {a : Nat × Nat} (ha : a ∈ (cdcProg op c).uses) :
    resolve u (cmdCtx u h r) a.1 a.2 .read = resolve s (cmdCtx s h (listOf s h rm)) a.1 a.2 .read := by
  have hUses : (cdcProg op c).uses = (c.dst, fmtBytes c.outFmt c.count) :: if op = 0x21 then [(c.res, resSz c * c.count)] else [] :=
    congrArg (· ++ _) (arrayRuns_plain hout _ _ _)
  rw [hUses] at ha
  rcases List.mem_cons.1 ha with rfl | ha
  · exact hr.resolve_operand hp hnone (dst_mem_operands c) hdst hs (fmtBytes_pos hout h0)
  · split at ha
    · next ho =>
      obtain rfl := List.mem_singleton.1 ha
      exact hr.resolve_operand hp hnone (res_mem_operands c) (hres ho) hs (resBytes_pos h0)
    · exact absurd ha List.not_mem_nil

include hin hsrc

/-- Its destination and residuals meet its source only where they do so before it begins. -/
theorem Running.cdcMeets (hm : cdcMeets s (cmdCtx s h (listOf s h rm)) op c = false) : cdcMeets u (cmdCtx u h r) op c = false := by
  have hSrc := hr.resolve_operand hp hnone (src_mem_operands c) hsrc hs (fmtBytes_pos hin h0)
  rw [Machine.cdcMeets, arrayRuns_plain hin] at hm ⊢
  rw [List.any_eq_false] at hm ⊢
  intro a ha
  have hUsed : a ∈ (cdcProg op c).uses := by
    refine List.mem_append.2 ((List.mem_append.1 ha).imp_left fun hOut => ?_)
    split at hOut
    · exact absurd hOut List.not_mem_nil
    · exact hOut
  have hSame := opsMeetIn_congr (x := a) (y := (c.src, fmtBytes c.inFmt c.count)) (hr.resolve_cdcOut hp hnone hs h0 hout hdst hres hUsed) hSrc
  have hNot := hm a ha
  simp only [List.any_cons, List.any_nil, Bool.or_false, opsMeet] at hNot ⊢
  rwa [hSame]

omit hs in
/-- The accesses of its only block lie in charted memory. -/
theorem Running.blockAccess_charted (hn : c.count ≤ 32) (hacc : c.acc = false) :
    ∀ a ∈ blockAccess op c 0, 0 < a.2.2 ∧ ∃ w, Charted u (cmdCtx u h r) a.2.1 a.2.2 w := by
  have hSrc : 0 < fmtBytes c.inFmt c.count ∧ ∃ w, Charted u (cmdCtx u h r) c.src (fmtBytes c.inFmt c.count) w :=
    ⟨fmtBytes_pos hin h0, y, hr.charted hp hnone (src_mem_operands c) hsrc⟩
  have hDst : 0 < fmtBytes c.outFmt c.count ∧ ∃ w, Charted u (cmdCtx u h r) c.dst (fmtBytes c.outFmt c.count) w :=
    ⟨fmtBytes_pos hout h0, z, hr.charted hp hnone (dst_mem_operands c) hdst⟩
  by_cases ho : op = 0x21
  · have hRes : 0 < resSz c * c.count ∧ ∃ w, Charted u (cmdCtx u h r) c.res (resSz c * c.count) w :=
      ⟨resBytes_pos h0, v, hr.charted hp hnone (res_mem_operands c) (hres ho)⟩
    rw [ho, blockAccess_quantise hn hin hout hacc]
    simp only [List.forall_mem_cons]
    exact ⟨hSrc, hRes, hDst, hRes, List.forall_mem_nil _⟩
  · rw [blockAccess_convert ho hn hin hout hacc]
    simp only [List.forall_mem_cons]
    exact ⟨hSrc, hDst, List.forall_mem_nil _⟩

/-- The body of a codec command of one block, which nothing disturbs, runs that block. -/
theorem Running.codecBody_eq (hroom : (listOf s h rm).room = rm) (hapart : Apart s h rm (cdcProg op c)) (hn : c.count ≤ 32) (hacc : c.acc = false)
    (hready : c.inputLantern = 0xFFFF) (hchunk : c.chunkLantern = 0xFFFF) (hm : Machine.cdcMeets s (cmdCtx s h (listOf s h rm)) op c = false) :
    ∃ f n, codecBody op h c r u = ({ detail := f, bytes := n }, (blockRun op c (cmdCtx u h r) 0 (cdcProg op c) u).2) := by
  have hQuiet := hr.undisturbed hs hroom hapart (m := false) fun a ha => hr.resolve_cdcOut hp hnone hs h0 hout hdst hres (ha.elim id id)
  have hAccess := firstAccess_charted hr.data.sound (hr.blockAccess_charted hp hnone h0 hin hout hsrc hdst hres hn hacc)
  rw [codecBody, hr.unbegun, Option.getD_none, hr.cdcMeets hp hnone hs h0 hin hout hsrc hdst hres hm, hQuiet, show (cdcProg op c).next = 0 from rfl,
    blocks_single h0 hn]
  exact blockGo_single hready hchunk rfl hAccess r

end

/-- A command that is granted its Harbour units, and whose operands are pinned, runs over memory that lost nothing but the units' data (R197). -/
theorem Granted.runs {s : State} {h : CmdHdr} {op cls rm n : Nat} {own : State → Room → Option Nat} (hg : Granted s h op rm n) (hn : n ≠ 0)
    (hb : Begins s h op cls own rm) (hs : Sound s) (hw : s.memWf = true) (l : List Nat) (body : ListRec → State → CEnd × State) :
    ∃ r u, withUnits n h (withPins l body) (begun s h op rm) (begunState s h op rm) = body r u ∧ Running s h rm r u ∧ r.pins = pinsOf s r.room l ∧
      ∀ a, Untaken s h op rm n a → cellGet u.mem.cells a = cellGet s.mem.cells a := by
  obtain ⟨hNone, hAsk⟩ := hg
  obtain ⟨v, hUnits, hTaken, hHolds⟩ := (running_begun hb hs hw).runs_withUnits hn hNone hAsk (withPins l body)
  obtain ⟨w, hBody, hMem, hPinned⟩ := hHolds.runs_withPins (pins_of_begins hb) l body
  refine ⟨_, w, hUnits.trans hBody, hPinned, rfl, fun a ha => ?_⟩
  rw [hMem, hTaken]
  exact (takeUnits_frame (s := begunState s h op rm) hw (listDie (listOf s h rm)) n).2 a ha

theorem length_packedResiduals {c : CdcArgs} {vals : List FV} (hl : vals.length = c.count) :
    (pack (8 * resSz c) (efResiduals c vals)).length = resSz c * c.count := by
  rw [length_pack, length_efResiduals, hl, Nat.mul_assoc]
  omega

section
variable {s u : State} {h : CmdHdr} {op rm y z v : Nat} {r : ListRec} {c : CdcArgs}
  (hr : Running s h rm r u) (hp : r.pins = pinsOf s r.room (cdcOperands c)) (hnone : (listOf s h rm).pins = []) (hs : Sound s)
  (hroom : (listOf s h rm).room = rm) (h0 : 0 < c.count) (hn : c.count ≤ 32) (hin : isMx c.inFmt = false) (hout : isMx c.outFmt = false)
  (hacc : c.acc = false) (hready : c.inputLantern = 0xFFFF) (hchunk : c.chunkLantern = 0xFFFF)
  (hsrc : Charted s (cmdCtx s h (listOf s h rm)) c.src (fmtBytes c.inFmt c.count) y)
  (hdst : Charted s (cmdCtx s h (listOf s h rm)) c.dst (fmtBytes c.outFmt c.count) z)
include hr hp hnone hs hroom h0 hn hin hout hacc hready hchunk hsrc hdst

/-- A conversion or dequantisation stores the codes of its source as it stood when the command began. -/
theorem Running.convertBody (ho : op ≠ 0x21) (hapart : Apart s h rm (cdcProg op c))
    (hm : Machine.cdcMeets s (cmdCtx s h (listOf s h rm)) op c = false) : EndsWith h (codecBody op h c r u) fun m => m = memStore u.mem z
      (pack (fmtBits c.outFmt) (cdcCodes c (convValues c (devRead s y (fmtBytes c.inFmt c.count))))) := by
  have hres : op = 0x21 → Charted s (cmdCtx s h (listOf s h rm)) c.res (resSz c * c.count) 0 := fun h => absurd h ho
  obtain ⟨f, n, hRun⟩ := hr.codecBody_eq hp hnone hs h0 hin hout hsrc hdst hres hroom hapart hn hacc hready hchunk hm
  obtain ⟨hMem, hKept⟩ := loads_charted hr.data.sound (hr.blockAccess_charted hp hnone h0 hin hout hsrc hdst hres hn hacc)
  obtain ⟨k, hBlock⟩ := blockRun_convert (x := cmdCtx u h r) (u := u) (p := cdcProg op c) ho hn hin hout hacc rfl
    (congrArg (convValues c) (hr.peek_operand hp hnone (src_mem_operands c) hsrc (fmtBytes_pos hin h0)).symm)
  obtain ⟨hStored, ⟨-, hLists, -⟩, -⟩ := writeEff_after (hKept.sound hMem hr.data.sound) hKept
    (hr.charted hp hnone (dst_mem_operands c) hdst)
    (length_pack_plain (l := cdcCodes c (convValues c (devRead s y (fmtBytes c.inFmt c.count)))) (c := c.outFmt) (by simp)) (fmtBytes_pos hout h0)
  rw [hMem] at hStored
  rw [hRun]
  refine hr.endsWith ⟨f, n, rfl⟩ ?_ ?_
  · rw [hBlock]
    exact hStored
  · rw [hBlock]
    exact hLists

/-- A quantisation with error feedback stores the codes of its sums, and then the residuals that these leave. -/
theorem Running.quantiseBody (hres : Charted s (cmdCtx s h (listOf s h rm)) c.res (resSz c * c.count) v) (hapart : Apart s h rm (cdcProg 0x21 c))
    (hm : Machine.cdcMeets s (cmdCtx s h (listOf s h rm)) 0x21 c = false) {vals : List FV}
    (hv : vals = efValues c (devRead s y (fmtBytes c.inFmt c.count)) (devRead s v (resSz c * c.count))) :
    EndsWith h (codecBody 0x21 h c r u) fun m => m = memStore (memStore u.mem z (pack (fmtBits c.outFmt) (cdcCodes c vals))) v
      (pack (8 * resSz c) (efResiduals c vals)) := by
  have hLen : vals.length = c.count := by rw [hv, length_efValues]
  obtain ⟨f, n, hRun⟩ := hr.codecBody_eq hp hnone hs h0 hin hout hsrc hdst (fun _ => hres) hroom hapart hn hacc hready hchunk hm
  obtain ⟨hMem, hKept⟩ := loads_charted hr.data.sound (hr.blockAccess_charted (op := 0x21) hp hnone h0 hin hout hsrc hdst (fun _ => hres) hn hacc)
  obtain ⟨k, hBlock⟩ := blockRun_quantise (x := cmdCtx u h r) (u := u) (p := cdcProg 0x21 c) (vals := vals) hn hin hout rfl (by
    rw [hr.peek_operand hp hnone (src_mem_operands c) hsrc (fmtBytes_pos hin h0), hr.peek_operand hp hnone (res_mem_operands c) hres (resBytes_pos h0), hv])
  obtain ⟨hCodes, hLeft, hSound⟩ := writeEff_after (hKept.sound hMem hr.data.sound) hKept
    (hr.charted hp hnone (dst_mem_operands c) hdst)
    (length_pack_plain (l := cdcCodes c vals) (c := c.outFmt) (by rw [length_cdcCodes, hLen])) (fmtBytes_pos hout h0)
  obtain ⟨hResiduals, ⟨-, hLists, -⟩, -⟩ := writeEff_after hSound hLeft (hr.charted hp hnone (res_mem_operands c) hres)
    (length_packedResiduals hLen) (resBytes_pos h0)
  rw [hCodes, hMem] at hResiduals
  rw [hRun]
  refine hr.endsWith ⟨f, n, rfl⟩ ?_ ?_
  · rw [hBlock]
    exact hResiduals
  · rw [hBlock]
    exact hLists

end

section
variable {s : State} {h : CmdHdr} {c : CdcArgs} {rm op y z v : Nat} {cmd : Instr}

theorem convert_completes (hcmd : (cmd, op) ∈ [(Instr.cdcConvert h c, 0x20), (.cdcDequantise h c, 0x22)]) (hp : Plain h)
    (hb : Begins s h op 3 (cdcBad op h c) rm) (hg : Granted s h op rm 2) (hs : Sound s) (hroom : (listOf s h rm).room = rm)
    (hapart : Apart s h rm (cdcProg op c)) (hw : s.memWf = true) (hn : c.count ≤ 32) (hin : isMx c.inFmt = false) (hout : isMx c.outFmt = false)
    (hacc : c.acc = false) (hchunk : c.chunkLantern = 0xFFFF) (hready : c.inputLantern = 0xFFFF)
    (hsrc : Charted s (cmdCtx s h (listOf s h rm)) c.src (fmtBytes c.inFmt c.count) y)
    (hdst : Charted s (cmdCtx s h (listOf s h rm)) c.dst (fmtBytes c.outFmt c.count) z)
    (hm : cdcMeets s (cmdCtx s h (listOf s h rm)) op c = false) : Completes cmd s fun t =>
      LandsTaking s t h op rm 2 z (pack (fmtBits c.outFmt) (cdcCodes c (convValues c (devRead s y (fmtBytes c.inFmt c.count))))) ∧ MovedOn t h := by
  have hOp : op ≠ 3 ∧ op ≠ 0x21 ∧ exec cmd s = act transfers (codec op h c) s := by
    simp only [List.mem_cons, Prod.mk.injEq, List.not_mem_nil, or_false] at hcmd
    obtain ⟨rfl, rfl⟩ | ⟨rfl, rfl⟩ := hcmd
    · exact ⟨by decide, by decide, rfl⟩
    · exact ⟨by decide, by decide, rfl⟩
  obtain ⟨h3, hConv, hExec⟩ := hOp
  obtain ⟨r, u, hBody, hr, hPins, hUntaken⟩ := hg.runs (by decide) hb hs hw (cdcOperands c) (codecBody op h c)
  obtain ⟨h0, -⟩ := cdcBad_none (own_of_begins hb)
  have hEnds := hr.convertBody hPins (pins_of_begins hb) hs hroom h0 hn hin hout hacc hready hchunk hsrc hdst hConv hapart hm
  rw [← hBody] at hEnds
  refine (Completes.of_body hExec hp h3 hb hEnds).imp fun t ⟨hStored, hMoved⟩ => ⟨?_, hMoved⟩
  obtain ⟨hData, hFrame⟩ := Overlaid.lands (s := u) (t := t) (hStored ▸ overlaid_memStore (wf_of_memWf hr.data.wf) z _)
  exact ⟨hData, fun a ha hOutside => (hFrame a hOutside).trans (hUntaken a ha)⟩

theorem quantise_completes (hp : Plain h) (hb : Begins s h 0x21 3 (cdcBad 0x21 h c) rm) (hg : Granted s h 0x21 rm 2) (hs : Sound s)
    (hroom : (listOf s h rm).room = rm) (hapart : Apart s h rm (cdcProg 0x21 c)) (hw : s.memWf = true) (hn : c.count ≤ 32)
    (hout : isMx c.outFmt = false) (hchunk : c.chunkLantern = 0xFFFF) (hready : c.inputLantern = 0xFFFF)
    (hsrc : Charted s (cmdCtx s h (listOf s h rm)) c.src (fmtBytes c.inFmt c.count) y)
    (hdst : Charted s (cmdCtx s h (listOf s h rm)) c.dst (fmtBytes c.outFmt c.count) z)
    (hres : Charted s (cmdCtx s h (listOf s h rm)) c.res (resSz c * c.count) v)
    (hzv : z + fmtBytes c.outFmt c.count ≤ v ∨ v + resSz c * c.count ≤ z) (hm : cdcMeets s (cmdCtx s h (listOf s h rm)) 0x21 c = false)
    {vals : List FV} (hv : vals = efValues c (devRead s y (fmtBytes c.inFmt c.count)) (devRead s v (resSz c * c.count))) :
    Completes (.cdcQuantiseEf h c) s fun t =>
      (∀ k < fmtBytes c.outFmt c.count, cellGet t.mem.cells (z + k) = (pack (fmtBits c.outFmt) (cdcCodes c vals)).getD k 0) ∧
      (∀ k < resSz c * c.count, cellGet t.mem.cells (v + k) = (pack (8 * resSz c) (efResiduals c vals)).getD k 0) ∧
      (∀ a, Untaken s h 0x21 rm 2 a → (a < z ∨ z + fmtBytes c.outFmt c.count ≤ a) → (a < v ∨ v + resSz c * c.count ≤ a) →
        cellGet t.mem.cells a = cellGet s.mem.cells a) ∧ MovedOn t h := by
  obtain ⟨r, u, hBody, hr, hPins, hUntaken⟩ := hg.runs (by decide) hb hs hw (cdcOperands c) (codecBody 0x21 h c)
  obtain ⟨h0, hPlain⟩ := cdcBad_none (own_of_begins hb)
  obtain ⟨hin, hacc⟩ := hPlain rfl
  have hEnds := hr.quantiseBody hPins (pins_of_begins hb) hs hroom h0 hn hin hout hacc hready hchunk hsrc hdst hres hapart hm hv
  rw [← hBody] at hEnds
  refine (Completes.of_body rfl hp (by decide) hb hEnds).imp fun t ⟨hStored, hMoved⟩ => ?_
  have hLen : vals.length = c.count := by rw [hv, length_efValues]
  have hCodesLen : (pack (fmtBits c.outFmt) (cdcCodes c vals)).length = fmtBytes c.outFmt c.count :=
    length_pack_plain (by rw [length_cdcCodes, hLen])
  have hResLen := length_packedResiduals (vals := vals) (c := c) hLen
  have hFirst := overlaid_memStore (wf_of_memWf hr.data.wf) z (pack (fmtBits c.outFmt) (cdcCodes c vals))
  have hBoth := overlaid_memStore hFirst.wf v (pack (8 * resSz c) (efResiduals c vals))
  rw [← hStored] at hBoth
  refine ⟨fun k hk => ?_, fun k hk => ?_, fun a ha hCodesOut hResOut => ?_, hMoved⟩
  · rw [hBoth.reads, hResLen, if_neg (by omega), hFirst.reads, hCodesLen, if_pos (by omega), Nat.add_sub_cancel_left]
  · rw [hBoth.reads, hResLen, if_pos (by omega), Nat.add_sub_cancel_left]
  · rw [hBoth.reads, hResLen, if_neg (by omega), hFirst.reads, hCodesLen, if_neg (by omega), hUntaken a ha]

end

/-- Settles O50: a body that nothing disturbs reads its operands as they stood when the command began and stores one block at its destination, and
a quantisation its residuals after it; Harbour units that a codec command takes lie outside tier 0, where its operands are. -/
theorem localReductionsAndConversions : Obligations.LocalReductionsAndConversions := by
  unfold Obligations.LocalReductionsAndConversions
  refine ⟨?_, ?_, ?_⟩
  · intro s h b rm z hp hb _ hs hroom hapart hw hn hnorm hin hmeets hsrc hdst
    have hDone := rdcLocalReduce_completes hp hb hs hroom hapart hw hn hnorm hin hmeets (fun a ha => (hsrc a ha).imp fun y hy => hy.1) hdst
    rw [soleCodes, soleFinals, List.map_map] at hDone
    exact hDone
  · intro s h c rm op y z cmd hcmd hp hb hg hs hroom hapart hw hn hin hout hacc hchunk hready hsrc hdst hm _
    have hDone := convert_completes hcmd hp hb hg hs hroom hapart hw hn hin hout hacc hchunk hready hsrc hdst hm
    rw [cdcCodes_convValues] at hDone
    exact hDone
  · intro s h c rm y z v hp hb hg hs hroom hapart hw hn hout hchunk hready hsrc hdst hres hzv hm _ _
    exact quantise_completes hp hb hg hs hroom hapart hw hn hout hchunk hready hsrc hdst hres hzv hm rfl

end Sys2Proof.Machine

/-! ## Itineraries and party contexts -/

namespace Sys2Proof.Machine

open Sys2Proof

/-! ### Itineraries (R552 to R555) -/

section
variable {s t : State} {d : List Byte} {it : Itin} {i : Nat}

/-- A record reads the same after a read of data: it depends on its own bytes, and on the objects (R543). -/
theorem parseItin_readEff (c : DCtx) (a n : Nat) (d : List Byte) (s : State) : parseItin (readEff c a n s) d = parseItin s d := rfl

/-- An itinerary in place under an identifier. -/
def putItin (i : Nat) (it : Itin) (s : State) : State := modColl (fun c => { c with itins := mset c.itins i it }) s

theorem itin?_putItin (i : Nat) (it : Itin) (s : State) : itin? (putItin i it s) i = some it := mfind_mset_self _ _ _

theorem itin?_putItin_ne {j : Nat} (h : j ≠ i) (it : Itin) (s : State) : itin? (putItin i it s) j = itin? s j := mfind_mset_ne _ _ _ _ h

theorem installItin_valid (hit : parseItin s d = some it) (hnew : itin? s (recId d) = none) (hroom : s.coll.itins.length < 4096)
    (hopen : it.sealed = false) : installItin d s = (0, putItin (recId d) it s) := by
  unfold installItin
  rw [hit]
  dsimp only
  rw [if_neg]
  · rw [if_neg]
    · rw [hopen]
      rfl
    · exact Nat.not_le.2 hroom
  · rw [hnew]
    exact Bool.false_ne_true

/-- The state without an itinerary, its nodes and its streams (R554). -/
def withoutItin (i : Nat) (s : State) : State :=
  dropStreams (fun _ _ n => n % 2 ^ 16 == i) (modColl (fun c => { c with itins := mdel c.itins i, nodes := c.nodes.filter (fun n => n.itin != i) }) s)

theorem removeItin_idle (hin : (itin? s i).isSome = true) (hidle : itinBusy s i = false) : removeItin i s = (0, withoutItin i s) := by
  rw [removeItin, Option.isNone_eq_false_iff.2 hin, hidle, if_neg Bool.false_ne_true, if_neg Bool.false_ne_true, withoutItin]

theorem withoutItin_itins (i : Nat) (s : State) : (withoutItin i s).coll.itins = mdel s.coll.itins i := rfl

theorem withoutItin_nodes (i : Nat) (s : State) : ∀ n ∈ (withoutItin i s).coll.nodes, n.itin ≠ i := fun n hn => by
  have hkept : n ∈ s.coll.nodes.filter (fun n => n.itin != i) := hn
  simpa using (List.mem_filter.1 hkept).2

theorem itineraryInstall_completes {h : FdHdr} {a rm : Nat} (ht : InnTakes s h 0x68) (hr : roomOf s h.fn = some rm) (ha : operand (room s rm) a ≠ .bad)
    (hstop : itinStop s (fdCtx s h 5) a = none)
    (hd : peekData s (fdCtx s h 5) a (recLen (peekData s (fdCtx s h 5) a 32 .read)) .read = d) (hit : parseItin s d = some it)
    (hnew : itin? s (recId d) = none) (hroom : s.coll.itins.length < 4096) (hopen : it.sealed = false) :
    Completes (.itineraryInstall h a) s fun t =>
      itin? t (recId d) = some it ∧ (∀ i, i ≠ recId d → itin? t i = itin? s i) ∧ (func t h.fn).fd.running = none := by
  obtain ⟨hTakes, hInn⟩ := ht
  have hOwn : firstBadOf [(!isInn s h.fn, 6), ((match roomOf s h.fn with | some r => operand (room s r) a == .bad | none => true), 5)] = none := by
    simp only [firstBadOf_cons_none, firstBadOf_nil, hInn, hr, Bool.not_true, beq_eq_false_iff_ne, ne_eq, ha, not_false_eq_true, and_self]
  let n := recLen (peekData s (fdCtx s h 5) a 32 .read)
  have hInstall : installItin d (readEff (fdCtx s h 5) a n s) = (0, putItin (recId d) it (readEff (fdCtx s h 5) a n s)) :=
    installItin_valid ((parseItin_readEff _ a n d s).trans hit) hnew hroom hopen
  have hRun : itineraryInstall h a s = fdAnswer h 0x68 {} (putItin (recId d) it (readEff (fdCtx s h 5) a n s)) := by
    rw [itineraryInstall, frontDesk_takes hTakes _ hOwn]
    simp only [hstop, hd, n] at hInstall ⊢
    rw [hInstall]
  have hcoll : (readEff (fdCtx s h 5) a n s).coll = s.coll := rfl
  refine .of_act rfl hTakes.1 ?_
  rw [hRun]
  generalize readEff (fdCtx s h 5) a n s = u at hcoll ⊢
  refine ⟨itin?_putItin _ it u, fun i hi => (itin?_putItin_ne hi it u).trans ?_, fdAnswer_running h 0x68 {} _⟩
  rw [itin?, hcoll, itin?]

theorem itineraryRemove_completes {h : FdHdr} (ht : InnTakes s h 0x69) (hin : (itin? s i).isSome = true) (hidle : itinBusy s i = false) :
    Completes (.itineraryRemove h i) s fun t => t.coll.itins = mdel s.coll.itins i ∧ ∀ n ∈ t.coll.nodes, n.itin ≠ i := by
  obtain ⟨hTakes, hInn⟩ := ht
  have hOwn : firstBadOf [(!isInn s h.fn, 6)] = none := by simp [firstBadOf, hInn]
  refine .of_act (l := answers ++ [.qps, .coll, .heldPkts]) rfl hTakes.1 ?_
  rw [frontDesk_takes hTakes _ hOwn, removeItin_idle hin hidle]
  exact ⟨withoutItin_itins i s, withoutItin_nodes i s⟩

/-- A query that writes its 32 B at RESULT_ADDR in host memory changes no collective (R301). -/
theorem query_completes {c : Instr} {h : FdHdr} {op p a : Nat} {f : State → State} {b : List Byte} (hc : exec c s = act dataAccess f s) (ht : Takes s h op)
    (hlen : b.length = 32) (ha : h.resultAddr ≠ 0)
    (hr : resolve s (fdCtx s h 6) h.resultAddr 32 .write = ([{ off := 0, loc := .host p a, len := 32 }], none)) (hup : (hport s p).st = .up)
    (hrun : f s = fdResult h b (fun c s => fdAnswer h op { result := c } s) s) :
    Completes c s fun t => (∀ o ∈ writesOf s p a b true, o ∈ t.out) ∧ t.coll = s.coll := by
  rw [← hlen] at hr
  obtain ⟨hm, tc, cn, hWrite⟩ := writeEff_host hr hup
  refine .of_act hc ht.1 ⟨fun o hmem => ?_, rfl⟩
  rw [hrun, fdResult_host ha hr, hWrite]
  refine mem_out_fdAnswer ?_ (ht.responseFits.of_parts ?_ ?_ ?_ ?_ ?_) op {}
  · exact List.mem_append_left _ (List.mem_reverse.2 hmem)
  all_goals rfl

theorem length_itinWords (s : State) (i : Nat) (it : Itin) : (itinWords s i it).length = 32 := by simp [itinWords, wordsLe, length_leBytes]

theorem itineraryQuery_completes {h : FdHdr} {p a : Nat} (ht : InnTakes s h 0x6A) (hres : badResultAddr s h = false) (ha : h.resultAddr ≠ 0)
    (hit : itin? s i = some it) (hr : resolve s (fdCtx s h 6) h.resultAddr 32 .write = ([{ off := 0, loc := .host p a, len := 32 }], none))
    (hup : (hport s p).st = .up) :
    Completes (.itineraryQuery h i) s fun t => (∀ o ∈ writesOf s p a (itinWords s i it) true, o ∈ t.out) ∧ t.coll = s.coll := by
  obtain ⟨hTakes, hInn⟩ := ht
  have hOwn : firstBadOf [(!isInn s h.fn, 6), (badResultAddr s h, 5)] = none := by simp [firstBadOf, hInn, hres]
  refine query_completes rfl hTakes (length_itinWords s i it) ha hr hup ?_
  rw [frontDesk_takes hTakes _ hOwn, hit]

theorem itinLoad_completes (hl : Live s) (hlen : d.length = 2080) (hzero : (d.drop (recLen d)).all (fun b => b == 0) = true)
    (hit : parseItin s d = some it) (hnew : itin? s (recId d) = none) (hroom : s.coll.itins.length < 4096) (hopen : it.sealed = false) :
    Completes (.itinLoad d) s fun t => itin? t (recId d) = some it ∧ t.coll.itinResult = 0 := by
  refine .of_act (f := itinLoad d) rfl hl ?_
  rw [itinLoad, if_pos (by simp only [hlen, hzero, decide_true, Bool.and_self]), installItin_valid hit hnew hroom hopen]
  exact ⟨itin?_putItin (recId d) it s, rfl⟩

/-- What ITIN_UNLOAD does (R555). -/
def itinUnload (i : Nat) (s : State) : State := modColl (fun c => { c with itinResult := (removeItin i s).1 }) (removeItin i s).2

theorem itinUnload_completes (hl : Live s) (hin : (itin? s i).isSome = true) (hidle : itinBusy s i = false) :
    Completes (.itinUnload i) s fun t => t.coll.itins = mdel s.coll.itins i ∧ t.coll.itinResult = 0 := by
  refine .of_act (l := [.qps, .coll, .heldPkts]) (f := itinUnload i) rfl hl ?_
  rw [itinUnload, removeItin_idle hin hidle]
  exact ⟨withoutItin_itins i s, rfl⟩

end

/-! ### Party contexts (R683, R685 to R688) -/

section
variable {s : State} {h : FdHdr} {tag rank size ctrl gen rm : Nat}

/-- The context that PARTY_CREATE makes. -/
def createdParty (rm tag rank size ctrl gen : Nat) : Party := { room := rm, tag := tag, rank := rank, size := size, ctrl := ctrl, gen := gen }

/-- A context in place under its number. -/
def putParty (n : Nat) (p : Party) (s : State) : State := modColl (fun c => { c with parties := mset c.parties n p }) s

theorem mfind_putParty (n : Nat) (p : Party) (s : State) : mfind (putParty n p s).coll.parties n = some p := mfind_mset_self _ _ _

theorem tryParty_makes (hr : roomOf s h.fn = some rm) (hbad : partyBad s tag rank size gen = none) (hroom : partyRoom s rm = true) :
    tryParty h tag rank size ctrl gen s =
      some (fdAnswer h 0x60 { ret := pickParty s } (useFresh (putParty (pickParty s) (createdParty rm tag rank size ctrl gen) s))) := by
  simp only [tryParty, hbad, hr, hroom, if_true]
  rfl

theorem partyCreate_completes (ht : Takes s h 0x60) (hr : roomOf s h.fn = some rm) (hbad : partyBad s tag rank size gen = none)
    (hroom : partyRoom s rm = true) : Completes (.partyCreate h tag rank size ctrl gen) s fun t =>
      mfind t.coll.parties (pickParty s) = some { room := rm, tag := tag, rank := rank, size := size, ctrl := ctrl, gen := gen } ∧
      t.free = s.free + 1 ∧ (func t h.fn).fd.running = none := by
  refine .of_act (f := partyCreate h tag rank size ctrl gen) rfl ht.1 ?_
  rw [partyCreate, frontDesk_takes ht _ rfl, tryParty_makes hr hbad hroom]
  exact ⟨mfind_putParty (pickParty s) (createdParty rm tag rank size ctrl gen) s, rfl, fdAnswer_running h 0x60 _ _⟩

/-- What a front desk does that waits no longer (R686). -/
def partyExpires (fn : Nat) (s : State) : State :=
  match (func s fn).fd.running with
  | some (h, op, .party _ _ _ _ _ due) => if reached due (elapsed s) then fdAnswer h op { result := 0x54 } s else s
  | _ => s

theorem partyWaitExpired_completes {fn op : Nat} {due : Word} (hl : Live s) (hfn : h.fn = fn)
    (hrun : (func s fn).fd.running = some (h, op, .party tag rank size ctrl gen due)) (hdue : reached due (elapsed s) = true) :
    Completes (.partyWaitExpired fn) s fun t => (func t fn).fd.running = none ∧ t.coll = s.coll := by
  subst hfn
  refine .of_act (f := partyExpires h.fn) rfl hl ?_
  rw [partyExpires, hrun]
  dsimp only
  rw [if_pos hdue]
  exact ⟨fdAnswer_running h op { result := 0x54 } s, rfl⟩

/-- A front desk does not wait for a context. -/
def NoPartyWait (f : Func) : Prop := ∀ g op tag rank size ctrl gen due, f.fd.running ≠ some (g, op, .party tag rank size ctrl gen due)

/-- A front desk that waits for no context tries nothing (R686). -/
theorem retryParty_idle {fn : Nat} (hn : NoPartyWait (func s fn)) : retryParty fn s = s := by
  rw [retryParty]
  split
  · next hrun => exact absurd hrun (hn _ _ _ _ _ _ _ _)
  · rfl

theorem retryParties_idle (hn : ∀ fn, NoPartyWait (func s fn)) : retryParties s = s :=
  List.foldl_fixed' (fun f => retryParty_idle (hn f.1)) s.funcs

/-- A response leaves the front desks of the other functions as they were (R300). -/
theorem putResp_fd_ne {g : Nat} (hg : g ≠ h.fn) (op : Nat) (r : FdResp) : (func (putResp h op r s) g).fd = (func s g).fd := by
  simp only [putResp]
  split
  · next hput => rw [ite_msix_fd, func_modFunc_ne hg, tryPut_func hput]
  · rw [modRsp, func_modFunc_ne hg]
  · rw [func_modFunc_ne hg, keepsDesks_meetRing keepsDesks_putLedger]

theorem fdAnswer_fd_ne {g : Nat} (hg : g ≠ h.fn) (op : Nat) (r : FdResp) : (func (fdAnswer h op r s) g).fd = (func s g).fd := by
  rw [fdAnswer, ledgerOnly_func]
  dsimp only
  split
  · rw [func_modFunc_ne hg, func_modFunc_ne hg]
  · rw [putResp_fd_ne hg, func_modFunc_ne hg]

/-- Where no front desk waits for a context, none does after an answer. -/
theorem noPartyWait_fdAnswer (hn : ∀ fn, NoPartyWait (func s fn)) (op : Nat) (r : FdResp) (g : Nat) : NoPartyWait (func (fdAnswer h op r s) g) := by
  by_cases hg : g = h.fn
  · rw [NoPartyWait, hg, fdAnswer_running]
    exact fun _ _ _ _ _ _ _ _ => nofun
  · rw [NoPartyWait, fdAnswer_fd_ne hg]
    exact hn g

/-- The state without a context. -/
def withoutParty (n : Nat) (s : State) : State := modColl (fun c => { c with parties := mdel c.parties n }) s

theorem partyDestroy_completes {n : Nat} {p : Party} (ht : Takes s h 0x61) (hp : party? s h.fn n = some p) (hidle : partyFlight s n = 0)
    (hnone : ∀ f ∈ s.funcs, NoPartyWait f.2) :
    Completes (.partyDestroy h n) s fun t => t.coll = { s.coll with parties := mdel s.coll.parties n } := by
  have hfuncs : ∀ fn, NoPartyWait (func (withoutParty n s) fn) := func_of_all (s := s) (fun _ _ _ _ _ _ _ _ => nofun) hnone
  refine .of_act (l := answers ++ [.free, .coll]) rfl ht.1 ?_
  rw [frontDesk_takes ht _ rfl, hp]
  dsimp only
  rw [if_neg (not_not_intro hidle), ← withoutParty, retryParties_idle (noPartyWait_fdAnswer hfuncs 0x61 {})]
  rfl

theorem length_partyWords (s : State) (n : Nat) (p : Party) : (partyWords s n p).length = 32 := by simp [partyWords, wordsLe, length_leBytes]

theorem partyQuery_completes {n p a : Nat} {x : Party} (ht : Takes s h 0x62) (hres : badResultAddr s h = false) (ha : h.resultAddr ≠ 0)
    (hp : party? s h.fn n = some x) (hr : resolve s (fdCtx s h 6) h.resultAddr 32 .write = ([{ off := 0, loc := .host p a, len := 32 }], none))
    (hup : (hport s p).st = .up) :
    Completes (.partyQuery h n) s fun t => (∀ o ∈ writesOf s p a (partyWords s n x) true, o ∈ t.out) ∧ t.coll = s.coll := by
  have hOwn : firstBadOf [(badResultAddr s h, 5)] = none := by simp [firstBadOf, hres]
  refine query_completes rfl ht (length_partyWords s n x) ha hr hup ?_
  rw [frontDesk_takes ht _ hOwn, hp]

end

/-- Settles O30: a record is installed by what it reads as, and one without open collectives is removed with its nodes and streams, by either path
(R552 to R555); a context is put in place under a free number and deleted under its own (R683, R685 to R687), and each query is one write to host memory
before the answer (R688). -/
theorem itinerariesAndPartiesComeAndGo : Obligations.ItinerariesAndPartiesComeAndGo := by
  unfold Obligations.ItinerariesAndPartiesComeAndGo
  exact ⟨
    fun _ _ _ _ _ _ ht hr ha hstop hd hit hnew hroom hopen => itineraryInstall_completes ht hr ha hstop hd hit hnew hroom hopen,
    fun _ _ _ ht hin hidle => itineraryRemove_completes ht hin hidle,
    fun _ _ _ _ _ _ ht hres ha hit hr hup => itineraryQuery_completes ht hres ha hit hr hup,
    fun _ _ _ hl hlen hzero hit hnew hroom hopen => itinLoad_completes hl hlen hzero hit hnew hroom hopen,
    fun _ _ hl hin hidle => itinUnload_completes hl hin hidle,
    fun _ _ _ _ _ _ _ _ ht hr hbad hroom => partyCreate_completes ht hr hbad hroom,
    fun _ _ _ _ _ _ _ _ _ _ hl hfn hrun hdue => partyWaitExpired_completes hl hfn hrun hdue,
    fun _ _ _ _ ht hp hidle hnone => partyDestroy_completes ht hp hidle hnone,
    fun _ _ _ _ _ _ ht hres ha hp hr hup => partyQuery_completes ht hres ha hp hr hup⟩

end Sys2Proof.Machine

/-! ## Counters of collectives while records are written and commands end -/

namespace Sys2Proof.Machine

open Sys2Proof

/-- A counter of the transport or of the list engines (0x240000 to 0x25FFFF) that counts the lists of no class (R357): neither a record, nor the end of a
list, nor an entry of a ring counts in it. -/
def Rare (off : Nat) : Prop := 0x240000 ≤ off ∧ off < 0x260000 ∧ off % 64 ≠ 0

/-- A step that leaves a counter. -/
def KeepsCount (off : Nat) (f : State → State) : Prop := ∀ s, counter (f s) off = counter s off

theorem counter_of_cnt {s t : State} (h : t.cnt = s.cnt) (off : Nat) : counter t off = counter s off := by rw [counter, h, counter]

section
variable {off : Nat} (ho : Rare off)
include ho

theorem Rare.bumpBy {x : Nat} (hx : x < 0x240000 ∨ 0x260000 ≤ x) (n : Nat) : KeepsCount off (bumpBy x n) := fun s => by
  obtain ⟨hlo, hhi, -⟩ := ho
  have hne : off ≠ x := by omega
  simp [counter, Machine.bumpBy, hne]

theorem Rare.bump {x : Nat} (hx : 0x260000 ≤ x) : KeepsCount off (bump x) := ho.bumpBy (.inr hx) 1

/-! ### Writes into device memory (R184, R255) -/

theorem Rare.countBlocks {o : Nat} (h : o < 0x100) (f : Nat → Nat) (l : List Nat) : KeepsCount off (countBlocks o f l) := by
  induction l with
  | nil => exact fun _ => rfl
  | cons b l ih =>
    intro s
    refine (ih _).trans ?_
    dsimp only
    split
    · next c hc =>
      have hlt := tierCtl_lt hc
      exact ho.bumpBy (by omega) _ s
    · rfl

theorem Rare.mapTouch (b : Nat) (s : State) : counter (mapTouch s b) off = counter s off := by
  rw [Machine.mapTouch]
  split
  · rfl
  · next c hc =>
    have hlt := tierCtl_lt hc
    dsimp only
    split
    · rfl
    · exact ho.bumpBy (x := 0x210120 + 0x40 * c) (by omega) 1 s

theorem Rare.mapUse (a n : Nat) : KeepsCount off (mapUse a n) := by
  have hfold (l : List Nat) (s : State) : counter (l.foldl Machine.mapTouch s) off = counter s off := by
    induction l generalizing s with
    | nil => rfl
    | cons b l ih => exact (ih _).trans (ho.mapTouch b s)
  exact fun s => hfold (blocksOf a n) s

theorem Rare.devWrite (a : Nat) (d : List Byte) : KeepsCount off (devWrite a d) := fun s =>
  ((ho.countBlocks (o := 0x18) (by decide) (fun _ => 1) (zeroFills s.mem a d.length) _).trans
    (ho.countBlocks (o := 8) (by decide) (bytesIn a d.length) (blocksOf a d.length) _)).trans (ho.mapUse a d.length s)

theorem Rare.locWrite (l : Loc) (d : List Byte) : KeepsCount off (locWrite l d) := fun s => by
  cases l with
  | host p a => rfl
  | dev a =>
    refine (ho.devWrite a d _).trans ?_
    rw [resolveLines]
    split
    · rfl
    · rfl

theorem Rare.putUnits (d : List Byte) (ls : List Loc) (s : State) : counter (putUnits d s ls) off = counter s off := by
  induction ls generalizing d s with
  | nil => rfl
  | cons l ls ih => exact (ih _ _).trans (ho.locWrite l _ s)

theorem Rare.tryPut {s t : State} {fn : Nat} {q : Queue} {d : List Byte} (h : tryPut s fn q d = .ok t) : counter t off = counter s off := by
  rw [Machine.tryPut] at h
  split at h
  · cases h
  · split at h
    · cases h
    · cases h
      exact ho.putUnits d _ s

/-! ### Records (R961 to R977, R985, R986) -/

theorem Rare.putRecord (fn : Nat) (r : LedgerRec) : KeepsCount off (putRecord fn r) := fun s => by
  have hdrop (t : State) (x : Nat) (hx : 0x260000 ≤ x) : counter (raise 12 1 (Machine.bump x t)) off = counter t off :=
    (counter_of_cnt (raise_cnt _ 12 1) off).trans (ho.bump hx t)
  rw [Machine.putRecord]
  split
  · exact hdrop s _ (by decide)
  · dsimp only
    split
    · split
      · next t hput =>
        have hwrite : counter t off = counter s off := by
          split at hput
          · exact ho.tryPut hput
          · cases hput
        split
        · exact hwrite
        · exact hwrite
      · exact hdrop _ _ (by decide)
      · rfl
      · rfl
    · exact hdrop _ _ (by decide)

/-- The writers of records, and what a unit in FATAL takes down, leave a counter. -/
structure Sinks.KeepCount (k : Sinks) (off : Nat) : Prop where
  inn : ∀ r, KeepsCount off (k.inn r)
  guest : ∀ rm r, KeepsCount off (k.guest rm r)

section
variable {k : Sinks} (hk : k.KeepCount off)
include hk

omit ho in
theorem Sinks.KeepCount.memRecordBy (x : Access) (kind u m a : Nat) (second : Bool) : KeepsCount off (memRecordBy k x kind u m a second) := fun s => by
  simp only [Machine.memRecordBy]
  split
  · exact hk.inn _ s
  · exact (hk.guest _ _ _).trans (hk.inn _ s)

theorem Rare.latchNewBy (hd : ∀ u, KeepsCount off (k.down u)) (x : Access) (kind u m a : Nat) : KeepsCount off (latchNewBy k x kind u m a) := fun s => by
  have hfatal : KeepsCount off (unitFatalBy k u) := fun t => by
    simp only [unitFatalBy]
    refine (hd u _).trans ?_
    split
    · exact hk.inn _ _
    · rfl
  simp only [Machine.latchNewBy]
  split
  · exact hk.memRecordBy x kind u m a false _
  · split
    · exact ((hfatal _).trans (hk.memRecordBy x kind u m a true _)).trans ((counter_of_cnt (raise_cnt _ 12 5) off).trans (ho.bump (by decide) _))
    · rfl

/-- A unit in FATAL answers an access with a record (R975). -/
theorem Rare.meetDead (kind : Nat) (x : Access) (a : Nat) : KeepsCount off (meetBy k kind x (.dead a)) := fun s =>
  (hk.memRecordBy x 4 _ _ a false _).trans (ho.bump (Nat.le_add_right_of_le (by decide)) s)

theorem Rare.meetBy (hd : ∀ u, KeepsCount off (k.down u)) (kind : Nat) (x : Access) (b : Bad) : KeepsCount off (meetBy k kind x b) := fun s => by
  have hline (fresh : Bool) (l : Nat) : counter
      (if lineNew s l fresh = true then
        Machine.latchNewBy k x kind (latchUnit s (l * 64)) (memNo s (l * 64)) (l * 64) (markLine l (Machine.bump (0x440200 + 8 * memNo s (l * 64)) s))
      else memRecordBy k x 4 (latchUnit s (l * 64)) (memNo s (l * 64)) (l * 64) false (Machine.bump (0x440300 + 8 * memNo s (l * 64)) s)) off = counter s off := by
    split
    · exact (ho.latchNewBy hk hd x kind _ _ _ _).trans (ho.bump (Nat.le_add_right_of_le (by decide)) s)
    · exact (hk.memRecordBy x 4 _ _ _ false _).trans (ho.bump (Nat.le_add_right_of_le (by decide)) s)
  cases b with
  | absent a =>
    simp only [Machine.meetBy]
    split
    · exact hk.inn _ s
    · exact (hk.guest _ _ _).trans (hk.inn _ s)
  | dead a => exact ho.meetDead hk kind x a s
  | repeated l =>
    simp only [Machine.meetBy]
    exact hline false l
  | map a =>
    simp only [Machine.meetBy]
    split
    · refine ((ho.latchNewBy hk hd _ 7 _ _ a _).trans (counter_of_cnt (raise_cnt _ 1 2) off)).trans ?_
      exact (counter_of_cnt (by rw [loseWord]) off).trans (ho.bump (Nat.le_add_right_of_le (by decide)) s)
    · rfl
  | fresh l =>
    simp only [Machine.meetBy]
    exact hline true l

end

section
variable {put : Nat → LedgerRec → State → State} (hp : ∀ fn r, KeepsCount off (put fn r))
include hp

omit ho in
theorem keepsCount_innBy (r : LedgerRec) : KeepsCount off (innBy put r) := fun s => by
  simp only [innBy]
  split
  · exact hp _ _ s
  · exact hp _ _ s

theorem Rare.meetRing (code fn object : Nat) (e : Option RingErr) : KeepsCount off (meetRing put code fn object e) := fun s => by
  rw [meetRing.eq_def]
  split
  · split
    · exact hp _ _ s
    · rfl
  · exact ho.meetBy ⟨keepsCount_innBy hp, fun rm r s => hp _ _ s⟩ (fun _ _ => rfl) 3 _ _ s
  · exact keepsCount_innBy hp _ s
  · rfl

end

theorem Rare.putLedgerN (n fn : Nat) (r : LedgerRec) : KeepsCount off (putLedgerN n fn r) := by
  induction n generalizing fn r with
  | zero => exact ho.putRecord fn r
  | succ n ih =>
    intro s
    rw [Machine.putLedgerN]
    split
    · exact ho.putRecord fn r s
    · split
      · exact (ho.meetRing ih _ _ _ _ _).trans (ho.putRecord fn r s)
      · exact ho.putRecord fn r s

theorem Rare.putLedger (fn : Nat) (r : LedgerRec) : KeepsCount off (putLedger fn r) := ho.putLedgerN 2 fn r

theorem Rare.ledgerInn (r : LedgerRec) : KeepsCount off (ledgerInn r) := fun s => keepsCount_innBy ho.putLedger r s

theorem Rare.ledgerRoom (rm : Nat) (r : LedgerRec) : KeepsCount off (ledgerRoom rm r) := fun s => ho.putLedger _ _ s

/-! ### Events of queues, and completions (R319 to R325, R342) -/

/-- The entry of a ring that holds nothing back, or that is held back. -/
theorem Rare.tryPut_if {s t : State} {p : Prop} [Decidable p] {fn : Nat} {q : Queue} {d : List Byte}
    (h : (if p then Machine.tryPut s fn q d else .error 1) = .ok t) : counter t off = counter s off := by
  split at h
  · exact ho.tryPut h
  · cases h

omit ho in
/-- A message, where it goes out, counts nothing. -/
theorem counter_ite_msix (b : Bool) (fn v : Nat) (s : State) : counter (if b = true then msix fn v s else s) off = counter s off := by
  cases b <;> rfl

theorem Rare.putEqN (k fn eq : Nat) (d : List Byte) : KeepsCount off (putEqN k fn eq d) := by
  induction k generalizing eq d with
  | zero => exact fun _ => rfl
  | succ k ih =>
    intro s
    simp only [Machine.putEqN]
    split
    · split
      · next hput =>
        have hwrite := ho.tryPut_if hput
        exact (counter_ite_msix _ _ _ _).trans hwrite
      · rfl
      · rfl
      · have hmet (object : Nat) (f : Queue → Queue) (e : Option RingErr) :
            counter (Machine.meetRing Machine.putLedger 4 fn object e (modQueue fn eq f s)) off = counter s off :=
          ho.meetRing ho.putLedger 4 fn object e _
        split
        · exact hmet _ _ _
        · exact (ih _ _ _).trans (hmet _ _ _)
    · split
      · rfl
      · rfl

theorem Rare.qEvent (fn q ev object d0 d1 : Nat) : KeepsCount off (qEvent fn q ev object d0 d1) := fun s => by
  refine (counter_of_cnt (ledgerOnly_cnt s _) off).trans ?_
  split
  · rfl
  · exact ho.putEqN _ fn _ _ s

theorem Rare.qStop (fn q index detail : Nat) : KeepsCount off (qStop fn q index detail) := fun _ => ho.qEvent fn q 1 q _ 0 _

theorem Rare.putCq (fn cq : Nat) (d : List Byte) : KeepsCount off (putCq fn cq d) := fun s => by
  simp only [Machine.putCq]
  split
  · rfl
  · rfl
  · split
    · rfl
    · split
      · next hput =>
        have hwrite := ho.tryPut hput
        exact (counter_ite_msix _ _ _ _).trans hwrite
      · exact ho.qEvent _ _ _ _ _ _ _
      · rfl
      · exact (ho.meetRing ho.putLedger _ _ _ _ _).trans (ho.qStop _ _ _ _ _)
  · rfl

theorem Rare.complete (fn : Nat) (x : Compl) : KeepsCount off (complete fn x) := fun s => ho.putCq _ _ _ s

end

end Sys2Proof.Machine

/-! ## What collectives keep while commands of lists end -/

namespace Sys2Proof.Machine

open Sys2Proof

/-- From s to t the collective engine and a counter stay, and a lantern at FAULT stays at FAULT. -/
structure Spares (off rm l : Nat) (s t : State) : Prop where
  coll : t.coll = s.coll
  count : counter t off = counter s off
  fault : (lantern s rm l).fault = true → (lantern t rm l).fault = true

section
variable {off rm l : Nat} {s t u : State}

theorem Spares.refl (off rm l : Nat) (s : State) : Spares off rm l s s := ⟨rfl, rfl, id⟩

theorem Spares.trans (h : Spares off rm l s t) (h' : Spares off rm l t u) : Spares off rm l s u :=
  ⟨h'.coll.trans h.coll, h'.count.trans h.count, fun hf => h'.fault (h.fault hf)⟩

theorem Spares.of_count (hc : t.coll = s.coll) (hn : counter t off = counter s off) (hr : t.rooms = s.rooms) : Spares off rm l s t :=
  ⟨hc, hn, fun hf => by rwa [lantern, room, hr, ← room, ← lantern]⟩

theorem Spares.of_parts (hc : t.coll = s.coll) (hn : t.cnt = s.cnt) (hr : t.rooms = s.rooms) : Spares off rm l s t :=
  .of_count hc (counter_of_cnt hn off) hr

/-- A run of steps that spare the collectives. -/
theorem Spares.foldl {α : Type} {f : State → α → State} (hf : ∀ u x, Spares off rm l u (f u x)) (xs : List α) (s : State) :
    Spares off rm l s (xs.foldl f s) := by
  induction xs generalizing s with
  | nil => exact .refl off rm l s
  | cons x xs ih => exact (hf s x).trans (ih _)

/-! ### Lanterns (R353, R358) -/

theorem spares_modLantern (off rm l : Nat) (r k : Nat) {f : Lantern → Lantern} (hf : ∀ x, x.fault = true → (f x).fault = true) (s : State) :
    Spares off rm l s (modLantern r k f s) := by
  rw [modLantern]
  split
  · exact .refl off rm l s
  · refine ⟨rfl, rfl, fun hfault => ?_⟩
    by_cases hsame : rm = r ∧ l = k
    · obtain ⟨rfl, rfl⟩ := hsame
      by_cases hq : l < (room s rm).quotas.lantern
      · rw [lantern_modLanternReg f hq]
        exact hf _ hfault
      · rwa [lantern, modLanternReg, room_modRoom, if_neg hq, ← lantern]
    · rwa [lantern_modLanternReg_ne f (by omega)]

theorem spares_lanternAdd (off rm l : Nat) (r k n : Nat) (s : State) : Spares off rm l s (lanternAdd r k n s) :=
  spares_modLantern off rm l r k (f := fun x => { x with count := x.count + BitVec.ofNat 32 n }) (fun _ h => h) s

theorem spares_lanternFault (off rm l : Nat) (r k : Nat) (s : State) : Spares off rm l s (lanternFault r k s) :=
  spares_modLantern off rm l r k (f := fun x => { x with fault := true }) (fun _ _ => rfl) s

/-! ### The end of a member, in its steps (R590) -/

/-- The state without the record of a member (R590, R558). -/
def withoutMember (m : Member) (s : State) : State :=
  let held := fun (x : Member) => x.phase == 0 && x.ctx == m.ctx && x.isBulk && x.bulk.itin == m.bulk.itin
  let t := modColl (fun c => { c with
    members := (c.members.filter (fun x => x.id != m.id)).map (fun x => if held x then x.restart s else x) }) s
  { t with tide := { t.tide with waits := t.tide.waits.filter (fun w => !(w.start && w.coll == m.id)) } }

/-- The list of a member's command goes on with the command's completion (R590). -/
def endMemberCmd (m : Member) (e : CEnd) (s : State) : State :=
  if m.silent then s
  else
    match findList s m.h.fn m.h.queue m.h.list with
    | none => s
    | some r => endCmd m.h m.op { r with st := .woken, tile := none, cur := none, waitMet := true } e
        (setList { r with st := .woken, tile := none, cur := none, waitMet := true } s)

theorem memberDone_eq (m : Member) (e : CEnd) (s : State) : memberDone m e s = endMemberCmd m e
    (slotFreed (if !m.silent && decide (e.flags / 4 % 2 = 1) then bump 0x250178 (withoutMember m s) else withoutMember m s)) := rfl

/-! ### Commands as they end (R337, R342, R347, R358) -/

variable (ho : Rare off)
include ho

theorem Rare.spares_writeCompl (rm l : Nat) (h : CmdHdr) (op : Nat) (e : CEnd) (s : State) : Spares off rm l s (writeCompl h op e s) :=
  .of_count rfl (ho.complete _ _ s) rfl

theorem Rare.spares_endList (rm l : Nat) (h : CmdHdr) (r : ListRec) (s : State) : Spares off rm l s (endList h r s) := by
  refine .of_count rfl ?_ rfl
  obtain ⟨-, -, hclass⟩ := ho
  exact counter_bump_ne (by omega) (dropList h.fn h.queue h.list s)

theorem Rare.spares_failCmd (rm l : Nat) (h : CmdHdr) (op : Nat) (r : ListRec) (e : CEnd) (s : State) : Spares off rm l s (failCmd h op r e s) := by
  have hfaults : Spares off rm l s (faultSignals r.room r h (writeCompl h op { e with flags := e.flags ||| r.flags } s)) :=
    ((ho.spares_writeCompl rm l h op _ s).trans (spares_lanternFault off rm l _ _ _)).trans (.foldl (fun u _ => spares_lanternFault off rm l _ _ u) _ _)
  rw [failCmd]
  split
  · exact hfaults.trans (ho.spares_endList rm l h r _)
  · exact hfaults.trans (.of_parts rfl rfl rfl)

omit ho in
theorem spares_bodyDone (off rm l : Nat) (r : ListRec) (s : State) : Spares off rm l s (bodyDone r s) := by
  rw [bodyDone]
  split
  · exact .refl off rm l s
  · split
    · exact .of_parts rfl rfl rfl
    · exact spares_lanternAdd off rm l _ _ _ s

theorem Rare.spares_okCmd (rm l : Nat) (h : CmdHdr) (op : Nat) (r : ListRec) (e : CEnd) (s : State) : Spares off rm l s (okCmd h op r e s) := by
  have hcompl : Spares off rm l s (if h.notify || h.fin then writeCompl h op { e with flags := e.flags ||| r.flags } (lanternAdd r.room h.signal 1 s)
      else lanternAdd r.room h.signal 1 s) := by
    split
    · exact (spares_lanternAdd off rm l _ _ _ s).trans (ho.spares_writeCompl rm l h op _ _)
    · exact spares_lanternAdd off rm l _ _ _ s
  rw [okCmd]
  split
  · exact (hcompl.trans (spares_bodyDone off rm l r _)).trans (ho.spares_endList rm l h r _)
  · exact hcompl.trans (.of_parts rfl rfl rfl)

theorem Rare.spares_endCmd (rm l : Nat) (h : CmdHdr) (op : Nat) (r : ListRec) (e : CEnd) (s : State) : Spares off rm l s (endCmd h op r e s) := by
  rw [endCmd]
  split
  · exact .refl off rm l s
  · split
    · exact .refl off rm l s
    · split
      · exact ho.spares_endList rm l h r s
      · split
        · exact (ho.spares_endList rm l h r s).trans (.of_count rfl (ho.qStop _ _ _ _ _) rfl)
        · split
          · exact ho.spares_failCmd rm l h op r e s
          · split
            · split
              · exact ho.spares_okCmd rm l h op r _ s
              · exact .of_parts rfl rfl rfl
            · exact ho.spares_okCmd rm l h op r e s

/-! ### Waits on tide time (R105, R107) -/

theorem Rare.spares_wakeTimed (rm l fn q k flags : Nat) (s : State) : Spares off rm l s (wakeTimed fn q k flags s) := by
  rw [wakeTimed]
  split
  · split
    · refine .trans ?_ (ho.spares_endCmd rm l _ _ _ _ _)
      exact .of_parts rfl rfl rfl
    · exact .refl off rm l s
  · exact .refl off rm l s

theorem Rare.spares_serveHeld (rm l k : Nat) (s : State) : Spares off rm l s (serveHeld k s) := by
  induction k generalizing s with
  | zero => exact .refl off rm l s
  | succ k ih =>
    rw [serveHeld]
    split
    · exact .refl off rm l s
    · split
      · exact .refl off rm l s
      · next w _ =>
        refine .trans ?_ (ih _)
        split
        · exact .of_parts rfl rfl rfl
        · exact .trans (t := modTide (fun t => { t with waits := t.waits.filter (fun x => x.id != w.id) }) s) (.of_parts rfl rfl rfl)
            (ho.spares_wakeTimed rm l _ _ _ _ _)

theorem Rare.spares_slotFreed (rm l : Nat) (s : State) : Spares off rm l s (slotFreed s) := ho.spares_serveHeld rm l _ s

/-! ### Members as they end (R590) -/

theorem Rare.spares_endMemberCmd (rm l : Nat) (m : Member) (e : CEnd) (s : State) : Spares off rm l s (endMemberCmd m e s) := by
  rw [endMemberCmd]
  split
  · exact .refl off rm l _
  · split
    · exact .refl off rm l _
    · refine .trans ?_ (ho.spares_endCmd rm l _ _ _ _ _)
      exact .of_parts rfl rfl rfl

/-- Once a member's record has ended, only lists and their queues go on (R590). -/
theorem Rare.spares_memberDone (hne : off ≠ 0x250178) (rm l : Nat) (m : Member) (e : CEnd) (s : State) :
    Spares off rm l (withoutMember m s) (memberDone m e s) := by
  rw [memberDone_eq]
  refine (Spares.trans ?_ (ho.spares_slotFreed rm l _)).trans (ho.spares_endMemberCmd rm l m e _)
  split
  · exact .of_count rfl (counter_bump_ne hne _) rfl
  · exact .refl off rm l _

end

end Sys2Proof.Machine

/-! ## What sending on a stream changes (R563, R564, R698) -/

namespace Sys2Proof.Machine

open Sys2Proof

/-- What a stream has of its receiver: sending on it changes none of this. -/
structure SameReceiver (q q' : Qp) : Prop where
  st : q'.st = q.st
  roce : q'.roce = q.roce
  cumPsn : q'.cumPsn = q.cumPsn
  bitmap : q'.bitmap = q.bitmap
  msgs : q'.msgs = q.msgs

theorem SameReceiver.refl (q : Qp) : SameReceiver q q := ⟨rfl, rfl, rfl, rfl, rfl⟩

/-- From s to t only streams change, and those that are open keep what they have of their receiver. -/
structure SendsOnly (s t : State) : Prop where
  rest : t = { s with qps := t.qps }
  kept : ∀ k, (qp s k).st ≠ .free → SameReceiver (qp s k) (qp t k)

section
variable {s t u : State}

theorem SendsOnly.refl (s : State) : SendsOnly s s := ⟨rfl, fun _ _ => .refl _⟩

theorem SendsOnly.trans (h : SendsOnly s t) (h' : SendsOnly t u) : SendsOnly s u := by
  refine ⟨?_, fun k hk => ?_⟩
  · rw [h'.rest, h.rest]
  · have hst := h.kept k hk
    have htu := h'.kept k (by rw [hst.st]; exact hk)
    exact ⟨htu.st.trans hst.st, htu.roce.trans hst.roce, htu.cumPsn.trans hst.cumPsn, htu.bitmap.trans hst.bitmap, htu.msgs.trans hst.msgs⟩

theorem SendsOnly.foldl {α : Type} {f : State → α → State} (hf : ∀ u x, SendsOnly u (f u x)) (xs : List α) (s : State) : SendsOnly s (xs.foldl f s) := by
  induction xs generalizing s with
  | nil => exact .refl s
  | cons x xs ih => exact (hf s x).trans (ih _)

/-- A run of sends that counts what it has sent. -/
theorem SendsOnly.foldl_snd {α β : Type} {f : β × State → α → β × State} (hf : ∀ a x, SendsOnly a.2 (f a x).2) (xs : List α) (a : β × State) :
    SendsOnly a.2 (xs.foldl f a).2 := by
  induction xs generalizing a with
  | nil => exact .refl a.2
  | cons x xs ih => exact (hf a x).trans (ih _)

theorem SendsOnly.coll (h : SendsOnly s t) : t.coll = s.coll := by rw [h.rest]
theorem SendsOnly.cnt (h : SendsOnly s t) : t.cnt = s.cnt := by rw [h.rest]
theorem SendsOnly.rooms (h : SendsOnly s t) : t.rooms = s.rooms := by rw [h.rest]
theorem SendsOnly.mem (h : SendsOnly s t) : t.mem = s.mem := by rw [h.rest]
theorem SendsOnly.errs (h : SendsOnly s t) : t.errs = s.errs := by rw [h.rest]

theorem Spares.of_sends {off rm l : Nat} (h : SendsOnly s t) : Spares off rm l s t := .of_parts h.coll h.cnt h.rooms

/-- A change of a stream's record that leaves its receiver. -/
theorem sendsOnly_modQp (k : Nat) {f : Qp → Qp} (hf : ∀ q, SameReceiver q (f q)) (s : State) : SendsOnly s (modQp k f s) := by
  refine ⟨rfl, fun j _ => ?_⟩
  by_cases hj : j = k
  · rw [hj, qp_modQp]
    exact hf _
  · rw [qp_modQp_ne hj]
    exact .refl _

end

theorem sendsOnly_streamQueue (key : Nat) (k : Pkt) (s : State) : SendsOnly s (streamQueue key k s) :=
  sendsOnly_modQp key (f := fun q => { q with outq := q.outq ++ [k] }) (fun _ => ⟨rfl, rfl, rfl, rfl, rfl⟩) s

theorem sendsOnly_streamMsn (key : Nat) (s : State) : SendsOnly s (streamMsn key s).2 :=
  sendsOnly_modQp key (f := fun q => { q with nextMsn := q.nextMsn + 1 }) (fun _ => ⟨rfl, rfl, rfl, rfl, rfl⟩) s

theorem sendsOnly_openStream (it : Itin) (peer epoch num : Nat) (s : State) : SendsOnly s (openStream it peer epoch num s) := by
  simp only [openStream]
  split
  · next hfree =>
    refine ⟨rfl, fun k hk => ?_⟩
    have hne : k ≠ streamKey peer epoch num := fun h => hk (h ▸ hfree)
    have hsame : mget (mset s.qps (streamKey peer epoch num) (newStream s it peer epoch num)) k {} = qp s k := by simp [hne, qp]
    exact hsame ▸ .refl _
  · exact .refl s

theorem sendsOnly_streamSend (it : Itin) (peer epoch num op : Nat) (ext : CollExt) (payload : List Byte) (s : State) :
    SendsOnly s (streamSend it peer epoch num op ext payload s) := by
  simp only [streamSend]
  exact ((sendsOnly_openStream it peer epoch num s).trans (sendsOnly_streamMsn _ _)).trans (.foldl (fun u x => sendsOnly_streamQueue _ _ u) _ _)

/-- A message of a round goes to its peer's stream (R698). -/
theorem sendsOnly_sendRound (it : Itin) (ctrl gen peer op : Nat) (down : Bool) (ext : CollExt) (runs : List (List (List Byte))) (s : State) :
    SendsOnly s (sendRound it ctrl gen peer op down ext runs s) := by
  refine SendsOnly.foldl_snd (fun a run => ?_) runs (0, s)
  exact ((sendsOnly_openStream it peer gen _ a.2).trans (sendsOnly_streamMsn _ _)).trans (sendsOnly_streamQueue _ _ _)

end Sys2Proof.Machine

/-! ## Rounds while no member here takes part, and what settling keeps -/

namespace Sys2Proof.Machine

open Sys2Proof

/-! ### Units in a bank that is in FATAL (R975) -/

/-- Work that holds units waits, or meets units that are down. -/
theorem unitsStop_cases {s : State} {d : Nat} {us : List Nat} {x : DErr} (h : unitsStop s d us = some x) : x = .held ∨ ∃ a, x = .bad (.dead a) := by
  rw [unitsStop] at h
  split at h
  · cases h
    exact .inr ⟨_, rfl⟩
  · split at h
    · cases h
      exact .inl rfl
    · cases h

theorem Rare.sinks_keepCount {off : Nat} (ho : Rare off) : sinks.KeepCount off := ⟨ho.ledgerInn, ho.ledgerRoom⟩

/-- Meeting units that are down writes records. -/
theorem Rare.spares_unitsMeet_dead {off : Nat} (ho : Rare off) (rm l rm' object a : Nat) (s : State) :
    Spares off rm l s (unitsMeet rm' object (.bad (.dead a)) s) :=
  .of_count rfl ((counter_of_cnt rfl off).trans (ho.meetDead ho.sinks_keepCount 3 _ a s)) rfl

/-! ### Alerts (R713, R714) -/

/-- The collective that a round belongs to. -/
def Round.key (r : Round) : Nat × Nat × Nat := (r.tag, r.gen, r.seq)

/-- From s to t collective k may have got rounds, an alert and a call; its members and nodes, what is decided, the lanterns and a counter stay. -/
structure Alerts (off rm l : Nat) (k : Nat × Nat × Nat) (s t : State) : Prop where
  members : t.coll.members = s.coll.members
  nodes : t.coll.nodes = s.coll.nodes
  decided : t.coll.decided = s.coll.decided
  alerted : ∀ x ∈ s.coll.alerted, x ∈ t.coll.alerted
  rounds : ∀ r ∈ t.coll.rounds, r ∈ s.coll.rounds ∨ r.key = k
  count : counter t off = counter s off
  fault : (lantern s rm l).fault = true → (lantern t rm l).fault = true

section
variable {off rm l : Nat} {k : Nat × Nat × Nat} {s t u : State}

theorem Alerts.of_spares (h : Spares off rm l s t) : Alerts off rm l k s t where
  members := by rw [h.coll]
  nodes := by rw [h.coll]
  decided := by rw [h.coll]
  alerted x hx := by rwa [h.coll]
  rounds r hr := by rw [h.coll] at hr; exact .inl hr
  count := h.count
  fault := h.fault

theorem Alerts.refl (off rm l : Nat) (k : Nat × Nat × Nat) (s : State) : Alerts off rm l k s s := .of_spares (.refl off rm l s)

theorem Alerts.of_sends (h : SendsOnly s t) : Alerts off rm l k s t := .of_spares (.of_sends h)

theorem Alerts.trans (h : Alerts off rm l k s t) (h' : Alerts off rm l k t u) : Alerts off rm l k s u where
  members := h'.members.trans h.members
  nodes := h'.nodes.trans h.nodes
  decided := h'.decided.trans h.decided
  alerted x hx := h'.alerted x (h.alerted x hx)
  rounds r hr := (h'.rounds r hr).elim (h.rounds r) .inr
  count := h'.count.trans h.count
  fault hf := h'.fault (h.fault hf)

theorem alerts_setRound (off rm l : Nat) {r : Round} (hr : r.key = k) (s : State) : Alerts off rm l k s (setRound r s) where
  members := rfl
  nodes := rfl
  decided := rfl
  alerted _ hx := hx
  rounds x hx := by
    simp only [setRound, modColl] at hx
    split at hx
    · obtain ⟨y, hy, rfl⟩ := List.mem_map.1 hx
      split
      · exact .inr hr
      · exact .inl hy
    · rcases List.mem_append.1 hx with hx | hx
      · exact .inl hx
      · exact .inr (List.mem_singleton.1 hx ▸ hr)
  count := rfl
  fault hf := hf

end

/-- A fold over the members of a collective that has none here. -/
theorem joinLocals_empty {k : Nat × Nat × Nat} {s : State} (h : membersOf s k = []) (cause : Nat) : joinLocals k cause s = s := by
  rw [joinLocals, h, List.foldl_nil]

theorem membersOf_of_members {s t : State} (h : t.coll.members = s.coll.members) (k : Nat × Nat × Nat) : membersOf t k = membersOf s k := by
  rw [membersOf, h, membersOf]

theorem Alerts.membersOf {off rm l : Nat} {k k' : Nat × Nat × Nat} {s t : State} (h : Alerts off rm l k s t) (hk : membersOf s k' = []) :
    membersOf t k' = [] := (membersOf_of_members h.members k').trans hk

/-- A packet to each child of a control tree. -/
theorem sendsOnly_toChildren (ctrl : Nat) {f : Itin → State → Nat → State} (hf : ∀ it u c, SendsOnly u (f it u c)) (s : State) :
    SendsOnly s (match ctrlTree s ctrl with | some (it, t) => t.children.foldl (f it) s | none => s) := by
  split
  · exact .foldl (fun u c => hf _ u c) _ _
  · exact .refl s

section
variable (off rm l : Nat) {k : Nat × Nat × Nat} {s : State} (hk : membersOf s k = [])
include hk

/-- A call, where the collective has no member: it goes on to the children (R714). -/
theorem alerts_callHere (ctrl cause : Nat) : Alerts off rm l k s (callHere k ctrl cause s) := by
  rw [callHere]
  split
  · exact .refl off rm l k s
  · have hcalled : Alerts off rm l k s (modColl (fun c => { c with called := k :: c.called }) s) :=
      ⟨rfl, rfl, rfl, fun _ hx => hx, fun _ hr => .inl hr, rfl, id⟩
    have hsent : Alerts off rm l k s _ := hcalled.trans (.of_sends (sendsOnly_toChildren ctrl (fun it u c => sendsOnly_sendRound it ctrl k.2.1 c 0x4B true
      { party := k.1, seq := k.2.2, kind := 5, cause := cause } [[]] u) _))
    exact (joinLocals_empty (hsent.membersOf hk) cause).symm ▸ hsent

theorem alerts_callAbort (ctrl cause : Nat) : Alerts off rm l k s (callAbort k ctrl cause s) := by
  rw [callAbort]
  split
  · exact .refl off rm l k s
  · refine .trans ?_ (alerts_callHere off rm l ?_ _ _)
    · exact alerts_setRound off rm l (by rfl) s
    · exact hk

/-- An alert, where the collective has no member (R713, R714). -/
theorem alerts_alert (ctrl cause : Nat) (released : Bool) : Alerts off rm l k s (alert k ctrl cause released s) := by
  rw [alert]
  split
  · exact .refl off rm l k s
  · split
    · exact .refl off rm l k s
    · have halerted : Alerts off rm l k s (modColl (fun c => { c with alerted := k :: c.alerted }) s) :=
        ⟨rfl, rfl, rfl, fun _ hx => List.mem_cons_of_mem _ hx, fun _ hr => .inl hr, rfl, id⟩
      dsimp only
      split
      · exact halerted.trans (alerts_callAbort off rm l (halerted.membersOf hk) _ _)
      · exact halerted.trans (.of_sends (sendsOnly_sendRound _ _ _ _ _ _ _ _ _))

end

/-- A collective that is decided or alerted here takes no further alert (R703, R713). -/
theorem alert_known {k : Nat × Nat × Nat} {s : State} (h : k ∈ s.coll.decided ∨ k ∈ s.coll.alerted) (ctrl cause : Nat) (released : Bool) :
    alert k ctrl cause released s = s := by
  rw [alert, if_pos]
  simpa using h

/-- A round loses its units where no member of its collective is here, or where its collective is known to abort (R592, R975). -/
theorem Rare.alerts_roundUnitsLost {off : Nat} (ho : Rare off) (rm l : Nat) {r : Round} {s : State}
    (h : membersOf s r.key = [] ∨ r.key ∈ s.coll.decided ∨ r.key ∈ s.coll.alerted) : Alerts off rm l r.key s (roundUnitsLost r s) := by
  rw [roundUnitsLost]
  split
  · next x hx =>
    rcases unitsStop_cases hx with rfl | ⟨a, rfl⟩
    · exact .refl off rm l _ s
    · have hlost : Alerts off rm l r.key s (setRound { r with units := [] } (unitsMeet r.pool 0 (.bad (.dead a)) s)) :=
        .trans (.of_spares (ho.spares_unitsMeet_dead rm l _ _ a s)) (alerts_setRound off rm l (by rfl) _)
      rw [if_neg (by simp [DErr.waits])]
      rcases h with hnone | hknown
      · exact hlost.trans (alerts_alert off rm l (hlost.membersOf hnone) _ _ _)
      · exact (alert_known (hknown.imp (hlost.decided ▸ id) (hlost.alerted _)) r.ctrl 5 false).symm ▸ hlost
  · exact .refl off rm l _ s

/-! ### Settling -/

/-- A property that the steps of a pass over the collectives keep: those of its members (D, by number), of its rounds (C) and of its nodes (N). -/
structure Settles (P : State → Prop) (D : Nat → Prop) (C : Round → Prop) (N : Nat → Nat → Prop) : Prop where
  members : ∀ s, P s → ∀ m ∈ s.coll.members, D m.id
  rounds : ∀ s, P s → ∀ r ∈ s.coll.rounds, C r
  nodes : ∀ s, P s → ∀ n ∈ s.coll.nodes, N n.itin n.epoch
  late : ∀ s i, D i → P s → P (memberLate i s)
  lost : ∀ s r, C r → P s → P (roundUnitsLost r s)
  start : ∀ s i, D i → P s → P (memberStart i s)
  step : ∀ s i e, N i e → P s → P (nodeStep i e s)
  write : ∀ s i, D i → P s → P (memberWrite i s)

/-- A fold keeps a property that each of its steps keeps. -/
theorem foldl_keeps {α β : Type} {P : β → Prop} {f : β → α → β} (xs : List α) (hf : ∀ x ∈ xs, ∀ b, P b → P (f b x)) {b : β} (hb : P b) :
    P (xs.foldl f b) := by
  induction xs generalizing b with
  | nil => exact hb
  | cons x xs ih => exact ih (fun y hy => hf y (List.mem_cons_of_mem _ hy)) (hf x List.mem_cons_self b hb)

section
variable {P : State → Prop} {D : Nat → Prop} {C : Round → Prop} {N : Nat → Nat → Prop} (h : Settles P D C N) {s : State}
include h

theorem Settles.settlePass (hs : P s) : P (settlePass s) := by
  have hlate : P (s.coll.members.foldl (fun s m => memberLate m.id s) s) :=
    foldl_keeps _ (fun m hm u hu => h.late u _ (h.members s hs m hm) hu) hs
  have hlost : P (s.coll.rounds.foldl (fun s r => roundUnitsLost r s) (s.coll.members.foldl (fun s m => memberLate m.id s) s)) :=
    foldl_keeps _ (fun r hr u hu => h.lost u r (h.rounds s hs r hr) hu) hlate
  have hstart := foldl_keeps _ (fun m hm u hu => h.start u _ (h.members _ hlost m hm) hu) hlost
  have hstep := foldl_keeps _ (fun n hn u hu => h.step u _ _ (h.nodes _ hstart n hn) hu) hstart
  exact foldl_keeps _ (fun m hm u hu => h.write u _ (h.members _ hstep m hm) hu) hstep

/-- What every step of a pass keeps, settling keeps. -/
theorem Settles.settle (hs : P s) : P (settle s) := by
  have hgo (n : Nat) : ∀ u, P u → P (settleGo n u) := by
    induction n with
    | zero => exact fun _ hu => hu
    | succ n ih => exact fun u hu => ih _ (h.settlePass hu)
  exact hgo _ s hs

end

end Sys2Proof.Machine

/-! ## Timers of collectives (R592, R594, R597, R713, R715, R717) -/

namespace Sys2Proof.Machine

open Sys2Proof

/-- A command of collectives answers with a state that settling reaches. -/
theorem completes_settled {c : Instr} {s : State} {f : State → State} {P Q : State → Prop} {D : Nat → Prop} {C : Round → Prop} {N : Nat → Nat → Prop}
    (hc : exec c s = act collectives (collRow f) s) (hl : Live s) (hs : Settles P D C N) (h : P (f s)) (hq : ∀ t, P t → Q (keep collectives s t)) :
    Completes c s Q := .of_act hc hl (hq _ (hs.settle h))

/-! ### A device on which no bulk collective and no member is left -/

/-- No member and no node is here, a counter stands at n, and the collective k, if one is named, is decided and has no round. -/
structure Idle (off : Nat) (n : Word) (k : Option (Nat × Nat × Nat)) (s : State) : Prop where
  members : s.coll.members = []
  nodes : s.coll.nodes = []
  count : counter s off = n
  decided : ∀ x ∈ k, x ∈ s.coll.decided
  rounds : ∀ x ∈ k, ∀ r ∈ s.coll.rounds, r.key ≠ x

theorem Idle.of_alerts {off rm l : Nat} {n : Word} {k : Option (Nat × Nat × Nat)} {x : Nat × Nat × Nat} {s t : State} (h : Idle off n k s)
    (ha : Alerts off rm l x s t) (hx : ∀ y ∈ k, x ≠ y) : Idle off n k t where
  members := ha.members.trans h.members
  nodes := ha.nodes.trans h.nodes
  count := ha.count.trans h.count
  decided y hy := by
    rw [ha.decided]
    exact h.decided y hy
  rounds y hy r hr := (ha.rounds r hr).elim (h.rounds y hy r) (fun hk => hk ▸ hx y hy)

theorem membersOf_nil {s : State} (h : s.coll.members = []) (k : Nat × Nat × Nat) : membersOf s k = [] := by rw [membersOf, h, List.filter_nil]

/-- Without members and nodes, only rounds are left to settle (R592). -/
theorem Rare.settles_idle {off : Nat} (ho : Rare off) (n : Word) (k : Option (Nat × Nat × Nat)) :
    Settles (Idle off n k) (fun _ => False) (fun r => ∀ x ∈ k, r.key ≠ x) (fun _ _ => False) where
  members s h m hm := by simp [h.members] at hm
  rounds s h r hr x hx := h.rounds x hx r hr
  nodes s h m hm := by simp [h.nodes] at hm
  late _ _ h := h.elim
  lost s r hr h := h.of_alerts (ho.alerts_roundUnitsLost 0 0 (.inl (membersOf_nil h.members _))) hr
  start _ _ h := h.elim
  step _ _ _ h := h.elim
  write _ _ h := h.elim

/-! ### COLL_TIMEOUT (R592, R594, R595) -/

section
variable {s : State} {k : Nat × Nat × Nat} {ctrl : Nat} {it : Itin} {tr : Tree} (off rm l : Nat) (hc : ctrlTree s ctrl = some (it, tr)) (hp : tr.parent ≠ 0xFFFF)
include hc hp

/-- Away from the root an alert goes up, whoever takes part here (R713). -/
theorem alerts_alert_up (cause : Nat) (released : Bool) : Alerts off rm l k s (alert k ctrl cause released s) ∧
    (k ∈ (alert k ctrl cause released s).coll.decided ∨ k ∈ (alert k ctrl cause released s).coll.alerted) := by
  by_cases hknown : k ∈ s.coll.decided ∨ k ∈ s.coll.alerted
  · rw [alert_known hknown]
    exact ⟨.refl off rm l k s, hknown⟩
  · have halert : alert k ctrl cause released s = sendRound it ctrl k.2.1 tr.parent 0x4A false
        { party := k.1, seq := k.2.2, kind := 5, cause := cause, released := released } [[]] (modColl (fun c => { c with alerted := k :: c.alerted }) s) := by
      unfold alert
      rw [if_neg (by simpa using hknown), hc]
      exact if_neg hp
    have hsent := sendsOnly_sendRound it ctrl k.2.1 tr.parent 0x4A false
        { party := k.1, seq := k.2.2, kind := 5, cause := cause, released := released } [[]] (modColl (fun c => { c with alerted := k :: c.alerted }) s)
    rw [halert]
    refine ⟨.trans (t := modColl (fun c => { c with alerted := k :: c.alerted }) s)
      ⟨rfl, rfl, rfl, fun _ hx => List.mem_cons_of_mem _ hx, fun _ hr => .inl hr, rfl, id⟩ (.of_sends hsent), .inr ?_⟩
    rw [hsent.coll]
    exact List.mem_cons_self

end

/-- The one member here is x, which has stopped; its collective is known to abort; no node is here; and a lantern is at FAULT. -/
structure Stopped (x : Member) (rm l : Nat) (s : State) : Prop where
  members : s.coll.members = [x]
  nodes : s.coll.nodes = []
  known : x.key ∈ s.coll.decided ∨ x.key ∈ s.coll.alerted
  fault : (lantern s rm l).fault = true

section
variable {x : Member} {rm l : Nat} {s t : State}

theorem Stopped.member? (h : Stopped x rm l s) : member? s x.id = some x := by simp [Machine.member?, h.members]

theorem Stopped.of_alerts {off : Nat} {k : Nat × Nat × Nat} (h : Stopped x rm l s) (ha : Alerts off rm l k s t) : Stopped x rm l t where
  members := ha.members.trans h.members
  nodes := ha.nodes.trans h.nodes
  known := h.known.imp (ha.decided ▸ id) (ha.alerted _)
  fault := ha.fault h.fault

/-- A START_TIME comes for a member that has stopped: it fires nothing (R109). -/
theorem Stopped.started {w : TimedWait} {off : Nat} (h : Stopped x rm l s) (ho : Rare off) (hx : x.phase = 5) (hw : w.coll = x.id) :
    Stopped x rm l (slotFreed (startFire w s)) := by
  have hstays : startFire w s = s := by
    unfold startFire
    rw [hw, h.member?]
    simp [hx]
  rw [hstays]
  exact h.of_alerts (.of_spares (ho.spares_slotFreed rm l s) (k := x.key))

/-- A stopped member waits for its outcome; what else settles leaves it (R595). -/
theorem Rare.settles_stopped {off : Nat} (ho : Rare off) (hx : x.phase = 5) : Settles (Stopped x rm l) (· = x.id) (fun _ => True) (fun _ _ => False) where
  members s h m hm := by
    rw [h.members, List.mem_singleton] at hm
    rw [hm]
  rounds _ _ _ _ := trivial
  nodes s h m hm := by simp [h.nodes] at hm
  late s i hi h := by
    rw [hi, memberLate]
    split
    · next w hw =>
      have hcoll : w.coll = x.id := by
        have hfound := List.find?_some hw
        simp only [Bool.and_eq_true, beq_iff_eq] at hfound
        exact hfound.1.1.2
      exact Stopped.started ⟨h.members, h.nodes, h.known, h.fault⟩ ho hx hcoll
    · exact h
  lost s r _ h := by
    refine h.of_alerts (ho.alerts_roundUnitsLost rm l ?_)
    by_cases hk : x.key = r.key
    · exact .inr (hk ▸ h.known)
    · exact .inl (by simp [membersOf, h.members, hk])
  start s i hi h := by
    have hidle : memberStart i s = s := by
      unfold memberStart
      rw [hi, h.member?]
      simp [hx]
    rwa [hidle]
  step _ _ _ h := h.elim
  write s i hi h := by
    have hidle : memberWrite i s = s := by
      unfold memberWrite
      rw [hi, h.member?]
      simp [hx]
    rwa [hidle]

end

/-- A member as it is once it has stopped by itself (R595). -/
def Member.stopped (m : Member) (cause : Nat) (s : State) : Member :=
  { m.restart s with phase := 5, cause := lowCause m.cause cause, alerted := true }

section
variable {s : State} {m : Member} {it : Itin} {tr : Tree}

/-- A member of a reduction that is in set-up stops by itself: its chunk lantern is at FAULT, and it alerts (R595, R713). -/
theorem memberAbort_stopped {cause : Nat} (hm : s.coll.members = [m]) (hn : s.coll.nodes = []) (hcls : m.cls = 1) (hphase : m.phase = 1)
    (hc : ctrlTree s m.party.ctrl = some (it, tr)) (hp : tr.parent ≠ 0xFFFF) (hq : m.bulk.chunkLantern < (room s m.room).quotas.lantern)
    (hl : m.bulk.chunkLantern ≠ 0xFFFF) : Stopped (m.stopped cause s) m.room m.bulk.chunkLantern (memberAbort m.id cause s) := by
  have hmember : member? s m.id = some m := by simp [member?, hm]
  have habort : memberAbort m.id cause s = alert m.key m.party.ctrl cause (decide (m.released ≠ 0))
      (modMember m.id (fun m => { m with alerted := true }) (lanternFault m.room m.bulk.chunkLantern (lanternFault m.room m.bulk.expLantern
        (modMember m.id (fun m => { m.restart s with phase := 5, cause := lowCause m.cause cause }) s)))) := by
    unfold memberAbort
    rw [hmember]
    simp [stopMember, hphase, Member.isBulk, hcls]
  have hfaulted (u : State) (hu : (room u m.room).quotas = (room s m.room).quotas) :
      (lantern (lanternFault m.room m.bulk.chunkLantern (lanternFault m.room m.bulk.expLantern u)) m.room m.bulk.chunkLantern).fault = true :=
    lanternFault_faults hl (by rw [lanternFault_quotas, hu]; exact hq)
  have hfaultColl (r k : Nat) (u : State) : (lanternFault r k u).coll = u.coll := (spares_lanternFault 0 0 0 r k u).coll
  rw [habort]
  obtain ⟨halerts, hknown⟩ := alerts_alert_up 0 m.room m.bulk.chunkLantern (k := m.key) (ctrl := m.party.ctrl)
    (s := modMember m.id (fun m => { m with alerted := true }) (lanternFault m.room m.bulk.chunkLantern (lanternFault m.room m.bulk.expLantern
        (modMember m.id (fun m => { m.restart s with phase := 5, cause := lowCause m.cause cause }) s))))
    (by simpa [ctrlTree, itin?, modMember, modColl, hfaultColl] using hc) hp cause (decide (m.released ≠ 0))
  refine ⟨halerts.members.trans ?_, halerts.nodes.trans ?_, hknown, halerts.fault (hfaulted _ rfl)⟩
  · simp [modMember, modColl, hfaultColl, hm, Member.restart, Member.stopped]
  · simp [modMember, modColl, hfaultColl, hn]

end

theorem rare_joins : Rare 0x250258 := ⟨by decide, by decide, by decide⟩
theorem rare_losses : Rare 0x250270 := ⟨by decide, by decide, by decide⟩
theorem rare_frees : Rare 0x250130 := ⟨by decide, by decide, by decide⟩

/-- A member of a reduction whose TIMEOUT passes in set-up stops with cause 6 (R592, R594, R595). -/
theorem collTimeout_completes {s : State} {m : Member} {it : Itin} {tr : Tree} (hl : Live s) (hm : s.coll.members = [m]) (hn : s.coll.nodes = [])
    (hcls : m.cls = 1) (hphase : m.phase = 1) (hdue : reached m.due (elapsed s) = true) (hc : ctrlTree s m.party.ctrl = some (it, tr))
    (hp : tr.parent ≠ 0xFFFF) (hq : m.bulk.chunkLantern < (room s m.room).quotas.lantern) (hlan : m.bulk.chunkLantern ≠ 0xFFFF) :
    Completes (.collTimeout m.id) s fun t =>
      (∃ x, t.coll.members = [x] ∧ x.id = m.id ∧ x.phase = 5 ∧ x.cause = lowCause m.cause 6 ∧ x.alerted = true) ∧
      (lantern t m.room m.bulk.chunkLantern).fault = true := by
  have habort : collTimeout m.id s = memberAbort m.id 6 s := by
    unfold collTimeout
    rw [show member? s m.id = some m by simp [member?, hm]]
    simp [hdue, hphase]
  refine completes_settled (f := collTimeout m.id) rfl hl (rare_joins.settles_stopped rfl) (habort ▸ memberAbort_stopped hm hn hcls hphase hc hp hq hlan) ?_
  exact fun t ht => ⟨⟨m.stopped 6 s, ht.members, rfl, rfl, rfl, rfl⟩, ht.fault⟩

/-! ### ROUND_LOST (R717) -/

theorem roundLost_completes {s : State} {m : Member} (hl : Live s) (hm : s.coll.members = [m]) (hn : s.coll.nodes = []) (hcls : m.cls = 5)
    (hphase : m.phase = 4) (ha : m.alerted = true) (hj : m.joined = false) (hdue : reached m.due (elapsed s) = true) :
    Completes (.roundLost m.id) s fun t => t.coll.members = [] ∧ counter t 0x250270 = counter s 0x250270 + 1 := by
  refine completes_settled (f := roundLost m.id) (P := Idle 0x250270 (counter s 0x250270 + 1) none) rfl hl (rare_losses.settles_idle _ _) ?_
    (fun t ht => ⟨ht.members, ht.count⟩)
  have hlost : roundLost m.id s = memberDone m { status := 0x32, detail := m.flags % 8, bytes := m.done, flags := m.fl + 4 * b2n (m.released != 0) }
      (bump 0x250270 (ledgerRoom m.room { kind := 0x81, severity := 2, object := m.party.tag, d0 := m.seq } s)) := by
    unfold roundLost
    rw [show member? s m.id = some m by simp [member?, hm]]
    simp [hdue, hphase, Member.isBulk, hcls, ha, hj]
  have hcoll (u : State) (hu : u.coll = s.coll) : (withoutMember m u).coll.members = [] ∧ (withoutMember m u).coll.nodes = [] := by
    simp [withoutMember, modColl, hu, hm, hn]
  have hdone := rare_losses.spares_memberDone (by decide) 0 0 m { status := 0x32, detail := m.flags % 8, bytes := m.done, flags := m.fl + 4 * b2n (m.released != 0) }
    (bump 0x250270 (ledgerRoom m.room { kind := 0x81, severity := 2, object := m.party.tag, d0 := m.seq } s))
  obtain ⟨hmembers, hnodes⟩ := hcoll (bump 0x250270 (ledgerRoom m.room { kind := 0x81, severity := 2, object := m.party.tag, d0 := m.seq } s)) (by simp)
  rw [hlost]
  refine ⟨by rw [hdone.coll, hmembers], by rw [hdone.coll, hnodes], hdone.count.trans ?_, by simp, by simp⟩
  exact (counter_bump _ _).trans (by rw [rare_losses.ledgerRoom])

/-! ### NODE_TIMEOUT (R597) -/

theorem nodeTimeout_completes {s : State} {n : CNode} (hl : Live s) (hm : s.coll.members = []) (hn : s.coll.nodes = [n]) (hfin : n.fin = false)
    (hdue : reached n.due (elapsed s) = true) :
    Completes (.nodeTimeout n.itin n.epoch) s fun t => t.coll.nodes = [] ∧ counter t 0x250130 = counter s 0x250130 + 1 := by
  refine completes_settled (f := nodeTimeout n.itin n.epoch) (P := Idle 0x250130 (counter s 0x250130 + 1) none) rfl hl (rare_frees.settles_idle _ _) ?_
    (fun t ht => ⟨ht.nodes, ht.count⟩)
  have hfree : nodeTimeout n.itin n.epoch s = bump 0x250130 (freeNode n.itin n.epoch s) := by
    unfold nodeTimeout
    rw [show node? s n.itin n.epoch = some n by simp [node?, hn]]
    simp [hfin, hdue]
  rw [hfree]
  exact ⟨hm, by simp [freeNode, dropStreams, modColl, hn], counter_bump _ _, by simp, by simp⟩

/-! ### ABORT_JOIN_TIMEOUT (R715) -/

section
variable {s : State} {k : Nat × Nat × Nat}

theorem closeSeq_decided : k ∈ (closeSeq k s).coll.decided := by simp [closeSeq, modColl, keepDecided]

theorem closeSeq_rounds : ∀ r ∈ (closeSeq k s).coll.rounds, r.key ≠ k := by
  intro r hr hkey
  obtain ⟨-, hother⟩ := List.mem_filter.1 hr
  simp [← hkey, Round.key] at hother

section
variable {off : Nat} {n : Word} (hm : s.coll.members = []) (hn : s.coll.nodes = []) (hcount : counter s off = n)
include hm hn hcount

/-- A collective that has no member here is over (R702, R703). -/
theorem idle_closeSeq (f : State → Member → State) : Idle off n (some k) ((membersOf s k).foldl f (closeSeq k s)) := by
  rw [membersOf_nil hm, List.foldl_nil]
  refine ⟨hm, hn, hcount, fun x hx => ?_, fun x hx => ?_⟩
  · obtain rfl := Option.mem_some_iff.1 hx
    exact closeSeq_decided
  · obtain rfl := Option.mem_some_iff.1 hx
    exact closeSeq_rounds

/-- The abort outcome of a collective that has no member here is forwarded (R701, R715). -/
theorem idle_outAbort (ctrl kind cause : Nat) (tainted incomplete : Bool) : Idle off n (some k) (outAbort k ctrl kind cause tainted incomplete s) := by
  have hsent := sendsOnly_toChildren ctrl (fun it u c => sendsOnly_sendRound it ctrl k.2.1 c 0x4C true
    { party := k.1, seq := k.2.2, kind := kind, cause := cause, tainted := tainted, notAll := incomplete } [[]] u) s
  rw [outAbort]
  refine idle_closeSeq ?_ ?_ ?_ _
  · exact (congrArg Colls.members hsent.coll).trans hm
  · exact (congrArg Colls.nodes hsent.coll).trans hn
  · exact (counter_of_cnt hsent.cnt off).trans hcount

end

theorem round?_none (h : ∀ r ∈ s.coll.rounds, r.key ≠ k) (kind : Nat) : round? s k kind = none := by
  rw [round?, List.find?_eq_none]
  intro r hr hmatch
  simp only [Bool.and_eq_true, beq_iff_eq] at hmatch
  obtain ⟨⟨⟨htag, hgen⟩, hseq⟩, -⟩ := hmatch
  exact h r hr (by simp [Round.key, htag, hgen, hseq])

end

theorem joinTimeout_completes {s : State} {tag gen seq : Nat} {r : Round} {it : Itin} {tr : Tree} (hl : Live s) (hm : s.coll.members = [])
    (hn : s.coll.nodes = []) (hr : round? s (tag, gen, seq) 5 = some r) (hc : ctrlTree s r.ctrl = some (it, tr)) (hp : tr.parent = 0xFFFF)
    (hcalled : (tag, gen, seq) ∈ s.coll.called) (hdue : reached r.due (elapsed s) = true) :
    Completes (.abortJoinTimeout tag gen seq) s fun t =>
      (tag, gen, seq) ∈ t.coll.decided ∧ round? t (tag, gen, seq) 5 = none ∧ counter t 0x250258 = counter s 0x250258 + 1 := by
  refine completes_settled (f := joinTimeout (tag, gen, seq)) (P := Idle 0x250258 (counter s 0x250258 + 1) (some (tag, gen, seq))) rfl hl
    (rare_joins.settles_idle _ _) ?_ (fun t ht => ⟨ht.decided _ rfl, round?_none (s := keep collectives s t) (ht.rounds _ rfl) 5, ht.count⟩)
  have hjoin : joinTimeout (tag, gen, seq) s = outAbort (tag, gen, seq) r.ctrl 5 r.cause true true (bump 0x250258 s) := by
    unfold joinTimeout
    rw [hr]
    simp only [hc]
    rw [if_pos (by simp [Tree.isRoot, hp, hcalled, hdue])]
  rw [hjoin]
  exact idle_outAbort (s := bump 0x250258 s) hm hn (counter_bump _ _) r.ctrl 5 r.cause true true

/-- Settles O29: a timer's effect leaves a state in which settling finds nothing that could undo it. -/
theorem collectivesTimeOut : Obligations.CollectivesTimeOut := by
  unfold Obligations.CollectivesTimeOut
  refine ⟨?_, ?_, ?_, ?_⟩
  · rintro s _ m it tr hl hm rfl hn hcls hphase hdue hc hp hq hlan
    exact collTimeout_completes hl hm hn hcls hphase hdue hc hp hq hlan
  · rintro s _ m hl hm rfl hn hcls hphase ha hj hdue
    exact roundLost_completes hl hm hn hcls hphase ha hj hdue
  · intro s n hl hm hn hfin hdue _
    exact nodeTimeout_completes hl hm hn hfin hdue
  · intro s tag gen seq r it tr hl hm hn hr hc hp hcalled hdue
    exact joinTimeout_completes hl hm hn hr hc hp hcalled hdue

end Sys2Proof.Machine

/-! ## Sound memory stays sound while records are written and units are taken -/

namespace Sys2Proof.Machine

open Sys2Proof

section
variable {s : State}

theorem Sound.of_parts (hs : Sound s) {t : State} (hp : t.mem.poison = s.mem.poison) (hu : t.mem.latentUe = s.mem.latentUe)
    (hc : t.mem.latentCe = s.mem.latentCe) (hb : t.mem.badMap = s.mem.badMap) (hf : t.mem.frozen = s.mem.frozen)
    (hl : t.errs.latches = s.errs.latches) : Sound t := by
  simpa [Sound, hp, hu, hc, hb, hf, hl] using hs

/-! ### Writes into rings -/

theorem Sound.devWrite (hs : Sound s) (a : Nat) (d : List Byte) : Sound (devWrite a d s) := hs.memStore rfl rfl

theorem Sound.locWrite (hs : Sound s) (l : Loc) (d : List Byte) : Sound (locWrite l d s) := by
  cases l with
  | host p a => exact hs.of_eq rfl rfl
  | dev a =>
    refine Sound.devWrite (hs.of_eq ?_ ?_) a d
    · rw [resolveLines]
      split
      · rfl
      · rfl
    · rw [resolveLines]
      split
      · rfl
      · rfl

theorem Sound.putUnits (hs : Sound s) (d : List Byte) (ls : List Loc) : Sound (putUnits d s ls) := by
  induction ls generalizing d s with
  | nil => exact hs
  | cons l ls ih => exact ih (hs.locWrite l _) _

theorem Sound.tryPut (hs : Sound s) {t : State} {fn : Nat} {q : Queue} {d : List Byte} (h : tryPut s fn q d = .ok t) : Sound t := by
  rw [Machine.tryPut] at h
  split at h
  · cases h
  · split at h
    · cases h
    · cases h
      exact hs.putUnits d _

theorem Sound.putRecord (hs : Sound s) (fn : Nat) (r : LedgerRec) : Sound (putRecord fn r s) := by
  rw [Machine.putRecord]
  split
  · exact hs.of_eq rfl rfl
  · dsimp only
    split
    · split
      · next t hput =>
        have hwritten : Sound t := by
          split at hput
          · exact hs.tryPut hput
          · cases hput
        split
        · exact hwritten.of_eq rfl rfl
        · exact hwritten.of_eq rfl rfl
      · exact hs.of_eq rfl rfl
      · exact hs.of_eq rfl rfl
      · exact hs.of_eq rfl rfl
    · exact hs.of_eq rfl rfl

/-! ### What a ring in sound memory can fail with -/

/-- In sound memory a write meets only absent addresses (R177). -/
theorem firstBadW_absent (hs : Sound s) {a n : Nat} {b : Bad} (h : firstBadW s a n = some b) : ∃ x, b = .absent x := by
  rw [firstBadW] at h
  split at h
  · cases h
  · simp only [deadAt_sound hs, mapAt_sound hs, hs.1, hs.2.1, sleast, Option.map_none, lowBad] at h
    cases hab : firstAbsent s a n with
    | none => simp [hab] at h
    | some x => exact ⟨x, by simpa [hab, eq_comm] using h⟩

/-- Of the errors of memory, sound memory has only absent addresses. -/
def OnlyAbsent : RingErr → Prop
  | .bad _ b => ∃ x, b = .absent x
  | _ => True

theorem ringAt_onlyAbsent (hs : Sound s) {fn a n : Nat} {e : RingErr} (h : ringAt s fn a .both n = .error e) : OnlyAbsent e := by
  rw [ringAt.eq_def] at h
  split at h
  · cases h; trivial
  · split at h
    · cases h; trivial
    · cases h
    · split at h
      · cases h; trivial
      · split at h
        · cases h; trivial
        · split at h
          · cases h; trivial
          · split at h
            · cases h; trivial
            · split at h
              · next b hbad =>
                cases h
                exact firstBadW_absent hs (by simpa using hbad)
              · cases h

theorem ringSpots_onlyAbsent (hs : Sound s) {fn n : Nat} {q : Queue} {i : BitVec 32} {e : RingErr} (h : ringSpots s fn q i .both n = .error e) :
    OnlyAbsent e := by
  induction n generalizing i with
  | zero => cases h
  | succ n ih =>
    rw [ringSpots] at h
    split at h
    · next hat => cases h; exact ringAt_onlyAbsent hs hat
    · split at h
      · next hrest => cases h; exact ih hrest
      · cases h

theorem ringFail_onlyAbsent (hs : Sound s) {fn n : Nat} {q : Queue} {e : RingErr} (h : ringFail s fn q n = some e) : OnlyAbsent e := by
  rw [ringFail] at h
  split at h
  · cases h
  · split at h
    · cases h
    · next hspots => cases h; exact ringSpots_onlyAbsent hs hspots
    · cases h

/-! ### Records -/

section
variable {put : Nat → LedgerRec → State → State} (hp : ∀ fn r u, Sound u → Sound (put fn r u))
include hp

theorem Sound.innBy (hs : Sound s) (r : LedgerRec) : Sound (innBy put r s) := by
  simp only [Machine.innBy]
  split
  · exact (hp _ _ s hs).of_eq rfl rfl
  · exact hp _ _ s hs

theorem Sound.meetRing (hs : Sound s) (code fn object : Nat) {e : Option RingErr} (he : ∀ x ∈ e, OnlyAbsent x) : Sound (meetRing put code fn object e s) := by
  rw [meetRing.eq_def]
  split
  · split
    · exact hp _ _ s hs
    · exact hs
  · next b =>
    obtain ⟨x, rfl⟩ := he _ rfl
    simp only [meetBy]
    split
    · exact hs.innBy hp _
    · exact hp _ _ _ (hs.innBy hp _)
  · exact hs.innBy hp _
  · exact hs

end

theorem Sound.putLedgerN (hs : Sound s) (n fn : Nat) (r : LedgerRec) : Sound (putLedgerN n fn r s) := by
  induction n generalizing fn r s with
  | zero => exact hs.putRecord fn r
  | succ n ih =>
    rw [Machine.putLedgerN]
    split
    · exact hs.putRecord fn r
    · split
      · exact (hs.putRecord fn r).meetRing (fun fn r u hu => ih hu fn r) 4 fn _ (fun x hx => ringFail_onlyAbsent hs hx)
      · exact hs.putRecord fn r

theorem Sound.ledgerRoom (hs : Sound s) (rm : Nat) (r : LedgerRec) : Sound (ledgerRoom rm r s) := by
  obtain ⟨hpoison, hue, hce, hmap, -, hlatches⟩ := hs.putLedgerN 2 (room s rm).fn { r with time := nowRes s, room := some rm }
  obtain ⟨-, -, -, -, hfrozen, -⟩ := hs
  exact ⟨hpoison, hue, hce, hmap, hfrozen, hlatches⟩

/-! ### Units of the Harbour (R194, R1141) -/

theorem Sound.takeUnits (hs : Sound s) (d n : Nat) : Sound (takeUnits d n s).2 := by
  have hclear (l : List Nat) : ∀ m : DevMem, Sound { s with mem := m } → Sound { s with mem := l.foldl (fun m u => clearBlocks m (unitBlock d u) 16) m } := by
    induction l with
    | nil => exact fun _ h => h
    | cons k l ih =>
      rintro m ⟨h1, h2, h3, h4, h5, h6⟩
      refine ih _ ⟨?_, ?_, ?_, h4, h5, h6⟩
      · exact congrArg _ h1
      · exact congrArg _ h2
      · exact congrArg _ h3
  exact hclear _ _ hs

/-- Asking for units writes at most a waiter and a record (R198, R1141). -/
theorem Sound.askUnits (hs : Sound s) (d pool : Nat) (w : HarbourWait) :
    Sound (askUnits d pool w s).2 ∧ (askUnits d pool w s).2.coll = s.coll ∧ (askUnits d pool w s).2.qps = s.qps := by
  simp only [Machine.askUnits]
  split
  · exact ⟨hs, rfl, rfl⟩
  · split
    · exact ⟨hs, rfl, rfl⟩
    · split
      · refine ⟨(Sound.ledgerRoom (s := raise 1 0 _) ?_ pool { kind := 0x24, d0 := w.units }).of_parts rfl rfl rfl rfl rfl rfl, rfl, rfl⟩
        exact hs.of_parts rfl rfl rfl rfl rfl rfl
      · exact ⟨hs.of_parts rfl rfl rfl rfl rfl rfl, rfl, rfl⟩

/-- What holds of a table's default and of its entries holds of every lookup. -/
theorem mget_of_entries {α : Type} (P : α → Prop) {m : NMap α} {d : α} (hd : P d) (hm : ∀ x ∈ m, P x.2) (k : Nat) : P (mget m k d) := by
  induction m with
  | nil => exact hd
  | cons x m ih =>
    rw [mget]
    split
    · exact hm x List.mem_cons_self
    · exact ih fun y hy => hm y (List.mem_cons_of_mem _ hy)

/-- In sound memory nothing stops work that holds units (R211, R975). -/
theorem unitsStop_sound (hs : Sound s) (d : Nat) (us : List Nat) : unitsStop s d us = none := by
  obtain ⟨-, -, -, -, hfrozen, hlatches⟩ := hs
  have halive (u : Nat) : unitDead s d u = false := by
    have hst := mget_of_entries (fun l : Latch => l.st ≠ 2) (d := {}) (by decide) (fun x hx => by simpa using List.all_eq_true.1 hlatches x hx)
      (16 + 32 * d + unitBank u)
    simpa [unitDead] using hst
  have hnone : us.find? (unitDead s d) = none := List.find?_eq_none.2 fun u _ => by simp [halive u]
  simp [unitsStop, hnone, hfrozen]

theorem roundUnitsLost_sound (hs : Sound s) (r : Round) : roundUnitsLost r s = s := by
  rw [roundUnitsLost, unitsStop_sound hs]

end

end Sys2Proof.Machine

/-! ## A message that arrives stays with its node while everything settles (R564, R572, R582) -/

namespace Sys2Proof.Machine

open Sys2Proof

/-- A node of itinerary i and epoch e that keeps the record x of a message. -/
structure KeepsMsg (i e : Nat) (x : InMsg) (n : CNode) : Prop where
  itin : n.itin = i
  epoch : n.epoch = e
  msg : x ∈ n.msgs

/-- What a node does with its chunks leaves the record of a message that it holds. -/
theorem KeepsMsg.put {i e : Nat} {x : InMsg} {n : CNode} (h : KeepsMsg i e x n) (c : CChunk) : KeepsMsg i e x (n.put c) := ⟨h.itin, h.epoch, h.msg⟩

/-- Memory is sound, no member is here, the one node holds the record x, and the stream `key` has of its receiver what q has, which is open. -/
structure Carries (i e : Nat) (x : InMsg) (key : Nat) (q : Qp) (s : State) : Prop where
  members : s.coll.members = []
  sound : Sound s
  opened : q.st = .ready
  receiver : SameReceiver q (qp s key)
  node : ∃ n, s.coll.nodes = [n] ∧ KeepsMsg i e x n

section
variable {i e : Nat} {x : InMsg} {key : Nat} {q : Qp} {s t : State}

/-! ### What the state's operations leave -/

theorem SameReceiver.trans {q q' q'' : Qp} (h : SameReceiver q q') (h' : SameReceiver q' q'') : SameReceiver q q'' :=
  ⟨h'.st.trans h.st, h'.roce.trans h.roce, h'.cumPsn.trans h.cumPsn, h'.bitmap.trans h.bitmap, h'.msgs.trans h.msgs⟩

/-- A node's record takes the place of the one node's. -/
theorem carries_setNode {n m : CNode} (hm : s.coll.members = []) (hs : Sound s) (ho : q.st = .ready) (hr : SameReceiver q (qp s key))
    (hn : s.coll.nodes = [n]) (hi : n.itin = i) (he : n.epoch = e) (h : KeepsMsg i e x m) : Carries i e x key q (setNode m s) where
  members := hm
  sound := hs.of_eq rfl rfl
  opened := ho
  receiver := hr
  node := ⟨m, by simp [setNode, modColl, hn, hi, he, h.itin, h.epoch], h⟩

variable (h : Carries i e x key q s)
include h

theorem Carries.of_parts (hc : t.coll = s.coll) (hq : t.qps = s.qps) (hs : Sound t) : Carries i e x key q t where
  members := by rw [hc, h.members]
  sound := hs
  opened := h.opened
  receiver := by
    rw [qp, hq]
    exact h.receiver
  node := by
    rw [hc]
    exact h.node

theorem Carries.of_sends (hst : SendsOnly s t) : Carries i e x key q t where
  members := by rw [hst.coll, h.members]
  sound := h.sound.of_eq hst.mem (by rw [hst.errs])
  opened := h.opened
  receiver := h.receiver.trans (hst.kept key (by rw [h.receiver.st, h.opened]; decide))
  node := by
    rw [hst.coll]
    exact h.node

theorem Carries.bumpBy (off n : Nat) : Carries i e x key q (bumpBy off n s) := h.of_parts rfl rfl (h.sound.of_eq rfl rfl)

theorem Carries.takeUnits (d n : Nat) : Carries i e x key q (takeUnits d n s).2 := h.of_parts rfl rfl (h.sound.takeUnits d n)

theorem Carries.askUnits (d pool : Nat) (w : HarbourWait) : Carries i e x key q (askUnits d pool w s).2 := by
  obtain ⟨hsound, hcoll, hqps⟩ := h.sound.askUnits d pool w
  exact h.of_parts hcoll hqps hsound

theorem Carries.setNode {m : CNode} (hm : KeepsMsg i e x m) : Carries i e x key q (setNode m s) := by
  obtain ⟨n, hn, hold⟩ := h.node
  exact carries_setNode h.members h.sound h.opened h.receiver hn hold.itin hold.epoch hm

theorem Carries.setChunk {m : CNode} (hm : KeepsMsg i e x m) (c : CChunk) : Carries i e x key q (setChunk m c s) := h.setNode (hm.put c)

omit h in
theorem Carries.ite {p : Prop} [Decidable p] (hs : Carries i e x key q s) (ht : Carries i e x key q t) : Carries i e x key q (if p then s else t) := by
  split
  · exact hs
  · exact ht

omit h in
/-- A run of steps that keep the message with its node. -/
theorem Carries.foldl {α : Type} {f : State → α → State} (xs : List α) (hf : ∀ u a, Carries i e x key q u → Carries i e x key q (f u a))
    (h : Carries i e x key q s) : Carries i e x key q (xs.foldl f s) := foldl_keeps xs (fun a _ u hu => hf u a hu) h

/-! ### Nodes and their chunks -/

theorem Carries.node? : ∃ n, node? s i e = some n ∧ KeepsMsg i e x n := by
  obtain ⟨n, hn, hold⟩ := h.node
  exact ⟨n, by simp [Machine.node?, hn, hold.itin, hold.epoch], hold⟩

theorem Carries.atNode {f : Itin → CNode → State → State} (hf : ∀ it n, KeepsMsg i e x n → Carries i e x key q (f it n s)) :
    Carries i e x key q (atNode i e f s) := by
  obtain ⟨n, hn, hold⟩ := h.node?
  unfold Machine.atNode
  rw [hn]
  cases itin? s i with
  | none => exact h
  | some it => exact hf it n hold

theorem Carries.atChunk (t k : Nat) {f : Itin → CNode → CChunk → State → State} (hf : ∀ it n c, KeepsMsg i e x n → Carries i e x key q (f it n c s)) :
    Carries i e x key q (atChunk i e t k f s) := h.atNode fun it n hn => by
  cases chunk? n t k with
  | none => exact h
  | some c => exact hf it n c hn

theorem Carries.nodeMembers (i' e' : Nat) : nodeMembers s i' e' = [] := by rw [Machine.nodeMembers, h.members, List.filter_nil]

/-! ### What a node sends -/

theorem Carries.streamSend (it : Itin) (peer epoch num op : Nat) (y : CollExt) (d : List Byte) :
    Carries i e x key q (streamSend it peer epoch num op y d s) := h.of_sends (sendsOnly_streamSend it peer epoch num op y d s)

/-- What goes to the children of a node, one after the other. -/
theorem Carries.sendDown (l : List Nat) (it : Itin) (epoch num op : Nat) (y : CollExt) (d : List Byte) :
    Carries i e x key q (l.foldl (fun s p => Machine.streamSend it p epoch num op y d s) s) :=
  .foldl l (fun _ p hu => hu.streamSend it p epoch num op y d) h

theorem Carries.chunkMsn {n : CNode} (hn : KeepsMsg i e x n) (c : CChunk) (slot k : Nat) : Carries i e x key q (chunkMsn n c slot k s).2 := by
  rw [Machine.chunkMsn]
  split
  · exact h
  · exact (h.of_sends (sendsOnly_streamMsn k s)).setChunk hn _

theorem Carries.chunkPkt (it : Itin) {n : CNode} (hn : KeepsMsg i e x n) (c : CChunk) (peer slot op : Nat) (down : Bool) (off : Nat) (d : List Byte)
    (fin : Option Nat) : Carries i e x key q (chunkPkt it n c peer slot op down off d fin s) :=
  ((h.of_sends (sendsOnly_openStream it peer n.epoch _ s)).chunkMsn hn c slot _).of_sends (sendsOnly_streamQueue _ _ _)

/-! ### What a node does with a chunk (R569 to R576) -/

theorem Carries.expStep (it : Itin) {n : CNode} (hn : KeepsMsg i e x n) (c : CChunk) : Carries i e x key q (expStep it n c s) := by
  simp only [Machine.expStep]
  split
  · exact h
  · split
    · exact h.setChunk hn _
    · exact (h.setChunk hn _).streamSend _ _ _ _ _ _ _

theorem Carries.candStep (t : Nat) : Carries i e x key q (candStep i e t s) := by
  refine h.atNode fun it n hn => h.ite ?_
  exact h.setNode ⟨hn.itin, hn.epoch, hn.msg⟩

theorem Carries.openChunk (t k die pool units : Nat) : Carries i e x key q (openChunk i e t k die pool units s) := by
  refine h.atChunk t k fun it n c hn => ?_
  dsimp only
  split
  · exact h
  · have hopened := (h.takeUnits die units).setChunk hn { c with opened := true, die := die, pool := pool, units := (Machine.takeUnits die units s).1 }
    split
    · exact hopened
    · exact hopened.sendDown _ _ _ _ _ _ _

theorem Carries.openStep (it : Itin) {n : CNode} (hn : KeepsMsg i e x n) (c : CChunk) : Carries i e x key q (openStep it n c s) := by
  simp only [Machine.openStep, hn.itin, hn.epoch]
  split
  · exact h
  · split
    · exact h.openChunk _ _ _ _ _
    · split
      · exact h
      · split
        · exact (h.askUnits _ _ _).openChunk _ _ _ _ _
        · exact h.askUnits _ _ _

theorem Carries.heldStep (it : Itin) (n : CNode) (c : CChunk) : heldStep it n c s = s := by
  rw [Machine.heldStep, h.nodeMembers, List.foldl_nil, ite_self]

theorem Carries.convStep (t k : Nat) : convStep i e t k s = s := by rw [Machine.convStep, h.nodeMembers, List.foldl_nil]

theorem Carries.passStep (t k : Nat) : passStep i e t k s = s := by rw [Machine.passStep, h.nodeMembers, List.foldl_nil]

theorem Carries.sumOne (t k : Nat) : Carries i e x key q (sumOne i e t k s) := by
  refine h.atChunk t k fun it n c hn => ?_
  dsimp only
  split
  · exact h
  · have hsent := h.chunkPkt it hn c (it.tree t).parent 0 0x42 false
    exact (hsent _ _ _).atChunk t k fun _ _ _ hm => (hsent _ _ _).setChunk hm _

theorem Carries.sumStep (t k : Nat) : Carries i e x key q (sumStep i e t k s) :=
  h.atNode fun _ _ _ => .foldl _ (fun _ _ hu => hu.sumOne t k) h

theorem Carries.rootOne (t k j : Nat) : Carries i e x key q (rootOne i e t k j s) := by
  refine h.atChunk t k fun it n c hn => ?_
  dsimp only
  split
  · exact h
  · exact ((h.setChunk hn _).bumpBy _ _).bumpBy _ _

theorem Carries.sendResult (it : Itin) (n : CNode) (c : CChunk) : Carries i e x key q (sendResult it n c s) := h.sendDown _ _ _ _ _ _ _

theorem Carries.rootStep (t k : Nat) : Carries i e x key q (rootStep i e t k s) := by
  refine h.atChunk t k fun it n c _ => ?_
  dsimp only
  split
  · exact h
  · have hranges := Carries.foldl (List.range (n.ranges (it.elems n.count t k))) (fun u j hu => hu.rootOne t k j) h
    refine hranges.atChunk t k fun _ _ _ hm => ?_
    split
    · exact hranges
    · split
      · exact (hranges.setChunk hm _).sendResult _ _ _
      · exact hranges.setChunk hm _

theorem Carries.gatherStep (t k : Nat) : gatherStep i e t k s = s := by
  obtain ⟨n, hn, hold⟩ := h.node?
  unfold Machine.gatherStep Machine.atChunk Machine.atNode
  rw [hn]
  cases itin? s i with
  | none => rfl
  | some it =>
    dsimp only
    cases chunk? n t k with
    | none => rfl
    | some c => simp [rootMember, h.nodeMembers]

theorem Carries.relStep (t k : Nat) : Carries i e x key q (relStep i e t k s) := by
  refine h.atChunk t k fun it n c hn => ?_
  dsimp only
  split
  · exact h
  · split
    · split
      · exact (h.bumpBy _ _).setChunk hn _
      · exact h.setChunk hn _
    · split
      · exact h.setChunk hn _
      · exact h

theorem Carries.chunkGo (t k : Nat) : Carries i e x key q (chunkGo i e t k s) := by
  have hexp := h.atChunk t k fun it _ c hn => h.expStep it hn c
  have hopen := hexp.atChunk t k fun it _ c hn => hexp.openStep it hn c
  have hheld := hopen.atChunk t k (f := Machine.heldStep) fun it n c _ => (hopen.heldStep it n c).symm ▸ hopen
  have hroot := (hheld.sumStep t k).rootStep t k
  rw [Machine.chunkGo, hheld.gatherStep, hheld.convStep, hroot.passStep]
  exact hroot.relStep t k

/-- In sound memory a chunk waits for no unit (R211, R975). -/
theorem Carries.chunkStep (t k : Nat) : Carries i e x key q (chunkStep i e t k s) := by
  rw [Machine.chunkStep]
  split
  · exact h.chunkGo t k
  · rw [unitsStop_sound h.sound]
    exact h.chunkGo t k

/-! ### All that a node does, and settling -/

theorem Carries.finStep : Carries i e x key q (finStep i e s) := by
  refine h.atNode fun it n hn => ?_
  dsimp only
  split
  · exact h
  · exact h.setNode ⟨hn.itin, hn.epoch, hn.msg⟩

/-- The root's candidates of every tree, as far as the window goes. -/
theorem Carries.candSteps : Carries i e x key q (Machine.atNode i e (fun it _ s => (List.range it.trees.length).foldl (fun s t =>
    (List.range it.window).foldl (fun s _ => Machine.candStep i e t s) s) s) s) :=
  h.atNode fun _ _ _ => .foldl _ (fun _ t hu => .foldl _ (fun _ _ hv => hv.candStep t) hu) h

theorem Carries.chunkSteps : Carries i e x key q
    (Machine.atNode i e (fun _ n s => n.chunks.foldl (fun s c => Machine.chunkStep i e c.tree c.chunk s) s) s) :=
  h.atNode fun _ _ _ => .foldl _ (fun _ c hu => hu.chunkStep c.tree c.chunk) h

theorem Carries.nodeStep : Carries i e x key q (nodeStep i e s) := by
  have hchunks := h.candSteps.chunkSteps
  rw [Machine.nodeStep, hchunks.nodeMembers, List.foldl_nil]
  exact hchunks.finStep

omit h in
/-- Settling leaves a message with its node, and the receiver of its stream. -/
theorem settles_carries (i e : Nat) (x : InMsg) (key : Nat) (q : Qp) :
    Settles (Carries i e x key q) (fun _ => False) (fun _ => True) (fun i' e' => i' = i ∧ e' = e) where
  members s h m hm := by simp [h.members] at hm
  rounds _ _ _ _ := trivial
  nodes s h m hm := by
    obtain ⟨n, hn, hold⟩ := h.node
    rw [hn, List.mem_singleton] at hm
    exact hm ▸ ⟨hold.itin, hold.epoch⟩
  late _ _ h := h.elim
  lost s r _ h := (roundUnitsLost_sound h.sound r).symm ▸ h
  start _ _ h := h.elim
  step s i' e' hn h := by
    obtain ⟨rfl, rfl⟩ := hn
    exact h.nodeStep
  write _ _ h := h.elim

end

end Sys2Proof.Machine

/-! ## Packets of bulk collectives (R564, R569 to R573, R595, R597) -/

namespace Sys2Proof.Machine

open Sys2Proof

/-! ### A stream's next packet (R400, R409, R414) -/

/-- The next PSN of a receiver that holds no other moves CUM_PSN past it. -/
theorem mark_next {q : Qp} {psn : BitVec 32} (hr : q.roce = none) (hc : q.cumPsn = psn) (hb : q.bitmap = []) (hm : q.msgs = []) :
    q.mark psn 1 = { q with bitmap := [], cumPsn := psn + 1 } := by
  have hpsn (u : Qp) (hu : u.roce = none) (x : BitVec 32) (n : Nat) : u.after x n = x + BitVec.ofNat 32 n := by simp [Qp.after, Qp.psn, hu]
  simp [Qp.mark, Qp.advance, hpsn, hr, hc, hb, hm]

/-- A packet that has arrived on a stream, as far as its body sees (R400, R756). -/
def arrived (key : Nat) (p : Pkt) (s : State) : State := noteArrival key p (bump 0x240108 s)

/-- A stream of a node is open, and its next packet is p. -/
structure NextOn (key : Nat) (p : Pkt) (s : State) : Prop where
  st : (qp s key).st = .ready
  roce : (qp s key).roce = none
  cumPsn : (qp s key).cumPsn = p.psn
  bitmap : (qp s key).bitmap = []
  msgs : (qp s key).msgs = []

section
variable {s : State} {key : Nat} {p : Pkt}

theorem sendsOnly_noteArrival (key : Nat) (p : Pkt) (s : State) : SendsOnly s (noteArrival key p s) :=
  sendsOnly_modQp key (f := fun q => { q with
    echoPsn := p.psn, echoDelay := BitVec.ofNat 32 s.tide.count.toNat - p.txStamp
    detourSeen := q.detourSeen || p.detour, ecnSeen := q.ecnSeen || p.ce }) (fun _ => ⟨rfl, rfl, rfl, rfl, rfl⟩) s

theorem NextOn.receiver (h : NextOn key p s) : SameReceiver (qp s key) (qp (arrived key p s) key) :=
  (sendsOnly_noteArrival key p (bump 0x240108 s)).kept key (by rw [show qp (bump 0x240108 s) key = qp s key from rfl, h.st]; decide)

/-- A packet that comes next is taken, and recorded if its stream still stands (R409 to R411). -/
theorem NextOn.streamTake (h : NextOn key p s) {body : State → Bool × State} {t : State} (hb : body (arrived key p s) = (true, t))
    (ht : (qp t key).st = .ready) : streamTake key p body s = recordPkt key p 1 t := by
  have hrec := h.receiver
  have hdiff : (qp (arrived key p s) key).diff p.psn (qp (arrived key p s) key).cumPsn = 0 := by
    simp [Qp.diff, hrec.cumPsn, h.cumPsn]
  have hnew : (qp (arrived key p s) key).has p.psn = false := by
    simp [Qp.has, hrec.bitmap, hrec.msgs, h.bitmap, h.msgs]
  unfold Machine.streamTake
  simp only [← arrived.eq_def, hdiff, hnew, hb, ht]
  rfl

end

section
variable {i e : Nat} {x : InMsg} {key : Nat} {q : Qp} {s : State}

theorem Carries.originate (h : Carries i e x key q s) (k : Pkt) : Carries i e x key q (originate k s) := h.of_parts rfl rfl (h.sound.of_eq rfl rfl)

/-- An ACK changes nothing of its stream's receiver (R400). -/
theorem Carries.sendAck (h : Carries i e x key q s) (hr : q.roce = none) : Carries i e x key q (sendAck key s) := by
  have hack := h.of_sends (sendsOnly_modQp key (f := fun q => { q with sinceAck := 0, detourSeen := false, ecnSeen := false })
    (fun _ => ⟨rfl, rfl, rfl, rfl, rfl⟩) s)
  simp only [Machine.sendAck, sendPkt]
  rw [h.receiver.roce.trans hr]
  exact hack.originate _

/-- Recording a packet moves its stream on (R409, R414). -/
theorem Carries.recordPkt (h : Carries i e x key q s) {p : Pkt} (hr : q.roce = none) (hc : q.cumPsn = p.psn) (hb : q.bitmap = []) (hm : q.msgs = []) :
    Carries i e x key { q with bitmap := [], cumPsn := p.psn + 1 } (recordPkt key p 1 s) := by
  have hrec := h.receiver
  have hmark : (qp s key).mark p.psn 1 = { qp s key with bitmap := [], cumPsn := p.psn + 1 } :=
    mark_next (hrec.roce.trans hr) (hrec.cumPsn.trans hc) (hrec.bitmap.trans hb) (hrec.msgs.trans hm)
  have hmarked (due : Word) : Carries i e x key { q with bitmap := [], cumPsn := p.psn + 1 }
      (modQp key (fun q => { q.mark p.psn 1 with sinceAck := q.sinceAck + 1, ackDue := if q.sinceAck = 0 then due else q.ackDue }) s) := by
    refine ⟨h.members, h.sound.of_eq rfl rfl, h.opened, ?_, h.node⟩
    rw [qp_modQp, hmark]
    exact ⟨hrec.st, hrec.roce, rfl, rfl, hrec.msgs⟩
  simp only [Machine.recordPkt]
  refine Carries.ite ?_ (hmarked _)
  exact (hmarked _).sendAck hr

/-! ### A packet joins its message (R572, R582) -/

theorem inMsg_src (n : CNode) (p : Pkt) : (inMsg n p).src = p.srcNode := by
  rw [inMsg]
  cases hfound : n.msgs.find? (fun m => m.src == p.srcNode && m.op == p.opcode && m.tree == p.coll.tree && m.chunk == p.coll.chunk) with
  | none => rfl
  | some m =>
    have hmatch := List.find?_some hfound
    simp only [Bool.and_eq_true, beq_iff_eq] at hmatch
    exact hmatch.1.1.1

theorem inMsg_op (n : CNode) (p : Pkt) : (inMsg n p).op = p.opcode := by
  rw [inMsg]
  cases hfound : n.msgs.find? (fun m => m.src == p.srcNode && m.op == p.opcode && m.tree == p.coll.tree && m.chunk == p.coll.chunk) with
  | none => rfl
  | some m =>
    have hmatch := List.find?_some hfound
    simp only [Bool.and_eq_true, beq_iff_eq] at hmatch
    exact hmatch.1.1.2

/-- The record of a message after one of its packets. -/
structure Joined (p : Pkt) (m : InMsg) : Prop where
  src : m.src = p.srcNode
  op : m.op = p.opcode
  part : mfind m.parts p.coll.offset = some p.payload

/-- A packet that is not its message's last leaves the message open. -/
theorem joined_add {n : CNode} {p : Pkt} (b : Bool) : Joined p { (inMsg n p).add n p with bad := b } :=
  ⟨inMsg_src n p, inMsg_op n p, mfind_mset_self _ _ _⟩

theorem add_open {n : CNode} {p : Pkt} (hl : p.last = false) (hc : (inMsg n p).crc = none) : ((inMsg n p).add n p).crc = none := by
  simp [InMsg.add, hl, hc]

/-- A run of result bytes goes to each child (R573). -/
theorem Carries.packetsDown (h : Carries i e x key q s) (l : List Nat) (t k : Nat) (d : List Byte) (fin : Option Nat) : Carries i e x key q
    (l.foldl (fun s p => Machine.atChunk i e t k (fun it n c s => Machine.chunkPkt it n c p (65536 + p) 0x43 true c.fwd d fin s) s) s) :=
  .foldl l (fun _ p hu => hu.atChunk t k fun it _ c hn => hu.chunkPkt it hn c p (65536 + p) 0x43 true c.fwd d fin) h

theorem Carries.fwdOne (h : Carries i e x key q s) (t k : Nat) (m : InMsg) : Carries i e x key q (fwdOne i e t k m s) := by
  refine h.atChunk t k fun it n c hn => ?_
  split
  · exact h
  · split
    · exact h
    · have hsent := h.packetsDown (it.tree t).children t k
      exact (hsent _ _).atChunk t k fun _ _ _ hn => (hsent _ _).setChunk hn _

/-- A node makes progress where it has no member (R597). -/
theorem Carries.nodeProgress (h : Carries i e x key q s) (whole : Bool) : Carries i e x key q (nodeProgress i e whole s) := by
  refine h.atNode fun it n hn => ?_
  rw [h.nodeMembers, ite_self, List.foldl_nil]
  exact h.setNode ⟨hn.itin, hn.epoch, hn.msg⟩

theorem putInMsg_keeps {m : InMsg} {n : CNode} (hi : n.itin = i) (he : n.epoch = e) : KeepsMsg i e m (putInMsg m true n) :=
  ⟨hi, he, List.mem_append_right _ List.mem_cons_self⟩

/-- A packet that is not its message's last joins it, and the node makes progress (R564, R570, R572, R573, R597). -/
theorem bulkTake_joins {n : CNode} {it : Itin} {p : Pkt} (hit : itin? s i = some it) (hm : s.coll.members = []) (hs : Sound s)
    (hn : s.coll.nodes = [n]) (hi : n.itin = i) (he : n.epoch = e) (ho : q.st = .ready) (hr : SameReceiver q (qp s key)) (hl : p.last = false)
    (hc : (inMsg n p).crc = none) : ∃ m, Joined p m ∧ Carries i e m key q (bulkTake i e false p s) := by
  have hnode : node? s i e = some n := by simp [node?, hn, hi, he]
  have hset (b : Bool) (c : CChunk) : Carries i e { (inMsg n p).add n p with bad := b } key q
      (setNode (putInMsg { (inMsg n p).add n p with bad := b } true (n.put c)) s) :=
    carries_setNode hm hs ho hr hn hi he (putInMsg_keeps hi he)
  have htaken (b : Bool) (c : CChunk) (t k : Nat) (l : List Nat) (u : State) : Carries i e { (inMsg n p).add n p with bad := b } key q
      (if (!InMsg.whole { (inMsg n p).add n p with bad := b }) = true then Machine.nodeProgress i e false
        (if p.opcode = 0x43 then l.foldl (fun s _ => Machine.fwdOne i e t k { (inMsg n p).add n p with bad := b } s)
            (setNode (putInMsg { (inMsg n p).add n p with bad := b } true (n.put c)) s)
          else setNode (putInMsg { (inMsg n p).add n p with bad := b } true (n.put c)) s) else u) := by
    rw [if_pos (by simp [InMsg.whole, add_open hl hc])]
    exact Carries.nodeProgress (Carries.ite (.foldl l (fun _ _ hu => hu.fwdOne t k _) (hset b c)) (hset b c)) false
  unfold Machine.bulkTake Machine.atNode
  rw [hit, hnode]
  simp only [Bool.false_and, Bool.false_eq_true, if_false]
  exact ⟨_, joined_add _, htaken _ _ _ _ _ _⟩

end

/-! ### A bulk packet in its turn (R426, R556, R565, R581) -/

section
variable {s : State} {p : Pkt} {it : Itin} {n : CNode}

theorem openNode_open {i e : Nat} (hit : itin? s i = some it) (hn : node? s i e = some n) (count ctrl : Nat) (force : Bool) :
    openNode i e count ctrl force s = some s := by
  unfold openNode
  rw [hit, hn]
  rfl

theorem openStream_open {peer epoch num : Nat} (h : (qp s (streamKey peer epoch num)).st = .ready) : openStream it peer epoch num s = s := by
  simp [openStream, h]

theorem streamSeal_plain (hit : it.sealed = false) (hp : p.sealed = false) (key : Nat) (marks : Bool) : streamSeal key it marks p s = (some false, s) := by
  simp [streamSeal, hit, hp]

theorem node?_sole {i e : Nat} (hn : s.coll.nodes = [n]) (hi : n.itin = i) (he : n.epoch = e) : node? s i e = some n := by simp [node?, hn, hi, he]

/-- Reduce traffic finds every chunk open for its result (R573). -/
theorem gatherOpen_reduce {i e : Nat} (hn : node? s i e = some n) (hg : n.gather = false) (t k : Nat) : gatherOpen i e t k s = (true, s) := by
  unfold gatherOpen
  rw [hn]
  simp [hg]

/-- The stream of a packet of a bulk collective, by the packet's direction (R563). -/
def edgeKey (p : Pkt) (down : Bool) : Nat := streamKey p.srcNode p.epoch (bulkNum p.coll.itin p.coll.tree down)

/-- What a packet of a bulk collective that is no ABORT does where it is taken. -/
def bulkBody (op : Nat) (p : Pkt) (s : State) : Bool × State :=
  let g := if op = 0x43 then gatherOpen p.coll.itin p.epoch p.coll.tree p.coll.chunk s else (true, s)
  if g.1 then (true, bulkTake p.coll.itin p.epoch false p g.2) else g

theorem bulkBody_reduce (hn : node? s p.coll.itin p.epoch = some n) (hg : n.gather = false) (op : Nat) :
    bulkBody op p s = (true, bulkTake p.coll.itin p.epoch false p s) := by
  simp [bulkBody, gatherOpen_reduce hn hg]

section
variable {op : Nat} {down : Bool} (hturn : StreamTurn s p it (bulkNum p.coll.itin p.coll.tree down)) (hit : itin? s p.coll.itin = some it)
  (hop : p.opcode = op) (ht : p.coll.tree < it.trees.length) (hn : node? s p.coll.itin p.epoch = some n)
include hturn hit hop ht hn

/-- A packet from the peer of its edge comes to what its stream takes, or aborts the node (R426, R556). -/
theorem bulkRx_turn (hedge : (if op = 0x44 then (if down then p.srcNode == (it.tree p.coll.tree).parent else (it.tree p.coll.tree).children.contains p.srcNode)
      else if down then p.srcNode == (it.tree p.coll.tree).parent && p.srcNode != 0xFFFF
      else (it.tree p.coll.tree).children.contains p.srcNode) = true) :
    bulkRx op down p s = if op = 0x44 then nodeAborted p.coll.itin p.epoch p.coll.cause (some (p.coll.tree, p.srcNode)) (bump 0x240108 s)
      else streamTake (edgeKey p down) p (bulkBody op p) s := by
  obtain ⟨-, hok, hreply, hdst, hsrc, hsealed, hplain, hst, -⟩ := hturn
  unfold bulkRx
  dsimp only
  rw [hit]
  dsimp only
  rw [hedge, if_neg (by simp [hok, hop, hreply, ht, hdst, hsrc]), openNode_open hit hn]
  dsimp only
  rw [openStream_open hst, streamSeal_plain hsealed hplain]
  dsimp only
  split
  · rfl
  · rw [if_neg (by simp [hst])]
    rfl

end

/-- A packet that does not complete its message joins it, and its stream moves on (R564, R570, R572, R573). -/
theorem bulkRx_carries {op : Nat} {down : Bool} (hturn : StreamTurn s p it (bulkNum p.coll.itin p.coll.tree down)) (hs : Sound s)
    (hit : itin? s p.coll.itin = some it) (hop : p.opcode = op) (ht : p.coll.tree < it.trees.length) (h44 : op ≠ 0x44)
    (hpeer : if down then p.srcNode = (it.tree p.coll.tree).parent ∧ p.srcNode ≠ 0xFFFF else p.srcNode ∈ (it.tree p.coll.tree).children)
    (hm : s.coll.members = []) (hnodes : s.coll.nodes = [n]) (hi : n.itin = p.coll.itin) (he : n.epoch = p.epoch) (hg : n.gather = false)
    (hl : p.last = false) (hc : (inMsg n p).crc = none) : ∃ m q, Joined p m ∧ q.cumPsn = p.psn + 1 ∧
      Carries p.coll.itin p.epoch m (edgeKey p down) q (bulkRx op down p s) := by
  have hnode := node?_sole hnodes hi he
  have hedge : (if down then p.srcNode == (it.tree p.coll.tree).parent && p.srcNode != 0xFFFF
      else (it.tree p.coll.tree).children.contains p.srcNode) = true := by
    cases down
    · simpa using hpeer
    · simpa using hpeer
  rw [bulkRx_turn hturn hit hop ht hnode ((if_neg h44).trans hedge), if_neg h44]
  obtain ⟨-, -, -, -, -, -, -, hst, hroce, hcum, hbitmap, hmsgs⟩ := hturn
  have hnext : NextOn (edgeKey p down) p s := ⟨hst, hroce, hcum, hbitmap, hmsgs⟩
  obtain ⟨m, hjoined, hcarries⟩ := bulkTake_joins (s := arrived (edgeKey p down) p s)
    hit hm (hs.of_eq rfl rfl) hnodes hi he hst hnext.receiver hl hc
  have hbody : bulkBody op p (arrived (edgeKey p down) p s) =
      (true, bulkTake p.coll.itin p.epoch false p (arrived (edgeKey p down) p s)) :=
    bulkBody_reduce (s := arrived (edgeKey p down) p s) hnode hg op
  rw [hnext.streamTake hbody (hcarries.receiver.st.trans hst)]
  exact ⟨m, _, hjoined, rfl, hcarries.recordPkt hroce hcum hbitmap hmsgs⟩

end

/-! ### ABORT (R595, R597) -/

/-- An ABORT that goes out on an edge counts no packet of a stream as received. -/
theorem spares_sendAbort (rm l : Nat) (it : Itin) (n : CNode) (tree peer : Nat) (down : Bool) (cause : Nat) (s : State) :
    Spares 0x240108 rm l s (sendAbort it n tree peer down cause s) :=
  .trans (.of_sends (sendsOnly_openStream it peer n.epoch _ s))
    (.of_count rfl (sameTransport_originate _ _ 0x240108 (by decide) (by decide)) rfl)

section
variable {s : State} {n : CNode} {it : Itin} {i e : Nat}

/-- A node without members ends its collective, wherever the ABORT came from (R597). -/
theorem idle_nodeAborted (hit : itin? s i = some it) (hm : s.coll.members = []) (hn : s.coll.nodes = [n]) (hi : n.itin = i) (he : n.epoch = e)
    (cause : Nat) (via : Option (Nat × Nat)) : Idle 0x240108 (counter s 0x240108) none (nodeAborted i e cause via s) := by
  have habort : ∃ u, Spares 0x240108 0 0 s u ∧ abortNode i e cause via s = dropStreams (fun _ ep k => k % 2 ^ 16 == i && decide (k < 2 ^ 23) && ep == e)
      (modColl (fun c => { c with nodes := c.nodes.filter (fun x => !(x.itin == i && x.epoch == e)) }) u) := by
    unfold abortNode
    rw [node?_sole hn hi he, hit]
    refine ⟨_, ?_, rfl⟩
    refine .foldl (fun u x => ?_) _ _
    have hedges (l : List (Nat × Bool)) : Spares 0x240108 0 0 u (l.foldl (fun s y => sendAbort it n x.2 y.1 y.2 cause s) u) :=
      .foldl (f := fun v (y : Nat × Bool) => sendAbort it n x.2 y.1 y.2 cause v) (fun v y => spares_sendAbort 0 0 it n x.2 y.1 y.2 cause v) l u
    split
    · split
      · exact .refl _ _ _ u
      · exact hedges _
    · exact hedges _
  obtain ⟨u, hsent, habort⟩ := habort
  have hnone : nodeAborted i e cause via s = abortNode i e cause via s := by rw [nodeAborted, hm]; rfl
  rw [hnone, habort]
  refine ⟨?_, ?_, hsent.count, by simp, by simp⟩
  · exact (congrArg Colls.members hsent.coll).trans hm
  · simp [dropStreams, modColl, hsent.coll, hn, hi, he]

end

theorem rare_packets : Rare 0x240108 := ⟨by decide, by decide, by decide⟩

/-- Settles O27: a packet's message and its stream's receiver are part of what settling keeps, and an ABORT leaves nothing to settle but rounds. -/
theorem chunkPacketsJoinTheirMessages : Obligations.ChunkPacketsJoinTheirMessages := by
  unfold Obligations.ChunkPacketsJoinTheirMessages
  refine ⟨?_, ?_⟩
  · intro s p c op down it n hc hturn hs hit hop ht hpeer hm hnodes hi he hg _ hl hcrc
    have hexec : exec c s = act collectives (collRow (bulkRx op down p)) s ∧ op ≠ 0x44 := by
      simp only [List.mem_cons, List.not_mem_nil, or_false, Prod.mk.injEq] at hc
      obtain ⟨rfl, rfl, rfl⟩ | ⟨rfl, rfl, rfl⟩ | ⟨rfl, rfl, rfl⟩ | ⟨rfl, rfl, rfl⟩ := hc
      · exact ⟨rfl, by decide⟩
      · exact ⟨rfl, by decide⟩
      · exact ⟨rfl, by decide⟩
      · exact ⟨rfl, by decide⟩
    obtain ⟨hexec, h44⟩ := hexec
    obtain ⟨m, q, hjoined, hcum, hcarries⟩ := bulkRx_carries hturn hs hit hop ht h44 hpeer hm hnodes hi he hg hl hcrc
    refine completes_settled hexec hturn.1 (settles_carries _ _ m _ q) hcarries fun t htaken => ⟨htaken.receiver.cumPsn.trans hcum, ?_⟩
    obtain ⟨n', hn', hkeeps⟩ := htaken.node?
    exact ⟨n', m, hn', hkeeps.msg, hjoined.src, hjoined.op.trans hop, hjoined.part⟩
  · intro s p it n hturn hit hop ht hpeer hm hnodes hi he
    have hexec : exec (.abortReceive p) s = act collectives (collRow (bulkRx 0x44 (decide (2 ^ 22 ≤ p.dstQpn % 2 ^ 23)) p)) s := rfl
    refine completes_settled hexec hturn.1 (rare_packets.settles_idle (counter s 0x240108 + 1) none) ?_ (fun t ht => ⟨ht.nodes, ht.count⟩)
    rw [bulkRx_turn hturn hit hop ht (node?_sole hnodes hi he) (by simpa using hpeer), if_pos rfl, ← counter_bump]
    exact idle_nodeAborted (s := bump 0x240108 s) hit hm hnodes hi he p.coll.cause _

end Sys2Proof.Machine

/-! ## An update whose record lies over the chart pool -/

namespace Sys2Proof.Machine

open Sys2Proof Sys2Proof.Tests

/-- Room 0 may run an update, and its chart maps the first GiB of tier 0, in which the chart pool lies (R235). A gradient of 0.25 stands at DPA 0x8000. -/
def chartedPool : State :=
  wMem (leCells 0x8000 4 [0x3E800000]) (wLeaf { wEng 2 with rooms := mmod w0.rooms 0 {} (fun r => { r with resv0 := 64 }) })

/-- A command of the units that an update asks for. -/
def poolHeader : CmdHdr := { wh with units := 9 }

/-- An SGD step of one element, whose record begins at DPA 0x3E000000: its header is the root table of room 0's chart (R236, R606). -/
def poolUpdate : UpdArgs := { count := 1, grad := 2 ^ 63 + 0x8000, base := 2 ^ 63 + 0x3E000000, lr := 0x3A800000 }

theorem begins_poolUpdate : Begins chartedPool poolHeader 0x20 2 (updBad 0x20 poolHeader poolUpdate) 0 := by
  unfold Begins Live
  decide +kernel

theorem sound_chartedPool : Sound chartedPool := by
  unfold Sound
  decide +kernel

/-- The first GiB of the room's addresses is that of tier 0. -/
theorem charted_chartedPool {n d : Nat} (h0 : 0 < n) (hd : d + n ≤ 2 ^ 30) :
    Charted chartedPool (cmdCtx chartedPool poolHeader (listOf chartedPool poolHeader 0)) (2 ^ 63 + d) n d :=
  charted_of d (l := { dpa := 0, write := true, read := true, atomic := true }) rfl rfl rfl (by decide +kernel) rfl hd (by decide +kernel) rfl rfl
    (Nat.zero_add d).symm (by omega) h0

/-- No byte is stored in the page of the header. -/
theorem unstored_header : ∀ k < 4096, cellGet chartedPool.mem.cells (0x3E000000 + k) = 0 := cellGet_out (by decide +kernel)

/-- The state that the update leaves. -/
def poolAfter : State := keep transfers chartedPool (update 0x20 poolHeader poolUpdate chartedPool)

theorem exec_poolUpdate : exec (.updSgd poolHeader poolUpdate) chartedPool = .next poolAfter := act_live begins_poolUpdate.1 _ _

/-- The header reads as the root table, whose first entry, 0x3E001001, points to a level-1 table: it is neither fresh nor one of SGD. The update
completes STATE_MISMATCH and writes nothing (R608, R609), so byte 4 of the header, the first of STEP, holds no 1. -/
theorem step_poolAfter : cellGet poolAfter.mem.cells (0x3E000000 + 4) = 0 := by decide +kernel

/-- Refutes O51: in the first clause a chart may map any of tier 0, extent 0 included, and the header of the record is fresh by the bytes stored there
alone. In the chart pool memory reads as the tables stand, whatever is stored: an update there meets a header that is not fresh, and writes none. -/
theorem not_updatesOfOneElement : ¬ Obligations.UpdatesOfOneElement := by
  unfold Obligations.UpdatesOfOneElement
  rintro ⟨hUpdate, -⟩
  have hBase := charted_chartedPool (n := 16384) (d := 0x3E000000) (by decide) (by decide)
  have hGrad := charted_chartedPool (n := 4) (d := 0x8000) (by decide) (by decide)
  obtain ⟨t, hExec, -, -, -, hHeader, -⟩ := hUpdate chartedPool poolHeader poolUpdate 0 0x20 0x3E000000 0x8000 (.updSgd poolHeader poolUpdate)
    List.mem_cons_self (by unfold Plain; decide +kernel) begins_poolUpdate ⟨by decide +kernel, rfl⟩ sound_chartedPool (by decide +kernel)
    (apart_nil rfl _ _ _) (by decide +kernel) rfl rfl rfl rfl rfl rfl hBase unstored_header hGrad (by decide +kernel) (by decide +kernel)
    (by decide +kernel)
  obtain rfl := Host.Outcome.next.inj (exec_poolUpdate.symm.trans hExec)
  exact absurd (step_poolAfter.symm.trans (hHeader 4 (by decide))) (by decide)

end Sys2Proof.Machine
